-- ==== Sys2Proof/Word.lean ====
section
/-! DEFINITION. The words that the part's registers, packets and frames are made of (R4, R6). -/

namespace Sys2Proof

/-- A byte of a frame, of a record or of memory. -/
abbrev Byte := BitVec 8

/-- A register or packet word (R6, R435). -/
abbrev Word := BitVec 32

/-- A value of a lo/hi pair (R9), and a count of ticks (R15). -/
abbrev DWord := BitVec 64

/-- A string of bytes, first byte first. -/
abbrev Bytes := List Byte

end Sys2Proof
end

