-- ==== Sys2Proof/Syntax.lean ====
section
/-! DEFINITION. The commands that the part takes from outside: seats' accesses and packets, events at its pins, lanes
and memories, and the boundaries of its time, one constructor per row of the operation table. -/

namespace Sys2Proof

/-- A Ulunax command packet as its words spell it (R435), with the seat that sends it. LENGTH is that of the data. -/
structure Packet where
  /-- The seat whose window carries it, or that the in-band frame names. -/
  sender : Fin 4
  opcode : BitVec 8
  flags : BitVec 8
  tag : BitVec 10
  seat : Fin 4
  txn : BitVec 12
  address : Word
  parameter : Word
  data : List Word
deriving DecidableEq, Repr

/-- A PTP message as the engine takes it (R79): ingress port, transport (0 802.3, 1 UDP/IPv4, 2 UDP/IPv6), domain, source
port identity, sequenceId, its timestamp, correctionField in 2⁻¹⁶ ns, byte 1 of its header (R76: minorVersionPTP, then versionPTP),
and its detection: the instant in fine units and the variable part of R52 without the deskew depth (R54). -/
structure PtpMsg where
  port : Fin 512
  transport : Fin 3
  domain : BitVec 8
  srcId : BitVec 64
  srcPort : BitVec 16
  seq : BitVec 16
  sec : BitVec 48
  ns : BitVec 32
  corr : Int
  version : BitVec 8 := 2
  detect : Nat
  var : Nat
deriving DecidableEq, Repr

/-- What the codes of a pipeline's table copies find in the lookups of one frame (R153, R189): a row corrected or uncorrectable, and the
words of the other tables corrected or uncorrectable, each by its table and index (those of replication among them). -/
structure LookupErr where
  rowCorrected : Option Nat := none
  rowLost : Option Nat := none
  corrected : List (Nat × Nat) := []
  lost : List (Nat × Nat) := []
deriving DecidableEq, Repr

/-- What training ended with on a lane (R384, R381): its transmit taps, the precoding agreed for each direction, and its
receive coefficients as one number. -/
structure Trained where
  taps : Word
  precodeRx : Bool
  precodeTx : Bool
  rx : Nat
deriving DecidableEq, Repr

/-- A lane's window of symbols (R394): the means of its slicer input for the four levels and the mean squared deviation, in
one unit and in its square; the receive coefficients now; and what the lane's port saw since its window before: the
partner's offset in ppm, idle blocks inserted and deleted by the elastic buffer, codewords corrected and uncorrectable. -/
structure Window where
  mu0 : Int
  mu1 : Int
  mu2 : Int
  mu3 : Int
  variance : Nat
  rx : Nat
  ppm : BitVec 8 := 0
  inserted : Nat := 0
  deleted : Nat := 0
  corrected : Nat := 0
  uncorrectable : Nat := 0
deriving DecidableEq, Repr

/-- How a frame or message that a port receives is detected (R54): the instant in fine units, and the variable part of R52 without the
deskew depth. -/
structure Arrival where
  detect : Nat
  var : Nat
deriving DecidableEq, Repr

/-- What a Pdelay message tells beside its times (R76, R79): byte 1 of its header, and its sequenceId. -/
structure PdelayMsg where
  version : BitVec 8
  seq : BitVec 16
deriving DecidableEq, Repr

/-- A reference input with its frequency over 1 ms in mHz (R93). -/
structure RefGood where
  input : Fin 3
  freq : Nat
deriving DecidableEq, Repr
/-- A reference input that fails: its frequency, or none when no edge has come for 4 nominal periods (R93). -/
structure RefLoss where
  input : Fin 3
  freq : Option Nat
deriving DecidableEq, Repr

/-- A place of the MAC or host table that the Age Sweeper visits, and whether its word of the hit array has a parity error (R182, R183). -/
structure SweepVisit where
  place : Fin 262208
  hitError : Bool
deriving DecidableEq, Repr

/-- What the buffer's scrubber reads: a cell of a physical bank with its tag word, or a 64-byte unit of the control memory (R216, R219). -/
inductive ScrubWord
  | cell (c : Fin 1048576)
  | control (u : Fin 1048576)
deriving DecidableEq, Repr

/-- What a copy meets as the deterministic input reads it: the egress variable part of R52 at its entry, and a cell found uncorrectable (R216). -/
structure ReadOut where
  var : Nat
  badCell : Option Nat
deriving DecidableEq, Repr
/-- A port's turn at the deterministic input. -/
structure HeldTurn where
  port : Fin 512
  read : ReadOut
deriving DecidableEq, Repr

/-- What block lock reports (R386): markers found in a row, and the lane that carries PCS lane 0. -/
structure PcsLock where
  markers : Nat
  pcs0 : Fin 8
deriving DecidableEq, Repr

/-- What the receiver of a port shows in a tick (R389): the longest run of invalid markers on a lane, a loss of signal, for how many ticks
Local or Remote Fault has been received, and hi_ser. -/
structure LinkLoss where
  badMarkers : Nat
  signalLost : Bool
  faultTicks : Nat
  hiSer : Bool
deriving DecidableEq, Repr

/-- A resting port that is woken, and the egress variable part of R52 (R396). -/
structure PortWake where
  port : Fin 512
  var : Nat
deriving DecidableEq, Repr

/-- The commands of the block, one constructor per row of the operation table, in its order. -/
inductive Instr
  /-- REGISTER_WRITE (R10): A write to a register field with no row of its own; it is applied under its access type and class, or refused. -/
  | registerWrite (seat : Fin 4) (bar0 : Bool) (addr : Word) (value : Word) (mask : Word)
  /-- PAIR_LO_READ (R9): A read of the lo half of a 64-bit pair returns bits [31:0] and captures the hi half into the seat's capture register. -/
  | pairLoRead (seat : Fin 4) (addr : Word)
  /-- PAIR_HI_READ (R9): A read of the hi half of a pair returns the captured value if the seat last read the lo half of the same pair, and otherwise the live hi half. -/
  | pairHiRead (seat : Fin 4) (addr : Word)
  /-- PAIR_LO_WRITE (R9): A write of the lo half of a pair is staged in the seat's staging register, replacing anything staged before. -/
  | pairLoWrite (seat : Fin 4) (addr : Word) (value : Word) (mask : Word)
  /-- PAIR_HI_WRITE (R9): A write of the hi half writes both halves together, using the staged lo half or 0, and empties the seat's staging register. -/
  | pairHiWrite (seat : Fin 4) (addr : Word) (value : Word) (mask : Word)
  /-- RC_READ (R10): A read of an RC field returns its value and clears it, keeping the events of the read's own tick. -/
  | rcRead (seat : Fin 4) (addr : Word)
  /-- CANOPY_TICK (R15): At every tick boundary the Canopy increases by 1 and the voter compares the active counters. -/
  | canopyTick (upsetA : DWord) (upsetB : DWord) (upsetC : DWord)
  /-- FOLLOWER_COMPARE (R21): Every 64 ticks each port-group follower is compared with the voted Canopy. -/
  | followerCompare (bad : BitVec 16)
  /-- REJOIN (R20): Writing REJOIN loads a retired counter with Canopy + 1 and puts it in compare-only mode. -/
  | rejoin (seat : Fin 4) (mask : BitVec 3)
  /-- REJOIN_COMPLETE (R20): After 1,024 consecutive ticks in agreement, a rejoining counter returns to the vote. -/
  | rejoinComplete (counter : Fin 3)
  /-- RATE_WRITE (R44): A write to TIM.RATE by Seat 0 is refused while the servo is enabled, and is otherwise armed for the next boundary. -/
  | rateWrite (seat : Fin 4) (value : Word)
  /-- RATE_APPLY (R24): A Rate change takes effect at a tick boundary, re-anchoring Offset and the anchor; an out-of-range value is clamped. -/
  | rateApply
  /-- STEP_GO (R28): Writing GO latches the staged step target and MODE and arms the step for the next boundary, or is refused. -/
  | stepGo (seat : Fin 4) (relative : Bool)
  /-- EPOCH_CHANGE (R27): At the boundary an armed or servo step is re-checked against the phase and, if it passes, opens a new epoch. -/
  | epochChange
  /-- SNAP_TAKE (R39): Writing TAKE in the seat's own snapshot group clears DONE and requests a snapshot. -/
  | snapTake (seat : Fin 4) (group : Fin 4)
  /-- SNAP_CAPTURE (R39): At the next boundary the Canopy, view and epoch are captured and DONE is set. -/
  | snapCapture (group : Fin 4)
  /-- TIME_BASE_START (R40): After the TPLL has reported lock for 10 us the counters leave reset at Canopy 0, with epoch 0. -/
  | timeBaseStart
  /-- TPLL_UNLOCK (R42): On loss of TPLL lock the TPLL holds its control word, TPLL_UNLOCK is set and a CRITICAL fault is raised. -/
  | tpllUnlock
  /-- INGRESS_START (R71): The start of a frame is detected on a port and the frame is stamped on ingress under R54. -/
  | ingressStart (port : Fin 518) (detect : Nat) (var : Nat) (bytes : Bytes)
  /-- FRAME_END (R406): The end of a received frame completes the receive MAC checks, trailer stripping and any cut-through ending. -/
  | frameEnd (port : Fin 518) (pcsError : Bool) (cutAt : Option Nat) (oddNibble : Bool) (elastic : Bool)
  /-- CAL_GO (R60): Writing CAL_CTRL with GO starts a calibration run on a stopped port, or is refused. -/
  | calGo (seat : Fin 4) (port : Fin 518) (apply : Bool) (count : Fin 16)
  /-- CAL_LOCK_TIMEOUT (R60): A calibration run that does not reach block lock within 10 ms ends with RESULT 1. -/
  | calLockTimeout
  /-- CAL_DONE (R60): A calibration run completes its frames and computes S, then applies or rejects the new delays. -/
  | calDone (sum : Nat) (temp : BitVec 8)
  /-- TEMP_COMP_UPDATE (R62): Every 1 ms the TSU recomputes TEMP_CORR and sets CAL_STALE beyond 15 degrees C. -/
  | tempCompUpdate (port : Fin 512) (temp : BitVec 8)
  /-- SYNC_RECEIVE (R79): An association takes a Sync or Follow_Up and forms an offset measurement. -/
  | syncReceive (m : PtpMsg) (followUp : Bool) (twoStep : Bool)
  /-- DELAY_REQ_SEND (R79): At its Delay_Req interval an E2E association sends a Delay_Req. -/
  | delayReqSend (assoc : Fin 4) (var : Nat)
  /-- DELAY_RESP_RECEIVE (R79): A Delay_Resp is taken and a path-delay sample updates mean_path. -/
  | delayRespReceive (m : PtpMsg)
  /-- PDELAY_EXCHANGE (R81): A Pdelay message is taken on a P2P port, and the engine answers it or updates LINK_DELAY. -/
  | pdelayExchange (port : Fin 512) (isReq : Bool) (msg : PdelayMsg) (turnaround : Int) (corr : Int) (arrival : Arrival)
  /-- MASTER_SYNC_SEND (R81): At its Sync interval a master port sends a Sync, with a Follow_Up when it runs two-step. -/
  | masterSyncSend (port : Fin 512) (var : Nat)
  /-- DELAY_REQ_ANSWER (R81): A master port answers a received Delay_Req with a Delay_Resp. -/
  | delayReqAnswer (m : PtpMsg)
  /-- PTP_GENERAL_DELIVER (R77): An Announce, Signaling or Management message is delivered to the host seat port. -/
  | ptpGeneralDeliver (port : Fin 512) (bytes : Bytes) (arrival : Arrival)
  /-- SERVO_UPDATE (R82): At the first boundary after a valid measurement, the servo applies a Rate update or a step. -/
  | servoUpdate
  /-- SOURCE_LOSS (R90): A servo source gives no valid measurement for LOSS_INTERVALS intervals and the servo fails over. -/
  | sourceLoss
  /-- SERVO_SRC_WRITE (R90): A write to SERVO_SRC counts as a change of source and sets ACQUIRING. -/
  | servoSrcWrite (seat : Fin 4) (order : BitVec 16)
  /-- SERVO_ENABLE (R108): Writing SERVO_CTRL.ENABLE turns the servo on and loads f from TIM.RATE. -/
  | servoEnable (seat : Fin 4) (value : Word)
  /-- REF_INPUT_LOSS (R93): The current TPLL input goes bad and the TPLL switches to the next good input without a phase step. -/
  | refInputLoss (loss : RefLoss)
  /-- REF_REVERT (R93): With REVERT set, the TPLL returns to an earlier input after it has been good for 10 s. -/
  | refRevert
  /-- PPS_IN_EDGE (R94): A PPS input edge is captured, judged valid or bad, and may give a servo measurement. -/
  | ppsInEdge (input : Fin 2) (rise : Bool) (raw : Nat)
  /-- TOD_LINE_RX (R95): A complete ToD line is received and labels the next PPS edge, or is discarded. -/
  | todLineRx (line : Bytes)
  /-- PPS_OUT_PULSE (R96): A PPS output rises when the view reaches a whole second plus OFFSET_NS. -/
  | ppsOutPulse (out : Fin 2)
  /-- TOD_TX_LINE (R97): 100 ms after each PPS_OUT0 pulse, TOD_TX sends a line that labels the next pulse. -/
  | todTxLine
  /-- EVT_IN_EDGE (R98): An EVT_IN edge is captured into its FIFO, or counted as a glitch or a drop. -/
  | evtInEdge (pin : Fin 8) (rise : Bool) (raw : Nat)
  /-- EVTI_POP (R111): Writing POP removes the head entry of an EVT_IN FIFO. -/
  | evtiPop (seat : Fin 4) (pin : Fin 8)
  /-- EVT_OUT_PULSE (R99): In PULSE mode an EVT_OUT pulse starts at START + n x PERIOD_NS. -/
  | evtOutPulse (pin : Fin 8)
  /-- SCHED_ACTION (R102): The SCHED_ACTION command schedules a REG_WRITE or PHASE action, or refuses it. -/
  | schedAction (p : Packet)
  /-- SCHED_CANCEL (R105): The SCHED_CANCEL command removes a pending action before its firing tick, or refuses. -/
  | schedCancel (p : Packet)
  /-- ACTION_FIRE (R103): A scheduled action fires in class 4 of its due tick, applying its register write or phase change. -/
  | actionFire
  /-- SLOT_ISSUE (R113): A pipeline takes a waiting frame into a slot and parses, classifies and looks it up. -/
  | slotIssue (pipe : Fin 17) (slot : Fin 128) (err : LookupErr)
  /-- BUFFER_ADMISSION (R124): A frame reaches buffer admission, where it is policed, replicated, charged and resolved into copy descriptors. -/
  | bufferAdmission (vars : List (Nat × Nat))
  /-- SCHEDULER_SELECT (R231): When an egress port becomes free, its scheduler chooses the next deterministic or queued copy. -/
  | schedulerSelect (port : Fin 518) (var : Nat) (badCell : Option Nat)
  /-- TRANSMIT_DONE (R409): A copy finishes transmission, freeing its references and the port. -/
  | transmitDone (port : Fin 518) (badCell : Option Nat)
  /-- TABLE_WRITE_SLOT (R113): A table write slot carries one write to each table array, taken from repair, operation, software or learn queues. -/
  | tableWriteSlot
  /-- TX_TAIL_WRITE (R131): A seat writes TX_TAIL to hand transmit descriptors to the TQ102. -/
  | txTailWrite (seat : Fin 4) (ring : Fin 4) (value : BitVec 14)
  /-- SEAT_TX_FETCH (R132): The TQ102 takes a frame from a seat's transmit ring, appends the FCS and enters it at an internal slot. -/
  | seatTxFetch (seat : Fin 4) (own : Bool) (readable : Bool) (length : BitVec 16) (bytes : Bytes)
  /-- RX_TAIL_WRITE (R131): A seat writes RX_TAIL to give receive buffers to the TQ102. -/
  | rxTailWrite (seat : Fin 4) (ring : Fin 4) (value : BitVec 14)
  /-- SEAT_RX_DELIVER (R132): A copy for a seat port is written with metadata into free receive buffers, or is dropped as SEAT_RING_FULL. -/
  | seatRxDeliver (seat : Fin 4)
  /-- RECIRC_REENTRY (R133): A copy forwarded to port 516 re-enters its pipeline as ingress port 516, or is dropped at the pass limit. -/
  | recircReentry
  /-- TABLE_INSERT (R150): The TABLE_INSERT command writes or stages an entry in the named table. -/
  | tableInsert (p : Packet)
  /-- TABLE_DELETE (R150): The TABLE_DELETE command removes or stages the removal of an entry in the named table. -/
  | tableDelete (p : Packet)
  /-- TABLE_LOOKUP (R439): The TABLE_LOOKUP command returns the entry in force for a key or index. -/
  | tableLookup (p : Packet)
  /-- TABLE_DUMP (R177): The TABLE_DUMP command returns a range of entries of a table. -/
  | tableDump (p : Packet)
  /-- TABLE_SCRUB (R190): The table scrubber reads every word of every copy within PERIOD_MS and repairs errors. -/
  | tableScrub (pipe : Fin 17) (table : Fin 17) (index : BitVec 24) (finding : Fin 4)
  /-- LEARN_DECISION (R179): In decision tick T + 4,096, the learns and station moves of the frames stamped in T are decided. -/
  | learnDecision
  /-- AGE_SWEEPER_VISIT (R183): The Age Sweeper visits an entry, clearing its hit bit or marking it stale or removing it. -/
  | ageSweeperVisit (table : Fin 2) (visit : SweepVisit)
  /-- PIN_LOG_POP (R193): Writing PIN_LOG_CTRL.POP removes the head entry of the pin log. -/
  | pinLogPop (seat : Fin 4)
  /-- PFC_REFRESH (R209): While a class stays above XON, its flow-control frame is repeated every REFRESH_US. -/
  | pfcRefresh
  /-- SPILL_WRITE_DONE (R215): The spill engine finishes writing a copy to the RM segment and frees its on-die reference. -/
  | spillWriteDone (queue : Fin 64)
  /-- REFILL_READ_DONE (R215): The spill engine finishes reading a copy back from the RM segment to the on-die tail. -/
  | refillReadDone (queue : Fin 64)
  /-- SPARE_FORCE (R217): Writing SPARE_CTRL.FORCE requests the sparing of FORCE_BANK. -/
  | spareForce (seat : Fin 4) (bank : BitVec 6)
  /-- BANK_SPARING_START (R217): A bank that must be spared is given a shadow and its live cells start copying, or it is retired. -/
  | bankSparingStart
  /-- BANK_SPARING_DONE (R217): The sparing copy ends and BANK_MAP points to the shadow in one tick. -/
  | bankSparingDone
  /-- BUFFER_SCRUB (R219): The buffer scrubber reads every cell once in each PERIOD_MS in idle bank cycles. -/
  | bufferScrub (word : ScrubWord) (finding : Fin 4)
  /-- PAUSE_RECEIVED (R236): A received PAUSE or PFC frame pauses the named queues of its port. -/
  | pauseReceived
  /-- PAUSE_EXPIRE (R236): The pause time of a port or class runs out and its queues resume. -/
  | pauseExpire
  /-- SHAPER_REFILL (R232): At every refill boundary each shaper gains RATE_KBPS units of credit. -/
  | shaperRefill
  /-- GATE_EVENT (R242): A gate-list transition between entries takes effect in class 5. -/
  | gateEvent
  /-- GCL_CHANGE (R243): At change instant X a pending header becomes the running gate list. -/
  | gclChange
  /-- FLAP_HOLD_EXPIRE (R251): A flap-hold ends with the port not active and its copies are dropped as FLAP_EXPIRED. -/
  | flapHoldExpire
  /-- QUEUE_SAMPLE (R254): At each sample period a queue-sample record is taken for each port with SAMPLE_EN. -/
  | queueSample
  /-- HELD_RELEASE (R264): A held copy is announced 16 ticks before its entry and enters the egress PCS so as to cross at its target. -/
  | heldRelease (turn : HeldTurn)
  /-- SEQ_VISIBLE (R284): A sequenced copy becomes visible at the boundary after admission and joins the store or is late. -/
  | seqVisible (inst : Fin 32)
  /-- SEQ_RELEASE (R282): In a tick at or after its release tick, an copy offers its head copy to the deterministic input. -/
  | seqRelease (inst : Fin 32) (read : ReadOut)
  /-- TROUPE_ENABLE (R304): Setting TRP.CTRL.ENABLE loads BASE and WBASE and sets the lift to 0. -/
  | troupeEnable (seat : Fin 4) (enable : Bool)
  /-- HELLO_INTERVAL (R300): At every HELLO interval boundary a member sends HELLO, updates its live set and elects the Lead. -/
  | helloInterval
  /-- HELLO (R303): A HELLO control frame is taken, refreshing the sender's liveness and reports. -/
  | hello (port : Fin 512) (bytes : Bytes)
  /-- PROFILE (R305): A PROFILE control frame is taken and a new shared base is scheduled for its instant. -/
  | profile (port : Fin 512) (bytes : Bytes)
  /-- PROFILE_APPLY (R305): At the PROFILE instant each member applies the new base. -/
  | profileApply
  /-- LIFT_REQ (R307): A LIFT_REQ reaches the Lead, which issues a new LIFT_ORDER. -/
  | liftReq (port : Fin 512) (bytes : Bytes)
  /-- LIFT_ORDER (R308): A member takes a LIFT_ORDER, schedules its lift commit and answers with an ACK. -/
  | liftOrder (port : Fin 512) (bytes : Bytes)
  /-- ACK (R302): An ACK control frame is taken and recorded against its order. -/
  | ack (port : Fin 512) (bytes : Bytes)
  /-- GRANT (R311): A GRANT control frame is taken, with the grant to take effect at its instant. -/
  | grant (port : Fin 512) (bytes : Bytes)
  /-- GRANT_PERIOD (R311): Every PERIOD_MS the Lead computes and sends power grants. -/
  | grantPeriod
  /-- GRANT_APPLY (R311): A lowered grant takes effect at its instant and a raised grant 100 us later. -/
  | grantApply
  /-- BASE_WRITE (R305): A write to TRP.BASE on the Lead sends a PROFILE, or elsewhere is refused or staged. -/
  | baseWrite (seat : Fin 4) (k : Fin 8) (value : BitVec 20)
  /-- UNLIFT (R309): Writing LIFT_CFG.UNLIFT on the Lead orders the greatest REQ_NS at once. -/
  | unlift (seat : Fin 4)
  /-- RECORD_ACCEPT (R319): Each tick the Recorder accepts up to 16 KiB of records from its taps, in order. -/
  | recordAccept
  /-- EVR_CAP_REFILL (R336): At every 16th tick the rate-cap bucket gains 2 x CAP_EFF bytes. -/
  | evrCapRefill
  /-- BLOCK_SEAL (R338): A block seals at the boundary of the first tick that meets a seal cause and the next block opens. -/
  | blockSeal
  /-- BLOCK_SIGN (R341): A signing core completes the signature of a sealed block and writes its trailer. -/
  | blockSign
  /-- EVR_FLUSH (R373): In batching phases the Recorder writes all staged data to Reserve Memory in one flush. -/
  | evrFlush
  /-- EVR_SEAL (R349): The EVR_SEAL command seals the open block at the next boundary. -/
  | evrSeal (p : Packet)
  /-- EVR_PIN (R347): The EVR_PIN command pins or unpins a range of sealed blocks. -/
  | evrPin (p : Packet)
  /-- EVR_EXPORT (R350): The EVR_EXPORT command starts, or aborts, an sending-out of a range of blocks. -/
  | evrExport (p : Packet)
  /-- EXPORT_FRAME (R352): The Recorder places the next sending-out frame when its queue can let in it. -/
  | exportFrame
  /-- GENESIS_BLOCK_OPEN (R353): The genesis block opens at the first 1 ms grid tick after memory training and the evidence key are ready. -/
  | genesisBlockOpen
  /-- REFRESH_TIMER (R366): A channel's tREFI timer expires and its refresh debt rises, forcing a refresh at 4. -/
  | refreshTimer (chan : Fin 32)
  /-- REFRESH_ISSUE (R366): An owed refresh is issued while the channel is idle. -/
  | refreshIssue (chan : Fin 32)
  /-- MEM_ACCESS (R362): A channel serves one 256-byte access in client order. -/
  | memAccess (chan : Fin 32) (requests : List (Nat × Nat × Nat)) (err : Fin 4) (draw : Bool)
  /-- STACK_TEMP_READ (R367): Every 1 ms the stack sensor is read and tREFI is halved or restored. -/
  | stackTempRead (stack : Fin 4) (temp : BitVec 8)
  /-- SELF_REFRESH_ENTRY (R369): An idle stack in an allowing phase enters self-refresh. -/
  | selfRefreshEntry (stack : Fin 4)
  /-- SELF_REFRESH_EXIT (R370): A stack leaves self-refresh for a held request or a phase change. -/
  | selfRefreshExit (stack : Fin 4)
  /-- FORCE_FAIL (R375): Writing CH.CTRL.FORCE_FAIL fails a channel. -/
  | forceFail (seat : Fin 4) (chan : Fin 32)
  /-- CHANNEL_FAIL (R375): A channel is failed on error count, timeout or failed retraining, and its units are rebuilt from parity. -/
  | channelFail (chan : Fin 32)
  /-- RETRY (R375): Writing CH.CTRL.RETRY retrains a failed channel. -/
  | retry (seat : Fin 4) (chan : Fin 32)
  /-- RETRAIN_DONE (R375): A channel retraining ends, entering REBUILDING or staying failed. -/
  | retrainDone (chan : Fin 32) (ok : Bool)
  /-- REBUILD_DONE (R375): The rebuild of a channel ends and it returns to OK. -/
  | rebuildDone (chan : Fin 32)
  /-- MEM_ROWS_LOST (R376): A second lost unit in a row cannot be rebuilt and the rows are marked lost. -/
  | memRowsLost (stripe : Fin 4) (row : BitVec 24) (members : List (Fin 8)) (spilled : List Nat)
  /-- PATROL_SCRUB (R376): The patrol scrubber reads every row once in each PERIOD_H and fixes parity. -/
  | patrolScrub (chan : Fin 32) (row : BitVec 24) (finding : Fin 4)
  /-- MEM_TRAINING_DONE (R374): Reserve Memory training and zero fill complete and TRAINED is set. -/
  | memTrainingDone (failing : List (Fin 32)) (lanes : List (Nat × Nat))
  /-- PORT_START (R382): Writing CTRL.START = 1 starts bring-up of an existing port. -/
  | portStart (seat : Fin 4) (port : Fin 512)
  /-- PORT_STOP (R392): Writing CTRL.START = 0 stops the port and places its transmitters in electrical idle. -/
  | portStop (seat : Fin 4) (port : Fin 512)
  /-- DETECT (R383): Each millisecond the lanes measure the far-end termination. -/
  | detect (port : Fin 512) (seen : BitVec 8)
  /-- TRAIN_DONE (R384): Training completes on every lane of the port and the port enters LOCK. -/
  | trainDone (port : Fin 512) (lanes : List Trained)
  /-- BLOCK_LOCK (R387): Every lane of the port has block lock, the PCS lanes are mapped and deskewed, and the port enters EXCHANGE. -/
  | blockLock (port : Fin 512) (lock : PcsLock) (skew : Nat) (deskew : Nat) (inverted : BitVec 8)
  /-- STAGE_TIMEOUT (R382): A bring-up stage exceeds its limit and the port returns to DETECT. -/
  | stageTimeout (port : Fin 512)
  /-- LINK_UP (R389): EXCHANGE completes and the port enters ACTIVE. -/
  | linkUp (port : Fin 512)
  /-- LINK_DOWN (R389): A down cause takes the port out of ACTIVE and starts the flap-hold or flush. -/
  | linkDown (port : Fin 512) (loss : LinkLoss)
  /-- QUICK_TIMEOUT (R390): A quick relock that does not reach ACTIVE within QUICK_US restarts at DETECT. -/
  | quickTimeout (port : Fin 512)
  /-- FORCE_RETRAIN (R390): Writing CTRL.FORCE_RETRAIN restarts a started port at DETECT. -/
  | forceRetrain (seat : Fin 4) (port : Fin 512)
  /-- FOM_MEASURE (R394): Every 1 ms each receiving lane computes its figure of merit. -/
  | fomMeasure (lane : Fin 512) (w : Window)
  /-- SNAPSHOT_WRITE (R395): Writing LANE.CTRL.SNAPSHOT takes a snapshot of the receive coefficients now. -/
  | snapshotWrite (seat : Fin 4) (lane : Fin 512)
  /-- ROLLBACK_WRITE (R395): Writing LANE.CTRL.ROLLBACK loads the snapshot now. -/
  | rollbackWrite (seat : Fin 4) (lane : Fin 512)
  /-- EI_ENTRY (R396): An idle port with EI_EN enters transmit electrical idle after IDLE_US. -/
  | eiEntry (port : Fin 512)
  /-- EI_EXIT (R396): A copy or flow-control frame wakes a port from electrical idle. -/
  | eiExit (wake : PortWake)
  /-- RX_SIGNAL_RETURN (R397): A receiver in RX_EI sees the signal return and retrims, regaining lock within 10 us or failing. -/
  | rxSignalReturn (port : Fin 512) (ok : Bool) (foms : List (Fin 1024)) (deskew : Nat)
  /-- GROUP_REF_LOSS (R399): Loss of a group's reference clock or PLL takes every active port of the group down. -/
  | groupRefLoss (group : Fin 16) (clock : Bool)
  /-- GROUP_REF_RESTORE (R399): After the group PLL has been locked for 1 ms the started ports restart at DETECT. -/
  | groupRefRestore (group : Fin 16)
  /-- MGMT_LINK_CHANGE (R412): The management PHY reports a link change and port 517 goes up or down. -/
  | mgmtLinkChange (link : Bool) (speed : Fin 3) (duplex : Bool)
  /-- COLLISION (R413): A collision in half duplex stops the frame with a jam and starts back-off, or drops it. -/
  | collision (r : Nat)
  /-- BACKOFF_EXPIRE (R413): The back-off of a collided frame ends and the transmitter defers again. -/
  | backoffExpire
  /-- MDIO_GO (R415): Writing MDIO_CTRL.GO starts one Clause 22 read or write. -/
  | mdioGo (seat : Fin 4) (phy : BitVec 5) (reg : BitVec 5) (isWrite : Bool)
  /-- MDIO_DONE (R415): An MDIO operation ends and BUSY clears. -/
  | mdioDone (data : Option (BitVec 16))
  /-- CHK_START (R418): Writing CTRL.START begins a Check Engine flow. -/
  | chkStart (seat : Fin 4) (engine : Fin 16) (ctrl : BitVec 6)
  /-- CHK_BUF_GRANTED (R418): The output buffer of a waiting flow is allocated and WAIT_BUF clears. -/
  | chkBufGranted (engine : Fin 16)
  /-- CHK_DATA (R418): A write to DATA feeds input bytes, and the last one ends the flow. -/
  | chkData (seat : Fin 4) (engine : Fin 16) (word : Word)
  /-- CHK_ABORT (R418): Writing CTRL.ABORT ends a flow with no result and frees its buffer. -/
  | chkAbort (seat : Fin 4) (engine : Fin 16)
  /-- CHK_OUT_READ (R419): A read of OUT returns and removes the next 4 output bytes. -/
  | chkOutRead (seat : Fin 4) (engine : Fin 16)
  /-- COMMAND_WINDOW_WRITE (R427): A write to CMD_WIN pushes words, and a complete packet passes to Drafen. -/
  | commandWindowWrite (seat : Fin 4) (wide : Bool) (value : DWord)
  /-- REPLY_WINDOW_READ (R428): A read of REPLY_WIN pops reply words, or sets UNDERFLOW. -/
  | replyWindowRead (seat : Fin 4) (wide : Bool)
  /-- CMD_FLUSH (R429): CMD_FLUSH empties the Command FIFO and clears the error flags. -/
  | cmdFlush (seat : Fin 4)
  /-- REPLY_FLUSH (R429): REPLY_FLUSH discards every word in the Reply FIFO. -/
  | replyFlush (seat : Fin 4)
  /-- ISW_READ (R430): A read of an Immediate Status Word is answered from the mirror, and ISW 0 captures ISWs 1 to 7. -/
  | iswRead (seat : Fin 4) (index : Fin 16)
  /-- INBAND_COMMAND (R434): An in-band frame with EtherType 0x88B6 is taken as a command, or dropped as INBAND_REJECT. -/
  | inbandCommand (port : Fin 512) (bytes : Bytes) (arrival : Arrival)
  /-- READ (R439): The READ command returns one register value. -/
  | read (p : Packet)
  /-- WRITE (R444): The WRITE command writes one register under its class. -/
  | write (p : Packet)
  /-- READ_BLOCK (R439): The READ_BLOCK command returns n consecutive register values. -/
  | readBlock (p : Packet)
  /-- WRITE_BLOCK (R444): The WRITE_BLOCK command writes n consecutive registers. -/
  | writeBlock (p : Packet)
  /-- TXN_BEGIN (R445): The TXN_BEGIN command opens a transaction and assigns its ID. -/
  | txnBegin (p : Packet)
  /-- TXN_COMMIT (R448): The TXN_COMMIT command sends prepares to every unit for the transaction. -/
  | txnCommit (p : Packet)
  /-- TXN_ROLLBACK (R451): The TXN_ROLLBACK command rolls back a transaction before its commit tick. -/
  | txnRollback (p : Packet)
  /-- TXN_COMMIT_AT (R450): The TXN_COMMIT_AT command prepares a transaction for a timed commit. -/
  | txnCommitAt (p : Packet)
  /-- PREPARE_ACK (R448): A unit acknowledges or refuses a prepare, and when all have acknowledged Drafen fixes the commit tick. -/
  | prepareAck (txn : Nat) (unit : Fin 32)
  /-- PREPARE_DEADLINE (R448): PREP_US passes without every acknowledgement and the transaction is rolled back. -/
  | prepareDeadline
  /-- COMMIT_TICK (R449): At a commit tick the transactions are applied in class 4 and the generation increments. -/
  | commitTick (liftFails : Bool)
  /-- TXN_IDLE_TIMEOUT (R451): A transaction that receives no command for IDLE_S is rolled back. -/
  | txnIdleTimeout
  /-- ATTEST_QUOTE (R524): The ATTEST_QUOTE command takes a snapshot and queues a quote for signing. -/
  | attestQuote (p : Packet)
  /-- QUOTE_SIGNED (R524): The identity signer completes a quote and its reply is placed. -/
  | quoteSigned
  /-- FAULT_ACK (R484): The FAULT_ACK command requests acknowledgement of a fault source. -/
  | faultAck (p : Packet)
  /-- ACK_APPLY (R484): At the next boundary the acknowledgement clears the source's latches and FSW bit and the reply is placed. -/
  | ackApply
  /-- ECHO (R439): The ECHO command returns its data words. -/
  | echo (p : Packet)
  /-- MICROWORD_ISSUE (R456): In each command cycle the active core issues one microword. -/
  | microwordIssue (done : Bool) (data : DWord) (corrected : Bool) (idle : Bool)
  /-- ROUTINE_DISPATCH (R463): The core takes the waiting request of the lowest level and starts its routine. -/
  | routineDispatch (entry : BitVec 13) (asks : Option (Fin 3))
  /-- ROUTINE_WATCHDOG (R468): A routine that runs 64,000 cycles without ending or parking is a microcode fault. -/
  | routineWatchdog
  /-- EFFECT_APPLY (R465): The effect engine applies a released effect. -/
  | effectApply
  /-- CORE_TAKE_OVER (R470): The active Drafen core faults and the standby core takes over and replays. -/
  | coreTakeOver (planned : Bool)
  /-- CORE_SELF_TEST_DONE (R471): A failed core's self-test ends and it becomes standby or is retired. -/
  | coreSelfTestDone (core : Fin 2) (pass : Bool)
  /-- REJOIN_CORE (R475): Writing CORE_CTRL.REJOIN self-tests and rejoins a retired core. -/
  | rejoinCore (seat : Fin 4) (mask : BitVec 2)
  /-- SWAP (R475): Writing CORE_CTRL.SWAP makes a planned take-over at the next routine end. -/
  | swap (seat : Fin 4)
  /-- IMAGE_LOAD (R472): The verified image is loaded into both cores, they self-test, and READY is set or the load fails. -/
  | imageLoad (image : Bytes) (certs : List Bytes) (keyMatches : Bool) (copiesAgree : Bool) (test0 : Bool) (test1 : Bool)
  /-- FAULT_TAKE (R476): Once per tick the Fault Collector takes every held error-line event. -/
  | faultTake (checkA : Bool) (checkB : Bool) (differ : Bool)
  /-- NOTE_AUTO_ACK (R480): A NOTE fault is acknowledged at the next boundary when NOTE_AUTO_ACK is set. -/
  | noteAutoAck
  /-- FREEZE_RELEASE (R483): Writing FREEZE_CTRL.RELEASE releases the frozen copy and re-arms the freeze. -/
  | freezeRelease (seat : Fin 4)
  /-- PIPELINE_FAULT (R490): A pipeline check fires, the pipeline stops, and a take-over or group stop follows. -/
  | pipelineFault (pipe : Fin 17)
  /-- TAKE_OVER_EGRESS (R490): By F + 16, pipeline 16 takes over the egress edits of the failed group. -/
  | takeOverEgress
  /-- TAKE_OVER_SLOTS (R490): By F + 408, pipeline 16 takes over the group's slots and starts replay. -/
  | takeOverSlots
  /-- REPLAY_DONE (R490): The replay buffer empties and REPLAYING clears. -/
  | replayDone
  /-- PIPE_FORCE (R492): Writing PIPE_CTRL.FORCE starts a take-over of FORCE_PIPE. -/
  | pipeForce (seat : Fin 4) (pipe : Fin 16)
  /-- PIPE_SELF_TEST_DONE (R493): A failed pipeline's self-test ends and it becomes ready to give back or is retired. -/
  | pipeSelfTestDone (pipe : Fin 16) (pass : Bool)
  /-- GIVE_BACK (R493): Writing GIVE_BACK, or AUTO_GIVE_BACK, starts rewriting the pipeline's table copies. -/
  | giveBack (seat : Fin 4)
  /-- GIVE_BACK_SWITCH (R493): From tick B the restored pipeline takes its group's slots and pipeline 16 becomes idle. -/
  | giveBackSwitch
  /-- SPARE_SELF_CHECK_FAIL (R495): Pipeline 16's idle self-check fails and SPARE_OK clears. -/
  | spareSelfCheckFail
  /-- RAIL_SAMPLE (R500): Every 1 us on-die sensors measure the rails and update MEAS_W. -/
  | railSample (rails : List (Nat × Nat))
  /-- PMBUS_READ (R500): Every 1 ms the Power Manager reads each regulator and corrects the on-die gain. -/
  | pmbusRead (replies : List (Option (Nat × Nat))) (faults : BitVec 7)
  /-- PMB_ALERT (R545): An assertion of PMB_ALERT_N makes the Power Manager read every regulator's STATUS_WORD. -/
  | pmbAlert (faults : BitVec 7)
  /-- POWER_DECISION (R504): Every 10 us the Power Manager deepens, holds or relaxes its throttling. -/
  | powerDecision
  /-- CLOCK_CHANGE (R506): After the lift commit is applied, the core clock changes at the next control period. -/
  | clockChange
  /-- MODEL_RESUME (R514): Writing CTRL.MODEL_RESUME clears DIVERGED. -/
  | modelResume (seat : Fin 4)
  /-- THERMAL_READ (R509): Every 100 us the on-die temperature sensors are read and thresholds judged. -/
  | thermalRead (temps : List Int)
  /-- THERMTRIP (R510): A sensor reaching 125 degrees C asserts THERMTRIP_N and stops every PLL except the TPLL. -/
  | thermtrip (sensor : Fin 48) (temp : Int)
  /-- EVK_GENERATED (R517): The evidence key is generated and certified and EVK_READY is set. -/
  | evkGenerated (ok : Bool)
  /-- ROTATE (R518): Writing EVK_CTRL.ROTATE starts generation of a new evidence key. -/
  | rotate (seat : Fin 4)
  /-- ROTATION_COMPLETE (R342): In the tick the new key is ready, the Recorder seals with cause 1 and switches keys. -/
  | rotationComplete (ok : Bool)
  /-- FUSE_OWNER_HASH (R522): FUSE_CTRL OP 1 fuses the owner hash and sets OWNER_EN. -/
  | fuseOwnerHash (seat : Fin 4)
  /-- FUSE_ROLLBACK (R522): FUSE_CTRL OP 2 sets rollback fuses up to the running image's SVN. -/
  | fuseRollback (seat : Fin 4)
  /-- CERT_SEL_WRITE (R519): A write to CERT_SEL selects a certificate and restarts its read at byte 0. -/
  | certSelWrite (seat : Fin 4) (cert : Fin 8)
  /-- CERT_DATA_READ (R519): A read of CERT_DATA returns the next 4 bytes of the selected certificate. -/
  | certDataRead (seat : Fin 4)
  /-- RNG_HEALTH_FAIL (R525): The random source health test fails and key generation and signing stop until it passes. -/
  | rngHealthFail
  /-- CNT_SNAP_TAKE (R537): Writing SNAP_CTRL.TAKE requests a counter snapshot after the ownership checks. -/
  | cntSnapTake (seat : Fin 4) (group : Fin 4) (countM1 : BitVec 8)
  /-- CNT_SNAP_CAPTURE (R537): At the next boundary the counters are copied into SNAP_DATA and DONE is set. -/
  | cntSnapCapture (group : Fin 4)
  /-- PORST_N_ASSERT (R550): PORST_N is asserted and every unit resets. -/
  | porstNAssert
  /-- PORST_N_RELEASE (R554): PORST_N is released, the straps are latched and boot begins. -/
  | porstNRelease (straps : BitVec 8) (cool : Bool)
  /-- SYSRST_N_ASSERT (R551): An assertion of SYSRST_N is recognised and the units reset as in the table of R551. -/
  | sysrstNAssert (pin : Bool)
  /-- SYSRST_N_RELEASE (R551): The release of SYSRST_N is recognised and units resume. -/
  | sysrstNRelease (pin : Bool)
  /-- SW_RESET (R551): A write of SYS.SW_RESET with KEY 0xA5 and GO acts as a SYSRST_N assertion, released 1 us later. -/
  | swReset (seat : Fin 4) (key : BitVec 8)
  /-- SUPPLY_MONITOR_TRIP (R549): A rail below 90 % of its minimum for 1 us causes an internal power-on reset. -/
  | supplyMonitorTrip (rail : Fin 7)
  /-- VAUX_POWER_UP (R559): VAUX powers up and the VAUX-domain registers take their reset values. -/
  | vauxPowerUp
  /-- PERST (R553): PERSTe_N resets one PCIe endpoint, its link goes down and its seats' FIFOs are emptied. -/
  | perst (endpoint : Fin 2) (asserted : Bool)
  /-- SMBUS_READ (R545): The SMBus target answers a Read Word or Block Read command. -/
  | smbusRead (cmd : BitVec 8)
  /-- EXTEST (R556): The JTAG EXTEST instruction drives the boundary, only while PORST_N is asserted. -/
  | extest (rails : Bool)
  /-- IDCODE (R555): The JTAG IDCODE instruction reads 0x1010_2A6B. -/
  | idcode
  /-- SAMPLE_PRELOAD (R555): The JTAG SAMPLE/PRELOAD instruction samples and preloads the boundary register. -/
  | samplePreload (bits : Nat)
  /-- HIGHZ (R556): The JTAG HIGHZ instruction places the outputs in high impedance. -/
  | highz (rails : Bool)
  /-- CLAMP (R556): The JTAG CLAMP instruction holds the outputs at the preloaded values. -/
  | clamp (rails : Bool)
  /-- EXTEST_PULSE (R556): The JTAG EXTEST_PULSE instruction runs the IEEE 1149.6 pulse test. -/
  | extestPulse (rails : Bool)
  /-- EXTEST_TRAIN (R556): The JTAG EXTEST_TRAIN instruction runs the IEEE 1149.6 train test. -/
  | extestTrain (rails : Bool)
  /-- BYPASS (R555): The JTAG BYPASS instruction, also taken for any other code, selects the bypass register. -/
  | bypass
  /-- TAP_RESET (R556): TRST_N low, or five TCK cycles with TMS high, returns the TAP to Test-Logic-Reset. -/
  | tapReset
  /-- TPLL_RELOCK (R92): The TPLL regains lock after a loss of lock, so REF_LOST clears and stamps stop carrying HOLDOVER. -/
  | tpllRelock (input : Fin 3)
  /-- REF_INPUT_GOOD (R93): A TPLL input becomes good, and the TPLL moves to the first listed good input, at power-up or after every input was bad. -/
  | refInputGood (good : RefGood)
  /-- INIT_DONE (R220): The buffer bank test and table initialisation complete, and BUF.STATUS.INIT_DONE is set, so frames may be accepted. -/
  | initDone (failing : List (Fin 64))
  /-- GROUP_PLL_LOCK (R400): After PORST_N release each port-group PLL locks to its reference clock and its lanes enter STANDBY. -/
  | groupPllLock (group : Fin 16)
  /-- PDELAY_REQ_SEND (R81): A port running the P2P link-delay exchange sends its own Pdelay_Req to measure LINK_DELAY. -/
  | pdelayReqSend (port : Fin 512) (var : Nat)
  /-- RX_EI (R397): A receiver that has seen the low-power-idle announcement loses signal, sets RX_EI and freezes its adaptation while the port stays ACTIVE. -/
  | rxEi (port : Fin 512)
  /-- EXCHANGE_BREAK (R388): During EXCHANGE an uncorrectable codeword, a wrong lane set or a received fault breaks the condition and restarts the STABLE_US timer. -/
  | exchangeBreak (port : Fin 512)
  /-- SIGNER_FAULT (R341): A signing core fails and is taken out of service, with a SPARED or, for the last core, a CRITICAL fault. -/
  | signerFault (core : Fin 12)
  /-- SPARE_OK (R495): Pipeline 16's idle self-check passes again and SPARE_OK is set, making take-over possible. -/
  | spareOk
  /-- RNG_OK (R525): The random source health test passes again and key generation and signing resume. -/
  | rngOk
  /-- FUSE_PROGRAMMING_DONE (R522): A fuse programming operation ends, FUSE_CTRL.BUSY clears and any failure raises source 10 cause 4. -/
  | fuseProgrammingDone (ok : Bool)
  /-- PCIE_LINK_UP (R553): A PCIe endpoint completes link training after PORST_N or PERSTe_N release, so its seats' LINK_UP is set and ISWs answer. -/
  | pcieLinkUp (endpoint : Fin 2)
  /-- PCIE_LINK_LOST (R477): The PCIe link of a seat drops without PERSTe_N, raising source 38 cause 1. -/
  | pcieLinkLost (seat : Fin 4)
deriving DecidableEq, Repr

end Sys2Proof
end

