-- ==== Sys2Proof/Decode.lean ====
section
/-! DEFINITION. The commands that a word spells by the operation table's bits. -/

namespace Sys2Proof

/-- The table gives no row any bits: its commands are accesses, packets and events, and no word spells one. A Ulunax packet (R435)
is many words long, and Machine/Windows.lean reads it (DESIGN CHOICE, log 2). -/
def decodeTableWord (_nbits _w : Nat) : Option Instr := none

end Sys2Proof
end

