-- ==== Sys2Proof/Machine/Hash.lean ====
section
/-! DEFINITION. The checks and digests that the spec names: CRC-32, CRC-32C, CRC-64/ECMA and CRC-16/CCITT (R416) and
SHA-512 (R339, R340). -/

namespace Sys2Proof.Machine

/-- Eight shifts of a reflected CRC. -/
def crcReflBits (poly : Nat) : Nat → Nat → Nat
  | 0, c => c
  | n + 1, c => crcReflBits poly n (if c % 2 = 1 then Nat.xor (c / 2) poly else c / 2)

/-- A reflected CRC over bytes, from a running value before its final XOR. -/
def crcRefl (poly : Nat) (c : Nat) : Bytes → Nat
  | [] => c
  | b :: rest => crcRefl poly (crcReflBits poly 8 (Nat.xor c b.toNat)) rest

/-- Eight shifts of a CRC that is not reflected, of width w. -/
def crcFwdBits (w poly : Nat) : Nat → Nat → Nat
  | 0, c => c
  | n + 1, c => crcFwdBits w poly n (if 2 ^ (w - 1) ≤ c then Nat.xor (c * 2 % 2 ^ w) poly else c * 2)

/-- A CRC that is not reflected, over bytes. -/
def crcFwd (w poly : Nat) (c : Nat) : Bytes → Nat
  | [] => c
  | b :: rest => crcFwd w poly (crcFwdBits w poly 8 (Nat.xor c (b.toNat * 2 ^ (w - 8)))) rest

/-- R416: width, initial value, running step and final XOR of each algorithm ALG. -/
def crcInit (alg : Nat) : Nat := if alg < 2 then 0xFFFFFFFF else if alg = 2 then 0 else 0xFFFF
def crcWidth (alg : Nat) : Nat := if alg < 2 then 32 else if alg = 2 then 64 else 16
def crcStep (alg c : Nat) (b : Bytes) : Nat :=
  if alg = 0 then crcRefl 0xEDB88320 c b
  else if alg = 1 then crcRefl 0x82F63B78 c b
  else if alg = 2 then crcFwd 64 0x42F0E1EBA9EA3693 c b
  else crcFwd 16 0x1021 c b
def crcFinal (alg c : Nat) : Nat := if alg < 2 then Nat.xor c 0xFFFFFFFF else c
/-- The CRC of a string under ALG (PRESUMED, log 31). -/
def crcOf (alg : Nat) (b : Bytes) : Nat := crcFinal alg (crcStep alg (crcInit alg) b)

/-! ### SHA-512 -/

def rotr64 (n x : Nat) : Nat := Nat.lor (x / 2 ^ n) (x * 2 ^ (64 - n) % 2 ^ 64)
def shaS0 (x : Nat) : Nat := Nat.xor (Nat.xor (rotr64 28 x) (rotr64 34 x)) (rotr64 39 x)
def shaS1 (x : Nat) : Nat := Nat.xor (Nat.xor (rotr64 14 x) (rotr64 18 x)) (rotr64 41 x)
def shas0 (x : Nat) : Nat := Nat.xor (Nat.xor (rotr64 1 x) (rotr64 8 x)) (x / 2 ^ 7)
def shas1 (x : Nat) : Nat := Nat.xor (Nat.xor (rotr64 19 x) (rotr64 61 x)) (x / 2 ^ 6)
def shaCh (x y z : Nat) : Nat := Nat.xor (Nat.land x y) (Nat.land (Nat.xor x (2 ^ 64 - 1)) z)
def shaMaj (x y z : Nat) : Nat := Nat.xor (Nat.xor (Nat.land x y) (Nat.land x z)) (Nat.land y z)

/-- The eight working words. -/
structure ShaState where
  a : Nat
  b : Nat
  c : Nat
  d : Nat
  e : Nat
  f : Nat
  g : Nat
  h : Nat

def shaInit : ShaState :=
  ⟨0x6A09E667F3BCC908, 0xBB67AE8584CAA73B, 0x3C6EF372FE94F82B, 0xA54FF53A5F1D36F1,
   0x510E527FADE682D1, 0x9B05688C2B3E6C1F, 0x1F83D9ABFB41BD6B, 0x5BE0CD19137E2179⟩

def shaK : List Nat :=
  [0x428A2F98D728AE22, 0x7137449123EF65CD, 0xB5C0FBCFEC4D3B2F, 0xE9B5DBA58189DBBC,
   0x3956C25BF348B538, 0x59F111F1B605D019, 0x923F82A4AF194F9B, 0xAB1C5ED5DA6D8118,
   0xD807AA98A3030242, 0x12835B0145706FBE, 0x243185BE4EE4B28C, 0x550C7DC3D5FFB4E2,
   0x72BE5D74F27B896F, 0x80DEB1FE3B1696B1, 0x9BDC06A725C71235, 0xC19BF174CF692694,
   0xE49B69C19EF14AD2, 0xEFBE4786384F25E3, 0x0FC19DC68B8CD5B5, 0x240CA1CC77AC9C65,
   0x2DE92C6F592B0275, 0x4A7484AA6EA6E483, 0x5CB0A9DCBD41FBD4, 0x76F988DA831153B5,
   0x983E5152EE66DFAB, 0xA831C66D2DB43210, 0xB00327C898FB213F, 0xBF597FC7BEEF0EE4,
   0xC6E00BF33DA88FC2, 0xD5A79147930AA725, 0x06CA6351E003826F, 0x142929670A0E6E70,
   0x27B70A8546D22FFC, 0x2E1B21385C26C926, 0x4D2C6DFC5AC42AED, 0x53380D139D95B3DF,
   0x650A73548BAF63DE, 0x766A0ABB3C77B2A8, 0x81C2C92E47EDAEE6, 0x92722C851482353B,
   0xA2BFE8A14CF10364, 0xA81A664BBC423001, 0xC24B8B70D0F89791, 0xC76C51A30654BE30,
   0xD192E819D6EF5218, 0xD69906245565A910, 0xF40E35855771202A, 0x106AA07032BBD1B8,
   0x19A4C116B8D2D0C8, 0x1E376C085141AB53, 0x2748774CDF8EEB99, 0x34B0BCB5E19B48A8,
   0x391C0CB3C5C95A63, 0x4ED8AA4AE3418ACB, 0x5B9CCA4F7763E373, 0x682E6FF3D6B2B8A3,
   0x748F82EE5DEFB2FC, 0x78A5636F43172F60, 0x84C87814A1F0AB72, 0x8CC702081A6439EC,
   0x90BEFFFA23631E28, 0xA4506CEBDE82BDE9, 0xBEF9A3F7B2C67915, 0xC67178F2E372532B,
   0xCA273ECEEA26619C, 0xD186B8C721C0C207, 0xEADA7DD6CDE0EB1E, 0xF57D4F7FEE6ED178,
   0x06F067AA72176FBA, 0x0A637DC5A2C898A6, 0x113F9804BEF90DAE, 0x1B710B35131C471B,
   0x28DB77F523047D84, 0x32CAAB7B40C72493, 0x3C9EBE0A15C9BEBC, 0x431D67C49C100D4C,
   0x4CC5D4BECB3E42B6, 0x597F299CFC657E2A, 0x5FCB6FAB3AD6FAEC, 0x6C44198C4A475817]

/-- The 64 further words of the message schedule, on the words so far, newest first. -/
def shaExpand : Nat → List Nat → List Nat
  | 0, w => w
  | n + 1, w =>
    shaExpand n (((shas1 (w.getD 1 0) + w.getD 6 0 + shas0 (w.getD 14 0) + w.getD 15 0) % 2 ^ 64) :: w)

def shaRound (s : ShaState) (kw : Nat) : ShaState :=
  let t1 := s.h + shaS1 s.e + shaCh s.e s.f s.g + kw
  let t2 := shaS0 s.a + shaMaj s.a s.b s.c
  ⟨(t1 + t2) % 2 ^ 64, s.a, s.b, s.c, (s.d + t1) % 2 ^ 64, s.e, s.f, s.g⟩

def shaRounds : ShaState → List Nat → List Nat → ShaState
  | s, k :: ks, w :: ws => shaRounds (shaRound s (k + w)) ks ws
  | s, _, _ => s

/-- One block of 16 words, first word first. -/
def shaBlock (s : ShaState) (w : List Nat) : ShaState :=
  let r := shaRounds s shaK (shaExpand 64 w.reverse).reverse
  ⟨(s.a + r.a) % 2 ^ 64, (s.b + r.b) % 2 ^ 64, (s.c + r.c) % 2 ^ 64, (s.d + r.d) % 2 ^ 64,
   (s.e + r.e) % 2 ^ 64, (s.f + r.f) % 2 ^ 64, (s.g + r.g) % 2 ^ 64, (s.h + r.h) % 2 ^ 64⟩

/-- A number as n bytes, most significant first. -/
def bytesBE : Nat → Nat → Bytes
  | 0, _ => []
  | n + 1, v => BitVec.ofNat 8 (v / 256 ^ n) :: bytesBE n v
def natBE (b : Bytes) : Nat := b.foldl (fun a x => a * 256 + x.toNat) 0

/-- n words of 8 bytes. -/
def words64 : Nat → Bytes → List Nat
  | 0, _ => []
  | n + 1, b => natBE (b.take 8) :: words64 n (b.drop 8)

/-- The padded message: a 1 bit, zeros, and the length in bits. -/
def shaPad (m : Bytes) : Bytes :=
  m ++ [0x80] ++ List.replicate ((239 - m.length % 128) % 128) 0 ++ bytesBE 16 (m.length * 8)

def shaBlocks : Nat → ShaState → Bytes → ShaState
  | 0, s, _ => s
  | n + 1, s, b => shaBlocks n (shaBlock s (words64 16 (b.take 128))) (b.drop 128)

/-- SHA-512 of a string, 64 bytes (PRESUMED, log 31). -/
def sha512 (m : Bytes) : Bytes :=
  let p := shaPad m
  let s := shaBlocks (p.length / 128) shaInit p
  bytesBE 8 s.a ++ bytesBE 8 s.b ++ bytesBE 8 s.c ++ bytesBE 8 s.d ++ bytesBE 8 s.e ++ bytesBE 8 s.f ++ bytesBE 8 s.g
    ++ bytesBE 8 s.h

end Sys2Proof.Machine
end

