-- ==== Sys2Proof/Config.lean ====
section
/-! DEFINITION. What one device fixes (fuses, keys) and the values the spec leaves open: constants without a body, so
that no proof can see a value of them. -/

namespace Sys2Proof.Config

/-- Fused nominal ingress delay of port mode m, fine units (R75) (DESIGN CHOICE, log 6). -/
opaque fusedNomIng : Nat → Nat
/-- Fused nominal egress delay of port mode m, fine units (R75) (DESIGN CHOICE, log 6). -/
opaque fusedNomEgr : Nat → Nat
/-- Fused delay change per degree of port mode m (R75) (DESIGN CHOICE, log 6). -/
opaque fusedTempco : Nat → Nat
/-- Fused loopback path delay of port group g (R75) (DESIGN CHOICE, log 6). -/
opaque fusedLbDelay : Nat → Nat
/-- Whether the owner hash is fused at first power-up (R522) (DESIGN CHOICE, log 6). -/
opaque fusedOwnerEn : Nat
/-- Popcount of the rollback fuses at first power-up (R522) (DESIGN CHOICE, log 6). -/
opaque fusedRollback : Nat
/-- Fused code of VCORE_VID0–4, taken modulo 21 (R547) (DESIGN CHOICE, log 6) (DEDUCED, log 94). -/
opaque fusedVid : Nat
/-- The fused unique identifier, word i (R515) (DESIGN CHOICE, log 6). -/
opaque fusedUid : Nat → Nat

/-- The set of a fragment table that a key falls into (R157 gives sets and ways, and no index function) (DESIGN CHOICE, log 26). -/
opaque fragSet : List Nat → Nat

/-- Fused digest of the Kelorana public key (R521) (DESIGN CHOICE, log 6). -/
opaque kelHash : List (BitVec 8)
/-- Owner hash fused at first power-up (R521, R522) (DESIGN CHOICE, log 6). -/
opaque fusedOwnerHash : List (BitVec 8)

/-- Values the spec leaves open: the n-th one drawn. -/
opaque freeNat : Nat → Nat
/-- Strings of bytes that the spec leaves open: the n-th one drawn. -/
opaque freeBytes : Nat → List (BitVec 8)

/-- The mask of an entry of D for a write or a delete of a table entry (R523 gives the mask of a register write alone) (DESIGN CHOICE, log 16). -/
opaque tableMask : Nat

/-- The evidence certificate of a public key (R517): for a DEVICE_UID and the second of notBefore (none: 19700101000000Z). The spec fixes
these fields and leaves the rest of its bytes open (DESIGN CHOICE, log 7). -/
opaque evidenceCert : List Nat → Option Nat → List (BitVec 8) → List (BitVec 8)

end Sys2Proof.Config
end

