-- ==== Sys2Proof/Machine/RegMap.lean ====
section
/-! DEFINITION. The register map of every block (R6, R7, R13): for each field its address, its bits, its access type,
its class and its reset value, as the register tables of the spec's chapters give them. -/

namespace Sys2Proof.Machine

/-- One field of a (replicated) register: the byte address of the first copy, how many copies stand at which strides
(an outer and an inner one, R7), the lowest bit, the width, and the reset value of copy n. -/
structure Fld where
  base : Nat
  outer : Nat
  outerStride : Nat
  inner : Nat
  innerStride : Nat
  lsb : Nat
  width : Nat
  reset : Nat → Nat

/-- The byte address of copy n of the register that holds the field (R7). -/
def Fld.addr (f : Fld) (n : Nat) : Nat :=
  f.base + n / f.inner * f.outerStride + n % f.inner * f.innerStride

/-- The place of copy n of the field in the register store: no two fields share one. -/
def Fld.key (f : Fld) (n : Nat) : Nat := f.addr n * 32 + f.lsb

/-- How many copies of the register the map lists. -/
def Fld.copies (f : Fld) : Nat := f.outer * f.inner

/-- The access types of R10. -/
inductive Acc | ro | rw | w1c | wo | rc
deriving DecidableEq, Repr

/-- The field classes of R11: live, shadowed, quiesce. -/
inductive Cls | l | s | q
deriving DecidableEq, Repr

/-- Who may write a register: Seat 0 alone, the seat that holds the port (R432), the seat that holds the queue's port,
the seat whose rings these are (R131), the seat whose group this is (R49, R537), the owner of the Check Engine (R423),
Seat 0 or the port's seat for the calibration unit (R72), the seat that holds the lane's port, the rule of the
seats' STATUS registers (R454), or nobody. -/
inductive Own | seat0 | port | queue | ring | group | engine | cal | lane | seatStatus | nobody
deriving DecidableEq, Repr

/-- A field in the map: its place, its access type and class, the value a written value reads back as in copy n (R10),
which values are taken at all (others: BAD_ADDRESS), and in which copies the field is read-only. -/
structure FieldD where
  fld : Fld
  acc : Acc
  cls : Cls
  norm : Nat → Nat → Nat
  ok : Nat → Bool
  fixedAt : Nat → Bool

/-- A register of its own, or the lo or the hi half of a 64-bit pair at A and A + 4 (R9). -/
inductive Half | whole | lo | hi
deriving DecidableEq, Repr

/-- A register in the map. -/
structure RegD where
  name : String
  base : Nat
  own : Own
  half : Half
  fields : List FieldD

def fd (f : Fld) (a : Acc) (c : Cls) : FieldD := ⟨f, a, c, fun _ v => v, fun _ => true, fun _ => false⟩
def fdNorm (f : Fld) (a : Acc) (c : Cls) (g : Nat → Nat) : FieldD := ⟨f, a, c, fun _ v => g v, fun _ => true, fun _ => false⟩
def fdOk (f : Fld) (a : Acc) (c : Cls) (g : Nat → Bool) : FieldD := ⟨f, a, c, fun _ v => v, g, fun _ => false⟩
/-- The same field, read-only in the copies that `g` names. -/
def fdFix (d : FieldD) (g : Nat → Bool) : FieldD := { d with fixedAt := g }
/-- The same field with a read-back rule that depends on the copy. -/
def fdAt (d : FieldD) (g : Nat → Nat → Nat) : FieldD := { d with norm := g }

/-- The read-back limits that the field tables use. -/
def clampN (lo hi v : Nat) : Nat := max lo (min hi v)
def atMost (hi v : Nat) : Nat := min hi v
def atLeast (lo v : Nat) : Nat := max lo v
def zeroOne (v : Nat) : Nat := if v = 0 then 1 else v
def asZero (k v : Nat) : Nat := if v = k then 0 else v
def within (lo hi v : Nat) : Bool := decide (lo ≤ v ∧ v ≤ hi)
/-- R76: a logMessageInterval from −7 to +4, in 8 bits. -/
def logInterval (v : Nat) : Bool := decide (v ≤ 4 ∨ (249 ≤ v ∧ v ≤ 255))
/-- NR_K: 1 to 5 read back as 6, above 16 as 16 (R378). -/
def nrK (v : Nat) : Nat := if v = 0 then 0 else max 6 (min 16 v)

/-- α of a signed 4-bit K (R204, R224): +4 to +7 read back as +3, and −8 as −7. -/
def alphaK (v : Nat) : Nat := if 4 ≤ v ∧ v ≤ 7 then 3 else if v = 8 then 9 else v
/-- STEP4.MIN_MHZ: the next higher frequency of R505. -/
def clockAbove (v : Nat) : Nat := if v ≤ 800 then 800 else if v ≤ 1000 then 1000 else if v ≤ 1200 then 1200 else if v ≤ 1400 then 1400 else 1600

/-- The reset counts of the control pools (R211). -/
def poolCountReset (c : Nat) : Nat := 65536 / 4 ^ c

/-- SEAT[s].PORTS[w] (R455): bits above port 517 read 0, and the bit of port 512 + s reads 1. -/
def seatPortsNorm (n v : Nat) : Nat :=
  if n % 17 = 16 then (v % 64) ||| 2 ^ (n / 17) else v

/-- The capacities of the indexed tables 0x04, 0x05, 0x06, 0x10, 0x20, 0x21, 0x22 and 0x23 (R165, R149, R241, R238, R239). -/
def regionSize (r : Nat) : Nat := [65536, 262144, 4096, 16384, 1024, 32768, 4096, 1024].getD r 0

/-- Reset of SEAT[s].PORTS[w] (R455): all ports that exist for seat 0, port 512 + s for the others. -/
def seatPortsReset (n : Nat) : Nat :=
  if n / 17 = 0 then (if n % 17 = 16 then 0x3F else 0xFFFFFFFF)
  else if n % 17 = 16 then 2 ^ (n / 17) else 0

/-- A parser descriptor: profile, descriptor number, byte offset, bit, length, role. -/
structure FldRow where
  f : Nat
  role : Nat
  untagged : Nat
  tagged : Nat
  bit : Nat
  len : Nat

/-- The five enabled descriptors of profile 0 at reset (ch. 05, after R146). -/
def fldRowsDefault : List FldRow :=
  [⟨0, 1, 0, 0, 0, 16⟩, ⟨1, 2, 2, 2, 0, 32⟩, ⟨2, 3, 6, 6, 0, 16⟩, ⟨3, 4, 8, 8, 0, 32⟩, ⟨4, 7, 12, 12, 0, 16⟩]
/-- The descriptors that all PTP profiles share (R561). -/
def fldRowsPtp : List FldRow :=
  [⟨0, 1, 0, 0, 0, 16⟩, ⟨1, 2, 2, 2, 0, 32⟩, ⟨2, 3, 6, 6, 0, 16⟩, ⟨3, 4, 8, 8, 0, 32⟩, ⟨4, 7, 12, 16, 0, 16⟩]
/-- The tag descriptors of profiles 59, 61 and 63 (R561). -/
def fldRowsTag : List FldRow := [⟨5, 6, 14, 14, 0, 3⟩, ⟨6, 5, 14, 14, 4, 12⟩]
/-- The IPv4 descriptors of profiles 60 and 61 (R561). -/
def fldRowsV4 : List FldRow :=
  [⟨7, 19, 15, 19, 0, 6⟩, ⟨8, 26, 18, 22, 0, 16⟩, ⟨9, 24, 20, 24, 0, 16⟩, ⟨10, 20, 22, 26, 0, 8⟩,
   ⟨11, 18, 23, 27, 0, 8⟩, ⟨12, 8, 26, 30, 0, 32⟩, ⟨13, 9, 30, 34, 0, 32⟩, ⟨14, 21, 34, 38, 0, 16⟩,
   ⟨15, 22, 36, 40, 0, 16⟩]
/-- The IPv6 descriptors of profiles 62 and 63 (R561). -/
def fldRowsV6 : List FldRow :=
  [⟨7, 19, 14, 18, 4, 6⟩, ⟨8, 18, 20, 24, 0, 8⟩, ⟨9, 20, 21, 25, 0, 8⟩,
   ⟨10, 10, 22, 26, 0, 32⟩, ⟨11, 11, 26, 30, 0, 32⟩, ⟨12, 12, 30, 34, 0, 32⟩, ⟨13, 13, 34, 38, 0, 32⟩,
   ⟨14, 14, 38, 42, 0, 32⟩, ⟨15, 15, 42, 46, 0, 32⟩, ⟨16, 16, 46, 50, 0, 32⟩, ⟨17, 17, 50, 54, 0, 32⟩,
   ⟨18, 21, 54, 58, 0, 16⟩, ⟨19, 22, 56, 60, 0, 16⟩]

/-- The descriptors a profile holds at reset. -/
def fldRows (p : Nat) : List FldRow :=
  if p = 0 then fldRowsDefault
  else if p < 58 then []
  else fldRowsPtp ++ (if p % 2 = 1 then fldRowsTag else [])
    ++ (if p = 60 ∨ p = 61 then fldRowsV4 else if p ≥ 62 then fldRowsV6 else [])

def fldRow? (n : Nat) : Option FldRow := (fldRows (n / 32)).find? (fun r => r.f == n % 32)
def fldResetOffset (n : Nat) : Nat :=
  match fldRow? n with | some r => if n / 32 % 2 = 1 then r.tagged else r.untagged | none => 0
def fldResetBit (n : Nat) : Nat := match fldRow? n with | some r => r.bit | none => 0
def fldResetLenM1 (n : Nat) : Nat := match fldRow? n with | some r => r.len - 1 | none => 0
def fldResetRole (n : Nat) : Nat := match fldRow? n with | some r => r.role | none => 0
def fldResetEn (n : Nat) : Nat := match fldRow? n with | some _ => 1 | none => 0

/-- The byte address of `SYS.DEVICE_ID` (R14). -/
def A.SYS_DEVICE_ID : Nat := 0x0
def F.SYS_DEVICE_ID_PART : Fld := ⟨A.SYS_DEVICE_ID, 1, 0x0, 1, 0x0, 16, 16, fun _ => 258⟩
def F.SYS_DEVICE_ID_STEP_LETTER : Fld := ⟨A.SYS_DEVICE_ID, 1, 0x0, 1, 0x0, 8, 8, fun _ => 65⟩
def F.SYS_DEVICE_ID_STEP_NUMBER : Fld := ⟨A.SYS_DEVICE_ID, 1, 0x0, 1, 0x0, 0, 8, fun _ => 1⟩
/-- The byte address of `SYS.CFG_GEN` (R136). -/
def A.SYS_CFG_GEN : Nat := 0x10
def F.SYS_CFG_GEN_CURRENT : Fld := ⟨A.SYS_CFG_GEN, 1, 0x0, 1, 0x0, 0, 4, fun _ => 0⟩
def F.SYS_CFG_GEN_PREVIOUS : Fld := ⟨A.SYS_CFG_GEN, 1, 0x0, 1, 0x0, 4, 4, fun _ => 15⟩
/-- The byte address of `SYS.CFG_GEN_TICK_LO` (R136). -/
def A.SYS_CFG_GEN_TICK_LO : Nat := 0x14
def F.SYS_CFG_GEN_TICK_LO_VALUE : Fld := ⟨A.SYS_CFG_GEN_TICK_LO, 1, 0x0, 1, 0x0, 0, 32, fun _ => 0⟩
/-- The byte address of `SYS.CFG_GEN_TICK_HI` (R136). -/
def A.SYS_CFG_GEN_TICK_HI : Nat := 0x18
def F.SYS_CFG_GEN_TICK_HI_VALUE : Fld := ⟨A.SYS_CFG_GEN_TICK_HI, 1, 0x0, 1, 0x0, 0, 32, fun _ => 0⟩
/-- The byte address of `SYS.BOOT_STATUS` (R559). -/
def A.SYS_BOOT_STATUS : Nat := 0x20
def F.SYS_BOOT_STATUS_TBASE_RUN : Fld := ⟨A.SYS_BOOT_STATUS, 1, 0x0, 1, 0x0, 0, 1, fun _ => 0⟩
def F.SYS_BOOT_STATUS_BUF_INIT : Fld := ⟨A.SYS_BOOT_STATUS, 1, 0x0, 1, 0x0, 1, 1, fun _ => 0⟩
def F.SYS_BOOT_STATUS_IMAGE_OK : Fld := ⟨A.SYS_BOOT_STATUS, 1, 0x0, 1, 0x0, 2, 1, fun _ => 0⟩
def F.SYS_BOOT_STATUS_IMAGE_FAILED : Fld := ⟨A.SYS_BOOT_STATUS, 1, 0x0, 1, 0x0, 3, 1, fun _ => 0⟩
def F.SYS_BOOT_STATUS_DRAFEN_READY : Fld := ⟨A.SYS_BOOT_STATUS, 1, 0x0, 1, 0x0, 4, 1, fun _ => 0⟩
def F.SYS_BOOT_STATUS_EVK_READY : Fld := ⟨A.SYS_BOOT_STATUS, 1, 0x0, 1, 0x0, 5, 1, fun _ => 0⟩
def F.SYS_BOOT_STATUS_MEM_TRAINED : Fld := ⟨A.SYS_BOOT_STATUS, 1, 0x0, 1, 0x0, 6, 1, fun _ => 0⟩
def F.SYS_BOOT_STATUS_EVR_READY : Fld := ⟨A.SYS_BOOT_STATUS, 1, 0x0, 1, 0x0, 7, 1, fun _ => 0⟩
/-- The byte address of `SYS.STRAP` (R559). -/
def A.SYS_STRAP : Nat := 0x24
def F.SYS_STRAP_VALUE : Fld := ⟨A.SYS_STRAP, 1, 0x0, 1, 0x0, 0, 8, fun _ => 0⟩
/-- The byte address of `SYS.RESET_CAUSE` (R559). -/
def A.SYS_RESET_CAUSE : Nat := 0x28
def F.SYS_RESET_CAUSE_PORST_PIN : Fld := ⟨A.SYS_RESET_CAUSE, 1, 0x0, 1, 0x0, 0, 1, fun _ => 1⟩
def F.SYS_RESET_CAUSE_SUPPLY : Fld := ⟨A.SYS_RESET_CAUSE, 1, 0x0, 1, 0x0, 1, 1, fun _ => 0⟩
def F.SYS_RESET_CAUSE_SYSRST_PIN : Fld := ⟨A.SYS_RESET_CAUSE, 1, 0x0, 1, 0x0, 2, 1, fun _ => 0⟩
def F.SYS_RESET_CAUSE_SW_RESET : Fld := ⟨A.SYS_RESET_CAUSE, 1, 0x0, 1, 0x0, 3, 1, fun _ => 0⟩
def F.SYS_RESET_CAUSE_THERMTRIP : Fld := ⟨A.SYS_RESET_CAUSE, 1, 0x0, 1, 0x0, 4, 1, fun _ => 0⟩
def F.SYS_RESET_CAUSE_SUPPLY_RAIL : Fld := ⟨A.SYS_RESET_CAUSE, 1, 0x0, 1, 0x0, 8, 3, fun _ => 0⟩
/-- The byte address of `SYS.SW_RESET` (R559). -/
def A.SYS_SW_RESET : Nat := 0x2C
def F.SYS_SW_RESET_KEY : Fld := ⟨A.SYS_SW_RESET, 1, 0x0, 1, 0x0, 0, 8, fun _ => 0⟩
def F.SYS_SW_RESET_GO : Fld := ⟨A.SYS_SW_RESET, 1, 0x0, 1, 0x0, 8, 1, fun _ => 0⟩
/-- The byte address of `TIM.STATUS` (R45). -/
def A.TIM_STATUS : Nat := 0x10000
def F.TIM_STATUS_RUN : Fld := ⟨A.TIM_STATUS, 1, 0x0, 1, 0x0, 0, 1, fun _ => 0⟩
def F.TIM_STATUS_TIME_VALID : Fld := ⟨A.TIM_STATUS, 1, 0x0, 1, 0x0, 1, 1, fun _ => 0⟩
def F.TIM_STATUS_TPLL_LOCK : Fld := ⟨A.TIM_STATUS, 1, 0x0, 1, 0x0, 2, 1, fun _ => 0⟩
def F.TIM_STATUS_VOTERS : Fld := ⟨A.TIM_STATUS, 1, 0x0, 1, 0x0, 4, 3, fun _ => 7⟩
/-- The byte address of `TIM.CANOPY_LO` (R44). -/
def A.TIM_CANOPY_LO : Nat := 0x10008
def F.TIM_CANOPY_LO_VALUE : Fld := ⟨A.TIM_CANOPY_LO, 1, 0x0, 1, 0x0, 0, 32, fun _ => 0⟩
/-- The byte address of `TIM.CANOPY_HI` (R44). -/
def A.TIM_CANOPY_HI : Nat := 0x1000C
def F.TIM_CANOPY_HI_VALUE : Fld := ⟨A.TIM_CANOPY_HI, 1, 0x0, 1, 0x0, 0, 32, fun _ => 0⟩
/-- The byte address of `TIM.EPOCH` (R44). -/
def A.TIM_EPOCH : Nat := 0x10010
def F.TIM_EPOCH_CURRENT : Fld := ⟨A.TIM_EPOCH, 1, 0x0, 1, 0x0, 0, 8, fun _ => 0⟩
/-- The byte address of `TIM.RATE` (R44). -/
def A.TIM_RATE : Nat := 0x10014
def F.TIM_RATE_VALUE : Fld := ⟨A.TIM_RATE, 1, 0x0, 1, 0x0, 0, 32, fun _ => 0⟩
/-- The byte address of `TIM.ANCHOR_LO` (R44). -/
def A.TIM_ANCHOR_LO : Nat := 0x10018
def F.TIM_ANCHOR_LO_VALUE : Fld := ⟨A.TIM_ANCHOR_LO, 1, 0x0, 1, 0x0, 0, 32, fun _ => 0⟩
/-- The byte address of `TIM.ANCHOR_HI` (R44). -/
def A.TIM_ANCHOR_HI : Nat := 0x1001C
def F.TIM_ANCHOR_HI_VALUE : Fld := ⟨A.TIM_ANCHOR_HI, 1, 0x0, 1, 0x0, 0, 32, fun _ => 0⟩
/-- The byte address of `TIM.OFFSET_SEC_LO` (R44). -/
def A.TIM_OFFSET_SEC_LO : Nat := 0x10020
def F.TIM_OFFSET_SEC_LO_VALUE : Fld := ⟨A.TIM_OFFSET_SEC_LO, 1, 0x0, 1, 0x0, 0, 32, fun _ => 0⟩
/-- The byte address of `TIM.OFFSET_SEC_HI` (R44). -/
def A.TIM_OFFSET_SEC_HI : Nat := 0x10024
def F.TIM_OFFSET_SEC_HI_VALUE : Fld := ⟨A.TIM_OFFSET_SEC_HI, 1, 0x0, 1, 0x0, 0, 16, fun _ => 0⟩
/-- The byte address of `TIM.OFFSET_NS` (R44). -/
def A.TIM_OFFSET_NS : Nat := 0x10028
def F.TIM_OFFSET_NS_VALUE : Fld := ⟨A.TIM_OFFSET_NS, 1, 0x0, 1, 0x0, 0, 30, fun _ => 0⟩
/-- The byte address of `TIM.OFFSET_FRAC` (R44). -/
def A.TIM_OFFSET_FRAC : Nat := 0x1002C
def F.TIM_OFFSET_FRAC_VALUE : Fld := ⟨A.TIM_OFFSET_FRAC, 1, 0x0, 1, 0x0, 0, 16, fun _ => 0⟩
/-- The byte address of `TIM.STEP_SEC_LO` (R44). -/
def A.TIM_STEP_SEC_LO : Nat := 0x10030
def F.TIM_STEP_SEC_LO_VALUE : Fld := ⟨A.TIM_STEP_SEC_LO, 1, 0x0, 1, 0x0, 0, 32, fun _ => 0⟩
/-- The byte address of `TIM.STEP_SEC_HI` (R44). -/
def A.TIM_STEP_SEC_HI : Nat := 0x10034
def F.TIM_STEP_SEC_HI_VALUE : Fld := ⟨A.TIM_STEP_SEC_HI, 1, 0x0, 1, 0x0, 0, 16, fun _ => 0⟩
/-- The byte address of `TIM.STEP_NS` (R44). -/
def A.TIM_STEP_NS : Nat := 0x10038
def F.TIM_STEP_NS_VALUE : Fld := ⟨A.TIM_STEP_NS, 1, 0x0, 1, 0x0, 0, 30, fun _ => 0⟩
/-- The byte address of `TIM.STEP_FRAC` (R44). -/
def A.TIM_STEP_FRAC : Nat := 0x1003C
def F.TIM_STEP_FRAC_VALUE : Fld := ⟨A.TIM_STEP_FRAC, 1, 0x0, 1, 0x0, 0, 16, fun _ => 0⟩
/-- The byte address of `TIM.STEP_CTRL` (R46). -/
def A.TIM_STEP_CTRL : Nat := 0x10040
def F.TIM_STEP_CTRL_GO : Fld := ⟨A.TIM_STEP_CTRL, 1, 0x0, 1, 0x0, 0, 1, fun _ => 0⟩
def F.TIM_STEP_CTRL_MODE : Fld := ⟨A.TIM_STEP_CTRL, 1, 0x0, 1, 0x0, 1, 1, fun _ => 0⟩
def F.TIM_STEP_CTRL_PENDING : Fld := ⟨A.TIM_STEP_CTRL, 1, 0x0, 1, 0x0, 2, 1, fun _ => 0⟩
/-- The byte address of `TIM.LAST_EPOCH_LO` (R44). -/
def A.TIM_LAST_EPOCH_LO : Nat := 0x10044
def F.TIM_LAST_EPOCH_LO_VALUE : Fld := ⟨A.TIM_LAST_EPOCH_LO, 1, 0x0, 1, 0x0, 0, 32, fun _ => 0⟩
/-- The byte address of `TIM.LAST_EPOCH_HI` (R44). -/
def A.TIM_LAST_EPOCH_HI : Nat := 0x10048
def F.TIM_LAST_EPOCH_HI_VALUE : Fld := ⟨A.TIM_LAST_EPOCH_HI, 1, 0x0, 1, 0x0, 0, 32, fun _ => 0⟩
/-- The byte address of `TIM.VOTE_CTRL` (R47). -/
def A.TIM_VOTE_CTRL : Nat := 0x10050
def F.TIM_VOTE_CTRL_RETIRE_LIMIT : Fld := ⟨A.TIM_VOTE_CTRL, 1, 0x0, 1, 0x0, 0, 4, fun _ => 4⟩
def F.TIM_VOTE_CTRL_REJOIN : Fld := ⟨A.TIM_VOTE_CTRL, 1, 0x0, 1, 0x0, 8, 3, fun _ => 0⟩
/-- The byte address of `TIM.VOTE_STATUS` (R47). -/
def A.TIM_VOTE_STATUS : Nat := 0x10054
def F.TIM_VOTE_STATUS_ACTIVE : Fld := ⟨A.TIM_VOTE_STATUS, 1, 0x0, 1, 0x0, 0, 3, fun _ => 7⟩
def F.TIM_VOTE_STATUS_LAST_ODD : Fld := ⟨A.TIM_VOTE_STATUS, 1, 0x0, 1, 0x0, 4, 3, fun _ => 0⟩
def F.TIM_VOTE_STATUS_REJOINING : Fld := ⟨A.TIM_VOTE_STATUS, 1, 0x0, 1, 0x0, 8, 3, fun _ => 0⟩
/-- The byte address of `TIM.VOTE_LAST_LO` (R44). -/
def A.TIM_VOTE_LAST_LO : Nat := 0x10058
def F.TIM_VOTE_LAST_LO_VALUE : Fld := ⟨A.TIM_VOTE_LAST_LO, 1, 0x0, 1, 0x0, 0, 32, fun _ => 0⟩
/-- The byte address of `TIM.VOTE_LAST_HI` (R44). -/
def A.TIM_VOTE_LAST_HI : Nat := 0x1005C
def F.TIM_VOTE_LAST_HI_VALUE : Fld := ⟨A.TIM_VOTE_LAST_HI, 1, 0x0, 1, 0x0, 0, 32, fun _ => 0⟩
/-- The byte address of `TIM.FOLLOW_STATUS` (R44). -/
def A.TIM_FOLLOW_STATUS : Nat := 0x10060
def F.TIM_FOLLOW_STATUS_MISMATCH : Fld := ⟨A.TIM_FOLLOW_STATUS, 1, 0x0, 1, 0x0, 0, 16, fun _ => 0⟩
/-- The byte address of `TIM.INT_STATUS` (R48). -/
def A.TIM_INT_STATUS : Nat := 0x10064
def F.TIM_INT_STATUS_EPOCH_CHANGE : Fld := ⟨A.TIM_INT_STATUS, 1, 0x0, 1, 0x0, 0, 1, fun _ => 0⟩
def F.TIM_INT_STATUS_DISAGREE : Fld := ⟨A.TIM_INT_STATUS, 1, 0x0, 1, 0x0, 1, 1, fun _ => 0⟩
def F.TIM_INT_STATUS_NO_MAJORITY : Fld := ⟨A.TIM_INT_STATUS, 1, 0x0, 1, 0x0, 2, 1, fun _ => 0⟩
def F.TIM_INT_STATUS_RETIRED : Fld := ⟨A.TIM_INT_STATUS, 1, 0x0, 1, 0x0, 3, 1, fun _ => 0⟩
def F.TIM_INT_STATUS_FOLLOW_MISMATCH : Fld := ⟨A.TIM_INT_STATUS, 1, 0x0, 1, 0x0, 4, 1, fun _ => 0⟩
def F.TIM_INT_STATUS_RATE_CLAMPED : Fld := ⟨A.TIM_INT_STATUS, 1, 0x0, 1, 0x0, 5, 1, fun _ => 0⟩
def F.TIM_INT_STATUS_TPLL_UNLOCK : Fld := ⟨A.TIM_INT_STATUS, 1, 0x0, 1, 0x0, 6, 1, fun _ => 0⟩
def F.TIM_INT_STATUS_STEP_DROPPED : Fld := ⟨A.TIM_INT_STATUS, 1, 0x0, 1, 0x0, 7, 1, fun _ => 0⟩
/-- The byte address of `TIM.INT_ENABLE` (R48). -/
def A.TIM_INT_ENABLE : Nat := 0x10068
def F.TIM_INT_ENABLE_VALUE : Fld := ⟨A.TIM_INT_ENABLE, 1, 0x0, 1, 0x0, 0, 8, fun _ => 0⟩
/-- The byte address of `TIM.SNAP_CTRL` (R49). -/
def A.TIM_SNAP_CTRL : Nat := 0x10100
def F.TIM_SNAP_CTRL_TAKE : Fld := ⟨A.TIM_SNAP_CTRL, 4, 0x40, 1, 0x0, 0, 1, fun _ => 0⟩
def F.TIM_SNAP_CTRL_DONE : Fld := ⟨A.TIM_SNAP_CTRL, 4, 0x40, 1, 0x0, 1, 1, fun _ => 0⟩
/-- The byte address of `TIM.SNAP_RAW_LO` (R49). -/
def A.TIM_SNAP_RAW_LO : Nat := 0x10104
def F.TIM_SNAP_RAW_LO_VALUE : Fld := ⟨A.TIM_SNAP_RAW_LO, 4, 0x40, 1, 0x0, 0, 32, fun _ => 0⟩
/-- The byte address of `TIM.SNAP_RAW_HI` (R49). -/
def A.TIM_SNAP_RAW_HI : Nat := 0x10108
def F.TIM_SNAP_RAW_HI_VALUE : Fld := ⟨A.TIM_SNAP_RAW_HI, 4, 0x40, 1, 0x0, 0, 32, fun _ => 0⟩
/-- The byte address of `TIM.SNAP_SEC_LO` (R49). -/
def A.TIM_SNAP_SEC_LO : Nat := 0x1010C
def F.TIM_SNAP_SEC_LO_VALUE : Fld := ⟨A.TIM_SNAP_SEC_LO, 4, 0x40, 1, 0x0, 0, 32, fun _ => 0⟩
/-- The byte address of `TIM.SNAP_SEC_HI` (R49). -/
def A.TIM_SNAP_SEC_HI : Nat := 0x10110
def F.TIM_SNAP_SEC_HI_VALUE : Fld := ⟨A.TIM_SNAP_SEC_HI, 4, 0x40, 1, 0x0, 0, 16, fun _ => 0⟩
/-- The byte address of `TIM.SNAP_NS` (R49). -/
def A.TIM_SNAP_NS : Nat := 0x10114
def F.TIM_SNAP_NS_VALUE : Fld := ⟨A.TIM_SNAP_NS, 4, 0x40, 1, 0x0, 0, 30, fun _ => 0⟩
/-- The byte address of `TIM.SNAP_FRAC` (R49). -/
def A.TIM_SNAP_FRAC : Nat := 0x10118
def F.TIM_SNAP_FRAC_VALUE : Fld := ⟨A.TIM_SNAP_FRAC, 4, 0x40, 1, 0x0, 0, 16, fun _ => 0⟩
/-- The byte address of `TIM.SNAP_EPOCH` (R49). -/
def A.TIM_SNAP_EPOCH : Nat := 0x1011C
def F.TIM_SNAP_EPOCH_VALUE : Fld := ⟨A.TIM_SNAP_EPOCH, 4, 0x40, 1, 0x0, 0, 8, fun _ => 0⟩
/-- The byte address of `SYN.SERVO_CTRL` (R108). -/
def A.SYN_SERVO_CTRL : Nat := 0x20000
def F.SYN_SERVO_CTRL_ENABLE : Fld := ⟨A.SYN_SERVO_CTRL, 1, 0x0, 1, 0x0, 0, 1, fun _ => 0⟩
def F.SYN_SERVO_CTRL_KP_SHIFT : Fld := ⟨A.SYN_SERVO_CTRL, 1, 0x0, 1, 0x0, 4, 4, fun _ => 1⟩
def F.SYN_SERVO_CTRL_KI_SHIFT : Fld := ⟨A.SYN_SERVO_CTRL, 1, 0x0, 1, 0x0, 8, 4, fun _ => 3⟩
def F.SYN_SERVO_CTRL_STEP_CONFIRM : Fld := ⟨A.SYN_SERVO_CTRL, 1, 0x0, 1, 0x0, 12, 4, fun _ => 3⟩
def F.SYN_SERVO_CTRL_LOSS_INTERVALS : Fld := ⟨A.SYN_SERVO_CTRL, 1, 0x0, 1, 0x0, 16, 4, fun _ => 4⟩
def F.SYN_SERVO_CTRL_LOCK_COUNT : Fld := ⟨A.SYN_SERVO_CTRL, 1, 0x0, 1, 0x0, 20, 4, fun _ => 4⟩
/-- The byte address of `SYN.SERVO_SRC` (R108). -/
def A.SYN_SERVO_SRC : Nat := 0x20004
def F.SYN_SERVO_SRC_ORDER : Fld := ⟨A.SYN_SERVO_SRC, 1, 0x0, 1, 0x0, 0, 16, fun _ => 65520⟩
/-- The byte address of `SYN.SERVO_STATUS` (R108). -/
def A.SYN_SERVO_STATUS : Nat := 0x20008
def F.SYN_SERVO_STATUS_STATE : Fld := ⟨A.SYN_SERVO_STATUS, 1, 0x0, 1, 0x0, 0, 3, fun _ => 0⟩
def F.SYN_SERVO_STATUS_SOURCE : Fld := ⟨A.SYN_SERVO_STATUS, 1, 0x0, 1, 0x0, 4, 4, fun _ => 15⟩
def F.SYN_SERVO_STATUS_REF_LOST : Fld := ⟨A.SYN_SERVO_STATUS, 1, 0x0, 1, 0x0, 8, 1, fun _ => 0⟩
/-- The byte address of `SYN.LOCK_NS` (R108). -/
def A.SYN_LOCK_NS : Nat := 0x2000C
def F.SYN_LOCK_NS_VALUE : Fld := ⟨A.SYN_LOCK_NS, 1, 0x0, 1, 0x0, 0, 16, fun _ => 20⟩
/-- The byte address of `SYN.LAST_OFFSET_LO` (R108). -/
def A.SYN_LAST_OFFSET_LO : Nat := 0x20010
def F.SYN_LAST_OFFSET_LO_VALUE : Fld := ⟨A.SYN_LAST_OFFSET_LO, 1, 0x0, 1, 0x0, 0, 32, fun _ => 0⟩
/-- The byte address of `SYN.LAST_OFFSET_HI` (R108). -/
def A.SYN_LAST_OFFSET_HI : Nat := 0x20014
def F.SYN_LAST_OFFSET_HI_VALUE : Fld := ⟨A.SYN_LAST_OFFSET_HI, 1, 0x0, 1, 0x0, 0, 32, fun _ => 0⟩
/-- The byte address of `SYN.FREQ` (R108). -/
def A.SYN_FREQ : Nat := 0x20018
def F.SYN_FREQ_VALUE : Fld := ⟨A.SYN_FREQ, 1, 0x0, 1, 0x0, 0, 32, fun _ => 0⟩
/-- The byte address of `SYN.SESSION` (R108). -/
def A.SYN_SESSION : Nat := 0x2001C
def F.SYN_SESSION_PHASE : Fld := ⟨A.SYN_SESSION, 1, 0x0, 1, 0x0, 0, 3, fun _ => 4⟩
/-- The byte address of `SYN.HOLD_START_LO` (R108). -/
def A.SYN_HOLD_START_LO : Nat := 0x20020
def F.SYN_HOLD_START_LO_VALUE : Fld := ⟨A.SYN_HOLD_START_LO, 1, 0x0, 1, 0x0, 0, 32, fun _ => 0⟩
/-- The byte address of `SYN.HOLD_START_HI` (R108). -/
def A.SYN_HOLD_START_HI : Nat := 0x20024
def F.SYN_HOLD_START_HI_VALUE : Fld := ⟨A.SYN_HOLD_START_HI, 1, 0x0, 1, 0x0, 0, 32, fun _ => 0⟩
/-- The byte address of `SYN.INT_STATUS` (R108). -/
def A.SYN_INT_STATUS : Nat := 0x20028
def F.SYN_INT_STATUS_STATE_CHANGE : Fld := ⟨A.SYN_INT_STATUS, 1, 0x0, 1, 0x0, 0, 1, fun _ => 0⟩
def F.SYN_INT_STATUS_STEP : Fld := ⟨A.SYN_INT_STATUS, 1, 0x0, 1, 0x0, 1, 1, fun _ => 0⟩
def F.SYN_INT_STATUS_SLEW_FAULT : Fld := ⟨A.SYN_INT_STATUS, 1, 0x0, 1, 0x0, 2, 1, fun _ => 0⟩
def F.SYN_INT_STATUS_HOLDOVER : Fld := ⟨A.SYN_INT_STATUS, 1, 0x0, 1, 0x0, 3, 1, fun _ => 0⟩
def F.SYN_INT_STATUS_SRC_SWITCH : Fld := ⟨A.SYN_INT_STATUS, 1, 0x0, 1, 0x0, 4, 1, fun _ => 0⟩
def F.SYN_INT_STATUS_REF_SWITCH : Fld := ⟨A.SYN_INT_STATUS, 1, 0x0, 1, 0x0, 5, 1, fun _ => 0⟩
def F.SYN_INT_STATUS_PPS_BAD : Fld := ⟨A.SYN_INT_STATUS, 1, 0x0, 1, 0x0, 6, 1, fun _ => 0⟩
def F.SYN_INT_STATUS_TOD_ERR : Fld := ⟨A.SYN_INT_STATUS, 1, 0x0, 1, 0x0, 7, 1, fun _ => 0⟩
def F.SYN_INT_STATUS_EVT_OVERFLOW : Fld := ⟨A.SYN_INT_STATUS, 1, 0x0, 1, 0x0, 8, 1, fun _ => 0⟩
def F.SYN_INT_STATUS_SCHED_LATE : Fld := ⟨A.SYN_INT_STATUS, 1, 0x0, 1, 0x0, 9, 1, fun _ => 0⟩
def F.SYN_INT_STATUS_STEP_DROPPED : Fld := ⟨A.SYN_INT_STATUS, 1, 0x0, 1, 0x0, 10, 1, fun _ => 0⟩
/-- The byte address of `SYN.INT_ENABLE` (R108). -/
def A.SYN_INT_ENABLE : Nat := 0x2002C
def F.SYN_INT_ENABLE_VALUE : Fld := ⟨A.SYN_INT_ENABLE, 1, 0x0, 1, 0x0, 0, 11, fun _ => 0⟩
/-- The byte address of `SYN.PTP_CFG` (R108). -/
def A.SYN_PTP_CFG : Nat := 0x20030
def F.SYN_PTP_CFG_HOST_SEAT : Fld := ⟨A.SYN_PTP_CFG, 1, 0x0, 1, 0x0, 0, 2, fun _ => 0⟩
/-- The byte address of `SYN.PHASE_STEP` (R109). -/
def A.SYN_PHASE_STEP : Nat := 0x20040
def F.SYN_PHASE_STEP_ALLOWED : Fld := ⟨A.SYN_PHASE_STEP, 5, 0x10, 1, 0x0, 0, 1, fun k => if k = 1 ∨ k = 2 then 0 else 1⟩
/-- The byte address of `SYN.PHASE_THRESH` (R109). -/
def A.SYN_PHASE_THRESH : Nat := 0x20044
def F.SYN_PHASE_THRESH_NS : Fld := ⟨A.SYN_PHASE_THRESH, 5, 0x10, 1, 0x0, 0, 32, fun _ => 1000⟩
/-- The byte address of `SYN.PHASE_SLEW` (R109). -/
def A.SYN_PHASE_SLEW : Nat := 0x20048
def F.SYN_PHASE_SLEW_PPB : Fld := ⟨A.SYN_PHASE_SLEW, 5, 0x10, 1, 0x0, 0, 18, fun k => if k = 1 ∨ k = 2 then 12800 else if k = 4 then 200000 else 100000⟩
/-- The byte address of `SYN.CLOCK_ID_LO` (R108). -/
def A.SYN_CLOCK_ID_LO : Nat := 0x200C0
def F.SYN_CLOCK_ID_LO_VALUE : Fld := ⟨A.SYN_CLOCK_ID_LO, 1, 0x0, 1, 0x0, 0, 32, fun _ => 0⟩
/-- The byte address of `SYN.CLOCK_ID_HI` (R108). -/
def A.SYN_CLOCK_ID_HI : Nat := 0x200C4
def F.SYN_CLOCK_ID_HI_VALUE : Fld := ⟨A.SYN_CLOCK_ID_HI, 1, 0x0, 1, 0x0, 0, 32, fun _ => 0⟩
/-- The byte address of `SYN.SRC_MAC_LO` (R108). -/
def A.SYN_SRC_MAC_LO : Nat := 0x200C8
def F.SYN_SRC_MAC_LO_VALUE : Fld := ⟨A.SYN_SRC_MAC_LO, 1, 0x0, 1, 0x0, 0, 32, fun _ => 0⟩
/-- The byte address of `SYN.SRC_MAC_HI` (R108). -/
def A.SYN_SRC_MAC_HI : Nat := 0x200CC
def F.SYN_SRC_MAC_HI_VALUE : Fld := ⟨A.SYN_SRC_MAC_HI, 1, 0x0, 1, 0x0, 0, 16, fun _ => 0⟩
/-- The byte address of `SYN.SRC_IPV4` (R108). -/
def A.SYN_SRC_IPV4 : Nat := 0x200D0
def F.SYN_SRC_IPV4_VALUE : Fld := ⟨A.SYN_SRC_IPV4, 1, 0x0, 1, 0x0, 0, 32, fun _ => 0⟩
/-- The byte address of `SYN.SRC_IPV6` (R108). -/
def A.SYN_SRC_IPV6 : Nat := 0x200D4
def F.SYN_SRC_IPV6_VALUE : Fld := ⟨A.SYN_SRC_IPV6, 4, 0x4, 1, 0x0, 0, 32, fun _ => 0⟩
/-- The byte address of `SYN.ASSOC_CTRL` (R109). -/
def A.SYN_ASSOC_CTRL : Nat := 0x20100
def F.SYN_ASSOC_CTRL_ENABLE : Fld := ⟨A.SYN_ASSOC_CTRL, 4, 0x40, 1, 0x0, 0, 1, fun _ => 0⟩
def F.SYN_ASSOC_CTRL_DELAY_MECH : Fld := ⟨A.SYN_ASSOC_CTRL, 4, 0x40, 1, 0x0, 1, 1, fun _ => 0⟩
def F.SYN_ASSOC_CTRL_TRANSPORT : Fld := ⟨A.SYN_ASSOC_CTRL, 4, 0x40, 1, 0x0, 2, 2, fun _ => 0⟩
def F.SYN_ASSOC_CTRL_PORT : Fld := ⟨A.SYN_ASSOC_CTRL, 4, 0x40, 1, 0x0, 4, 10, fun _ => 0⟩
def F.SYN_ASSOC_CTRL_DOMAIN : Fld := ⟨A.SYN_ASSOC_CTRL, 4, 0x40, 1, 0x0, 16, 8, fun _ => 0⟩
def F.SYN_ASSOC_CTRL_LOG_SYNC : Fld := ⟨A.SYN_ASSOC_CTRL, 4, 0x40, 1, 0x0, 24, 8, fun _ => 249⟩
/-- The byte address of `SYN.ASSOC_VLAN` (R109). -/
def A.SYN_ASSOC_VLAN : Nat := 0x20104
def F.SYN_ASSOC_VLAN_VID : Fld := ⟨A.SYN_ASSOC_VLAN, 4, 0x40, 1, 0x0, 0, 12, fun _ => 0⟩
def F.SYN_ASSOC_VLAN_TAGGED : Fld := ⟨A.SYN_ASSOC_VLAN, 4, 0x40, 1, 0x0, 12, 1, fun _ => 0⟩
def F.SYN_ASSOC_VLAN_PCP : Fld := ⟨A.SYN_ASSOC_VLAN, 4, 0x40, 1, 0x0, 13, 3, fun _ => 7⟩
def F.SYN_ASSOC_VLAN_LOG_DELAY_REQ : Fld := ⟨A.SYN_ASSOC_VLAN, 4, 0x40, 1, 0x0, 16, 8, fun _ => 252⟩
/-- The byte address of `SYN.MASTER_ID_LO` (R109). -/
def A.SYN_MASTER_ID_LO : Nat := 0x20108
def F.SYN_MASTER_ID_LO_VALUE : Fld := ⟨A.SYN_MASTER_ID_LO, 4, 0x40, 1, 0x0, 0, 32, fun _ => 0⟩
/-- The byte address of `SYN.MASTER_ID_HI` (R109). -/
def A.SYN_MASTER_ID_HI : Nat := 0x2010C
def F.SYN_MASTER_ID_HI_VALUE : Fld := ⟨A.SYN_MASTER_ID_HI, 4, 0x40, 1, 0x0, 0, 32, fun _ => 0⟩
/-- The byte address of `SYN.MASTER_PORT` (R109). -/
def A.SYN_MASTER_PORT : Nat := 0x20110
def F.SYN_MASTER_PORT_VALUE : Fld := ⟨A.SYN_MASTER_PORT, 4, 0x40, 1, 0x0, 0, 16, fun _ => 0⟩
/-- The byte address of `SYN.ASSOC_FILTER` (R109). -/
def A.SYN_ASSOC_FILTER : Nat := 0x20114
def F.SYN_ASSOC_FILTER_PD_SHIFT : Fld := ⟨A.SYN_ASSOC_FILTER, 4, 0x40, 1, 0x0, 0, 4, fun _ => 4⟩
/-- The byte address of `SYN.MEAN_PATH_LO` (R109). -/
def A.SYN_MEAN_PATH_LO : Nat := 0x20118
def F.SYN_MEAN_PATH_LO_VALUE : Fld := ⟨A.SYN_MEAN_PATH_LO, 4, 0x40, 1, 0x0, 0, 32, fun _ => 0⟩
/-- The byte address of `SYN.MEAN_PATH_HI` (R109). -/
def A.SYN_MEAN_PATH_HI : Nat := 0x2011C
def F.SYN_MEAN_PATH_HI_VALUE : Fld := ⟨A.SYN_MEAN_PATH_HI, 4, 0x40, 1, 0x0, 0, 32, fun _ => 0⟩
/-- The byte address of `SYN.ASSOC_ASYM` (R109). -/
def A.SYN_ASSOC_ASYM : Nat := 0x20120
def F.SYN_ASSOC_ASYM_VALUE : Fld := ⟨A.SYN_ASSOC_ASYM, 4, 0x40, 1, 0x0, 0, 32, fun _ => 0⟩
/-- The byte address of `SYN.ASSOC_STATUS` (R109). -/
def A.SYN_ASSOC_STATUS : Nat := 0x20124
def F.SYN_ASSOC_STATUS_VALID : Fld := ⟨A.SYN_ASSOC_STATUS, 4, 0x40, 1, 0x0, 0, 1, fun _ => 0⟩
def F.SYN_ASSOC_STATUS_LAST_SEQ : Fld := ⟨A.SYN_ASSOC_STATUS, 4, 0x40, 1, 0x0, 16, 16, fun _ => 0⟩
/-- The byte address of `SYN.PPS_IN_CTRL` (R110). -/
def A.SYN_PPS_IN_CTRL : Nat := 0x20200
def F.SYN_PPS_IN_CTRL_ENABLE : Fld := ⟨A.SYN_PPS_IN_CTRL, 2, 0x20, 1, 0x0, 0, 1, fun _ => 0⟩
def F.SYN_PPS_IN_CTRL_EDGE : Fld := ⟨A.SYN_PPS_IN_CTRL, 2, 0x20, 1, 0x0, 1, 1, fun _ => 0⟩
def F.SYN_PPS_IN_CTRL_TOD_USE : Fld := ⟨A.SYN_PPS_IN_CTRL, 2, 0x20, 1, 0x0, 2, 1, fun _ => 0⟩
/-- The byte address of `SYN.PPS_IN_DELAY` (R110). -/
def A.SYN_PPS_IN_DELAY : Nat := 0x20204
def F.SYN_PPS_IN_DELAY_VALUE : Fld := ⟨A.SYN_PPS_IN_DELAY, 2, 0x20, 1, 0x0, 0, 32, fun _ => 0⟩
/-- The byte address of `SYN.PPS_IN_RAW_LO` (R110). -/
def A.SYN_PPS_IN_RAW_LO : Nat := 0x20208
def F.SYN_PPS_IN_RAW_LO_VALUE : Fld := ⟨A.SYN_PPS_IN_RAW_LO, 2, 0x20, 1, 0x0, 0, 32, fun _ => 0⟩
/-- The byte address of `SYN.PPS_IN_RAW_HI` (R110). -/
def A.SYN_PPS_IN_RAW_HI : Nat := 0x2020C
def F.SYN_PPS_IN_RAW_HI_VALUE : Fld := ⟨A.SYN_PPS_IN_RAW_HI, 2, 0x20, 1, 0x0, 0, 32, fun _ => 0⟩
/-- The byte address of `SYN.PPS_IN_SUB` (R110). -/
def A.SYN_PPS_IN_SUB : Nat := 0x20210
def F.SYN_PPS_IN_SUB_VALUE : Fld := ⟨A.SYN_PPS_IN_SUB, 2, 0x20, 1, 0x0, 0, 4, fun _ => 0⟩
/-- The byte address of `SYN.PPS_IN_OFS_LO` (R110). -/
def A.SYN_PPS_IN_OFS_LO : Nat := 0x20214
def F.SYN_PPS_IN_OFS_LO_VALUE : Fld := ⟨A.SYN_PPS_IN_OFS_LO, 2, 0x20, 1, 0x0, 0, 32, fun _ => 0⟩
/-- The byte address of `SYN.PPS_IN_OFS_HI` (R110). -/
def A.SYN_PPS_IN_OFS_HI : Nat := 0x20218
def F.SYN_PPS_IN_OFS_HI_VALUE : Fld := ⟨A.SYN_PPS_IN_OFS_HI, 2, 0x20, 1, 0x0, 0, 32, fun _ => 0⟩
/-- The byte address of `SYN.PPS_OUT_CTRL` (R110). -/
def A.SYN_PPS_OUT_CTRL : Nat := 0x20280
def F.SYN_PPS_OUT_CTRL_ENABLE : Fld := ⟨A.SYN_PPS_OUT_CTRL, 2, 0x10, 1, 0x0, 0, 1, fun _ => 0⟩
/-- The byte address of `SYN.PPS_OUT_OFS` (R110). -/
def A.SYN_PPS_OUT_OFS : Nat := 0x20284
def F.SYN_PPS_OUT_OFS_OFFSET_NS : Fld := ⟨A.SYN_PPS_OUT_OFS, 2, 0x10, 1, 0x0, 0, 32, fun _ => 0⟩
/-- The byte address of `SYN.PPS_OUT_WIDTH` (R110). -/
def A.SYN_PPS_OUT_WIDTH : Nat := 0x20288
def F.SYN_PPS_OUT_WIDTH_WIDTH_US : Fld := ⟨A.SYN_PPS_OUT_WIDTH, 2, 0x10, 1, 0x0, 0, 20, fun _ => 100000⟩
/-- The byte address of `SYN.REF_CTRL` (R110). -/
def A.SYN_REF_CTRL : Nat := 0x20300
def F.SYN_REF_CTRL_ORDER : Fld := ⟨A.SYN_REF_CTRL, 1, 0x0, 1, 0x0, 0, 6, fun _ => 60⟩
def F.SYN_REF_CTRL_REVERT : Fld := ⟨A.SYN_REF_CTRL, 1, 0x0, 1, 0x0, 12, 1, fun _ => 0⟩
def F.SYN_REF_CTRL_TOL_PPM : Fld := ⟨A.SYN_REF_CTRL, 1, 0x0, 1, 0x0, 16, 8, fun _ => 50⟩
def F.SYN_REF_CTRL_A_25M : Fld := ⟨A.SYN_REF_CTRL, 1, 0x0, 1, 0x0, 8, 1, fun _ => 0⟩
def F.SYN_REF_CTRL_B_25M : Fld := ⟨A.SYN_REF_CTRL, 1, 0x0, 1, 0x0, 9, 1, fun _ => 0⟩
/-- The byte address of `SYN.REF_STATUS` (R110). -/
def A.SYN_REF_STATUS : Nat := 0x20304
def F.SYN_REF_STATUS_CURRENT : Fld := ⟨A.SYN_REF_STATUS, 1, 0x0, 1, 0x0, 0, 2, fun _ => 0⟩
def F.SYN_REF_STATUS_GOOD : Fld := ⟨A.SYN_REF_STATUS, 1, 0x0, 1, 0x0, 4, 3, fun _ => 0⟩
/-- The byte address of `SYN.TOD_CTRL` (R110). -/
def A.SYN_TOD_CTRL : Nat := 0x20320
def F.SYN_TOD_CTRL_BAUD : Fld := ⟨A.SYN_TOD_CTRL, 1, 0x0, 1, 0x0, 4, 3, fun _ => 4⟩
def F.SYN_TOD_CTRL_RX_SRC : Fld := ⟨A.SYN_TOD_CTRL, 1, 0x0, 1, 0x0, 8, 1, fun _ => 0⟩
def F.SYN_TOD_CTRL_RX_EN : Fld := ⟨A.SYN_TOD_CTRL, 1, 0x0, 1, 0x0, 0, 1, fun _ => 0⟩
def F.SYN_TOD_CTRL_TX_EN : Fld := ⟨A.SYN_TOD_CTRL, 1, 0x0, 1, 0x0, 1, 1, fun _ => 0⟩
/-- The byte address of `SYN.TOD_STATUS` (R110). -/
def A.SYN_TOD_STATUS : Nat := 0x20324
def F.SYN_TOD_STATUS_LABEL_VALID : Fld := ⟨A.SYN_TOD_STATUS, 1, 0x0, 1, 0x0, 0, 1, fun _ => 0⟩
/-- The byte address of `SYN.TOD_SEC_LO` (R110). -/
def A.SYN_TOD_SEC_LO : Nat := 0x20328
def F.SYN_TOD_SEC_LO_VALUE : Fld := ⟨A.SYN_TOD_SEC_LO, 1, 0x0, 1, 0x0, 0, 32, fun _ => 0⟩
/-- The byte address of `SYN.TOD_SEC_HI` (R110). -/
def A.SYN_TOD_SEC_HI : Nat := 0x2032C
def F.SYN_TOD_SEC_HI_VALUE : Fld := ⟨A.SYN_TOD_SEC_HI, 1, 0x0, 1, 0x0, 0, 16, fun _ => 0⟩
/-- The byte address of `SYN.EVTI_CTRL` (R111). -/
def A.SYN_EVTI_CTRL : Nat := 0x20400
def F.SYN_EVTI_CTRL_ENABLE : Fld := ⟨A.SYN_EVTI_CTRL, 8, 0x20, 1, 0x0, 0, 1, fun _ => 0⟩
def F.SYN_EVTI_CTRL_EDGE : Fld := ⟨A.SYN_EVTI_CTRL, 8, 0x20, 1, 0x0, 1, 2, fun _ => 0⟩
def F.SYN_EVTI_CTRL_RECORD : Fld := ⟨A.SYN_EVTI_CTRL, 8, 0x20, 1, 0x0, 3, 1, fun _ => 0⟩
def F.SYN_EVTI_CTRL_POP : Fld := ⟨A.SYN_EVTI_CTRL, 8, 0x20, 1, 0x0, 8, 1, fun _ => 0⟩
/-- The byte address of `SYN.EVTI_DELAY` (R111). -/
def A.SYN_EVTI_DELAY : Nat := 0x20404
def F.SYN_EVTI_DELAY_VALUE : Fld := ⟨A.SYN_EVTI_DELAY, 8, 0x20, 1, 0x0, 0, 16, fun _ => 0⟩
/-- The byte address of `SYN.EVTI_HEAD_LO` (R111). -/
def A.SYN_EVTI_HEAD_LO : Nat := 0x20408
def F.SYN_EVTI_HEAD_LO_VALUE : Fld := ⟨A.SYN_EVTI_HEAD_LO, 8, 0x20, 1, 0x0, 0, 32, fun _ => 0⟩
/-- The byte address of `SYN.EVTI_HEAD_HI` (R111). -/
def A.SYN_EVTI_HEAD_HI : Nat := 0x2040C
def F.SYN_EVTI_HEAD_HI_VALUE : Fld := ⟨A.SYN_EVTI_HEAD_HI, 8, 0x20, 1, 0x0, 0, 32, fun _ => 0⟩
/-- The byte address of `SYN.EVTI_INFO` (R111). -/
def A.SYN_EVTI_INFO : Nat := 0x20410
def F.SYN_EVTI_INFO_SUB : Fld := ⟨A.SYN_EVTI_INFO, 8, 0x20, 1, 0x0, 0, 4, fun _ => 0⟩
def F.SYN_EVTI_INFO_RISE : Fld := ⟨A.SYN_EVTI_INFO, 8, 0x20, 1, 0x0, 4, 1, fun _ => 0⟩
def F.SYN_EVTI_INFO_COUNT : Fld := ⟨A.SYN_EVTI_INFO, 8, 0x20, 1, 0x0, 8, 5, fun _ => 0⟩
def F.SYN_EVTI_INFO_OVERFLOW : Fld := ⟨A.SYN_EVTI_INFO, 8, 0x20, 1, 0x0, 16, 1, fun _ => 0⟩
/-- The byte address of `SYN.EVTO_CTRL` (R111). -/
def A.SYN_EVTO_CTRL : Nat := 0x20500
def F.SYN_EVTO_CTRL_MODE : Fld := ⟨A.SYN_EVTO_CTRL, 8, 0x20, 1, 0x0, 0, 2, fun _ => 0⟩
def F.SYN_EVTO_CTRL_LEVEL : Fld := ⟨A.SYN_EVTO_CTRL, 8, 0x20, 1, 0x0, 2, 1, fun _ => 0⟩
def F.SYN_EVTO_CTRL_MIRROR_SRC : Fld := ⟨A.SYN_EVTO_CTRL, 8, 0x20, 1, 0x0, 4, 3, fun _ => 0⟩
def F.SYN_EVTO_CTRL_INVERT : Fld := ⟨A.SYN_EVTO_CTRL, 8, 0x20, 1, 0x0, 7, 1, fun _ => 0⟩
/-- The byte address of `SYN.EVTO_START_SEC_LO` (R111). -/
def A.SYN_EVTO_START_SEC_LO : Nat := 0x20504
def F.SYN_EVTO_START_SEC_LO_VALUE : Fld := ⟨A.SYN_EVTO_START_SEC_LO, 8, 0x20, 1, 0x0, 0, 32, fun _ => 0⟩
/-- The byte address of `SYN.EVTO_START_SEC_HI` (R111). -/
def A.SYN_EVTO_START_SEC_HI : Nat := 0x20508
def F.SYN_EVTO_START_SEC_HI_VALUE : Fld := ⟨A.SYN_EVTO_START_SEC_HI, 8, 0x20, 1, 0x0, 0, 16, fun _ => 0⟩
/-- The byte address of `SYN.EVTO_START_NS` (R111). -/
def A.SYN_EVTO_START_NS : Nat := 0x2050C
def F.SYN_EVTO_START_NS_NS : Fld := ⟨A.SYN_EVTO_START_NS, 8, 0x20, 1, 0x0, 0, 30, fun _ => 0⟩
/-- The byte address of `SYN.EVTO_PERIOD` (R111). -/
def A.SYN_EVTO_PERIOD : Nat := 0x20510
def F.SYN_EVTO_PERIOD_NS : Fld := ⟨A.SYN_EVTO_PERIOD, 8, 0x20, 1, 0x0, 0, 32, fun _ => 1000000⟩
/-- The byte address of `SYN.EVTO_WIDTH` (R111). -/
def A.SYN_EVTO_WIDTH : Nat := 0x20514
def F.SYN_EVTO_WIDTH_NS : Fld := ⟨A.SYN_EVTO_WIDTH, 8, 0x20, 1, 0x0, 0, 32, fun _ => 100⟩
/-- The byte address of `SYN.SCHED_STATUS` (R111). -/
def A.SYN_SCHED_STATUS : Nat := 0x20600
def F.SYN_SCHED_STATUS_PENDING : Fld := ⟨A.SYN_SCHED_STATUS, 1, 0x0, 1, 0x0, 0, 9, fun _ => 0⟩
/-- The byte address of `SYN.SCHED_LAST_ID` (R111). -/
def A.SYN_SCHED_LAST_ID : Nat := 0x20604
def F.SYN_SCHED_LAST_ID_VALUE : Fld := ⟨A.SYN_SCHED_LAST_ID, 1, 0x0, 1, 0x0, 0, 32, fun _ => 0⟩
/-- The byte address of `SYN.SCHED_LAST_TICK_LO` (R111). -/
def A.SYN_SCHED_LAST_TICK_LO : Nat := 0x20608
def F.SYN_SCHED_LAST_TICK_LO_VALUE : Fld := ⟨A.SYN_SCHED_LAST_TICK_LO, 1, 0x0, 1, 0x0, 0, 32, fun _ => 0⟩
/-- The byte address of `SYN.SCHED_LAST_TICK_HI` (R111). -/
def A.SYN_SCHED_LAST_TICK_HI : Nat := 0x2060C
def F.SYN_SCHED_LAST_TICK_HI_VALUE : Fld := ⟨A.SYN_SCHED_LAST_TICK_HI, 1, 0x0, 1, 0x0, 0, 32, fun _ => 0⟩
/-- The byte address of `SYN.MPORT_CTRL` (R110). -/
def A.SYN_MPORT_CTRL : Nat := 0x21000
def F.SYN_MPORT_CTRL_ROLE : Fld := ⟨A.SYN_MPORT_CTRL, 512, 0x8, 1, 0x0, 0, 2, fun _ => 0⟩
def F.SYN_MPORT_CTRL_TWO_STEP : Fld := ⟨A.SYN_MPORT_CTRL, 512, 0x8, 1, 0x0, 2, 1, fun _ => 1⟩
def F.SYN_MPORT_CTRL_DELAY_MECH : Fld := ⟨A.SYN_MPORT_CTRL, 512, 0x8, 1, 0x0, 3, 1, fun _ => 0⟩
def F.SYN_MPORT_CTRL_TRANSPORT : Fld := ⟨A.SYN_MPORT_CTRL, 512, 0x8, 1, 0x0, 4, 2, fun _ => 0⟩
def F.SYN_MPORT_CTRL_DOMAIN : Fld := ⟨A.SYN_MPORT_CTRL, 512, 0x8, 1, 0x0, 8, 8, fun _ => 0⟩
def F.SYN_MPORT_CTRL_LOG_SYNC : Fld := ⟨A.SYN_MPORT_CTRL, 512, 0x8, 1, 0x0, 16, 8, fun _ => 249⟩
/-- The byte address of `SYN.MPORT_LINK` (R110). -/
def A.SYN_MPORT_LINK : Nat := 0x21004
def F.SYN_MPORT_LINK_LINK_DELAY : Fld := ⟨A.SYN_MPORT_LINK, 512, 0x8, 1, 0x0, 0, 32, fun _ => 0⟩
/-- The byte address of `TSU.CAL_CTRL` (R73). -/
def A.TSU_CAL_CTRL : Nat := 0x30000
def F.TSU_CAL_CTRL_PORT : Fld := ⟨A.TSU_CAL_CTRL, 1, 0x0, 1, 0x0, 0, 10, fun _ => 0⟩
def F.TSU_CAL_CTRL_GO : Fld := ⟨A.TSU_CAL_CTRL, 1, 0x0, 1, 0x0, 12, 1, fun _ => 0⟩
def F.TSU_CAL_CTRL_APPLY : Fld := ⟨A.TSU_CAL_CTRL, 1, 0x0, 1, 0x0, 13, 1, fun _ => 1⟩
def F.TSU_CAL_CTRL_CAL_COUNT : Fld := ⟨A.TSU_CAL_CTRL, 1, 0x0, 1, 0x0, 16, 4, fun _ => 8⟩
/-- The byte address of `TSU.CAL_STATUS` (R73). -/
def A.TSU_CAL_STATUS : Nat := 0x30004
def F.TSU_CAL_STATUS_BUSY : Fld := ⟨A.TSU_CAL_STATUS, 1, 0x0, 1, 0x0, 0, 1, fun _ => 0⟩
def F.TSU_CAL_STATUS_DONE : Fld := ⟨A.TSU_CAL_STATUS, 1, 0x0, 1, 0x0, 1, 1, fun _ => 0⟩
def F.TSU_CAL_STATUS_RESULT : Fld := ⟨A.TSU_CAL_STATUS, 1, 0x0, 1, 0x0, 2, 2, fun _ => 0⟩
/-- The byte address of `TSU.CAL_SUM` (R73). -/
def A.TSU_CAL_SUM : Nat := 0x30008
def F.TSU_CAL_SUM_VALUE : Fld := ⟨A.TSU_CAL_SUM, 1, 0x0, 1, 0x0, 0, 24, fun _ => 0⟩
/-- The byte address of `TSU.INT_STATUS` (R73). -/
def A.TSU_INT_STATUS : Nat := 0x30010
def F.TSU_INT_STATUS_CAL_DONE : Fld := ⟨A.TSU_INT_STATUS, 1, 0x0, 1, 0x0, 0, 1, fun _ => 0⟩
def F.TSU_INT_STATUS_CAL_FAIL : Fld := ⟨A.TSU_INT_STATUS, 1, 0x0, 1, 0x0, 1, 1, fun _ => 0⟩
def F.TSU_INT_STATUS_CAL_STALE : Fld := ⟨A.TSU_INT_STATUS, 1, 0x0, 1, 0x0, 2, 1, fun _ => 0⟩
def F.TSU_INT_STATUS_HIST_OVERRUN : Fld := ⟨A.TSU_INT_STATUS, 1, 0x0, 1, 0x0, 3, 1, fun _ => 0⟩
/-- The byte address of `TSU.INT_ENABLE` (R73). -/
def A.TSU_INT_ENABLE : Nat := 0x30014
def F.TSU_INT_ENABLE_VALUE : Fld := ⟨A.TSU_INT_ENABLE, 1, 0x0, 1, 0x0, 0, 4, fun _ => 0⟩
/-- The byte address of `TSU.NOM_ING` (R75). -/
def A.TSU_NOM_ING : Nat := 0x30100
def F.TSU_NOM_ING_VALUE : Fld := ⟨A.TSU_NOM_ING, 16, 0x10, 1, 0x0, 0, 20, fun m => Config.fusedNomIng m⟩
/-- The byte address of `TSU.NOM_EGR` (R75). -/
def A.TSU_NOM_EGR : Nat := 0x30104
def F.TSU_NOM_EGR_VALUE : Fld := ⟨A.TSU_NOM_EGR, 16, 0x10, 1, 0x0, 0, 20, fun m => Config.fusedNomEgr m⟩
/-- The byte address of `TSU.TEMPCO` (R75). -/
def A.TSU_TEMPCO : Nat := 0x30108
def F.TSU_TEMPCO_VALUE : Fld := ⟨A.TSU_TEMPCO, 16, 0x10, 1, 0x0, 0, 16, fun m => Config.fusedTempco m⟩
/-- The byte address of `TSU.LB_DELAY` (R75). -/
def A.TSU_LB_DELAY : Nat := 0x30200
def F.TSU_LB_DELAY_VALUE : Fld := ⟨A.TSU_LB_DELAY, 16, 0x4, 1, 0x0, 0, 12, fun g => Config.fusedLbDelay g⟩
/-- The byte address of `TSU.ING_DELAY` (R74). -/
def A.TSU_ING_DELAY : Nat := 0x31000
def F.TSU_ING_DELAY_VALUE : Fld := ⟨A.TSU_ING_DELAY, 518, 0x20, 1, 0x0, 0, 20, fun p => if p < 512 then Config.fusedNomIng 5 else 0⟩
/-- The byte address of `TSU.EGR_DELAY` (R74). -/
def A.TSU_EGR_DELAY : Nat := 0x31004
def F.TSU_EGR_DELAY_VALUE : Fld := ⟨A.TSU_EGR_DELAY, 518, 0x20, 1, 0x0, 0, 20, fun p => if p < 512 then Config.fusedNomEgr 5 else 0⟩
/-- The byte address of `TSU.PORT_CFG` (R74). -/
def A.TSU_PORT_CFG : Nat := 0x31008
def F.TSU_PORT_CFG_TRL_INSERT : Fld := ⟨A.TSU_PORT_CFG, 518, 0x20, 1, 0x0, 0, 1, fun _ => 0⟩
def F.TSU_PORT_CFG_TRL_STRIP : Fld := ⟨A.TSU_PORT_CFG, 518, 0x20, 1, 0x0, 1, 1, fun _ => 0⟩
def F.TSU_PORT_CFG_ONE_STEP : Fld := ⟨A.TSU_PORT_CFG, 518, 0x20, 1, 0x0, 2, 1, fun _ => 0⟩
def F.TSU_PORT_CFG_TEMP_COMP : Fld := ⟨A.TSU_PORT_CFG, 518, 0x20, 1, 0x0, 3, 1, fun _ => 1⟩
def F.TSU_PORT_CFG_SPLIT : Fld := ⟨A.TSU_PORT_CFG, 518, 0x20, 1, 0x0, 8, 8, fun _ => 128⟩
/-- The byte address of `TSU.PORT_STATUS` (R74). -/
def A.TSU_PORT_STATUS : Nat := 0x3100C
def F.TSU_PORT_STATUS_CALIBRATED : Fld := ⟨A.TSU_PORT_STATUS, 518, 0x20, 1, 0x0, 0, 1, fun _ => 0⟩
def F.TSU_PORT_STATUS_CAL_STALE : Fld := ⟨A.TSU_PORT_STATUS, 518, 0x20, 1, 0x0, 1, 1, fun _ => 0⟩
def F.TSU_PORT_STATUS_MODE : Fld := ⟨A.TSU_PORT_STATUS, 518, 0x20, 1, 0x0, 4, 4, fun p => if p < 512 then 5 else 0⟩
def F.TSU_PORT_STATUS_CAL_TEMP : Fld := ⟨A.TSU_PORT_STATUS, 518, 0x20, 1, 0x0, 16, 8, fun _ => 0⟩
/-- The byte address of `TSU.VAR_DESKEW` (R74). -/
def A.TSU_VAR_DESKEW : Nat := 0x31010
def F.TSU_VAR_DESKEW_VALUE : Fld := ⟨A.TSU_VAR_DESKEW, 518, 0x20, 1, 0x0, 0, 16, fun _ => 0⟩
/-- The byte address of `TSU.TEMP_CORR` (R74). -/
def A.TSU_TEMP_CORR : Nat := 0x31014
def F.TSU_TEMP_CORR_VALUE : Fld := ⟨A.TSU_TEMP_CORR, 518, 0x20, 1, 0x0, 0, 16, fun _ => 0⟩
/-- The byte address of `PRS.SEL_CTRL` (R162). -/
def A.PRS_SEL_CTRL : Nat := 0x100100
def F.PRS_SEL_CTRL_VALID : Fld := ⟨A.PRS_SEL_CTRL, 64, 0x20, 1, 0x0, 0, 1, fun _ => 0⟩
def F.PRS_SEL_CTRL_PROFILE : Fld := ⟨A.PRS_SEL_CTRL, 64, 0x20, 1, 0x0, 8, 6, fun _ => 0⟩
def F.PRS_SEL_CTRL_PCLASS_MASK : Fld := ⟨A.PRS_SEL_CTRL, 64, 0x20, 1, 0x0, 16, 16, fun _ => 65535⟩
/-- The byte address of `PRS.SEL_OFFS` (R162). -/
def A.PRS_SEL_OFFS : Nat := 0x100104
def F.PRS_SEL_OFFS_OFF0 : Fld := ⟨A.PRS_SEL_OFFS, 64, 0x20, 1, 0x0, 0, 7, fun _ => 0⟩
def F.PRS_SEL_OFFS_OFF1 : Fld := ⟨A.PRS_SEL_OFFS, 64, 0x20, 1, 0x0, 8, 7, fun _ => 0⟩
def F.PRS_SEL_OFFS_OFF2 : Fld := ⟨A.PRS_SEL_OFFS, 64, 0x20, 1, 0x0, 16, 7, fun _ => 0⟩
/-- The byte address of `PRS.SEL_CMP0` (R162). -/
def A.PRS_SEL_CMP0 : Nat := 0x100108
def F.PRS_SEL_CMP0_MASK : Fld := ⟨A.PRS_SEL_CMP0, 64, 0x20, 1, 0x0, 0, 16, fun _ => 0⟩
def F.PRS_SEL_CMP0_VALUE : Fld := ⟨A.PRS_SEL_CMP0, 64, 0x20, 1, 0x0, 16, 16, fun _ => 0⟩
/-- The byte address of `PRS.SEL_CMP1` (R162). -/
def A.PRS_SEL_CMP1 : Nat := 0x10010C
def F.PRS_SEL_CMP1_MASK : Fld := ⟨A.PRS_SEL_CMP1, 64, 0x20, 1, 0x0, 0, 16, fun _ => 0⟩
def F.PRS_SEL_CMP1_VALUE : Fld := ⟨A.PRS_SEL_CMP1, 64, 0x20, 1, 0x0, 16, 16, fun _ => 0⟩
/-- The byte address of `PRS.SEL_CMP2` (R162). -/
def A.PRS_SEL_CMP2 : Nat := 0x100110
def F.PRS_SEL_CMP2_MASK : Fld := ⟨A.PRS_SEL_CMP2, 64, 0x20, 1, 0x0, 0, 16, fun _ => 0⟩
def F.PRS_SEL_CMP2_VALUE : Fld := ⟨A.PRS_SEL_CMP2, 64, 0x20, 1, 0x0, 16, 16, fun _ => 0⟩
/-- The byte address of `PRS.PORT_CFG` (R162). -/
def A.PRS_PORT_CFG : Nat := 0x101000
def F.PRS_PORT_CFG_DEFAULT_PROFILE : Fld := ⟨A.PRS_PORT_CFG, 518, 0x4, 1, 0x0, 0, 6, fun _ => 0⟩
def F.PRS_PORT_CFG_PCLASS : Fld := ⟨A.PRS_PORT_CFG, 518, 0x4, 1, 0x0, 8, 4, fun _ => 0⟩
/-- The byte address of `PRS.FLD` (R162). -/
def A.PRS_FLD : Nat := 0x104000
def F.PRS_FLD_OFFSET : Fld := ⟨A.PRS_FLD, 64, 0x100, 32, 0x8, 0, 7, fldResetOffset⟩
def F.PRS_FLD_BIT : Fld := ⟨A.PRS_FLD, 64, 0x100, 32, 0x8, 7, 3, fldResetBit⟩
def F.PRS_FLD_LEN_M1 : Fld := ⟨A.PRS_FLD, 64, 0x100, 32, 0x8, 10, 5, fldResetLenM1⟩
def F.PRS_FLD_ROLE : Fld := ⟨A.PRS_FLD, 64, 0x100, 32, 0x8, 16, 5, fldResetRole⟩
def F.PRS_FLD_KEY_LSB : Fld := ⟨A.PRS_FLD, 64, 0x100, 32, 0x8, 21, 8, fun _ => 0⟩
def F.PRS_FLD_KEY_EN : Fld := ⟨A.PRS_FLD, 64, 0x100, 32, 0x8, 29, 1, fun _ => 0⟩
def F.PRS_FLD_EN : Fld := ⟨A.PRS_FLD, 64, 0x100, 32, 0x8, 31, 1, fldResetEn⟩
/-- The byte address of `PRS.MASK` (R162). -/
def A.PRS_MASK : Nat := 0x104004
def F.PRS_MASK_VALUE : Fld := ⟨A.PRS_MASK, 64, 0x100, 32, 0x8, 0, 32, fun _ => 4294967295⟩
/-- The byte address of `CLS.HASH_CFG` (R164). -/
def A.CLS_HASH_CFG : Nat := 0x110000
def F.CLS_HASH_CFG_L4_EN : Fld := ⟨A.CLS_HASH_CFG, 1, 0x0, 1, 0x0, 0, 1, fun _ => 1⟩
def F.CLS_HASH_CFG_VID_EN : Fld := ⟨A.CLS_HASH_CFG, 1, 0x0, 1, 0x0, 1, 1, fun _ => 1⟩
/-- The byte address of `CLS.HASH_SEED` (R164). -/
def A.CLS_HASH_SEED : Nat := 0x110004
def F.CLS_HASH_SEED_VALUE : Fld := ⟨A.CLS_HASH_SEED, 1, 0x0, 1, 0x0, 0, 32, fun _ => 0⟩
/-- The byte address of `CLS.FRAG_CTRL` (R164). -/
def A.CLS_FRAG_CTRL : Nat := 0x110010
def F.CLS_FRAG_CTRL_TIMEOUT_US : Fld := ⟨A.CLS_FRAG_CTRL, 1, 0x0, 1, 0x0, 0, 16, fun _ => 30000⟩
def F.CLS_FRAG_CTRL_MISS_POLICY : Fld := ⟨A.CLS_FRAG_CTRL, 1, 0x0, 1, 0x0, 16, 1, fun _ => 0⟩
def F.CLS_FRAG_CTRL_ENABLE : Fld := ⟨A.CLS_FRAG_CTRL, 1, 0x0, 1, 0x0, 17, 1, fun _ => 1⟩
/-- The byte address of `CLS.INT_STATUS` (R164). -/
def A.CLS_INT_STATUS : Nat := 0x110020
def F.CLS_INT_STATUS_ECC_CORR : Fld := ⟨A.CLS_INT_STATUS, 1, 0x0, 1, 0x0, 0, 1, fun _ => 0⟩
def F.CLS_INT_STATUS_ECC_UNCORR : Fld := ⟨A.CLS_INT_STATUS, 1, 0x0, 1, 0x0, 1, 1, fun _ => 0⟩
def F.CLS_INT_STATUS_FRAG_FULL : Fld := ⟨A.CLS_INT_STATUS, 1, 0x0, 1, 0x0, 2, 1, fun _ => 0⟩
def F.CLS_INT_STATUS_FRAG_MISS : Fld := ⟨A.CLS_INT_STATUS, 1, 0x0, 1, 0x0, 3, 1, fun _ => 0⟩
/-- The byte address of `CLS.INT_ENABLE` (R164). -/
def A.CLS_INT_ENABLE : Nat := 0x110024
def F.CLS_INT_ENABLE_VALUE : Fld := ⟨A.CLS_INT_ENABLE, 1, 0x0, 1, 0x0, 0, 4, fun _ => 0⟩
/-- The byte address of `CLS.TCAM_STATUS` (R164). -/
def A.CLS_TCAM_STATUS : Nat := 0x110030
def F.CLS_TCAM_STATUS_ROWS : Fld := ⟨A.CLS_TCAM_STATUS, 1, 0x0, 1, 0x0, 0, 15, fun _ => 0⟩
/-- The byte address of `CLS.RANGE_CTRL` (R164). -/
def A.CLS_RANGE_CTRL : Nat := 0x111000
def F.CLS_RANGE_CTRL_ENABLE : Fld := ⟨A.CLS_RANGE_CTRL, 256, 0x10, 1, 0x0, 0, 1, fun _ => 0⟩
def F.CLS_RANGE_CTRL_ROLE : Fld := ⟨A.CLS_RANGE_CTRL, 256, 0x10, 1, 0x0, 8, 5, fun _ => 0⟩
def F.CLS_RANGE_CTRL_KEY_BIT : Fld := ⟨A.CLS_RANGE_CTRL, 256, 0x10, 1, 0x0, 16, 5, fun _ => 0⟩
/-- The byte address of `CLS.RANGE_LO` (R164). -/
def A.CLS_RANGE_LO : Nat := 0x111004
def F.CLS_RANGE_LO_VALUE : Fld := ⟨A.CLS_RANGE_LO, 256, 0x10, 1, 0x0, 0, 32, fun _ => 0⟩
/-- The byte address of `CLS.RANGE_HI` (R164). -/
def A.CLS_RANGE_HI : Nat := 0x111008
def F.CLS_RANGE_HI_VALUE : Fld := ⟨A.CLS_RANGE_HI, 256, 0x10, 1, 0x0, 0, 32, fun _ => 0⟩
/-- The byte address of `TBL.LEARN_CTRL` (R193). -/
def A.TBL_LEARN_CTRL : Nat := 0x120000
def F.TBL_LEARN_CTRL_ENABLE : Fld := ⟨A.TBL_LEARN_CTRL, 1, 0x0, 1, 0x0, 0, 1, fun _ => 1⟩
def F.TBL_LEARN_CTRL_HIT_ON_DA : Fld := ⟨A.TBL_LEARN_CTRL, 1, 0x0, 1, 0x0, 1, 1, fun _ => 0⟩
/-- The byte address of `TBL.MOVE_CFG` (R193). -/
def A.TBL_MOVE_CFG : Nat := 0x120004
def F.TBL_MOVE_CFG_LIMIT : Fld := ⟨A.TBL_MOVE_CFG, 1, 0x0, 1, 0x0, 0, 4, fun _ => 4⟩
def F.TBL_MOVE_CFG_WINDOW_US : Fld := ⟨A.TBL_MOVE_CFG, 1, 0x0, 1, 0x0, 16, 16, fun _ => 1000⟩
/-- The byte address of `TBL.AGE_CTRL` (R193). -/
def A.TBL_AGE_CTRL : Nat := 0x120008
def F.TBL_AGE_CTRL_PERIOD_S : Fld := ⟨A.TBL_AGE_CTRL, 1, 0x0, 1, 0x0, 0, 13, fun _ => 150⟩
/-- The byte address of `TBL.SCRUB_CTRL` (R193). -/
def A.TBL_SCRUB_CTRL : Nat := 0x12000C
def F.TBL_SCRUB_CTRL_PERIOD_MS : Fld := ⟨A.TBL_SCRUB_CTRL, 1, 0x0, 1, 0x0, 0, 16, fun _ => 1000⟩
def F.TBL_SCRUB_CTRL_ENABLE : Fld := ⟨A.TBL_SCRUB_CTRL, 1, 0x0, 1, 0x0, 16, 1, fun _ => 1⟩
/-- The byte address of `TBL.INT_STATUS` (R193). -/
def A.TBL_INT_STATUS : Nat := 0x120010
def F.TBL_INT_STATUS_PINNED : Fld := ⟨A.TBL_INT_STATUS, 1, 0x0, 1, 0x0, 0, 1, fun _ => 0⟩
def F.TBL_INT_STATUS_LEARN_FAIL : Fld := ⟨A.TBL_INT_STATUS, 1, 0x0, 1, 0x0, 1, 1, fun _ => 0⟩
def F.TBL_INT_STATUS_LEARN_OVERFLOW : Fld := ⟨A.TBL_INT_STATUS, 1, 0x0, 1, 0x0, 2, 1, fun _ => 0⟩
def F.TBL_INT_STATUS_STASH_HIGH : Fld := ⟨A.TBL_INT_STATUS, 1, 0x0, 1, 0x0, 3, 1, fun _ => 0⟩
def F.TBL_INT_STATUS_ECC_CORR : Fld := ⟨A.TBL_INT_STATUS, 1, 0x0, 1, 0x0, 4, 1, fun _ => 0⟩
def F.TBL_INT_STATUS_ECC_UNCORR : Fld := ⟨A.TBL_INT_STATUS, 1, 0x0, 1, 0x0, 5, 1, fun _ => 0⟩
def F.TBL_INT_STATUS_ENTRY_LOST : Fld := ⟨A.TBL_INT_STATUS, 1, 0x0, 1, 0x0, 6, 1, fun _ => 0⟩
def F.TBL_INT_STATUS_PIN_LOG_OVERFLOW : Fld := ⟨A.TBL_INT_STATUS, 1, 0x0, 1, 0x0, 7, 1, fun _ => 0⟩
/-- The byte address of `TBL.PREFIX_STATUS` (R193). -/
def A.TBL_PREFIX_STATUS : Nat := 0x120020
def F.TBL_PREFIX_STATUS_UNITS : Fld := ⟨A.TBL_PREFIX_STATUS, 1, 0x0, 1, 0x0, 0, 19, fun _ => 0⟩
/-- The byte address of `TBL.PIN_LOG_KEY_LO` (R193). -/
def A.TBL_PIN_LOG_KEY_LO : Nat := 0x120030
def F.TBL_PIN_LOG_KEY_LO_MAC_LO : Fld := ⟨A.TBL_PIN_LOG_KEY_LO, 1, 0x0, 1, 0x0, 0, 32, fun _ => 0⟩
/-- The byte address of `TBL.PIN_LOG_KEY_HI` (R193). -/
def A.TBL_PIN_LOG_KEY_HI : Nat := 0x120034
def F.TBL_PIN_LOG_KEY_HI_MAC_HI : Fld := ⟨A.TBL_PIN_LOG_KEY_HI, 1, 0x0, 1, 0x0, 0, 16, fun _ => 0⟩
def F.TBL_PIN_LOG_KEY_HI_VID : Fld := ⟨A.TBL_PIN_LOG_KEY_HI, 1, 0x0, 1, 0x0, 16, 12, fun _ => 0⟩
/-- The byte address of `TBL.PIN_LOG_CTRL` (R193). -/
def A.TBL_PIN_LOG_CTRL : Nat := 0x120038
def F.TBL_PIN_LOG_CTRL_POP : Fld := ⟨A.TBL_PIN_LOG_CTRL, 1, 0x0, 1, 0x0, 0, 1, fun _ => 0⟩
def F.TBL_PIN_LOG_CTRL_COUNT : Fld := ⟨A.TBL_PIN_LOG_CTRL, 1, 0x0, 1, 0x0, 8, 5, fun _ => 0⟩
/-- The byte address of `TBL.INT_ENABLE` (R192). -/
def A.TBL_INT_ENABLE : Nat := 0x120014
def F.TBL_INT_ENABLE_VALUE : Fld := ⟨A.TBL_INT_ENABLE, 1, 0x0, 1, 0x0, 0, 8, fun _ => 0⟩
/-- The byte address of `TBL.EM_CTRL` (R193). -/
def A.TBL_EM_CTRL : Nat := 0x120040
def F.TBL_EM_CTRL_ENABLE : Fld := ⟨A.TBL_EM_CTRL, 2, 0x20, 1, 0x0, 0, 1, fun _ => 1⟩
/-- The byte address of `TBL.EM_SEED0` (R193). -/
def A.TBL_EM_SEED0 : Nat := 0x120044
def F.TBL_EM_SEED0_VALUE : Fld := ⟨A.TBL_EM_SEED0, 2, 0x20, 1, 0x0, 0, 32, fun _ => 0⟩
/-- The byte address of `TBL.EM_SEED1` (R193). -/
def A.TBL_EM_SEED1 : Nat := 0x120048
def F.TBL_EM_SEED1_VALUE : Fld := ⟨A.TBL_EM_SEED1, 2, 0x20, 1, 0x0, 0, 32, fun _ => 1515890085⟩
/-- The byte address of `TBL.EM_STATUS` (R193). -/
def A.TBL_EM_STATUS : Nat := 0x12004C
def F.TBL_EM_STATUS_ENTRIES : Fld := ⟨A.TBL_EM_STATUS, 2, 0x20, 1, 0x0, 0, 21, fun _ => 0⟩
def F.TBL_EM_STATUS_STASH : Fld := ⟨A.TBL_EM_STATUS, 2, 0x20, 1, 0x0, 24, 7, fun _ => 0⟩
/-- The byte address of `TBL.EM_MOVE_SEQ` (R193). -/
def A.TBL_EM_MOVE_SEQ : Nat := 0x120050
def F.TBL_EM_MOVE_SEQ_VALUE : Fld := ⟨A.TBL_EM_MOVE_SEQ, 2, 0x20, 1, 0x0, 0, 32, fun _ => 0⟩
/-- The byte address of `TBL.PORT_CFG` (R193). -/
def A.TBL_PORT_CFG : Nat := 0x121000
def F.TBL_PORT_CFG_LEARN_EN : Fld := ⟨A.TBL_PORT_CFG, 518, 0x4, 1, 0x0, 0, 1, fun p => if p < 512 then 1 else 0⟩
def F.TBL_PORT_CFG_L3_EN : Fld := ⟨A.TBL_PORT_CFG, 518, 0x4, 1, 0x0, 1, 1, fun _ => 0⟩
/-- The byte address of `BUF.STATUS` (R222). -/
def A.BUF_STATUS : Nat := 0x140000
def F.BUF_STATUS_ACTIVE_CELLS : Fld := ⟨A.BUF_STATUS, 1, 0x0, 1, 0x0, 0, 20, fun _ => 983040⟩
def F.BUF_STATUS_INIT_DONE : Fld := ⟨A.BUF_STATUS, 1, 0x0, 1, 0x0, 31, 1, fun _ => 0⟩
/-- The byte address of `BUF.FREE` (R222). -/
def A.BUF_FREE : Nat := 0x140004
def F.BUF_FREE_CELLS : Fld := ⟨A.BUF_FREE, 1, 0x0, 1, 0x0, 0, 20, fun _ => 0⟩
/-- The byte address of `BUF.SHARED` (R222). -/
def A.BUF_SHARED : Nat := 0x140008
def F.BUF_SHARED_USED : Fld := ⟨A.BUF_SHARED, 1, 0x0, 1, 0x0, 0, 20, fun _ => 0⟩
/-- The byte address of `BUF.SLACK` (R222). -/
def A.BUF_SLACK : Nat := 0x14000C
def F.BUF_SLACK_CELLS : Fld := ⟨A.BUF_SLACK, 1, 0x0, 1, 0x0, 0, 16, fun _ => 2048⟩
/-- The byte address of `BUF.DET_RESERVE` (R222). -/
def A.BUF_DET_RESERVE : Nat := 0x140010
def F.BUF_DET_RESERVE_CELLS : Fld := ⟨A.BUF_DET_RESERVE, 1, 0x0, 1, 0x0, 0, 20, fun _ => 98304⟩
def F.BUF_DET_RESERVE_DET_ALPHA_K : Fld := ⟨A.BUF_DET_RESERVE, 1, 0x0, 1, 0x0, 24, 4, fun _ => 0⟩
/-- The byte address of `BUF.GLOBAL_EW` (R222). -/
def A.BUF_GLOBAL_EW : Nat := 0x140014
def F.BUF_GLOBAL_EW_CELLS : Fld := ⟨A.BUF_GLOBAL_EW, 1, 0x0, 1, 0x0, 0, 20, fun _ => 65536⟩
def F.BUF_GLOBAL_EW_PAUSE_ALL : Fld := ⟨A.BUF_GLOBAL_EW, 1, 0x0, 1, 0x0, 31, 1, fun _ => 0⟩
/-- The byte address of `BUF.SHARED_TOTAL` (R222). -/
def A.BUF_SHARED_TOTAL : Nat := 0x140018
def F.BUF_SHARED_TOTAL_TOTAL : Fld := ⟨A.BUF_SHARED_TOTAL, 1, 0x0, 1, 0x0, 0, 20, fun _ => 0⟩
/-- The byte address of `BUF.BANK_MAP_SEL` (R222). -/
def A.BUF_BANK_MAP_SEL : Nat := 0x140030
def F.BUF_BANK_MAP_SEL_BANK : Fld := ⟨A.BUF_BANK_MAP_SEL, 1, 0x0, 1, 0x0, 0, 6, fun _ => 0⟩
/-- The byte address of `BUF.BANK_MAP` (R222). -/
def A.BUF_BANK_MAP : Nat := 0x140034
def F.BUF_BANK_MAP_PHYS : Fld := ⟨A.BUF_BANK_MAP, 1, 0x0, 1, 0x0, 0, 6, fun n => n⟩
def F.BUF_BANK_MAP_RETIRED : Fld := ⟨A.BUF_BANK_MAP, 1, 0x0, 1, 0x0, 8, 1, fun _ => 0⟩
/-- The byte address of `BUF.SPARE_STATUS` (R222). -/
def A.BUF_SPARE_STATUS : Nat := 0x140038
def F.BUF_SPARE_STATUS_SPARES_LEFT : Fld := ⟨A.BUF_SPARE_STATUS, 1, 0x0, 1, 0x0, 0, 3, fun _ => 4⟩
def F.BUF_SPARE_STATUS_MIGRATING : Fld := ⟨A.BUF_SPARE_STATUS, 1, 0x0, 1, 0x0, 8, 1, fun _ => 0⟩
def F.BUF_SPARE_STATUS_BANK : Fld := ⟨A.BUF_SPARE_STATUS, 1, 0x0, 1, 0x0, 16, 6, fun _ => 0⟩
/-- The byte address of `BUF.SPARE_CTRL` (R222). -/
def A.BUF_SPARE_CTRL : Nat := 0x140040
def F.BUF_SPARE_CTRL_CE_LIMIT : Fld := ⟨A.BUF_SPARE_CTRL, 1, 0x0, 1, 0x0, 0, 16, fun _ => 64⟩
def F.BUF_SPARE_CTRL_FORCE_BANK : Fld := ⟨A.BUF_SPARE_CTRL, 1, 0x0, 1, 0x0, 16, 6, fun _ => 0⟩
def F.BUF_SPARE_CTRL_FORCE : Fld := ⟨A.BUF_SPARE_CTRL, 1, 0x0, 1, 0x0, 31, 1, fun _ => 0⟩
/-- The byte address of `BUF.SCRUB_CTRL` (R222). -/
def A.BUF_SCRUB_CTRL : Nat := 0x140044
def F.BUF_SCRUB_CTRL_PERIOD_MS : Fld := ⟨A.BUF_SCRUB_CTRL, 1, 0x0, 1, 0x0, 0, 16, fun _ => 1000⟩
def F.BUF_SCRUB_CTRL_ENABLE : Fld := ⟨A.BUF_SCRUB_CTRL, 1, 0x0, 1, 0x0, 16, 1, fun _ => 1⟩
/-- The byte address of `BUF.DISC_LOG` (R222). -/
def A.BUF_DISC_LOG : Nat := 0x140050
def F.BUF_DISC_LOG_HANDLE : Fld := ⟨A.BUF_DISC_LOG, 1, 0x0, 1, 0x0, 0, 20, fun _ => 0⟩
def F.BUF_DISC_LOG_REQUESTER : Fld := ⟨A.BUF_DISC_LOG, 1, 0x0, 1, 0x0, 24, 5, fun _ => 0⟩
def F.BUF_DISC_LOG_REASON : Fld := ⟨A.BUF_DISC_LOG, 1, 0x0, 1, 0x0, 29, 2, fun _ => 0⟩
def F.BUF_DISC_LOG_VALID : Fld := ⟨A.BUF_DISC_LOG, 1, 0x0, 1, 0x0, 31, 1, fun _ => 0⟩
/-- The byte address of `BUF.DEEP_AREA` (R222). -/
def A.BUF_DEEP_AREA : Nat := 0x140060
def F.BUF_DEEP_AREA_SIZE_GIB : Fld := ⟨A.BUF_DEEP_AREA, 1, 0x0, 1, 0x0, 0, 7, fun _ => 0⟩
/-- The byte address of `BUF.DISC_LOG_TICK_LO` (R222). -/
def A.BUF_DISC_LOG_TICK_LO : Nat := 0x140054
def F.BUF_DISC_LOG_TICK_LO_VALUE : Fld := ⟨A.BUF_DISC_LOG_TICK_LO, 1, 0x0, 1, 0x0, 0, 32, fun _ => 0⟩
/-- The byte address of `BUF.DISC_LOG_TICK_HI` (R222). -/
def A.BUF_DISC_LOG_TICK_HI : Nat := 0x140058
def F.BUF_DISC_LOG_TICK_HI_VALUE : Fld := ⟨A.BUF_DISC_LOG_TICK_HI, 1, 0x0, 1, 0x0, 0, 32, fun _ => 0⟩
/-- The byte address of `BUF.INT_STATUS` (R223). -/
def A.BUF_INT_STATUS : Nat := 0x140020
def F.BUF_INT_STATUS_DISCIPLINE : Fld := ⟨A.BUF_INT_STATUS, 1, 0x0, 1, 0x0, 0, 1, fun _ => 0⟩
def F.BUF_INT_STATUS_GLOBAL_EW : Fld := ⟨A.BUF_INT_STATUS, 1, 0x0, 1, 0x0, 1, 1, fun _ => 0⟩
def F.BUF_INT_STATUS_EXHAUSTED : Fld := ⟨A.BUF_INT_STATUS, 1, 0x0, 1, 0x0, 2, 1, fun _ => 0⟩
def F.BUF_INT_STATUS_ECC_CORR : Fld := ⟨A.BUF_INT_STATUS, 1, 0x0, 1, 0x0, 3, 1, fun _ => 0⟩
def F.BUF_INT_STATUS_ECC_UNCORR : Fld := ⟨A.BUF_INT_STATUS, 1, 0x0, 1, 0x0, 4, 1, fun _ => 0⟩
def F.BUF_INT_STATUS_SPARE_USED : Fld := ⟨A.BUF_INT_STATUS, 1, 0x0, 1, 0x0, 5, 1, fun _ => 0⟩
def F.BUF_INT_STATUS_SPARE_NONE : Fld := ⟨A.BUF_INT_STATUS, 1, 0x0, 1, 0x0, 6, 1, fun _ => 0⟩
def F.BUF_INT_STATUS_POOL_FAIL : Fld := ⟨A.BUF_INT_STATUS, 1, 0x0, 1, 0x0, 7, 1, fun _ => 0⟩
def F.BUF_INT_STATUS_DEEP_FULL : Fld := ⟨A.BUF_INT_STATUS, 1, 0x0, 1, 0x0, 8, 1, fun _ => 0⟩
def F.BUF_INT_STATUS_HEADROOM : Fld := ⟨A.BUF_INT_STATUS, 1, 0x0, 1, 0x0, 9, 1, fun _ => 0⟩
def F.BUF_INT_STATUS_DET_DROP : Fld := ⟨A.BUF_INT_STATUS, 1, 0x0, 1, 0x0, 10, 1, fun _ => 0⟩
/-- The byte address of `BUF.INT_ENABLE` (R221). -/
def A.BUF_INT_ENABLE : Nat := 0x140024
def F.BUF_INT_ENABLE_VALUE : Fld := ⟨A.BUF_INT_ENABLE, 1, 0x0, 1, 0x0, 0, 11, fun _ => 0⟩
/-- The byte address of `BUF.POOL_COUNT_NEXT` (R224). -/
def A.BUF_POOL_COUNT_NEXT : Nat := 0x140100
def F.BUF_POOL_COUNT_NEXT_COUNT_NEXT : Fld := ⟨A.BUF_POOL_COUNT_NEXT, 4, 0x10, 1, 0x0, 0, 17, poolCountReset⟩
/-- The byte address of `BUF.POOL_COUNT` (R224). -/
def A.BUF_POOL_COUNT : Nat := 0x140104
def F.BUF_POOL_COUNT_COUNT : Fld := ⟨A.BUF_POOL_COUNT, 4, 0x10, 1, 0x0, 0, 17, poolCountReset⟩
/-- The byte address of `BUF.POOL_FREE` (R224). -/
def A.BUF_POOL_FREE : Nat := 0x140108
def F.BUF_POOL_FREE_FREE : Fld := ⟨A.BUF_POOL_FREE, 4, 0x10, 1, 0x0, 0, 17, poolCountReset⟩
/-- The byte address of `BUF.THR_PROF_MIN` (R224). -/
def A.BUF_THR_PROF_MIN : Nat := 0x140200
def F.BUF_THR_PROF_MIN_MIN_CELLS : Fld := ⟨A.BUF_THR_PROF_MIN, 32, 0x10, 1, 0x0, 0, 16, fun _ => 8⟩
/-- The byte address of `BUF.THR_PROF_ALPHA` (R224). -/
def A.BUF_THR_PROF_ALPHA : Nat := 0x140204
def F.BUF_THR_PROF_ALPHA_ALPHA_K : Fld := ⟨A.BUF_THR_PROF_ALPHA, 32, 0x10, 1, 0x0, 0, 4, fun _ => 15⟩
def F.BUF_THR_PROF_ALPHA_BEST_EFFORT : Fld := ⟨A.BUF_THR_PROF_ALPHA, 32, 0x10, 1, 0x0, 8, 1, fun _ => 1⟩
/-- The byte address of `BUF.ING_PROF_XOFF` (R224). -/
def A.BUF_ING_PROF_XOFF : Nat := 0x140800
def F.BUF_ING_PROF_XOFF_XOFF : Fld := ⟨A.BUF_ING_PROF_XOFF, 16, 0x100, 8, 0x10, 0, 20, fun _ => 2048⟩
/-- The byte address of `BUF.ING_PROF_XON` (R224). -/
def A.BUF_ING_PROF_XON : Nat := 0x140804
def F.BUF_ING_PROF_XON_XON : Fld := ⟨A.BUF_ING_PROF_XON, 16, 0x100, 8, 0x10, 0, 20, fun _ => 1536⟩
/-- The byte address of `BUF.ING_PROF_HEADROOM` (R224). -/
def A.BUF_ING_PROF_HEADROOM : Nat := 0x140808
def F.BUF_ING_PROF_HEADROOM_HEADROOM : Fld := ⟨A.BUF_ING_PROF_HEADROOM, 16, 0x100, 8, 0x10, 0, 16, fun _ => 0⟩
/-- The byte address of `BUF.ING_PORT_CFG` (R224). -/
def A.BUF_ING_PORT_CFG : Nat := 0x142000
def F.BUF_ING_PORT_CFG_MODE : Fld := ⟨A.BUF_ING_PORT_CFG, 512, 0x10, 1, 0x0, 0, 2, fun _ => 0⟩
def F.BUF_ING_PORT_CFG_PROFILE : Fld := ⟨A.BUF_ING_PORT_CFG, 512, 0x10, 1, 0x0, 4, 4, fun _ => 0⟩
def F.BUF_ING_PORT_CFG_PFC_EN : Fld := ⟨A.BUF_ING_PORT_CFG, 512, 0x10, 1, 0x0, 8, 8, fun _ => 0⟩
def F.BUF_ING_PORT_CFG_DEFAULT_PCP : Fld := ⟨A.BUF_ING_PORT_CFG, 512, 0x10, 1, 0x0, 16, 3, fun _ => 0⟩
/-- The byte address of `BUF.ING_PORT_MAP` (R224). -/
def A.BUF_ING_PORT_MAP : Nat := 0x142004
def F.BUF_ING_PORT_MAP_MAP : Fld := ⟨A.BUF_ING_PORT_MAP, 512, 0x10, 1, 0x0, 0, 24, fun _ => 16434824⟩
/-- The byte address of `BUF.ING_PORT_FC` (R224). -/
def A.BUF_ING_PORT_FC : Nat := 0x142008
def F.BUF_ING_PORT_FC_QUANTA : Fld := ⟨A.BUF_ING_PORT_FC, 512, 0x10, 1, 0x0, 0, 16, fun _ => 65535⟩
def F.BUF_ING_PORT_FC_REFRESH_US : Fld := ⟨A.BUF_ING_PORT_FC, 512, 0x10, 1, 0x0, 16, 16, fun _ => 50⟩
/-- The byte address of `BUF.ING_PORT_STATE` (R224). -/
def A.BUF_ING_PORT_STATE : Nat := 0x14200C
def F.BUF_ING_PORT_STATE_XOFF_STATE : Fld := ⟨A.BUF_ING_PORT_STATE, 512, 0x10, 1, 0x0, 0, 8, fun _ => 0⟩
/-- The byte address of `BUF.DEEP_CTRL` (R224). -/
def A.BUF_DEEP_CTRL : Nat := 0x144000
def F.BUF_DEEP_CTRL_ENABLE : Fld := ⟨A.BUF_DEEP_CTRL, 64, 0x20, 1, 0x0, 0, 1, fun _ => 0⟩
def F.BUF_DEEP_CTRL_QUEUE : Fld := ⟨A.BUF_DEEP_CTRL, 64, 0x20, 1, 0x0, 16, 13, fun _ => 0⟩
/-- The byte address of `BUF.DEEP_SPILL_ON` (R224). -/
def A.BUF_DEEP_SPILL_ON : Nat := 0x144004
def F.BUF_DEEP_SPILL_ON_SPILL_ON : Fld := ⟨A.BUF_DEEP_SPILL_ON, 64, 0x20, 1, 0x0, 0, 20, fun _ => 16384⟩
/-- The byte address of `BUF.DEEP_REFILL` (R224). -/
def A.BUF_DEEP_REFILL : Nat := 0x144008
def F.BUF_DEEP_REFILL_REFILL : Fld := ⟨A.BUF_DEEP_REFILL, 64, 0x20, 1, 0x0, 0, 20, fun _ => 8192⟩
/-- The byte address of `BUF.DEEP_QUOTA` (R224). -/
def A.BUF_DEEP_QUOTA : Nat := 0x14400C
def F.BUF_DEEP_QUOTA_QUOTA_GIB : Fld := ⟨A.BUF_DEEP_QUOTA, 64, 0x20, 1, 0x0, 0, 7, fun _ => 0⟩
/-- The byte address of `BUF.DEEP_RM_BYTES_LO` (R224). -/
def A.BUF_DEEP_RM_BYTES_LO : Nat := 0x144010
def F.BUF_DEEP_RM_BYTES_LO_VALUE : Fld := ⟨A.BUF_DEEP_RM_BYTES_LO, 64, 0x20, 1, 0x0, 0, 32, fun _ => 0⟩
/-- The byte address of `BUF.DEEP_RM_BYTES_HI` (R224). -/
def A.BUF_DEEP_RM_BYTES_HI : Nat := 0x144014
def F.BUF_DEEP_RM_BYTES_HI_VALUE : Fld := ⟨A.BUF_DEEP_RM_BYTES_HI, 64, 0x20, 1, 0x0, 0, 32, fun _ => 0⟩
/-- The byte address of `BUF.DEEP_ONDIE` (R224). -/
def A.BUF_DEEP_ONDIE : Nat := 0x144018
def F.BUF_DEEP_ONDIE_ONDIE_CELLS : Fld := ⟨A.BUF_DEEP_ONDIE, 64, 0x20, 1, 0x0, 0, 20, fun _ => 0⟩
/-- The byte address of `BUF.FWD_PORT_CTRL` (R138). -/
def A.BUF_FWD_PORT_CTRL : Nat := 0x148000
def F.BUF_FWD_PORT_CTRL_CT_EN : Fld := ⟨A.BUF_FWD_PORT_CTRL, 518, 0x10, 1, 0x0, 0, 1, fun _ => 0⟩
/-- The byte address of `BUF.FWD_PORT_SAMPLE` (R138). -/
def A.BUF_FWD_PORT_SAMPLE : Nat := 0x148004
def F.BUF_FWD_PORT_SAMPLE_SAMPLE_N : Fld := ⟨A.BUF_FWD_PORT_SAMPLE, 518, 0x10, 1, 0x0, 0, 24, fun _ => 0⟩
/-- The byte address of `BUF.FWD_PORT_SAMPLE_DEST` (R138). -/
def A.BUF_FWD_PORT_SAMPLE_DEST : Nat := 0x148008
def F.BUF_FWD_PORT_SAMPLE_DEST_SAMPLE_SEAT : Fld := ⟨A.BUF_FWD_PORT_SAMPLE_DEST, 518, 0x10, 1, 0x0, 0, 2, fun _ => 0⟩
def F.BUF_FWD_PORT_SAMPLE_DEST_SAMPLE_Q : Fld := ⟨A.BUF_FWD_PORT_SAMPLE_DEST, 518, 0x10, 1, 0x0, 8, 4, fun _ => 0⟩
/-- The byte address of `BUF.FWD_PORT_FIFO` (R138). -/
def A.BUF_FWD_PORT_FIFO : Nat := 0x14800C
def F.BUF_FWD_PORT_FIFO_FRAMES : Fld := ⟨A.BUF_FWD_PORT_FIFO, 518, 0x10, 1, 0x0, 0, 9, fun _ => 0⟩
/-- The byte address of `BUF.RECIRC_CTRL` (R138). -/
def A.BUF_RECIRC_CTRL : Nat := 0x14A080
def F.BUF_RECIRC_CTRL_MAX_PASSES : Fld := ⟨A.BUF_RECIRC_CTRL, 1, 0x0, 1, 0x0, 0, 2, fun _ => 2⟩
/-- The byte address of `BUF.SEAT_RING_CTRL` (R138). -/
def A.BUF_SEAT_RING_CTRL : Nat := 0x14A100
def F.BUF_SEAT_RING_CTRL_TX_EN : Fld := ⟨A.BUF_SEAT_RING_CTRL, 4, 0x40, 1, 0x0, 0, 1, fun _ => 0⟩
def F.BUF_SEAT_RING_CTRL_RX_EN : Fld := ⟨A.BUF_SEAT_RING_CTRL, 4, 0x40, 1, 0x0, 1, 1, fun _ => 0⟩
def F.BUF_SEAT_RING_CTRL_TX_LOG_SIZE : Fld := ⟨A.BUF_SEAT_RING_CTRL, 4, 0x40, 1, 0x0, 16, 4, fun _ => 6⟩
def F.BUF_SEAT_RING_CTRL_RX_LOG_SIZE : Fld := ⟨A.BUF_SEAT_RING_CTRL, 4, 0x40, 1, 0x0, 20, 4, fun _ => 6⟩
/-- The byte address of `BUF.SEAT_RING_TX_BASE_LO` (R138). -/
def A.BUF_SEAT_RING_TX_BASE_LO : Nat := 0x14A104
def F.BUF_SEAT_RING_TX_BASE_LO_VALUE : Fld := ⟨A.BUF_SEAT_RING_TX_BASE_LO, 4, 0x40, 1, 0x0, 0, 32, fun _ => 0⟩
/-- The byte address of `BUF.SEAT_RING_TX_BASE_HI` (R138). -/
def A.BUF_SEAT_RING_TX_BASE_HI : Nat := 0x14A108
def F.BUF_SEAT_RING_TX_BASE_HI_VALUE : Fld := ⟨A.BUF_SEAT_RING_TX_BASE_HI, 4, 0x40, 1, 0x0, 0, 32, fun _ => 0⟩
/-- The byte address of `BUF.SEAT_RING_TX_HEAD` (R138). -/
def A.BUF_SEAT_RING_TX_HEAD : Nat := 0x14A10C
def F.BUF_SEAT_RING_TX_HEAD_VALUE : Fld := ⟨A.BUF_SEAT_RING_TX_HEAD, 4, 0x40, 1, 0x0, 0, 14, fun _ => 0⟩
/-- The byte address of `BUF.SEAT_RING_TX_TAIL` (R138). -/
def A.BUF_SEAT_RING_TX_TAIL : Nat := 0x14A110
def F.BUF_SEAT_RING_TX_TAIL_VALUE : Fld := ⟨A.BUF_SEAT_RING_TX_TAIL, 4, 0x40, 1, 0x0, 0, 14, fun _ => 0⟩
/-- The byte address of `BUF.SEAT_RING_RX_BASE_LO` (R138). -/
def A.BUF_SEAT_RING_RX_BASE_LO : Nat := 0x14A114
def F.BUF_SEAT_RING_RX_BASE_LO_VALUE : Fld := ⟨A.BUF_SEAT_RING_RX_BASE_LO, 4, 0x40, 1, 0x0, 0, 32, fun _ => 0⟩
/-- The byte address of `BUF.SEAT_RING_RX_BASE_HI` (R138). -/
def A.BUF_SEAT_RING_RX_BASE_HI : Nat := 0x14A118
def F.BUF_SEAT_RING_RX_BASE_HI_VALUE : Fld := ⟨A.BUF_SEAT_RING_RX_BASE_HI, 4, 0x40, 1, 0x0, 0, 32, fun _ => 0⟩
/-- The byte address of `BUF.SEAT_RING_RX_HEAD` (R138). -/
def A.BUF_SEAT_RING_RX_HEAD : Nat := 0x14A11C
def F.BUF_SEAT_RING_RX_HEAD_VALUE : Fld := ⟨A.BUF_SEAT_RING_RX_HEAD, 4, 0x40, 1, 0x0, 0, 14, fun _ => 0⟩
/-- The byte address of `BUF.SEAT_RING_RX_TAIL` (R138). -/
def A.BUF_SEAT_RING_RX_TAIL : Nat := 0x14A120
def F.BUF_SEAT_RING_RX_TAIL_VALUE : Fld := ⟨A.BUF_SEAT_RING_RX_TAIL, 4, 0x40, 1, 0x0, 0, 14, fun _ => 0⟩
/-- The byte address of `BUF.SEAT_RING_RX_BUF_SIZE` (R138). -/
def A.BUF_SEAT_RING_RX_BUF_SIZE : Nat := 0x14A124
def F.BUF_SEAT_RING_RX_BUF_SIZE_VALUE : Fld := ⟨A.BUF_SEAT_RING_RX_BUF_SIZE, 4, 0x40, 1, 0x0, 0, 16, fun _ => 2048⟩
/-- The byte address of `BUF.Q_CFG` (R224). -/
def A.BUF_Q_CFG : Nat := 0x150000
def F.BUF_Q_CFG_PROFILE : Fld := ⟨A.BUF_Q_CFG, 8288, 0x4, 1, 0x0, 0, 5, fun _ => 0⟩
/-- The byte address of `QSG.SAMPLE_CTRL` (R257). -/
def A.QSG_SAMPLE_CTRL : Nat := 0x160000
def F.QSG_SAMPLE_CTRL_PERIOD_US : Fld := ⟨A.QSG_SAMPLE_CTRL, 1, 0x0, 1, 0x0, 0, 16, fun _ => 0⟩
/-- The byte address of `QSG.INT_STATUS` (R257). -/
def A.QSG_INT_STATUS : Nat := 0x160010
def F.QSG_INT_STATUS_GCL_CHANGE : Fld := ⟨A.QSG_INT_STATUS, 1, 0x0, 1, 0x0, 0, 1, fun _ => 0⟩
def F.QSG_INT_STATUS_GCL_REPLACED : Fld := ⟨A.QSG_INT_STATUS, 1, 0x0, 1, 0x0, 1, 1, fun _ => 0⟩
def F.QSG_INT_STATUS_GATE_OVERSIZE : Fld := ⟨A.QSG_INT_STATUS, 1, 0x0, 1, 0x0, 2, 1, fun _ => 0⟩
def F.QSG_INT_STATUS_GATE_OVERRUN : Fld := ⟨A.QSG_INT_STATUS, 1, 0x0, 1, 0x0, 3, 1, fun _ => 0⟩
def F.QSG_INT_STATUS_LAUNCH_DROP : Fld := ⟨A.QSG_INT_STATUS, 1, 0x0, 1, 0x0, 4, 1, fun _ => 0⟩
def F.QSG_INT_STATUS_STREAM_BLOCKED : Fld := ⟨A.QSG_INT_STATUS, 1, 0x0, 1, 0x0, 5, 1, fun _ => 0⟩
def F.QSG_INT_STATUS_MARK_ALL_RED : Fld := ⟨A.QSG_INT_STATUS, 1, 0x0, 1, 0x0, 6, 1, fun _ => 0⟩
def F.QSG_INT_STATUS_LIFETIME : Fld := ⟨A.QSG_INT_STATUS, 1, 0x0, 1, 0x0, 7, 1, fun _ => 0⟩
def F.QSG_INT_STATUS_FLUSH : Fld := ⟨A.QSG_INT_STATUS, 1, 0x0, 1, 0x0, 8, 1, fun _ => 0⟩
/-- The byte address of `QSG.INT_ENABLE` (R256). -/
def A.QSG_INT_ENABLE : Nat := 0x160014
def F.QSG_INT_ENABLE_VALUE : Fld := ⟨A.QSG_INT_ENABLE, 1, 0x0, 1, 0x0, 0, 9, fun _ => 0⟩
/-- The byte address of `QSG.SCHED_PROF_CTRL` (R257). -/
def A.QSG_SCHED_PROF_CTRL : Nat := 0x160100
def F.QSG_SCHED_PROF_CTRL_PRIO : Fld := ⟨A.QSG_SCHED_PROF_CTRL, 64, 0x20, 1, 0x0, 0, 3, fun s => if s ≤ 7 then s else 0⟩
def F.QSG_SCHED_PROF_CTRL_WEIGHT : Fld := ⟨A.QSG_SCHED_PROF_CTRL, 64, 0x20, 1, 0x0, 8, 8, fun _ => 1⟩
def F.QSG_SCHED_PROF_CTRL_LAUNCH_MODE : Fld := ⟨A.QSG_SCHED_PROF_CTRL, 64, 0x20, 1, 0x0, 16, 2, fun _ => 0⟩
def F.QSG_SCHED_PROF_CTRL_LT_PROTECT : Fld := ⟨A.QSG_SCHED_PROF_CTRL, 64, 0x20, 1, 0x0, 18, 1, fun _ => 0⟩
/-- The byte address of `QSG.SCHED_PROF_LIFETIME` (R257). -/
def A.QSG_SCHED_PROF_LIFETIME : Nat := 0x160104
def F.QSG_SCHED_PROF_LIFETIME_LIFETIME_US : Fld := ⟨A.QSG_SCHED_PROF_LIFETIME, 64, 0x20, 1, 0x0, 0, 16, fun _ => 0⟩
/-- The byte address of `QSG.SCHED_PROF_LT_OFFSET` (R257). -/
def A.QSG_SCHED_PROF_LT_OFFSET : Nat := 0x160108
def F.QSG_SCHED_PROF_LT_OFFSET_LT_OFFSET_NS : Fld := ⟨A.QSG_SCHED_PROF_LT_OFFSET, 64, 0x20, 1, 0x0, 0, 32, fun _ => 0⟩
/-- The byte address of `QSG.SCHED_PROF_LT_LATE` (R257). -/
def A.QSG_SCHED_PROF_LT_LATE : Nat := 0x16010C
def F.QSG_SCHED_PROF_LT_LATE_LT_LATE_NS : Fld := ⟨A.QSG_SCHED_PROF_LT_LATE, 64, 0x20, 1, 0x0, 0, 16, fun _ => 100⟩
/-- The byte address of `QSG.SCHED_PROF_LT_HORIZON` (R257). -/
def A.QSG_SCHED_PROF_LT_HORIZON : Nat := 0x160110
def F.QSG_SCHED_PROF_LT_HORIZON_LT_HORIZON_US : Fld := ⟨A.QSG_SCHED_PROF_LT_HORIZON, 64, 0x20, 1, 0x0, 0, 16, fun _ => 1000⟩
/-- The byte address of `QSG.SHAPER_CTRL` (R257). -/
def A.QSG_SHAPER_CTRL : Nat := 0x161000
def F.QSG_SHAPER_CTRL_MODE : Fld := ⟨A.QSG_SHAPER_CTRL, 1024, 0x10, 1, 0x0, 0, 2, fun _ => 0⟩
/-- The byte address of `QSG.SHAPER_RATE` (R257). -/
def A.QSG_SHAPER_RATE : Nat := 0x161004
def F.QSG_SHAPER_RATE_RATE_KBPS : Fld := ⟨A.QSG_SHAPER_RATE, 1024, 0x10, 1, 0x0, 0, 32, fun _ => 0⟩
/-- The byte address of `QSG.SHAPER_BURST` (R257). -/
def A.QSG_SHAPER_BURST : Nat := 0x161008
def F.QSG_SHAPER_BURST_BURST_BYTES : Fld := ⟨A.QSG_SHAPER_BURST, 1024, 0x10, 1, 0x0, 0, 24, fun _ => 16384⟩
/-- The byte address of `QSG.SHAPER_CREDIT` (R257). -/
def A.QSG_SHAPER_CREDIT : Nat := 0x16100C
def F.QSG_SHAPER_CREDIT_CREDIT_BYTES : Fld := ⟨A.QSG_SHAPER_CREDIT, 1024, 0x10, 1, 0x0, 0, 32, fun _ => 0⟩
/-- The byte address of `QSG.Q_SCHED` (R257). -/
def A.QSG_Q_SCHED : Nat := 0x169000
def F.QSG_Q_SCHED_PROFILE : Fld := ⟨A.QSG_Q_SCHED, 8288, 0x4, 1, 0x0, 0, 6, fun q => q % 16 / 2⟩
def F.QSG_Q_SCHED_SHAPER : Fld := ⟨A.QSG_Q_SCHED, 8288, 0x4, 1, 0x0, 8, 10, fun _ => 0⟩
def F.QSG_Q_SCHED_SHAPER_EN : Fld := ⟨A.QSG_Q_SCHED, 8288, 0x4, 1, 0x0, 18, 1, fun _ => 0⟩
/-- The byte address of `QSG.PORT_CTRL` (R258). -/
def A.QSG_PORT_CTRL : Nat := 0x172000
def F.QSG_PORT_CTRL_RX_PAUSE_EN : Fld := ⟨A.QSG_PORT_CTRL, 518, 0x20, 1, 0x0, 0, 1, fun _ => 0⟩
def F.QSG_PORT_CTRL_RX_PFC_EN : Fld := ⟨A.QSG_PORT_CTRL, 518, 0x20, 1, 0x0, 1, 1, fun _ => 0⟩
def F.QSG_PORT_CTRL_GATE_EN : Fld := ⟨A.QSG_PORT_CTRL, 518, 0x20, 1, 0x0, 2, 1, fun _ => 0⟩
def F.QSG_PORT_CTRL_FLAP_HOLD_US : Fld := ⟨A.QSG_PORT_CTRL, 518, 0x20, 1, 0x0, 4, 10, fun _ => 0⟩
def F.QSG_PORT_CTRL_SAMPLE_EN : Fld := ⟨A.QSG_PORT_CTRL, 518, 0x20, 1, 0x0, 16, 1, fun _ => 0⟩
def F.QSG_PORT_CTRL_PSHAPER_EN : Fld := ⟨A.QSG_PORT_CTRL, 518, 0x20, 1, 0x0, 17, 1, fun _ => 0⟩
def F.QSG_PORT_CTRL_PSHAPER : Fld := ⟨A.QSG_PORT_CTRL, 518, 0x20, 1, 0x0, 18, 10, fun _ => 0⟩
/-- The byte address of `QSG.QMAP` (R258). -/
def A.QSG_QMAP : Nat := 0x172004
def F.QSG_QMAP_MAP : Fld := ⟨A.QSG_QMAP, 518, 0x20, 1, 0x0, 0, 32, fun _ => 3970458656⟩
/-- The byte address of `QSG.PFC_QMAP_LO` (R258). -/
def A.QSG_PFC_QMAP_LO : Nat := 0x172008
def F.QSG_PFC_QMAP_LO_MAP : Fld := ⟨A.QSG_PFC_QMAP_LO, 518, 0x20, 1, 0x0, 0, 24, fun _ => 7152192⟩
/-- The byte address of `QSG.PFC_QMAP_HI` (R258). -/
def A.QSG_PFC_QMAP_HI : Nat := 0x17200C
def F.QSG_PFC_QMAP_HI_MAP : Fld := ⟨A.QSG_PFC_QMAP_HI, 518, 0x20, 1, 0x0, 0, 24, fun _ => 16739172⟩
/-- The byte address of `QSG.GCL_CTRL` (R258). -/
def A.QSG_GCL_CTRL : Nat := 0x172010
def F.QSG_GCL_CTRL_ADMIN_SCHED : Fld := ⟨A.QSG_GCL_CTRL, 518, 0x20, 1, 0x0, 0, 10, fun _ => 0⟩
/-- The byte address of `QSG.GCL_STATUS` (R258). -/
def A.QSG_GCL_STATUS : Nat := 0x172014
def F.QSG_GCL_STATUS_OPER_SCHED : Fld := ⟨A.QSG_GCL_STATUS, 518, 0x20, 1, 0x0, 0, 10, fun _ => 0⟩
def F.QSG_GCL_STATUS_OPER_VALID : Fld := ⟨A.QSG_GCL_STATUS, 518, 0x20, 1, 0x0, 16, 1, fun _ => 0⟩
def F.QSG_GCL_STATUS_PENDING : Fld := ⟨A.QSG_GCL_STATUS, 518, 0x20, 1, 0x0, 17, 1, fun _ => 0⟩
def F.QSG_GCL_STATUS_ENTRY : Fld := ⟨A.QSG_GCL_STATUS, 518, 0x20, 1, 0x0, 24, 8, fun _ => 0⟩
/-- The byte address of `QSG.PAUSE_STATUS` (R258). -/
def A.QSG_PAUSE_STATUS : Nat := 0x172018
def F.QSG_PAUSE_STATUS_PFC_PAUSED : Fld := ⟨A.QSG_PAUSE_STATUS, 518, 0x20, 1, 0x0, 0, 8, fun _ => 0⟩
def F.QSG_PAUSE_STATUS_PAUSED : Fld := ⟨A.QSG_PAUSE_STATUS, 518, 0x20, 1, 0x0, 8, 1, fun _ => 0⟩
/-- The byte address of `CLR.INT_STATUS` (R278). -/
def A.CLR_INT_STATUS : Nat := 0x180010
def F.CLR_INT_STATUS_LATE : Fld := ⟨A.CLR_INT_STATUS, 1, 0x0, 1, 0x0, 0, 1, fun _ => 0⟩
def F.CLR_INT_STATUS_HOLD_FULL : Fld := ⟨A.CLR_INT_STATUS, 1, 0x0, 1, 0x0, 1, 1, fun _ => 0⟩
def F.CLR_INT_STATUS_TOO_LATE : Fld := ⟨A.CLR_INT_STATUS, 1, 0x0, 1, 0x0, 2, 1, fun _ => 0⟩
/-- The byte address of `CLR.INT_ENABLE` (R277). -/
def A.CLR_INT_ENABLE : Nat := 0x180014
def F.CLR_INT_ENABLE_VALUE : Fld := ⟨A.CLR_INT_ENABLE, 1, 0x0, 1, 0x0, 0, 3, fun _ => 0⟩
/-- The byte address of `CLR.LAST_LATE` (R278). -/
def A.CLR_LAST_LATE : Nat := 0x180020
def F.CLR_LAST_LATE_PORT : Fld := ⟨A.CLR_LAST_LATE, 1, 0x0, 1, 0x0, 0, 10, fun _ => 0⟩
def F.CLR_LAST_LATE_PROFILE : Fld := ⟨A.CLR_LAST_LATE, 1, 0x0, 1, 0x0, 12, 3, fun _ => 0⟩
def F.CLR_LAST_LATE_VALID : Fld := ⟨A.CLR_LAST_LATE, 1, 0x0, 1, 0x0, 31, 1, fun _ => 0⟩
/-- The byte address of `CLR.LAST_LATE_FINE` (R278). -/
def A.CLR_LAST_LATE_FINE : Nat := 0x180024
def F.CLR_LAST_LATE_FINE_LATENESS : Fld := ⟨A.CLR_LAST_LATE_FINE, 1, 0x0, 1, 0x0, 0, 32, fun _ => 0⟩
/-- The byte address of `CLR.LAST_LATE_TICK_LO` (R278). -/
def A.CLR_LAST_LATE_TICK_LO : Nat := 0x180028
def F.CLR_LAST_LATE_TICK_LO_VALUE : Fld := ⟨A.CLR_LAST_LATE_TICK_LO, 1, 0x0, 1, 0x0, 0, 32, fun _ => 0⟩
/-- The byte address of `CLR.LAST_LATE_TICK_HI` (R278). -/
def A.CLR_LAST_LATE_TICK_HI : Nat := 0x18002C
def F.CLR_LAST_LATE_TICK_HI_VALUE : Fld := ⟨A.CLR_LAST_LATE_TICK_HI, 1, 0x0, 1, 0x0, 0, 32, fun _ => 0⟩
/-- The byte address of `CLR.PROF_CTRL` (R278). -/
def A.CLR_PROF_CTRL : Nat := 0x180100
def F.CLR_PROF_CTRL_ENABLE : Fld := ⟨A.CLR_PROF_CTRL, 8, 0x20, 1, 0x0, 0, 1, fun _ => 0⟩
def F.CLR_PROF_CTRL_KIND : Fld := ⟨A.CLR_PROF_CTRL, 8, 0x20, 1, 0x0, 1, 1, fun _ => 0⟩
/-- The byte address of `CLR.PROF_L` (R278). -/
def A.CLR_PROF_L : Nat := 0x180104
def F.CLR_PROF_L_L_NS : Fld := ⟨A.CLR_PROF_L, 8, 0x20, 1, 0x0, 0, 20, fun _ => 480⟩
/-- The byte address of `CLR.PROF_LATE_MAX` (R278). -/
def A.CLR_PROF_LATE_MAX : Nat := 0x180108
def F.CLR_PROF_LATE_MAX_LATE_MAX_NS : Fld := ⟨A.CLR_PROF_LATE_MAX, 8, 0x20, 1, 0x0, 0, 32, fun _ => 1000000⟩
/-- The byte address of `CLR.PROF_NEED` (R278). -/
def A.CLR_PROF_NEED : Nat := 0x18010C
def F.CLR_PROF_NEED_MAX_NEED_NS : Fld := ⟨A.CLR_PROF_NEED, 8, 0x20, 1, 0x0, 0, 20, fun _ => 0⟩
/-- The byte address of `CLR.PROF_HELD` (R278). -/
def A.CLR_PROF_HELD : Nat := 0x180110
def F.CLR_PROF_HELD_COPIES : Fld := ⟨A.CLR_PROF_HELD, 8, 0x20, 1, 0x0, 0, 18, fun _ => 0⟩
/-- The byte address of `CLR.GRP_STATUS` (R278). -/
def A.CLR_GRP_STATUS : Nat := 0x180200
def F.CLR_GRP_STATUS_FREE : Fld := ⟨A.CLR_GRP_STATUS, 16, 0x4, 1, 0x0, 0, 15, fun _ => 16384⟩
def F.CLR_GRP_STATUS_LOW : Fld := ⟨A.CLR_GRP_STATUS, 16, 0x4, 1, 0x0, 16, 15, fun _ => 16384⟩
/-- The byte address of `CLR.PORT_CABLE` (R278). -/
def A.CLR_PORT_CABLE : Nat := 0x181000
def F.CLR_PORT_CABLE_CABLE_OFS : Fld := ⟨A.CLR_PORT_CABLE, 512, 0x10, 1, 0x0, 0, 24, fun _ => 0⟩
/-- The byte address of `CLR.PORT_HOLD_MAX` (R278). -/
def A.CLR_PORT_HOLD_MAX : Nat := 0x181004
def F.CLR_PORT_HOLD_MAX_SLOTS : Fld := ⟨A.CLR_PORT_HOLD_MAX, 512, 0x10, 1, 0x0, 0, 14, fun _ => 2048⟩
/-- The byte address of `CLR.PORT_HOLD_STATUS` (R278). -/
def A.CLR_PORT_HOLD_STATUS : Nat := 0x181008
def F.CLR_PORT_HOLD_STATUS_HELD : Fld := ⟨A.CLR_PORT_HOLD_STATUS, 512, 0x10, 1, 0x0, 0, 14, fun _ => 0⟩
def F.CLR_PORT_HOLD_STATUS_HWM : Fld := ⟨A.CLR_PORT_HOLD_STATUS, 512, 0x10, 1, 0x0, 16, 14, fun _ => 0⟩
/-- The byte address of `MSQ.STATUS` (R296). -/
def A.MSQ_STATUS : Nat := 0x190000
def F.MSQ_STATUS_POOL_FREE : Fld := ⟨A.MSQ_STATUS, 1, 0x0, 1, 0x0, 0, 18, fun _ => 131072⟩
/-- The byte address of `MSQ.INT_STATUS` (R296). -/
def A.MSQ_INT_STATUS : Nat := 0x190010
def F.MSQ_INT_STATUS_LATE : Fld := ⟨A.MSQ_INT_STATUS, 1, 0x0, 1, 0x0, 0, 1, fun _ => 0⟩
def F.MSQ_INT_STATUS_SEQ_FULL : Fld := ⟨A.MSQ_INT_STATUS, 1, 0x0, 1, 0x0, 1, 1, fun _ => 0⟩
def F.MSQ_INT_STATUS_EARLY_RELEASE : Fld := ⟨A.MSQ_INT_STATUS, 1, 0x0, 1, 0x0, 2, 1, fun _ => 0⟩
def F.MSQ_INT_STATUS_W_CLAMPED : Fld := ⟨A.MSQ_INT_STATUS, 1, 0x0, 1, 0x0, 3, 1, fun _ => 0⟩
/-- The byte address of `MSQ.INT_ENABLE` (R295). -/
def A.MSQ_INT_ENABLE : Nat := 0x190014
def F.MSQ_INT_ENABLE_VALUE : Fld := ⟨A.MSQ_INT_ENABLE, 1, 0x0, 1, 0x0, 0, 4, fun _ => 0⟩
/-- The byte address of `MSQ.LAST_LATE` (R296). -/
def A.MSQ_LAST_LATE : Nat := 0x190020
def F.MSQ_LAST_LATE_INSTANCE : Fld := ⟨A.MSQ_LAST_LATE, 1, 0x0, 1, 0x0, 0, 5, fun _ => 0⟩
def F.MSQ_LAST_LATE_PORT : Fld := ⟨A.MSQ_LAST_LATE, 1, 0x0, 1, 0x0, 16, 9, fun _ => 0⟩
def F.MSQ_LAST_LATE_VALID : Fld := ⟨A.MSQ_LAST_LATE, 1, 0x0, 1, 0x0, 31, 1, fun _ => 0⟩
/-- The byte address of `MSQ.LAST_LATE_SUB` (R296). -/
def A.MSQ_LAST_LATE_SUB : Nat := 0x190024
def F.MSQ_LAST_LATE_SUB_LATENESS : Fld := ⟨A.MSQ_LAST_LATE_SUB, 1, 0x0, 1, 0x0, 0, 32, fun _ => 0⟩
/-- The byte address of `MSQ.LAST_LATE_TICK_LO` (R296). -/
def A.MSQ_LAST_LATE_TICK_LO : Nat := 0x190028
def F.MSQ_LAST_LATE_TICK_LO_VALUE : Fld := ⟨A.MSQ_LAST_LATE_TICK_LO, 1, 0x0, 1, 0x0, 0, 32, fun _ => 0⟩
/-- The byte address of `MSQ.LAST_LATE_TICK_HI` (R296). -/
def A.MSQ_LAST_LATE_TICK_HI : Nat := 0x19002C
def F.MSQ_LAST_LATE_TICK_HI_VALUE : Fld := ⟨A.MSQ_LAST_LATE_TICK_HI, 1, 0x0, 1, 0x0, 0, 32, fun _ => 0⟩
/-- The byte address of `MSQ.INST_CTRL` (R297). -/
def A.MSQ_INST_CTRL : Nat := 0x190100
def F.MSQ_INST_CTRL_ENABLE : Fld := ⟨A.MSQ_INST_CTRL, 32, 0x80, 1, 0x0, 0, 1, fun _ => 0⟩
def F.MSQ_INST_CTRL_SEQ_EN : Fld := ⟨A.MSQ_INST_CTRL, 32, 0x80, 1, 0x0, 1, 1, fun _ => 0⟩
def F.MSQ_INST_CTRL_TRAILER : Fld := ⟨A.MSQ_INST_CTRL, 32, 0x80, 1, 0x0, 2, 1, fun _ => 0⟩
def F.MSQ_INST_CTRL_FULL_POLICY : Fld := ⟨A.MSQ_INST_CTRL, 32, 0x80, 1, 0x0, 3, 1, fun _ => 0⟩
def F.MSQ_INST_CTRL_EGRESS : Fld := ⟨A.MSQ_INST_CTRL, 32, 0x80, 1, 0x0, 16, 9, fun _ => 0⟩
/-- The byte address of `MSQ.INST_WINDOW` (R297). -/
def A.MSQ_INST_WINDOW : Nat := 0x190104
def F.MSQ_INST_WINDOW_W_NS : Fld := ⟨A.MSQ_INST_WINDOW, 32, 0x80, 1, 0x0, 0, 15, fun _ => 1000⟩
/-- The byte address of `MSQ.INST_STORE` (R297). -/
def A.MSQ_INST_STORE : Nat := 0x190108
def F.MSQ_INST_STORE_STORE_MAX : Fld := ⟨A.MSQ_INST_STORE, 32, 0x80, 1, 0x0, 0, 17, fun _ => 4096⟩
/-- The byte address of `MSQ.SEQ_NEXT_LO` (R297). -/
def A.MSQ_SEQ_NEXT_LO : Nat := 0x19010C
def F.MSQ_SEQ_NEXT_LO_VALUE : Fld := ⟨A.MSQ_SEQ_NEXT_LO, 32, 0x80, 1, 0x0, 0, 32, fun _ => 0⟩
/-- The byte address of `MSQ.SEQ_NEXT_HI` (R297). -/
def A.MSQ_SEQ_NEXT_HI : Nat := 0x190110
def F.MSQ_SEQ_NEXT_HI_VALUE : Fld := ⟨A.MSQ_SEQ_NEXT_HI, 32, 0x80, 1, 0x0, 0, 32, fun _ => 0⟩
/-- The byte address of `MSQ.LAST_RAW_LO` (R297). -/
def A.MSQ_LAST_RAW_LO : Nat := 0x190114
def F.MSQ_LAST_RAW_LO_TICK : Fld := ⟨A.MSQ_LAST_RAW_LO, 32, 0x80, 1, 0x0, 0, 32, fun _ => 0⟩
/-- The byte address of `MSQ.LAST_RAW_HI` (R297). -/
def A.MSQ_LAST_RAW_HI : Nat := 0x190118
def F.MSQ_LAST_RAW_HI_TICK : Fld := ⟨A.MSQ_LAST_RAW_HI, 32, 0x80, 1, 0x0, 0, 32, fun _ => 0⟩
/-- The byte address of `MSQ.LAST_SUB` (R297). -/
def A.MSQ_LAST_SUB : Nat := 0x19011C
def F.MSQ_LAST_SUB_SUB : Fld := ⟨A.MSQ_LAST_SUB, 32, 0x80, 1, 0x0, 0, 4, fun _ => 0⟩
def F.MSQ_LAST_SUB_VALID : Fld := ⟨A.MSQ_LAST_SUB, 32, 0x80, 1, 0x0, 31, 1, fun _ => 0⟩
/-- The byte address of `MSQ.INST_STATUS` (R297). -/
def A.MSQ_INST_STATUS : Nat := 0x190120
def F.MSQ_INST_STATUS_HELD : Fld := ⟨A.MSQ_INST_STATUS, 32, 0x80, 1, 0x0, 0, 17, fun _ => 0⟩
def F.MSQ_INST_STATUS_PTR : Fld := ⟨A.MSQ_INST_STATUS, 32, 0x80, 1, 0x0, 20, 9, fun _ => 0⟩
/-- The byte address of `MSQ.AGE` (R297). -/
def A.MSQ_AGE : Nat := 0x190124
def F.MSQ_AGE_MAX_AGE_NS : Fld := ⟨A.MSQ_AGE, 32, 0x80, 1, 0x0, 0, 20, fun _ => 0⟩
/-- The byte address of `MSQ.HWM` (R297). -/
def A.MSQ_HWM : Nat := 0x190128
def F.MSQ_HWM_HELD_MAX : Fld := ⟨A.MSQ_HWM, 32, 0x80, 1, 0x0, 0, 17, fun _ => 0⟩
/-- The byte address of `MSQ.MEMBER` (R297). -/
def A.MSQ_MEMBER : Nat := 0x190140
def F.MSQ_MEMBER_PORTS : Fld := ⟨A.MSQ_MEMBER, 32, 0x80, 16, 0x4, 0, 32, fun _ => 0⟩
/-- The byte address of `TRP.CTRL` (R315). -/
def A.TRP_CTRL : Nat := 0x1A0000
def F.TRP_CTRL_ENABLE : Fld := ⟨A.TRP_CTRL, 1, 0x0, 1, 0x0, 0, 1, fun _ => 0⟩
def F.TRP_CTRL_MEMBER_ID : Fld := ⟨A.TRP_CTRL, 1, 0x0, 1, 0x0, 4, 3, fun _ => 0⟩
def F.TRP_CTRL_LEAD_PRIO : Fld := ⟨A.TRP_CTRL, 1, 0x0, 1, 0x0, 8, 8, fun _ => 128⟩
def F.TRP_CTRL_QUEUE : Fld := ⟨A.TRP_CTRL, 1, 0x0, 1, 0x0, 16, 4, fun _ => 15⟩
/-- The byte address of `TRP.TROUPE_ID` (R315). -/
def A.TRP_TROUPE_ID : Nat := 0x1A0004
def F.TRP_TROUPE_ID_VALUE : Fld := ⟨A.TRP_TROUPE_ID, 1, 0x0, 1, 0x0, 0, 32, fun _ => 0⟩
/-- The byte address of `TRP.STATUS` (R315). -/
def A.TRP_STATUS : Nat := 0x1A0008
def F.TRP_STATUS_STATE : Fld := ⟨A.TRP_STATUS, 1, 0x0, 1, 0x0, 0, 3, fun _ => 0⟩
def F.TRP_STATUS_LEAD_ID : Fld := ⟨A.TRP_STATUS, 1, 0x0, 1, 0x0, 4, 3, fun _ => 0⟩
def F.TRP_STATUS_LIVE : Fld := ⟨A.TRP_STATUS, 1, 0x0, 1, 0x0, 8, 8, fun _ => 0⟩
/-- The byte address of `TRP.TIMING` (R315). -/
def A.TRP_TIMING : Nat := 0x1A000C
def F.TRP_TIMING_HELLO_US : Fld := ⟨A.TRP_TIMING, 1, 0x0, 1, 0x0, 0, 10, fun _ => 100⟩
def F.TRP_TIMING_LOSS_COUNT : Fld := ⟨A.TRP_TIMING, 1, 0x0, 1, 0x0, 12, 4, fun _ => 3⟩
def F.TRP_TIMING_LIFT_LEAD_US : Fld := ⟨A.TRP_TIMING, 1, 0x0, 1, 0x0, 16, 16, fun _ => 1000⟩
/-- The byte address of `TRP.LIFT` (R315). -/
def A.TRP_LIFT : Nat := 0x1A0010
def F.TRP_LIFT_LIFT_NS : Fld := ⟨A.TRP_LIFT, 1, 0x0, 1, 0x0, 0, 20, fun _ => 0⟩
/-- The byte address of `TRP.LIFT_SEQ` (R315). -/
def A.TRP_LIFT_SEQ : Nat := 0x1A0014
def F.TRP_LIFT_SEQ_VALUE : Fld := ⟨A.TRP_LIFT_SEQ, 1, 0x0, 1, 0x0, 0, 32, fun _ => 0⟩
/-- The byte address of `TRP.LIFT_CFG` (R315). -/
def A.TRP_LIFT_CFG : Nat := 0x1A0018
def F.TRP_LIFT_CFG_MARGIN_NS : Fld := ⟨A.TRP_LIFT_CFG, 1, 0x0, 1, 0x0, 0, 10, fun _ => 20⟩
def F.TRP_LIFT_CFG_UNLIFT_PHASES : Fld := ⟨A.TRP_LIFT_CFG, 1, 0x0, 1, 0x0, 16, 5, fun _ => 24⟩
def F.TRP_LIFT_CFG_UNLIFT : Fld := ⟨A.TRP_LIFT_CFG, 1, 0x0, 1, 0x0, 31, 1, fun _ => 0⟩
/-- The byte address of `TRP.SHARE_MASK` (R315). -/
def A.TRP_SHARE_MASK : Nat := 0x1A001C
def F.TRP_SHARE_MASK_PROFILES : Fld := ⟨A.TRP_SHARE_MASK, 1, 0x0, 1, 0x0, 0, 8, fun _ => 255⟩
/-- The byte address of `TRP.INT_STATUS` (R315). -/
def A.TRP_INT_STATUS : Nat := 0x1A0028
def F.TRP_INT_STATUS_LEAD_CHANGE : Fld := ⟨A.TRP_INT_STATUS, 1, 0x0, 1, 0x0, 0, 1, fun _ => 0⟩
def F.TRP_INT_STATUS_MEMBER_LOST : Fld := ⟨A.TRP_INT_STATUS, 1, 0x0, 1, 0x0, 1, 1, fun _ => 0⟩
def F.TRP_INT_STATUS_ID_CLASH : Fld := ⟨A.TRP_INT_STATUS, 1, 0x0, 1, 0x0, 2, 1, fun _ => 0⟩
def F.TRP_INT_STATUS_LIFT_APPLIED : Fld := ⟨A.TRP_INT_STATUS, 1, 0x0, 1, 0x0, 3, 1, fun _ => 0⟩
def F.TRP_INT_STATUS_LIFT_LATE : Fld := ⟨A.TRP_INT_STATUS, 1, 0x0, 1, 0x0, 4, 1, fun _ => 0⟩
def F.TRP_INT_STATUS_L_CLAMPED : Fld := ⟨A.TRP_INT_STATUS, 1, 0x0, 1, 0x0, 5, 1, fun _ => 0⟩
def F.TRP_INT_STATUS_BUDGET_SHORT : Fld := ⟨A.TRP_INT_STATUS, 1, 0x0, 1, 0x0, 6, 1, fun _ => 0⟩
def F.TRP_INT_STATUS_BASE_REFUSED : Fld := ⟨A.TRP_INT_STATUS, 1, 0x0, 1, 0x0, 7, 1, fun _ => 0⟩
/-- The byte address of `TRP.BUDGET` (R315). -/
def A.TRP_BUDGET : Nat := 0x1A0030
def F.TRP_BUDGET_BUDGET_W : Fld := ⟨A.TRP_BUDGET, 1, 0x0, 1, 0x0, 0, 16, fun _ => 8000⟩
def F.TRP_BUDGET_PERIOD_MS : Fld := ⟨A.TRP_BUDGET, 1, 0x0, 1, 0x0, 16, 8, fun _ => 10⟩
/-- The byte address of `TRP.POWER` (R315). -/
def A.TRP_POWER : Nat := 0x1A0034
def F.TRP_POWER_GRANT_MIN_W : Fld := ⟨A.TRP_POWER, 1, 0x0, 1, 0x0, 0, 16, fun _ => 600⟩
def F.TRP_POWER_SOLO_W : Fld := ⟨A.TRP_POWER, 1, 0x0, 1, 0x0, 16, 16, fun _ => 1000⟩
/-- The byte address of `TRP.GRANT` (R315). -/
def A.TRP_GRANT : Nat := 0x1A0038
def F.TRP_GRANT_GRANT_W : Fld := ⟨A.TRP_GRANT, 1, 0x0, 1, 0x0, 0, 16, fun _ => 0⟩
def F.TRP_GRANT_CRITICAL : Fld := ⟨A.TRP_GRANT, 1, 0x0, 1, 0x0, 16, 1, fun _ => 0⟩
/-- The byte address of `TRP.SRC_MAC_LO` (R315). -/
def A.TRP_SRC_MAC_LO : Nat := 0x1A0020
def F.TRP_SRC_MAC_LO_VALUE : Fld := ⟨A.TRP_SRC_MAC_LO, 1, 0x0, 1, 0x0, 0, 32, fun _ => 0⟩
/-- The byte address of `TRP.SRC_MAC_HI` (R315). -/
def A.TRP_SRC_MAC_HI : Nat := 0x1A0024
def F.TRP_SRC_MAC_HI_VALUE : Fld := ⟨A.TRP_SRC_MAC_HI, 1, 0x0, 1, 0x0, 0, 16, fun _ => 0⟩
/-- The byte address of `TRP.INT_ENABLE` (R314). -/
def A.TRP_INT_ENABLE : Nat := 0x1A002C
def F.TRP_INT_ENABLE_VALUE : Fld := ⟨A.TRP_INT_ENABLE, 1, 0x0, 1, 0x0, 0, 8, fun _ => 0⟩
/-- The byte address of `TRP.LINK` (R315). -/
def A.TRP_LINK : Nat := 0x1A0040
def F.TRP_LINK_PORT : Fld := ⟨A.TRP_LINK, 16, 0x4, 1, 0x0, 0, 10, fun _ => 0⟩
def F.TRP_LINK_VALID : Fld := ⟨A.TRP_LINK, 16, 0x4, 1, 0x0, 31, 1, fun _ => 0⟩
/-- The byte address of `TRP.BASE` (R315). -/
def A.TRP_BASE : Nat := 0x1A0080
def F.TRP_BASE_BASE_L_NS : Fld := ⟨A.TRP_BASE, 8, 0x4, 1, 0x0, 0, 20, fun _ => 480⟩
/-- The byte address of `TRP.PEER` (R315). -/
def A.TRP_PEER : Nat := 0x1A00C0
def F.TRP_PEER_LIVE : Fld := ⟨A.TRP_PEER, 8, 0x4, 1, 0x0, 0, 1, fun _ => 0⟩
def F.TRP_PEER_CRITICAL : Fld := ⟨A.TRP_PEER, 8, 0x4, 1, 0x0, 1, 1, fun _ => 0⟩
def F.TRP_PEER_ACKED : Fld := ⟨A.TRP_PEER, 8, 0x4, 1, 0x0, 2, 1, fun _ => 0⟩
def F.TRP_PEER_GRANT_W : Fld := ⟨A.TRP_PEER, 8, 0x4, 1, 0x0, 16, 16, fun _ => 0⟩
/-- The byte address of `TRP.WBASE` (R315). -/
def A.TRP_WBASE : Nat := 0x1A0100
def F.TRP_WBASE_BASE_W_NS : Fld := ⟨A.TRP_WBASE, 32, 0x4, 1, 0x0, 0, 15, fun _ => 1000⟩
/-- The byte address of `EVR.STATUS` (R356). -/
def A.EVR_STATUS : Nat := 0x200000
def F.EVR_STATUS_READY : Fld := ⟨A.EVR_STATUS, 1, 0x0, 1, 0x0, 0, 1, fun _ => 0⟩
def F.EVR_STATUS_AGGREGATING : Fld := ⟨A.EVR_STATUS, 1, 0x0, 1, 0x0, 1, 1, fun _ => 0⟩
def F.EVR_STATUS_GAP_OPEN : Fld := ⟨A.EVR_STATUS, 1, 0x0, 1, 0x0, 2, 1, fun _ => 0⟩
def F.EVR_STATUS_SIGNERS : Fld := ⟨A.EVR_STATUS, 1, 0x0, 1, 0x0, 8, 4, fun _ => 12⟩
/-- The byte address of `EVR.INT_STATUS` (R356). -/
def A.EVR_INT_STATUS : Nat := 0x200004
def F.EVR_INT_STATUS_GAP : Fld := ⟨A.EVR_INT_STATUS, 1, 0x0, 1, 0x0, 0, 1, fun _ => 0⟩
def F.EVR_INT_STATUS_AGG_ON : Fld := ⟨A.EVR_INT_STATUS, 1, 0x0, 1, 0x0, 1, 1, fun _ => 0⟩
def F.EVR_INT_STATUS_SIGN_BACKLOG : Fld := ⟨A.EVR_INT_STATUS, 1, 0x0, 1, 0x0, 2, 1, fun _ => 0⟩
def F.EVR_INT_STATUS_SIGNER_FAULT : Fld := ⟨A.EVR_INT_STATUS, 1, 0x0, 1, 0x0, 3, 1, fun _ => 0⟩
def F.EVR_INT_STATUS_EXPORT_DONE : Fld := ⟨A.EVR_INT_STATUS, 1, 0x0, 1, 0x0, 4, 1, fun _ => 0⟩
def F.EVR_INT_STATUS_RING_LOST : Fld := ⟨A.EVR_INT_STATUS, 1, 0x0, 1, 0x0, 5, 1, fun _ => 0⟩
/-- The byte address of `EVR.CTRL` (R356). -/
def A.EVR_CTRL : Nat := 0x20000C
def F.EVR_CTRL_SEAT_EN : Fld := ⟨A.EVR_CTRL, 1, 0x0, 1, 0x0, 0, 4, fun _ => 1⟩
/-- The byte address of `EVR.STAGING` (R356). -/
def A.EVR_STAGING : Nat := 0x200030
def F.EVR_STAGING_USED_KIB : Fld := ⟨A.EVR_STAGING, 1, 0x0, 1, 0x0, 0, 16, fun _ => 0⟩
def F.EVR_STAGING_HWM_KIB : Fld := ⟨A.EVR_STAGING, 1, 0x0, 1, 0x0, 16, 16, fun _ => 0⟩
/-- The byte address of `EVR.STAGING_CFG` (R356). -/
def A.EVR_STAGING_CFG : Nat := 0x200034
def F.EVR_STAGING_CFG_AGG_ON_PCT : Fld := ⟨A.EVR_STAGING_CFG, 1, 0x0, 1, 0x0, 0, 7, fun _ => 50⟩
def F.EVR_STAGING_CFG_AGG_OFF_PCT : Fld := ⟨A.EVR_STAGING_CFG, 1, 0x0, 1, 0x0, 8, 7, fun _ => 25⟩
/-- The byte address of `EVR.RING` (R356). -/
def A.EVR_RING : Nat := 0x200038
def F.EVR_RING_NEXT_GIB : Fld := ⟨A.EVR_RING, 1, 0x0, 1, 0x0, 0, 7, fun _ => 96⟩
def F.EVR_RING_GIB : Fld := ⟨A.EVR_RING, 1, 0x0, 1, 0x0, 8, 7, fun _ => 96⟩
def F.EVR_RING_PIN_LIMIT_GIB : Fld := ⟨A.EVR_RING, 1, 0x0, 1, 0x0, 16, 8, fun _ => 48⟩
/-- The byte address of `EVR.PINNED` (R356). -/
def A.EVR_PINNED : Nat := 0x20003C
def F.EVR_PINNED_MIB : Fld := ⟨A.EVR_PINNED, 1, 0x0, 1, 0x0, 0, 20, fun _ => 0⟩
/-- The byte address of `EVR.CAP` (R356). -/
def A.EVR_CAP : Nat := 0x200040
def F.EVR_CAP_POWER_CAP : Fld := ⟨A.EVR_CAP, 1, 0x0, 1, 0x0, 0, 14, fun _ => 12000⟩
def F.EVR_CAP_CAP_EFF : Fld := ⟨A.EVR_CAP, 1, 0x0, 1, 0x0, 16, 14, fun _ => 12000⟩
/-- The byte address of `EVR.SIGN_STATUS` (R356). -/
def A.EVR_SIGN_STATUS : Nat := 0x200044
def F.EVR_SIGN_STATUS_BACKLOG : Fld := ⟨A.EVR_SIGN_STATUS, 1, 0x0, 1, 0x0, 0, 16, fun _ => 0⟩
def F.EVR_SIGN_STATUS_CORES_OK : Fld := ⟨A.EVR_SIGN_STATUS, 1, 0x0, 1, 0x0, 16, 12, fun _ => 4095⟩
/-- The byte address of `EVR.EXPORT_CTRL` (R356). -/
def A.EVR_EXPORT_CTRL : Nat := 0x200050
def F.EVR_EXPORT_CTRL_PORT : Fld := ⟨A.EVR_EXPORT_CTRL, 1, 0x0, 1, 0x0, 0, 9, fun _ => 0⟩
def F.EVR_EXPORT_CTRL_QUEUE : Fld := ⟨A.EVR_EXPORT_CTRL, 1, 0x0, 1, 0x0, 12, 4, fun _ => 0⟩
def F.EVR_EXPORT_CTRL_RATE_GBPS : Fld := ⟨A.EVR_EXPORT_CTRL, 1, 0x0, 1, 0x0, 16, 9, fun _ => 100⟩
def F.EVR_EXPORT_CTRL_CHUNK_KIB : Fld := ⟨A.EVR_EXPORT_CTRL, 1, 0x0, 1, 0x0, 25, 4, fun _ => 8⟩
/-- The byte address of `EVR.EXPORT_STATUS` (R356). -/
def A.EVR_EXPORT_STATUS : Nat := 0x200054
def F.EVR_EXPORT_STATUS_BUSY : Fld := ⟨A.EVR_EXPORT_STATUS, 1, 0x0, 1, 0x0, 0, 1, fun _ => 0⟩
def F.EVR_EXPORT_STATUS_EXPORT_ID : Fld := ⟨A.EVR_EXPORT_STATUS, 1, 0x0, 1, 0x0, 8, 8, fun _ => 0⟩
/-- The byte address of `EVR.INT_ENABLE` (R355). -/
def A.EVR_INT_ENABLE : Nat := 0x200008
def F.EVR_INT_ENABLE_VALUE : Fld := ⟨A.EVR_INT_ENABLE, 1, 0x0, 1, 0x0, 0, 6, fun _ => 0⟩
/-- The byte address of `EVR.CHAIN_ID_LO` (R356). -/
def A.EVR_CHAIN_ID_LO : Nat := 0x200010
def F.EVR_CHAIN_ID_LO_VALUE : Fld := ⟨A.EVR_CHAIN_ID_LO, 1, 0x0, 1, 0x0, 0, 32, fun _ => 0⟩
/-- The byte address of `EVR.CHAIN_ID_HI` (R356). -/
def A.EVR_CHAIN_ID_HI : Nat := 0x200014
def F.EVR_CHAIN_ID_HI_VALUE : Fld := ⟨A.EVR_CHAIN_ID_HI, 1, 0x0, 1, 0x0, 0, 32, fun _ => 0⟩
/-- The byte address of `EVR.OPEN_NO_LO` (R356). -/
def A.EVR_OPEN_NO_LO : Nat := 0x200018
def F.EVR_OPEN_NO_LO_VALUE : Fld := ⟨A.EVR_OPEN_NO_LO, 1, 0x0, 1, 0x0, 0, 32, fun _ => 0⟩
/-- The byte address of `EVR.OPEN_NO_HI` (R356). -/
def A.EVR_OPEN_NO_HI : Nat := 0x20001C
def F.EVR_OPEN_NO_HI_VALUE : Fld := ⟨A.EVR_OPEN_NO_HI, 1, 0x0, 1, 0x0, 0, 32, fun _ => 0⟩
/-- The byte address of `EVR.SIGNED_NO_LO` (R356). -/
def A.EVR_SIGNED_NO_LO : Nat := 0x200020
def F.EVR_SIGNED_NO_LO_VALUE : Fld := ⟨A.EVR_SIGNED_NO_LO, 1, 0x0, 1, 0x0, 0, 32, fun _ => 0⟩
/-- The byte address of `EVR.SIGNED_NO_HI` (R356). -/
def A.EVR_SIGNED_NO_HI : Nat := 0x200024
def F.EVR_SIGNED_NO_HI_VALUE : Fld := ⟨A.EVR_SIGNED_NO_HI, 1, 0x0, 1, 0x0, 0, 32, fun _ => 0⟩
/-- The byte address of `EVR.OLDEST_NO_LO` (R356). -/
def A.EVR_OLDEST_NO_LO : Nat := 0x200028
def F.EVR_OLDEST_NO_LO_VALUE : Fld := ⟨A.EVR_OLDEST_NO_LO, 1, 0x0, 1, 0x0, 0, 32, fun _ => 0⟩
/-- The byte address of `EVR.OLDEST_NO_HI` (R356). -/
def A.EVR_OLDEST_NO_HI : Nat := 0x20002C
def F.EVR_OLDEST_NO_HI_VALUE : Fld := ⟨A.EVR_OLDEST_NO_HI, 1, 0x0, 1, 0x0, 0, 32, fun _ => 0⟩
/-- The byte address of `EVR.EXPORT_IP_SRC` (R356). -/
def A.EVR_EXPORT_IP_SRC : Nat := 0x200058
def F.EVR_EXPORT_IP_SRC_VALUE : Fld := ⟨A.EVR_EXPORT_IP_SRC, 1, 0x0, 1, 0x0, 0, 32, fun _ => 0⟩
/-- The byte address of `EVR.EXPORT_IP_DST` (R356). -/
def A.EVR_EXPORT_IP_DST : Nat := 0x20005C
def F.EVR_EXPORT_IP_DST_VALUE : Fld := ⟨A.EVR_EXPORT_IP_DST, 1, 0x0, 1, 0x0, 0, 32, fun _ => 0⟩
/-- The byte address of `EVR.EXPORT_UDP` (R356). -/
def A.EVR_EXPORT_UDP : Nat := 0x200060
def F.EVR_EXPORT_UDP_SRC : Fld := ⟨A.EVR_EXPORT_UDP, 1, 0x0, 1, 0x0, 0, 16, fun _ => 0⟩
def F.EVR_EXPORT_UDP_DST : Fld := ⟨A.EVR_EXPORT_UDP, 1, 0x0, 1, 0x0, 16, 16, fun _ => 0⟩
/-- The byte address of `EVR.EXPORT_MAC_SRC_LO` (R356). -/
def A.EVR_EXPORT_MAC_SRC_LO : Nat := 0x200064
def F.EVR_EXPORT_MAC_SRC_LO_VALUE : Fld := ⟨A.EVR_EXPORT_MAC_SRC_LO, 1, 0x0, 1, 0x0, 0, 32, fun _ => 0⟩
/-- The byte address of `EVR.EXPORT_MAC_SRC_HI` (R356). -/
def A.EVR_EXPORT_MAC_SRC_HI : Nat := 0x200068
def F.EVR_EXPORT_MAC_SRC_HI_VALUE : Fld := ⟨A.EVR_EXPORT_MAC_SRC_HI, 1, 0x0, 1, 0x0, 0, 16, fun _ => 0⟩
/-- The byte address of `EVR.EXPORT_MAC_DST_LO` (R356). -/
def A.EVR_EXPORT_MAC_DST_LO : Nat := 0x20006C
def F.EVR_EXPORT_MAC_DST_LO_VALUE : Fld := ⟨A.EVR_EXPORT_MAC_DST_LO, 1, 0x0, 1, 0x0, 0, 32, fun _ => 0⟩
/-- The byte address of `EVR.EXPORT_MAC_DST_HI` (R356). -/
def A.EVR_EXPORT_MAC_DST_HI : Nat := 0x200070
def F.EVR_EXPORT_MAC_DST_HI_VALUE : Fld := ⟨A.EVR_EXPORT_MAC_DST_HI, 1, 0x0, 1, 0x0, 0, 16, fun _ => 0⟩
/-- The byte address of `EVR.PHASE_POL` (R356). -/
def A.EVR_PHASE_POL : Nat := 0x200080
def F.EVR_PHASE_POL_SEL_EN : Fld := ⟨A.EVR_PHASE_POL, 5, 0x4, 1, 0x0, 0, 16, fun _ => 65535⟩
def F.EVR_PHASE_POL_CAP : Fld := ⟨A.EVR_PHASE_POL, 5, 0x4, 1, 0x0, 16, 14, fun _ => 12000⟩
/-- The byte address of `EVR.SEL` (R356). -/
def A.EVR_SEL : Nat := 0x200100
def F.EVR_SEL_MODE : Fld := ⟨A.EVR_SEL, 16, 0x4, 1, 0x0, 0, 2, fun _ => 0⟩
def F.EVR_SEL_HEAD_128 : Fld := ⟨A.EVR_SEL, 16, 0x4, 1, 0x0, 2, 1, fun _ => 0⟩
def F.EVR_SEL_ONE_PER_FRAME : Fld := ⟨A.EVR_SEL, 16, 0x4, 1, 0x0, 3, 1, fun _ => 0⟩
/-- The byte address of `MEM.STATUS` (R378). -/
def A.MEM_STATUS : Nat := 0x210000
def F.MEM_STATUS_STATE : Fld := ⟨A.MEM_STATUS, 1, 0x0, 1, 0x0, 0, 2, fun _ => 0⟩
def F.MEM_STATUS_TRAINED : Fld := ⟨A.MEM_STATUS, 1, 0x0, 1, 0x0, 4, 1, fun _ => 0⟩
def F.MEM_STATUS_USER_GIB : Fld := ⟨A.MEM_STATUS, 1, 0x0, 1, 0x0, 8, 8, fun _ => 112⟩
/-- The byte address of `MEM.INT_STATUS` (R378). -/
def A.MEM_INT_STATUS : Nat := 0x210004
def F.MEM_INT_STATUS_CH_FAIL : Fld := ⟨A.MEM_INT_STATUS, 1, 0x0, 1, 0x0, 0, 1, fun _ => 0⟩
def F.MEM_INT_STATUS_REBUILT : Fld := ⟨A.MEM_INT_STATUS, 1, 0x0, 1, 0x0, 1, 1, fun _ => 0⟩
def F.MEM_INT_STATUS_LOST : Fld := ⟨A.MEM_INT_STATUS, 1, 0x0, 1, 0x0, 2, 1, fun _ => 0⟩
def F.MEM_INT_STATUS_HOT : Fld := ⟨A.MEM_INT_STATUS, 1, 0x0, 1, 0x0, 3, 1, fun _ => 0⟩
def F.MEM_INT_STATUS_FORCED : Fld := ⟨A.MEM_INT_STATUS, 1, 0x0, 1, 0x0, 4, 1, fun _ => 0⟩
/-- The byte address of `MEM.REFRESH_CFG` (R378). -/
def A.MEM_REFRESH_CFG : Nat := 0x210010
def F.MEM_REFRESH_CFG_TREFI_NS : Fld := ⟨A.MEM_REFRESH_CFG, 1, 0x0, 1, 0x0, 0, 13, fun _ => 3900⟩
def F.MEM_REFRESH_CFG_NR_K : Fld := ⟨A.MEM_REFRESH_CFG, 1, 0x0, 1, 0x0, 16, 5, fun _ => 8⟩
/-- The byte address of `MEM.SR_CTRL` (R378). -/
def A.MEM_SR_CTRL : Nat := 0x210014
def F.MEM_SR_CTRL_PHASES : Fld := ⟨A.MEM_SR_CTRL, 1, 0x0, 1, 0x0, 0, 5, fun _ => 0⟩
def F.MEM_SR_CTRL_SR_IDLE_US : Fld := ⟨A.MEM_SR_CTRL, 1, 0x0, 1, 0x0, 16, 16, fun _ => 1000⟩
/-- The byte address of `MEM.SR_BATCH` (R378). -/
def A.MEM_SR_BATCH : Nat := 0x210018
def F.MEM_SR_BATCH_BATCH_US : Fld := ⟨A.MEM_SR_BATCH, 1, 0x0, 1, 0x0, 0, 14, fun _ => 0⟩
def F.MEM_SR_BATCH_BATCH_KIB : Fld := ⟨A.MEM_SR_BATCH, 1, 0x0, 1, 0x0, 16, 14, fun _ => 4096⟩
/-- The byte address of `MEM.SCRUB_CTRL` (R378). -/
def A.MEM_SCRUB_CTRL : Nat := 0x21001C
def F.MEM_SCRUB_CTRL_PERIOD_H : Fld := ⟨A.MEM_SCRUB_CTRL, 1, 0x0, 1, 0x0, 0, 8, fun _ => 24⟩
def F.MEM_SCRUB_CTRL_ENABLE : Fld := ⟨A.MEM_SCRUB_CTRL, 1, 0x0, 1, 0x0, 8, 1, fun _ => 1⟩
/-- The byte address of `MEM.FAIL_CFG` (R378). -/
def A.MEM_FAIL_CFG : Nat := 0x210020
def F.MEM_FAIL_CFG_UE_LIMIT : Fld := ⟨A.MEM_FAIL_CFG, 1, 0x0, 1, 0x0, 0, 16, fun _ => 16⟩
/-- The byte address of `MEM.INT_ENABLE` (R377). -/
def A.MEM_INT_ENABLE : Nat := 0x210008
def F.MEM_INT_ENABLE_VALUE : Fld := ⟨A.MEM_INT_ENABLE, 1, 0x0, 1, 0x0, 0, 5, fun _ => 0⟩
/-- The byte address of `MEM.LOST_ADDR_LO` (R378). -/
def A.MEM_LOST_ADDR_LO : Nat := 0x210028
def F.MEM_LOST_ADDR_LO_VALUE : Fld := ⟨A.MEM_LOST_ADDR_LO, 1, 0x0, 1, 0x0, 0, 32, fun _ => 0⟩
/-- The byte address of `MEM.LOST_ADDR_HI` (R378). -/
def A.MEM_LOST_ADDR_HI : Nat := 0x21002C
def F.MEM_LOST_ADDR_HI_VALUE : Fld := ⟨A.MEM_LOST_ADDR_HI, 1, 0x0, 1, 0x0, 0, 31, fun _ => 0⟩
def F.MEM_LOST_ADDR_HI_VALID : Fld := ⟨A.MEM_LOST_ADDR_HI, 1, 0x0, 1, 0x0, 31, 1, fun _ => 0⟩
/-- The byte address of `MEM.STACK_STATUS` (R378). -/
def A.MEM_STACK_STATUS : Nat := 0x210100
def F.MEM_STACK_STATUS_TEMP_C : Fld := ⟨A.MEM_STACK_STATUS, 4, 0x10, 1, 0x0, 0, 8, fun _ => 0⟩
def F.MEM_STACK_STATUS_HOT : Fld := ⟨A.MEM_STACK_STATUS, 4, 0x10, 1, 0x0, 8, 1, fun _ => 0⟩
def F.MEM_STACK_STATUS_SR_STATE : Fld := ⟨A.MEM_STACK_STATUS, 4, 0x10, 1, 0x0, 12, 2, fun _ => 0⟩
/-- The byte address of `MEM.STACK_QUEUE` (R378). -/
def A.MEM_STACK_QUEUE : Nat := 0x210104
def F.MEM_STACK_QUEUE_DEPTH : Fld := ⟨A.MEM_STACK_QUEUE, 4, 0x10, 1, 0x0, 0, 7, fun _ => 0⟩
def F.MEM_STACK_QUEUE_HWM : Fld := ⟨A.MEM_STACK_QUEUE, 4, 0x10, 1, 0x0, 16, 7, fun _ => 0⟩
/-- The byte address of `MEM.CH_CTRL` (R378). -/
def A.MEM_CH_CTRL : Nat := 0x210200
def F.MEM_CH_CTRL_FORCE_FAIL : Fld := ⟨A.MEM_CH_CTRL, 32, 0x10, 1, 0x0, 0, 1, fun _ => 0⟩
def F.MEM_CH_CTRL_RETRY : Fld := ⟨A.MEM_CH_CTRL, 32, 0x10, 1, 0x0, 1, 1, fun _ => 0⟩
/-- The byte address of `MEM.CH_STATUS` (R378). -/
def A.MEM_CH_STATUS : Nat := 0x210204
def F.MEM_CH_STATUS_STATE : Fld := ⟨A.MEM_CH_STATUS, 32, 0x10, 1, 0x0, 0, 2, fun _ => 0⟩
def F.MEM_CH_STATUS_DEBT : Fld := ⟨A.MEM_CH_STATUS, 32, 0x10, 1, 0x0, 4, 3, fun _ => 0⟩
def F.MEM_CH_STATUS_LANES_REPAIRED : Fld := ⟨A.MEM_CH_STATUS, 32, 0x10, 1, 0x0, 8, 3, fun _ => 0⟩
/-- The byte address of `MEM.CH_REBUILD` (R378). -/
def A.MEM_CH_REBUILD : Nat := 0x210208
def F.MEM_CH_REBUILD_REBUILD_ROW : Fld := ⟨A.MEM_CH_REBUILD, 32, 0x10, 1, 0x0, 0, 24, fun _ => 0⟩
/-- The byte address of `LAN.GRP_STATUS` (R402). -/
def A.LAN_GRP_STATUS : Nat := 0x300000
def F.LAN_GRP_STATUS_REF_OK : Fld := ⟨A.LAN_GRP_STATUS, 16, 0x1000, 1, 0x0, 0, 1, fun _ => 0⟩
def F.LAN_GRP_STATUS_PLL_LOCK : Fld := ⟨A.LAN_GRP_STATUS, 16, 0x1000, 1, 0x0, 1, 1, fun _ => 0⟩
def F.LAN_GRP_STATUS_ACTIVE_PORTS : Fld := ⟨A.LAN_GRP_STATUS, 16, 0x1000, 1, 0x0, 8, 6, fun _ => 0⟩
/-- The byte address of `LAN.GRP_INT_STATUS` (R402). -/
def A.LAN_GRP_INT_STATUS : Nat := 0x300004
def F.LAN_GRP_INT_STATUS_LINK_UP : Fld := ⟨A.LAN_GRP_INT_STATUS, 16, 0x1000, 1, 0x0, 0, 1, fun _ => 0⟩
def F.LAN_GRP_INT_STATUS_LINK_DOWN : Fld := ⟨A.LAN_GRP_INT_STATUS, 16, 0x1000, 1, 0x0, 1, 1, fun _ => 0⟩
def F.LAN_GRP_INT_STATUS_ROLLBACK : Fld := ⟨A.LAN_GRP_INT_STATUS, 16, 0x1000, 1, 0x0, 2, 1, fun _ => 0⟩
def F.LAN_GRP_INT_STATUS_PPM_ALARM : Fld := ⟨A.LAN_GRP_INT_STATUS, 16, 0x1000, 1, 0x0, 3, 1, fun _ => 0⟩
def F.LAN_GRP_INT_STATUS_REF_LOST : Fld := ⟨A.LAN_GRP_INT_STATUS, 16, 0x1000, 1, 0x0, 4, 1, fun _ => 0⟩
def F.LAN_GRP_INT_STATUS_BRINGUP_FAIL : Fld := ⟨A.LAN_GRP_INT_STATUS, 16, 0x1000, 1, 0x0, 5, 1, fun _ => 0⟩
/-- The byte address of `LAN.LOCK_CFG` (R402). -/
def A.LAN_LOCK_CFG : Nat := 0x300010
def F.LAN_LOCK_CFG_LOCK_GOOD : Fld := ⟨A.LAN_LOCK_CFG, 16, 0x1000, 1, 0x0, 0, 4, fun _ => 4⟩
def F.LAN_LOCK_CFG_LOCK_BAD : Fld := ⟨A.LAN_LOCK_CFG, 16, 0x1000, 1, 0x0, 4, 4, fun _ => 3⟩
/-- The byte address of `LAN.TIMER0` (R402). -/
def A.LAN_TIMER0 : Nat := 0x300014
def F.LAN_TIMER0_TRAIN_MS : Fld := ⟨A.LAN_TIMER0, 16, 0x1000, 1, 0x0, 0, 16, fun _ => 3000⟩
def F.LAN_TIMER0_LOCK_MS : Fld := ⟨A.LAN_TIMER0, 16, 0x1000, 1, 0x0, 16, 16, fun _ => 100⟩
/-- The byte address of `LAN.TIMER1` (R402). -/
def A.LAN_TIMER1 : Nat := 0x300018
def F.LAN_TIMER1_STABLE_US : Fld := ⟨A.LAN_TIMER1, 16, 0x1000, 1, 0x0, 0, 16, fun _ => 100⟩
def F.LAN_TIMER1_QUICK_US : Fld := ⟨A.LAN_TIMER1, 16, 0x1000, 1, 0x0, 16, 16, fun _ => 500⟩
/-- The byte address of `LAN.FOM_CFG` (R402). -/
def A.LAN_FOM_CFG : Nat := 0x30001C
def F.LAN_FOM_CFG_FOM_MIN : Fld := ⟨A.LAN_FOM_CFG, 16, 0x1000, 1, 0x0, 0, 10, fun _ => 224⟩
def F.LAN_FOM_CFG_SNAP_MARGIN : Fld := ⟨A.LAN_FOM_CFG, 16, 0x1000, 1, 0x0, 16, 8, fun _ => 16⟩
def F.LAN_FOM_CFG_ROLLBACK_N : Fld := ⟨A.LAN_FOM_CFG, 16, 0x1000, 1, 0x0, 24, 4, fun _ => 2⟩
/-- The byte address of `LAN.GRP_INT_ENABLE` (R401). -/
def A.LAN_GRP_INT_ENABLE : Nat := 0x300008
def F.LAN_GRP_INT_ENABLE_VALUE : Fld := ⟨A.LAN_GRP_INT_ENABLE, 16, 0x1000, 1, 0x0, 0, 6, fun _ => 0⟩
/-- The byte address of `LAN.PORT_CTRL` (R403). -/
def A.LAN_PORT_CTRL : Nat := 0x300100
def F.LAN_PORT_CTRL_START : Fld := ⟨A.LAN_PORT_CTRL, 16, 0x1000, 32, 0x10, 0, 1, fun _ => 0⟩
def F.LAN_PORT_CTRL_EI_EN : Fld := ⟨A.LAN_PORT_CTRL, 16, 0x1000, 32, 0x10, 1, 1, fun _ => 0⟩
def F.LAN_PORT_CTRL_QUICK_EN : Fld := ⟨A.LAN_PORT_CTRL, 16, 0x1000, 32, 0x10, 2, 1, fun _ => 1⟩
def F.LAN_PORT_CTRL_HISER_DOWN : Fld := ⟨A.LAN_PORT_CTRL, 16, 0x1000, 32, 0x10, 3, 1, fun _ => 0⟩
def F.LAN_PORT_CTRL_FORCE_RETRAIN : Fld := ⟨A.LAN_PORT_CTRL, 16, 0x1000, 32, 0x10, 4, 1, fun _ => 0⟩
/-- The byte address of `LAN.PORT_CFG` (R403). -/
def A.LAN_PORT_CFG : Nat := 0x300104
def F.LAN_PORT_CFG_MODE : Fld := ⟨A.LAN_PORT_CFG, 16, 0x1000, 32, 0x10, 0, 4, fun _ => 5⟩
def F.LAN_PORT_CFG_REACH : Fld := ⟨A.LAN_PORT_CFG, 16, 0x1000, 32, 0x10, 4, 2, fun _ => 1⟩
def F.LAN_PORT_CFG_PRECODE : Fld := ⟨A.LAN_PORT_CFG, 16, 0x1000, 32, 0x10, 8, 2, fun _ => 0⟩
def F.LAN_PORT_CFG_EN : Fld := ⟨A.LAN_PORT_CFG, 16, 0x1000, 32, 0x10, 31, 1, fun _ => 1⟩
/-- The byte address of `LAN.PORT_STATUS` (R403). -/
def A.LAN_PORT_STATUS : Nat := 0x300108
def F.LAN_PORT_STATUS_STATE : Fld := ⟨A.LAN_PORT_STATUS, 16, 0x1000, 32, 0x10, 0, 3, fun _ => 0⟩
def F.LAN_PORT_STATUS_LAST_DOWN : Fld := ⟨A.LAN_PORT_STATUS, 16, 0x1000, 32, 0x10, 4, 3, fun _ => 0⟩
def F.LAN_PORT_STATUS_TX_EI : Fld := ⟨A.LAN_PORT_STATUS, 16, 0x1000, 32, 0x10, 8, 1, fun _ => 0⟩
def F.LAN_PORT_STATUS_RX_EI : Fld := ⟨A.LAN_PORT_STATUS, 16, 0x1000, 32, 0x10, 9, 1, fun _ => 0⟩
def F.LAN_PORT_STATUS_QUICK : Fld := ⟨A.LAN_PORT_STATUS, 16, 0x1000, 32, 0x10, 10, 1, fun _ => 0⟩
def F.LAN_PORT_STATUS_PPM_ALARM : Fld := ⟨A.LAN_PORT_STATUS, 16, 0x1000, 32, 0x10, 11, 1, fun _ => 0⟩
def F.LAN_PORT_STATUS_PCS0_LANE : Fld := ⟨A.LAN_PORT_STATUS, 16, 0x1000, 32, 0x10, 16, 3, fun _ => 0⟩
def F.LAN_PORT_STATUS_PPM : Fld := ⟨A.LAN_PORT_STATUS, 16, 0x1000, 32, 0x10, 24, 8, fun _ => 0⟩
/-- The byte address of `LAN.PORT_EI` (R403). -/
def A.LAN_PORT_EI : Nat := 0x30010C
def F.LAN_PORT_EI_IDLE_US : Fld := ⟨A.LAN_PORT_EI, 16, 0x1000, 32, 0x10, 0, 16, fun _ => 10⟩
/-- The byte address of `LAN.LANE_CTRL` (R404). -/
def A.LAN_LANE_CTRL : Nat := 0x300400
def F.LAN_LANE_CTRL_POL_AUTO : Fld := ⟨A.LAN_LANE_CTRL, 16, 0x1000, 32, 0x20, 0, 1, fun _ => 1⟩
def F.LAN_LANE_CTRL_RX_INVERT : Fld := ⟨A.LAN_LANE_CTRL, 16, 0x1000, 32, 0x20, 1, 1, fun _ => 0⟩
def F.LAN_LANE_CTRL_TX_INVERT : Fld := ⟨A.LAN_LANE_CTRL, 16, 0x1000, 32, 0x20, 2, 1, fun _ => 0⟩
def F.LAN_LANE_CTRL_ADAPT_EN : Fld := ⟨A.LAN_LANE_CTRL, 16, 0x1000, 32, 0x20, 3, 1, fun _ => 1⟩
def F.LAN_LANE_CTRL_SNAPSHOT : Fld := ⟨A.LAN_LANE_CTRL, 16, 0x1000, 32, 0x20, 4, 1, fun _ => 0⟩
def F.LAN_LANE_CTRL_ROLLBACK : Fld := ⟨A.LAN_LANE_CTRL, 16, 0x1000, 32, 0x20, 5, 1, fun _ => 0⟩
/-- The byte address of `LAN.LANE_STATUS` (R404). -/
def A.LAN_LANE_STATUS : Nat := 0x300404
def F.LAN_LANE_STATUS_SIGNAL : Fld := ⟨A.LAN_LANE_STATUS, 16, 0x1000, 32, 0x20, 0, 1, fun _ => 0⟩
def F.LAN_LANE_STATUS_BIT_LOCK : Fld := ⟨A.LAN_LANE_STATUS, 16, 0x1000, 32, 0x20, 1, 1, fun _ => 0⟩
def F.LAN_LANE_STATUS_BLOCK_LOCK : Fld := ⟨A.LAN_LANE_STATUS, 16, 0x1000, 32, 0x20, 2, 1, fun _ => 0⟩
def F.LAN_LANE_STATUS_RX_INVERTED : Fld := ⟨A.LAN_LANE_STATUS, 16, 0x1000, 32, 0x20, 3, 1, fun _ => 0⟩
def F.LAN_LANE_STATUS_POWER : Fld := ⟨A.LAN_LANE_STATUS, 16, 0x1000, 32, 0x20, 6, 2, fun _ => 1⟩
def F.LAN_LANE_STATUS_FOM_LOW : Fld := ⟨A.LAN_LANE_STATUS, 16, 0x1000, 32, 0x20, 8, 1, fun _ => 0⟩
def F.LAN_LANE_STATUS_PRECODE_RX : Fld := ⟨A.LAN_LANE_STATUS, 16, 0x1000, 32, 0x20, 4, 1, fun _ => 0⟩
def F.LAN_LANE_STATUS_PRECODE_TX : Fld := ⟨A.LAN_LANE_STATUS, 16, 0x1000, 32, 0x20, 5, 1, fun _ => 0⟩
/-- The byte address of `LAN.LANE_FOM` (R404). -/
def A.LAN_LANE_FOM : Nat := 0x300408
def F.LAN_LANE_FOM_VALUE : Fld := ⟨A.LAN_LANE_FOM, 16, 0x1000, 32, 0x20, 0, 10, fun _ => 0⟩
def F.LAN_LANE_FOM_MIN_SEEN : Fld := ⟨A.LAN_LANE_FOM, 16, 0x1000, 32, 0x20, 16, 10, fun _ => 1023⟩
/-- The byte address of `LAN.LANE_SNAP` (R404). -/
def A.LAN_LANE_SNAP : Nat := 0x30040C
def F.LAN_LANE_SNAP_SNAP_FOM : Fld := ⟨A.LAN_LANE_SNAP, 16, 0x1000, 32, 0x20, 0, 10, fun _ => 0⟩
def F.LAN_LANE_SNAP_SNAP_AGE_S : Fld := ⟨A.LAN_LANE_SNAP, 16, 0x1000, 32, 0x20, 16, 16, fun _ => 0⟩
/-- The byte address of `LAN.LANE_TX_COEF` (R404). -/
def A.LAN_LANE_TX_COEF : Nat := 0x300410
def F.LAN_LANE_TX_COEF_C_M2 : Fld := ⟨A.LAN_LANE_TX_COEF, 16, 0x1000, 32, 0x20, 0, 6, fun _ => 0⟩
def F.LAN_LANE_TX_COEF_C_M1 : Fld := ⟨A.LAN_LANE_TX_COEF, 16, 0x1000, 32, 0x20, 8, 6, fun _ => 0⟩
def F.LAN_LANE_TX_COEF_C_0 : Fld := ⟨A.LAN_LANE_TX_COEF, 16, 0x1000, 32, 0x20, 16, 6, fun _ => 31⟩
def F.LAN_LANE_TX_COEF_C_P1 : Fld := ⟨A.LAN_LANE_TX_COEF, 16, 0x1000, 32, 0x20, 24, 6, fun _ => 0⟩
/-- The byte address of `MAC.TPID` (R422). -/
def A.MAC_TPID : Nat := 0x340000
def F.MAC_TPID_VALUE : Fld := ⟨A.MAC_TPID, 1, 0x0, 1, 0x0, 0, 16, fun _ => 34984⟩
def F.MAC_TPID_EN : Fld := ⟨A.MAC_TPID, 1, 0x0, 1, 0x0, 16, 1, fun _ => 0⟩
/-- The byte address of `MAC.INT_STATUS` (R422). -/
def A.MAC_INT_STATUS : Nat := 0x340010
def F.MAC_INT_STATUS_MGMT_LINK : Fld := ⟨A.MAC_INT_STATUS, 1, 0x0, 1, 0x0, 0, 1, fun _ => 0⟩
def F.MAC_INT_STATUS_MGMT_BAD_MODE : Fld := ⟨A.MAC_INT_STATUS, 1, 0x0, 1, 0x0, 1, 1, fun _ => 0⟩
def F.MAC_INT_STATUS_MDIO_NOACK : Fld := ⟨A.MAC_INT_STATUS, 1, 0x0, 1, 0x0, 2, 1, fun _ => 0⟩
/-- The byte address of `MAC.INT_ENABLE` (R421). -/
def A.MAC_INT_ENABLE : Nat := 0x340014
def F.MAC_INT_ENABLE_VALUE : Fld := ⟨A.MAC_INT_ENABLE, 1, 0x0, 1, 0x0, 0, 3, fun _ => 0⟩
/-- The byte address of `MAC.MGMT_CFG` (R422). -/
def A.MAC_MGMT_CFG : Nat := 0x340100
def F.MAC_MGMT_CFG_EN : Fld := ⟨A.MAC_MGMT_CFG, 1, 0x0, 1, 0x0, 0, 1, fun _ => 0⟩
def F.MAC_MGMT_CFG_IF : Fld := ⟨A.MAC_MGMT_CFG, 1, 0x0, 1, 0x0, 1, 1, fun _ => 0⟩
def F.MAC_MGMT_CFG_AUTO : Fld := ⟨A.MAC_MGMT_CFG, 1, 0x0, 1, 0x0, 2, 1, fun _ => 1⟩
def F.MAC_MGMT_CFG_SPEED : Fld := ⟨A.MAC_MGMT_CFG, 1, 0x0, 1, 0x0, 4, 2, fun _ => 2⟩
def F.MAC_MGMT_CFG_DUPLEX : Fld := ⟨A.MAC_MGMT_CFG, 1, 0x0, 1, 0x0, 6, 1, fun _ => 1⟩
def F.MAC_MGMT_CFG_RGMII_DELAY : Fld := ⟨A.MAC_MGMT_CFG, 1, 0x0, 1, 0x0, 8, 2, fun _ => 0⟩
/-- The byte address of `MAC.MGMT_STATUS` (R422). -/
def A.MAC_MGMT_STATUS : Nat := 0x340104
def F.MAC_MGMT_STATUS_LINK : Fld := ⟨A.MAC_MGMT_STATUS, 1, 0x0, 1, 0x0, 0, 1, fun _ => 0⟩
def F.MAC_MGMT_STATUS_SPEED : Fld := ⟨A.MAC_MGMT_STATUS, 1, 0x0, 1, 0x0, 1, 2, fun _ => 0⟩
def F.MAC_MGMT_STATUS_DUPLEX : Fld := ⟨A.MAC_MGMT_STATUS, 1, 0x0, 1, 0x0, 3, 1, fun _ => 0⟩
/-- The byte address of `MAC.MDIO_CTRL` (R422). -/
def A.MAC_MDIO_CTRL : Nat := 0x340108
def F.MAC_MDIO_CTRL_PHY_ADDR : Fld := ⟨A.MAC_MDIO_CTRL, 1, 0x0, 1, 0x0, 0, 5, fun _ => 0⟩
def F.MAC_MDIO_CTRL_REG : Fld := ⟨A.MAC_MDIO_CTRL, 1, 0x0, 1, 0x0, 5, 5, fun _ => 0⟩
def F.MAC_MDIO_CTRL_OP : Fld := ⟨A.MAC_MDIO_CTRL, 1, 0x0, 1, 0x0, 10, 1, fun _ => 0⟩
def F.MAC_MDIO_CTRL_GO : Fld := ⟨A.MAC_MDIO_CTRL, 1, 0x0, 1, 0x0, 11, 1, fun _ => 0⟩
def F.MAC_MDIO_CTRL_BUSY : Fld := ⟨A.MAC_MDIO_CTRL, 1, 0x0, 1, 0x0, 12, 1, fun _ => 0⟩
/-- The byte address of `MAC.MDIO_DATA` (R422). -/
def A.MAC_MDIO_DATA : Nat := 0x34010C
def F.MAC_MDIO_DATA_VALUE : Fld := ⟨A.MAC_MDIO_DATA, 1, 0x0, 1, 0x0, 0, 16, fun _ => 0⟩
/-- The byte address of `MAC.PORT_CFG` (R422). -/
def A.MAC_PORT_CFG : Nat := 0x341000
def F.MAC_PORT_CFG_MAX_LEN : Fld := ⟨A.MAC_PORT_CFG, 518, 0x10, 1, 0x0, 0, 14, fun _ => 1522⟩
def F.MAC_PORT_CFG_ACCEPT : Fld := ⟨A.MAC_PORT_CFG, 518, 0x10, 1, 0x0, 16, 2, fun _ => 0⟩
/-- The byte address of `MAC.PORT_VLAN` (R422). -/
def A.MAC_PORT_VLAN : Nat := 0x341004
def F.MAC_PORT_VLAN_DEFAULT_VID : Fld := ⟨A.MAC_PORT_VLAN, 518, 0x10, 1, 0x0, 0, 12, fun _ => 1⟩
def F.MAC_PORT_VLAN_UNTAG_NATIVE : Fld := ⟨A.MAC_PORT_VLAN, 518, 0x10, 1, 0x0, 16, 1, fun _ => 0⟩
def F.MAC_PORT_VLAN_PUSH_TPID : Fld := ⟨A.MAC_PORT_VLAN, 518, 0x10, 1, 0x0, 17, 1, fun _ => 0⟩
/-- The byte address of `MAC.PORT_SA_LO` (R422). -/
def A.MAC_PORT_SA_LO : Nat := 0x341008
def F.MAC_PORT_SA_LO_VALUE : Fld := ⟨A.MAC_PORT_SA_LO, 518, 0x10, 1, 0x0, 0, 32, fun _ => 0⟩
/-- The byte address of `MAC.PORT_SA_HI` (R422). -/
def A.MAC_PORT_SA_HI : Nat := 0x34100C
def F.MAC_PORT_SA_HI_VALUE : Fld := ⟨A.MAC_PORT_SA_HI, 518, 0x10, 1, 0x0, 0, 16, fun _ => 0⟩
/-- The byte address of `CHK.INT_STATUS` (R424). -/
def A.CHK_INT_STATUS : Nat := 0x350000
def F.CHK_INT_STATUS_DONE : Fld := ⟨A.CHK_INT_STATUS, 1, 0x0, 1, 0x0, 0, 16, fun _ => 0⟩
def F.CHK_INT_STATUS_CHECK_FAIL : Fld := ⟨A.CHK_INT_STATUS, 1, 0x0, 1, 0x0, 16, 16, fun _ => 0⟩
/-- The byte address of `CHK.INT_ENABLE` (R423). -/
def A.CHK_INT_ENABLE : Nat := 0x350004
def F.CHK_INT_ENABLE_VALUE : Fld := ⟨A.CHK_INT_ENABLE, 1, 0x0, 1, 0x0, 0, 32, fun _ => 0⟩
/-- The byte address of `CHK.CTRL` (R424). -/
def A.CHK_CTRL : Nat := 0x350100
def F.CHK_CTRL_ALG : Fld := ⟨A.CHK_CTRL, 16, 0x40, 1, 0x0, 0, 2, fun _ => 0⟩
def F.CHK_CTRL_MODE : Fld := ⟨A.CHK_CTRL, 16, 0x40, 1, 0x0, 2, 2, fun _ => 0⟩
def F.CHK_CTRL_BYTE_ORDER : Fld := ⟨A.CHK_CTRL, 16, 0x40, 1, 0x0, 4, 1, fun _ => 0⟩
def F.CHK_CTRL_RESUME : Fld := ⟨A.CHK_CTRL, 16, 0x40, 1, 0x0, 5, 1, fun _ => 0⟩
def F.CHK_CTRL_START : Fld := ⟨A.CHK_CTRL, 16, 0x40, 1, 0x0, 8, 1, fun _ => 0⟩
def F.CHK_CTRL_ABORT : Fld := ⟨A.CHK_CTRL, 16, 0x40, 1, 0x0, 9, 1, fun _ => 0⟩
/-- The byte address of `CHK.LEN` (R424). -/
def A.CHK_LEN : Nat := 0x350104
def F.CHK_LEN_BYTES : Fld := ⟨A.CHK_LEN, 16, 0x40, 1, 0x0, 0, 13, fun _ => 0⟩
/-- The byte address of `CHK.DATA` (R424). -/
def A.CHK_DATA : Nat := 0x350108
def F.CHK_DATA_WORD : Fld := ⟨A.CHK_DATA, 16, 0x40, 1, 0x0, 0, 32, fun _ => 0⟩
/-- The byte address of `CHK.OUT` (R424). -/
def A.CHK_OUT : Nat := 0x350110
def F.CHK_OUT_WORD : Fld := ⟨A.CHK_OUT, 16, 0x40, 1, 0x0, 0, 32, fun _ => 0⟩
/-- The byte address of `CHK.STATUS` (R424). -/
def A.CHK_STATUS : Nat := 0x350114
def F.CHK_STATUS_ACTIVE : Fld := ⟨A.CHK_STATUS, 16, 0x40, 1, 0x0, 0, 1, fun _ => 0⟩
def F.CHK_STATUS_DONE : Fld := ⟨A.CHK_STATUS, 16, 0x40, 1, 0x0, 1, 1, fun _ => 0⟩
def F.CHK_STATUS_CHECK_OK : Fld := ⟨A.CHK_STATUS, 16, 0x40, 1, 0x0, 2, 1, fun _ => 0⟩
def F.CHK_STATUS_CHECK_FAIL : Fld := ⟨A.CHK_STATUS, 16, 0x40, 1, 0x0, 3, 1, fun _ => 0⟩
def F.CHK_STATUS_WAIT_BUF : Fld := ⟨A.CHK_STATUS, 16, 0x40, 1, 0x0, 4, 1, fun _ => 0⟩
def F.CHK_STATUS_FED : Fld := ⟨A.CHK_STATUS, 16, 0x40, 1, 0x0, 16, 13, fun _ => 0⟩
/-- The byte address of `CHK.VALUE_LO` (R424). -/
def A.CHK_VALUE_LO : Nat := 0x350118
def F.CHK_VALUE_LO_VALUE : Fld := ⟨A.CHK_VALUE_LO, 16, 0x40, 1, 0x0, 0, 32, fun _ => 0⟩
/-- The byte address of `CHK.VALUE_HI` (R424). -/
def A.CHK_VALUE_HI : Nat := 0x35011C
def F.CHK_VALUE_HI_VALUE : Fld := ⟨A.CHK_VALUE_HI, 16, 0x40, 1, 0x0, 0, 32, fun _ => 0⟩
/-- The byte address of `CHK.RESULT_LO` (R424). -/
def A.CHK_RESULT_LO : Nat := 0x350120
def F.CHK_RESULT_LO_VALUE : Fld := ⟨A.CHK_RESULT_LO, 16, 0x40, 1, 0x0, 0, 32, fun _ => 0⟩
/-- The byte address of `CHK.RESULT_HI` (R424). -/
def A.CHK_RESULT_HI : Nat := 0x350124
def F.CHK_RESULT_HI_VALUE : Fld := ⟨A.CHK_RESULT_HI, 16, 0x40, 1, 0x0, 0, 32, fun _ => 0⟩
/-- The byte address of `CHK.OWNER` (R424). -/
def A.CHK_OWNER : Nat := 0x350128
def F.CHK_OWNER_SEAT : Fld := ⟨A.CHK_OWNER, 16, 0x40, 1, 0x0, 0, 2, fun _ => 0⟩
def F.CHK_OWNER_DRAFEN : Fld := ⟨A.CHK_OWNER, 16, 0x40, 1, 0x0, 2, 1, fun e => if e < 2 then 1 else 0⟩
/-- The byte address of `CHK.OUT_LEFT` (R424). -/
def A.CHK_OUT_LEFT : Nat := 0x35012C
def F.CHK_OUT_LEFT_BYTES : Fld := ⟨A.CHK_OUT_LEFT, 16, 0x40, 1, 0x0, 0, 13, fun _ => 0⟩
/-- The byte address of `CMD.INT_STATUS` (R475). -/
def A.CMD_INT_STATUS : Nat := 0x400008
def F.CMD_INT_STATUS_TAKEOVER : Fld := ⟨A.CMD_INT_STATUS, 1, 0x0, 1, 0x0, 0, 1, fun _ => 0⟩
def F.CMD_INT_STATUS_STANDBY_LOST : Fld := ⟨A.CMD_INT_STATUS, 1, 0x0, 1, 0x0, 1, 1, fun _ => 0⟩
def F.CMD_INT_STATUS_UCODE_FAULT : Fld := ⟨A.CMD_INT_STATUS, 1, 0x0, 1, 0x0, 2, 1, fun _ => 0⟩
def F.CMD_INT_STATUS_STORE_CE : Fld := ⟨A.CMD_INT_STATUS, 1, 0x0, 1, 0x0, 3, 1, fun _ => 0⟩
def F.CMD_INT_STATUS_PROTECTED : Fld := ⟨A.CMD_INT_STATUS, 1, 0x0, 1, 0x0, 4, 1, fun _ => 0⟩
/-- The byte address of `CMD.IMAGE_STATUS` (R475). -/
def A.CMD_IMAGE_STATUS : Nat := 0x400010
def F.CMD_IMAGE_STATUS_VERSION : Fld := ⟨A.CMD_IMAGE_STATUS, 1, 0x0, 1, 0x0, 0, 16, fun _ => 0⟩
def F.CMD_IMAGE_STATUS_OWNER_SIGNED : Fld := ⟨A.CMD_IMAGE_STATUS, 1, 0x0, 1, 0x0, 16, 1, fun _ => 0⟩
/-- The byte address of `CMD.ROUTINE` (R475). -/
def A.CMD_ROUTINE : Nat := 0x400014
def F.CMD_ROUTINE_START : Fld := ⟨A.CMD_ROUTINE, 1, 0x0, 1, 0x0, 0, 13, fun _ => 0⟩
def F.CMD_ROUTINE_LEVEL : Fld := ⟨A.CMD_ROUTINE, 1, 0x0, 1, 0x0, 13, 2, fun _ => 0⟩
def F.CMD_ROUTINE_PAST_COMMIT : Fld := ⟨A.CMD_ROUTINE, 1, 0x0, 1, 0x0, 16, 1, fun _ => 0⟩
def F.CMD_ROUTINE_ABANDONS : Fld := ⟨A.CMD_ROUTINE, 1, 0x0, 1, 0x0, 20, 4, fun _ => 0⟩
/-- The byte address of `CMD.LAST_FAULT` (R475). -/
def A.CMD_LAST_FAULT : Nat := 0x400018
def F.CMD_LAST_FAULT_ADDR : Fld := ⟨A.CMD_LAST_FAULT, 1, 0x0, 1, 0x0, 0, 13, fun _ => 0⟩
def F.CMD_LAST_FAULT_CAUSE : Fld := ⟨A.CMD_LAST_FAULT, 1, 0x0, 1, 0x0, 16, 3, fun _ => 0⟩
def F.CMD_LAST_FAULT_VALID : Fld := ⟨A.CMD_LAST_FAULT, 1, 0x0, 1, 0x0, 31, 1, fun _ => 0⟩
/-- The byte address of `CMD.STORE_SEL` (R475). -/
def A.CMD_STORE_SEL : Nat := 0x400030
def F.CMD_STORE_SEL_INDEX : Fld := ⟨A.CMD_STORE_SEL, 1, 0x0, 1, 0x0, 0, 13, fun _ => 0⟩
def F.CMD_STORE_SEL_STORE : Fld := ⟨A.CMD_STORE_SEL, 1, 0x0, 1, 0x0, 15, 1, fun _ => 0⟩
def F.CMD_STORE_SEL_PART : Fld := ⟨A.CMD_STORE_SEL, 1, 0x0, 1, 0x0, 16, 3, fun _ => 0⟩
def F.CMD_STORE_SEL_CORE : Fld := ⟨A.CMD_STORE_SEL, 1, 0x0, 1, 0x0, 20, 1, fun _ => 0⟩
/-- The byte address of `CMD.STORE_DATA` (R475). -/
def A.CMD_STORE_DATA : Nat := 0x400034
def F.CMD_STORE_DATA_VALUE : Fld := ⟨A.CMD_STORE_DATA, 1, 0x0, 1, 0x0, 0, 32, fun _ => 0⟩
/-- The byte address of `CMD.CORE_STATUS` (R475). -/
def A.CMD_CORE_STATUS : Nat := 0x400000
def F.CMD_CORE_STATUS_ACTIVE_CORE : Fld := ⟨A.CMD_CORE_STATUS, 1, 0x0, 1, 0x0, 0, 1, fun _ => 0⟩
def F.CMD_CORE_STATUS_READY : Fld := ⟨A.CMD_CORE_STATUS, 1, 0x0, 1, 0x0, 8, 1, fun _ => 0⟩
def F.CMD_CORE_STATUS_CORE0 : Fld := ⟨A.CMD_CORE_STATUS, 1, 0x0, 1, 0x0, 2, 2, fun _ => 2⟩
def F.CMD_CORE_STATUS_CORE1 : Fld := ⟨A.CMD_CORE_STATUS, 1, 0x0, 1, 0x0, 4, 2, fun _ => 2⟩
/-- The byte address of `CMD.CORE_CTRL` (R475). -/
def A.CMD_CORE_CTRL : Nat := 0x400004
def F.CMD_CORE_CTRL_REJOIN0 : Fld := ⟨A.CMD_CORE_CTRL, 1, 0x0, 1, 0x0, 0, 1, fun _ => 0⟩
def F.CMD_CORE_CTRL_REJOIN1 : Fld := ⟨A.CMD_CORE_CTRL, 1, 0x0, 1, 0x0, 1, 1, fun _ => 0⟩
def F.CMD_CORE_CTRL_SWAP : Fld := ⟨A.CMD_CORE_CTRL, 1, 0x0, 1, 0x0, 2, 1, fun _ => 0⟩
def F.CMD_CORE_CTRL_RELOAD : Fld := ⟨A.CMD_CORE_CTRL, 1, 0x0, 1, 0x0, 4, 1, fun _ => 0⟩
/-- The byte address of `CMD.INT_ENABLE` (R474). -/
def A.CMD_INT_ENABLE : Nat := 0x40000C
def F.CMD_INT_ENABLE_VALUE : Fld := ⟨A.CMD_INT_ENABLE, 1, 0x0, 1, 0x0, 0, 5, fun _ => 0⟩
/-- The byte address of `CMD.TAKEOVER_TICK_LO` (R475). -/
def A.CMD_TAKEOVER_TICK_LO : Nat := 0x40001C
def F.CMD_TAKEOVER_TICK_LO_VALUE : Fld := ⟨A.CMD_TAKEOVER_TICK_LO, 1, 0x0, 1, 0x0, 0, 32, fun _ => 0⟩
/-- The byte address of `CMD.TAKEOVER_TICK_HI` (R475). -/
def A.CMD_TAKEOVER_TICK_HI : Nat := 0x400020
def F.CMD_TAKEOVER_TICK_HI_VALUE : Fld := ⟨A.CMD_TAKEOVER_TICK_HI, 1, 0x0, 1, 0x0, 0, 32, fun _ => 0⟩
/-- The byte address of `CMD.SEAT_CTRL` (R455). -/
def A.CMD_SEAT_CTRL : Nat := 0x401000
def F.CMD_SEAT_CTRL_FLUSH : Fld := ⟨A.CMD_SEAT_CTRL, 4, 0x100, 1, 0x0, 0, 1, fun _ => 0⟩
def F.CMD_SEAT_CTRL_INBAND_EN : Fld := ⟨A.CMD_SEAT_CTRL, 4, 0x100, 1, 0x0, 1, 1, fun _ => 0⟩
def F.CMD_SEAT_CTRL_KEYED_EN : Fld := ⟨A.CMD_SEAT_CTRL, 4, 0x100, 1, 0x0, 2, 1, fun s => if s = 0 then 1 else 0⟩
/-- The byte address of `CMD.SEAT_STATUS` (R455). -/
def A.CMD_SEAT_STATUS : Nat := 0x401004
def F.CMD_SEAT_STATUS_LINK_UP : Fld := ⟨A.CMD_SEAT_STATUS, 4, 0x100, 1, 0x0, 0, 1, fun _ => 0⟩
def F.CMD_SEAT_STATUS_FRAMING : Fld := ⟨A.CMD_SEAT_STATUS, 4, 0x100, 1, 0x0, 1, 1, fun _ => 0⟩
def F.CMD_SEAT_STATUS_OVERFLOW : Fld := ⟨A.CMD_SEAT_STATUS, 4, 0x100, 1, 0x0, 2, 1, fun _ => 0⟩
def F.CMD_SEAT_STATUS_UNDERFLOW : Fld := ⟨A.CMD_SEAT_STATUS, 4, 0x100, 1, 0x0, 3, 1, fun _ => 0⟩
def F.CMD_SEAT_STATUS_RESET_SEEN : Fld := ⟨A.CMD_SEAT_STATUS, 4, 0x100, 1, 0x0, 4, 1, fun _ => 0⟩
/-- The byte address of `CMD.SEAT_FIFO` (R455). -/
def A.CMD_SEAT_FIFO : Nat := 0x401008
def F.CMD_SEAT_FIFO_CMD_SPACE : Fld := ⟨A.CMD_SEAT_FIFO, 4, 0x100, 1, 0x0, 0, 11, fun _ => 1024⟩
def F.CMD_SEAT_FIFO_REPLY_WORDS : Fld := ⟨A.CMD_SEAT_FIFO, 4, 0x100, 1, 0x0, 16, 11, fun _ => 0⟩
/-- The byte address of `CMD.SEAT_TAGS` (R455). -/
def A.CMD_SEAT_TAGS : Nat := 0x40100C
def F.CMD_SEAT_TAGS_TAG_QUOTA : Fld := ⟨A.CMD_SEAT_TAGS, 4, 0x100, 1, 0x0, 0, 11, fun s => if s = 0 then 1024 else 0⟩
def F.CMD_SEAT_TAGS_IN_FLIGHT : Fld := ⟨A.CMD_SEAT_TAGS, 4, 0x100, 1, 0x0, 16, 11, fun _ => 0⟩
/-- The byte address of `CMD.SEAT_TXN` (R455). -/
def A.CMD_SEAT_TXN : Nat := 0x401010
def F.CMD_SEAT_TXN_OPEN : Fld := ⟨A.CMD_SEAT_TXN, 4, 0x100, 1, 0x0, 0, 5, fun _ => 0⟩
/-- The byte address of `CMD.SEAT_INT_GRANT` (R455). -/
def A.CMD_SEAT_INT_GRANT : Nat := 0x401014
def F.CMD_SEAT_INT_GRANT_UNITS : Fld := ⟨A.CMD_SEAT_INT_GRANT, 4, 0x100, 1, 0x0, 0, 22, fun s => if s = 0 then 0x3FFFFF else 0⟩
/-- The byte address of `CMD.SEAT_PORTS` (R455). -/
def A.CMD_SEAT_PORTS : Nat := 0x401020
def F.CMD_SEAT_PORTS_PORTS : Fld := ⟨A.CMD_SEAT_PORTS, 4, 0x100, 17, 0x4, 0, 32, seatPortsReset⟩
/-- The byte address of `CMD.SEAT_INBAND` (R455). -/
def A.CMD_SEAT_INBAND : Nat := 0x401080
def F.CMD_SEAT_INBAND_PORTS : Fld := ⟨A.CMD_SEAT_INBAND, 4, 0x100, 16, 0x4, 0, 32, fun _ => 0⟩
/-- The byte address of `CMD.SEAT_CNT_PERM` (R455). -/
def A.CMD_SEAT_CNT_PERM : Nat := 0x4010C0
def F.CMD_SEAT_CNT_PERM_GROUPS : Fld := ⟨A.CMD_SEAT_CNT_PERM, 4, 0x100, 1, 0x0, 0, 32, fun s => if s = 0 then 0xFFFFFFFF else 0⟩
/-- The byte address of `CMD.TXN_CFG` (R455). -/
def A.CMD_TXN_CFG : Nat := 0x401800
def F.CMD_TXN_CFG_PREP_US : Fld := ⟨A.CMD_TXN_CFG, 1, 0x0, 1, 0x0, 0, 16, fun _ => 1000⟩
def F.CMD_TXN_CFG_IDLE_S : Fld := ⟨A.CMD_TXN_CFG, 1, 0x0, 1, 0x0, 16, 16, fun _ => 10⟩
/-- The byte address of `CMD.TXN_STATUS` (R455). -/
def A.CMD_TXN_STATUS : Nat := 0x401804
def F.CMD_TXN_STATUS_OPEN : Fld := ⟨A.CMD_TXN_STATUS, 1, 0x0, 1, 0x0, 0, 7, fun _ => 0⟩
def F.CMD_TXN_STATUS_NEXT_ID : Fld := ⟨A.CMD_TXN_STATUS, 1, 0x0, 1, 0x0, 8, 12, fun _ => 1⟩
/-- The byte address of `CMD.INBAND_MAC_LO` (R455). -/
def A.CMD_INBAND_MAC_LO : Nat := 0x401808
def F.CMD_INBAND_MAC_LO_VALUE : Fld := ⟨A.CMD_INBAND_MAC_LO, 1, 0x0, 1, 0x0, 0, 32, fun _ => 0⟩
/-- The byte address of `CMD.INBAND_MAC_HI` (R455). -/
def A.CMD_INBAND_MAC_HI : Nat := 0x40180C
def F.CMD_INBAND_MAC_HI_VALUE : Fld := ⟨A.CMD_INBAND_MAC_HI, 1, 0x0, 1, 0x0, 0, 16, fun _ => 0⟩
/-- The byte address of `CMD.INBAND_CFG` (R455). -/
def A.CMD_INBAND_CFG : Nat := 0x401810
def F.CMD_INBAND_CFG_QUEUE : Fld := ⟨A.CMD_INBAND_CFG, 1, 0x0, 1, 0x0, 0, 4, fun _ => 15⟩
/-- The byte address of `CMD.REGION_BASE` (R455). -/
def A.CMD_REGION_BASE : Nat := 0x402000
def F.CMD_REGION_BASE_INDEX : Fld := ⟨A.CMD_REGION_BASE, 4, 0x80, 8, 0x8, 0, 24, fun _ => 0⟩
/-- The byte address of `CMD.REGION_LIMIT` (R455). -/
def A.CMD_REGION_LIMIT : Nat := 0x402004
def F.CMD_REGION_LIMIT_INDEX : Fld := ⟨A.CMD_REGION_LIMIT, 4, 0x80, 8, 0x8, 0, 24, fun n => if n < 8 then regionSize n else 0⟩
/-- The byte address of `FLT.CTRL` (R498). -/
def A.FLT_CTRL : Nat := 0x410000
def F.FLT_CTRL_FAULT_N_FIRST : Fld := ⟨A.FLT_CTRL, 1, 0x0, 1, 0x0, 0, 1, fun _ => 0⟩
def F.FLT_CTRL_ALERT_LEVEL : Fld := ⟨A.FLT_CTRL, 1, 0x0, 1, 0x0, 4, 2, fun _ => 1⟩
/-- The byte address of `FLT.STATUS` (R498). -/
def A.FLT_STATUS : Nat := 0x410004
def F.FLT_STATUS_A_OK : Fld := ⟨A.FLT_STATUS, 1, 0x0, 1, 0x0, 0, 1, fun _ => 1⟩
def F.FLT_STATUS_B_OK : Fld := ⟨A.FLT_STATUS, 1, 0x0, 1, 0x0, 1, 1, fun _ => 1⟩
def F.FLT_STATUS_FAULT_N : Fld := ⟨A.FLT_STATUS, 1, 0x0, 1, 0x0, 2, 1, fun _ => 0⟩
def F.FLT_STATUS_ALERT_N : Fld := ⟨A.FLT_STATUS, 1, 0x0, 1, 0x0, 3, 1, fun _ => 0⟩
def F.FLT_STATUS_FROZEN : Fld := ⟨A.FLT_STATUS, 1, 0x0, 1, 0x0, 4, 1, fun _ => 0⟩
def F.FLT_STATUS_FIRST_SRC : Fld := ⟨A.FLT_STATUS, 1, 0x0, 1, 0x0, 8, 6, fun _ => 0⟩
/-- The byte address of `FLT.FSW_LO` (R498). -/
def A.FLT_FSW_LO : Nat := 0x410008
def F.FLT_FSW_LO_VALUE : Fld := ⟨A.FLT_FSW_LO, 1, 0x0, 1, 0x0, 0, 32, fun _ => 0⟩
/-- The byte address of `FLT.FSW_HI` (R498). -/
def A.FLT_FSW_HI : Nat := 0x41000C
def F.FLT_FSW_HI_VALUE : Fld := ⟨A.FLT_FSW_HI, 1, 0x0, 1, 0x0, 0, 32, fun _ => 0⟩
/-- The byte address of `FLT.INT_STATUS` (R498). -/
def A.FLT_INT_STATUS : Nat := 0x410010
def F.FLT_INT_STATUS_NEW_FAULT : Fld := ⟨A.FLT_INT_STATUS, 1, 0x0, 1, 0x0, 0, 1, fun _ => 0⟩
def F.FLT_INT_STATUS_ESCALATION : Fld := ⟨A.FLT_INT_STATUS, 1, 0x0, 1, 0x0, 1, 1, fun _ => 0⟩
def F.FLT_INT_STATUS_FAULT_N : Fld := ⟨A.FLT_INT_STATUS, 1, 0x0, 1, 0x0, 2, 1, fun _ => 0⟩
def F.FLT_INT_STATUS_TAKEOVER : Fld := ⟨A.FLT_INT_STATUS, 1, 0x0, 1, 0x0, 3, 1, fun _ => 0⟩
/-- The byte address of `FLT.INT_ENABLE` (R497). -/
def A.FLT_INT_ENABLE : Nat := 0x410014
def F.FLT_INT_ENABLE_VALUE : Fld := ⟨A.FLT_INT_ENABLE, 1, 0x0, 1, 0x0, 0, 4, fun _ => 0⟩
/-- The byte address of `FLT.ALERT_MASK_LO` (R498). -/
def A.FLT_ALERT_MASK_LO : Nat := 0x410018
def F.FLT_ALERT_MASK_LO_SOURCES : Fld := ⟨A.FLT_ALERT_MASK_LO, 1, 0x0, 1, 0x0, 0, 32, fun _ => 4294967295⟩
/-- The byte address of `FLT.ALERT_MASK_HI` (R498). -/
def A.FLT_ALERT_MASK_HI : Nat := 0x41001C
def F.FLT_ALERT_MASK_HI_SOURCES : Fld := ⟨A.FLT_ALERT_MASK_HI, 1, 0x0, 1, 0x0, 0, 32, fun _ => 4294967295⟩
/-- The byte address of `FLT.FREEZE_CTRL` (R498). -/
def A.FLT_FREEZE_CTRL : Nat := 0x410020
def F.FLT_FREEZE_CTRL_FREEZE_LEVEL : Fld := ⟨A.FLT_FREEZE_CTRL, 1, 0x0, 1, 0x0, 0, 2, fun _ => 1⟩
def F.FLT_FREEZE_CTRL_RELEASE : Fld := ⟨A.FLT_FREEZE_CTRL, 1, 0x0, 1, 0x0, 8, 1, fun _ => 0⟩
/-- The byte address of `FLT.HIST_SEL` (R498). -/
def A.FLT_HIST_SEL : Nat := 0x410024
def F.FLT_HIST_SEL_INDEX : Fld := ⟨A.FLT_HIST_SEL, 1, 0x0, 1, 0x0, 0, 5, fun _ => 0⟩
def F.FLT_HIST_SEL_FROZEN : Fld := ⟨A.FLT_HIST_SEL, 1, 0x0, 1, 0x0, 8, 1, fun _ => 0⟩
/-- The byte address of `FLT.PIPE_STATUS` (R498). -/
def A.FLT_PIPE_STATUS : Nat := 0x410040
def F.FLT_PIPE_STATUS_SPARE_FOR : Fld := ⟨A.FLT_PIPE_STATUS, 1, 0x0, 1, 0x0, 0, 5, fun _ => 31⟩
def F.FLT_PIPE_STATUS_SPARE_OK : Fld := ⟨A.FLT_PIPE_STATUS, 1, 0x0, 1, 0x0, 5, 1, fun _ => 1⟩
def F.FLT_PIPE_STATUS_REPLAYING : Fld := ⟨A.FLT_PIPE_STATUS, 1, 0x0, 1, 0x0, 6, 1, fun _ => 0⟩
def F.FLT_PIPE_STATUS_GIVE_BACK_READY : Fld := ⟨A.FLT_PIPE_STATUS, 1, 0x0, 1, 0x0, 7, 1, fun _ => 0⟩
def F.FLT_PIPE_STATUS_RETIRED : Fld := ⟨A.FLT_PIPE_STATUS, 1, 0x0, 1, 0x0, 16, 16, fun _ => 0⟩
/-- The byte address of `FLT.PIPE_CTRL` (R498). -/
def A.FLT_PIPE_CTRL : Nat := 0x410044
def F.FLT_PIPE_CTRL_AUTO_GIVE_BACK : Fld := ⟨A.FLT_PIPE_CTRL, 1, 0x0, 1, 0x0, 0, 1, fun _ => 0⟩
def F.FLT_PIPE_CTRL_GIVE_BACK : Fld := ⟨A.FLT_PIPE_CTRL, 1, 0x0, 1, 0x0, 8, 1, fun _ => 0⟩
def F.FLT_PIPE_CTRL_FORCE_PIPE : Fld := ⟨A.FLT_PIPE_CTRL, 1, 0x0, 1, 0x0, 16, 4, fun _ => 0⟩
def F.FLT_PIPE_CTRL_FORCE : Fld := ⟨A.FLT_PIPE_CTRL, 1, 0x0, 1, 0x0, 24, 1, fun _ => 0⟩
/-- The byte address of `FLT.HIST_TICK_LO` (R498). -/
def A.FLT_HIST_TICK_LO : Nat := 0x410028
def F.FLT_HIST_TICK_LO_TICK : Fld := ⟨A.FLT_HIST_TICK_LO, 1, 0x0, 1, 0x0, 0, 32, fun _ => 0⟩
/-- The byte address of `FLT.HIST_TICK_HI` (R498). -/
def A.FLT_HIST_TICK_HI : Nat := 0x41002C
def F.FLT_HIST_TICK_HI_TICK : Fld := ⟨A.FLT_HIST_TICK_HI, 1, 0x0, 1, 0x0, 0, 32, fun _ => 0⟩
/-- The byte address of `FLT.HIST_INFO` (R498). -/
def A.FLT_HIST_INFO : Nat := 0x410030
def F.FLT_HIST_INFO_SRC : Fld := ⟨A.FLT_HIST_INFO, 1, 0x0, 1, 0x0, 0, 6, fun _ => 0⟩
def F.FLT_HIST_INFO_LEVEL : Fld := ⟨A.FLT_HIST_INFO, 1, 0x0, 1, 0x0, 6, 2, fun _ => 0⟩
def F.FLT_HIST_INFO_VALID : Fld := ⟨A.FLT_HIST_INFO, 1, 0x0, 1, 0x0, 15, 1, fun _ => 0⟩
def F.FLT_HIST_INFO_CAUSE : Fld := ⟨A.FLT_HIST_INFO, 1, 0x0, 1, 0x0, 16, 8, fun _ => 0⟩
def F.FLT_HIST_INFO_INSTANCE : Fld := ⟨A.FLT_HIST_INFO, 1, 0x0, 1, 0x0, 24, 8, fun _ => 0⟩
def F.FLT_HIST_INFO_ESCALATED : Fld := ⟨A.FLT_HIST_INFO, 1, 0x0, 1, 0x0, 8, 1, fun _ => 0⟩
def F.FLT_HIST_INFO_FIRST : Fld := ⟨A.FLT_HIST_INFO, 1, 0x0, 1, 0x0, 9, 1, fun _ => 0⟩
def F.FLT_HIST_INFO_ACK : Fld := ⟨A.FLT_HIST_INFO, 1, 0x0, 1, 0x0, 10, 1, fun _ => 0⟩
def F.FLT_HIST_INFO_FAULT_N : Fld := ⟨A.FLT_HIST_INFO, 1, 0x0, 1, 0x0, 11, 1, fun _ => 0⟩
/-- The byte address of `FLT.HIST_VALUE_LO` (R498). -/
def A.FLT_HIST_VALUE_LO : Nat := 0x410034
def F.FLT_HIST_VALUE_LO_VALUE : Fld := ⟨A.FLT_HIST_VALUE_LO, 1, 0x0, 1, 0x0, 0, 32, fun _ => 0⟩
/-- The byte address of `FLT.HIST_VALUE_HI` (R498). -/
def A.FLT_HIST_VALUE_HI : Nat := 0x410038
def F.FLT_HIST_VALUE_HI_VALUE : Fld := ⟨A.FLT_HIST_VALUE_HI, 1, 0x0, 1, 0x0, 0, 32, fun _ => 0⟩
/-- The byte address of `FLT.SRC_STATUS` (R498). -/
def A.FLT_SRC_STATUS : Nat := 0x410100
def F.FLT_SRC_STATUS_LEVEL : Fld := ⟨A.FLT_SRC_STATUS, 64, 0x8, 1, 0x0, 0, 2, fun _ => 0⟩
def F.FLT_SRC_STATUS_LATCHED : Fld := ⟨A.FLT_SRC_STATUS, 64, 0x8, 1, 0x0, 2, 1, fun _ => 0⟩
def F.FLT_SRC_STATUS_COUNT : Fld := ⟨A.FLT_SRC_STATUS, 64, 0x8, 1, 0x0, 8, 8, fun _ => 0⟩
def F.FLT_SRC_STATUS_LAST_CAUSE : Fld := ⟨A.FLT_SRC_STATUS, 64, 0x8, 1, 0x0, 16, 8, fun _ => 0⟩
/-- The byte address of `FLT.SRC_CTRL` (R498). -/
def A.FLT_SRC_CTRL : Nat := 0x410104
def F.FLT_SRC_CTRL_NOTE_AUTO_ACK : Fld := ⟨A.FLT_SRC_CTRL, 64, 0x8, 1, 0x0, 0, 1, fun _ => 1⟩
/-- The byte address of `PWR.STATUS` (R514). -/
def A.PWR_STATUS : Nat := 0x420000
def F.PWR_STATUS_STEP : Fld := ⟨A.PWR_STATUS, 1, 0x0, 1, 0x0, 0, 3, fun _ => 0⟩
def F.PWR_STATUS_CORE_MHZ : Fld := ⟨A.PWR_STATUS, 1, 0x0, 1, 0x0, 4, 11, fun _ => 1600⟩
def F.PWR_STATUS_WARN : Fld := ⟨A.PWR_STATUS, 1, 0x0, 1, 0x0, 19, 1, fun _ => 0⟩
def F.PWR_STATUS_WAIT_LIFT : Fld := ⟨A.PWR_STATUS, 1, 0x0, 1, 0x0, 16, 1, fun _ => 0⟩
def F.PWR_STATUS_EMERGENCY : Fld := ⟨A.PWR_STATUS, 1, 0x0, 1, 0x0, 17, 1, fun _ => 0⟩
def F.PWR_STATUS_DIVERGED : Fld := ⟨A.PWR_STATUS, 1, 0x0, 1, 0x0, 18, 1, fun _ => 0⟩
/-- The byte address of `PWR.CTRL` (R514). -/
def A.PWR_CTRL : Nat := 0x420004
def F.PWR_CTRL_PKG_LIMIT_W : Fld := ⟨A.PWR_CTRL, 1, 0x0, 1, 0x0, 0, 11, fun _ => 1000⟩
def F.PWR_CTRL_WINDOW_US : Fld := ⟨A.PWR_CTRL, 1, 0x0, 1, 0x0, 16, 10, fun _ => 100⟩
def F.PWR_CTRL_MODEL_RESUME : Fld := ⟨A.PWR_CTRL, 1, 0x0, 1, 0x0, 31, 1, fun _ => 0⟩
/-- The byte address of `PWR.MARGIN` (R514). -/
def A.PWR_MARGIN : Nat := 0x420008
def F.PWR_MARGIN_MARGIN_W : Fld := ⟨A.PWR_MARGIN, 1, 0x0, 1, 0x0, 0, 8, fun _ => 20⟩
def F.PWR_MARGIN_DIV_MARGIN_W : Fld := ⟨A.PWR_MARGIN, 1, 0x0, 1, 0x0, 8, 8, fun _ => 60⟩
def F.PWR_MARGIN_HYST_W : Fld := ⟨A.PWR_MARGIN, 1, 0x0, 1, 0x0, 16, 8, fun _ => 30⟩
/-- The byte address of `PWR.TIMING` (R514). -/
def A.PWR_TIMING : Nat := 0x42000C
def F.PWR_TIMING_RESTORE_MS : Fld := ⟨A.PWR_TIMING, 1, 0x0, 1, 0x0, 0, 16, fun _ => 100⟩
/-- The byte address of `PWR.STEP1` (R514). -/
def A.PWR_STEP1 : Nat := 0x420010
def F.PWR_STEP1_BE_GBPS : Fld := ⟨A.PWR_STEP1, 1, 0x0, 1, 0x0, 0, 16, fun _ => 1600⟩
/-- The byte address of `PWR.STEP2` (R514). -/
def A.PWR_STEP2 : Nat := 0x420014
def F.PWR_STEP2_EVR_CAP : Fld := ⟨A.PWR_STEP2, 1, 0x0, 1, 0x0, 0, 14, fun _ => 6000⟩
/-- The byte address of `PWR.STEP4` (R514). -/
def A.PWR_STEP4 : Nat := 0x420018
def F.PWR_STEP4_MIN_MHZ : Fld := ⟨A.PWR_STEP4, 1, 0x0, 1, 0x0, 0, 11, fun _ => 800⟩
/-- The byte address of `PWR.INT_STATUS` (R514). -/
def A.PWR_INT_STATUS : Nat := 0x420020
def F.PWR_INT_STATUS_STEP_CHANGE : Fld := ⟨A.PWR_INT_STATUS, 1, 0x0, 1, 0x0, 0, 1, fun _ => 0⟩
def F.PWR_INT_STATUS_CLOCK_CHANGE : Fld := ⟨A.PWR_INT_STATUS, 1, 0x0, 1, 0x0, 1, 1, fun _ => 0⟩
def F.PWR_INT_STATUS_EMERGENCY : Fld := ⟨A.PWR_INT_STATUS, 1, 0x0, 1, 0x0, 2, 1, fun _ => 0⟩
def F.PWR_INT_STATUS_DIVERGED : Fld := ⟨A.PWR_INT_STATUS, 1, 0x0, 1, 0x0, 3, 1, fun _ => 0⟩
def F.PWR_INT_STATUS_WARN : Fld := ⟨A.PWR_INT_STATUS, 1, 0x0, 1, 0x0, 4, 1, fun _ => 0⟩
def F.PWR_INT_STATUS_THROTTLE : Fld := ⟨A.PWR_INT_STATUS, 1, 0x0, 1, 0x0, 5, 1, fun _ => 0⟩
/-- The byte address of `PWR.INT_ENABLE` (R513). -/
def A.PWR_INT_ENABLE : Nat := 0x420024
def F.PWR_INT_ENABLE_VALUE : Fld := ⟨A.PWR_INT_ENABLE, 1, 0x0, 1, 0x0, 0, 6, fun _ => 0⟩
/-- The byte address of `PWR.MEAS` (R514). -/
def A.PWR_MEAS : Nat := 0x420028
def F.PWR_MEAS_MEAS_W : Fld := ⟨A.PWR_MEAS, 1, 0x0, 1, 0x0, 0, 11, fun _ => 0⟩
def F.PWR_MEAS_EST_W : Fld := ⟨A.PWR_MEAS, 1, 0x0, 1, 0x0, 16, 11, fun _ => 0⟩
/-- The byte address of `PWR.DEMAND` (R514). -/
def A.PWR_DEMAND : Nat := 0x42002C
def F.PWR_DEMAND_DEMAND_W : Fld := ⟨A.PWR_DEMAND, 1, 0x0, 1, 0x0, 0, 11, fun _ => 0⟩
def F.PWR_DEMAND_LIMIT_EFF_W : Fld := ⟨A.PWR_DEMAND, 1, 0x0, 1, 0x0, 16, 11, fun _ => 1000⟩
/-- The byte address of `PWR.THERM_CFG` (R514). -/
def A.PWR_THERM_CFG : Nat := 0x420030
def F.PWR_THERM_CFG_WARN_C : Fld := ⟨A.PWR_THERM_CFG, 1, 0x0, 1, 0x0, 0, 8, fun _ => 105⟩
def F.PWR_THERM_CFG_THROTTLE_C : Fld := ⟨A.PWR_THERM_CFG, 1, 0x0, 1, 0x0, 8, 8, fun _ => 115⟩
def F.PWR_THERM_CFG_STACK_THROTTLE_C : Fld := ⟨A.PWR_THERM_CFG, 1, 0x0, 1, 0x0, 16, 8, fun _ => 95⟩
/-- The byte address of `PWR.THERM_STATUS` (R514). -/
def A.PWR_THERM_STATUS : Nat := 0x420034
def F.PWR_THERM_STATUS_TJ_MAX : Fld := ⟨A.PWR_THERM_STATUS, 1, 0x0, 1, 0x0, 0, 8, fun _ => 0⟩
def F.PWR_THERM_STATUS_MAX_SENSOR : Fld := ⟨A.PWR_THERM_STATUS, 1, 0x0, 1, 0x0, 8, 6, fun _ => 0⟩
def F.PWR_THERM_STATUS_EXCLUDED : Fld := ⟨A.PWR_THERM_STATUS, 1, 0x0, 1, 0x0, 16, 6, fun _ => 0⟩
/-- The byte address of `PWR.PHASE_OP` (R514). -/
def A.PWR_PHASE_OP : Nat := 0x420040
def F.PWR_PHASE_OP_OP : Fld := ⟨A.PWR_PHASE_OP, 5, 0x4, 1, 0x0, 0, 2, fun k => if k = 3 then 1 else if k = 4 then 2 else 0⟩
/-- The byte address of `PWR.OP` (R514). -/
def A.PWR_OP : Nat := 0x420060
def F.PWR_OP_LIMIT_W : Fld := ⟨A.PWR_OP, 4, 0x4, 1, 0x0, 0, 11, fun n => if n = 2 then 700 else if n = 3 then 500 else 1000⟩
def F.PWR_OP_FLOOR_STEP : Fld := ⟨A.PWR_OP, 4, 0x4, 1, 0x0, 16, 2, fun n => if n = 0 then 0 else 3⟩
/-- The byte address of `PWR.RAIL_STATUS` (R514). -/
def A.PWR_RAIL_STATUS : Nat := 0x420100
def F.PWR_RAIL_STATUS_MV : Fld := ⟨A.PWR_RAIL_STATUS, 7, 0x10, 1, 0x0, 0, 16, fun _ => 0⟩
def F.PWR_RAIL_STATUS_AMPS_X4 : Fld := ⟨A.PWR_RAIL_STATUS, 7, 0x10, 1, 0x0, 16, 16, fun _ => 0⟩
/-- The byte address of `PWR.RAIL_CFG` (R514). -/
def A.PWR_RAIL_CFG : Nat := 0x420104
def F.PWR_RAIL_CFG_PMBUS_ADDR : Fld := ⟨A.PWR_RAIL_CFG, 7, 0x10, 1, 0x0, 0, 7, fun r => 0x40 + r⟩
def F.PWR_RAIL_CFG_GAIN_ADJ : Fld := ⟨A.PWR_RAIL_CFG, 7, 0x10, 1, 0x0, 8, 8, fun _ => 0⟩
/-- The byte address of `PWR.TEMP` (R514). -/
def A.PWR_TEMP : Nat := 0x420200
def F.PWR_TEMP_TEMP_C : Fld := ⟨A.PWR_TEMP, 48, 0x4, 1, 0x0, 0, 8, fun _ => 0⟩
def F.PWR_TEMP_VALID : Fld := ⟨A.PWR_TEMP, 48, 0x4, 1, 0x0, 8, 1, fun _ => 0⟩
/-- The byte address of `IDN.STATUS` (R527). -/
def A.IDN_STATUS : Nat := 0x430000
def F.IDN_STATUS_EVK_READY : Fld := ⟨A.IDN_STATUS, 1, 0x0, 1, 0x0, 0, 1, fun _ => 0⟩
def F.IDN_STATUS_ROTATING : Fld := ⟨A.IDN_STATUS, 1, 0x0, 1, 0x0, 1, 1, fun _ => 0⟩
def F.IDN_STATUS_OWNER_EN : Fld := ⟨A.IDN_STATUS, 1, 0x0, 1, 0x0, 2, 1, fun _ => Config.fusedOwnerEn⟩
def F.IDN_STATUS_RNG_OK : Fld := ⟨A.IDN_STATUS, 1, 0x0, 1, 0x0, 3, 1, fun _ => 0⟩
def F.IDN_STATUS_ROLLBACK : Fld := ⟨A.IDN_STATUS, 1, 0x0, 1, 0x0, 4, 7, fun _ => Config.fusedRollback⟩
def F.IDN_STATUS_IMAGE_FAIL : Fld := ⟨A.IDN_STATUS, 1, 0x0, 1, 0x0, 12, 3, fun _ => 0⟩
/-- The byte address of `IDN.INT_STATUS` (R527). -/
def A.IDN_INT_STATUS : Nat := 0x430004
def F.IDN_INT_STATUS_ROTATED : Fld := ⟨A.IDN_INT_STATUS, 1, 0x0, 1, 0x0, 0, 1, fun _ => 0⟩
def F.IDN_INT_STATUS_RNG_FAIL : Fld := ⟨A.IDN_INT_STATUS, 1, 0x0, 1, 0x0, 1, 1, fun _ => 0⟩
/-- The byte address of `IDN.INT_ENABLE` (R526). -/
def A.IDN_INT_ENABLE : Nat := 0x430008
def F.IDN_INT_ENABLE_VALUE : Fld := ⟨A.IDN_INT_ENABLE, 1, 0x0, 1, 0x0, 0, 2, fun _ => 0⟩
/-- The byte address of `IDN.EVK_CTRL` (R527). -/
def A.IDN_EVK_CTRL : Nat := 0x43000C
def F.IDN_EVK_CTRL_ROTATE : Fld := ⟨A.IDN_EVK_CTRL, 1, 0x0, 1, 0x0, 0, 1, fun _ => 0⟩
/-- The byte address of `IDN.FUSE_CTRL` (R527). -/
def A.IDN_FUSE_CTRL : Nat := 0x430010
def F.IDN_FUSE_CTRL_OP : Fld := ⟨A.IDN_FUSE_CTRL, 1, 0x0, 1, 0x0, 0, 2, fun _ => 0⟩
def F.IDN_FUSE_CTRL_BUSY : Fld := ⟨A.IDN_FUSE_CTRL, 1, 0x0, 1, 0x0, 8, 1, fun _ => 0⟩
/-- The byte address of `IDN.CERT_SEL` (R527). -/
def A.IDN_CERT_SEL : Nat := 0x430030
def F.IDN_CERT_SEL_CERT : Fld := ⟨A.IDN_CERT_SEL, 1, 0x0, 1, 0x0, 0, 3, fun _ => 0⟩
def F.IDN_CERT_SEL_LENGTH : Fld := ⟨A.IDN_CERT_SEL, 1, 0x0, 1, 0x0, 16, 16, fun _ => 0⟩
/-- The byte address of `IDN.CERT_DATA` (R527). -/
def A.IDN_CERT_DATA : Nat := 0x430034
def F.IDN_CERT_DATA_WORD : Fld := ⟨A.IDN_CERT_DATA, 1, 0x0, 1, 0x0, 0, 32, fun _ => 0⟩
/-- The byte address of `IDN.UID` (R527). -/
def A.IDN_UID : Nat := 0x430020
def F.IDN_UID_VALUE : Fld := ⟨A.IDN_UID, 4, 0x4, 1, 0x0, 0, 32, fun i => Config.fusedUid i⟩
/-- The byte address of `IDN.KEY_ID_LO` (R527). -/
def A.IDN_KEY_ID_LO : Nat := 0x430038
def F.IDN_KEY_ID_LO_VALUE : Fld := ⟨A.IDN_KEY_ID_LO, 1, 0x0, 1, 0x0, 0, 32, fun _ => 0⟩
/-- The byte address of `IDN.KEY_ID_HI` (R527). -/
def A.IDN_KEY_ID_HI : Nat := 0x43003C
def F.IDN_KEY_ID_HI_VALUE : Fld := ⟨A.IDN_KEY_ID_HI, 1, 0x0, 1, 0x0, 0, 32, fun _ => 0⟩
/-- The byte address of `IDN.IMAGE_DIGEST` (R527). -/
def A.IDN_IMAGE_DIGEST : Nat := 0x430100
def F.IDN_IMAGE_DIGEST_VALUE : Fld := ⟨A.IDN_IMAGE_DIGEST, 16, 0x4, 1, 0x0, 0, 32, fun _ => 0⟩
/-- The byte address of `IDN.CFG_DIGEST` (R527). -/
def A.IDN_CFG_DIGEST : Nat := 0x430140
def F.IDN_CFG_DIGEST_VALUE : Fld := ⟨A.IDN_CFG_DIGEST, 16, 0x4, 1, 0x0, 0, 32, fun _ => 0⟩
/-- The byte address of `CNT.SNAP_CTRL` (R537). -/
def A.CNT_SNAP_CTRL : Nat := 0xBF0000
def F.CNT_SNAP_CTRL_TAKE : Fld := ⟨A.CNT_SNAP_CTRL, 4, 0x40, 1, 0x0, 0, 1, fun _ => 0⟩
def F.CNT_SNAP_CTRL_DONE : Fld := ⟨A.CNT_SNAP_CTRL, 4, 0x40, 1, 0x0, 1, 1, fun _ => 0⟩
def F.CNT_SNAP_CTRL_COUNT_M1 : Fld := ⟨A.CNT_SNAP_CTRL, 4, 0x40, 1, 0x0, 16, 8, fun _ => 0⟩
/-- The byte address of `CNT.SNAP_BASE` (R537). -/
def A.CNT_SNAP_BASE : Nat := 0xBF0004
def F.CNT_SNAP_BASE_BASE : Fld := ⟨A.CNT_SNAP_BASE, 4, 0x40, 1, 0x0, 3, 19, fun _ => 0⟩
/-- The byte address of `CNT.SNAP_TICK_LO` (R537). -/
def A.CNT_SNAP_TICK_LO : Nat := 0xBF0008
def F.CNT_SNAP_TICK_LO_VALUE : Fld := ⟨A.CNT_SNAP_TICK_LO, 4, 0x40, 1, 0x0, 0, 32, fun _ => 0⟩
/-- The byte address of `CNT.SNAP_TICK_HI` (R537). -/
def A.CNT_SNAP_TICK_HI : Nat := 0xBF000C
def F.CNT_SNAP_TICK_HI_VALUE : Fld := ⟨A.CNT_SNAP_TICK_HI, 4, 0x40, 1, 0x0, 0, 32, fun _ => 0⟩
/-- The byte address of `CNT.SNAP_DATA_LO` (R537). -/
def A.CNT_SNAP_DATA_LO : Nat := 0xBF1000
def F.CNT_SNAP_DATA_LO_VALUE : Fld := ⟨A.CNT_SNAP_DATA_LO, 4, 0x800, 256, 0x8, 0, 32, fun _ => 0⟩
/-- The byte address of `CNT.SNAP_DATA_HI` (R537). -/
def A.CNT_SNAP_DATA_HI : Nat := 0xBF1004
def F.CNT_SNAP_DATA_HI_VALUE : Fld := ⟨A.CNT_SNAP_DATA_HI, 4, 0x800, 256, 0x8, 0, 32, fun _ => 0⟩

/-- The register map of the block SYS, every register with its owner rule and its fields. -/
def regMapSYS : List RegD :=
  [ ⟨"SYS.DEVICE_ID", A.SYS_DEVICE_ID, .nobody, .whole, [fd F.SYS_DEVICE_ID_PART .ro .l, fd F.SYS_DEVICE_ID_STEP_LETTER .ro .l, fd F.SYS_DEVICE_ID_STEP_NUMBER .ro .l]⟩,
    ⟨"SYS.CFG_GEN", A.SYS_CFG_GEN, .seat0, .whole, [fd F.SYS_CFG_GEN_CURRENT .ro .l, fd F.SYS_CFG_GEN_PREVIOUS .ro .l]⟩,
    ⟨"SYS.CFG_GEN_TICK_LO", A.SYS_CFG_GEN_TICK_LO, .seat0, .lo, [fd F.SYS_CFG_GEN_TICK_LO_VALUE .ro .l]⟩,
    ⟨"SYS.CFG_GEN_TICK_HI", A.SYS_CFG_GEN_TICK_HI, .seat0, .hi, [fd F.SYS_CFG_GEN_TICK_HI_VALUE .ro .l]⟩,
    ⟨"SYS.BOOT_STATUS", A.SYS_BOOT_STATUS, .seat0, .whole, [fd F.SYS_BOOT_STATUS_TBASE_RUN .ro .l, fd F.SYS_BOOT_STATUS_BUF_INIT .ro .l, fd F.SYS_BOOT_STATUS_IMAGE_OK .ro .l, fd F.SYS_BOOT_STATUS_IMAGE_FAILED .ro .l, fd F.SYS_BOOT_STATUS_DRAFEN_READY .ro .l, fd F.SYS_BOOT_STATUS_EVK_READY .ro .l, fd F.SYS_BOOT_STATUS_MEM_TRAINED .ro .l, fd F.SYS_BOOT_STATUS_EVR_READY .ro .l]⟩,
    ⟨"SYS.STRAP", A.SYS_STRAP, .seat0, .whole, [fd F.SYS_STRAP_VALUE .ro .l]⟩,
    ⟨"SYS.RESET_CAUSE", A.SYS_RESET_CAUSE, .seat0, .whole, [fd F.SYS_RESET_CAUSE_PORST_PIN .w1c .l, fd F.SYS_RESET_CAUSE_SUPPLY .w1c .l, fd F.SYS_RESET_CAUSE_SYSRST_PIN .w1c .l, fd F.SYS_RESET_CAUSE_SW_RESET .w1c .l, fd F.SYS_RESET_CAUSE_THERMTRIP .w1c .l, fd F.SYS_RESET_CAUSE_SUPPLY_RAIL .ro .l]⟩,
    ⟨"SYS.SW_RESET", A.SYS_SW_RESET, .seat0, .whole, [fd F.SYS_SW_RESET_KEY .wo .l, fd F.SYS_SW_RESET_GO .wo .l]⟩ ]

/-- The register map of the block TIM, every register with its owner rule and its fields. The read-only SNAP_ words are of Seat 0 as well (DESIGN
CHOICE, log 81). -/
def regMapTIM : List RegD :=
  [ ⟨"TIM.STATUS", A.TIM_STATUS, .seat0, .whole, [fd F.TIM_STATUS_RUN .ro .l, fd F.TIM_STATUS_TIME_VALID .ro .l, fd F.TIM_STATUS_TPLL_LOCK .ro .l, fd F.TIM_STATUS_VOTERS .ro .l]⟩,
    ⟨"TIM.CANOPY_LO", A.TIM_CANOPY_LO, .seat0, .lo, [fd F.TIM_CANOPY_LO_VALUE .ro .l]⟩,
    ⟨"TIM.CANOPY_HI", A.TIM_CANOPY_HI, .seat0, .hi, [fd F.TIM_CANOPY_HI_VALUE .ro .l]⟩,
    ⟨"TIM.EPOCH", A.TIM_EPOCH, .seat0, .whole, [fd F.TIM_EPOCH_CURRENT .ro .l]⟩,
    ⟨"TIM.RATE", A.TIM_RATE, .seat0, .whole, [fd F.TIM_RATE_VALUE .rw .l]⟩,
    ⟨"TIM.ANCHOR_LO", A.TIM_ANCHOR_LO, .seat0, .lo, [fd F.TIM_ANCHOR_LO_VALUE .ro .l]⟩,
    ⟨"TIM.ANCHOR_HI", A.TIM_ANCHOR_HI, .seat0, .hi, [fd F.TIM_ANCHOR_HI_VALUE .ro .l]⟩,
    ⟨"TIM.OFFSET_SEC_LO", A.TIM_OFFSET_SEC_LO, .seat0, .lo, [fd F.TIM_OFFSET_SEC_LO_VALUE .ro .l]⟩,
    ⟨"TIM.OFFSET_SEC_HI", A.TIM_OFFSET_SEC_HI, .seat0, .hi, [fd F.TIM_OFFSET_SEC_HI_VALUE .ro .l]⟩,
    ⟨"TIM.OFFSET_NS", A.TIM_OFFSET_NS, .seat0, .whole, [fd F.TIM_OFFSET_NS_VALUE .ro .l]⟩,
    ⟨"TIM.OFFSET_FRAC", A.TIM_OFFSET_FRAC, .seat0, .whole, [fd F.TIM_OFFSET_FRAC_VALUE .ro .l]⟩,
    ⟨"TIM.STEP_SEC_LO", A.TIM_STEP_SEC_LO, .seat0, .lo, [fd F.TIM_STEP_SEC_LO_VALUE .rw .l]⟩,
    ⟨"TIM.STEP_SEC_HI", A.TIM_STEP_SEC_HI, .seat0, .hi, [fd F.TIM_STEP_SEC_HI_VALUE .rw .l]⟩,
    ⟨"TIM.STEP_NS", A.TIM_STEP_NS, .seat0, .whole, [fdOk F.TIM_STEP_NS_VALUE .rw .l (within 0 999999999)]⟩,
    ⟨"TIM.STEP_FRAC", A.TIM_STEP_FRAC, .seat0, .whole, [fd F.TIM_STEP_FRAC_VALUE .rw .l]⟩,
    ⟨"TIM.STEP_CTRL", A.TIM_STEP_CTRL, .seat0, .whole, [fd F.TIM_STEP_CTRL_GO .wo .l, fd F.TIM_STEP_CTRL_MODE .rw .l, fd F.TIM_STEP_CTRL_PENDING .ro .l]⟩,
    ⟨"TIM.LAST_EPOCH_LO", A.TIM_LAST_EPOCH_LO, .seat0, .lo, [fd F.TIM_LAST_EPOCH_LO_VALUE .ro .l]⟩,
    ⟨"TIM.LAST_EPOCH_HI", A.TIM_LAST_EPOCH_HI, .seat0, .hi, [fd F.TIM_LAST_EPOCH_HI_VALUE .ro .l]⟩,
    ⟨"TIM.VOTE_CTRL", A.TIM_VOTE_CTRL, .seat0, .whole, [fd F.TIM_VOTE_CTRL_RETIRE_LIMIT .rw .l, fd F.TIM_VOTE_CTRL_REJOIN .wo .l]⟩,
    ⟨"TIM.VOTE_STATUS", A.TIM_VOTE_STATUS, .seat0, .whole, [fd F.TIM_VOTE_STATUS_ACTIVE .ro .l, fd F.TIM_VOTE_STATUS_LAST_ODD .ro .l, fd F.TIM_VOTE_STATUS_REJOINING .ro .l]⟩,
    ⟨"TIM.VOTE_LAST_LO", A.TIM_VOTE_LAST_LO, .seat0, .lo, [fd F.TIM_VOTE_LAST_LO_VALUE .ro .l]⟩,
    ⟨"TIM.VOTE_LAST_HI", A.TIM_VOTE_LAST_HI, .seat0, .hi, [fd F.TIM_VOTE_LAST_HI_VALUE .ro .l]⟩,
    ⟨"TIM.FOLLOW_STATUS", A.TIM_FOLLOW_STATUS, .seat0, .whole, [fd F.TIM_FOLLOW_STATUS_MISMATCH .w1c .l]⟩,
    ⟨"TIM.INT_STATUS", A.TIM_INT_STATUS, .seat0, .whole, [fd F.TIM_INT_STATUS_EPOCH_CHANGE .w1c .l, fd F.TIM_INT_STATUS_DISAGREE .w1c .l, fd F.TIM_INT_STATUS_NO_MAJORITY .w1c .l, fd F.TIM_INT_STATUS_RETIRED .w1c .l, fd F.TIM_INT_STATUS_FOLLOW_MISMATCH .w1c .l, fd F.TIM_INT_STATUS_RATE_CLAMPED .w1c .l, fd F.TIM_INT_STATUS_TPLL_UNLOCK .w1c .l, fd F.TIM_INT_STATUS_STEP_DROPPED .w1c .l]⟩,
    ⟨"TIM.INT_ENABLE", A.TIM_INT_ENABLE, .seat0, .whole, [fd F.TIM_INT_ENABLE_VALUE .rw .l]⟩,
    ⟨"TIM.SNAP_CTRL", A.TIM_SNAP_CTRL, .group, .whole, [fd F.TIM_SNAP_CTRL_TAKE .wo .l, fd F.TIM_SNAP_CTRL_DONE .ro .l]⟩,
    ⟨"TIM.SNAP_RAW_LO", A.TIM_SNAP_RAW_LO, .seat0, .lo, [fd F.TIM_SNAP_RAW_LO_VALUE .ro .l]⟩,
    ⟨"TIM.SNAP_RAW_HI", A.TIM_SNAP_RAW_HI, .seat0, .hi, [fd F.TIM_SNAP_RAW_HI_VALUE .ro .l]⟩,
    ⟨"TIM.SNAP_SEC_LO", A.TIM_SNAP_SEC_LO, .seat0, .lo, [fd F.TIM_SNAP_SEC_LO_VALUE .ro .l]⟩,
    ⟨"TIM.SNAP_SEC_HI", A.TIM_SNAP_SEC_HI, .seat0, .hi, [fd F.TIM_SNAP_SEC_HI_VALUE .ro .l]⟩,
    ⟨"TIM.SNAP_NS", A.TIM_SNAP_NS, .seat0, .whole, [fd F.TIM_SNAP_NS_VALUE .ro .l]⟩,
    ⟨"TIM.SNAP_FRAC", A.TIM_SNAP_FRAC, .seat0, .whole, [fd F.TIM_SNAP_FRAC_VALUE .ro .l]⟩,
    ⟨"TIM.SNAP_EPOCH", A.TIM_SNAP_EPOCH, .seat0, .whole, [fd F.TIM_SNAP_EPOCH_VALUE .ro .l]⟩ ]

/-- The register map of the block SYN, every register with its owner rule and its fields. -/
def regMapSYN : List RegD :=
  [ ⟨"SYN.SERVO_CTRL", A.SYN_SERVO_CTRL, .seat0, .whole, [fd F.SYN_SERVO_CTRL_ENABLE .rw .l, fd F.SYN_SERVO_CTRL_KP_SHIFT .rw .l, fd F.SYN_SERVO_CTRL_KI_SHIFT .rw .l, fdNorm F.SYN_SERVO_CTRL_STEP_CONFIRM .rw .l zeroOne, fdNorm F.SYN_SERVO_CTRL_LOSS_INTERVALS .rw .l zeroOne, fdNorm F.SYN_SERVO_CTRL_LOCK_COUNT .rw .l zeroOne]⟩,
    ⟨"SYN.SERVO_SRC", A.SYN_SERVO_SRC, .seat0, .whole, [fd F.SYN_SERVO_SRC_ORDER .rw .l]⟩,
    ⟨"SYN.SERVO_STATUS", A.SYN_SERVO_STATUS, .seat0, .whole, [fd F.SYN_SERVO_STATUS_STATE .ro .l, fd F.SYN_SERVO_STATUS_SOURCE .ro .l, fd F.SYN_SERVO_STATUS_REF_LOST .ro .l]⟩,
    ⟨"SYN.LOCK_NS", A.SYN_LOCK_NS, .seat0, .whole, [fd F.SYN_LOCK_NS_VALUE .rw .l]⟩,
    ⟨"SYN.LAST_OFFSET_LO", A.SYN_LAST_OFFSET_LO, .seat0, .lo, [fd F.SYN_LAST_OFFSET_LO_VALUE .ro .l]⟩,
    ⟨"SYN.LAST_OFFSET_HI", A.SYN_LAST_OFFSET_HI, .seat0, .hi, [fd F.SYN_LAST_OFFSET_HI_VALUE .ro .l]⟩,
    ⟨"SYN.FREQ", A.SYN_FREQ, .seat0, .whole, [fd F.SYN_FREQ_VALUE .ro .l]⟩,
    ⟨"SYN.SESSION", A.SYN_SESSION, .seat0, .whole, [fd F.SYN_SESSION_PHASE .ro .l]⟩,
    ⟨"SYN.HOLD_START_LO", A.SYN_HOLD_START_LO, .seat0, .lo, [fd F.SYN_HOLD_START_LO_VALUE .ro .l]⟩,
    ⟨"SYN.HOLD_START_HI", A.SYN_HOLD_START_HI, .seat0, .hi, [fd F.SYN_HOLD_START_HI_VALUE .ro .l]⟩,
    ⟨"SYN.INT_STATUS", A.SYN_INT_STATUS, .seat0, .whole, [fd F.SYN_INT_STATUS_STATE_CHANGE .w1c .l, fd F.SYN_INT_STATUS_STEP .w1c .l, fd F.SYN_INT_STATUS_SLEW_FAULT .w1c .l, fd F.SYN_INT_STATUS_HOLDOVER .w1c .l, fd F.SYN_INT_STATUS_SRC_SWITCH .w1c .l, fd F.SYN_INT_STATUS_REF_SWITCH .w1c .l, fd F.SYN_INT_STATUS_PPS_BAD .w1c .l, fd F.SYN_INT_STATUS_TOD_ERR .w1c .l, fd F.SYN_INT_STATUS_EVT_OVERFLOW .w1c .l, fd F.SYN_INT_STATUS_SCHED_LATE .w1c .l, fd F.SYN_INT_STATUS_STEP_DROPPED .w1c .l]⟩,
    ⟨"SYN.INT_ENABLE", A.SYN_INT_ENABLE, .seat0, .whole, [fd F.SYN_INT_ENABLE_VALUE .rw .l]⟩,
    ⟨"SYN.PTP_CFG", A.SYN_PTP_CFG, .seat0, .whole, [fd F.SYN_PTP_CFG_HOST_SEAT .rw .l]⟩,
    ⟨"SYN.PHASE_STEP", A.SYN_PHASE_STEP, .seat0, .whole, [fd F.SYN_PHASE_STEP_ALLOWED .rw .l]⟩,
    ⟨"SYN.PHASE_THRESH", A.SYN_PHASE_THRESH, .seat0, .whole, [fd F.SYN_PHASE_THRESH_NS .rw .l]⟩,
    ⟨"SYN.PHASE_SLEW", A.SYN_PHASE_SLEW, .seat0, .whole, [fdNorm F.SYN_PHASE_SLEW_PPB .rw .l (atMost 200000)]⟩,
    ⟨"SYN.CLOCK_ID_LO", A.SYN_CLOCK_ID_LO, .seat0, .lo, [fd F.SYN_CLOCK_ID_LO_VALUE .rw .l]⟩,
    ⟨"SYN.CLOCK_ID_HI", A.SYN_CLOCK_ID_HI, .seat0, .hi, [fd F.SYN_CLOCK_ID_HI_VALUE .rw .l]⟩,
    ⟨"SYN.SRC_MAC_LO", A.SYN_SRC_MAC_LO, .seat0, .lo, [fd F.SYN_SRC_MAC_LO_VALUE .rw .l]⟩,
    ⟨"SYN.SRC_MAC_HI", A.SYN_SRC_MAC_HI, .seat0, .hi, [fd F.SYN_SRC_MAC_HI_VALUE .rw .l]⟩,
    ⟨"SYN.SRC_IPV4", A.SYN_SRC_IPV4, .seat0, .whole, [fd F.SYN_SRC_IPV4_VALUE .rw .l]⟩,
    ⟨"SYN.SRC_IPV6", A.SYN_SRC_IPV6, .seat0, .whole, [fd F.SYN_SRC_IPV6_VALUE .rw .l]⟩,
    ⟨"SYN.ASSOC_CTRL", A.SYN_ASSOC_CTRL, .seat0, .whole, [fd F.SYN_ASSOC_CTRL_ENABLE .rw .l, fd F.SYN_ASSOC_CTRL_DELAY_MECH .rw .q, fd F.SYN_ASSOC_CTRL_TRANSPORT .rw .q, fd F.SYN_ASSOC_CTRL_PORT .rw .q, fd F.SYN_ASSOC_CTRL_DOMAIN .rw .q, fdOk F.SYN_ASSOC_CTRL_LOG_SYNC .rw .q logInterval]⟩,
    ⟨"SYN.ASSOC_VLAN", A.SYN_ASSOC_VLAN, .seat0, .whole, [fd F.SYN_ASSOC_VLAN_VID .rw .q, fd F.SYN_ASSOC_VLAN_TAGGED .rw .q, fd F.SYN_ASSOC_VLAN_PCP .rw .q, fdOk F.SYN_ASSOC_VLAN_LOG_DELAY_REQ .rw .q logInterval]⟩,
    ⟨"SYN.MASTER_ID_LO", A.SYN_MASTER_ID_LO, .seat0, .lo, [fd F.SYN_MASTER_ID_LO_VALUE .rw .q]⟩,
    ⟨"SYN.MASTER_ID_HI", A.SYN_MASTER_ID_HI, .seat0, .hi, [fd F.SYN_MASTER_ID_HI_VALUE .rw .q]⟩,
    ⟨"SYN.MASTER_PORT", A.SYN_MASTER_PORT, .seat0, .whole, [fd F.SYN_MASTER_PORT_VALUE .rw .q]⟩,
    ⟨"SYN.ASSOC_FILTER", A.SYN_ASSOC_FILTER, .seat0, .whole, [fd F.SYN_ASSOC_FILTER_PD_SHIFT .rw .l]⟩,
    ⟨"SYN.MEAN_PATH_LO", A.SYN_MEAN_PATH_LO, .seat0, .lo, [fd F.SYN_MEAN_PATH_LO_VALUE .ro .l]⟩,
    ⟨"SYN.MEAN_PATH_HI", A.SYN_MEAN_PATH_HI, .seat0, .hi, [fd F.SYN_MEAN_PATH_HI_VALUE .ro .l]⟩,
    ⟨"SYN.ASSOC_ASYM", A.SYN_ASSOC_ASYM, .seat0, .whole, [fd F.SYN_ASSOC_ASYM_VALUE .rw .l]⟩,
    ⟨"SYN.ASSOC_STATUS", A.SYN_ASSOC_STATUS, .seat0, .whole, [fd F.SYN_ASSOC_STATUS_VALID .ro .l, fd F.SYN_ASSOC_STATUS_LAST_SEQ .ro .l]⟩,
    ⟨"SYN.PPS_IN_CTRL", A.SYN_PPS_IN_CTRL, .seat0, .whole, [fd F.SYN_PPS_IN_CTRL_ENABLE .rw .l, fd F.SYN_PPS_IN_CTRL_EDGE .rw .l, fd F.SYN_PPS_IN_CTRL_TOD_USE .rw .l]⟩,
    ⟨"SYN.PPS_IN_DELAY", A.SYN_PPS_IN_DELAY, .seat0, .whole, [fd F.SYN_PPS_IN_DELAY_VALUE .rw .l]⟩,
    ⟨"SYN.PPS_IN_RAW_LO", A.SYN_PPS_IN_RAW_LO, .seat0, .lo, [fd F.SYN_PPS_IN_RAW_LO_VALUE .ro .l]⟩,
    ⟨"SYN.PPS_IN_RAW_HI", A.SYN_PPS_IN_RAW_HI, .seat0, .hi, [fd F.SYN_PPS_IN_RAW_HI_VALUE .ro .l]⟩,
    ⟨"SYN.PPS_IN_SUB", A.SYN_PPS_IN_SUB, .seat0, .whole, [fd F.SYN_PPS_IN_SUB_VALUE .ro .l]⟩,
    ⟨"SYN.PPS_IN_OFS_LO", A.SYN_PPS_IN_OFS_LO, .seat0, .lo, [fd F.SYN_PPS_IN_OFS_LO_VALUE .ro .l]⟩,
    ⟨"SYN.PPS_IN_OFS_HI", A.SYN_PPS_IN_OFS_HI, .seat0, .hi, [fd F.SYN_PPS_IN_OFS_HI_VALUE .ro .l]⟩,
    ⟨"SYN.PPS_OUT_CTRL", A.SYN_PPS_OUT_CTRL, .seat0, .whole, [fd F.SYN_PPS_OUT_CTRL_ENABLE .rw .l]⟩,
    ⟨"SYN.PPS_OUT_OFS", A.SYN_PPS_OUT_OFS, .seat0, .whole, [fd F.SYN_PPS_OUT_OFS_OFFSET_NS .rw .s]⟩,
    ⟨"SYN.PPS_OUT_WIDTH", A.SYN_PPS_OUT_WIDTH, .seat0, .whole, [fdOk F.SYN_PPS_OUT_WIDTH_WIDTH_US .rw .s (within 1 500000)]⟩,
    ⟨"SYN.REF_CTRL", A.SYN_REF_CTRL, .seat0, .whole, [fd F.SYN_REF_CTRL_ORDER .rw .l, fd F.SYN_REF_CTRL_REVERT .rw .l, fd F.SYN_REF_CTRL_TOL_PPM .rw .l, fd F.SYN_REF_CTRL_A_25M .rw .l, fd F.SYN_REF_CTRL_B_25M .rw .l]⟩,
    ⟨"SYN.REF_STATUS", A.SYN_REF_STATUS, .seat0, .whole, [fd F.SYN_REF_STATUS_CURRENT .ro .l, fd F.SYN_REF_STATUS_GOOD .ro .l]⟩,
    ⟨"SYN.TOD_CTRL", A.SYN_TOD_CTRL, .seat0, .whole, [fd F.SYN_TOD_CTRL_BAUD .rw .l, fd F.SYN_TOD_CTRL_RX_SRC .rw .l, fd F.SYN_TOD_CTRL_RX_EN .rw .l, fd F.SYN_TOD_CTRL_TX_EN .rw .l]⟩,
    ⟨"SYN.TOD_STATUS", A.SYN_TOD_STATUS, .seat0, .whole, [fd F.SYN_TOD_STATUS_LABEL_VALID .ro .l]⟩,
    ⟨"SYN.TOD_SEC_LO", A.SYN_TOD_SEC_LO, .seat0, .lo, [fd F.SYN_TOD_SEC_LO_VALUE .ro .l]⟩,
    ⟨"SYN.TOD_SEC_HI", A.SYN_TOD_SEC_HI, .seat0, .hi, [fd F.SYN_TOD_SEC_HI_VALUE .ro .l]⟩,
    ⟨"SYN.EVTI_CTRL", A.SYN_EVTI_CTRL, .seat0, .whole, [fd F.SYN_EVTI_CTRL_ENABLE .rw .l, fd F.SYN_EVTI_CTRL_EDGE .rw .l, fd F.SYN_EVTI_CTRL_RECORD .rw .l, fd F.SYN_EVTI_CTRL_POP .wo .l]⟩,
    ⟨"SYN.EVTI_DELAY", A.SYN_EVTI_DELAY, .seat0, .whole, [fd F.SYN_EVTI_DELAY_VALUE .rw .l]⟩,
    ⟨"SYN.EVTI_HEAD_LO", A.SYN_EVTI_HEAD_LO, .seat0, .lo, [fd F.SYN_EVTI_HEAD_LO_VALUE .ro .l]⟩,
    ⟨"SYN.EVTI_HEAD_HI", A.SYN_EVTI_HEAD_HI, .seat0, .hi, [fd F.SYN_EVTI_HEAD_HI_VALUE .ro .l]⟩,
    ⟨"SYN.EVTI_INFO", A.SYN_EVTI_INFO, .seat0, .whole, [fd F.SYN_EVTI_INFO_SUB .ro .l, fd F.SYN_EVTI_INFO_RISE .ro .l, fd F.SYN_EVTI_INFO_COUNT .ro .l, fd F.SYN_EVTI_INFO_OVERFLOW .w1c .l]⟩,
    ⟨"SYN.EVTO_CTRL", A.SYN_EVTO_CTRL, .seat0, .whole, [fd F.SYN_EVTO_CTRL_MODE .rw .l, fd F.SYN_EVTO_CTRL_LEVEL .rw .l, fd F.SYN_EVTO_CTRL_MIRROR_SRC .rw .l, fd F.SYN_EVTO_CTRL_INVERT .rw .l]⟩,
    ⟨"SYN.EVTO_START_SEC_LO", A.SYN_EVTO_START_SEC_LO, .seat0, .lo, [fd F.SYN_EVTO_START_SEC_LO_VALUE .rw .s]⟩,
    ⟨"SYN.EVTO_START_SEC_HI", A.SYN_EVTO_START_SEC_HI, .seat0, .hi, [fd F.SYN_EVTO_START_SEC_HI_VALUE .rw .s]⟩,
    ⟨"SYN.EVTO_START_NS", A.SYN_EVTO_START_NS, .seat0, .whole, [fd F.SYN_EVTO_START_NS_NS .rw .s]⟩,
    ⟨"SYN.EVTO_PERIOD", A.SYN_EVTO_PERIOD, .seat0, .whole, [fd F.SYN_EVTO_PERIOD_NS .rw .s]⟩,
    ⟨"SYN.EVTO_WIDTH", A.SYN_EVTO_WIDTH, .seat0, .whole, [fd F.SYN_EVTO_WIDTH_NS .rw .s]⟩,
    ⟨"SYN.SCHED_STATUS", A.SYN_SCHED_STATUS, .seat0, .whole, [fd F.SYN_SCHED_STATUS_PENDING .ro .l]⟩,
    ⟨"SYN.SCHED_LAST_ID", A.SYN_SCHED_LAST_ID, .seat0, .whole, [fd F.SYN_SCHED_LAST_ID_VALUE .ro .l]⟩,
    ⟨"SYN.SCHED_LAST_TICK_LO", A.SYN_SCHED_LAST_TICK_LO, .seat0, .lo, [fd F.SYN_SCHED_LAST_TICK_LO_VALUE .ro .l]⟩,
    ⟨"SYN.SCHED_LAST_TICK_HI", A.SYN_SCHED_LAST_TICK_HI, .seat0, .hi, [fd F.SYN_SCHED_LAST_TICK_HI_VALUE .ro .l]⟩,
    ⟨"SYN.MPORT_CTRL", A.SYN_MPORT_CTRL, .seat0, .whole, [fd F.SYN_MPORT_CTRL_ROLE .rw .l, fd F.SYN_MPORT_CTRL_TWO_STEP .rw .q, fd F.SYN_MPORT_CTRL_DELAY_MECH .rw .q, fd F.SYN_MPORT_CTRL_TRANSPORT .rw .q, fd F.SYN_MPORT_CTRL_DOMAIN .rw .q, fdOk F.SYN_MPORT_CTRL_LOG_SYNC .rw .q logInterval]⟩,
    ⟨"SYN.MPORT_LINK", A.SYN_MPORT_LINK, .seat0, .whole, [fd F.SYN_MPORT_LINK_LINK_DELAY .ro .l]⟩ ]

/-- The register map of the block TSU, every register with its owner rule and its fields. -/
def regMapTSU : List RegD :=
  [ ⟨"TSU.CAL_CTRL", A.TSU_CAL_CTRL, .cal, .whole, [fd F.TSU_CAL_CTRL_PORT .rw .l, fd F.TSU_CAL_CTRL_GO .wo .l, fd F.TSU_CAL_CTRL_APPLY .rw .l, fdNorm F.TSU_CAL_CTRL_CAL_COUNT .rw .l (clampN 4 12)]⟩,
    ⟨"TSU.CAL_STATUS", A.TSU_CAL_STATUS, .seat0, .whole, [fd F.TSU_CAL_STATUS_BUSY .ro .l, fd F.TSU_CAL_STATUS_DONE .ro .l, fd F.TSU_CAL_STATUS_RESULT .ro .l]⟩,
    ⟨"TSU.CAL_SUM", A.TSU_CAL_SUM, .seat0, .whole, [fd F.TSU_CAL_SUM_VALUE .ro .l]⟩,
    ⟨"TSU.INT_STATUS", A.TSU_INT_STATUS, .seat0, .whole, [fd F.TSU_INT_STATUS_CAL_DONE .w1c .l, fd F.TSU_INT_STATUS_CAL_FAIL .w1c .l, fd F.TSU_INT_STATUS_CAL_STALE .w1c .l, fd F.TSU_INT_STATUS_HIST_OVERRUN .w1c .l]⟩,
    ⟨"TSU.INT_ENABLE", A.TSU_INT_ENABLE, .seat0, .whole, [fd F.TSU_INT_ENABLE_VALUE .rw .l]⟩,
    ⟨"TSU.NOM_ING", A.TSU_NOM_ING, .nobody, .whole, [fd F.TSU_NOM_ING_VALUE .ro .l]⟩,
    ⟨"TSU.NOM_EGR", A.TSU_NOM_EGR, .nobody, .whole, [fd F.TSU_NOM_EGR_VALUE .ro .l]⟩,
    ⟨"TSU.TEMPCO", A.TSU_TEMPCO, .nobody, .whole, [fd F.TSU_TEMPCO_VALUE .ro .l]⟩,
    ⟨"TSU.LB_DELAY", A.TSU_LB_DELAY, .nobody, .whole, [fd F.TSU_LB_DELAY_VALUE .ro .l]⟩,
    ⟨"TSU.ING_DELAY", A.TSU_ING_DELAY, .port, .whole, [fdFix (fd F.TSU_ING_DELAY_VALUE .rw .s) (fun p => p ≥ 512)]⟩,
    ⟨"TSU.EGR_DELAY", A.TSU_EGR_DELAY, .port, .whole, [fdFix (fd F.TSU_EGR_DELAY_VALUE .rw .s) (fun p => p ≥ 512)]⟩,
    ⟨"TSU.PORT_CFG", A.TSU_PORT_CFG, .port, .whole, [fd F.TSU_PORT_CFG_TRL_INSERT .rw .s, fd F.TSU_PORT_CFG_TRL_STRIP .rw .s, fd F.TSU_PORT_CFG_ONE_STEP .rw .s, fd F.TSU_PORT_CFG_TEMP_COMP .rw .s, fd F.TSU_PORT_CFG_SPLIT .rw .l]⟩,
    ⟨"TSU.PORT_STATUS", A.TSU_PORT_STATUS, .port, .whole, [fd F.TSU_PORT_STATUS_CALIBRATED .ro .l, fd F.TSU_PORT_STATUS_CAL_STALE .ro .l, fd F.TSU_PORT_STATUS_MODE .ro .l, fd F.TSU_PORT_STATUS_CAL_TEMP .ro .l]⟩,
    ⟨"TSU.VAR_DESKEW", A.TSU_VAR_DESKEW, .port, .whole, [fd F.TSU_VAR_DESKEW_VALUE .ro .l]⟩,
    ⟨"TSU.TEMP_CORR", A.TSU_TEMP_CORR, .port, .whole, [fd F.TSU_TEMP_CORR_VALUE .ro .l]⟩ ]

/-- The register map of the block PRS, every register with its owner rule and its fields. -/
def regMapPRS : List RegD :=
  [ ⟨"PRS.SEL_CTRL", A.PRS_SEL_CTRL, .seat0, .whole, [fd F.PRS_SEL_CTRL_VALID .rw .s, fdOk F.PRS_SEL_CTRL_PROFILE .rw .s (within 0 57), fd F.PRS_SEL_CTRL_PCLASS_MASK .rw .s]⟩,
    ⟨"PRS.SEL_OFFS", A.PRS_SEL_OFFS, .seat0, .whole, [fdOk F.PRS_SEL_OFFS_OFF0 .rw .s (within 0 126), fdOk F.PRS_SEL_OFFS_OFF1 .rw .s (within 0 126), fdOk F.PRS_SEL_OFFS_OFF2 .rw .s (within 0 126)]⟩,
    ⟨"PRS.SEL_CMP0", A.PRS_SEL_CMP0, .seat0, .whole, [fd F.PRS_SEL_CMP0_MASK .rw .s, fd F.PRS_SEL_CMP0_VALUE .rw .s]⟩,
    ⟨"PRS.SEL_CMP1", A.PRS_SEL_CMP1, .seat0, .whole, [fd F.PRS_SEL_CMP1_MASK .rw .s, fd F.PRS_SEL_CMP1_VALUE .rw .s]⟩,
    ⟨"PRS.SEL_CMP2", A.PRS_SEL_CMP2, .seat0, .whole, [fd F.PRS_SEL_CMP2_MASK .rw .s, fd F.PRS_SEL_CMP2_VALUE .rw .s]⟩,
    ⟨"PRS.PORT_CFG", A.PRS_PORT_CFG, .port, .whole, [fdOk F.PRS_PORT_CFG_DEFAULT_PROFILE .rw .s (within 0 57), fd F.PRS_PORT_CFG_PCLASS .rw .s]⟩,
    ⟨"PRS.FLD", A.PRS_FLD, .seat0, .whole, [fdFix (fd F.PRS_FLD_OFFSET .rw .s) (fun n => n ≥ 1856), fdFix (fd F.PRS_FLD_BIT .rw .s) (fun n => n ≥ 1856), fdFix (fd F.PRS_FLD_LEN_M1 .rw .s) (fun n => n ≥ 1856), fdFix (fd F.PRS_FLD_ROLE .rw .s) (fun n => n ≥ 1856), fdFix (fd F.PRS_FLD_KEY_LSB .rw .s) (fun n => n ≥ 1856), fdFix (fd F.PRS_FLD_KEY_EN .rw .s) (fun n => n ≥ 1856), fdFix (fd F.PRS_FLD_EN .rw .s) (fun n => n ≥ 1856)]⟩,
    ⟨"PRS.MASK", A.PRS_MASK, .seat0, .whole, [fdFix (fd F.PRS_MASK_VALUE .rw .s) (fun n => n ≥ 1856)]⟩ ]

/-- The register map of the block CLS, every register with its owner rule and its fields. -/
def regMapCLS : List RegD :=
  [ ⟨"CLS.HASH_CFG", A.CLS_HASH_CFG, .seat0, .whole, [fd F.CLS_HASH_CFG_L4_EN .rw .s, fd F.CLS_HASH_CFG_VID_EN .rw .s]⟩,
    ⟨"CLS.HASH_SEED", A.CLS_HASH_SEED, .seat0, .whole, [fd F.CLS_HASH_SEED_VALUE .rw .s]⟩,
    ⟨"CLS.FRAG_CTRL", A.CLS_FRAG_CTRL, .seat0, .whole, [fdNorm F.CLS_FRAG_CTRL_TIMEOUT_US .rw .l zeroOne, fd F.CLS_FRAG_CTRL_MISS_POLICY .rw .l, fd F.CLS_FRAG_CTRL_ENABLE .rw .l]⟩,
    ⟨"CLS.INT_STATUS", A.CLS_INT_STATUS, .seat0, .whole, [fd F.CLS_INT_STATUS_ECC_CORR .w1c .l, fd F.CLS_INT_STATUS_ECC_UNCORR .w1c .l, fd F.CLS_INT_STATUS_FRAG_FULL .w1c .l, fd F.CLS_INT_STATUS_FRAG_MISS .w1c .l]⟩,
    ⟨"CLS.INT_ENABLE", A.CLS_INT_ENABLE, .seat0, .whole, [fd F.CLS_INT_ENABLE_VALUE .rw .l]⟩,
    ⟨"CLS.TCAM_STATUS", A.CLS_TCAM_STATUS, .seat0, .whole, [fd F.CLS_TCAM_STATUS_ROWS .ro .l]⟩,
    ⟨"CLS.RANGE_CTRL", A.CLS_RANGE_CTRL, .seat0, .whole, [fd F.CLS_RANGE_CTRL_ENABLE .rw .s, fd F.CLS_RANGE_CTRL_ROLE .rw .s, fd F.CLS_RANGE_CTRL_KEY_BIT .rw .s]⟩,
    ⟨"CLS.RANGE_LO", A.CLS_RANGE_LO, .seat0, .whole, [fd F.CLS_RANGE_LO_VALUE .rw .s]⟩,
    ⟨"CLS.RANGE_HI", A.CLS_RANGE_HI, .seat0, .whole, [fd F.CLS_RANGE_HI_VALUE .rw .s]⟩ ]

/-- The register map of the block TBL, every register with its owner rule and its fields. -/
def regMapTBL : List RegD :=
  [ ⟨"TBL.LEARN_CTRL", A.TBL_LEARN_CTRL, .seat0, .whole, [fd F.TBL_LEARN_CTRL_ENABLE .rw .l, fd F.TBL_LEARN_CTRL_HIT_ON_DA .rw .l]⟩,
    ⟨"TBL.MOVE_CFG", A.TBL_MOVE_CFG, .seat0, .whole, [fdNorm F.TBL_MOVE_CFG_LIMIT .rw .l zeroOne, fdNorm F.TBL_MOVE_CFG_WINDOW_US .rw .l (clampN 1 50000)]⟩,
    ⟨"TBL.AGE_CTRL", A.TBL_AGE_CTRL, .seat0, .whole, [fdNorm F.TBL_AGE_CTRL_PERIOD_S .rw .l (atMost 4096)]⟩,
    ⟨"TBL.SCRUB_CTRL", A.TBL_SCRUB_CTRL, .seat0, .whole, [fdNorm F.TBL_SCRUB_CTRL_PERIOD_MS .rw .l (atLeast 100), fd F.TBL_SCRUB_CTRL_ENABLE .rw .l]⟩,
    ⟨"TBL.INT_STATUS", A.TBL_INT_STATUS, .seat0, .whole, [fd F.TBL_INT_STATUS_PINNED .w1c .l, fd F.TBL_INT_STATUS_LEARN_FAIL .w1c .l, fd F.TBL_INT_STATUS_LEARN_OVERFLOW .w1c .l, fd F.TBL_INT_STATUS_STASH_HIGH .w1c .l, fd F.TBL_INT_STATUS_ECC_CORR .w1c .l, fd F.TBL_INT_STATUS_ECC_UNCORR .w1c .l, fd F.TBL_INT_STATUS_ENTRY_LOST .w1c .l, fd F.TBL_INT_STATUS_PIN_LOG_OVERFLOW .w1c .l]⟩,
    ⟨"TBL.PREFIX_STATUS", A.TBL_PREFIX_STATUS, .seat0, .whole, [fd F.TBL_PREFIX_STATUS_UNITS .ro .l]⟩,
    ⟨"TBL.PIN_LOG_KEY_LO", A.TBL_PIN_LOG_KEY_LO, .seat0, .lo, [fd F.TBL_PIN_LOG_KEY_LO_MAC_LO .ro .l]⟩,
    ⟨"TBL.PIN_LOG_KEY_HI", A.TBL_PIN_LOG_KEY_HI, .seat0, .hi, [fd F.TBL_PIN_LOG_KEY_HI_MAC_HI .ro .l, fd F.TBL_PIN_LOG_KEY_HI_VID .ro .l]⟩,
    ⟨"TBL.PIN_LOG_CTRL", A.TBL_PIN_LOG_CTRL, .seat0, .whole, [fd F.TBL_PIN_LOG_CTRL_POP .wo .l, fd F.TBL_PIN_LOG_CTRL_COUNT .ro .l]⟩,
    ⟨"TBL.INT_ENABLE", A.TBL_INT_ENABLE, .seat0, .whole, [fd F.TBL_INT_ENABLE_VALUE .rw .l]⟩,
    ⟨"TBL.EM_CTRL", A.TBL_EM_CTRL, .seat0, .whole, [fd F.TBL_EM_CTRL_ENABLE .rw .l]⟩,
    ⟨"TBL.EM_SEED0", A.TBL_EM_SEED0, .seat0, .whole, [fd F.TBL_EM_SEED0_VALUE .rw .q]⟩,
    ⟨"TBL.EM_SEED1", A.TBL_EM_SEED1, .seat0, .whole, [fd F.TBL_EM_SEED1_VALUE .rw .q]⟩,
    ⟨"TBL.EM_STATUS", A.TBL_EM_STATUS, .seat0, .whole, [fd F.TBL_EM_STATUS_ENTRIES .ro .l, fd F.TBL_EM_STATUS_STASH .ro .l]⟩,
    ⟨"TBL.EM_MOVE_SEQ", A.TBL_EM_MOVE_SEQ, .seat0, .whole, [fd F.TBL_EM_MOVE_SEQ_VALUE .ro .l]⟩,
    ⟨"TBL.PORT_CFG", A.TBL_PORT_CFG, .port, .whole, [fd F.TBL_PORT_CFG_LEARN_EN .rw .l, fd F.TBL_PORT_CFG_L3_EN .rw .s]⟩ ]

/-- The register map of the block BUF, every register with its owner rule and its fields. -/
def regMapBUF : List RegD :=
  [ ⟨"BUF.STATUS", A.BUF_STATUS, .seat0, .whole, [fd F.BUF_STATUS_ACTIVE_CELLS .ro .l, fd F.BUF_STATUS_INIT_DONE .ro .l]⟩,
    ⟨"BUF.FREE", A.BUF_FREE, .seat0, .whole, [fd F.BUF_FREE_CELLS .ro .l]⟩,
    ⟨"BUF.SHARED", A.BUF_SHARED, .seat0, .whole, [fd F.BUF_SHARED_USED .ro .l]⟩,
    ⟨"BUF.SLACK", A.BUF_SLACK, .seat0, .whole, [fdNorm F.BUF_SLACK_CELLS .rw .s (atLeast 64)]⟩,
    ⟨"BUF.DET_RESERVE", A.BUF_DET_RESERVE, .seat0, .whole, [fd F.BUF_DET_RESERVE_CELLS .rw .s, fdNorm F.BUF_DET_RESERVE_DET_ALPHA_K .rw .l alphaK]⟩,
    ⟨"BUF.GLOBAL_EW", A.BUF_GLOBAL_EW, .seat0, .whole, [fd F.BUF_GLOBAL_EW_CELLS .rw .l, fd F.BUF_GLOBAL_EW_PAUSE_ALL .rw .l]⟩,
    ⟨"BUF.SHARED_TOTAL", A.BUF_SHARED_TOTAL, .seat0, .whole, [fd F.BUF_SHARED_TOTAL_TOTAL .ro .l]⟩,
    ⟨"BUF.BANK_MAP_SEL", A.BUF_BANK_MAP_SEL, .seat0, .whole, [fd F.BUF_BANK_MAP_SEL_BANK .rw .l]⟩,
    ⟨"BUF.BANK_MAP", A.BUF_BANK_MAP, .seat0, .whole, [fd F.BUF_BANK_MAP_PHYS .ro .l, fd F.BUF_BANK_MAP_RETIRED .ro .l]⟩,
    ⟨"BUF.SPARE_STATUS", A.BUF_SPARE_STATUS, .seat0, .whole, [fd F.BUF_SPARE_STATUS_SPARES_LEFT .ro .l, fd F.BUF_SPARE_STATUS_MIGRATING .ro .l, fd F.BUF_SPARE_STATUS_BANK .ro .l]⟩,
    ⟨"BUF.SPARE_CTRL", A.BUF_SPARE_CTRL, .seat0, .whole, [fd F.BUF_SPARE_CTRL_CE_LIMIT .rw .l, fd F.BUF_SPARE_CTRL_FORCE_BANK .rw .l, fd F.BUF_SPARE_CTRL_FORCE .wo .l]⟩,
    ⟨"BUF.SCRUB_CTRL", A.BUF_SCRUB_CTRL, .seat0, .whole, [fdNorm F.BUF_SCRUB_CTRL_PERIOD_MS .rw .l (atLeast 100), fd F.BUF_SCRUB_CTRL_ENABLE .rw .l]⟩,
    ⟨"BUF.DISC_LOG", A.BUF_DISC_LOG, .seat0, .whole, [fd F.BUF_DISC_LOG_HANDLE .ro .l, fd F.BUF_DISC_LOG_REQUESTER .ro .l, fd F.BUF_DISC_LOG_REASON .ro .l, fd F.BUF_DISC_LOG_VALID .w1c .l]⟩,
    ⟨"BUF.DEEP_AREA", A.BUF_DEEP_AREA, .seat0, .whole, [fdOk F.BUF_DEEP_AREA_SIZE_GIB .rw .q (within 0 64)]⟩,
    ⟨"BUF.DISC_LOG_TICK_LO", A.BUF_DISC_LOG_TICK_LO, .seat0, .lo, [fd F.BUF_DISC_LOG_TICK_LO_VALUE .ro .l]⟩,
    ⟨"BUF.DISC_LOG_TICK_HI", A.BUF_DISC_LOG_TICK_HI, .seat0, .hi, [fd F.BUF_DISC_LOG_TICK_HI_VALUE .ro .l]⟩,
    ⟨"BUF.INT_STATUS", A.BUF_INT_STATUS, .seat0, .whole, [fd F.BUF_INT_STATUS_DISCIPLINE .w1c .l, fd F.BUF_INT_STATUS_GLOBAL_EW .w1c .l, fd F.BUF_INT_STATUS_EXHAUSTED .w1c .l, fd F.BUF_INT_STATUS_ECC_CORR .w1c .l, fd F.BUF_INT_STATUS_ECC_UNCORR .w1c .l, fd F.BUF_INT_STATUS_SPARE_USED .w1c .l, fd F.BUF_INT_STATUS_SPARE_NONE .w1c .l, fd F.BUF_INT_STATUS_POOL_FAIL .w1c .l, fd F.BUF_INT_STATUS_DEEP_FULL .w1c .l, fd F.BUF_INT_STATUS_HEADROOM .w1c .l, fd F.BUF_INT_STATUS_DET_DROP .w1c .l]⟩,
    ⟨"BUF.INT_ENABLE", A.BUF_INT_ENABLE, .seat0, .whole, [fd F.BUF_INT_ENABLE_VALUE .rw .l]⟩,
    ⟨"BUF.POOL_COUNT_NEXT", A.BUF_POOL_COUNT_NEXT, .seat0, .whole, [fd F.BUF_POOL_COUNT_NEXT_COUNT_NEXT .rw .l]⟩,
    ⟨"BUF.POOL_COUNT", A.BUF_POOL_COUNT, .seat0, .whole, [fd F.BUF_POOL_COUNT_COUNT .ro .l]⟩,
    ⟨"BUF.POOL_FREE", A.BUF_POOL_FREE, .seat0, .whole, [fd F.BUF_POOL_FREE_FREE .ro .l]⟩,
    ⟨"BUF.THR_PROF_MIN", A.BUF_THR_PROF_MIN, .seat0, .whole, [fd F.BUF_THR_PROF_MIN_MIN_CELLS .rw .s]⟩,
    ⟨"BUF.THR_PROF_ALPHA", A.BUF_THR_PROF_ALPHA, .seat0, .whole, [fdNorm F.BUF_THR_PROF_ALPHA_ALPHA_K .rw .l alphaK, fd F.BUF_THR_PROF_ALPHA_BEST_EFFORT .rw .l]⟩,
    ⟨"BUF.ING_PROF_XOFF", A.BUF_ING_PROF_XOFF, .seat0, .whole, [fd F.BUF_ING_PROF_XOFF_XOFF .rw .l]⟩,
    ⟨"BUF.ING_PROF_XON", A.BUF_ING_PROF_XON, .seat0, .whole, [fd F.BUF_ING_PROF_XON_XON .rw .l]⟩,
    ⟨"BUF.ING_PROF_HEADROOM", A.BUF_ING_PROF_HEADROOM, .seat0, .whole, [fd F.BUF_ING_PROF_HEADROOM_HEADROOM .rw .s]⟩,
    ⟨"BUF.ING_PORT_CFG", A.BUF_ING_PORT_CFG, .port, .whole, [fd F.BUF_ING_PORT_CFG_MODE .rw .s, fd F.BUF_ING_PORT_CFG_PROFILE .rw .s, fd F.BUF_ING_PORT_CFG_PFC_EN .rw .s, fd F.BUF_ING_PORT_CFG_DEFAULT_PCP .rw .l]⟩,
    ⟨"BUF.ING_PORT_MAP", A.BUF_ING_PORT_MAP, .port, .whole, [fd F.BUF_ING_PORT_MAP_MAP .rw .l]⟩,
    ⟨"BUF.ING_PORT_FC", A.BUF_ING_PORT_FC, .port, .whole, [fd F.BUF_ING_PORT_FC_QUANTA .rw .l, fdNorm F.BUF_ING_PORT_FC_REFRESH_US .rw .l zeroOne]⟩,
    ⟨"BUF.ING_PORT_STATE", A.BUF_ING_PORT_STATE, .port, .whole, [fd F.BUF_ING_PORT_STATE_XOFF_STATE .ro .l]⟩,
    ⟨"BUF.DEEP_CTRL", A.BUF_DEEP_CTRL, .seat0, .whole, [fd F.BUF_DEEP_CTRL_ENABLE .rw .q, fdOk F.BUF_DEEP_CTRL_QUEUE .rw .q (within 0 8287)]⟩,
    ⟨"BUF.DEEP_SPILL_ON", A.BUF_DEEP_SPILL_ON, .seat0, .whole, [fd F.BUF_DEEP_SPILL_ON_SPILL_ON .rw .l]⟩,
    ⟨"BUF.DEEP_REFILL", A.BUF_DEEP_REFILL, .seat0, .whole, [fd F.BUF_DEEP_REFILL_REFILL .rw .l]⟩,
    ⟨"BUF.DEEP_QUOTA", A.BUF_DEEP_QUOTA, .seat0, .whole, [fd F.BUF_DEEP_QUOTA_QUOTA_GIB .rw .q]⟩,
    ⟨"BUF.DEEP_RM_BYTES_LO", A.BUF_DEEP_RM_BYTES_LO, .seat0, .lo, [fd F.BUF_DEEP_RM_BYTES_LO_VALUE .ro .l]⟩,
    ⟨"BUF.DEEP_RM_BYTES_HI", A.BUF_DEEP_RM_BYTES_HI, .seat0, .hi, [fd F.BUF_DEEP_RM_BYTES_HI_VALUE .ro .l]⟩,
    ⟨"BUF.DEEP_ONDIE", A.BUF_DEEP_ONDIE, .seat0, .whole, [fd F.BUF_DEEP_ONDIE_ONDIE_CELLS .ro .l]⟩,
    ⟨"BUF.FWD_PORT_CTRL", A.BUF_FWD_PORT_CTRL, .port, .whole, [fd F.BUF_FWD_PORT_CTRL_CT_EN .rw .s]⟩,
    ⟨"BUF.FWD_PORT_SAMPLE", A.BUF_FWD_PORT_SAMPLE, .port, .whole, [fd F.BUF_FWD_PORT_SAMPLE_SAMPLE_N .rw .l]⟩,
    ⟨"BUF.FWD_PORT_SAMPLE_DEST", A.BUF_FWD_PORT_SAMPLE_DEST, .port, .whole, [fd F.BUF_FWD_PORT_SAMPLE_DEST_SAMPLE_SEAT .rw .l, fd F.BUF_FWD_PORT_SAMPLE_DEST_SAMPLE_Q .rw .l]⟩,
    ⟨"BUF.FWD_PORT_FIFO", A.BUF_FWD_PORT_FIFO, .port, .whole, [fd F.BUF_FWD_PORT_FIFO_FRAMES .ro .l]⟩,
    ⟨"BUF.RECIRC_CTRL", A.BUF_RECIRC_CTRL, .seat0, .whole, [fd F.BUF_RECIRC_CTRL_MAX_PASSES .rw .l]⟩,
    ⟨"BUF.SEAT_RING_CTRL", A.BUF_SEAT_RING_CTRL, .ring, .whole, [fd F.BUF_SEAT_RING_CTRL_TX_EN .rw .l, fd F.BUF_SEAT_RING_CTRL_RX_EN .rw .l, fdOk F.BUF_SEAT_RING_CTRL_TX_LOG_SIZE .rw .q (within 6 14), fdOk F.BUF_SEAT_RING_CTRL_RX_LOG_SIZE .rw .q (within 6 14)]⟩,
    ⟨"BUF.SEAT_RING_TX_BASE_LO", A.BUF_SEAT_RING_TX_BASE_LO, .ring, .lo, [fd F.BUF_SEAT_RING_TX_BASE_LO_VALUE .rw .q]⟩,
    ⟨"BUF.SEAT_RING_TX_BASE_HI", A.BUF_SEAT_RING_TX_BASE_HI, .ring, .hi, [fd F.BUF_SEAT_RING_TX_BASE_HI_VALUE .rw .q]⟩,
    ⟨"BUF.SEAT_RING_TX_HEAD", A.BUF_SEAT_RING_TX_HEAD, .ring, .whole, [fd F.BUF_SEAT_RING_TX_HEAD_VALUE .ro .l]⟩,
    ⟨"BUF.SEAT_RING_TX_TAIL", A.BUF_SEAT_RING_TX_TAIL, .ring, .whole, [fd F.BUF_SEAT_RING_TX_TAIL_VALUE .rw .l]⟩,
    ⟨"BUF.SEAT_RING_RX_BASE_LO", A.BUF_SEAT_RING_RX_BASE_LO, .ring, .lo, [fd F.BUF_SEAT_RING_RX_BASE_LO_VALUE .rw .q]⟩,
    ⟨"BUF.SEAT_RING_RX_BASE_HI", A.BUF_SEAT_RING_RX_BASE_HI, .ring, .hi, [fd F.BUF_SEAT_RING_RX_BASE_HI_VALUE .rw .q]⟩,
    ⟨"BUF.SEAT_RING_RX_HEAD", A.BUF_SEAT_RING_RX_HEAD, .ring, .whole, [fd F.BUF_SEAT_RING_RX_HEAD_VALUE .ro .l]⟩,
    ⟨"BUF.SEAT_RING_RX_TAIL", A.BUF_SEAT_RING_RX_TAIL, .ring, .whole, [fd F.BUF_SEAT_RING_RX_TAIL_VALUE .rw .l]⟩,
    ⟨"BUF.SEAT_RING_RX_BUF_SIZE", A.BUF_SEAT_RING_RX_BUF_SIZE, .ring, .whole, [fdOk F.BUF_SEAT_RING_RX_BUF_SIZE_VALUE .rw .q (within 160 16384)]⟩,
    ⟨"BUF.Q_CFG", A.BUF_Q_CFG, .queue, .whole, [fd F.BUF_Q_CFG_PROFILE .rw .s]⟩ ]

/-- The register map of the block QSG, every register with its owner rule and its fields. -/
def regMapQSG : List RegD :=
  [ ⟨"QSG.SAMPLE_CTRL", A.QSG_SAMPLE_CTRL, .seat0, .whole, [fd F.QSG_SAMPLE_CTRL_PERIOD_US .rw .l]⟩,
    ⟨"QSG.INT_STATUS", A.QSG_INT_STATUS, .seat0, .whole, [fd F.QSG_INT_STATUS_GCL_CHANGE .w1c .l, fd F.QSG_INT_STATUS_GCL_REPLACED .w1c .l, fd F.QSG_INT_STATUS_GATE_OVERSIZE .w1c .l, fd F.QSG_INT_STATUS_GATE_OVERRUN .w1c .l, fd F.QSG_INT_STATUS_LAUNCH_DROP .w1c .l, fd F.QSG_INT_STATUS_STREAM_BLOCKED .w1c .l, fd F.QSG_INT_STATUS_MARK_ALL_RED .w1c .l, fd F.QSG_INT_STATUS_LIFETIME .w1c .l, fd F.QSG_INT_STATUS_FLUSH .w1c .l]⟩,
    ⟨"QSG.INT_ENABLE", A.QSG_INT_ENABLE, .seat0, .whole, [fd F.QSG_INT_ENABLE_VALUE .rw .l]⟩,
    ⟨"QSG.SCHED_PROF_CTRL", A.QSG_SCHED_PROF_CTRL, .seat0, .whole, [fd F.QSG_SCHED_PROF_CTRL_PRIO .rw .s, fdNorm F.QSG_SCHED_PROF_CTRL_WEIGHT .rw .s zeroOne, fdNorm F.QSG_SCHED_PROF_CTRL_LAUNCH_MODE .rw .s (asZero 3), fd F.QSG_SCHED_PROF_CTRL_LT_PROTECT .rw .s]⟩,
    ⟨"QSG.SCHED_PROF_LIFETIME", A.QSG_SCHED_PROF_LIFETIME, .seat0, .whole, [fd F.QSG_SCHED_PROF_LIFETIME_LIFETIME_US .rw .l]⟩,
    ⟨"QSG.SCHED_PROF_LT_OFFSET", A.QSG_SCHED_PROF_LT_OFFSET, .seat0, .whole, [fd F.QSG_SCHED_PROF_LT_OFFSET_LT_OFFSET_NS .rw .s]⟩,
    ⟨"QSG.SCHED_PROF_LT_LATE", A.QSG_SCHED_PROF_LT_LATE, .seat0, .whole, [fd F.QSG_SCHED_PROF_LT_LATE_LT_LATE_NS .rw .l]⟩,
    ⟨"QSG.SCHED_PROF_LT_HORIZON", A.QSG_SCHED_PROF_LT_HORIZON, .seat0, .whole, [fdNorm F.QSG_SCHED_PROF_LT_HORIZON_LT_HORIZON_US .rw .l zeroOne]⟩,
    ⟨"QSG.SHAPER_CTRL", A.QSG_SHAPER_CTRL, .seat0, .whole, [fdNorm F.QSG_SHAPER_CTRL_MODE .rw .s (asZero 3)]⟩,
    ⟨"QSG.SHAPER_RATE", A.QSG_SHAPER_RATE, .seat0, .whole, [fdNorm F.QSG_SHAPER_RATE_RATE_KBPS .rw .s (atMost 1600000000)]⟩,
    ⟨"QSG.SHAPER_BURST", A.QSG_SHAPER_BURST, .seat0, .whole, [fd F.QSG_SHAPER_BURST_BURST_BYTES .rw .s]⟩,
    ⟨"QSG.SHAPER_CREDIT", A.QSG_SHAPER_CREDIT, .seat0, .whole, [fd F.QSG_SHAPER_CREDIT_CREDIT_BYTES .ro .l]⟩,
    ⟨"QSG.Q_SCHED", A.QSG_Q_SCHED, .queue, .whole, [fd F.QSG_Q_SCHED_PROFILE .rw .s, fd F.QSG_Q_SCHED_SHAPER .rw .s, fd F.QSG_Q_SCHED_SHAPER_EN .rw .s]⟩,
    ⟨"QSG.PORT_CTRL", A.QSG_PORT_CTRL, .port, .whole, [fdFix (fd F.QSG_PORT_CTRL_RX_PAUSE_EN .rw .l) (fun p => p ≥ 512), fdFix (fd F.QSG_PORT_CTRL_RX_PFC_EN .rw .l) (fun p => p ≥ 512), fdFix (fd F.QSG_PORT_CTRL_GATE_EN .rw .s) (fun p => p ≥ 512), fdFix (fdNorm F.QSG_PORT_CTRL_FLAP_HOLD_US .rw .l (atMost 1000)) (fun p => p ≥ 512), fd F.QSG_PORT_CTRL_SAMPLE_EN .rw .l, fd F.QSG_PORT_CTRL_PSHAPER_EN .rw .s, fd F.QSG_PORT_CTRL_PSHAPER .rw .s]⟩,
    ⟨"QSG.QMAP", A.QSG_QMAP, .port, .whole, [fd F.QSG_QMAP_MAP .rw .s]⟩,
    ⟨"QSG.PFC_QMAP_LO", A.QSG_PFC_QMAP_LO, .port, .whole, [fd F.QSG_PFC_QMAP_LO_MAP .rw .l]⟩,
    ⟨"QSG.PFC_QMAP_HI", A.QSG_PFC_QMAP_HI, .port, .whole, [fd F.QSG_PFC_QMAP_HI_MAP .rw .l]⟩,
    ⟨"QSG.GCL_CTRL", A.QSG_GCL_CTRL, .port, .whole, [fdFix (fd F.QSG_GCL_CTRL_ADMIN_SCHED .rw .s) (fun p => p ≥ 512)]⟩,
    ⟨"QSG.GCL_STATUS", A.QSG_GCL_STATUS, .port, .whole, [fd F.QSG_GCL_STATUS_OPER_SCHED .ro .l, fd F.QSG_GCL_STATUS_OPER_VALID .ro .l, fd F.QSG_GCL_STATUS_PENDING .ro .l, fd F.QSG_GCL_STATUS_ENTRY .ro .l]⟩,
    ⟨"QSG.PAUSE_STATUS", A.QSG_PAUSE_STATUS, .port, .whole, [fd F.QSG_PAUSE_STATUS_PFC_PAUSED .ro .l, fd F.QSG_PAUSE_STATUS_PAUSED .ro .l]⟩ ]

/-- The register map of the block CLR, every register with its owner rule and its fields. -/
def regMapCLR : List RegD :=
  [ ⟨"CLR.INT_STATUS", A.CLR_INT_STATUS, .seat0, .whole, [fd F.CLR_INT_STATUS_LATE .w1c .l, fd F.CLR_INT_STATUS_HOLD_FULL .w1c .l, fd F.CLR_INT_STATUS_TOO_LATE .w1c .l]⟩,
    ⟨"CLR.INT_ENABLE", A.CLR_INT_ENABLE, .seat0, .whole, [fd F.CLR_INT_ENABLE_VALUE .rw .l]⟩,
    ⟨"CLR.LAST_LATE", A.CLR_LAST_LATE, .seat0, .whole, [fd F.CLR_LAST_LATE_PORT .ro .l, fd F.CLR_LAST_LATE_PROFILE .ro .l, fd F.CLR_LAST_LATE_VALID .w1c .l]⟩,
    ⟨"CLR.LAST_LATE_FINE", A.CLR_LAST_LATE_FINE, .seat0, .whole, [fd F.CLR_LAST_LATE_FINE_LATENESS .ro .l]⟩,
    ⟨"CLR.LAST_LATE_TICK_LO", A.CLR_LAST_LATE_TICK_LO, .seat0, .lo, [fd F.CLR_LAST_LATE_TICK_LO_VALUE .ro .l]⟩,
    ⟨"CLR.LAST_LATE_TICK_HI", A.CLR_LAST_LATE_TICK_HI, .seat0, .hi, [fd F.CLR_LAST_LATE_TICK_HI_VALUE .ro .l]⟩,
    ⟨"CLR.PROF_CTRL", A.CLR_PROF_CTRL, .seat0, .whole, [fd F.CLR_PROF_CTRL_ENABLE .rw .s, fd F.CLR_PROF_CTRL_KIND .rw .s]⟩,
    ⟨"CLR.PROF_L", A.CLR_PROF_L, .seat0, .whole, [fdOk F.CLR_PROF_L_L_NS .rw .s (within 0 1000000)]⟩,
    ⟨"CLR.PROF_LATE_MAX", A.CLR_PROF_LATE_MAX, .seat0, .whole, [fd F.CLR_PROF_LATE_MAX_LATE_MAX_NS .rw .l]⟩,
    ⟨"CLR.PROF_NEED", A.CLR_PROF_NEED, .seat0, .whole, [fd F.CLR_PROF_NEED_MAX_NEED_NS .rc .l]⟩,
    ⟨"CLR.PROF_HELD", A.CLR_PROF_HELD, .seat0, .whole, [fd F.CLR_PROF_HELD_COPIES .ro .l]⟩,
    ⟨"CLR.GRP_STATUS", A.CLR_GRP_STATUS, .seat0, .whole, [fd F.CLR_GRP_STATUS_FREE .ro .l, fd F.CLR_GRP_STATUS_LOW .rc .l]⟩,
    ⟨"CLR.PORT_CABLE", A.CLR_PORT_CABLE, .port, .whole, [fd F.CLR_PORT_CABLE_CABLE_OFS .rw .s]⟩,
    ⟨"CLR.PORT_HOLD_MAX", A.CLR_PORT_HOLD_MAX, .port, .whole, [fd F.CLR_PORT_HOLD_MAX_SLOTS .rw .l]⟩,
    ⟨"CLR.PORT_HOLD_STATUS", A.CLR_PORT_HOLD_STATUS, .port, .whole, [fd F.CLR_PORT_HOLD_STATUS_HELD .ro .l, fd F.CLR_PORT_HOLD_STATUS_HWM .rc .l]⟩ ]

/-- The register map of the block MSQ, every register with its owner rule and its fields. -/
def regMapMSQ : List RegD :=
  [ ⟨"MSQ.STATUS", A.MSQ_STATUS, .seat0, .whole, [fd F.MSQ_STATUS_POOL_FREE .ro .l]⟩,
    ⟨"MSQ.INT_STATUS", A.MSQ_INT_STATUS, .seat0, .whole, [fd F.MSQ_INT_STATUS_LATE .w1c .l, fd F.MSQ_INT_STATUS_SEQ_FULL .w1c .l, fd F.MSQ_INT_STATUS_EARLY_RELEASE .w1c .l, fd F.MSQ_INT_STATUS_W_CLAMPED .w1c .l]⟩,
    ⟨"MSQ.INT_ENABLE", A.MSQ_INT_ENABLE, .seat0, .whole, [fd F.MSQ_INT_ENABLE_VALUE .rw .l]⟩,
    ⟨"MSQ.LAST_LATE", A.MSQ_LAST_LATE, .seat0, .whole, [fd F.MSQ_LAST_LATE_INSTANCE .ro .l, fd F.MSQ_LAST_LATE_PORT .ro .l, fd F.MSQ_LAST_LATE_VALID .w1c .l]⟩,
    ⟨"MSQ.LAST_LATE_SUB", A.MSQ_LAST_LATE_SUB, .seat0, .whole, [fd F.MSQ_LAST_LATE_SUB_LATENESS .ro .l]⟩,
    ⟨"MSQ.LAST_LATE_TICK_LO", A.MSQ_LAST_LATE_TICK_LO, .seat0, .lo, [fd F.MSQ_LAST_LATE_TICK_LO_VALUE .ro .l]⟩,
    ⟨"MSQ.LAST_LATE_TICK_HI", A.MSQ_LAST_LATE_TICK_HI, .seat0, .hi, [fd F.MSQ_LAST_LATE_TICK_HI_VALUE .ro .l]⟩,
    ⟨"MSQ.INST_CTRL", A.MSQ_INST_CTRL, .seat0, .whole, [fd F.MSQ_INST_CTRL_ENABLE .rw .s, fd F.MSQ_INST_CTRL_SEQ_EN .rw .s, fd F.MSQ_INST_CTRL_TRAILER .rw .s, fd F.MSQ_INST_CTRL_FULL_POLICY .rw .l, fd F.MSQ_INST_CTRL_EGRESS .rw .q]⟩,
    ⟨"MSQ.INST_WINDOW", A.MSQ_INST_WINDOW, .seat0, .whole, [fdOk F.MSQ_INST_WINDOW_W_NS .rw .s (within 50 20000)]⟩,
    ⟨"MSQ.INST_STORE", A.MSQ_INST_STORE, .seat0, .whole, [fdNorm F.MSQ_INST_STORE_STORE_MAX .rw .l (clampN 1 65536)]⟩,
    ⟨"MSQ.SEQ_NEXT_LO", A.MSQ_SEQ_NEXT_LO, .seat0, .lo, [fd F.MSQ_SEQ_NEXT_LO_VALUE .rw .q]⟩,
    ⟨"MSQ.SEQ_NEXT_HI", A.MSQ_SEQ_NEXT_HI, .seat0, .hi, [fd F.MSQ_SEQ_NEXT_HI_VALUE .rw .q]⟩,
    ⟨"MSQ.LAST_RAW_LO", A.MSQ_LAST_RAW_LO, .seat0, .lo, [fd F.MSQ_LAST_RAW_LO_TICK .ro .l]⟩,
    ⟨"MSQ.LAST_RAW_HI", A.MSQ_LAST_RAW_HI, .seat0, .hi, [fd F.MSQ_LAST_RAW_HI_TICK .ro .l]⟩,
    ⟨"MSQ.LAST_SUB", A.MSQ_LAST_SUB, .seat0, .whole, [fd F.MSQ_LAST_SUB_SUB .ro .l, fd F.MSQ_LAST_SUB_VALID .ro .l]⟩,
    ⟨"MSQ.INST_STATUS", A.MSQ_INST_STATUS, .seat0, .whole, [fd F.MSQ_INST_STATUS_HELD .ro .l, fd F.MSQ_INST_STATUS_PTR .ro .l]⟩,
    ⟨"MSQ.AGE", A.MSQ_AGE, .seat0, .whole, [fd F.MSQ_AGE_MAX_AGE_NS .rc .l]⟩,
    ⟨"MSQ.HWM", A.MSQ_HWM, .seat0, .whole, [fd F.MSQ_HWM_HELD_MAX .rc .l]⟩,
    ⟨"MSQ.MEMBER", A.MSQ_MEMBER, .seat0, .whole, [fd F.MSQ_MEMBER_PORTS .rw .s]⟩ ]

/-- The register map of the block TRP, every register with its owner rule and its fields. -/
def regMapTRP : List RegD :=
  [ ⟨"TRP.CTRL", A.TRP_CTRL, .seat0, .whole, [fd F.TRP_CTRL_ENABLE .rw .l, fd F.TRP_CTRL_MEMBER_ID .rw .q, fd F.TRP_CTRL_LEAD_PRIO .rw .l, fd F.TRP_CTRL_QUEUE .rw .l]⟩,
    ⟨"TRP.TROUPE_ID", A.TRP_TROUPE_ID, .seat0, .whole, [fd F.TRP_TROUPE_ID_VALUE .rw .q]⟩,
    ⟨"TRP.STATUS", A.TRP_STATUS, .seat0, .whole, [fd F.TRP_STATUS_STATE .ro .l, fd F.TRP_STATUS_LEAD_ID .ro .l, fd F.TRP_STATUS_LIVE .ro .l]⟩,
    ⟨"TRP.TIMING", A.TRP_TIMING, .seat0, .whole, [fdNorm F.TRP_TIMING_HELLO_US .rw .l (clampN 10 1000), fdNorm F.TRP_TIMING_LOSS_COUNT .rw .l zeroOne, fdNorm F.TRP_TIMING_LIFT_LEAD_US .rw .l (clampN 100 10000)]⟩,
    ⟨"TRP.LIFT", A.TRP_LIFT, .seat0, .whole, [fd F.TRP_LIFT_LIFT_NS .ro .l]⟩,
    ⟨"TRP.LIFT_SEQ", A.TRP_LIFT_SEQ, .seat0, .whole, [fd F.TRP_LIFT_SEQ_VALUE .ro .l]⟩,
    ⟨"TRP.LIFT_CFG", A.TRP_LIFT_CFG, .seat0, .whole, [fd F.TRP_LIFT_CFG_MARGIN_NS .rw .l, fd F.TRP_LIFT_CFG_UNLIFT_PHASES .rw .l, fd F.TRP_LIFT_CFG_UNLIFT .wo .l]⟩,
    ⟨"TRP.SHARE_MASK", A.TRP_SHARE_MASK, .seat0, .whole, [fd F.TRP_SHARE_MASK_PROFILES .rw .l]⟩,
    ⟨"TRP.INT_STATUS", A.TRP_INT_STATUS, .seat0, .whole, [fd F.TRP_INT_STATUS_LEAD_CHANGE .w1c .l, fd F.TRP_INT_STATUS_MEMBER_LOST .w1c .l, fd F.TRP_INT_STATUS_ID_CLASH .w1c .l, fd F.TRP_INT_STATUS_LIFT_APPLIED .w1c .l, fd F.TRP_INT_STATUS_LIFT_LATE .w1c .l, fd F.TRP_INT_STATUS_L_CLAMPED .w1c .l, fd F.TRP_INT_STATUS_BUDGET_SHORT .w1c .l, fd F.TRP_INT_STATUS_BASE_REFUSED .w1c .l]⟩,
    ⟨"TRP.BUDGET", A.TRP_BUDGET, .seat0, .whole, [fd F.TRP_BUDGET_BUDGET_W .rw .l, fdNorm F.TRP_BUDGET_PERIOD_MS .rw .l zeroOne]⟩,
    ⟨"TRP.POWER", A.TRP_POWER, .seat0, .whole, [fd F.TRP_POWER_GRANT_MIN_W .rw .l, fd F.TRP_POWER_SOLO_W .rw .l]⟩,
    ⟨"TRP.GRANT", A.TRP_GRANT, .seat0, .whole, [fd F.TRP_GRANT_GRANT_W .ro .l, fd F.TRP_GRANT_CRITICAL .ro .l]⟩,
    ⟨"TRP.SRC_MAC_LO", A.TRP_SRC_MAC_LO, .seat0, .lo, [fd F.TRP_SRC_MAC_LO_VALUE .rw .q]⟩,
    ⟨"TRP.SRC_MAC_HI", A.TRP_SRC_MAC_HI, .seat0, .hi, [fd F.TRP_SRC_MAC_HI_VALUE .rw .q]⟩,
    ⟨"TRP.INT_ENABLE", A.TRP_INT_ENABLE, .seat0, .whole, [fd F.TRP_INT_ENABLE_VALUE .rw .l]⟩,
    ⟨"TRP.LINK", A.TRP_LINK, .seat0, .whole, [fdOk F.TRP_LINK_PORT .rw .l (within 0 511), fd F.TRP_LINK_VALID .rw .l]⟩,
    ⟨"TRP.BASE", A.TRP_BASE, .seat0, .whole, [fdOk F.TRP_BASE_BASE_L_NS .rw .s (within 0 1000000)]⟩,
    ⟨"TRP.PEER", A.TRP_PEER, .seat0, .whole, [fd F.TRP_PEER_LIVE .ro .l, fd F.TRP_PEER_CRITICAL .ro .l, fd F.TRP_PEER_ACKED .ro .l, fd F.TRP_PEER_GRANT_W .ro .l]⟩,
    ⟨"TRP.WBASE", A.TRP_WBASE, .seat0, .whole, [fdOk F.TRP_WBASE_BASE_W_NS .rw .s (within 50 20000)]⟩ ]

/-- The register map of the block EVR, every register with its owner rule and its fields. -/
def regMapEVR : List RegD :=
  [ ⟨"EVR.STATUS", A.EVR_STATUS, .seat0, .whole, [fd F.EVR_STATUS_READY .ro .l, fd F.EVR_STATUS_AGGREGATING .ro .l, fd F.EVR_STATUS_GAP_OPEN .ro .l, fd F.EVR_STATUS_SIGNERS .ro .l]⟩,
    ⟨"EVR.INT_STATUS", A.EVR_INT_STATUS, .seat0, .whole, [fd F.EVR_INT_STATUS_GAP .w1c .l, fd F.EVR_INT_STATUS_AGG_ON .w1c .l, fd F.EVR_INT_STATUS_SIGN_BACKLOG .w1c .l, fd F.EVR_INT_STATUS_SIGNER_FAULT .w1c .l, fd F.EVR_INT_STATUS_EXPORT_DONE .w1c .l, fd F.EVR_INT_STATUS_RING_LOST .w1c .l]⟩,
    ⟨"EVR.CTRL", A.EVR_CTRL, .seat0, .whole, [fdAt (fd F.EVR_CTRL_SEAT_EN .rw .l) fun _ v => v ||| 1]⟩,
    ⟨"EVR.STAGING", A.EVR_STAGING, .seat0, .whole, [fd F.EVR_STAGING_USED_KIB .ro .l, fd F.EVR_STAGING_HWM_KIB .rc .l]⟩,
    ⟨"EVR.STAGING_CFG", A.EVR_STAGING_CFG, .seat0, .whole, [fdOk F.EVR_STAGING_CFG_AGG_ON_PCT .rw .l (within 10 95), fdOk F.EVR_STAGING_CFG_AGG_OFF_PCT .rw .l (within 5 90)]⟩,
    ⟨"EVR.RING", A.EVR_RING, .seat0, .whole, [fdOk F.EVR_RING_NEXT_GIB .rw .l (within 16 112), fd F.EVR_RING_GIB .ro .l, fd F.EVR_RING_PIN_LIMIT_GIB .rw .l]⟩,
    ⟨"EVR.PINNED", A.EVR_PINNED, .seat0, .whole, [fd F.EVR_PINNED_MIB .ro .l]⟩,
    ⟨"EVR.CAP", A.EVR_CAP, .seat0, .whole, [fd F.EVR_CAP_POWER_CAP .ro .l, fd F.EVR_CAP_CAP_EFF .ro .l]⟩,
    ⟨"EVR.SIGN_STATUS", A.EVR_SIGN_STATUS, .seat0, .whole, [fd F.EVR_SIGN_STATUS_BACKLOG .ro .l, fd F.EVR_SIGN_STATUS_CORES_OK .ro .l]⟩,
    ⟨"EVR.EXPORT_CTRL", A.EVR_EXPORT_CTRL, .seat0, .whole, [fd F.EVR_EXPORT_CTRL_PORT .rw .l, fd F.EVR_EXPORT_CTRL_QUEUE .rw .l, fdNorm F.EVR_EXPORT_CTRL_RATE_GBPS .rw .l (clampN 1 400), fdNorm F.EVR_EXPORT_CTRL_CHUNK_KIB .rw .l (clampN 1 8)]⟩,
    ⟨"EVR.EXPORT_STATUS", A.EVR_EXPORT_STATUS, .seat0, .whole, [fd F.EVR_EXPORT_STATUS_BUSY .ro .l, fd F.EVR_EXPORT_STATUS_EXPORT_ID .ro .l]⟩,
    ⟨"EVR.INT_ENABLE", A.EVR_INT_ENABLE, .seat0, .whole, [fd F.EVR_INT_ENABLE_VALUE .rw .l]⟩,
    ⟨"EVR.CHAIN_ID_LO", A.EVR_CHAIN_ID_LO, .seat0, .lo, [fd F.EVR_CHAIN_ID_LO_VALUE .ro .l]⟩,
    ⟨"EVR.CHAIN_ID_HI", A.EVR_CHAIN_ID_HI, .seat0, .hi, [fd F.EVR_CHAIN_ID_HI_VALUE .ro .l]⟩,
    ⟨"EVR.OPEN_NO_LO", A.EVR_OPEN_NO_LO, .seat0, .lo, [fd F.EVR_OPEN_NO_LO_VALUE .ro .l]⟩,
    ⟨"EVR.OPEN_NO_HI", A.EVR_OPEN_NO_HI, .seat0, .hi, [fd F.EVR_OPEN_NO_HI_VALUE .ro .l]⟩,
    ⟨"EVR.SIGNED_NO_LO", A.EVR_SIGNED_NO_LO, .seat0, .lo, [fd F.EVR_SIGNED_NO_LO_VALUE .ro .l]⟩,
    ⟨"EVR.SIGNED_NO_HI", A.EVR_SIGNED_NO_HI, .seat0, .hi, [fd F.EVR_SIGNED_NO_HI_VALUE .ro .l]⟩,
    ⟨"EVR.OLDEST_NO_LO", A.EVR_OLDEST_NO_LO, .seat0, .lo, [fd F.EVR_OLDEST_NO_LO_VALUE .ro .l]⟩,
    ⟨"EVR.OLDEST_NO_HI", A.EVR_OLDEST_NO_HI, .seat0, .hi, [fd F.EVR_OLDEST_NO_HI_VALUE .ro .l]⟩,
    ⟨"EVR.EXPORT_IP_SRC", A.EVR_EXPORT_IP_SRC, .seat0, .whole, [fd F.EVR_EXPORT_IP_SRC_VALUE .rw .l]⟩,
    ⟨"EVR.EXPORT_IP_DST", A.EVR_EXPORT_IP_DST, .seat0, .whole, [fd F.EVR_EXPORT_IP_DST_VALUE .rw .l]⟩,
    ⟨"EVR.EXPORT_UDP", A.EVR_EXPORT_UDP, .seat0, .whole, [fd F.EVR_EXPORT_UDP_SRC .rw .l, fd F.EVR_EXPORT_UDP_DST .rw .l]⟩,
    ⟨"EVR.EXPORT_MAC_SRC_LO", A.EVR_EXPORT_MAC_SRC_LO, .seat0, .lo, [fd F.EVR_EXPORT_MAC_SRC_LO_VALUE .rw .l]⟩,
    ⟨"EVR.EXPORT_MAC_SRC_HI", A.EVR_EXPORT_MAC_SRC_HI, .seat0, .hi, [fd F.EVR_EXPORT_MAC_SRC_HI_VALUE .rw .l]⟩,
    ⟨"EVR.EXPORT_MAC_DST_LO", A.EVR_EXPORT_MAC_DST_LO, .seat0, .lo, [fd F.EVR_EXPORT_MAC_DST_LO_VALUE .rw .l]⟩,
    ⟨"EVR.EXPORT_MAC_DST_HI", A.EVR_EXPORT_MAC_DST_HI, .seat0, .hi, [fd F.EVR_EXPORT_MAC_DST_HI_VALUE .rw .l]⟩,
    ⟨"EVR.PHASE_POL", A.EVR_PHASE_POL, .seat0, .whole, [fd F.EVR_PHASE_POL_SEL_EN .rw .s, fdNorm F.EVR_PHASE_POL_CAP .rw .s (atMost 12000)]⟩,
    ⟨"EVR.SEL", A.EVR_SEL, .seat0, .whole, [fdNorm F.EVR_SEL_MODE .rw .s (asZero 3), fd F.EVR_SEL_HEAD_128 .rw .s, fd F.EVR_SEL_ONE_PER_FRAME .rw .s]⟩ ]

/-- The register map of the block MEM, every register with its owner rule and its fields. -/
def regMapMEM : List RegD :=
  [ ⟨"MEM.STATUS", A.MEM_STATUS, .seat0, .whole, [fd F.MEM_STATUS_STATE .ro .l, fd F.MEM_STATUS_TRAINED .ro .l, fd F.MEM_STATUS_USER_GIB .ro .l]⟩,
    ⟨"MEM.INT_STATUS", A.MEM_INT_STATUS, .seat0, .whole, [fd F.MEM_INT_STATUS_CH_FAIL .w1c .l, fd F.MEM_INT_STATUS_REBUILT .w1c .l, fd F.MEM_INT_STATUS_LOST .w1c .l, fd F.MEM_INT_STATUS_HOT .w1c .l, fd F.MEM_INT_STATUS_FORCED .w1c .l]⟩,
    ⟨"MEM.REFRESH_CFG", A.MEM_REFRESH_CFG, .seat0, .whole, [fdNorm F.MEM_REFRESH_CFG_TREFI_NS .rw .l (clampN 1000 3900), fdNorm F.MEM_REFRESH_CFG_NR_K .rw .l nrK]⟩,
    ⟨"MEM.SR_CTRL", A.MEM_SR_CTRL, .seat0, .whole, [fd F.MEM_SR_CTRL_PHASES .rw .l, fdNorm F.MEM_SR_CTRL_SR_IDLE_US .rw .l zeroOne]⟩,
    ⟨"MEM.SR_BATCH", A.MEM_SR_BATCH, .seat0, .whole, [fdNorm F.MEM_SR_BATCH_BATCH_US .rw .l (atMost 10000), fdNorm F.MEM_SR_BATCH_BATCH_KIB .rw .l (clampN 64 8192)]⟩,
    ⟨"MEM.SCRUB_CTRL", A.MEM_SCRUB_CTRL, .seat0, .whole, [fdNorm F.MEM_SCRUB_CTRL_PERIOD_H .rw .l zeroOne, fd F.MEM_SCRUB_CTRL_ENABLE .rw .l]⟩,
    ⟨"MEM.FAIL_CFG", A.MEM_FAIL_CFG, .seat0, .whole, [fd F.MEM_FAIL_CFG_UE_LIMIT .rw .l]⟩,
    ⟨"MEM.INT_ENABLE", A.MEM_INT_ENABLE, .seat0, .whole, [fd F.MEM_INT_ENABLE_VALUE .rw .l]⟩,
    ⟨"MEM.LOST_ADDR_LO", A.MEM_LOST_ADDR_LO, .seat0, .lo, [fd F.MEM_LOST_ADDR_LO_VALUE .ro .l]⟩,
    ⟨"MEM.LOST_ADDR_HI", A.MEM_LOST_ADDR_HI, .seat0, .hi, [fd F.MEM_LOST_ADDR_HI_VALUE .ro .l, fd F.MEM_LOST_ADDR_HI_VALID .w1c .l]⟩,
    ⟨"MEM.STACK_STATUS", A.MEM_STACK_STATUS, .seat0, .whole, [fd F.MEM_STACK_STATUS_TEMP_C .ro .l, fd F.MEM_STACK_STATUS_HOT .ro .l, fd F.MEM_STACK_STATUS_SR_STATE .ro .l]⟩,
    ⟨"MEM.STACK_QUEUE", A.MEM_STACK_QUEUE, .seat0, .whole, [fd F.MEM_STACK_QUEUE_DEPTH .ro .l, fd F.MEM_STACK_QUEUE_HWM .rc .l]⟩,
    ⟨"MEM.CH_CTRL", A.MEM_CH_CTRL, .seat0, .whole, [fd F.MEM_CH_CTRL_FORCE_FAIL .wo .l, fd F.MEM_CH_CTRL_RETRY .wo .l]⟩,
    ⟨"MEM.CH_STATUS", A.MEM_CH_STATUS, .seat0, .whole, [fd F.MEM_CH_STATUS_STATE .ro .l, fd F.MEM_CH_STATUS_DEBT .ro .l, fd F.MEM_CH_STATUS_LANES_REPAIRED .ro .l]⟩,
    ⟨"MEM.CH_REBUILD", A.MEM_CH_REBUILD, .seat0, .whole, [fd F.MEM_CH_REBUILD_REBUILD_ROW .ro .l]⟩ ]

/-- The register map of the block LAN, every register with its owner rule and its fields. -/
def regMapLAN : List RegD :=
  [ ⟨"LAN.GRP_STATUS", A.LAN_GRP_STATUS, .seat0, .whole, [fd F.LAN_GRP_STATUS_REF_OK .ro .l, fd F.LAN_GRP_STATUS_PLL_LOCK .ro .l, fd F.LAN_GRP_STATUS_ACTIVE_PORTS .ro .l]⟩,
    ⟨"LAN.GRP_INT_STATUS", A.LAN_GRP_INT_STATUS, .seat0, .whole, [fd F.LAN_GRP_INT_STATUS_LINK_UP .w1c .l, fd F.LAN_GRP_INT_STATUS_LINK_DOWN .w1c .l, fd F.LAN_GRP_INT_STATUS_ROLLBACK .w1c .l, fd F.LAN_GRP_INT_STATUS_PPM_ALARM .w1c .l, fd F.LAN_GRP_INT_STATUS_REF_LOST .w1c .l, fd F.LAN_GRP_INT_STATUS_BRINGUP_FAIL .w1c .l]⟩,
    ⟨"LAN.LOCK_CFG", A.LAN_LOCK_CFG, .seat0, .whole, [fdNorm F.LAN_LOCK_CFG_LOCK_GOOD .rw .l zeroOne, fdNorm F.LAN_LOCK_CFG_LOCK_BAD .rw .l zeroOne]⟩,
    ⟨"LAN.TIMER0", A.LAN_TIMER0, .seat0, .whole, [fdNorm F.LAN_TIMER0_TRAIN_MS .rw .l zeroOne, fdNorm F.LAN_TIMER0_LOCK_MS .rw .l zeroOne]⟩,
    ⟨"LAN.TIMER1", A.LAN_TIMER1, .seat0, .whole, [fdNorm F.LAN_TIMER1_STABLE_US .rw .l zeroOne, fdNorm F.LAN_TIMER1_QUICK_US .rw .l zeroOne]⟩,
    ⟨"LAN.FOM_CFG", A.LAN_FOM_CFG, .seat0, .whole, [fd F.LAN_FOM_CFG_FOM_MIN .rw .l, fd F.LAN_FOM_CFG_SNAP_MARGIN .rw .l, fdNorm F.LAN_FOM_CFG_ROLLBACK_N .rw .l zeroOne]⟩,
    ⟨"LAN.GRP_INT_ENABLE", A.LAN_GRP_INT_ENABLE, .seat0, .whole, [fd F.LAN_GRP_INT_ENABLE_VALUE .rw .l]⟩,
    ⟨"LAN.PORT_CTRL", A.LAN_PORT_CTRL, .port, .whole, [fd F.LAN_PORT_CTRL_START .rw .l, fd F.LAN_PORT_CTRL_EI_EN .rw .l, fd F.LAN_PORT_CTRL_QUICK_EN .rw .l, fd F.LAN_PORT_CTRL_HISER_DOWN .rw .l, fd F.LAN_PORT_CTRL_FORCE_RETRAIN .wo .l]⟩,
    ⟨"LAN.PORT_CFG", A.LAN_PORT_CFG, .port, .whole, [fd F.LAN_PORT_CFG_MODE .rw .q, fdOk F.LAN_PORT_CFG_REACH .rw .q (within 0 2), fdNorm F.LAN_PORT_CFG_PRECODE .rw .q (asZero 3), fd F.LAN_PORT_CFG_EN .rw .q]⟩,
    ⟨"LAN.PORT_STATUS", A.LAN_PORT_STATUS, .port, .whole, [fd F.LAN_PORT_STATUS_STATE .ro .l, fd F.LAN_PORT_STATUS_LAST_DOWN .ro .l, fd F.LAN_PORT_STATUS_TX_EI .ro .l, fd F.LAN_PORT_STATUS_RX_EI .ro .l, fd F.LAN_PORT_STATUS_QUICK .ro .l, fd F.LAN_PORT_STATUS_PPM_ALARM .ro .l, fd F.LAN_PORT_STATUS_PCS0_LANE .ro .l, fd F.LAN_PORT_STATUS_PPM .ro .l]⟩,
    ⟨"LAN.PORT_EI", A.LAN_PORT_EI, .port, .whole, [fdNorm F.LAN_PORT_EI_IDLE_US .rw .l zeroOne]⟩,
    ⟨"LAN.LANE_CTRL", A.LAN_LANE_CTRL, .lane, .whole, [fd F.LAN_LANE_CTRL_POL_AUTO .rw .l, fd F.LAN_LANE_CTRL_RX_INVERT .rw .l, fd F.LAN_LANE_CTRL_TX_INVERT .rw .q, fd F.LAN_LANE_CTRL_ADAPT_EN .rw .l, fd F.LAN_LANE_CTRL_SNAPSHOT .wo .l, fd F.LAN_LANE_CTRL_ROLLBACK .wo .l]⟩,
    ⟨"LAN.LANE_STATUS", A.LAN_LANE_STATUS, .lane, .whole, [fd F.LAN_LANE_STATUS_SIGNAL .ro .l, fd F.LAN_LANE_STATUS_BIT_LOCK .ro .l, fd F.LAN_LANE_STATUS_BLOCK_LOCK .ro .l, fd F.LAN_LANE_STATUS_RX_INVERTED .ro .l, fd F.LAN_LANE_STATUS_POWER .ro .l, fd F.LAN_LANE_STATUS_FOM_LOW .ro .l, fd F.LAN_LANE_STATUS_PRECODE_RX .ro .l, fd F.LAN_LANE_STATUS_PRECODE_TX .ro .l]⟩,
    ⟨"LAN.LANE_FOM", A.LAN_LANE_FOM, .lane, .whole, [fd F.LAN_LANE_FOM_VALUE .ro .l, fd F.LAN_LANE_FOM_MIN_SEEN .rc .l]⟩,
    ⟨"LAN.LANE_SNAP", A.LAN_LANE_SNAP, .lane, .whole, [fd F.LAN_LANE_SNAP_SNAP_FOM .ro .l, fd F.LAN_LANE_SNAP_SNAP_AGE_S .ro .l]⟩,
    ⟨"LAN.LANE_TX_COEF", A.LAN_LANE_TX_COEF, .lane, .whole, [fd F.LAN_LANE_TX_COEF_C_M2 .rw .q, fd F.LAN_LANE_TX_COEF_C_M1 .rw .q, fd F.LAN_LANE_TX_COEF_C_0 .rw .q, fd F.LAN_LANE_TX_COEF_C_P1 .rw .q]⟩ ]

/-- The register map of the block MAC, every register with its owner rule and its fields. -/
def regMapMAC : List RegD :=
  [ ⟨"MAC.TPID", A.MAC_TPID, .seat0, .whole, [fd F.MAC_TPID_VALUE .rw .s, fd F.MAC_TPID_EN .rw .s]⟩,
    ⟨"MAC.INT_STATUS", A.MAC_INT_STATUS, .seat0, .whole, [fd F.MAC_INT_STATUS_MGMT_LINK .w1c .l, fd F.MAC_INT_STATUS_MGMT_BAD_MODE .w1c .l, fd F.MAC_INT_STATUS_MDIO_NOACK .w1c .l]⟩,
    ⟨"MAC.INT_ENABLE", A.MAC_INT_ENABLE, .seat0, .whole, [fd F.MAC_INT_ENABLE_VALUE .rw .l]⟩,
    ⟨"MAC.MGMT_CFG", A.MAC_MGMT_CFG, .seat0, .whole, [fd F.MAC_MGMT_CFG_EN .rw .l, fd F.MAC_MGMT_CFG_IF .rw .q, fd F.MAC_MGMT_CFG_AUTO .rw .q, fdOk F.MAC_MGMT_CFG_SPEED .rw .q (within 0 2), fd F.MAC_MGMT_CFG_DUPLEX .rw .q, fd F.MAC_MGMT_CFG_RGMII_DELAY .rw .q]⟩,
    ⟨"MAC.MGMT_STATUS", A.MAC_MGMT_STATUS, .seat0, .whole, [fd F.MAC_MGMT_STATUS_LINK .ro .l, fd F.MAC_MGMT_STATUS_SPEED .ro .l, fd F.MAC_MGMT_STATUS_DUPLEX .ro .l]⟩,
    ⟨"MAC.MDIO_CTRL", A.MAC_MDIO_CTRL, .seat0, .whole, [fd F.MAC_MDIO_CTRL_PHY_ADDR .rw .l, fd F.MAC_MDIO_CTRL_REG .rw .l, fd F.MAC_MDIO_CTRL_OP .rw .l, fd F.MAC_MDIO_CTRL_GO .wo .l, fd F.MAC_MDIO_CTRL_BUSY .ro .l]⟩,
    ⟨"MAC.MDIO_DATA", A.MAC_MDIO_DATA, .seat0, .whole, [fd F.MAC_MDIO_DATA_VALUE .rw .l]⟩,
    ⟨"MAC.PORT_CFG", A.MAC_PORT_CFG, .port, .whole, [fdNorm F.MAC_PORT_CFG_MAX_LEN .rw .l (atLeast 64), fdNorm F.MAC_PORT_CFG_ACCEPT .rw .s (asZero 3)]⟩,
    ⟨"MAC.PORT_VLAN", A.MAC_PORT_VLAN, .port, .whole, [fd F.MAC_PORT_VLAN_DEFAULT_VID .rw .s, fd F.MAC_PORT_VLAN_UNTAG_NATIVE .rw .s, fd F.MAC_PORT_VLAN_PUSH_TPID .rw .s]⟩,
    ⟨"MAC.PORT_SA_LO", A.MAC_PORT_SA_LO, .port, .lo, [fd F.MAC_PORT_SA_LO_VALUE .rw .l]⟩,
    ⟨"MAC.PORT_SA_HI", A.MAC_PORT_SA_HI, .port, .hi, [fd F.MAC_PORT_SA_HI_VALUE .rw .l]⟩ ]

/-- The register map of the block CHK, every register with its owner rule and its fields. -/
def regMapCHK : List RegD :=
  [ ⟨"CHK.INT_STATUS", A.CHK_INT_STATUS, .seat0, .whole, [fd F.CHK_INT_STATUS_DONE .w1c .l, fd F.CHK_INT_STATUS_CHECK_FAIL .w1c .l]⟩,
    ⟨"CHK.INT_ENABLE", A.CHK_INT_ENABLE, .seat0, .whole, [fd F.CHK_INT_ENABLE_VALUE .rw .l]⟩,
    ⟨"CHK.CTRL", A.CHK_CTRL, .engine, .whole, [fd F.CHK_CTRL_ALG .rw .l, fdNorm F.CHK_CTRL_MODE .rw .l (asZero 3), fd F.CHK_CTRL_BYTE_ORDER .rw .l, fd F.CHK_CTRL_RESUME .rw .l, fd F.CHK_CTRL_START .wo .l, fd F.CHK_CTRL_ABORT .wo .l]⟩,
    ⟨"CHK.LEN", A.CHK_LEN, .engine, .whole, [fdOk F.CHK_LEN_BYTES .rw .l (within 1 4096)]⟩,
    ⟨"CHK.DATA", A.CHK_DATA, .engine, .whole, [fd F.CHK_DATA_WORD .wo .l]⟩,
    ⟨"CHK.OUT", A.CHK_OUT, .engine, .whole, [fd F.CHK_OUT_WORD .rc .l]⟩,
    ⟨"CHK.STATUS", A.CHK_STATUS, .engine, .whole, [fd F.CHK_STATUS_ACTIVE .ro .l, fd F.CHK_STATUS_DONE .ro .l, fd F.CHK_STATUS_CHECK_OK .ro .l, fd F.CHK_STATUS_CHECK_FAIL .ro .l, fd F.CHK_STATUS_WAIT_BUF .ro .l, fd F.CHK_STATUS_FED .ro .l]⟩,
    ⟨"CHK.VALUE_LO", A.CHK_VALUE_LO, .engine, .lo, [fd F.CHK_VALUE_LO_VALUE .rw .l]⟩,
    ⟨"CHK.VALUE_HI", A.CHK_VALUE_HI, .engine, .hi, [fd F.CHK_VALUE_HI_VALUE .rw .l]⟩,
    ⟨"CHK.RESULT_LO", A.CHK_RESULT_LO, .engine, .lo, [fd F.CHK_RESULT_LO_VALUE .ro .l]⟩,
    ⟨"CHK.RESULT_HI", A.CHK_RESULT_HI, .engine, .hi, [fd F.CHK_RESULT_HI_VALUE .ro .l]⟩,
    ⟨"CHK.OWNER", A.CHK_OWNER, .seat0, .whole, [fd F.CHK_OWNER_SEAT .rw .l, fd F.CHK_OWNER_DRAFEN .ro .l]⟩,
    ⟨"CHK.OUT_LEFT", A.CHK_OUT_LEFT, .engine, .whole, [fd F.CHK_OUT_LEFT_BYTES .ro .l]⟩ ]

/-- The register map of the block CMD, every register with its owner rule and its fields. -/
def regMapCMD : List RegD :=
  [ ⟨"CMD.INT_STATUS", A.CMD_INT_STATUS, .seat0, .whole, [fd F.CMD_INT_STATUS_TAKEOVER .w1c .l, fd F.CMD_INT_STATUS_STANDBY_LOST .w1c .l, fd F.CMD_INT_STATUS_UCODE_FAULT .w1c .l, fd F.CMD_INT_STATUS_STORE_CE .w1c .l, fd F.CMD_INT_STATUS_PROTECTED .w1c .l]⟩,
    ⟨"CMD.IMAGE_STATUS", A.CMD_IMAGE_STATUS, .seat0, .whole, [fd F.CMD_IMAGE_STATUS_VERSION .ro .l, fd F.CMD_IMAGE_STATUS_OWNER_SIGNED .ro .l]⟩,
    ⟨"CMD.ROUTINE", A.CMD_ROUTINE, .seat0, .whole, [fd F.CMD_ROUTINE_START .ro .l, fd F.CMD_ROUTINE_LEVEL .ro .l, fd F.CMD_ROUTINE_PAST_COMMIT .ro .l, fd F.CMD_ROUTINE_ABANDONS .ro .l]⟩,
    ⟨"CMD.LAST_FAULT", A.CMD_LAST_FAULT, .seat0, .whole, [fd F.CMD_LAST_FAULT_ADDR .ro .l, fd F.CMD_LAST_FAULT_CAUSE .ro .l, fd F.CMD_LAST_FAULT_VALID .w1c .l]⟩,
    ⟨"CMD.STORE_SEL", A.CMD_STORE_SEL, .seat0, .whole, [fd F.CMD_STORE_SEL_INDEX .rw .l, fd F.CMD_STORE_SEL_STORE .rw .l, fdOk F.CMD_STORE_SEL_PART .rw .l (within 0 5), fd F.CMD_STORE_SEL_CORE .rw .l]⟩,
    ⟨"CMD.STORE_DATA", A.CMD_STORE_DATA, .seat0, .whole, [fd F.CMD_STORE_DATA_VALUE .ro .l]⟩,
    ⟨"CMD.CORE_STATUS", A.CMD_CORE_STATUS, .seat0, .whole, [fd F.CMD_CORE_STATUS_ACTIVE_CORE .ro .l, fd F.CMD_CORE_STATUS_READY .ro .l, fd F.CMD_CORE_STATUS_CORE0 .ro .l, fd F.CMD_CORE_STATUS_CORE1 .ro .l]⟩,
    ⟨"CMD.CORE_CTRL", A.CMD_CORE_CTRL, .seat0, .whole, [fd F.CMD_CORE_CTRL_REJOIN0 .wo .l, fd F.CMD_CORE_CTRL_REJOIN1 .wo .l, fd F.CMD_CORE_CTRL_SWAP .wo .l, fd F.CMD_CORE_CTRL_RELOAD .rw .l]⟩,
    ⟨"CMD.INT_ENABLE", A.CMD_INT_ENABLE, .seat0, .whole, [fd F.CMD_INT_ENABLE_VALUE .rw .l]⟩,
    ⟨"CMD.TAKEOVER_TICK_LO", A.CMD_TAKEOVER_TICK_LO, .seat0, .lo, [fd F.CMD_TAKEOVER_TICK_LO_VALUE .ro .l]⟩,
    ⟨"CMD.TAKEOVER_TICK_HI", A.CMD_TAKEOVER_TICK_HI, .seat0, .hi, [fd F.CMD_TAKEOVER_TICK_HI_VALUE .ro .l]⟩,
    ⟨"CMD.SEAT_CTRL", A.CMD_SEAT_CTRL, .seat0, .whole, [fd F.CMD_SEAT_CTRL_FLUSH .wo .l, fd F.CMD_SEAT_CTRL_INBAND_EN .rw .s, fdFix (fd F.CMD_SEAT_CTRL_KEYED_EN .rw .s) (fun s => s == 0)]⟩,
    ⟨"CMD.SEAT_STATUS", A.CMD_SEAT_STATUS, .seatStatus, .whole, [fd F.CMD_SEAT_STATUS_LINK_UP .ro .l, fd F.CMD_SEAT_STATUS_FRAMING .w1c .l, fd F.CMD_SEAT_STATUS_OVERFLOW .w1c .l, fd F.CMD_SEAT_STATUS_UNDERFLOW .w1c .l, fd F.CMD_SEAT_STATUS_RESET_SEEN .w1c .l]⟩,
    ⟨"CMD.SEAT_FIFO", A.CMD_SEAT_FIFO, .seat0, .whole, [fd F.CMD_SEAT_FIFO_CMD_SPACE .ro .l, fd F.CMD_SEAT_FIFO_REPLY_WORDS .ro .l]⟩,
    ⟨"CMD.SEAT_TAGS", A.CMD_SEAT_TAGS, .seat0, .whole, [fd F.CMD_SEAT_TAGS_TAG_QUOTA .rw .l, fd F.CMD_SEAT_TAGS_IN_FLIGHT .ro .l]⟩,
    ⟨"CMD.SEAT_TXN", A.CMD_SEAT_TXN, .seat0, .whole, [fd F.CMD_SEAT_TXN_OPEN .ro .l]⟩,
    ⟨"CMD.SEAT_INT_GRANT", A.CMD_SEAT_INT_GRANT, .seat0, .whole, [fd F.CMD_SEAT_INT_GRANT_UNITS .rw .l]⟩,
    ⟨"CMD.SEAT_PORTS", A.CMD_SEAT_PORTS, .seat0, .whole, [fdAt (fdFix (fd F.CMD_SEAT_PORTS_PORTS .rw .s) (fun n => n < 17)) seatPortsNorm]⟩,
    ⟨"CMD.SEAT_INBAND", A.CMD_SEAT_INBAND, .seat0, .whole, [fd F.CMD_SEAT_INBAND_PORTS .rw .s]⟩,
    ⟨"CMD.SEAT_CNT_PERM", A.CMD_SEAT_CNT_PERM, .seat0, .whole, [fdFix (fd F.CMD_SEAT_CNT_PERM_GROUPS .rw .s) (fun s => s == 0)]⟩,
    ⟨"CMD.TXN_CFG", A.CMD_TXN_CFG, .seat0, .whole, [fdNorm F.CMD_TXN_CFG_PREP_US .rw .l zeroOne, fd F.CMD_TXN_CFG_IDLE_S .rw .l]⟩,
    ⟨"CMD.TXN_STATUS", A.CMD_TXN_STATUS, .seat0, .whole, [fd F.CMD_TXN_STATUS_OPEN .ro .l, fd F.CMD_TXN_STATUS_NEXT_ID .ro .l]⟩,
    ⟨"CMD.INBAND_MAC_LO", A.CMD_INBAND_MAC_LO, .seat0, .lo, [fd F.CMD_INBAND_MAC_LO_VALUE .rw .l]⟩,
    ⟨"CMD.INBAND_MAC_HI", A.CMD_INBAND_MAC_HI, .seat0, .hi, [fd F.CMD_INBAND_MAC_HI_VALUE .rw .l]⟩,
    ⟨"CMD.INBAND_CFG", A.CMD_INBAND_CFG, .seat0, .whole, [fd F.CMD_INBAND_CFG_QUEUE .rw .l]⟩,
    ⟨"CMD.REGION_BASE", A.CMD_REGION_BASE, .seat0, .whole, [fd F.CMD_REGION_BASE_INDEX .rw .s]⟩,
    ⟨"CMD.REGION_LIMIT", A.CMD_REGION_LIMIT, .seat0, .whole, [fdFix (fd F.CMD_REGION_LIMIT_INDEX .rw .s) (fun n => n < 8)]⟩ ]

/-- The register map of the block FLT, every register with its owner rule and its fields. -/
def regMapFLT : List RegD :=
  [ ⟨"FLT.CTRL", A.FLT_CTRL, .seat0, .whole, [fd F.FLT_CTRL_FAULT_N_FIRST .rw .l, fd F.FLT_CTRL_ALERT_LEVEL .rw .l]⟩,
    ⟨"FLT.STATUS", A.FLT_STATUS, .seat0, .whole, [fd F.FLT_STATUS_A_OK .ro .l, fd F.FLT_STATUS_B_OK .ro .l, fd F.FLT_STATUS_FAULT_N .ro .l, fd F.FLT_STATUS_ALERT_N .ro .l, fd F.FLT_STATUS_FROZEN .ro .l, fd F.FLT_STATUS_FIRST_SRC .ro .l]⟩,
    ⟨"FLT.FSW_LO", A.FLT_FSW_LO, .seat0, .lo, [fd F.FLT_FSW_LO_VALUE .ro .l]⟩,
    ⟨"FLT.FSW_HI", A.FLT_FSW_HI, .seat0, .hi, [fd F.FLT_FSW_HI_VALUE .ro .l]⟩,
    ⟨"FLT.INT_STATUS", A.FLT_INT_STATUS, .seat0, .whole, [fd F.FLT_INT_STATUS_NEW_FAULT .w1c .l, fd F.FLT_INT_STATUS_ESCALATION .w1c .l, fd F.FLT_INT_STATUS_FAULT_N .w1c .l, fd F.FLT_INT_STATUS_TAKEOVER .w1c .l]⟩,
    ⟨"FLT.INT_ENABLE", A.FLT_INT_ENABLE, .seat0, .whole, [fd F.FLT_INT_ENABLE_VALUE .rw .l]⟩,
    ⟨"FLT.ALERT_MASK_LO", A.FLT_ALERT_MASK_LO, .seat0, .lo, [fd F.FLT_ALERT_MASK_LO_SOURCES .rw .l]⟩,
    ⟨"FLT.ALERT_MASK_HI", A.FLT_ALERT_MASK_HI, .seat0, .hi, [fd F.FLT_ALERT_MASK_HI_SOURCES .rw .l]⟩,
    ⟨"FLT.FREEZE_CTRL", A.FLT_FREEZE_CTRL, .seat0, .whole, [fd F.FLT_FREEZE_CTRL_FREEZE_LEVEL .rw .l, fd F.FLT_FREEZE_CTRL_RELEASE .wo .l]⟩,
    ⟨"FLT.HIST_SEL", A.FLT_HIST_SEL, .seat0, .whole, [fd F.FLT_HIST_SEL_INDEX .rw .l, fd F.FLT_HIST_SEL_FROZEN .rw .l]⟩,
    ⟨"FLT.PIPE_STATUS", A.FLT_PIPE_STATUS, .seat0, .whole, [fd F.FLT_PIPE_STATUS_SPARE_FOR .ro .l, fd F.FLT_PIPE_STATUS_SPARE_OK .ro .l, fd F.FLT_PIPE_STATUS_REPLAYING .ro .l, fd F.FLT_PIPE_STATUS_GIVE_BACK_READY .ro .l, fd F.FLT_PIPE_STATUS_RETIRED .ro .l]⟩,
    ⟨"FLT.PIPE_CTRL", A.FLT_PIPE_CTRL, .seat0, .whole, [fd F.FLT_PIPE_CTRL_AUTO_GIVE_BACK .rw .l, fd F.FLT_PIPE_CTRL_GIVE_BACK .wo .l, fd F.FLT_PIPE_CTRL_FORCE_PIPE .rw .l, fd F.FLT_PIPE_CTRL_FORCE .wo .l]⟩,
    ⟨"FLT.HIST_TICK_LO", A.FLT_HIST_TICK_LO, .seat0, .lo, [fd F.FLT_HIST_TICK_LO_TICK .ro .l]⟩,
    ⟨"FLT.HIST_TICK_HI", A.FLT_HIST_TICK_HI, .seat0, .hi, [fd F.FLT_HIST_TICK_HI_TICK .ro .l]⟩,
    ⟨"FLT.HIST_INFO", A.FLT_HIST_INFO, .seat0, .whole, [fd F.FLT_HIST_INFO_SRC .ro .l, fd F.FLT_HIST_INFO_LEVEL .ro .l, fd F.FLT_HIST_INFO_VALID .ro .l, fd F.FLT_HIST_INFO_CAUSE .ro .l, fd F.FLT_HIST_INFO_INSTANCE .ro .l, fd F.FLT_HIST_INFO_ESCALATED .ro .l, fd F.FLT_HIST_INFO_FIRST .ro .l, fd F.FLT_HIST_INFO_ACK .ro .l, fd F.FLT_HIST_INFO_FAULT_N .ro .l]⟩,
    ⟨"FLT.HIST_VALUE_LO", A.FLT_HIST_VALUE_LO, .seat0, .lo, [fd F.FLT_HIST_VALUE_LO_VALUE .ro .l]⟩,
    ⟨"FLT.HIST_VALUE_HI", A.FLT_HIST_VALUE_HI, .seat0, .hi, [fd F.FLT_HIST_VALUE_HI_VALUE .ro .l]⟩,
    ⟨"FLT.SRC_STATUS", A.FLT_SRC_STATUS, .seat0, .whole, [fd F.FLT_SRC_STATUS_LEVEL .ro .l, fd F.FLT_SRC_STATUS_LATCHED .ro .l, fd F.FLT_SRC_STATUS_COUNT .ro .l, fd F.FLT_SRC_STATUS_LAST_CAUSE .ro .l]⟩,
    ⟨"FLT.SRC_CTRL", A.FLT_SRC_CTRL, .seat0, .whole, [fd F.FLT_SRC_CTRL_NOTE_AUTO_ACK .rw .l]⟩ ]

/-- The register map of the block PWR, every register with its owner rule and its fields. -/
def regMapPWR : List RegD :=
  [ ⟨"PWR.STATUS", A.PWR_STATUS, .seat0, .whole, [fd F.PWR_STATUS_STEP .ro .l, fd F.PWR_STATUS_CORE_MHZ .ro .l, fd F.PWR_STATUS_WARN .ro .l, fd F.PWR_STATUS_WAIT_LIFT .ro .l, fd F.PWR_STATUS_EMERGENCY .ro .l, fd F.PWR_STATUS_DIVERGED .ro .l]⟩,
    ⟨"PWR.CTRL", A.PWR_CTRL, .seat0, .whole, [fdNorm F.PWR_CTRL_PKG_LIMIT_W .rw .l (clampN 300 1000), fdNorm F.PWR_CTRL_WINDOW_US .rw .l (clampN 10 1000), fd F.PWR_CTRL_MODEL_RESUME .wo .l]⟩,
    ⟨"PWR.MARGIN", A.PWR_MARGIN, .seat0, .whole, [fd F.PWR_MARGIN_MARGIN_W .rw .l, fd F.PWR_MARGIN_DIV_MARGIN_W .rw .l, fd F.PWR_MARGIN_HYST_W .rw .l]⟩,
    ⟨"PWR.TIMING", A.PWR_TIMING, .seat0, .whole, [fdNorm F.PWR_TIMING_RESTORE_MS .rw .l zeroOne]⟩,
    ⟨"PWR.STEP1", A.PWR_STEP1, .seat0, .whole, [fd F.PWR_STEP1_BE_GBPS .rw .l]⟩,
    ⟨"PWR.STEP2", A.PWR_STEP2, .seat0, .whole, [fdNorm F.PWR_STEP2_EVR_CAP .rw .l (atMost 12000)]⟩,
    ⟨"PWR.STEP4", A.PWR_STEP4, .seat0, .whole, [fdNorm F.PWR_STEP4_MIN_MHZ .rw .l clockAbove]⟩,
    ⟨"PWR.INT_STATUS", A.PWR_INT_STATUS, .seat0, .whole, [fd F.PWR_INT_STATUS_STEP_CHANGE .w1c .l, fd F.PWR_INT_STATUS_CLOCK_CHANGE .w1c .l, fd F.PWR_INT_STATUS_EMERGENCY .w1c .l, fd F.PWR_INT_STATUS_DIVERGED .w1c .l, fd F.PWR_INT_STATUS_WARN .w1c .l, fd F.PWR_INT_STATUS_THROTTLE .w1c .l]⟩,
    ⟨"PWR.INT_ENABLE", A.PWR_INT_ENABLE, .seat0, .whole, [fd F.PWR_INT_ENABLE_VALUE .rw .l]⟩,
    ⟨"PWR.MEAS", A.PWR_MEAS, .seat0, .whole, [fd F.PWR_MEAS_MEAS_W .ro .l, fd F.PWR_MEAS_EST_W .ro .l]⟩,
    ⟨"PWR.DEMAND", A.PWR_DEMAND, .seat0, .whole, [fd F.PWR_DEMAND_DEMAND_W .ro .l, fd F.PWR_DEMAND_LIMIT_EFF_W .ro .l]⟩,
    ⟨"PWR.THERM_CFG", A.PWR_THERM_CFG, .seat0, .whole, [fd F.PWR_THERM_CFG_WARN_C .rw .l, fdNorm F.PWR_THERM_CFG_THROTTLE_C .rw .l (atMost 120), fd F.PWR_THERM_CFG_STACK_THROTTLE_C .rw .l]⟩,
    ⟨"PWR.THERM_STATUS", A.PWR_THERM_STATUS, .seat0, .whole, [fd F.PWR_THERM_STATUS_TJ_MAX .ro .l, fd F.PWR_THERM_STATUS_MAX_SENSOR .ro .l, fd F.PWR_THERM_STATUS_EXCLUDED .ro .l]⟩,
    ⟨"PWR.PHASE_OP", A.PWR_PHASE_OP, .seat0, .whole, [fd F.PWR_PHASE_OP_OP .rw .s]⟩,
    ⟨"PWR.OP", A.PWR_OP, .seat0, .whole, [fd F.PWR_OP_LIMIT_W .rw .s, fd F.PWR_OP_FLOOR_STEP .rw .s]⟩,
    ⟨"PWR.RAIL_STATUS", A.PWR_RAIL_STATUS, .seat0, .whole, [fd F.PWR_RAIL_STATUS_MV .ro .l, fd F.PWR_RAIL_STATUS_AMPS_X4 .ro .l]⟩,
    ⟨"PWR.RAIL_CFG", A.PWR_RAIL_CFG, .seat0, .whole, [fd F.PWR_RAIL_CFG_PMBUS_ADDR .rw .l, fd F.PWR_RAIL_CFG_GAIN_ADJ .ro .l]⟩,
    ⟨"PWR.TEMP", A.PWR_TEMP, .seat0, .whole, [fd F.PWR_TEMP_TEMP_C .ro .l, fd F.PWR_TEMP_VALID .ro .l]⟩ ]

/-- The register map of the block IDN, every register with its owner rule and its fields. -/
def regMapIDN : List RegD :=
  [ ⟨"IDN.STATUS", A.IDN_STATUS, .seat0, .whole, [fd F.IDN_STATUS_EVK_READY .ro .l, fd F.IDN_STATUS_ROTATING .ro .l, fd F.IDN_STATUS_OWNER_EN .ro .l, fd F.IDN_STATUS_RNG_OK .ro .l, fd F.IDN_STATUS_ROLLBACK .ro .l, fd F.IDN_STATUS_IMAGE_FAIL .ro .l]⟩,
    ⟨"IDN.INT_STATUS", A.IDN_INT_STATUS, .seat0, .whole, [fd F.IDN_INT_STATUS_ROTATED .w1c .l, fd F.IDN_INT_STATUS_RNG_FAIL .w1c .l]⟩,
    ⟨"IDN.INT_ENABLE", A.IDN_INT_ENABLE, .seat0, .whole, [fd F.IDN_INT_ENABLE_VALUE .rw .l]⟩,
    ⟨"IDN.EVK_CTRL", A.IDN_EVK_CTRL, .seat0, .whole, [fd F.IDN_EVK_CTRL_ROTATE .wo .l]⟩,
    ⟨"IDN.FUSE_CTRL", A.IDN_FUSE_CTRL, .seat0, .whole, [fd F.IDN_FUSE_CTRL_OP .wo .l, fd F.IDN_FUSE_CTRL_BUSY .ro .l]⟩,
    ⟨"IDN.CERT_SEL", A.IDN_CERT_SEL, .seat0, .whole, [fd F.IDN_CERT_SEL_CERT .rw .l, fd F.IDN_CERT_SEL_LENGTH .ro .l]⟩,
    ⟨"IDN.CERT_DATA", A.IDN_CERT_DATA, .seat0, .whole, [fd F.IDN_CERT_DATA_WORD .ro .l]⟩,
    ⟨"IDN.UID", A.IDN_UID, .seat0, .whole, [fd F.IDN_UID_VALUE .ro .l]⟩,
    ⟨"IDN.KEY_ID_LO", A.IDN_KEY_ID_LO, .seat0, .lo, [fd F.IDN_KEY_ID_LO_VALUE .ro .l]⟩,
    ⟨"IDN.KEY_ID_HI", A.IDN_KEY_ID_HI, .seat0, .hi, [fd F.IDN_KEY_ID_HI_VALUE .ro .l]⟩,
    ⟨"IDN.IMAGE_DIGEST", A.IDN_IMAGE_DIGEST, .seat0, .whole, [fd F.IDN_IMAGE_DIGEST_VALUE .ro .l]⟩,
    ⟨"IDN.CFG_DIGEST", A.IDN_CFG_DIGEST, .seat0, .whole, [fd F.IDN_CFG_DIGEST_VALUE .ro .l]⟩ ]

/-- The register map of the block CNT, every register with its owner rule and its fields. -/
def regMapCNT : List RegD :=
  [ ⟨"CNT.SNAP_CTRL", A.CNT_SNAP_CTRL, .group, .whole, [fd F.CNT_SNAP_CTRL_TAKE .wo .l, fd F.CNT_SNAP_CTRL_DONE .ro .l, fd F.CNT_SNAP_CTRL_COUNT_M1 .rw .l]⟩,
    ⟨"CNT.SNAP_BASE", A.CNT_SNAP_BASE, .group, .whole, [fd F.CNT_SNAP_BASE_BASE .rw .l]⟩,
    ⟨"CNT.SNAP_TICK_LO", A.CNT_SNAP_TICK_LO, .group, .lo, [fd F.CNT_SNAP_TICK_LO_VALUE .ro .l]⟩,
    ⟨"CNT.SNAP_TICK_HI", A.CNT_SNAP_TICK_HI, .group, .hi, [fd F.CNT_SNAP_TICK_HI_VALUE .ro .l]⟩,
    ⟨"CNT.SNAP_DATA_LO", A.CNT_SNAP_DATA_LO, .group, .lo, [fd F.CNT_SNAP_DATA_LO_VALUE .ro .l]⟩,
    ⟨"CNT.SNAP_DATA_HI", A.CNT_SNAP_DATA_HI, .group, .hi, [fd F.CNT_SNAP_DATA_HI_VALUE .ro .l]⟩ ]

/-- Every register of the part (R13), block by block. -/
def regMap : List RegD :=
  regMapSYS ++ regMapTIM ++ regMapSYN ++ regMapTSU ++ regMapPRS ++ regMapCLS ++ regMapTBL ++ regMapBUF ++ regMapQSG ++ regMapCLR ++ regMapMSQ ++ regMapTRP ++ regMapEVR ++ regMapMEM ++ regMapLAN ++ regMapMAC ++ regMapCHK ++ regMapCMD ++ regMapFLT ++ regMapPWR ++ regMapIDN ++ regMapCNT

end Sys2Proof.Machine
end

