-- ==== Sys2Proof/Machine/State.lean ====
section
/-! DEFINITION. The state of the part as plain data: every register of the map, and what each chapter of the spec gives
its unit beside the registers. -/

namespace Sys2Proof.Machine

/-- A sparse store: pairs of key and value, keys strictly rising, no entry equal to what an unlisted key reads as. -/
abbrev SMap := List (Nat × Nat)

/-- The status codes of R440. -/
inductive Status
  | ok | busy | badOpcode | badAddress | notOwner | timePast | txnConflict | quiesceRequired | tableFull | crcError
  | rolledBack | lateApplied | notPermitted | tagsExhausted
deriving DecidableEq, Repr

/-- The three counters of the voter, in the bit order of R47: A is bit 0, B bit 1, C bit 2. -/
structure Voter where
  /-- The counters A, B and C (R15, R17). -/
  a : DWord := 0
  b : DWord := 0
  c : DWord := 0
  /-- Load at the next boundary: counters to be reloaded with Canopy + 1, as a mask (R17, R19, R20). -/
  reload : Nat := 0
  /-- Ticks of the disagreements of each counter inside the last second (R18), newest first. -/
  oddA : List Nat := []
  oddB : List Nat := []
  oddC : List Nat := []
  /-- Ticks of agreement of a rejoining counter so far (R20). -/
  agreeA : Nat := 0
  agreeB : Nat := 0
  agreeC : Nat := 0
deriving DecidableEq, Repr

/-- One parameter set of the time view with the tick it took effect (R22, R56). Offset is held in units of 2⁻¹⁶ ns. -/
structure ViewParams where
  since : Nat := 0
  offset : Nat := 0
  anchor : Nat := 0
  rate : Int := 0
  epoch : Nat := 0
deriving DecidableEq, Repr

/-- A step armed by GO or requested by the servo (R28, R86): the tick it was armed in, whether it is relative, the
amount in units of 2⁻¹⁶ ns, whether the servo asked for it, and whether it is the first setting of time (R87). -/
structure ArmedStep where
  tick : Nat
  relative : Bool
  amount : Int
  servo : Bool
  first : Bool
deriving DecidableEq, Repr

/-- The time base (chapter 1). -/
structure Tim where
  /-- The voted Canopy, as of the current tick (R15). -/
  canopy : Nat := 0
  voter : Voter := {}
  /-- The parameters in force, newest first, and the sets before them: the TSUs hold 8 (R56). -/
  params : List ViewParams := [{}]
  /-- Rate armed for the next boundary and the tick it was written in (R24, R44). -/
  armedRate : Option (Nat × Int) := none
  /-- Step armed for the next boundary (R28). -/
  armedStep : Option ArmedStep := none
  /-- Step the servo has requested for the next boundary (R86, R87). -/
  servoStep : Option ArmedStep := none
  /-- Tick of each follower's last good comparison (R21). -/
  followerGood : List Nat := [0,0,0,0,0,0,0,0,0,0,0,0,0,0,0,0]
  /-- Followers reloaded at the next boundary, as a mask (R21). -/
  followerReload : Nat := 0
  /-- The tick in which seat s wrote TAKE, while the snapshot is not yet captured (R39). -/
  snapReq : List (Option Nat) := [none, none, none, none]
  /-- The TPLL keeps its last control word while it has no lock (R42). -/
  tpllHeld : Bool := false
  /-- HOLDOVER of a stamp as it stood since each tick, newest first, over the 2,048 ticks in which stamps are formed (R56, R64). -/
  holds : List (Nat × Bool) := []
  /-- Tick of the latest epoch change: at most one falls in a tick (R26). -/
  epochTick : Option Nat := none
deriving DecidableEq, Repr

/-- An event on an error line, held until the Collector takes it (R476). -/
structure FaultEvent where
  src : Nat
  cause : Nat
  sev : Nat
  inst : Nat
  val : Nat
deriving DecidableEq, Repr

/-- One entry of the history queue (R482). -/
structure HistEntry where
  tick : Nat
  src : Nat
  level : Nat
  escalated : Bool
  first : Bool
  ack : Bool
  faultN : Bool
  cause : Nat
  inst : Nat
  val : Nat
deriving DecidableEq, Repr

/-- The latch of one class: source, cause, level (R480). -/
structure Latch where
  src : Nat
  cause : Nat
  level : Nat
deriving DecidableEq, Repr

/-- The state one copy of the Fault Collector computes (R486). -/
structure Collector where
  latches : List Latch := []
  /-- Live history, newest first, at most 32 (R482). -/
  live : List HistEntry := []
  /-- Frozen copy (R483). -/
  frozen : Option (List HistEntry) := none
  /-- Sources that assert FAULT_N and are not acknowledged (R485). -/
  asserting : List Nat := []
  /-- Classes raised at NOTE that are acknowledged at the next boundary (R480): source, cause, tick raised. -/
  autoAck : List (Nat × Nat × Nat) := []
deriving DecidableEq, Repr

/-- A FAULT_ACK executed and not yet taken at a boundary (R484): source, the packet, tick executed. -/
structure AckPending where
  src : Nat
  packet : Packet
  tick : Nat
deriving DecidableEq, Repr

/-- How a working pipeline or its group stands (R490 to R494). -/
inductive PipeState
  /-- Serves its own group. -/
  | serving
  /-- Failed; pipeline 16 serves, or is taking over, its group. -/
  | failed
  /-- Stricken: nothing serves the group (R494). -/
  | down
deriving DecidableEq, Repr

/-- The Fault Collector and the pipelines' redundancy (chapter 18). -/
structure Flt where
  /-- Events held on the error lines (R476), oldest first. -/
  held : List FaultEvent := []
  main : Collector := {}
  acks : List AckPending := []
  /-- Tick in which the faults were last taken, and whether one of that tick has been entered (R481). -/
  takenTick : Option Nat := none
  /-- State of working pipelines 0 to 15. -/
  pipes : List PipeState := List.replicate 16 .serving
  /-- Group whose take-over by pipeline 16 is under way or done, with the tick F (R490). -/
  takeOver : Option (Nat × Nat) := none
  /-- Egress half and slots taken over (R490 steps 2 and 3). -/
  egressTaken : Bool := false
  slotsTaken : Bool := false
  /-- Stopped pipelines that have passed their self-test (R493). -/
  ready : List Nat := []
  /-- The pipeline whose copies are rewritten until the switch (R493). -/
  givingBack : Option Nat := none
deriving DecidableEq, Repr

/-- A record on its way to or inside a block (R316). The body is what follows the 16-byte header. -/
structure Record where
  kind : Nat
  flags : Nat
  unit : Nat
  inst : Nat
  sub : Nat
  epoch : Nat
  tick : Nat
  body : Bytes
  /-- A FATE 0 frame record chosen by a selector: optional (R318). -/
  optional : Bool
  /-- For a frame record with FATE DROPPED: ingress port and reason (R332). -/
  drop : Option (Nat × Nat)
  /-- Tick in which it was handed to its tap (R319). -/
  handed : Nat
deriving DecidableEq, Repr

/-- A loss that its GAP record has not yet covered (R334): cause, first and last tick, counts. -/
structure Gap where
  cause : Nat
  first : Nat
  last : Nat
  frames : Nat
  other : Nat
  bytes : Nat
  d0 : Nat
  d1 : Nat
deriving DecidableEq, Repr

/-- An open window of aggregation for one ingress port and reason (R332). -/
structure AggWindow where
  ingPort : Nat
  reason : Nat
  window : Nat
  count : Nat
  minTick : Nat
  minSub : Nat
  maxTick : Nat
  maxSub : Nat
deriving DecidableEq, Repr

/-- The open block (R338). -/
structure OpenBlock where
  no : Nat
  firstRec : Nat
  openTick : Nat
  records : List Record
  genesis : Bool
  afterReset : Bool
  aggregating : Bool
  phase : Nat
  /-- The view at its opening boundary, as an R64 record, and the 17 words of its capture policy (R339). -/
  openView : Nat
  policy : List Nat
deriving DecidableEq, Repr

/-- A sealed block in the directory (R339, R346). -/
structure SealedBlock where
  no : Nat
  openTick : Nat
  sealTick : Nat
  header : Bytes
  body : Bytes
  trailer : Option Bytes
  /-- Place in the ring and padded length, bytes (R339, R345). -/
  place : Nat
  length : Nat
  pinned : Bool
  lost : Bool
  /-- Which evidence key signs it: number of rotations before its seal (R342). -/
  keyGen : Nat
deriving DecidableEq, Repr

/-- A running export (R350): next block and offset, last and first block, bytes left (none: all), what was sent, the tick
from which the rate allows the next frame (R352), and the command that it answers. -/
structure ExportRun where
  block : Nat
  offset : Nat
  last : Nat
  first : Nat
  limit : Option Nat
  sentBlocks : Nat
  sentBytes : Nat
  nextAt : Nat
  packet : Packet
deriving DecidableEq, Repr

/-- The Evidence Recorder (chapter 12). -/
structure Evr where
  /-- Records waiting at their taps, in the order handed (R319). -/
  taps : List Record := []
  /-- Bytes accepted in the current tick (R319: at most 16 KiB). -/
  acceptedBytes : Nat := 0
  /-- Records accepted before the genesis block opened (R353). -/
  early : List Record := []
  opened : Option OpenBlock := none
  blocks : List SealedBlock := []
  /-- Records that the Recorder makes itself and has not accepted yet: AGG and GAP (R332, R334). -/
  own : List Record := []
  /-- Bytes in the staging SRAM (R335), and the same by the tick of their acceptance, oldest first (R373). -/
  staging : Nat := 0
  stagedAt : List (Nat × Nat) := []
  /-- Token bucket of the rate cap, bytes; may be negative (R336). -/
  bucket : Int := 262144
  gaps : List Gap := []
  agg : List AggWindow := []
  /-- Chain value of the latest sealed block (R340). -/
  prevHash : Bytes := List.replicate 64 0
  chainId : Nat := 0
  nextNo : Nat := 0
  nextRec : Nat := 0
  writePtr : Nat := 0
  /-- Seals asked for: cause and first tick that it applies to (R338). -/
  sealReq : List (Nat × Nat) := []
  /-- EVR_SEAL commands that wait for their seal (R349). -/
  sealReply : List Packet := []
  exporting : Option ExportRun := none
  exportId : Nat := 0
  /-- Between SYSRST_N asserted and released nothing is accepted (R354). -/
  held : Bool := false
  /-- Copies discarded as RESET_DISCARD by the latest reset (R354). -/
  resetDiscards : Nat := 0
  /-- Tick of SYSRST_N assertion that the GAP record of cause 4 will name. -/
  resetTick : Nat := 0
deriving DecidableEq, Repr
/-- A Sync of an association whose Follow_Up is due (R79, R80): sequenceId, correction so far, ingress view and epoch. -/
structure SyncPend where
  seq : Nat
  corr : Int
  t2 : Int
  t2Epoch : Nat
deriving DecidableEq, Repr

/-- The latest valid Sync of an association (R79): origin time, corrections, ingress view, its epoch. -/
structure SyncSample where
  t1 : Int
  corr : Int
  t2 : Int
  t2Epoch : Nat
deriving DecidableEq, Repr

/-- A Delay_Req sent and not yet answered: sequenceId, egress view and its epoch, formed anew in the stamped tick, and its egress raw
form (R57, R79). -/
structure DelayReqSent where
  seq : Nat
  t3 : Int
  t3Epoch : Nat
  raw : Nat
deriving DecidableEq, Repr

/-- What an association holds beside its registers (R79). -/
structure Assoc where
  pend : Option SyncPend := none
  sample : Option SyncSample := none
  dreq : Option DelayReqSent := none
  /-- Tick of the latest Delay_Req (R79). -/
  lastReq : Option Nat := none
  /-- mean_path has at least one sample (R80). -/
  hasPath : Bool := false
  /-- Next sequenceId of the association's own Delay_Req. -/
  nextSeq : Nat := 0
deriving DecidableEq, Repr

/-- A completed measurement that waits for its boundary (R82): θ, source code, whether it carries seconds, tick. -/
structure Meas where
  theta : Int
  src : Nat
  seconds : Bool
  tick : Nat
deriving DecidableEq, Repr

/-- The servo's own counts (R84 to R90). -/
structure Servo where
  meas : Option Meas := none
  /-- Consecutive measurements within LOCK_NS (R84). -/
  lockRun : Nat := 0
  /-- Consecutive excursions of one sign, and that sign (R85). -/
  excRun : Nat := 0
  excNeg : Bool := false
  /-- Consecutive non-excursion measurements that exceed LOCK_NS (R84). -/
  slackRun : Nat := 0
  /-- For codes 0 to 5: tick of the latest valid measurement, or of the choice of the source (R90). -/
  lastValid : List (Option Nat) := [none, none, none, none, none, none]
  /-- For codes 0 to 5: consecutive valid measurements (R90). -/
  goodRun : List Nat := [0, 0, 0, 0, 0, 0]
deriving DecidableEq, Repr

/-- A PPS input: tick of the previous edge that counted (R94), label for the next edge (R95). -/
structure PpsIn where
  last : Option Nat := none
  /-- Bad edges (R94). -/
  bad : Nat := 0
  /-- Tick of the latest captured edge, of any kind (R95). -/
  edge : Option Nat := none
  label : Option Nat := none
deriving DecidableEq, Repr

/-- A capture in an EVT_IN FIFO (R98). -/
structure EvtCapture where
  tick : Nat
  sub : Nat
  rise : Bool
deriving DecidableEq, Repr

/-- An event output pin or PPS output: its level at the ball outside pulses, INVERT included, and the pulse whose edges are fixed, in
sub-ticks; while `fall` holds the view of its trailing edge, that edge is not fixed and the end given is not yet one (R96, R99, R100). -/
structure OutPin where
  level : Bool := false
  pulse : Option (Nat × Nat) := none
  fall : Option Nat := none
  /-- The edge of a LEVEL change: tick and new level; it leaves 3 ticks later (R99). -/
  edge : Option (Nat × Bool) := none
deriving DecidableEq, Repr

/-- What a scheduled action does when it fires (R102, R101, R308). -/
inductive ActKind
  | regWrite (target value mask : Nat)
  | phase (code : Nat)
  | commit (txn : Nat)
  | lift (order lift acked : Nat)
deriving DecidableEq, Repr

/-- A pending scheduled action (R101, R102). The due time is a view in 2⁻¹⁶ ns units, or a tick when raw. -/
structure Action where
  id : Nat
  seat : Nat
  kind : ActKind
  lateOk : Bool
  raw : Bool
  due : Nat
  accepted : Nat
  /-- Accepted with a due time already reached: fires in this tick (R103). -/
  lateAt : Option Nat
deriving DecidableEq, Repr

/-- An action that has fired (R105): identifier, seat, firing tick, whether SCHED_CANCEL may name it with a tick. -/
structure FiredAction where
  id : Nat
  seat : Nat
  tick : Nat
deriving DecidableEq, Repr

/-- What the PTP engine holds for a port (R81): tick of its latest Sync, next sequenceIds, egress view of its open
Pdelay_Req, and whether LINK_DELAY is valid (R80). -/
structure MPort where
  port : Nat
  lastSync : Option Nat
  syncSeq : Nat
  pdSeq : Nat
  pdT1 : Option Int
  linkValid : Bool
  /-- Egress raw form of its Pdelay_Req (R57). -/
  pdRaw : Nat
deriving DecidableEq, Repr

/-- A message sent by the PTP engine: its messageType, port, sequenceId, timestamp in 2⁻¹⁶ ns units, whether two-step,
and its correctionField. -/
structure PtpSent where
  msgType : Nat
  port : Nat
  seq : Nat
  time : Nat
  twoStep : Bool
  corr : Int
  /-- The egress raw form whose view the timestamp is, formed in the stamped tick (R57). -/
  raw : Option Nat := none
deriving DecidableEq, Repr

/-- Synchronisation and timed pins (chapter 3). -/
structure Syn where
  assocs : List Assoc := [{}, {}, {}, {}]
  servo : Servo := {}
  pps : List PpsIn := [{}, {}]
  /-- Since which tick each TPLL input SYSCLK, REF_A, REF_B has been good (R93). -/
  refGoodSince : List (Option Nat) := [some 0, none, none]
  /-- EVT_IN FIFOs, head first (R98). -/
  evti : List (List EvtCapture) := [[], [], [], [], [], [], [], []]
  /-- Raw instants, in sub-ticks, of the latest captured edge of each EVT_IN pin (R98). -/
  evtiLast : List (Option Nat) := [none, none, none, none, none, none, none, none]
  /-- Edges of each EVT_IN pin dropped at a full FIFO (R98). -/
  evtiDrops : List Nat := [0, 0, 0, 0, 0, 0, 0, 0]
  evto : List OutPin := [{}, {}, {}, {}, {}, {}, {}, {}]
  ppsOut : List OutPin := [{}, {}]
  /-- Ticks of the previous PPS_OUT pulses (R96). -/
  ppsOutLast : List (Option Nat) := [none, none]
  /-- The latest line sent on TOD_TX and the tick of the pulse it follows (R97). -/
  todTx : Option (Nat × Bytes) := none
  actions : List Action := []
  nextAction : Nat := 1
  fired : List FiredAction := []
  /-- Actions discarded without firing: identifier and seat (R105). -/
  discarded : List (Nat × Nat) := []
  /-- The numbering of actions has passed 0xFFFF_FFFF (R101). -/
  idsWrapped : Bool := false
  /-- Ports that run the PTP engine as master or for their link delay (R81). -/
  mports : List MPort := []
  /-- The latest message the PTP engine sent. The model's own output port. -/
  ptpSent : Option PtpSent := none
  /-- One-step Syncs on their way: port, egress raw form, the view written into them and its epoch (R57). -/
  oneStep : List (Nat × Nat × Nat × Nat) := []
  /-- The TPLL has moved from its start-up reference to a listed input (R93). -/
  refMoved : Bool := false
deriving DecidableEq, Repr

/-- A calibration run (R60). -/
structure CalRun where
  port : Nat
  apply : Bool
  count : Nat
  seat : Nat
  start : Nat
deriving DecidableEq, Repr

/-- The timestamp units (chapter 2) beside their registers. -/
structure Tsu where
  cal : Option CalRun := none
deriving DecidableEq, Repr

/-- Where an accepted packet came from (R434). -/
inductive Origin
  | window
  | inband (port : Nat) (src : Nat) (tag : Option Nat)
  /-- Its seat's link was reset: its reply is discarded (R553). -/
  | lost
deriving DecidableEq, Repr

/-- A command in flight (R442, R443): accepted, not yet replied. -/
structure Flight where
  packet : Packet
  origin : Origin
  /-- Order of acceptance. -/
  seqNo : Nat
  /-- Its routine has run and it is parked until a completion (R463). -/
  parked : Bool
deriving DecidableEq, Repr

/-- A staged register word (R446): its address, the bits written and their values. -/
structure StagedWord where
  addr : Nat
  mask : Nat
  value : Nat
deriving DecidableEq, Repr

/-- A staged table entry (R446): the table, the index, whether it is an insert, and its descriptor words. -/
structure StagedEntry where
  table : Nat
  index : Nat
  insert : Bool
  words : List Nat
deriving DecidableEq, Repr

/-- Where a transaction stands (R448). -/
inductive TxnPhase
  | staging
  /-- Prepare sent: the deadline tick, units that have not acknowledged, units that refused, tick of the last
  acknowledgement. -/
  | preparing (deadline : Nat) (waiting : List Nat) (refused : List Nat) (lastAck : Nat)
  /-- Every unit has acknowledged: the earliest commit tick that this leaves. -/
  | fixed (c : Nat)
deriving DecidableEq, Repr

/-- A timed commit (R450): the due time, whether raw, LATE_OK, whether its time had come when it was accepted, the packet whose
notice reports it, and where that goes. -/
structure TimedCommit where
  due : Nat
  raw : Bool
  lateOk : Bool
  late : Bool
  packet : Packet
  origin : Origin
deriving DecidableEq, Repr

/-- A transaction (R445 to R451). -/
structure Txn where
  id : Nat
  seat : Nat
  /-- An implicit one-write transaction (R444): no identifier of its own is open. -/
  implicit : Bool
  words : List StagedWord
  entries : List StagedEntry
  /-- The order of staging: true for an entry, false for a word (R523). -/
  order : List Bool
  prepUs : Nat
  lastCmd : Nat
  phase : TxnPhase
  action : Nat
  timed : Option TimedCommit
  /-- The packet whose reply waits for the commit or the roll-back. -/
  waiting : Option Packet
deriving DecidableEq, Repr

/-- One host seat (R425 to R431). -/
structure Seat where
  /-- Words in the Command FIFO, first in first (R427). -/
  cmdFifo : List Nat := []
  replyFifo : List Nat := []
  /-- Notices and replies that wait whole for room in the Reply FIFO (R428), first in first. -/
  late : List (List Nat) := []
  /-- ISWs 1 to 7 captured by a read of ISW 0 and not yet read (R430). -/
  isw : List (Nat × Nat) := []
  /-- Capture register of lo/hi pairs: address of the pair, hi half (R9). -/
  capture : Option (Nat × Nat) := none
  /-- Staging register of lo/hi pairs: address of the pair, lo half (R9). -/
  staging : Option (Nat × Nat) := none
  lastTxn : Nat := 0
  lastStatus : Nat := 0
  /-- The MSI-X table, 16 words, and the pending bits of vectors 0 to 3 (R426). -/
  vectors : SMap := []
  msix : Nat := 0
  /-- ISWs 0 to 7 as of the boundary that opened the present tick (R430); empty before the first boundary. -/
  mirror : List Nat := []
deriving DecidableEq, Repr

/-- Seats, commands and transactions (chapter 16). -/
structure Cmd where
  seats : List Seat := [{}, {}, {}, {}]
  flights : List Flight := []
  nextSeqNo : Nat := 0
  txns : List Txn := []
  /-- Identifiers of transactions rolled back and not reused since (R451). -/
  rolledBack : List (Nat × Nat) := []
  /-- Identifiers of transactions committed and not reused since: identifier, seat, commit tick (R451). -/
  committed : List (Nat × Nat × Nat) := []
  /-- Tick of the latest commit tick (R123). -/
  lastCommit : Option Nat := none
  /-- Replies that leave in-band: ingress port and words (R434). -/
  inbandReplies : List (Nat × List Nat) := []
deriving DecidableEq, Repr

/-- An effect in the journal (R462, R465). -/
inductive Effect
  | regWrite (addr value mask : Nat)
  | rcClear (addr value : Nat)
  | replyWord (word : Nat)
  /-- TBL_WRITE, EVR_HAND, STAGE, UNIT_MSG, SEQ_ENTRY and POOL_FREE: operation code, unit, address, data. -/
  | unit (op unit addr data : Nat)
deriving DecidableEq, Repr

/-- A waiting request of Drafen (R463): level, seat (3 for level 3 only), and the packet where it is a seat's command. -/
structure Request where
  level : Nat
  seat : Nat
  packet : Option Packet
deriving DecidableEq, Repr

/-- The routine that runs, and its journal (R463 to R466, R470). -/
structure Routine where
  req : Request
  start : Nat
  past : Bool
  abandons : Nat
  ucodeFaults : Nat
  cycles : Nat
  effects : List Effect
  reads : List Nat
  /-- Effects of the routine that the engine has received (R465). -/
  received : Nat
  /-- Replay under R470: reads already replayed and effects already skipped; none when not in replay. -/
  replay : Option (Nat × Nat)
  /-- Next packet word for CMD_WORD. -/
  wordPos : Nat
  busDone : Bool
  busErr : Option Nat
  poolOk : Bool
  /-- An allocation for it has failed (R212). -/
  poolFail : Bool
  /-- Control-pool buffers allocated, each named by pool × 65,536 + place (R462). -/
  allocs : List Nat
deriving DecidableEq, Repr

/-- A Drafen core (R456). -/
structure DrafenCore where
  /-- Stores: microwords and nanowords by index; unlisted words hold 0. -/
  micro : SMap := []
  nano : SMap := []
  /-- General registers G0 to G63. -/
  g : SMap := []
  z : Bool := false
  c : Bool := false
  n : Bool := false
  loop : Nat := 0
  /-- Return stack, top first, at most 8. -/
  stack : List Nat := []
  pc : Nat := 0
  /-- Ticks of failures within the last second (R471). -/
  failures : List Nat := []
deriving DecidableEq, Repr

/-- The command processor (chapter 17). -/
structure Drafen where
  cores : List DrafenCore := [{}, {}]
  requests : List Request := []
  routine : Option Routine := none
  /-- Abandonments of requests that wait again: request and count (R464). -/
  abandoned : List (Request × Nat) := []
  /-- Words of a reply gathered by the effect engine and not yet whole (R428). -/
  gathering : List Nat := []
  /-- The packet those words answer. -/
  gatherFor : Option Packet := none
  /-- Tick of the latest test of condition TICK (R459). -/
  tickSeen : Nat := 0
  /-- Effects delivered to units other than registers and replies: operation, unit, address, data (R462). -/
  delivered : List (Nat × Nat × Nat × Nat) := []
  /-- Seat that was served last at level 3 (R463). -/
  lastSeat : Nat := 3
  /-- A planned take-over waits for the routine's end (R475). -/
  swapAsked : Bool := false
  /-- Effects released to the effect engine and not yet applied, with the packet that their routine serves (R465). -/
  released : List (Effect × Option Packet) := []
  /-- The bus operation that is not complete: code, address, register that receives its data, and whether the core stalls for it
  (R460). -/
  bus : Option (Nat × Nat × Nat × Bool) := none
deriving DecidableEq, Repr
/-- A frame in the forwarding path (R112): from the detection of its start on. -/
structure Frame where
  /-- The model's own serial number. -/
  id : Nat := 0
  /-- Logical ingress port of its stamp; a recirculated frame keeps it (R133). -/
  ing : Nat := 0
  /-- The port as which it enters its pipeline: 516 for a re-entry (R133). -/
  port : Nat := 0
  /-- Stamped raw form in sub-ticks, and the flags of the stamp (R54, R64). -/
  raw : Nat := 0
  uncal : Bool := false
  hold : Bool := false
  /-- View and epoch of the stamp, formed with it (R55, R64). -/
  view : Nat := 0
  epoch : Nat := 0
  /-- The instant at which its start was detected, in fine units (R54); 0 for a frame that no MAC received. -/
  det : Nat := 0
  /-- Configuration generation (R122). -/
  gen : Nat := 0
  /-- The frame as received, or, while its end has not been detected, as it arrives. -/
  bytes : Bytes := []
  /-- Bytes of the trailer stripped from its end (R69). -/
  stripLen : Nat := 0
  /-- Passes through port 516 (R133). -/
  passes : Nat := 0
  /-- The frame's end has been detected, and in which tick; 0 for a frame that no MAC received. -/
  ended : Bool := false
  endTick : Nat := 0
  /-- The reason of R406 that the end gave, 0 for a good frame. -/
  bad : Nat := 0
  /-- The ingress link was lost before its end (R120). -/
  cutOff : Bool := false
  /-- Judged when its head reached buffer admission: no copy of it cuts through (R118). -/
  saf : Bool := false
  /-- It came through pipeline 16 after a take-over (R316). -/
  replayed : Bool := false
  /-- The pipeline that failed had counted, sampled and classified it (R135, R490). -/
  seen : Bool := false
deriving DecidableEq, Repr

/-- Where a lookup sends a frame (R154, R169). -/
inductive Dest
  | port (p : Nat)
  | group (g : Nat)
  /-- The frame is dropped, with its reason (R154, R169, R157). -/
  | none (reason : Nat)
deriving DecidableEq, Repr

/-- What classification and lookup decide (R149, R169, R156). -/
structure Decision where
  action : Nat := 0
  dest : Dest := .port 0
  /-- Queue of the table result word (R169). -/
  resQueue : Option Nat := none
  hash : Nat := 0
  /-- A lookup of the frame met an uncorrectable error, and the frame is recorded whatever its fate (R189). -/
  recordIt : Bool := false
  /-- Words that its lookups, or those of its replication, find uncorrectable: table and index (R189). -/
  lost : List (Nat × Nat) := []
deriving DecidableEq, Repr

/-- A frame between its slot and buffer admission. -/
structure PipeFrame where
  frame : Frame
  /-- The pipeline that carries it. -/
  pipe : Nat
  /-- The tick in which it reaches buffer admission (R116). -/
  admitAt : Nat
  dec : Decision
  profile : Nat
  /-- Roles extracted, with their values (R143). -/
  roles : List (Nat × Nat)
deriving DecidableEq, Repr

/-- A copy that comes from no destination and waits for its frame's end and its turn at admission: a sample copy (R135), or a general PTP
message (R77): its seat, its queue and its REASON of R131. -/
structure Aside where
  pf : PipeFrame
  seat : Nat
  queue : Nat
  reason : Nat
deriving DecidableEq, Repr

/-- An entry of a fragment table (R157). -/
structure Frag where
  group : Nat
  set : Nat
  way : Nat
  key : List Nat
  dec : Decision
  last : Nat
deriving DecidableEq, Repr

/-- The capture settings that a copy took at admission (R322). -/
structure Capture where
  sel : Nat := 0
  /-- The selector is active: condition 2 of R322. -/
  active : Bool := false
  mode : Nat := 0
  head128 : Bool := false
  onePer : Bool := false
deriving DecidableEq, Repr

/-- Where a copy of a deep queue stands (R214, R215). -/
inductive Seg
  | onDie | backlog | reserve
deriving DecidableEq, Repr

/-- The descriptor of a copy (R124). -/
structure Copy where
  frame : Frame
  egr : Nat
  queue : Nat
  /-- Delivery path and profile or instance (R154). -/
  path : Nat := 0
  pathId : Nat := 0
  action : Nat := 0
  hash : Nat := 0
  profile : Nat := 0
  /-- REASON of R131. -/
  reason : Nat := 0
  /-- Place of its entry in the list of its group (R280). -/
  ord : Nat := 0
  /-- The sample copy of a frame (R135). -/
  sample : Bool := false
  /-- An export frame, which gives no frame record (R352). -/
  noRecord : Bool := false
  cut : Bool := false
  /-- Cells charged to its queue, or to the deterministic regions. -/
  cells : Nat := 0
  /-- The stored buffer that it refers to. -/
  buf : Option Nat := none
  admitted : Nat := 0
  launch : Option Nat := none
  /-- The edits that admission resolved: TPID pushed, VID of the native untag, trailer, one-step (R124, R408). -/
  pushTpid : Nat := 0x8100
  untagVid : Option Nat := none
  trailer : Bool := false
  oneStep : Bool := false
  cap : Capture := {}
  /-- Once started: whether another copy of its frame was started before it (R322). -/
  second : Option Bool := none
  late : Bool := false
  /-- Cause of a late release (R328). -/
  lateCause : Nat := 0
  /-- SEQ_EN of its instance in its generation (R287). -/
  seqEn : Bool := false
  seqNo : Option Nat := none
  seg : Seg := .onDie
deriving DecidableEq, Repr

/-- A copy in a holding slot (R262, R265): target and entry in fine units. -/
structure Held where
  copy : Copy
  target : Int
  entry : Int
  /-- Delay from entry to the ball: EGR_DELAY, the variable part and TEMP_CORR. -/
  toBall : Int
  /-- It has been announced late once (R267). -/
  delayed : Bool
deriving DecidableEq, Repr

/-- A sequenced copy (R281, R282). -/
structure SeqCopy where
  copy : Copy
  inst : Nat
  release : Nat
  visible : Bool
  late : Bool
  /-- Offered before its release tick (R290). -/
  early : Bool
  /-- LAST_RAW as it stood when the copy became visible (R284). -/
  lastRaw : Nat
  /-- Tick in which a late or early copy was offered (R284, R290). -/
  offered : Nat := 0
  /-- Its raw form equalled LAST_RAW when it became visible (R283). -/
  arrival : Bool := false
deriving DecidableEq, Repr

/-- A tied group of which at least one copy has been started (R283): raw form, PTR before it, ports started so far. -/
structure TieGroup where
  raw : Nat
  ptr : Nat
  ports : List Nat
deriving DecidableEq, Repr

/-- A transmission (R409): the port, the copy (none for a flow-control frame), the bytes sent, the tick in which it enters
the egress PCS and that in which it begins to leave the ball, its length in ticks without and with the gap, its egress
stamp, and how it ends. -/
structure Tx where
  port : Nat
  copy : Option Copy
  out : Bytes
  start : Nat
  ball : Nat
  txTicks : Nat
  gapTicks : Nat
  raw : Nat
  /-- Reason with which it ends badly, 0 for none (R120, R121, R216). -/
  endReason : Nat
  /-- A trailer was wanted and skipped (R67). -/
  skip : Bool
  /-- What the one-step update adds to correctionField, as predicted (R70). -/
  corr : Int := 0
  /-- View, epoch, UNCAL and HOLDOVER of the egress stamp, formed in the stamped tick (R57, R64). -/
  stamp : Option (Nat × Nat × Bool × Bool) := none
  /-- A trailer stands in the bytes sent (R65). -/
  trailer : Bool := false
  /-- The holding slot that the copy leaves when it enters the PCS (R265). -/
  held : Option Held := none
deriving DecidableEq, Repr

/-- A buffer of the packet path (R199): the frame it holds, its cells in order, its reference count, and the ingress
class it counts in. -/
structure Stored where
  id : Nat
  cells : List Nat
  count : Nat
  port : Nat
  cls : Nat
  /-- Cells that count in class_used, and in the class's headroom (R208). -/
  classCells : Nat
  hrCells : Nat
deriving DecidableEq, Repr

/-- A buffer of the control memory (R211): the pool it lies in, its place there, and its owner code (R199). -/
structure CtlBuf where
  pool : Nat
  place : Nat
  owner : Nat
  /-- An uncorrectable error has been found in it, and reported to its owner (R216). -/
  bad : Bool := false
deriving DecidableEq, Repr

/-- What a reference given back in this tick still holds until the next boundary (R198): the queue whose charge it was (16 ×
port + queue, none for the deterministic regions), its cells there, and, of a buffer freed, its cells and its place in
its ingress class. -/
structure Leaving where
  queue : Option Nat
  cells : Nat
  freed : List Nat
  port : Nat
  cls : Nat
  classCells : Nat
  hrCells : Nat
deriving DecidableEq, Repr

/-- A sparing copy that runs (R217). -/
structure Sparing where
  bank : Nat
  spare : Nat
  start : Nat
deriving DecidableEq, Repr

/-- A flow-control frame that waits for its port (R209). -/
structure FlowFrame where
  port : Nat
  bytes : Bytes
deriving DecidableEq, Repr

/-- A write that the part makes into a seat's host memory (R131, R132): seat, receive ring or not, descriptor, LENGTH,
FLAGS, QUEUE and the bytes of the buffer. The model's own output port. -/
structure HostWrite where
  seat : Nat
  rx : Bool
  index : Nat
  length : Nat
  flags : Nat
  queue : Nat
  data : Bytes
deriving DecidableEq, Repr

/-- The forwarding path (chapters 4, 7, 9 and 10) beside its registers. -/
structure Fwd where
  nextFrame : Nat := 1
  /-- Frames whose end has not been detected, one per port. -/
  rx : List Frame := []
  /-- PAUSE and PFC frames handed to the schedulers: port, tick of the end, bytes (R236, R406). -/
  macCtrl : List (Nat × Nat × Bytes) := []
  /-- Frames in the ingress FIFOs and internal inputs, oldest first (R114). -/
  fifo : List Frame := []
  /-- Per pipeline: the port whose turn it is and how many frames it has had (R114). -/
  wrr : List (Nat × Nat) := List.replicate 17 (0, 0)
  /-- The same for the internal slots (R130). -/
  rrInt : List Nat := List.replicate 17 0
  /-- Sampling countdowns per port; an unlisted one stands at SAMPLE_N (R135). -/
  sample : SMap := []
  /-- Replay buffers: headers handed off and not admitted by a stopped pipeline (R489). -/
  replay : List Frame := []
  pipe : List PipeFrame := []
  frags : List Frag := []
  /-- Copies that stand aside from replication and wait for admission (R135, R77). -/
  samples : List Aside := []
  /-- Slots that have carried something in this tick: 128 × pipeline + slot (R113). -/
  slotsUsed : List Nat := []
  /-- First tick of a slot group at the core frequency in force; until then the groups keep the base and frequency before (R562). -/
  slotBase : Nat := 0
  slotPrev : Nat × Nat := (0, 1600)
  /-- Latest writes into host memory. -/
  hostOut : List HostWrite := []
deriving DecidableEq, Repr

/-- The shared buffer (chapter 7) beside its registers. -/
structure Buf where
  stored : List Stored := []
  leaving : List Leaving := []
  ctl : List CtlBuf := []
  /-- Bank that the next allocation tries first (R197). -/
  nextBank : Nat := 0
  /-- Physical bank of each logical bank that is not at its place of the reset map (R194). -/
  bankMap : SMap := []
  /-- Spare physical banks that are free, and logical banks retired (R217, R218). -/
  spares : List Nat := [60, 61, 62, 63]
  retired : List Nat := []
  /-- Banks that wait to be spared (R217). -/
  spareReq : List Nat := []
  sparing : Option Sparing := none
  /-- Ticks of corrected errors within the last second, by bank (R217). -/
  ceTicks : List (Nat × Nat) := []
  /-- Cells lost with an uncorrectable tag word, and live cells marked uncorrectable by the scrubber (R216, R219). -/
  lost : List Nat := []
  marked : List Nat := []
  /-- Flow-control frames that wait for their port (R209). -/
  flow : List FlowFrame := []
  /-- Ticks in which the flow-control frame of a port was last queued (R209). -/
  flowTick : SMap := []
  /-- PAUSE_ALL holds the lossless classes in XOFF (R210). -/
  early : Bool := false
  /-- Tokens of the best-effort bucket of each pipeline, in units of 1/50,000 bit (ch. 19, throttling step 1). -/
  beBucket : List Int := List.replicate 17 0
deriving DecidableEq, Repr

/-- A list that runs, or waits, on a port (R243): the header and its change instant X as a view. -/
structure GateList where
  port : Nat
  header : Nat
  x : Nat
deriving DecidableEq, Repr

/-- The tokens of a flow meter in units of 1/50,000 bit (R239). -/
structure Meter where
  index : Nat
  c : Nat
  e : Nat
  allRed : Bool
  /-- Written since the last refill boundary: refilled at the next (R239). -/
  written : Bool
deriving DecidableEq, Repr

/-- Credit of a shaper in units of 1/50,000 bit (R232). -/
structure Credit where
  shaper : Nat
  units : Int
deriving DecidableEq, Repr

/-- Queues, shapers, gates and pauses (chapter 8) beside their registers. -/
structure Qsg where
  /-- Copies in the queues, oldest first (R225). -/
  queue : List Copy := []
  /-- Deficits of the queues, and the queue whose place it is, by port and level (R230). -/
  deficit : List (Nat × Int) := []
  place : SMap := []
  credit : List Credit := []
  /-- Ports that entered ACTIVE since the last refill boundary (R235). -/
  upPorts : List Nat := []
  running : List GateList := []
  waiting : List GateList := []
  meters : List Meter := []
  /-- Stream filters with BLOCKED set (R237). -/
  blocked : List Nat := []
  /-- Ends of pauses: port × 9 + class, 8 for PAUSE; tick (R236). -/
  paused : SMap := []
  /-- Ends of flap-holds by port (R251). -/
  flap : SMap := []
  /-- Highest depth, latest and highest sojourn of each queue (R253). -/
  hwm : SMap := []
  lastSoj : SMap := []
  maxSoj : SMap := []
  /-- What this tick gives the read-to-clear words of the queues: depth and sojourn (R10, R253). -/
  hwmTick : SMap := []
  sojTick : SMap := []
  /-- The shapers' modes and bindings in use since the latest refill boundary, as register fields (R235). -/
  shaperRegs : SMap := []
  txs : List Tx := []
  held : List Held := []
  seq : List SeqCopy := []
  ties : List (Nat × TieGroup) := []
  /-- Ingress port, plus 1, of the copy that each instance started last (R283). -/
  seqLast : SMap := []
  /-- Tick, plus 1, of the latest commit or lift that lowered W_NS of an instance (R293, R328). -/
  wLowered : SMap := []
  /-- Frames that already gave their one FATE 0 record (R322). -/
  recorded : List Nat := []
  /-- Tick, plus 1, in which a held or sequenced copy was started last (R311). -/
  lastDet : Nat := 0
deriving DecidableEq, Repr

/-- An entry of an indexed table (R165, R149, R241, R238, R239): its descriptor words. -/
structure TabEntry where
  table : Nat
  index : Nat
  words : List Nat
deriving DecidableEq, Repr

/-- Where a key of an exact-match table stands (R170): a slot of a bucket of one half, or the stash. -/
inductive Loc
  | slot (half bucket place : Nat)
  | stash (n : Nat)
deriving DecidableEq, Repr

/-- An entry of the MAC (0) or host (1) table (R170, R176, R181, R182). The key is the key bytes as a number. -/
structure EmEntry where
  table : Nat
  key : Nat
  loc : Loc
  result : Nat
  static : Bool
  pinned : Bool
  ageEn : Bool
  hit : Bool
  stale : Bool
  moveCnt : Nat
  moveStart : Nat
deriving DecidableEq, Repr

/-- A prefix (R188). -/
structure PrefixEntry where
  version : Nat
  len : Nat
  addr : Nat
  result : Nat
deriving DecidableEq, Repr

/-- A write that waits in the learn queue (R172, R174, R179, R183): the events of a MAC key, each its ingress port and its
decision tick, merged into one write; an age removal; a stash entry that moves back. -/
inductive LearnOp
  | learn (key : Nat) (events : List (Nat × Nat))
  | remove (table key : Nat)
  | unstash (table key : Nat)
deriving DecidableEq, Repr

/-- One write of an operation of the Table Engine (R173). -/
inductive TabWrite
  /-- An entry copied to a place. -/
  | put (e : EmEntry)
  /-- The key no longer stands at a place. -/
  | clear (table : Nat) (loc : Loc)
deriving DecidableEq, Repr

/-- A software operation that waits in a table's queue (R172): the packet whose reply follows its slot, and the tick in
which it reached the port. -/
structure SoftOp where
  table : Nat
  packet : Packet
  arrived : Nat
deriving DecidableEq, Repr

/-- The operation in progress of a table (R172): its writes to come, and the packet that it answers. -/
structure TabOp where
  table : Nat
  writes : List TabWrite
  packet : Option Packet
deriving DecidableEq, Repr

/-- A copy that waits for its repair (R189, R153): pipeline, table, index or key. -/
structure Repair where
  pipe : Nat
  table : Nat
  index : Nat
  /-- The tick in which it reached the table port (R562). -/
  arrived : Nat
deriving DecidableEq, Repr

/-- A row staged by a transaction that prepares, on its way to every pipeline's array (R152). -/
structure StagedRow where
  txn : Nat
  row : Nat
  arrived : Nat
deriving DecidableEq, Repr

/-- A candidate for learning that waits for its decision tick (R178, R179). -/
structure Candidate where
  frameId : Nat
  /-- Its action, its VID and its source address allow learning (R178). -/
  learn : Bool
  vid : Nat
  smac : Nat
  port : Nat
  raw : Nat
  /-- Entries that its lookups hit: table and key (R182). -/
  hits : List (Nat × Nat)
  /-- The frame's FCS as known: none while its end has not been detected. -/
  good : Option Bool
deriving DecidableEq, Repr

/-- The tables (chapter 6) and those of chapters 5 and 8. -/
structure Tbl where
  /-- Indexed tables that change at once, and those of the current and of the previous generation, by table and index. -/
  live : List TabEntry := []
  cur : List TabEntry := []
  prev : List TabEntry := []
  em : List EmEntry := []
  /-- Rotating pointers by half, table and bucket (R173). -/
  ptr : SMap := []
  prefixes : List PrefixEntry := []
  soft : List SoftOp := []
  /-- The learn queue: each operation with the tick in which it reached the table port (R172, R562). -/
  learn : List (Nat × LearnOp) := []
  /-- Stash entries that move back as soon as the learn queue has room: table and key (R174). -/
  moveBack : List (Nat × Nat) := []
  /-- Rows that a transaction's prepare has yet to write (R152). -/
  rows : List StagedRow := []
  /-- Copies known to be uncorrectable and not yet repaired: pipeline, table, index (R167, R189). -/
  damage : List (Nat × Nat × Nat) := []
  /-- Tick, plus 1, of the latest visit to each place of the MAC and host tables (R183). -/
  visited : SMap := []
  op : List TabOp := []
  repairs : List Repair := []
  candidates : List Candidate := []
  /-- Keys whose removal is pending (R183): table and key. -/
  removing : List (Nat × Nat) := []
  pinLog : List Nat := []
deriving DecidableEq, Repr

/-- A request of a Reserve Memory client (R364): its order, 3 to 7, the 256-byte user unit, its channel, arrival, and the write that it
belongs to; a read belongs to none (R363). -/
structure MemReq where
  client : Nat
  unit : Nat
  chan : Nat
  arrived : Nat
  op : Option Nat
deriving DecidableEq, Repr

/-- A write under way that touches a row (R363): its number in order of arrival, its client, stripe and row; the channels whose old data or old
parity it has yet to read, and those that it has yet to write. -/
structure MemOp where
  id : Nat
  client : Nat
  stripe : Nat
  row : Nat
  reads : List Nat
  writes : List Nat
deriving DecidableEq, Repr

/-- Reserve Memory (chapter 13) beside its registers. What it holds is the ring's blocks (Evr.blocks) and the spilled copies
(Seg.reserve): no client reads or writes anything else (R360). -/
structure Mem where
  /-- Next expiry of each channel's refresh timer, and until when it is busy (R366). -/
  due : SMap := []
  busy : SMap := []
  /-- Channels that owe a neighbour refresh (R368). -/
  owed : List Nat := []
  /-- Uncorrectable words of channels within the last second: channel, tick (R375). -/
  ue : List (Nat × Nat) := []
  /-- Since when each stack is in its self-refresh state, and its latest request (R369). -/
  since : SMap := []
  lastReq : SMap := []
  reqs : List MemReq := []
  /-- Writes under way, in order of arrival, and the number of the next (R363). -/
  ops : List MemOp := []
  nextOp : Nat := 0
  /-- Bytes that a flush has still to write (R373). -/
  flush : Nat := 0
  /-- The 7,168-byte group that the latest seal or flush lets the Recorder write in part (R363). -/
  tail : Option Nat := none
  /-- User units that are lost (R376). -/
  lost : List Nat := []
  /-- Segments of the deep queues in the spill area: queue, first GiB of the area, GiB (R361). -/
  segs : List (Nat × Nat × Nat) := []
deriving DecidableEq, Repr


/-- Lanes and links (chapter 14) beside their registers. -/
structure Lan where
  /-- Tick in which each port entered its stage, and from which EXCHANGE has held without a break (R382, R388). -/
  since : SMap := []
  stable : SMap := []
  /-- Ports in a quick relock, with the tick D (R390). -/
  quick : SMap := []
  /-- Ports whose transmitter rests or announces its rest: 1 + the tick of the announcement (R396). -/
  ei : SMap := []
  /-- First tick in which a woken port may send (R396), and the last tick in which a port had something to send. -/
  wake : SMap := []
  used : SMap := []
  /-- Receive coefficients of each lane and of its snapshot (R395), each as one number; a snapshot's plus 1. -/
  coef : SMap := []
  snap : SMap := []
  /-- Tick of each snapshot (R404), and the second, plus 1, in which one was taken last (R395). -/
  snapTick : SMap := []
  snapSec : SMap := []
  /-- Consecutive measurements below FOM_MIN, and lanes that have rolled back since one at or above it (R395). -/
  low : SMap := []
  rolled : List Nat := []
  /-- Tick, plus 1, in which each port left ACTIVE last (R389), and groups whose ports wait for the clock's return (R399). -/
  downAt : SMap := []
  refWait : List Nat := []
  /-- Tick, plus 1, since which each group's PLL has been locked again (R399). -/
  pllSince : SMap := []
deriving DecidableEq, Repr

/-- The half-duplex transmitter of port 517 (R413). -/
structure Csma where
  /-- Collisions of the frame in hand, and that frame. -/
  collisions : Nat := 0
  retry : Option Copy := none
  /-- End of the back-off, while it runs. -/
  backoff : Option Nat := none
  /-- Tick in which carrier was last present. -/
  carrier : Nat := 0
  /-- What the PHY of port 517 reports: its link, speed and full duplex (R411, R412). -/
  phyLink : Bool := false
  phySpeed : Nat := 0
  phyFull : Bool := false
deriving DecidableEq, Repr

/-- A flow of a Check Engine (R418, R419): its start value, the bytes fed, the output not yet read, its buffer. -/
structure Flow where
  engine : Nat
  start : Nat
  input : Bytes
  out : Bytes
  buf : Option CtlBuf
deriving DecidableEq, Repr

/-- A lift order (R302, R307): its number, the lift in ns, its instant as a view, and, at the Lead, the tick of its issue and the
frame that carried it. -/
structure LiftOrder where
  number : Nat
  lift : Nat
  due : Nat
  issued : Nat
  frame : Nat
deriving DecidableEq, Repr

/-- What a member knows of another, or reports of itself (R300 to R302). -/
structure Peer where
  /-- SEQ of the latest frame taken, and the tick of it. -/
  seq : Option Nat := none
  heard : Option Nat := none
  prio : Nat := 0
  believed : Nat := 0
  meas : Nat := 0
  demand : Nat := 0
  limit : Nat := 0
  critical : Bool := false
  liftSeq : Nat := 0
  liftNs : Nat := 0
  reqNs : Nat := 0
  /-- Lost, and not heard since (R311, R312). -/
  lost : Bool := false
deriving DecidableEq, Repr

/-- A PROFILE that waits for its instant (R305): the instant as a view, and SHARED and BASE_L_NS of the eight profiles. -/
structure BaseChange where
  due : Nat
  bases : List (Bool × Nat)
deriving DecidableEq, Repr

/-- A GRANT that waits for its instant (R311): the instant as a view, and the grants of the members. -/
structure GrantWait where
  due : Nat
  grants : List Nat
deriving DecidableEq, Repr

/-- The Troupe engine (chapter 11) beside its registers. -/
structure Trp where
  peers : List Peer := [{}, {}, {}, {}, {}, {}, {}, {}]
  /-- HELLO intervals since enabling (R299). -/
  hellos : Nat := 0
  /-- SEQ of the next frame. -/
  seq : Nat := 0
  /-- Tick of the latest HELLO of an identity clash (R299). -/
  clash : Option Nat := none
  /-- The Lead as the latest HELLO boundary found it (R300). -/
  lead : Option Nat := none
  /-- Tick of the member's latest lift commit (R506). -/
  liftAt : Option Nat := none
  /-- The latest order that the member holds, and whether the Lead sent it (R307, R308). -/
  order : Option LiftOrder := none
  mine : Bool := false
  /-- Members that have acknowledged it. -/
  acked : List Nat := []
  /-- Shared profiles as the latest PROFILE told them (R305). -/
  shared : Option Nat := none
  bases : List BaseChange := []
  grants : List GrantWait := []
deriving DecidableEq, Repr

/-- The Power Manager (chapter 19) beside its registers. -/
structure Pwr where
  /-- Corrected measurements of the seven rails, mV and mA, newest first (R500). -/
  samples : List (List (Nat × Nat)) := []
  /-- Sums of mV and mA of each rail over the present millisecond, and their number (R500). -/
  sums : List (Nat × Nat) := List.replicate 7 (0, 0)
  sumCount : Nat := 0
  /-- Sum of power over the present grant period in µW, its number, and the mean of the period before in W (R502). -/
  periodSum : Nat := 0
  periodCount : Nat := 0
  periodMean : Nat := 0
  /-- Readings in a row that each regulator failed to answer (R500). -/
  missed : SMap := []
  /-- Periods in a row that each rail has been over its limit (R504). -/
  railRun : SMap := []
  /-- Periods in a row of R507 and R501. -/
  highRun : Nat := 0
  divRun : Nat := 0
  calm : Nat := 0
  /-- The estimate of the period before (R504). -/
  estPrev : Nat := 0
  /-- The frequency chosen and not yet in force, and the tick of the choice (R506). -/
  target : Option (Nat × Nat) := none
  /-- Sensors at or above WARN_C, sensors excluded, the latest change of each reading (R509). -/
  warned : List Nat := []
  excluded : List Nat := []
  changed : SMap := []
  throttled : Bool := false
deriving DecidableEq, Repr

/-- A verified image (R520, R521): its digest, VERSION, SVN and owner key. -/
structure Image where
  digest : Bytes
  version : Nat
  svn : Nat
  ownerKey : Option Bytes
deriving DecidableEq, Repr

/-- A quote (R524): the packet that asked for it, the tick of its acceptance, and bytes 0 to 255 once they are taken. -/
structure Quote where
  packet : Packet
  accepted : Nat
  body : Option Bytes
deriving DecidableEq, Repr

/-- The identity engine (chapter 20) beside its registers, and the fuses. -/
structure Idn where
  image : Option Image := none
  quotes : List Quote := []
  /-- Certificates 0 to 7 (R519), and the byte at which CERT_DATA stands. -/
  certs : List Bytes := [[], [], [], [], [], [], [], []]
  certPos : Nat := 0
  /-- Evidence keys that rotations have replaced since PORST_N (R518); the latest replaced has blocks to sign yet (R342). -/
  keyGen : Nat := 0
  oldKey : Bool := false
  /-- The configuration digest D (R523). -/
  digest : Bytes := List.replicate 64 0
  /-- Fuses programmed since the part was made: owner hash, popcount of the rollback fuses (R522). -/
  ownerHash : Option Bytes := none
  rollback : Option Nat := none
  /-- The fuse operation under way. -/
  fuseOp : Nat := 0
deriving DecidableEq, Repr

/-- What drives the pins of the boundary (R555, R556). -/
inductive Drive
  | functional | extest | highz | clamp | pulse | train
deriving DecidableEq, Repr

/-- The pins of the part (chapter 22) and what only they hold. -/
structure Pins where
  /-- The part is held by PORST_N or its supply monitors, and by SYSRST_N (R549 to R551). -/
  porst : Bool := false
  sysrst : Bool := false
  /-- The SYSRST_N pin is asserted; the reset of SW_RESET: its tick of assertion and of release (R551). -/
  sysPin : Bool := false
  swAt : Option Nat := none
  swUntil : Option Nat := none
  /-- A thermal trip has stopped the part (R510); THERMTRIP_N. -/
  tripped : Bool := false
  /-- Code on VCORE_VID0–4, driven from the fuses since VAUX came into range (R547). -/
  vid : Nat := Config.fusedVid % 21
  /-- PERSTe_N of endpoints 0 and 1 (R553). -/
  perst : List Bool := [false, false]
  /-- TAP (R555): instruction, boundary register, and what drives the pins. -/
  ir : Nat := 1
  boundary : Nat := 0
  drive : Drive := .functional
deriving DecidableEq, Repr
/-- The answer of the latest access from a seat, the SMBus or the TAP: a status of R440 and the words read. The model's own output port. -/
structure Resp where
  status : Status
  data : List Nat
deriving DecidableEq, Repr

/-- Why a command stops the machine with a fault. No command does: every stop of the part is a status, a drop or a
fault line, all of them next states. -/
inductive Fault
  /-- Raised by nobody. Safe. -/
  | none
deriving DecidableEq, Repr

/-- Why a command has no meaning. -/
inductive Refusal
  /-- The command has no meaning in this model: its mnemonic. Raised by an arm of exec that is not modelled. Safe. -/
  | notModelled (mnemonic : String)
deriving DecidableEq, Repr

/-- What a read-to-clear field has seen in the present tick (R10): its place, reset value and width, the greatest or least
value of the tick. -/
structure RcNote where
  key : Nat
  reset : Nat
  width : Nat
  value : Nat
  low : Bool
deriving DecidableEq, Repr

/-- The state of the part. -/
structure State where
  /-- Every register field that does not hold its reset value, by Fld.key (R6, R7). -/
  regs : SMap := []
  /-- The register fields as they stood before the latest commit: the previous generation (R122 to R124). -/
  prevRegs : SMap := []
  /-- Bits of W1C fields that the hardware has set in this tick (R10). -/
  hwSet : SMap := []
  /-- RW fields that a seat has written in this tick (R10). -/
  rwSet : List Nat := []
  /-- Events of fixed periods that have come in this tick. -/
  ran : List Nat := []
  /-- Events of this tick for read-to-clear fields (R10). -/
  rcTick : List RcNote := []
  /-- Event counters after class 7 of the previous tick (R534), and the increments of this tick. -/
  cnt : SMap := []
  cntTick : SMap := []
  /-- The TAKE of a seat that is not yet taken: its tick, the first counter and how many (R537). -/
  cntReq : List (Option (Nat × Nat × Nat)) := [none, none, none, none]
  tim : Tim := {}
  tsu : Tsu := {}
  syn : Syn := {}
  evr : Evr := {}
  flt : Flt := {}
  cmd : Cmd := {}
  drafen : Drafen := {}
  fwd : Fwd := {}
  buf : Buf := {}
  qsg : Qsg := {}
  tbl : Tbl := {}
  mem : Mem := {}
  lan : Lan := {}
  csma : Csma := {}
  /-- Flows of the Check Engines (chapter 15). -/
  chk : List Flow := []
  trp : Trp := {}
  pwr : Pwr := {}
  idn : Idn := {}
  pins : Pins := {}
  resp : Option Resp := none
  /-- The model's own: how many free values have been drawn. -/
  freeCount : Nat := 0
  /-- Commands that wait, first in first out. -/
  pending : List Instr := []
deriving DecidableEq, Repr

/-- The part right after reset: every register at its reset value, nothing listed, nothing under way. -/
def State.reset : State := {}

end Sys2Proof.Machine
end

