-- ==== Sys2Proof/Machine/Ops.lean ====
section
/-! DEFINITION. The named operations on the state that every chapter shares: sparse stores and registers (R6 to R10),
bit fields and byte order (R4), counters (R534), fault lines (R476), records at their taps (R319), the time view (R22)
and stamps (R54 to R57, R64). -/

namespace Sys2Proof.Machine

/-! ### Lists as small arrays -/

/-- Entry n of a list, or the default. -/
def nth {α : Type} (l : List α) (n : Nat) (d : α) : α := l.getD n d

/-- The list with entry n replaced through a function. -/
def upd {α : Type} : List α → Nat → (α → α) → List α
  | [], _, _ => []
  | x :: xs, 0, f => f x :: xs
  | x :: xs, n + 1, f => x :: upd xs n f

/-- Insertion sort. -/
def insertBy {α : Type} (le : α → α → Bool) (x : α) : List α → List α
  | [] => [x]
  | y :: ys => if le x y then x :: y :: ys else y :: insertBy le x ys
def sortBy {α : Type} (le : α → α → Bool) : List α → List α
  | [] => []
  | x :: xs => insertBy le x (sortBy le xs)

/-! ### Sparse stores -/

/-- The value at a key; an unlisted key reads as `d`. -/
def SMap.get (m : SMap) (k d : Nat) : Nat :=
  match m with
  | [] => d
  | (k', v) :: rest => if k' = k then v else SMap.get rest k d

/-- The store without a key. -/
def SMap.erase (m : SMap) (k : Nat) : SMap :=
  match m with
  | [] => []
  | (k', v) :: rest => if k' = k then SMap.erase rest k else (k', v) :: SMap.erase rest k

/-- Insert a pair before the first greater key. -/
def SMap.ins (m : SMap) (k v : Nat) : SMap :=
  match m with
  | [] => [(k, v)]
  | (k', v') :: rest => if k < k' then (k, v) :: (k', v') :: rest else (k', v') :: SMap.ins rest k v

/-- Write a value; writing what an unlisted key reads as removes the entry, so equal stores are equal data. -/
def SMap.put (m : SMap) (k v d : Nat) : SMap :=
  if v = d then SMap.erase m k else SMap.ins (SMap.erase m k) k v

/-- Keys strictly rising, all above a bound. -/
def SMap.rising : Option Nat → SMap → Bool
  | _, [] => true
  | none, (k, _) :: rest => SMap.rising (some k) rest
  | some b, (k, _) :: rest => decide (b < k) && SMap.rising (some k) rest

/-! ### Bits and bytes -/

/-- Bits [hi:lo] of a number. -/
def bits (v hi lo : Nat) : Nat := v / 2 ^ lo % 2 ^ (hi + 1 - lo)
/-- One bit of a number. -/
def bit (v n : Nat) : Bool := v / 2 ^ n % 2 == 1
/-- A Bool as 0 or 1. -/
def b2n (b : Bool) : Nat := if b then 1 else 0
/-- Two's complement of `w` bits as an integer. -/
def toS (w v : Nat) : Int := if v % 2 ^ w < 2 ^ (w - 1) then (v % 2 ^ w : Nat) else ((v % 2 ^ w : Nat) : Int) - (2 ^ w : Nat)
/-- An integer as `w` bits of two's complement. -/
def ofS (w : Nat) (i : Int) : Nat := (i % ((2 ^ w : Nat) : Int)).toNat
/-- Most significant byte first (R4). -/
def be : Nat → Nat → Bytes
  | 0, _ => []
  | n + 1, v => BitVec.ofNat 8 (v / 256 ^ n) :: be n v
/-- Least significant byte first, as host memory is (R131). -/
def le : Nat → Nat → Bytes
  | 0, _ => []
  | n + 1, v => BitVec.ofNat 8 v :: le n (v / 256)
/-- The number that bytes give, most significant first (R4). -/
def beNat (b : Bytes) : Nat := b.foldl (fun a x => a * 256 + x.toNat) 0
/-- The number that bytes give, least significant first. -/
def leNat (b : Bytes) : Nat := b.foldr (fun x a => a * 256 + x.toNat) 0
/-- Byte n of a string, 0 beyond its end. -/
def byteAt (b : Bytes) (n : Nat) : Nat := (b.getD n 0).toNat
/-- `len` bytes from byte `n`, as a number, most significant first. -/
def beAt (b : Bytes) (n len : Nat) : Nat := beNat ((b.drop n).take len)
/-- Replace the bytes from `n` on by `r`. -/
def spliceAt (b : Bytes) (n : Nat) (r : Bytes) : Bytes := b.take n ++ r ++ b.drop (n + r.length)
def zeros (n : Nat) : Bytes := List.replicate n 0
/-- Zero-padded to a multiple of n bytes. -/
def padTo (n : Nat) (b : Bytes) : Bytes := b ++ zeros ((n - b.length % n) % n)

/-! ### Registers -/

/-- The value of copy n of a field (DESIGN CHOICE, log 9). -/
def State.rd (s : State) (f : Fld) (n : Nat := 0) : Nat := s.regs.get (f.key n) (f.reset n) % 2 ^ f.width
/-- A field as a signed number. -/
def State.rdS (s : State) (f : Fld) (n : Nat := 0) : Int := toS f.width (s.rd f n)
/-- A one-bit field as a Bool. -/
def State.on (s : State) (f : Fld) (n : Nat := 0) : Bool := s.rd f n == 1
/-- Set copy n of a field; the value keeps the field's width (DESIGN CHOICE, log 9). -/
def State.wr (s : State) (f : Fld) (n : Nat) (v : Nat) : State :=
  { s with regs := s.regs.put (f.key n) (v % 2 ^ f.width) (f.reset n) }
/-- A hardware set of a W1C field: the bits given become 1, and a W1C write of the same tick leaves them 1 (R10) (DEDUCED,
log 10) (DEDUCED, log 68). -/
def State.raiseBits (s : State) (f : Fld) (n : Nat) (v : Nat) : State :=
  { s.wr f n (s.rd f n ||| v) with hwSet := s.hwSet.put (f.key n) (s.hwSet.get (f.key n) 0 ||| (v % 2 ^ f.width)) 0 }
/-- A hardware update of an RW field: a seat's write of the same tick wins (R10) (DEDUCED, log 10). -/
def State.hwWr (s : State) (f : Fld) (n : Nat) (v : Nat) : State := if s.rwSet.contains (f.key n) then s else s.wr f n v
/-- A lo/hi pair of registers as one value (R9). -/
def State.rd2 (s : State) (lo hi : Fld) (n : Nat := 0) : Nat := s.rd hi n * 2 ^ 32 + s.rd lo n
def State.wr2 (s : State) (lo hi : Fld) (n : Nat) (v : Nat) : State := (s.wr lo n v).wr hi n (v / 2 ^ 32)
/-- A read-to-clear field that keeps the greatest, or least, value: the events of the present tick are kept apart until its
end, since a read returns and clears those before it (R10) (DEDUCED, log 10). -/
def State.rcNote (s : State) (f : Fld) (n : Nat) (v : Nat) (low : Bool) : State :=
  let v := v % 2 ^ f.width
  let key := f.key n
  let best := fun (x : RcNote) => if low then min x.value v else max x.value v
  { s with rcTick :=
      if s.rcTick.any (fun x => x.key == key) then s.rcTick.map (fun x => if x.key = key then { x with value := best x } else x)
      else s.rcTick ++ [⟨key, f.reset n, f.width, v, low⟩] }
def State.rcMax (s : State) (f : Fld) (n : Nat) (v : Nat) : State := s.rcNote f n v false
def State.rcMin (s : State) (f : Fld) (n : Nat) (v : Nat) : State := s.rcNote f n v true
/-- The tick ends: what its events gave joins the fields (DEDUCED, log 10). -/
def State.rcMerge (s : State) : State :=
  { s with
    regs := s.rcTick.foldl (fun m x =>
      let old := m.get x.key x.reset
      m.put x.key ((if x.low then min old x.value else max old x.value) % 2 ^ x.width) x.reset) s.regs
    rcTick := [] }
/-- Back to the reset value. -/
def State.rst (s : State) (f : Fld) (n : Nat := 0) : State := s.wr f n (f.reset n)
/-- Which copy of a field a store key names, if any. -/
def Fld.copy? (f : Fld) (key : Nat) : Option Nat :=
  let off := key / 32 - f.base
  let n :=
    if f.outer = 1 then (if f.innerStride = 0 then 0 else off / f.innerStride)
    else off / f.outerStride * f.inner + (if f.innerStride = 0 then 0 else off % f.outerStride / f.innerStride)
  if n < f.copies ∧ f.key n = key then some n else none

/-- The copies of a field that do not hold their reset value. -/
def listedIn (m : SMap) (f : Fld) : List Nat := m.filterMap (fun kv => f.copy? kv.1)
def State.listed (s : State) (f : Fld) : List Nat := listedIn s.regs f

/-- The value that a frame of generation g sees (R122, R124): the current or the previous generation (DESIGN CHOICE, log 9). -/
def State.rdG (s : State) (g : Nat) (f : Fld) (n : Nat := 0) : Nat :=
  if g = s.rd F.SYS_CFG_GEN_CURRENT then s.rd f n
  else s.prevRegs.get (f.key n) (f.reset n) % 2 ^ f.width
/-- The copies of a field that do not hold their reset value in generation g. -/
def State.listedG (s : State) (g : Nat) (f : Fld) : List Nat :=
  listedIn (if g = s.rd F.SYS_CFG_GEN_CURRENT then s.regs else s.prevRegs) f
def State.onG (s : State) (g : Nat) (f : Fld) (n : Nat := 0) : Bool := s.rdG g f n == 1

/-- The tick now (DESIGN CHOICE, log 67). -/
def State.now (s : State) : Nat := s.tim.canopy
/-- The phase in effect (R89). -/
def State.phase (s : State) : Nat := s.rd F.SYN_SESSION_PHASE
def State.epoch (s : State) : Nat := s.rd F.TIM_EPOCH_CURRENT

/-! ### Counters -/

/-- The place of a counter: group, event (or slot), instance (R529, R532). -/
def cntKey (g ev n : Nat) : Nat := (g * 256 + ev) * 65536 + n
/-- An increment is a class 7 event: it is counted at the end of its tick (R534) (DEDUCED, log 30). -/
def State.bump (s : State) (g ev : Nat) (n : Nat := 0) (by' : Nat := 1) : State :=
  let k := cntKey g ev n
  { s with cntTick := s.cntTick.put k (s.cntTick.get k 0 + by') 0 }
/-- The value of a counter after class 7 of the previous tick (R534), modulo 2⁶⁴. -/
def State.count (s : State) (g ev n : Nat) : Nat := s.cnt.get (cntKey g ev n) 0
/-- The chapter's own counter of a drop reason: group, event and the value it is named per (R532). -/
def dropGroup (r : Nat) : Option (Nat × Nat × Nat) :=
  if r = 0 then none else if r ≤ 7 then some (15, 1, r) else if r = 8 then some (16, 5, 0)
  else if r = 14 then some (17, 8, 0) else if r = 15 then some (7, 12, 0) else if r = 16 then some (18, 5, 0)
  else if r = 17 then some (5, 5, 0) else if r = 18 then some (5, 6, 0) else if r = 19 then some (5, 9, 0)
  else if r = 20 then some (6, 3, 0) else if r = 21 then some (6, 4, 0)
  else if 24 ≤ r ∧ r ≤ 30 then some (7, 1, r) else if 32 ≤ r ∧ r ≤ 44 then some (8, 1, r)
  else if r = 45 then some (8, 7, 0) else if r = 46 then some (9, 5, 0) else if r = 47 then some (9, 6, 0)
  else if r = 48 then some (10, 6, 0) else if 55 ≤ r ∧ r ≤ 57 then some (15, 1, r) else none

/-- Drops are counted against the egress port of the record, or the ingress port when it names none (R531), and in the
group of the chapter that decides them (R532). -/
def State.bumpDrop (s : State) (reason port : Nat) : State :=
  match dropGroup reason with
  | some (g, ev, n) => (s.bump 2 reason port).bump g ev n
  | none => s.bump 2 reason port

/-- The unit that decides a drop reason (R531). -/
def reasonUnit (r : Nat) : Nat :=
  if r ≤ 7 then 15 else if r = 8 then 17 else if r ≤ 13 then 7 else if r = 14 then 18 else if r = 15 then 0
  else if r = 16 then 19 else if r ≤ 19 then 5 else if r ≤ 21 then 6 else if r ≤ 30 then 7 else if r = 31 then 13
  else if r ≤ 45 then 8 else if r = 46 ∨ r = 47 ∨ r = 49 then 9 else if r = 48 ∨ r = 50 then 10
  else if r ≤ 54 then 7 else 15

/-! ### Fault lines -/

/-- A unit puts an event on its error line, where it is held until the Collector takes it (R476, R477). -/
def State.raiseFault (s : State) (src cause sev : Nat) (inst : Nat := 0) (val : Nat := 0) : State :=
  { s with flt := { s.flt with held := s.flt.held ++ [⟨src, cause, sev, inst, val⟩] } }

/-! ### The time view -/

/-- The parameters in force. -/
def State.params (s : State) : ViewParams := s.tim.params.headD {}
/-- Nanosecond-fraction units in one second. -/
def unitsPerSec : Nat := 65536 * 1000000000
/-- R22: the view of (c, sub) in units of 2⁻¹⁶ ns under a parameter set. -/
def viewUnits (p : ViewParams) (c sub : Nat) : Int :=
  let d : Int := (16 * ((c : Int) - p.anchor) + sub) * 5120
  (p.offset : Int) + d + Int.fdiv (d * p.rate) (2 ^ 40)
/-- The view with seconds modulo 2⁴⁸ (R22) (DESIGN CHOICE, log 67). -/
def viewWrap (v : Int) : Nat := (v % ((2 ^ 48 * unitsPerSec : Nat) : Int)).toNat
/-- The view at (c, sub) under the parameters in force. -/
def State.viewAt (s : State) (c sub : Nat) : Nat := viewWrap (viewUnits s.params c sub)
def viewSec (v : Nat) : Nat := v / unitsPerSec % 2 ^ 48
def viewNs (v : Nat) : Nat := v / 65536 % 1000000000
def viewFrac (v : Nat) : Nat := v % 65536
/-- A view from seconds, nanoseconds and fraction. -/
def viewOf (sec ns frac : Nat) : Nat := (sec * 1000000000 + ns) * 65536 + frac
/-- R56: the set in effect at tick c, or the oldest held with the overrun told. -/
def paramsAt : List ViewParams → Nat → ViewParams × Bool
  | [], _ => ({}, true)
  | [p], c => (p, decide (c < p.since))
  | p :: rest, c => if p.since ≤ c then (p, false) else paramsAt rest c

/-- The servo's HOLDOVER flag of a stamp: every state except LOCKED, and a lost reference (R84, R92). -/
def State.holdoverFlag (s : State) : Bool := s.rd F.SYN_SERVO_STATUS_STATE != 3 || s.on F.SYN_SERVO_STATUS_REF_LOST
/-- The UNCAL flag of a port's stamps (R62, R64). -/
def State.uncalFlag (s : State) (p : Nat) : Bool :=
  !(s.on F.TSU_PORT_STATUS_CALIBRATED p) || s.on F.TSU_PORT_STATUS_CAL_STALE p

/-- The 96-bit device timestamp record (R64). -/
def tsRecord (epoch view : Nat) (uncal hold : Bool) : Nat :=
  epoch % 256 * 2 ^ 88 + viewSec view % 2 ^ 40 * 2 ^ 48 + viewNs view * 2 ^ 18 + viewFrac view * 4
    + b2n uncal * 2 + b2n hold

/-! ### Stamps -/

/-- R54: a point in fine units of 1/256 ns to the nearest sub-tick, halves up, never before the count began. -/
def stampOf (pointFine : Int) : Nat := (Int.fdiv (pointFine + 10) 20).toNat

/-- The instant, in fine units, that the raw form of an instant names: the sub-tick in which it falls (R16, R54) (DEDUCED, log 32). -/
def subTickOf (fine : Int) : Int := Int.fdiv fine 20 * 20
/-- R54, ingress: the stamped raw form, as sub-ticks since the count began, from a detection in fine units. The variable part is that
of the frame and the deskew depth held since link-up (R52). -/
def State.ingressRaw (s : State) (p detFine varFine : Nat) : Nat :=
  stampOf (subTickOf detFine - s.rd F.TSU_ING_DELAY_VALUE p - (varFine + s.rd F.TSU_VAR_DESKEW_VALUE p : Nat) - s.rdS F.TSU_TEMP_CORR_VALUE p)
/-- The delay between entry to the egress PCS and the ball in fine units (R53, R228) (DEDUCED, log 36). -/
def State.toBallFine (s : State) (p var : Nat) : Int :=
  (s.rd F.TSU_EGR_DELAY_VALUE p : Int) + var + s.rdS F.TSU_TEMP_CORR_VALUE p
/-- R54, egress: the stamped raw form of a frame whose start enters the egress PCS at an instant in fine units. -/
def State.egressRaw (s : State) (p : Nat) (entry : Int) (var : Nat) : Nat := stampOf (subTickOf entry + s.toBallFine p var)

/-- R55: the view of a stamp (raw form in sub-ticks) under the parameters in effect at its tick. -/
def State.stampView (s : State) (raw : Nat) : Nat :=
  viewWrap (viewUnits (paramsAt s.tim.params (raw / 16)).1 (raw / 16) (raw % 16))
def State.stampEpoch (s : State) (raw : Nat) : Nat := (paramsAt s.tim.params (raw / 16)).1.epoch
/-- HOLDOVER as it stood at a tick, now or before (R64). -/
def State.holdAt (s : State) (c : Nat) : Bool :=
  if s.now ≤ c then s.holdoverFlag else (((s.tim.holds.find? (fun x => decide (x.1 ≤ c))).map Prod.snd).getD s.holdoverFlag)
/-- R56: the fallback to the oldest set is counted and reported. -/
def State.noteOverrun (s : State) (raw : Nat) : State :=
  if (paramsAt s.tim.params (raw / 16)).2 then (s.bump 4 7).raiseBits F.TSU_INT_STATUS_HIST_OVERRUN 0 1 else s

/-! ### Records at their taps -/

/-- Which kinds of record are frame records (R318). -/
def Record.isFrame (r : Record) : Bool := r.kind == 1 || r.kind == 2
/-- The length of a record in bytes, header included (R316). -/
def Record.bytes (r : Record) : Nat := 16 + r.body.length
/-- R316: the bytes of a record. -/
def Record.encode (r : Record) : Bytes :=
  be 1 r.kind ++ be 1 r.flags ++ be 2 (r.bytes / 16) ++ be 2 (r.unit * 1024 + r.inst % 1024) ++ be 1 (r.sub % 16)
    ++ be 1 r.epoch ++ be 8 r.tick ++ r.body

/-- R333, R334: account for a record that was due and is not written. -/
def addLoss (cause tick : Nat) (r : Record) : List Gap → List Gap
  | [] => [⟨cause, tick, tick, b2n r.isFrame, 1 - b2n r.isFrame, r.bytes, 0, 0⟩]
  | g :: rest =>
    if g.cause = cause then
      { g with last := tick, frames := g.frames + b2n r.isFrame, other := g.other + (1 - b2n r.isFrame),
               bytes := g.bytes + r.bytes } :: rest
    else g :: addLoss cause tick r rest

/-- A record hands to its tap, which holds 64; a record that finds its tap full is lost (R319). -/
def State.hand (s : State) (r : Record) : State :=
  if (s.evr.taps.filter (fun x => x.unit == r.unit && x.inst == r.inst)).length < 64 then
    { s with evr := { s.evr with taps := s.evr.taps ++ [r] } }
  else
    ({ s with evr := { s.evr with gaps := addLoss 1 s.now r s.evr.gaps } }.bump 12 3 1).raiseBits
      F.EVR_INT_STATUS_GAP 0 1

/-- A record of the present tick. -/
def State.mkRecord (s : State) (kind unit inst tick sub : Nat) (body : Bytes) : Record :=
  { kind := kind, flags := b2n s.holdoverFlag * 2, unit := unit, inst := inst, sub := sub,
    epoch := (paramsAt s.tim.params tick).1.epoch, tick := tick, body := padTo 16 body, optional := false,
    drop := none, handed := s.now }

/-- An EVENT record (R330). -/
def State.eventRec (s : State) (unit inst tick code d0 d1 d2 : Nat) (sub : Nat := 0) : State :=
  s.hand (s.mkRecord 0x16 unit inst tick sub (be 2 code ++ zeros 6 ++ be 8 d0 ++ be 8 d1 ++ be 8 d2))

/-- The body of a TIME_STATE record at the boundary of a tick (R324). -/
def State.timeStateBody (s : State) (tick cause : Nat) : Bytes :=
  let p := s.params
  let src := s.rd F.SYN_SERVO_STATUS_SOURCE
  let v := s.viewAt tick 0
  be 12 (tsRecord s.epoch v false s.holdoverFlag)
    ++ be 4 (s.rd F.TIM_RATE_VALUE) ++ be 4 (s.rd F.SYN_FREQ_VALUE)
    ++ be 8 (s.rd2 F.SYN_LAST_OFFSET_LO_VALUE F.SYN_LAST_OFFSET_HI_VALUE)
    ++ be 8 (if src < 4 then s.rd2 F.SYN_MASTER_ID_LO_VALUE F.SYN_MASTER_ID_HI_VALUE src else 0)
    ++ be 2 (if src < 4 then s.rd F.SYN_MASTER_PORT_VALUE src else 0)
    ++ be 1 (src % 16 + s.rd F.SYN_SERVO_STATUS_STATE * 16) ++ be 1 cause
    ++ be 1 (s.phase + s.rd F.SYN_REF_STATUS_CURRENT * 16 + s.rd F.SYN_SERVO_STATUS_REF_LOST * 64)
    ++ be 1 (s.rd F.TIM_VOTE_STATUS_ACTIVE) ++ zeros 6
    ++ be 8 p.anchor
    ++ be 12 (viewSec p.offset * 2 ^ 48 + viewNs p.offset * 2 ^ 16 + viewFrac p.offset) ++ zeros 12

/-- A TIME_STATE record of the present tick (R324). -/
def State.timeState (s : State) (cause : Nat) : State :=
  s.hand (s.mkRecord 0x10 1 0 s.now 0 (s.timeStateBody s.now cause))

/-! ### The configuration digest and the snapshots of quotes -/

/-- Bytes 0 to 207 and 240 to 255 of a quote (R524) as the present tick gives them, around its nonce. -/
def State.quoteBody (s : State) (nonce : Bytes) : Bytes :=
  let src := s.rd F.SYN_SERVO_STATUS_SOURCE
  be 4 0x4B515554 ++ be 1 1
    ++ be 1 (s.rd F.TIM_STATUS_TIME_VALID + b2n s.holdoverFlag * 2 + s.rd F.CMD_IMAGE_STATUS_OWNER_SIGNED * 4
      + s.rd F.IDN_STATUS_EVK_READY * 8)
    ++ be 1 s.epoch ++ be 1 (src % 16 + s.rd F.SYN_SERVO_STATUS_STATE * 16)
    ++ (List.range 4).flatMap (fun i => be 4 (s.rd F.IDN_UID_VALUE i)) ++ be 8 s.now
    ++ be 12 (tsRecord s.epoch (s.viewAt s.now 0) false s.holdoverFlag)
    ++ be 8 (s.rd2 F.SYN_LAST_OFFSET_LO_VALUE F.SYN_LAST_OFFSET_HI_VALUE)
    ++ be 8 (if src < 4 then s.rd2 F.SYN_MASTER_ID_LO_VALUE F.SYN_MASTER_ID_HI_VALUE src else 0)
    ++ be 2 (s.rd F.CMD_IMAGE_STATUS_VERSION) ++ be 1 ((s.idn.image.map (fun i => i.svn)).getD 0) ++ be 1 (s.rd F.IDN_STATUS_ROLLBACK)
    ++ (List.range 16).flatMap (fun w => be 4 (s.rd F.IDN_IMAGE_DIGEST_VALUE w)) ++ s.idn.digest
    ++ be 8 (s.rd2 F.SYS_CFG_GEN_TICK_LO_VALUE F.SYS_CFG_GEN_TICK_HI_VALUE)
    ++ be 8 (s.rd2 F.IDN_KEY_ID_LO_VALUE F.IDN_KEY_ID_HI_VALUE) ++ nonce ++ zeros 16

/-- R524: the snapshot of a quote is that of the tick after its acceptance, with the values in force after class 4; it is
taken at that boundary and taken again at every change that a class up to 4 brings in that tick (DEDUCED, log 53). -/
def State.refreshQuotes (s : State) : State :=
  { s with idn := { s.idn with quotes := s.idn.quotes.map (fun q =>
      if q.accepted + 1 = s.now then { q with body := some (s.quoteBody (q.packet.data.flatMap (fun w => be 4 w.toNat))) } else q) } }

/-- IDN.CFG_DIGEST shows D (R527). -/
def State.setDigest (s : State) (d : Bytes) : State :=
  let s := (List.range 16).foldl (fun s w => s.wr F.IDN_CFG_DIGEST_VALUE w (beAt d (4 * w) 4)) s
  { s with idn := { s.idn with digest := d } }

/-- R523: a change that has applied extends D: kind, seat, transaction, address, mask and data words (DESIGN CHOICE, log 16). -/
def State.extendD (s : State) (kind seat txn addr mask : Nat) (data : List Nat) : State :=
  let entry := be 8 s.now ++ be 1 kind ++ be 1 seat ++ be 2 txn ++ be 4 addr ++ be 4 mask ++ sha512 (data.flatMap (fun w => be 4 w))
  (s.setDigest (sha512 (s.idn.digest ++ entry))).refreshQuotes

/-! ### Blocks, ownership and transactions -/

/-- R13: the bases of the blocks, in unit-code order (R317). -/
def blockBases : List Nat :=
  [0, 0x10000, 0x20000, 0x30000, 0x100000, 0x110000, 0x120000, 0x140000, 0x160000, 0x180000, 0x190000, 0x1A0000,
   0x200000, 0x210000, 0x300000, 0x340000, 0x350000, 0x400000, 0x410000, 0x420000, 0x430000, 0x800000]

/-- The unit code of the block that holds an address (R13, R317). -/
def unitOf (addr : Nat) : Nat := (blockBases.filter (fun b => b ≤ addr)).length - 1

/-- The unit that holds a table (R165, R163, R241, R238, R239). -/
def tableUnit (table : Nat) : Nat := if table < 0x10 then 6 else if table < 0x20 then 5 else 8

/-- R432: a port lies in the partition of a seat; Seat 0 holds the whole device. -/
def State.ownsPort (s : State) (seat p : Nat) : Bool :=
  seat == 0 || bit (s.rd F.CMD_SEAT_PORTS_PORTS (seat * 17 + p / 32)) (p % 32)

/-- A front-panel port is stopped (R380). -/
def State.portStopped (s : State) (p : Nat) : Bool :=
  s.rd F.LAN_PORT_STATUS_STATE p == 0 && !s.on F.LAN_PORT_CTRL_START p

/-- The next action identifier (R101). -/
def nextActionId (i : Nat) : Nat := if i ≥ 0xFFFFFFFF then 1 else i + 1
/-- An action identifier is given out (R101): what an earlier use of it left is gone (R105). -/
def Syn.takeId (y : Syn) : Syn :=
  { y with
    nextAction := nextActionId y.nextAction, idsWrapped := y.idsWrapped || decide (0xFFFFFFFF ≤ y.nextAction)
    fired := y.fired.filter (fun f => f.id != y.nextAction), discarded := y.discarded.filter (fun x => x.1 != y.nextAction) }

/-- The units that a transaction must prepare (R448): those that hold staged writes, and 31 for the pipelines. -/
def prepUnits (words : List StagedWord) (entries : List StagedEntry) : List Nat :=
  ((words.map (fun w => unitOf w.addr)) ++ entries.map (fun e => tableUnit e.table)).dedup ++ [31]

/-- A transaction other than the one named has staged a word (R447). -/
def State.wordHeld (s : State) (txn addr : Nat) : Bool :=
  s.cmd.txns.any (fun t => t.id != txn && t.words.any (fun w => w.addr == addr))

/-- R152: the rows that a transaction stages are on their way to every pipeline's array from now on. -/
def Tbl.stageRows (t : Tbl) (txn now : Nat) (entries : List StagedEntry) : Tbl :=
  { t with rows := t.rows ++ (entries.filter (fun e => e.table == 0x10)).map (fun e => { txn := txn, row := e.index, arrived := now }) }

/-- R444, R448: an implicit transaction begins to prepare; it takes an action identifier, and its number lies outside
the transaction IDs (DEDUCED, log 14). -/
def State.implicitTxn (s : State) (seat : Nat) (words : List StagedWord) (entries : List StagedEntry) (waiting : Option Packet) : State :=
  let prep := s.rd F.CMD_TXN_CFG_PREP_US
  let id := s.syn.nextAction
  let t : Txn :=
    { id := 4096 + id, seat := seat, implicit := true, words := words, entries := entries,
      order := words.map (fun _ => false) ++ entries.map (fun _ => true), prepUs := prep,
      lastCmd := s.now, phase := .preparing (s.now + prep * 800) (prepUnits words entries) [] s.now, action := id,
      timed := none, waiting := waiting }
  { s with
    cmd := { s.cmd with txns := s.cmd.txns ++ [t] }
    tbl := s.tbl.stageRows t.id s.now entries
    syn := s.syn.takeId }

/-! ### Answers and gates -/

/-- The answer of the latest access (DEDUCED, log 13). -/
def State.answer (s : State) (st : Status) (data : List Nat := []) : State := { s with resp := some ⟨st, data⟩ }
/-- The number of a status code (R440). -/
def Status.code : Status → Nat
  | .ok => 0 | .busy => 1 | .badOpcode => 2 | .badAddress => 3 | .notOwner => 4 | .timePast => 5 | .txnConflict => 6
  | .quiesceRequired => 7 | .tableFull => 8 | .crcError => 9 | .rolledBack => 10 | .lateApplied => 11
  | .notPermitted => 12 | .tagsExhausted => 13

/-- The part works: neither reset is asserted, nor has it tripped (R550, R551, R510). -/
def State.live (s : State) : Bool := !s.pins.porst && !s.pins.sysrst && !s.pins.tripped
/-- What a unit does at a command moves no pin of chapter 22 and takes nothing from the queue: only a write of SW_RESET leaves its
tick there (R551). -/
def State.inside (s t : State) : State := { t with pending := s.pending, pins := { s.pins with swAt := t.pins.swAt } }
/-- What a command does only while the part works (DESIGN CHOICE, log 3). -/
def State.whenLive (s : State) (f : State → State) : State := if s.live then s.inside (f s) else s
/-- The counters run under SYSRST_N, and after a trip (R41, R510). -/
def State.ticking (s : State) : Bool := !s.pins.porst && s.on F.TIM_STATUS_RUN
/-- What runs on under SYSRST_N and stops at a trip (R41, R374, R510). -/
def State.clocked (s : State) : Bool := !s.pins.porst && !s.pins.tripped && s.on F.TIM_STATUS_RUN
/-- The outcome of a seat's request: its effect with OK, or the refusal's status and no effect (R440). -/
def State.settle (s : State) (r : Except Status State) : State :=
  match r with
  | .ok t => t.answer .ok
  | .error e => s.answer e
/-- A refusal unless a condition holds. -/
def need (b : Bool) (e : Status) : Except Status Unit := if b then .ok () else .error e
/-- A request of a seat, while the part works. -/
def State.request (s : State) (r : Except Status State) : State := s.whenLive (fun s => s.settle r)
/-- A condition on an effect: without it nothing changes (DESIGN CHOICE, log 3). -/
def State.when (s : State) (b : Bool) (f : State → State) : State := if b then s.inside (f s) else s

/-- An event of a fixed period, at most once in its tick: `k` names it. -/
def State.once (s : State) (k : Nat) (b : Bool) (f : State → State) : State :=
  s.when (b && !s.ran.contains k) (fun s => f { s with ran := k :: s.ran })

/-- A fresh free value (a value the spec leaves open): the constant applied to the counter, and the counter advanced (DESIGN CHOICE, log 7). -/
def State.fresh (s : State) : Nat × State := (Config.freeNat s.freeCount, { s with freeCount := s.freeCount + 1 })

end Sys2Proof.Machine
end

