-- ==== Sys2Proof/Machine/Frames.lean ====
section
/-! DEFINITION. What the chapters of the forwarding path share: ports and rates, frame bytes, frame records (R320 to
R323), the shared buffer's cells, charges and flow control (R194 to R210), and how a copy ends. -/

namespace Sys2Proof.Machine

def State.setFwd (s : State) (f : Fwd → Fwd) : State := { s with fwd := f s.fwd }
def State.setBuf (s : State) (f : Buf → Buf) : State := { s with buf := f s.buf }
def State.setQsg (s : State) (f : Qsg → Qsg) : State := { s with qsg := f s.qsg }
def State.setTbl (s : State) (f : Tbl → Tbl) : State := { s with tbl := f s.tbl }
def State.setFlt (s : State) (f : Flt → Flt) : State := { s with flt := f s.flt }
def State.setLan (s : State) (f : Lan → Lan) : State := { s with lan := f s.lan }
def State.setCsma (s : State) (f : Csma → Csma) : State := { s with csma := f s.csma }

/-- Something waits for a port's transmitter in this tick (R396). -/
def State.touch (s : State) (p : Nat) : State := s.setLan (fun l => { l with used := l.used.put p s.now 0 })
/-- The transmitter of a port rests, or announces its rest (R396). -/
def State.resting (s : State) (p : Nat) : Bool := s.lan.ei.get p 0 != 0

def sumOf {α : Type} (l : List α) (f : α → Nat) : Nat := l.foldl (fun n x => n + f x) 0
def ceilDiv (a b : Nat) : Nat := (a + b - 1) / b

/-! ### Ports -/

/-- R379: lanes and speed of a port mode. -/
def modeLanes (m : Nat) : Nat := [1, 2, 1, 4, 2, 1, 8, 4, 2, 8, 4, 8].getD m 1
def modeMbps (m : Nat) : Nat := 1000 * [50, 100, 100, 200, 200, 200, 400, 400, 400, 800, 800, 1600].getD m 200
/-- The Ethernet rate of a port in Mb/s (R379, R560, R134). -/
def State.portMbps (s : State) (p : Nat) : Nat :=
  if p < 512 then modeMbps (s.rd F.LAN_PORT_CFG_MODE p) else if p < 517 then 200000
  else [10, 100, 1000].getD (s.rd F.MAC_MGMT_STATUS_SPEED) 1000
/-- R244, R229: the ticks of a transmission, and those with the minimum gap. -/
def txTicksOf (b mbps : Nat) : Nat := ceilDiv ((b + 8) * 6400) mbps
def gapTicksOf (b mbps : Nat) : Nat := ceilDiv ((b + 20) * 6400) mbps
/-- The port is in the active state (R389), or up (R412). -/
def State.portUp (s : State) (p : Nat) : Bool :=
  if p < 512 then s.rd F.LAN_PORT_STATUS_STATE p == 5 else if p < 517 then true else s.on F.MAC_MGMT_STATUS_LINK
/-- A flap-hold runs on the port (R251). -/
def State.inFlap (s : State) (p : Nat) : Bool := decide (s.now < s.qsg.flap.get p 0)
/-- The port group that feeds a frame's pipeline (R5, R130, R133). -/
def Frame.group (f : Frame) : Nat :=
  let p := if f.port = 516 then f.ing else f.port
  if p < 512 then p / 32 else if p < 516 then 4 * (p - 512) else 15
/-- The group whose pipeline edits the copies of an egress port. -/
def egrGroup (p : Nat) : Nat := if p < 512 then p / 32 else if p < 516 then 4 * (p - 512) else 15
/-- The group whose pipeline edits a copy: each has its own recirculation path (R130, R133). -/
def Copy.group (c : Copy) : Nat := if c.egr = 516 then c.frame.group else egrGroup c.egr
/-- What takes `n` ticks of the internal path at the full core clock, in ticks: the path counts core clocks, two a tick at 1,600 MHz (R116,
R274, R306) (DEDUCED, log 85). -/
def State.pathTicks (s : State) (n : Nat) : Nat := ceilDiv (1600 * n) (s.rd F.PWR_STATUS_CORE_MHZ)
/-- The tick in which a copy selected now enters the egress PCS (R116, R228). -/
def State.selectEntry (s : State) : Nat := s.now + s.pathTicks 24
/-- The pipeline that serves a group now (R112, R490, R494). -/
def State.servingPipe (s : State) (g : Nat) : Option Nat :=
  match nth s.flt.pipes g .down with
  | .serving => some g
  | .failed => if (s.flt.takeOver.map Prod.fst) = some g ∧ s.flt.slotsTaken then some 16 else none
  | .down => none

/-! ### Bytes of a frame -/

/-- The FCS of a string of bytes as it is sent (R409, R416) (PRESUMED, log 31). -/
def fcsOf (b : Bytes) : Bytes := le 4 (crcOf 0 b)
/-- A stomped FCS: the good CRC-32 XOR 0xFFFF_FFFF (R68) (PRESUMED, log 31). -/
def stompOf (b : Bytes) : Bytes := le 4 (Nat.xor (crcOf 0 b) 0xFFFFFFFF)
/-- The bytes without the FCS. -/
def bodyOf (b : Bytes) : Bytes := b.take (b.length - 4)
def fcsGood (b : Bytes) : Bool := b.drop (b.length - 4) == fcsOf (bodyOf b)
def fcsStomped (b : Bytes) : Bool := b.drop (b.length - 4) == stompOf (bodyOf b)
/-- The frame without FCS as it is forwarded: a stripped trailer is gone (R69). -/
def Frame.payload (f : Frame) : Bytes := f.bytes.take (f.bytes.length - 4 - f.stripLen)
/-- Its length under R3 once a trailer is stripped. -/
def Frame.len (f : Frame) : Nat := f.bytes.length - f.stripLen
/-- The trailer stripped (R69). -/
def Frame.trailer (f : Frame) : Bytes := (f.bytes.drop (f.bytes.length - 4 - f.stripLen)).take f.stripLen
/-- The instant, in fine units, at which byte n of a frame has been detected at the rate of its port (DEDUCED, log 27). -/
def State.byteDetected (s : State) (f : Frame) (n : Nat) : Nat := f.det + n * 2048000 / s.portMbps f.ing
/-- The first tick that opens when byte n has been detected; 0 for a frame that no MAC received (DEDUCED, log 73). -/
def State.detectTick (s : State) (f : Frame) (n : Nat) : Nat := if f.det = 0 then 0 else ceilDiv (s.byteDetected f n) 320
/-- The same for the frame's last byte, as its length gives it while the frame is still arriving (DEDUCED, log 73). -/
def State.lastByteTick (s : State) (f : Frame) : Nat := max f.endTick (s.detectTick f f.bytes.length)
/-- R116: the tick before which no copy that is stored and forwarded enters the egress PCS: 112 ticks after the detection of the
frame's last byte (DEDUCED, log 73). -/
def State.storedEntry (s : State) (f : Frame) : Nat := if s.lastByteTick f = 0 then 0 else s.lastByteTick f + s.pathTicks 112
/-- The frame has ended, and a copy of it that is selected now enters the egress PCS no sooner than that (DEDUCED, log 73). -/
def State.stored (s : State) (f : Frame) : Bool := f.ended && decide (s.storedEntry f ≤ s.selectEntry)
/-- The bytes of a frame received so far: all of one whose end has been detected, else those detected by the end of the present
tick (R323) (DEDUCED, log 72). -/
def State.received (s : State) (f : Frame) : Bytes :=
  if f.ended then f.bytes else f.bytes.take ((320 * s.now + 319 - f.det) * s.portMbps f.ing / 2048000)

/-- R407: tagged, in generation g. -/
def State.isTagged (s : State) (g : Nat) (b : Bytes) : Bool :=
  beAt b 12 2 == 0x8100 || (s.onG g F.MAC_TPID_EN && beAt b 12 2 == s.rdG g F.MAC_TPID_VALUE)
/-- The PCP of the outer tag that the receive MAC recognises, or the port's default (R208, R407). -/
def State.outerPcp (s : State) (f : Frame) : Nat :=
  if s.isTagged f.gen f.bytes then byteAt f.bytes 14 / 32 else s.rd F.BUF_ING_PORT_CFG_DEFAULT_PCP f.ing

/-! ### Frame records (R320 to R323) -/

/-- A copy that stands for a frame before replication: EGR_PORT is 0x03FF (R320). -/
def Frame.whole (f : Frame) : Copy := { frame := f, egr := 0x3FF, queue := 0 }

/-- R322: the capture settings of a selector at a frame's admission. -/
def State.captureOf (s : State) (g sel : Nat) : Capture :=
  { sel := sel, active := bit (s.rdG g F.EVR_PHASE_POL_SEL_EN s.phase) sel && s.rdG g F.EVR_SEL_MODE sel != 0,
    mode := s.rdG g F.EVR_SEL_MODE sel, head128 := s.onG g F.EVR_SEL_HEAD_128 sel,
    onePer := s.onG g F.EVR_SEL_ONE_PER_FRAME sel }

/-- A copy whose record the spec asks for beside the selectors: it gives a FRAME_HEAD where no selector is active (DESIGN CHOICE, log 95). -/
def Copy.owesRecord (c : Copy) : Copy :=
  if c.cap.active then { c with cap := { c.cap with onePer := false } }
  else { c with cap := { c.cap with active := true, mode := 1, head128 := false, onePer := false } }

/-- The kind of a copy's record and the bytes it captures (R322, R323) (DEDUCED, log 72). -/
def State.captured (s : State) (c : Copy) : Nat × Bytes :=
  let b := s.received c.frame
  if c.cap.active then
    if c.cap.mode = 2 then (2, b) else (1, b.take (if c.cap.head128 then 128 else 64))
  else (1, b.take 64)

/-- View, epoch, UNCAL and HOLDOVER of an egress stamp under what was in effect at its tick (R55, R57, R64). -/
def State.egressStamp (s : State) (t : Tx) : Nat × Nat × Bool × Bool :=
  (s.stampView t.raw, s.stampEpoch t.raw, s.uncalFlag t.port, s.holdAt (t.raw / 16))

/-- The fixed part and the extensions of a frame record (R320). -/
def State.frameBody (s : State) (c : Copy) (fate reason : Nat) (tx : Option Tx) : Bytes :=
  let f := c.frame
  let cap := (s.captured c).2
  let seqExt := c.seqNo.isSome || f.passes != 0
  let skip := match tx with | some t => t.skip | none => false
  let strip := if f.ended then f.stripLen else 0
  let ext := b2n seqExt + b2n (strip != 0) * 4 + b2n skip * 8
  be 12 (tsRecord f.epoch f.view f.uncal f.hold)
    ++ (match tx with
        | some t =>
          let x := t.stamp.getD (s.egressStamp t)
          be 12 (tsRecord x.2.1 x.1 x.2.2.1 x.2.2.2) ++ be 8 (t.raw / 16) ++ be 1 (t.raw % 16 + f.gen * 16)
        | none => zeros 20 ++ be 1 (f.gen * 16))
    ++ be 1 fate ++ be 2 reason ++ be 2 f.ing ++ be 2 c.egr ++ be 1 (c.queue % 16 + c.path * 16) ++ be 1 c.pathId
    ++ be 2 (s.received f).length ++ be 2 cap.length ++ be 1 ext ++ be 1 (c.action / 2 ^ 41 % 16)
    ++ (if seqExt then be 8 (c.seqNo.getD 0) ++ be 1 f.passes ++ be 1 (b2n c.seqNo.isSome) ++ zeros 6 else [])
    ++ (if strip ≠ 0 then f.trailer ++ zeros (32 - f.stripLen) else [])
    ++ cap

/-- A frame record is due for a copy (R322): every fate but SENT; SENT under an active selector. -/
def Copy.recordDue (c : Copy) (fate : Nat) : Bool :=
  fate != 0 || (c.cap.active && !(c.cap.onePer && c.second == some true))

/-- Hand the record of a copy (R317, R318, R320). -/
def State.frameRecord (s : State) (c : Copy) (fate reason : Nat) (tx : Option Tx := none) : State :=
  if c.sample || c.noRecord || !c.recordDue fate then s
  else
    let f := c.frame
    let r : Record :=
      { kind := (s.captured c).1, flags := b2n f.replayed + b2n f.hold * 2 + b2n f.uncal * 4,
        unit := if fate = 4 then reasonUnit reason else 15,
        inst := if c.egr = 0x3FF then f.ing else c.egr,
        sub := f.raw % 16, epoch := f.epoch, tick := f.raw / 16,
        body := padTo 16 (s.frameBody c fate reason tx), optional := fate == 0,
        drop := if fate = 4 then some (f.ing, reason) else none, handed := s.now }
    s.hand r

/-! ### Cells of the shared buffer -/

def State.copies (s : State) : List Copy :=
  s.qsg.queue ++ s.qsg.held.map (fun h => h.copy) ++ s.qsg.seq.map (fun x => x.copy) ++ s.qsg.txs.filterMap (fun t => t.copy)
    ++ s.csma.retry.toList

/-- The queue of a copy (R225). -/
def Copy.q (c : Copy) : Nat := 16 * c.egr + c.queue % 16
/-- Cells that are charged to a queue (R203). -/
def State.queueCells (s : State) (q : Nat) : Nat :=
  sumOf (s.copies.filter (fun c => c.path == 0 && c.q == q)) (fun c => c.cells)
    + sumOf (s.buf.leaving.filter (fun l => l.queue == some q)) (fun l => l.cells)
/-- Cells of held and sequenced copies (R205). -/
def State.detCells (s : State) : Nat :=
  sumOf (s.copies.filter (fun c => c.path != 0)) (fun c => c.cells)
    + sumOf (s.buf.leaving.filter (fun l => l.queue == none)) (fun l => l.cells)
/-- MIN_CELLS of a queue's threshold profile. -/
def State.minCells (s : State) (q : Nat) : Nat := s.rd F.BUF_THR_PROF_MIN_MIN_CELLS (s.rd F.BUF_Q_CFG_PROFILE q)
/-- A queue's shared cells (R203), and those of the deterministic copies (R205). -/
def State.queueShared (s : State) (q : Nat) : Nat := s.queueCells q - s.minCells q
def State.detShared (s : State) : Nat := s.detCells - s.rd F.BUF_DET_RESERVE_CELLS
/-- shared_used (R202). -/
def State.sharedUsed (s : State) : Nat :=
  let qs := (s.copies.filter (fun c => c.path == 0)).map Copy.q ++ s.buf.leaving.filterMap (fun l => l.queue)
  sumOf qs.dedup (fun q => s.queueShared q) + s.detShared
/-- Ingress classes of a port that are lossless (R208). -/
def State.losslessClasses (s : State) (p : Nat) : List Nat :=
  if 512 ≤ p then []
  else match s.rd F.BUF_ING_PORT_CFG_MODE p with
    | 1 => [0]
    | 2 => (List.range 8).filter (fun c => bit (s.rd F.BUF_ING_PORT_CFG_PFC_EN p) c)
    | _ => []
/-- A field of a class of a port's ingress profile. -/
def State.ingProf (s : State) (f : Fld) (p c : Nat) : Nat := s.rd f (8 * s.rd F.BUF_ING_PORT_CFG_PROFILE p + c)
/-- R202: the reserves. -/
def State.queueReserve (s : State) : Nat :=
  let l := s.listed F.BUF_Q_CFG_PROFILE
  (8288 - l.length) * s.rd F.BUF_THR_PROF_MIN_MIN_CELLS 0 + sumOf l (fun q => s.minCells q)
def State.hrReserve (s : State) : Nat :=
  sumOf (s.listed F.BUF_ING_PORT_CFG_MODE) (fun p =>
    sumOf (s.losslessClasses p) (fun c => s.ingProf F.BUF_ING_PROF_HEADROOM_HEADROOM p c))
def State.sharedTotal (s : State) : Nat :=
  s.rd F.BUF_STATUS_ACTIVE_CELLS
    - (s.queueReserve + s.rd F.BUF_DET_RESERVE_CELLS + s.hrReserve + s.rd F.BUF_SLACK_CELLS)
def State.sharedFree (s : State) : Nat := s.sharedTotal - s.sharedUsed

/-- Cells that are not free. -/
def State.usedCells (s : State) : List Nat :=
  s.buf.stored.flatMap (fun b => b.cells) ++ s.buf.leaving.flatMap (fun l => l.freed) ++ s.buf.lost
/-- The lowest number, from a candidate on, that a list does not hold. -/
def lowestFree (used : List Nat) : Nat → Nat → Nat
  | 0, c => c
  | n + 1, c => if used.contains c then lowestFree used n (c + 1) else c
/-- The lowest free cell of a bank (R196), if it is in service and has one. -/
def State.freeIn (s : State) (b : Nat) : Option Nat :=
  let used := s.usedCells.filter (fun c => c / 16384 == b)
  let c := lowestFree used used.length (b * 16384)
  if s.buf.retired.contains b ∨ 16384 * (b + 1) ≤ c then none else some c

/-- R197: n cells from successive banks in rotating order, in the order of the chain; none when the free store is
empty. -/
def State.alloc (s : State) : Nat → Option (List Nat × State)
  | 0 => some ([], s)
  | n + 1 =>
    let order := (List.range 60).map (fun i => (s.buf.nextBank + i) % 60)
    match order.findSome? (fun b => s.freeIn b) with
    | none => none
    | some c =>
      let s' := s.setBuf (fun b => { b with lost := b.lost ++ [c], nextBank := (c / 16384 + 1) % 60 })
      match State.alloc s' n with
      | none => none
      | some (cs, t) => some (c :: cs, t.setBuf (fun b => { b with lost := s.buf.lost }))

/-! ### What the stores show (R253, R278, R296) -/

def Held.k (h : Held) : Nat := h.copy.pathId
/-- The copies that hold a slot: those that wait, and those on their way to the PCS that have not entered it (R265). -/
def State.slotCopies (s : State) : List Copy :=
  s.qsg.held.map (fun h => h.copy)
    ++ s.qsg.txs.filterMap (fun t => if s.now < t.start then t.held.map (fun h => h.copy) else none)
/-- The registers that show the holding slots of a port, its group and a profile (R278). -/
def State.showHeld (s : State) (p k : Nat) : State :=
  let l := s.slotCopies
  let n := (l.filter (fun c => c.egr == p)).length
  let free := 16384 - (l.filter (fun c => c.egr / 32 == p / 32)).length
  ((((s.wr F.CLR_PROF_HELD_COPIES k (l.filter (fun c => c.pathId == k)).length).wr F.CLR_GRP_STATUS_FREE (p / 32) free).wr
    F.CLR_PORT_HOLD_STATUS_HELD p n).rcMin F.CLR_GRP_STATUS_LOW (p / 32) free).rcMax
    F.CLR_PORT_HOLD_STATUS_HWM p n
/-- The copies that hold a descriptor of the store: one released early has given its own up (R289, R290). -/
def State.seqStored (s : State) : List SeqCopy := s.qsg.seq.filter (fun x => !x.early)
/-- The registers that show an instance's store (R296, R297). -/
def State.showSeq (s : State) (m : Nat) : State :=
  let n := (s.seqStored.filter (fun x => x.inst == m)).length
  ((s.wr F.MSQ_INST_STATUS_HELD m n).rcMax F.MSQ_HWM_HELD_MAX m n).wr
    F.MSQ_STATUS_POOL_FREE 0 (131072 - s.seqStored.length)
/-- R396: something waits for these ports as the tick opens. -/
def State.touchWaiting (s : State) : State :=
  let ports := s.qsg.queue.map (fun c => c.egr) ++ s.qsg.held.map (fun h => h.copy.egr) ++ s.qsg.seq.map (fun x => x.copy.egr)
    ++ s.buf.flow.map (fun x => x.port)
  ports.dedup.foldl State.touch s
/-- R253: the depth of a queue in this tick, for HWM_CELLS. -/
def State.markDepth (s : State) (q : Nat) : State :=
  let d := s.queueCells q
  s.setQsg (fun x => { x with hwmTick := x.hwmTick.put q (max d (x.hwmTick.get q 0)) 0 })
/-- R10, R253: what a tick's events have given the queues' read-to-clear words joins them as it ends. -/
def State.mergeDepths (s : State) : State :=
  s.setQsg (fun q => { q with
    hwm := q.hwmTick.foldl (fun m x => m.put x.1 (max x.2 (m.get x.1 0)) 0) q.hwm
    maxSoj := q.sojTick.foldl (fun m x => m.put x.1 (max x.2 (m.get x.1 0)) 0) q.maxSoj
    hwmTick := [], sojTick := [] })
/-- The boundary: a slot is free once its copy has entered the PCS (R265), and what stands in the stores counts in the tick that opens
(R253, R278, R296). -/
def State.showStores (s : State) : State :=
  let held := s.qsg.held.map (fun h => h.copy) ++ s.qsg.txs.filterMap (fun t => t.held.map (fun h => h.copy))
  let s := ((held.map (fun c => (c.egr, c.pathId))).dedup).foldl (fun s x => s.showHeld x.1 x.2) s
  let s := (s.qsg.seq.map (fun x => x.inst)).dedup.foldl (fun s m => s.showSeq m) s
  ((s.qsg.queue.map Copy.q).dedup.foldl (fun s q => s.markDepth q) s).touchWaiting

/-! ### Flow control (R208 to R210) -/

/-- class_used + hr_used of a class. -/
def State.classUse (s : State) (p c : Nat) : Nat :=
  sumOf (s.buf.stored.filter (fun b => b.port == p && b.cls == c)) (fun b => b.classCells + b.hrCells)
    + sumOf (s.buf.leaving.filter (fun l => l.port == p && l.cls == c)) (fun l => l.classCells + l.hrCells)
def State.hrUse (s : State) (p c : Nat) : Nat :=
  sumOf (s.buf.stored.filter (fun b => b.port == p && b.cls == c)) (fun b => b.hrCells)
    + sumOf (s.buf.leaving.filter (fun l => l.port == p && l.cls == c)) (fun l => l.hrCells)

/-- R209: the flow-control frame of a port: quanta for every class in XOFF, 0 for the classes of `ended`. -/
def State.flowFrame (s : State) (p ended : Nat) : Bytes :=
  let xoff := s.rd F.BUF_ING_PORT_STATE_XOFF_STATE p
  let quanta := s.rd F.BUF_ING_PORT_FC_QUANTA p
  let head := be 6 0x0180C2000001 ++ be 6 (s.rd2 F.MAC_PORT_SA_LO_VALUE F.MAC_PORT_SA_HI_VALUE p) ++ be 2 0x8808
  let body :=
    if s.rd F.BUF_ING_PORT_CFG_MODE p = 1 then be 2 1 ++ be 2 (if bit xoff 0 then quanta else 0)
    else be 2 0x0101 ++ be 2 (xoff ||| ended)
      ++ (List.range 8).flatMap (fun c => be 2 (if bit xoff c then quanta else 0))
  let b := head ++ body
  let b := b ++ zeros (60 - b.length)
  b ++ fcsOf b

/-- The port's MAC queues a flow-control frame; none is sent while the port is down (R209) (DEDUCED, log 39). -/
def State.sendFlow (s : State) (p ended : Nat) : State :=
  if s.portUp p then
    ((s.touch p).setBuf (fun b => { b with flow := b.flow ++ [⟨p, s.flowFrame p ended⟩], flowTick := b.flowTick.put p s.now 0 })).bump 7 4
  else s

/-- A transition of a class (R209): counted and recorded (DEDUCED, log 39). -/
def State.flowTransition (s : State) (p c : Nat) (xoff : Bool) : State :=
  let cur := s.rd F.BUF_ING_PORT_STATE_XOFF_STATE p
  let s := s.wr F.BUF_ING_PORT_STATE_XOFF_STATE p (if xoff then cur ||| 2 ^ c else cur - 2 ^ c)
  ((s.bump 7 3).eventRec 7 p s.now 7 p c (b2n xoff)).sendFlow p (if xoff then 0 else 2 ^ c)

/-- R209, R210: what the use of a class asks for; `forced` for a frame charged to headroom. -/
def State.flowClass (s : State) (p c : Nat) (forced : Bool) : State :=
  let use := s.classUse p c
  let hold := s.buf.early && s.on F.BUF_GLOBAL_EW_PAUSE_ALL
  let isOff := bit (s.rd F.BUF_ING_PORT_STATE_XOFF_STATE p) c
  if !isOff && (forced || hold || decide (s.ingProf F.BUF_ING_PROF_XOFF_XOFF p c ≤ use)) then s.flowTransition p c true
  else if isOff && !hold && !forced && decide (use ≤ s.ingProf F.BUF_ING_PROF_XON_XON p c) then s.flowTransition p c false
  else s

/-- The lossless classes of a port are judged anew. -/
def State.flowCheck (s : State) (p : Nat) : State :=
  (s.losslessClasses p).foldl (fun s c => s.flowClass p c false) s

/-- Cells in service (R222): a retired bank counts until the last of its live cells is freed (R218). -/
def State.activeCells (s : State) : Nat :=
  let used := s.usedCells
  983040 - 16384 * (s.buf.retired.filter (fun b => used.all (fun c => c / 16384 != b))).length
/-- Cells that an allocation can still take. -/
def State.freeCells (s : State) : Nat :=
  16384 * (60 - s.buf.retired.length) - (s.usedCells.filter (fun c => !s.buf.retired.contains (c / 16384))).length

/-- The registers that show the free store and the shared region (R222), and the early warning of R210. -/
def State.refreshBuf (s : State) : State :=
  let s := s.wr F.BUF_STATUS_ACTIVE_CELLS 0 s.activeCells
  let free := s.sharedFree
  let lim := s.rd F.BUF_GLOBAL_EW_CELLS
  let s := ((s.wr F.BUF_FREE_CELLS 0 s.freeCells).wr F.BUF_SHARED_USED 0
    s.sharedUsed).wr F.BUF_SHARED_TOTAL_TOTAL 0 s.sharedTotal
  if !s.buf.early && decide (free < lim) then
    let s := (s.setBuf (fun b => { b with early := true })).raiseBits F.BUF_INT_STATUS_GLOBAL_EW 0 1
    (s.listed F.BUF_ING_PORT_CFG_MODE).foldl (fun s p => s.flowCheck p) s
  else if s.buf.early && decide (lim + lim / 8 ≤ free) then
    let s := s.setBuf (fun b => { b with early := false })
    (s.listed F.BUF_ING_PORT_CFG_MODE).foldl (fun s p => s.flowCheck p) s
  else s

/-! ### Giving buffers back (R198 to R201) -/

/-- R200: a free that is refused leaves the buffer untouched. -/
def State.refuseFree (s : State) (reason handle requester : Nat) : State :=
  let s := (s.raiseFault 31 1 1 reason handle).raiseBits F.BUF_INT_STATUS_DISCIPLINE 0 1
  let s := if s.on F.BUF_DISC_LOG_VALID then s
    else (((((s.wr F.BUF_DISC_LOG_HANDLE 0 handle).wr F.BUF_DISC_LOG_REQUESTER 0 requester).wr F.BUF_DISC_LOG_REASON 0
      reason).raiseBits F.BUF_DISC_LOG_VALID 0 1).wr2 F.BUF_DISC_LOG_TICK_LO_VALUE F.BUF_DISC_LOG_TICK_HI_VALUE 0 s.now)
  (s.bump 7 2 reason).eventRec 7 0 s.now 5 handle requester reason

/-- A decrement of a packet buffer named by its first cell, with the owner code presented (R199, R200). One that comes after the count has
fallen to 0 in its tick is the excess of R201. -/
def State.freeRef (s : State) (handle requester : Nat) : State :=
  match s.buf.stored.find? (fun b => b.cells.head? == some handle) with
  | some b =>
    if requester ≠ 1 then s.refuseFree 1 handle requester
    else if 1 < b.count then
      s.setBuf (fun x => { x with stored := x.stored.map (fun y => if y.id = b.id then { y with count := y.count - 1 } else y) })
    else
      s.setBuf (fun x => { x with
        stored := x.stored.filter (fun y => y.id != b.id)
        leaving := x.leaving ++ [⟨some 0, 0, b.cells, b.port, b.cls, b.classCells, b.hrCells⟩] })
  | none =>
    if s.buf.stored.any (fun b => b.cells.contains handle) then s.refuseFree 2 handle requester
    else if s.buf.leaving.any (fun l => l.freed.head? == some handle) then s.refuseFree 3 handle requester
    else s.refuseFree 0 handle requester

/-- A copy gives its reference back: its charge stands until the next boundary (R198) (DEDUCED, log 28). -/
def State.release (s : State) (c : Copy) : State :=
  let s := s.setBuf (fun x => { x with
    leaving := x.leaving ++ [⟨if c.path = 0 then some c.q else none, c.cells, [], 0, 0, 0, 0⟩] })
  match c.buf with
  | none => s
  | some id =>
    match s.buf.stored.find? (fun b => b.id == id) with
    | some b => s.freeRef (b.cells.headD 0) 1
    | none => s

/-- The boundary: what left in the tick before is free, and classes may fall to XON (R198, R209) (DEDUCED, log 28). -/
def State.bufBoundary (s : State) : State :=
  match s.buf.leaving with
  | [] => s
  | l =>
    let freed := l.flatMap (fun x => x.freed)
    let s := s.setBuf (fun x => { x with leaving := [], marked := x.marked.filter (fun c => !freed.contains c) })
    ((l.filter (fun x => x.classCells + x.hrCells != 0)).map (fun x => x.port)).dedup.foldl (fun s p => s.flowCheck p)
      s.refreshBuf

/-- A bank that must be spared waits its turn (R217). -/
def State.askSparing (s : State) (bank : Nat) : State :=
  if 60 ≤ bank ∨ s.buf.retired.contains bank ∨ s.buf.spareReq.contains bank ∨ (s.buf.sparing.map (fun x => x.bank)) = some bank then s
  else s.setBuf (fun b => { b with spareReq := b.spareReq ++ [bank] })

/-- R216, R217: an uncorrectable error in a cell: a DEGRADED fault, and its bank must be spared. -/
def State.noteUncorrectable (s : State) (cell : Nat) : State :=
  ((s.raiseFault 30 2 1 (cell / 16384) cell).raiseBits F.BUF_INT_STATUS_ECC_UNCORR 0 1).askSparing (cell / 16384)

/-- R216, R219: a cell found uncorrectable is marked, so that every copy in it meets the error. -/
def State.markCell (s : State) (cell : Nat) : State :=
  s.setBuf (fun b => { b with marked := if b.marked.contains cell then b.marked else b.marked ++ [cell] })
/-- The cells of a copy's buffer, in the order of its chain. -/
def State.cellsOf (s : State) (c : Copy) : List Nat :=
  match s.buf.stored.find? (fun b => some b.id == c.buf) with
  | some b => b.cells
  | none => []
/-- The cell of a copy that cannot be read: one marked before (R219), or the one of its chain in which the reader meets an uncorrectable
word. -/
def State.badCellOf (s : State) (c : Copy) (met : Option Nat) : Option Nat :=
  match (s.cellsOf c).find? (fun x => s.buf.marked.contains x) with
  | some x => some x
  | none => met.bind (fun i => (s.cellsOf c)[i]?)
/-- R216: an uncorrectable cell met at egress is counted against its bank, reported and marked. -/
def State.noteBadCell (s : State) (cell : Nat) : State := ((s.bump 7 8 (cell / 16384)).noteUncorrectable cell).markCell cell

/-! ### How a copy ends -/

/-- The interrupt flag of a drop reason, if its chapter has one. -/
def dropFlag (r : Nat) : Option Fld :=
  if r = 18 then some F.CLS_INT_STATUS_ECC_UNCORR
  else if r = 25 then some F.BUF_INT_STATUS_DET_DROP else if r = 26 then some F.BUF_INT_STATUS_EXHAUSTED
  else if r = 27 then some F.BUF_INT_STATUS_HEADROOM else if r = 28 ∨ r = 29 then some F.BUF_INT_STATUS_DEEP_FULL
  else if r = 30 then some F.BUF_INT_STATUS_ECC_UNCORR
  else if r = 38 then some F.QSG_INT_STATUS_GATE_OVERSIZE
  else if 39 ≤ r ∧ r ≤ 41 then some F.QSG_INT_STATUS_LAUNCH_DROP
  else if r = 42 ∨ r = 43 then some F.QSG_INT_STATUS_FLUSH else if r = 44 then some F.QSG_INT_STATUS_LIFETIME
  else if r = 46 then some F.CLR_INT_STATUS_HOLD_FULL else if r = 47 then some F.CLR_INT_STATUS_TOO_LATE
  else if r = 48 then some F.MSQ_INT_STATUS_SEQ_FULL else none

/-- A drop is counted and recorded (R112, R531); a sample copy is counted as a sample discard only (R135). -/
def State.noteDrop (s : State) (c : Copy) (reason : Nat) : State :=
  if c.sample then s.bump 0 5 c.frame.ing
  else
    let s := s.bumpDrop reason (if c.egr = 0x3FF then c.frame.ing else c.egr)
    let s := match dropFlag reason with
      | some f => s.raiseBits f 0 1
      | none => s
    s.frameRecord c 4 reason

/-- A copy that holds a reference is dropped. -/
def State.dropCopy (s : State) (c : Copy) (reason : Nat) : State := (s.noteDrop c reason).release c
/-- A frame is dropped before replication. -/
def State.dropFrame (s : State) (f : Frame) (reason : Nat) : State := s.noteDrop f.whole reason
/-- The same once its action is known: the selector it names may be active (R323). -/
def State.dropDecided (s : State) (f : Frame) (action reason : Nat) : State :=
  s.noteDrop { f.whole with action := action, cap := s.captureOf f.gen (action / 2 ^ 41 % 16) } reason

end Sys2Proof.Machine
end

