-- ==== Sys2Proof/Machine/TimeBase.lean ====
section
/-! DEFINITION. The time base and the common tick (R15 to R49): the voted Canopy, the followers, the time view, epochs
and snapshots. -/

namespace Sys2Proof.Machine

/-! ### The view's parameters -/

/-- The parameter registers show the set in force (R44). -/
def State.showParams (s : State) (p : ViewParams) : State :=
  ((((((s.wr2 F.TIM_ANCHOR_LO_VALUE F.TIM_ANCHOR_HI_VALUE 0 p.anchor).wr2 F.TIM_OFFSET_SEC_LO_VALUE
    F.TIM_OFFSET_SEC_HI_VALUE 0 (viewSec p.offset)).wr F.TIM_OFFSET_NS_VALUE 0 (viewNs p.offset)).wr
    F.TIM_OFFSET_FRAC_VALUE 0 (viewFrac p.offset)).wr F.TIM_RATE_VALUE 0 (ofS 32 p.rate)).wr
    F.TIM_EPOCH_CURRENT 0 p.epoch)

/-- A new parameter set takes effect in this tick; the 8 newest are kept (R56). -/
def State.setParams (s : State) (p : ViewParams) : State :=
  ({ s with tim := { s.tim with params := (p :: s.tim.params).take 8 } } : State).showParams p

/-- R23: the limit of Rate. -/
def rateLimit : Int := 2 ^ 29
def clampRate (r : Int) : Int := max (-rateLimit) (min rateLimit r)

/-- R24: re-anchor at this tick and set Rate, clamped under R23. -/
def State.setRate (s : State) (r : Int) : State :=
  let c := clampRate r
  let s := s.when (decide (c ≠ r)) (fun s => (s.bump 4 5).raiseBits F.TIM_INT_STATUS_RATE_CLAMPED 0 1)
  s.setParams { since := s.now, offset := s.viewAt s.now 0, anchor := s.now, rate := c, epoch := s.params.epoch }

/-- R26: the number of the epoch after this one. -/
def nextEpoch (e : Nat) : Nat := if e ≥ 255 then 1 else e + 1

/-! ### The servo's update of Rate (R83) -/

def State.setSyn (s : State) (f : Syn → Syn) : State := { s with syn := f s.syn }
def State.setServo (s : State) (f : Servo → Servo) : State := s.setSyn (fun y => { y with servo := f y.servo })
def State.setAssoc (s : State) (a : Nat) (f : Assoc → Assoc) : State :=
  s.setSyn (fun y => { y with assocs := upd y.assocs a f })
/-- A state of R84; a change is reported. -/
def State.servoState (s : State) (st : Nat) : State :=
  if s.rd F.SYN_SERVO_STATUS_STATE = st then s
  else (s.wr F.SYN_SERVO_STATUS_STATE 0 st).raiseBits F.SYN_INT_STATUS_STATE_CHANGE 0 1
/-- The four source codes, first preference first. -/
def State.srcOrder (s : State) : List Nat :=
  let o := s.rd F.SYN_SERVO_SRC_ORDER
  [bits o 3 0, bits o 7 4, bits o 11 8, bits o 15 12].filter (fun c => c < 6)

/-- The nominal interval of a source in nanoseconds (R82). -/
def State.srcInterval (s : State) (src : Nat) : Nat :=
  if src < 4 then
    let l := toS 8 (s.rd F.SYN_ASSOC_CTRL_LOG_SYNC src)
    if l < 0 then 1000000000 / 2 ^ l.natAbs else 1000000000 * 2 ^ l.toNat
  else 1000000000

/-- R83: the Rate from a measurement, with the slew limit of the phase in effect (DEDUCED, log 34). -/
def State.feed (s : State) (src : Nat) (theta : Int) : State :=
  let e := Int.fdiv (theta * 2 ^ 24) (s.srcInterval src)
  let slew : Int := (s.rd F.SYN_PHASE_SLEW_PPB s.phase * 2 ^ 40 / 1000000000 : Nat)
  let p := Int.fdiv e (2 ^ s.rd F.SYN_SERVO_CTRL_KP_SHIFT)
  let f := s.rdS F.SYN_FREQ_VALUE
  if (p.natAbs : Int) > slew then
    s.setRate (f + (if p < 0 then -slew else slew))
  else
    let f' := clampRate (f + Int.fdiv e (2 ^ s.rd F.SYN_SERVO_CTRL_KI_SHIFT))
    (s.wr F.SYN_FREQ_VALUE 0 (ofS 32 f')).setRate (f' + p)

/-- R84 to R86: a step that sets or moves the time while the servo is on: ACQUIRING, and every count begins anew (DEDUCED, log 34). -/
def State.stepTaken (s : State) : State :=
  if s.on F.SYN_SERVO_CTRL_ENABLE then
    (s.servoState 2).setServo (fun v => { v with meas := none, excRun := 0, lockRun := 0, slackRun := 0 })
  else s

/-- R27: a new epoch opens in this tick with a new Offset. -/
def State.openEpoch (s : State) (offset : Nat) : State :=
  let e := nextEpoch s.params.epoch
  let s := s.setParams { since := s.now, offset := offset, anchor := s.now, rate := s.params.rate, epoch := e }
  let s := { s with tim := { s.tim with epochTick := some s.now } }
  let s := (s.wr2 F.TIM_LAST_EPOCH_LO_VALUE F.TIM_LAST_EPOCH_HI_VALUE 0 s.now).wr F.TIM_STATUS_TIME_VALID 0 1
  (((s.raiseBits F.TIM_INT_STATUS_EPOCH_CHANGE 0 1).bump 4 4).stepTaken).timeState 1

/-- R28, R88: steps are permitted in the phase in effect, and always while the epoch is 0. -/
def State.stepAllowed (s : State) : Bool := s.on F.SYN_PHASE_STEP_ALLOWED s.phase || s.epoch == 0

/-! ### Voting -/

/-- The counter after a boundary: reloaded with Canopy + 1, or counted on, then upset (R15, R17, R19, R20) (DEDUCED, log 59). -/
def counterStep (canopy : Nat) (load : Bool) (v upset : DWord) : DWord :=
  (if load then BitVec.ofNat 64 (canopy + 1) else v + 1) ^^^ upset

/-- What the voter finds in the active counters (R17, R19). -/
inductive Verdict
  | agree (v : DWord)
  /-- Exactly one of three disagrees: the value of the others, and the odd counter. -/
  | odd (v : DWord) (i : Nat)
  | none
deriving DecidableEq, Repr

/-- R17, R19: the vote over the active counters (DEDUCED, log 59). -/
def vote (active : Nat) (a b c : DWord) : Verdict :=
  if active % 8 = 7 then
    if a = b then (if b = c then .agree a else .odd a 2)
    else if a = c then .odd a 1
    else if b = c then .odd b 0
    else .none
  else
    let x := if bit active 0 then a else b
    let y := if bit active 2 then c else b
    if x = y then .agree x else .none

/-- Ticks of disagreement inside the sliding second that ends now (R18), with one more when `hit`. -/
def oddTicks (now : Nat) (l : List Nat) (hit : Bool) : List Nat :=
  (if hit then [now] else []) ++ l.filter (fun t => now < t + 800000000)

/-- The disagreement ticks of counter i. -/
def Voter.odds (v : Voter) (i : Nat) : List Nat := if i = 0 then v.oddA else if i = 1 then v.oddB else v.oddC

/-- Count disagreements of the counters in a mask (R18). -/
def State.countOdd (s : State) (mask : Nat) : State :=
  let v := s.tim.voter
  { s with tim := { s.tim with voter := { v with
      oddA := oddTicks s.now v.oddA (bit mask 0)
      oddB := oddTicks s.now v.oddB (bit mask 1)
      oddC := oddTicks s.now v.oddC (bit mask 2) } } }

/-- Record a disagreement of the counters in a mask (R44, R47) and reload them at the next boundary (R17, R19). -/
def State.noteOdd (s : State) (mask : Nat) : State :=
  let s := (s.wr2 F.TIM_VOTE_LAST_LO_VALUE F.TIM_VOTE_LAST_HI_VALUE 0 s.now).wr F.TIM_VOTE_STATUS_LAST_ODD 0 mask
  let v := s.tim.voter
  ({ s with tim := { s.tim with voter := { v with reload := v.reload ||| mask } } }.countOdd mask).bump 4 1

/-- R18: retire counter i when its count has reached the limit; it is the odd one of this disagreement (DESIGN CHOICE, log 75). -/
def State.retireIfDue (s : State) (i : Nat) : State :=
  let lim := s.rd F.TIM_VOTE_CTRL_RETIRE_LIMIT
  if lim ≠ 0 ∧ lim ≤ (s.tim.voter.odds i).length then
    let act := s.rd F.TIM_VOTE_STATUS_ACTIVE - 2 ^ i
    let s := (s.wr F.TIM_VOTE_STATUS_ACTIVE 0 act).wr F.TIM_STATUS_VOTERS 0 act
    ((s.raiseBits F.TIM_INT_STATUS_RETIRED 0 1).bump 4 2).raiseFault 1 2 1 i s.now
  else s

/-- A rejoining counter is compared: one more tick of agreement, or back to the retired state (R20). -/
def State.compareRejoin (s : State) (canopy : Nat) (i : Nat) : State :=
  let rj := s.rd F.TIM_VOTE_STATUS_REJOINING
  let v := s.tim.voter
  if bit rj i then
    let x := if i = 0 then v.a else if i = 1 then v.b else v.c
    if x = BitVec.ofNat 64 canopy then
      { s with tim := { s.tim with voter := { v with
          agreeA := if i = 0 then v.agreeA + 1 else v.agreeA
          agreeB := if i = 1 then v.agreeB + 1 else v.agreeB
          agreeC := if i = 2 then v.agreeC + 1 else v.agreeC } } }
    else s.wr F.TIM_VOTE_STATUS_REJOINING 0 (rj - 2 ^ i)
  else s

/-- The Canopy of the tick that opens becomes the voter's value. -/
def State.setCanopy (s : State) (c : Nat) : State :=
  ({ s with tim := { s.tim with canopy := c } } : State).wr2 F.TIM_CANOPY_LO_VALUE F.TIM_CANOPY_HI_VALUE 0 c

/-- The counters advance over the boundary. -/
def State.advanceCounters (s : State) (ua ub uc : DWord) : State :=
  let v := s.tim.voter
  let can := s.tim.canopy
  { s with tim := { s.tim with voter := { v with
      a := counterStep can (bit v.reload 0) v.a ua
      b := counterStep can (bit v.reload 1) v.b ub
      c := counterStep can (bit v.reload 2) v.c uc
      reload := 0 } } }

/-- The record of a one-step Sync that an epoch has crossed: it carries the value in the frame (R57, R320) (DESIGN CHOICE, log 76). -/
def State.crossingRecord (s : State) (p raw view epoch : Nat) : State :=
  let ts := tsRecord (s.stampEpoch raw) (s.stampView raw) (s.uncalFlag p) (s.holdAt (raw / 16))
  s.hand (s.mkRecord 1 15 p (raw / 16) (raw % 16) (zeros 12 ++ be 12 ts ++ be 8 (raw / 16)
    ++ be 1 (raw % 16 + s.rd F.SYS_CFG_GEN_CURRENT * 16) ++ zeros 3 ++ be 2 0x3FF ++ be 2 p ++ zeros 6 ++ be 1 2 ++ zeros 1
    ++ be 6 (viewSec view) ++ be 4 (viewNs view) ++ be 1 epoch ++ zeros 5))
/-- R57, R530: the one-step Syncs whose stamped tick ends; one whose epoch is no longer that written into it has crossed (DESIGN CHOICE, log 76). -/
def State.countCrossings (s : State) : State :=
  let gone := s.syn.oneStep.filter (fun x => decide (x.2.1 / 16 ≤ s.now))
  let s := s.setSyn (fun y => { y with oneStep := y.oneStep.filter (fun x => decide (s.now < x.2.1 / 16)) })
  gone.foldl (fun s x => if s.stampEpoch x.2.1 = x.2.2.2 then s
    else ((s.bump 1 5 x.1).bump 4 8).crossingRecord x.1 x.2.1 x.2.2.1 x.2.2.2) s
/-- R55, R57, R64: the egress stamps whose tick has come, as that tick leaves them. -/
def State.formStamps (s : State) : State :=
  s.setQsg (fun q => { q with txs := q.txs.map (fun t =>
    if t.stamp.isNone && decide (t.raw / 16 ≤ s.now) then { t with stamp := some (s.egressStamp t) } else t) })
/-- The same of the PTP engine's own messages (R57, R79, R81). -/
def State.formSent (s : State) : State :=
  let now := fun (raw : Nat) => raw / 16 == s.now
  s.setSyn (fun y => { y with
    assocs := y.assocs.map (fun a => { a with dreq := a.dreq.map (fun d =>
      if now d.raw then { d with t3 := (s.stampView d.raw : Nat), t3Epoch := s.stampEpoch d.raw } else d) })
    mports := y.mports.map (fun x => if now x.pdRaw then { x with pdT1 := x.pdT1.map (fun _ => (s.stampView x.pdRaw : Nat)) } else x)
    ptpSent := y.ptpSent.map (fun m => match m.raw with
      | some r => if now r then { m with time := s.stampView r } else m
      | none => m) })
/-- HOLDOVER as the tick leaves it, kept for the stamps of this tick that are formed later (R64). -/
def State.noteHold (s : State) : State :=
  let l := s.tim.holds
  if (l.head?.map Prod.snd) = some s.holdoverFlag then s
  else { s with tim := { s.tim with
    holds := (s.now, s.holdoverFlag) :: (l.filter (fun x => decide (s.now < x.1 + 2048)) ++ (l.filter (fun x => decide (x.1 + 2048 ≤ s.now))).take 1) } }

/-! ### Timed outputs (R96, R99, R100) -/

/-- The raw form, in sub-ticks, of a view instant in a tick: the first sub-tick whose view reaches it (DEDUCED, log 77). -/
def State.rawIn (s : State) (tick : Nat) (v : Nat) : Nat :=
  16 * tick + ((List.range 16).find? (fun k => decide (v ≤ s.viewAt tick k))).getD 15
/-- A trailing edge whose target lies within 4 ticks of the tick that ends, or behind it, is fixed (R100) (DEDUCED, log 77). -/
def State.fixFall (s : State) (x : OutPin) : OutPin :=
  match x.fall, x.pulse with
  | some v, some (a, _) => if v < s.viewAt (s.now + 5) 0 then { x with pulse := some (a, s.rawIn (s.now + 4) v), fall := none } else x
  | _, _ => x
def State.fixFalls (s : State) : State :=
  s.setSyn (fun y => { y with evto := y.evto.map s.fixFall, ppsOut := y.ppsOut.map s.fixFall })

/-- What ends with a tick: all its increments apply together (R534), its stamps are formed, its marks are gone (R10, R319) (DEDUCED, log 10). -/
def State.closeTick (s : State) : State :=
  let s := (s.formStamps.formSent.countCrossings.noteHold.fixFalls).rcMerge.mergeDepths
  { s with
    cnt := s.cntTick.foldl (fun m kv => m.put kv.1 ((m.get kv.1 0 + kv.2) % 2 ^ 64) 0) s.cnt
    cntTick := []
    hwSet := []
    rwSet := []
    ran := []
    tim := { s.tim with followerReload := 0 }
    fwd := { s.fwd with slotsUsed := [] }
    evr := { s.evr with acceptedBytes := 0 } }

/-- R15, R17 to R19: the boundary passes, the counters count, and the voter gives the Canopy of the new tick; what was
freed in the tick that ends is free (R198) (DEDUCED, log 59). -/
def State.tick (s : State) (ua ub uc : DWord) : State :=
  let prev := s.tim.canopy
  let s := (s.closeTick).advanceCounters ua ub uc
  let act := s.rd F.TIM_VOTE_STATUS_ACTIVE
  let v := s.tim.voter
  let s := match vote act v.a v.b v.c with
    | .agree x => s.setCanopy x.toNat
    | .odd x i =>
      let s := s.setCanopy x.toNat
      (((s.noteOdd (2 ^ i)).raiseBits F.TIM_INT_STATUS_DISAGREE 0 1).raiseFault 1 1 2 i s.now).retireIfDue i
    | .none =>
      let s := s.setCanopy ((prev + 1) % 2 ^ 64)
      (((s.noteOdd act).raiseBits F.TIM_INT_STATUS_NO_MAJORITY 0 1).raiseFault 1 3 3 0 s.now).timeState 2
  (((s.compareRejoin s.now 0).compareRejoin s.now 1).compareRejoin s.now 2).bufBoundary.showStores.refreshQuotes

/-- One follower is compared (R21). -/
def State.compareFollower (s : State) (bad : Nat) (g : Nat) : State :=
  if bit bad g then
    let last := nth s.tim.followerGood g 0
    let s := ((s.raiseBits F.TIM_FOLLOW_STATUS_MISMATCH 0 (2 ^ g)).raiseBits F.TIM_INT_STATUS_FOLLOW_MISMATCH 0 1)
    let s := { s with tim := { s.tim with followerReload := s.tim.followerReload ||| 2 ^ g } }
    ((s.bump 4 3).raiseFault 1 4 1 g s.now).eventRec 1 g s.now 1 g last (s.now + 1)
  else { s with tim := { s.tim with followerGood := upd s.tim.followerGood g (fun _ => s.now) } }

/-- FOLLOWER_COMPARE (R21): in a tick that is a multiple of 64. The operand names the followers found wrong. -/
def execFollowerCompare (bad : BitVec 16) (s : State) : Host.Outcome State Fault Refusal :=
  .next (s.once 3 (s.clocked && s.now % 64 == 0)
    (fun s => (List.range 16).foldl (fun s g => s.compareFollower bad.toNat g) s))

/-- R20: a REJOIN write loads each retired counter of the mask with Canopy + 1 at the next boundary; one that takes part in the vote, or
already runs in compare-only mode, is not retired. -/
def State.rejoin (s : State) (mask : Nat) : State :=
  let m := mask &&& (7 ^^^ (s.rd F.TIM_VOTE_STATUS_ACTIVE ||| s.rd F.TIM_VOTE_STATUS_REJOINING))
  let v := s.tim.voter
  { s.wr F.TIM_VOTE_STATUS_REJOINING 0 (s.rd F.TIM_VOTE_STATUS_REJOINING ||| m) with
    tim := { s.tim with voter := { v with
      reload := v.reload ||| m
      agreeA := if bit m 0 then 0 else v.agreeA
      agreeB := if bit m 1 then 0 else v.agreeB
      agreeC := if bit m 2 then 0 else v.agreeC } } }

/-- REJOIN_COMPLETE (R20): after 1,024 ticks in agreement the counter returns to the vote. -/
def execRejoinComplete (i : Fin 3) (s : State) : Host.Outcome State Fault Refusal :=
  let v := s.tim.voter
  let n := if i.val = 0 then v.agreeA else if i.val = 1 then v.agreeB else v.agreeC
  .next (s.when (s.clocked && bit (s.rd F.TIM_VOTE_STATUS_REJOINING) i.val && decide (1024 ≤ n)) (fun s =>
    let act := s.rd F.TIM_VOTE_STATUS_ACTIVE ||| 2 ^ i.val
    ((s.wr F.TIM_VOTE_STATUS_REJOINING 0 (s.rd F.TIM_VOTE_STATUS_REJOINING - 2 ^ i.val)).wr
      F.TIM_VOTE_STATUS_ACTIVE 0 act).wr F.TIM_STATUS_VOTERS 0 act))

/-! ### Rate and steps -/

/-- R44: a write of Rate is armed for the next boundary; it is refused while the servo is enabled. -/
def State.armRate (s : State) (value : Nat) : Except Status State := do
  need (!s.on F.SYN_SERVO_CTRL_ENABLE) .notPermitted
  pure { s with tim := { s.tim with armedRate := some (s.now, toS 32 value) } }

/-- The Rate that is due at this boundary. -/
def State.rateDue (s : State) : Option Int :=
  match s.tim.armedRate with
  | some (t, r) => if t < s.now then some r else none
  | none => none

/-- The target staged in the step registers (R28), in units of 2⁻¹⁶ ns. -/
def State.stepTarget (s : State) (relative : Bool) : Int :=
  let sec := s.rd2 F.TIM_STEP_SEC_LO_VALUE F.TIM_STEP_SEC_HI_VALUE
  let rest : Int := (s.rd F.TIM_STEP_NS_VALUE * 65536 + s.rd F.TIM_STEP_FRAC_VALUE : Nat)
  (if relative then toS 48 sec else (sec : Int)) * (unitsPerSec : Nat) + rest

/-- R28, R46: a write of GO with MODE arms the step for the next boundary. -/
def State.stepGo (s : State) (relative : Bool) : Except Status State := do
  need (!s.on F.TIM_STEP_CTRL_PENDING) .busy
  need s.stepAllowed .notPermitted
  let st : ArmedStep := ⟨s.now, relative, s.stepTarget relative, false, false⟩
  let s : State := { s with tim := { s.tim with armedStep := some st } }
  pure ((s.wr F.TIM_STEP_CTRL_MODE 0 (b2n relative)).wr F.TIM_STEP_CTRL_PENDING 0 1)

/-- The Offset a step gives at this boundary (R28, R86, R87). -/
def State.stepOffset (s : State) (st : ArmedStep) : Nat :=
  if st.relative then viewWrap ((s.viewAt s.now 0 : Nat) + st.amount) else viewWrap st.amount

/-- R85: the servo enters SLEWING with a DEGRADED fault. -/
def State.enterSlewing (s : State) (theta : Int) : State :=
  if s.rd F.SYN_SERVO_STATUS_STATE = 4 then s
  else ((s.servoState 4).raiseBits F.SYN_INT_STATUS_SLEW_FAULT 0 1).raiseFault 2 1 1 (s.rd F.SYN_SERVO_STATUS_SOURCE) (ofS 64 theta)

/-- A step that is due at this boundary. -/
def dueStep (now : Nat) (st : Option ArmedStep) : Option ArmedStep :=
  match st with
  | some x => if x.tick < now then some x else none
  | none => none

/-- The servo's own step at this boundary (R86, R87): dropped where the phase no longer allows it, it enters SLEWING and feeds θ. -/
def State.servoStep (s : State) (st : ArmedStep) : State :=
  let s := { s with tim := { s.tim with servoStep := none } }
  if st.first || s.stepAllowed then (s.openEpoch (s.stepOffset st)).raiseBits F.SYN_INT_STATUS_STEP 0 1
  else ((s.raiseBits F.SYN_INT_STATUS_STEP_DROPPED 0 1).enterSlewing st.amount).feed (s.rd F.SYN_SERVO_STATUS_SOURCE) st.amount

/-- The register step at this boundary (R28): applied with a servo step of the same tick dropped (R86), or dropped. -/
def State.registerStep (s : State) (st : ArmedStep) : State :=
  let s := ({ s with tim := { s.tim with armedStep := none } } : State).wr F.TIM_STEP_CTRL_PENDING 0 0
  if s.stepAllowed then
    ({ s with tim := { s.tim with servoStep := none } } : State).openEpoch (s.stepOffset st)
  else (s.raiseBits F.TIM_INT_STATUS_STEP_DROPPED 0 1).bump 4 6

/-- The epoch change that is due in this tick (R27), at most one (R26). -/
def State.epochDue (s : State) : State :=
  if s.tim.epochTick = some s.now then s
  else
    let s := match dueStep s.now s.tim.armedStep with
      | some st => s.registerStep st
      | none => s
    match dueStep s.now s.tim.servoStep with
    | some st => if s.tim.epochTick = some s.now then s else s.servoStep st
    | none => s
/-- The Rate of a register write that is due in this tick (R24). -/
def State.rateNow (s : State) : State :=
  match s.rateDue with
  | some r => ({ s with tim := { s.tim with armedRate := none } } : State).setRate r
  | none => s

/-- EPOCH_CHANGE (R27). -/
def execEpochChange (s : State) : Host.Outcome State Fault Refusal :=
  .next (s.when s.clocked (fun s => s.epochDue.refreshQuotes))

/-- RATE_APPLY (R24): at the boundary after the write, Offset is set to the view, the anchor to this tick, and Rate
to the value, clamped under R23; an epoch change of the tick comes before it (R32). -/
def execRateApply (s : State) : Host.Outcome State Fault Refusal :=
  .next (s.when s.clocked (fun s => s.epochDue.rateNow.refreshQuotes))

/-! ### Snapshots -/

/-- R39, R49: TAKE in the seat's own group; DONE clears and the capture waits for the next boundary. -/
def State.snapTake (s : State) (seat group : Nat) : Except Status State := do
  need (seat == group) .notOwner
  let s : State := { s with tim := { s.tim with snapReq := upd s.tim.snapReq group (fun _ => some s.now) } }
  pure (s.wr F.TIM_SNAP_CTRL_DONE group 0)

/-- The Canopy, the view and the epoch at this boundary, into group g (R39). -/
def State.snapCapture (s : State) (g : Nat) : State :=
  let v := s.viewAt s.now 0
  let s := (s.wr2 F.TIM_SNAP_RAW_LO_VALUE F.TIM_SNAP_RAW_HI_VALUE g s.now).wr2 F.TIM_SNAP_SEC_LO_VALUE
    F.TIM_SNAP_SEC_HI_VALUE g (viewSec v)
  let s := (((s.wr F.TIM_SNAP_NS_VALUE g (viewNs v)).wr F.TIM_SNAP_FRAC_VALUE g (viewFrac v)).wr
    F.TIM_SNAP_EPOCH_VALUE g s.epoch).wr F.TIM_SNAP_CTRL_DONE g 1
  { s with tim := { s.tim with snapReq := upd s.tim.snapReq g (fun _ => none) } }

/-! ### Start and lock -/

/-- R40: the counters leave reset together; the first tick has Canopy 0; the view reads the time since then. -/
def State.startTimeBase (s : State) : State :=
  let s : State := { s with tim := { s.tim with
      canopy := 0, voter := {}, params := [{}], armedRate := none, armedStep := none, servoStep := none
      epochTick := none } }
  let s := (s.setCanopy 0).showParams {}
  ((s.wr F.TIM_STATUS_RUN 0 1).wr F.TIM_STATUS_TPLL_LOCK 0 1).wr F.SYS_BOOT_STATUS_TBASE_RUN 0 1

/-- TIME_BASE_START (R40, R554 step 2). -/
def execTimeBaseStart (s : State) : Host.Outcome State Fault Refusal :=
  .next (s.when (!s.pins.porst && !s.pins.tripped && !s.on F.TIM_STATUS_RUN) State.startTimeBase)

/-- TPLL_UNLOCK (R42, R92): the TPLL keeps clocking; a CRITICAL fault; stamps carry HOLDOVER. -/
def execTpllUnlock (s : State) : Host.Outcome State Fault Refusal :=
  .next (s.when (s.clocked && s.on F.TIM_STATUS_TPLL_LOCK) (fun s =>
    let s := { s with tim := { s.tim with tpllHeld := true } }
    let s := ((s.wr F.TIM_STATUS_TPLL_LOCK 0 0).raiseBits F.TIM_INT_STATUS_TPLL_UNLOCK 0 1).wr
      F.SYN_SERVO_STATUS_REF_LOST 0 1
    (s.raiseFault 1 5 3 0 s.now).timeState 5))

end Sys2Proof.Machine
end

