-- ==== Sys2Proof/Machine/Sync.lean ====
section
/-! DEFINITION. PTP associations, the servo, the frequency references, PPS, time of day and the event pins
(R77 to R100). Scheduled actions stand in Action.lean. -/

namespace Sys2Proof.Machine

/-! ### Class 3 of the tick -/

/-- R86: the servo asks for a relative step by θ at this boundary. -/
def State.armServoStep (s : State) (m : Meas) (first : Bool) : State :=
  { s with tim := { s.tim with servoStep := some ⟨m.tick, true, m.theta, true, first⟩ } }

/-- R84: locking and losing lock on non-excursions. -/
def State.lockRule (s : State) (theta : Int) : State :=
  let st := s.rd F.SYN_SERVO_STATUS_STATE
  if theta.natAbs ≤ s.rd F.SYN_LOCK_NS_VALUE * 65536 then
    let n := s.syn.servo.lockRun + 1
    let s := s.setServo (fun v => { v with lockRun := n, slackRun := 0 })
    if st = 2 ∧ s.rd F.SYN_SERVO_CTRL_LOCK_COUNT ≤ n then s.servoState 3 else s
  else
    let n := s.syn.servo.slackRun + 1
    let s := s.setServo (fun v => { v with lockRun := 0, slackRun := n })
    if st = 3 ∧ 2 ≤ n then s.servoState 2 else s

/-- R85: an excursion outside SLEWING. -/
def State.excursion (s : State) (m : Meas) : State :=
  let neg := decide (m.theta < 0)
  let v := s.syn.servo
  let n := if v.excRun ≠ 0 ∧ v.excNeg = neg then v.excRun + 1 else 1
  let s := s.setServo (fun v => { v with excRun := n, excNeg := neg, lockRun := 0 })
  if n < s.rd F.SYN_SERVO_CTRL_STEP_CONFIRM then s.bump 4 12
  else if s.stepAllowed then s.armServoStep m false
  else (s.enterSlewing m.theta).feed m.src m.theta

/-- R83 to R87: what a measurement does at its boundary. -/
def State.servoUpdate (s : State) (m : Meas) : State :=
  let s := (s.setServo (fun v => { v with meas := none })).wr2 F.SYN_LAST_OFFSET_LO_VALUE F.SYN_LAST_OFFSET_HI_VALUE 0
    (ofS 64 m.theta)
  let exc := decide (s.rd F.SYN_PHASE_THRESH_NS s.phase * 65536 < m.theta.natAbs)
  if s.epoch = 0 then (if m.seconds then s.armServoStep m true else s)
  else if s.rd F.SYN_SERVO_STATUS_STATE = 4 then
    if exc then (if s.stepAllowed then s.armServoStep m false else s.feed m.src m.theta)
    else
      let s := (s.feed m.src m.theta).servoState 2
      s.setServo (fun v => { v with excRun := 0 })
  else if exc then s.excursion m
  else ((s.setServo (fun v => { v with excRun := 0 })).feed m.src m.theta).lockRule m.theta

/-- The servo's update for a measurement of a tick before this one (R82). -/
def State.servoDue (s : State) : State :=
  match s.syn.servo.meas with
  | some m => if s.live && s.on F.SYN_SERVO_CTRL_ENABLE && decide (m.tick < s.now) then s.servoUpdate m else s
  | none => s

/-- Class 3 of the present tick, as far as it is still due: the epoch change, the servo's update and the step it asks for, the Rate
(R24, R31, R32, R82). Everything of the tick that shows the view comes after it. -/
def State.classThree (s : State) : State := if s.clocked then s.epochDue.servoDue.epochDue.rateNow.refreshQuotes else s

/-- SERVO_UPDATE: at the first boundary after the measurement (R82). -/
def execServoUpdate (s : State) : Host.Outcome State Fault Refusal :=
  .next (s.when (s.live && s.on F.SYN_SERVO_CTRL_ENABLE) State.classThree)

/-- SNAP_CAPTURE: at the boundary after TAKE, after class 3 of the tick (R31, R39). -/
def execSnapCapture (group : Fin 4) (s : State) : Host.Outcome State Fault Refusal :=
  .next (s.when s.live (fun s =>
    match nth s.tim.snapReq group.val none with
    | some t => if t < s.now then s.classThree.snapCapture group.val else s
    | none => s))

/-- A PTP timestamp in units of 2⁻¹⁶ ns. -/
def ptpTime (m : PtpMsg) : Int := (m.sec.toNat * 1000000000 + m.ns.toNat) * 65536
/-- Nanoseconds as sub-ticks, to the nearest (12.8 sub-ticks in a nanosecond, R2) (DEDUCED, log 32). -/
def nsToSub (ns : Nat) : Nat := (ns * 128 + 5) / 10

/-! ### Sources (R90) -/

/-- A source has given a valid measurement within its loss time. -/
def State.srcValid (s : State) (src : Nat) : Bool :=
  match nth s.syn.servo.lastValid src none with
  | some t => decide (s.now < t + s.rd F.SYN_SERVO_CTRL_LOSS_INTERVALS * (s.srcInterval src * 4 / 5))
  | none => false

/-- Another source, or none, is the current one (R108). -/
def State.setSource (s : State) (src : Nat) : State :=
  if s.rd F.SYN_SERVO_STATUS_SOURCE = src then s
  else (s.wr F.SYN_SERVO_STATUS_SOURCE 0 src).raiseBits F.SYN_INT_STATUS_SRC_SWITCH 0 1

/-- A change of source (R90): ACQUIRING, or FREERUN while time is not set; f is kept; the counts begin anew. -/
def State.takeSource (s : State) (src : Nat) : State :=
  let s := (s.wr F.SYN_SERVO_STATUS_SOURCE 0 src).raiseBits F.SYN_INT_STATUS_SRC_SWITCH 0 1
  let s := s.servoState (if s.epoch = 0 then 1 else 2)
  let s := s.setServo (fun v => { v with meas := none, lockRun := 0, excRun := 0, slackRun := 0 })
  s.timeState 4

/-- A measurement for the servo waits for the next boundary (R82). -/
def State.offer (s : State) (src : Nat) (theta : Int) (seconds : Bool) : State :=
  s.setServo (fun v => { v with meas := some ⟨theta, src, seconds, s.now⟩ })

/-- A valid measurement of a source (R82, R90, R91): it counts for the source, whose run of them a loss has ended, and may bring the
servo to it. -/
def State.measure (s : State) (src : Nat) (theta : Int) (seconds : Bool) : State :=
  let run := (if s.srcValid src then nth s.syn.servo.goodRun src 0 else 0) + 1
  let s := s.setServo (fun v => { v with lastValid := upd v.lastValid src (fun _ => some s.now),
                                         goodRun := upd v.goodRun src (fun _ => run) })
  let s := if src < 4 then s.wr F.SYN_ASSOC_STATUS_VALID src 1 else s
  let cur := s.rd F.SYN_SERVO_STATUS_SOURCE
  let order := s.srcOrder
  if !s.on F.SYN_SERVO_CTRL_ENABLE || !order.contains src then s
  else if cur = src then s.offer src theta seconds
  else if cur = 15 then (s.takeSource src).offer src theta seconds
  else if order.idxOf src < order.idxOf cur ∧ s.rd F.SYN_SERVO_CTRL_LOCK_COUNT ≤ run then
    (s.takeSource src).offer src theta seconds
  else s

/-! ### Associations (R79, R80) -/

/-- R76: versionPTP 2 with minorVersionPTP 0 or 1, in byte 1 of a PTP header. -/
def ptpVersionOk (v : BitVec 8) : Bool := v == 0x02 || v == 0x12

/-- The raw form of a message's ingress stamp (R54, R55). -/
def State.ptpRaw (s : State) (m : PtpMsg) : Nat := s.ingressRaw m.port.val m.detect m.var

/-- The association takes messages of this version, port, domain, transport and master. -/
def State.assocTakes (s : State) (a : Nat) (m : PtpMsg) : Bool :=
  ptpVersionOk m.version && s.on F.SYN_ASSOC_CTRL_ENABLE a && s.rd F.SYN_ASSOC_CTRL_PORT a == m.port.val
    && s.rd F.SYN_ASSOC_CTRL_DOMAIN a == m.domain.toNat && s.rd F.SYN_ASSOC_CTRL_TRANSPORT a == m.transport.val
    && s.rd2 F.SYN_MASTER_ID_LO_VALUE F.SYN_MASTER_ID_HI_VALUE a == m.srcId.toNat
    && s.rd F.SYN_MASTER_PORT_VALUE a == m.srcPort.toNat

/-- A Sync or sample that is discarded is counted (R80); it ends the run of valid measurements. -/
def State.discardSync (s : State) (a : Nat) : State :=
  (s.bump 4 13).setServo (fun v => { v with goodRun := upd v.goodRun a (fun _ => 0) })

/-- The path delay takes a sample (R79): the first as it is, later ones through the filter (DEDUCED, log 34). -/
def State.pathSample (s : State) (a : Nat) (pd : Int) : State :=
  let mp := toS 64 (s.rd2 F.SYN_MEAN_PATH_LO_VALUE F.SYN_MEAN_PATH_HI_VALUE a)
  let shift := s.rd F.SYN_ASSOC_FILTER_PD_SHIFT a
  let new := if (nth s.syn.assocs a {}).hasPath then mp + Int.fdiv (pd - mp) (2 ^ shift) else pd
  (s.wr2 F.SYN_MEAN_PATH_LO_VALUE F.SYN_MEAN_PATH_HI_VALUE a (ofS 64 new)).setAssoc a
    (fun x => { x with hasPath := true })

/-- The engine's state of a port. -/
def Syn.mport (y : Syn) (p : Nat) : MPort :=
  (y.mports.find? (fun x => x.port == p)).getD ⟨p, none, 0, 0, none, false, 0⟩
def State.setMport (s : State) (x : MPort) : State :=
  s.setSyn (fun y => { y with mports := x :: y.mports.filter (fun z => z.port != x.port) })

/-- A complete Sync (R79, R80): it is the latest valid sample when t2 carries the current epoch; with a path delay it
gives a measurement of the offset (DEDUCED, log 34). -/
def State.syncComplete (s : State) (a : Nat) (seq : Nat) (t1 corr t2 : Int) (t2Epoch : Nat) : State :=
  if t2Epoch ≠ s.epoch then s.discardSync a
  else
    let s := s.setAssoc a (fun x => { x with sample := some ⟨t1, corr, t2, t2Epoch⟩ })
    let p := s.rd F.SYN_ASSOC_CTRL_PORT a
    let p2p := s.on F.SYN_ASSOC_CTRL_DELAY_MECH a
    let s := if p2p && (s.syn.mport p).linkValid then s.pathSample a (s.rdS F.SYN_MPORT_LINK_LINK_DELAY p) else s
    if (nth s.syn.assocs a {}).hasPath && (!p2p || (s.syn.mport p).linkValid) then
      let mp := toS 64 (s.rd2 F.SYN_MEAN_PATH_LO_VALUE F.SYN_MEAN_PATH_HI_VALUE a)
      let theta := (t1 + corr + mp + s.rdS F.SYN_ASSOC_ASYM_VALUE a) - t2
      (s.wr F.SYN_ASSOC_STATUS_LAST_SEQ a seq).measure a theta true
    else s

/-- An association takes a Sync or a Follow_Up. -/
def State.assocSync (s : State) (a : Nat) (m : PtpMsg) (followUp twoStep : Bool) : State :=
  let pend := (nth s.syn.assocs a {}).pend
  if followUp then
    match pend with
    | some q =>
      let s := s.setAssoc a (fun x => { x with pend := none })
      if q.seq = m.seq.toNat then s.syncComplete a q.seq (ptpTime m) (q.corr + m.corr) q.t2 q.t2Epoch
      else s.discardSync a
    | none => s.discardSync a
  else
    let s := if pend.isSome then s.discardSync a else s
    let t2 : Int := (s.stampView (s.ptpRaw m) : Nat)
    let e := s.stampEpoch (s.ptpRaw m)
    if twoStep then s.setAssoc a (fun x => { x with pend := some ⟨m.seq.toNat, m.corr, t2, e⟩ })
    else (s.setAssoc a (fun x => { x with pend := none })).syncComplete a m.seq.toNat (ptpTime m) m.corr t2 e

/-- SYNC_RECEIVE. -/
def execSyncReceive (m : PtpMsg) (followUp twoStep : Bool) (s : State) : Host.Outcome State Fault Refusal :=
  .next (s.whenLive (fun s => (List.range 4).foldl
    (fun s a => if s.assocTakes a m then s.assocSync a m followUp twoStep else s) (s.classThree.noteOverrun (s.ptpRaw m))))

/-- An interval of 2^log seconds has passed since a message of the same kind was sent (R79, R81). -/
def State.intervalOver (s : State) (last : Option Nat) (log : Nat) : Bool :=
  let l := toS 8 log
  match last with
  | some t => decide (t + (if l < 0 then 800000000 / 2 ^ l.natAbs else 800000000 * 2 ^ l.toNat) ≤ s.now)
  | none => true

/-- DELAY_REQ_SEND (R79): an association's Delay_Req enters the egress PCS at this tick's boundary, its interval being over. The
operand is its variable part (DESIGN CHOICE, log 33). -/
def execDelayReqSend (assoc : Fin 4) (var : Nat) (s : State) : Host.Outcome State Fault Refusal :=
  .next (s.when (s.live && s.on F.SYN_ASSOC_CTRL_ENABLE assoc.val && !s.on F.SYN_ASSOC_CTRL_DELAY_MECH assoc.val
      && s.intervalOver (nth s.syn.assocs assoc.val {}).lastReq (s.rd F.SYN_ASSOC_VLAN_LOG_DELAY_REQ assoc.val)) (fun s =>
    let s := s.classThree
    let p := s.rd F.SYN_ASSOC_CTRL_PORT assoc.val
    let raw := s.egressRaw p (320 * s.now : Nat) var
    let n := (nth s.syn.assocs assoc.val {}).nextSeq
    let t3 := s.stampView raw
    let s := s.setAssoc assoc.val (fun x => { x with
      dreq := some ⟨n, (t3 : Int), s.stampEpoch raw, raw⟩, nextSeq := (n + 1) % 65536, lastReq := some s.now })
    s.setSyn (fun y => { y with ptpSent := some ⟨1, p, n, t3, false, 0, some raw⟩ })))

/-- An association takes a Delay_Resp (R79, R80) (DEDUCED, log 32). -/
def State.assocResp (s : State) (a : Nat) (m : PtpMsg) : State :=
  let x := nth s.syn.assocs a {}
  match x.dreq, x.sample with
  | some d, some q =>
    if d.seq ≠ m.seq.toNat then s
    else
      let s := s.setAssoc a (fun x => { x with dreq := none })
      if d.t3Epoch ≠ q.t2Epoch then s.bump 4 13
      else s.pathSample a (Int.fdiv ((q.t2 - q.t1 - q.corr) + ((ptpTime m) - d.t3 - m.corr)) 2)
  | _, _ => s

/-- DELAY_RESP_RECEIVE. -/
def execDelayRespReceive (m : PtpMsg) (s : State) : Host.Outcome State Fault Refusal :=
  .next (s.whenLive (fun s => (List.range 4).foldl
    (fun s a => if s.assocTakes a m && !s.on F.SYN_ASSOC_CTRL_DELAY_MECH a then s.assocResp a m else s) s))

/-! ### Master ports and link delays (R81) -/

/-- The port runs the peer link-delay exchange. -/
def State.runsPdelay (s : State) (p : Nat) : Bool :=
  let r := s.rd F.SYN_MPORT_CTRL_ROLE p
  r == 2 || (r == 1 && s.on F.SYN_MPORT_CTRL_DELAY_MECH p)
/-- The engine may send on the port: nothing on a master port until time is valid. -/
def State.maySend (s : State) (p : Nat) : Bool :=
  s.rd F.SYN_MPORT_CTRL_ROLE p != 1 || s.on F.TIM_STATUS_TIME_VALID

/-- PDELAY_REQ_SEND (DESIGN CHOICE, log 33). -/
def execPdelayReqSend (port : Fin 512) (var : Nat) (s : State) : Host.Outcome State Fault Refusal :=
  .next (s.when (s.live && s.runsPdelay port.val && s.maySend port.val) (fun s =>
    let s := s.classThree
    let raw := s.egressRaw port.val (320 * s.now : Nat) var
    let x := s.syn.mport port.val
    let t := s.stampView raw
    let s := s.setMport { x with pdSeq := (x.pdSeq + 1) % 65536, pdT1 := some (t : Int), pdRaw := raw }
    s.setSyn (fun y => { y with ptpSent := some ⟨2, port.val, x.pdSeq, t, false, 0, some raw⟩ })))

/-- PDELAY_EXCHANGE: a Pdelay_Req is answered; a completed exchange gives LINK_DELAY, half of the round trip less the
partner's turnaround and the corrections (DESIGN CHOICE, log 33) (DEDUCED, log 34). -/
def execPdelayExchange (port : Fin 512) (isReq : Bool) (msg : PdelayMsg) (turnaround corr : Int) (arrival : Arrival) (s : State) :
    Host.Outcome State Fault Refusal :=
  .next (s.when (s.live && ptpVersionOk msg.version && s.runsPdelay port.val) (fun s =>
    let s := s.classThree
    let raw := s.ingressRaw port.val arrival.detect arrival.var
    let s := s.noteOverrun raw
    if isReq then
      if s.maySend port.val then
        s.setSyn (fun y => { y with ptpSent := some ⟨3, port.val, msg.seq.toNat, s.stampView raw, true, corr, none⟩ })
      else s
    else
      let x := s.syn.mport port.val
      match x.pdT1 with
      | some t1 =>
        if (msg.seq.toNat + 1) % 65536 = x.pdSeq then
          let d := Int.fdiv (((s.stampView raw : Nat) : Int) - t1 - turnaround - corr) 2
          (s.wr F.SYN_MPORT_LINK_LINK_DELAY port.val (ofS 32 d)).setMport { x with pdT1 := none, linkValid := true }
        else s
      | none => s))

/-- A Sync of a master port is one-step only with TWO_STEP 0 and ONE_STEP 1 (R81). -/
def State.syncTwoStep (s : State) (p : Nat) : Bool :=
  !(s.rd F.SYN_MPORT_CTRL_TWO_STEP p == 0 && s.on F.TSU_PORT_CFG_ONE_STEP p)

/-- R70: a view to the nearest nanosecond, halves up. -/
def nearestNs (v : Nat) : Nat := (v + 32768) / 65536 * 65536

/-- A one-step Sync carries the view of its predicted stamp under the parameters now in effect (R57, R70). -/
def State.sendOneStep (s : State) (p seq raw : Nat) : State :=
  s.setSyn (fun y => { y with
    ptpSent := some ⟨0, p, seq, nearestNs (s.viewAt (raw / 16) (raw % 16)), false, 0, none⟩
    oneStep := (p, raw, nearestNs (s.viewAt (raw / 16) (raw % 16)), s.epoch) :: y.oneStep })

/-- MASTER_SYNC_SEND: the port's Sync enters the egress PCS at this tick's boundary, its interval being over; the Sync, or its
Follow_Up, carries its egress view (R57, R81). The operand is its variable part (DESIGN CHOICE, log 33). -/
def execMasterSyncSend (port : Fin 512) (var : Nat) (s : State) : Host.Outcome State Fault Refusal :=
  .next (s.when (s.live && s.rd F.SYN_MPORT_CTRL_ROLE port.val == 1 && s.on F.TIM_STATUS_TIME_VALID
      && s.intervalOver (s.syn.mport port.val).lastSync (s.rd F.SYN_MPORT_CTRL_LOG_SYNC port.val)) (fun s =>
    let s := s.classThree
    let raw := s.egressRaw port.val (320 * s.now : Nat) var
    let x := s.syn.mport port.val
    let s := s.setMport { x with lastSync := some s.now, syncSeq := (x.syncSeq + 1) % 65536 }
    if s.syncTwoStep port.val then
      s.setSyn (fun y => { y with ptpSent := some ⟨0, port.val, x.syncSeq, s.stampView raw, true, 0, some raw⟩ })
    else s.sendOneStep port.val x.syncSeq raw))

/-- DELAY_REQ_ANSWER: the Delay_Resp carries the ingress view down to the nanosecond; the fraction goes to the
correctionField (DESIGN CHOICE, log 33). -/
def execDelayReqAnswer (m : PtpMsg) (s : State) : Host.Outcome State Fault Refusal :=
  .next (s.when (s.live && ptpVersionOk m.version && s.rd F.SYN_MPORT_CTRL_ROLE m.port.val == 1 && s.on F.TIM_STATUS_TIME_VALID
      && s.rd F.SYN_MPORT_CTRL_DOMAIN m.port.val == m.domain.toNat) (fun s =>
    let s := s.classThree.noteOverrun (s.ptpRaw m)
    let v := s.stampView (s.ptpRaw m)
    s.setSyn (fun y => { y with
      ptpSent := some ⟨9, m.port.val, m.seq.toNat, v - viewFrac v, false, m.corr + (viewFrac v : Int), none⟩ })))

/-! ### Loss and choice of sources (R90, R91) -/

/-- R91: no source is valid. SOURCE then reads 0xF (DESIGN CHOICE, log 78). -/
def State.enterHoldover (s : State) : State :=
  let src := s.rd F.SYN_SERVO_STATUS_SOURCE
  let s := (s.setRate (s.rdS F.SYN_FREQ_VALUE)).wr2 F.SYN_HOLD_START_LO_VALUE F.SYN_HOLD_START_HI_VALUE 0 s.now
  let s := ((s.servoState 5).setSource 15).raiseBits F.SYN_INT_STATUS_HOLDOVER 0 1
  let theta := s.rd2 F.SYN_LAST_OFFSET_LO_VALUE F.SYN_LAST_OFFSET_HI_VALUE
  ((s.setServo (fun v => { v with meas := none })).raiseFault 2 2 1 src theta).timeState 3

/-- A source that has given no valid measurement for LOSS_INTERVALS intervals is lost: it is no longer valid, and its run of valid
measurements ends (R90, R109). -/
def State.loseSource (s : State) (c : Nat) : State :=
  if (nth s.syn.servo.lastValid c none).isNone || s.srcValid c then s
  else
    let s := if c < 4 then s.wr F.SYN_ASSOC_STATUS_VALID c 0 else s
    s.setServo (fun v => { v with lastValid := upd v.lastValid c (fun _ => none), goodRun := upd v.goodRun c (fun _ => 0) })

/-- R90: the current source is lost: the first valid source later in the list, else an earlier valid one (DEDUCED, log 79), or
HOLDOVER. -/
def State.failOver (s : State) : State :=
  let cur := s.rd F.SYN_SERVO_STATUS_SOURCE
  let order := s.srcOrder
  let later := order.drop (order.idxOf cur + 1)
  match (later ++ order).find? (fun c => c != cur && s.srcValid c) with
  | some c => s.takeSource c
  | none => s.enterHoldover

/-- The sources that fall silent, whichever the servo follows (R90). -/
def State.sourceLoss (s : State) : State :=
  let s := (List.range 6).foldl State.loseSource s
  let cur := s.rd F.SYN_SERVO_STATUS_SOURCE
  if s.on F.SYN_SERVO_CTRL_ENABLE && decide (cur < 6) && !s.srcValid cur then s.failOver else s

/-- SOURCE_LOSS: a source has given no valid measurement for LOSS_INTERVALS intervals. -/
def execSourceLoss (s : State) : Host.Outcome State Fault Refusal := .next (s.when s.live (fun s => s.classThree.sourceLoss))

/-- The servo takes the first valid source of its list (R90); where none is valid it enters HOLDOVER (R91), or waits in FREERUN while
the time is not set (R84). -/
def State.chooseSource (s : State) : State :=
  match s.srcOrder.find? s.srcValid with
  | some c => s.takeSource c
  | none => if s.epoch = 0 then s.takeSource 15 else s.enterHoldover

/-- A write to SERVO_SRC is a change of source (R90). -/
def State.servoSrc (s : State) (order : Nat) : State :=
  let s := s.wr F.SYN_SERVO_SRC_ORDER 0 order
  if s.on F.SYN_SERVO_CTRL_ENABLE then s.chooseSource else s

/-- R83, R84, R108: the servo goes on, with f loaded from Rate, or off. -/
def State.servoSwitch (s : State) (on : Bool) : State :=
  if on = s.on F.SYN_SERVO_CTRL_ENABLE then s
  else
    let s := s.wr F.SYN_SERVO_CTRL_ENABLE 0 (b2n on)
    if on then (s.wr F.SYN_FREQ_VALUE 0 (s.rd F.TIM_RATE_VALUE)).chooseSource
    else
      let s := s.setServo (fun v => { v with meas := none })
      (({ s with tim := { s.tim with servoStep := none } } : State).setSource 15).servoState 0

/-! ### Frequency references (R93) -/

/-- The listed inputs, first preference first. -/
def State.refOrder (s : State) : List Nat :=
  let o := s.rd F.SYN_REF_CTRL_ORDER
  [bits o 1 0, bits o 3 2, bits o 5 4].filter (fun c => c < 3)
def State.refGood (s : State) (i : Nat) : Bool := bit (s.rd F.SYN_REF_STATUS_GOOD) i

/-- The TPLL moves to an input without a phase step: a NOTE fault and a record. -/
def State.refSwitch (s : State) (i : Nat) : State :=
  let s := (s.wr F.SYN_REF_STATUS_CURRENT 0 i).raiseBits F.SYN_INT_STATUS_REF_SWITCH 0 1
  let s := s.setSyn (fun y => { y with refMoved := true })
  (s.raiseFault 3 1 0 i).timeState 5

/-- The TPLL has no good input: it loses lock (R42, R92). -/
def State.tpllUnlocked (s : State) : State :=
  let s : State := { s with tim := { s.tim with tpllHeld := true } }
  let s := ((s.wr F.TIM_STATUS_TPLL_LOCK 0 0).raiseBits F.TIM_INT_STATUS_TPLL_UNLOCK 0 1).wr
    F.SYN_SERVO_STATUS_REF_LOST 0 1
  (s.raiseFault 1 5 3 0 s.now).timeState 5

/-- The nominal frequency of an input in mHz: SYSCLK 156.25 MHz, TIME_REF_A and TIME_REF_B 10 or 25 MHz (R93, R110). -/
def State.refNominal (s : State) (i : Nat) : Nat :=
  if i = 0 then 156250000000
  else if s.on (if i = 1 then F.SYN_REF_CTRL_A_25M else F.SYN_REF_CTRL_B_25M) then 25000000000 else 10000000000
/-- A frequency measured over 1 ms, in mHz, lies within TOL_PPM of the input's nominal one (R93). -/
def State.refInTol (s : State) (i f : Nat) : Bool :=
  let n := s.refNominal i
  decide (((f : Int) - n).natAbs * 1000000 ≤ s.rd F.SYN_REF_CTRL_TOL_PPM * n)

/-- REF_INPUT_LOSS: an input goes bad, with no edge for 4 nominal periods or with a frequency out of tolerance; if it is the current
one, the next good input, or none. -/
def execRefInputLoss (loss : RefLoss) (s : State) : Host.Outcome State Fault Refusal :=
  let input := loss.input
  .next (s.when (s.clocked && s.refGood input.val && (loss.freq.all (fun f => !s.refInTol input.val f))) (fun s =>
    let s := s.wr F.SYN_REF_STATUS_GOOD 0 (s.rd F.SYN_REF_STATUS_GOOD - 2 ^ input.val)
    let s := s.setSyn (fun y => { y with refGoodSince := upd y.refGoodSince input.val (fun _ => none) })
    if s.rd F.SYN_REF_STATUS_CURRENT ≠ input.val ∨ !s.on F.TIM_STATUS_TPLL_LOCK then s
    else match s.refOrder.find? s.refGood with
      | some i => s.refSwitch i
      | none => s.tpllUnlocked))

/-- REF_INPUT_GOOD: an input becomes good, its frequency over 1 ms being within tolerance; at power-up the TPLL moves to the first
listed input once it is good. -/
def execRefInputGood (good : RefGood) (s : State) : Host.Outcome State Fault Refusal :=
  let input := good.input
  .next (s.when (s.clocked && !s.refGood input.val && s.refInTol input.val good.freq) (fun s =>
    let s := s.wr F.SYN_REF_STATUS_GOOD 0 (s.rd F.SYN_REF_STATUS_GOOD ||| 2 ^ input.val)
    let s := s.setSyn (fun y => { y with refGoodSince := upd y.refGoodSince input.val (fun _ => some s.now) })
    if !s.syn.refMoved && s.on F.TIM_STATUS_TPLL_LOCK && s.refOrder.head? == some input.val
        && s.rd F.SYN_REF_STATUS_CURRENT != input.val then s.refSwitch input.val else s))

/-- A write that changes ORDER: the TPLL follows the first good input that the list names (R93) (DEDUCED, log 80). -/
def State.refOrderWritten (s : State) : State :=
  match s.refOrder.find? s.refGood with
  | some i => if s.clocked && s.on F.TIM_STATUS_TPLL_LOCK && s.rd F.SYN_REF_STATUS_CURRENT != i then s.refSwitch i else s
  | none => s

/-- TPLL_RELOCK (R92, R93): the TPLL locks again, to the first listed input that is good. -/
def execTpllRelock (input : Fin 3) (s : State) : Host.Outcome State Fault Refusal :=
  .next (s.when (s.clocked && !s.on F.TIM_STATUS_TPLL_LOCK && s.refOrder.find? s.refGood == some input.val) (fun s =>
    let s : State := { s with tim := { s.tim with tpllHeld := false } }
    let s := (s.wr F.TIM_STATUS_TPLL_LOCK 0 1).wr F.SYN_SERVO_STATUS_REF_LOST 0 0
    if s.rd F.SYN_REF_STATUS_CURRENT = input.val then s else s.refSwitch input.val))

/-- REF_REVERT: back to an earlier input that has been good for 10 s. -/
def execRefRevert (s : State) : Host.Outcome State Fault Refusal :=
  .next (s.when (s.clocked && s.on F.SYN_REF_CTRL_REVERT && s.on F.TIM_STATUS_TPLL_LOCK) (fun s =>
    let order := s.refOrder
    match (order.take (order.idxOf (s.rd F.SYN_REF_STATUS_CURRENT))).find?
        (fun i => match nth s.syn.refGoodSince i none with
          | some t => decide (t + 8000000000 ≤ s.now) | none => false) with
    | some i => s.refSwitch i
    | none => s))

/-! ### PPS and time of day (R94 to R97) -/

/-- The whole second nearest to a view. -/
def nearestSec (v : Nat) : Nat := (v + unitsPerSec / 2) / unitsPerSec

def State.setPps (s : State) (i : Nat) (f : PpsIn → PpsIn) : State :=
  s.setSyn (fun y => { y with pps := upd y.pps i f })

/-- A valid edge of input i at a raw form (R94). -/
def State.ppsValid (s : State) (i raw : Nat) (label : Option Nat) : State :=
  let s := (s.wr2 F.SYN_PPS_IN_RAW_LO_VALUE F.SYN_PPS_IN_RAW_HI_VALUE i (raw / 16)).wr F.SYN_PPS_IN_SUB_VALUE i (raw % 16)
  let v := s.stampView raw
  let use := if s.on F.SYN_PPS_IN_CTRL_TOD_USE i then label else none
  if s.epoch = 0 ∧ use.isNone then s
  else
    let sec := use.getD (nearestSec v)
    let theta : Int := (sec * unitsPerSec : Nat) + s.rdS F.SYN_PPS_IN_DELAY_VALUE i - (v : Int)
    (s.wr2 F.SYN_PPS_IN_OFS_LO_VALUE F.SYN_PPS_IN_OFS_HI_VALUE i (ofS 64 theta)).measure (4 + i) theta use.isSome

/-- An edge of an enabled input: the start edge, a valid one or a bad one. -/
def State.ppsEdge (s : State) (i raw : Nat) : State :=
  let x := nth s.syn.pps i {}
  let t := raw / 16
  let s := s.setPps i (fun x => { x with edge := some t, label := none })
  let s := if s.rd F.SYN_TOD_CTRL_RX_SRC = i then s.wr F.SYN_TOD_STATUS_LABEL_VALID 0 0 else s
  match x.last with
  | none => s.setPps i (fun x => { x with last := some t })
  | some l =>
    if 720000000 ≤ t - l ∧ t - l ≤ 880000000 then
      (s.setPps i (fun x => { x with last := some t })).ppsValid i raw x.label
    else (s.setPps i (fun x => { x with bad := x.bad + 1 })).raiseBits F.SYN_INT_STATUS_PPS_BAD 0 1

/-- PPS_IN_EDGE: an edge with its raw form in sub-ticks, the fused input delay taken out (DEDUCED, log 60). -/
def execPpsInEdge (input : Fin 2) (rise : Bool) (raw : Nat) (s : State) : Host.Outcome State Fault Refusal :=
  .next (s.when (s.live && s.on F.SYN_PPS_IN_CTRL_ENABLE input.val && s.on F.SYN_PPS_IN_CTRL_EDGE input.val == !rise)
    (fun s => s.classThree.ppsEdge input.val raw))

/-- ENABLE of an input is cleared: the first edge after it is set again is a start edge (R94). -/
def State.ppsStop (s : State) (i : Nat) : State :=
  s.setPps i (fun x => { x with last := none, edge := none, label := none })

/-- Decimal digits as a number. -/
def decimal? (b : Bytes) : Option Nat :=
  if b.isEmpty then none
  else b.foldl (fun a x => match a with
    | some n => if 48 ≤ x.toNat ∧ x.toNat ≤ 57 then some (n * 10 + (x.toNat - 48)) else none
    | none => none) (some 0)
/-- An uppercase hexadecimal digit. -/
def hexDigit (n : Nat) : Byte := BitVec.ofNat 8 (if n < 10 then 48 + n else 55 + n)
/-- The decimal digits of a number. -/
def digitsOf (n : Nat) : Bytes := (Nat.toDigits 10 n).map (fun c => BitVec.ofNat 8 c.toNat)
/-- R95: XOR of the bytes between the dollar sign and the star. -/
def todSum (b : Bytes) : Byte := b.foldl (fun a x => a ^^^ x) 0

/-- R95: the seconds of a well-formed line with valid 1. -/
def todParse (line : Bytes) : Option Nat :=
  if line.take 6 ≠ [36, 75, 84, 79, 68, 44] then none        -- the line begins with $KTOD and a comma
  else
    let body := (line.drop 1).takeWhile (fun x => x != 42)
    let rest := line.drop (1 + body.length)
    let x := todSum body
    if rest ≠ [42, hexDigit (x.toNat / 16), hexDigit (x.toNat % 16), 13, 10] then none
    else
      let sec := (body.drop 5).takeWhile (fun x => x != 44)
      if body.drop (5 + sec.length) ≠ [44, 49] then none
      else match decimal? sec with
        | some n => if n < 2 ^ 48 then some n else none
        | none => none

/-- TOD_LINE_RX: a complete line on TOD_RX (DEDUCED, log 60). -/
def execTodLineRx (line : Bytes) (s : State) : Host.Outcome State Fault Refusal :=
  .next (s.when (s.live && s.on F.SYN_TOD_CTRL_RX_EN) (fun s =>
    let i := s.rd F.SYN_TOD_CTRL_RX_SRC
    let inWindow := match (nth s.syn.pps i {}).edge with
      | some t => decide (t + 8000000 ≤ s.now ∧ s.now ≤ t + 792000000)
      | none => false
    match inWindow, todParse line with
    | true, some n =>
      ((s.setPps i (fun x => { x with label := some n })).wr2 F.SYN_TOD_SEC_LO_VALUE F.SYN_TOD_SEC_HI_VALUE 0 n).wr
        F.SYN_TOD_STATUS_LABEL_VALID 0 1
    | _, _ => (s.bump 4 16).raiseBits F.SYN_INT_STATUS_TOD_ERR 0 1))

/-- The instant base + n × period that falls in a tick, if one does. -/
def State.trainIn (s : State) (tick base period : Nat) : Option Nat :=
  let lo := s.viewAt tick 0
  let hi := s.viewAt (tick + 1) 0
  let t := if lo ≤ base then base else base + (lo - base + period - 1) / period * period
  if period ≠ 0 ∧ lo ≤ t ∧ t < hi then some t else none

/-- The leading edge of a pulse that begins at a raw instant: that of the pulse which is then still high, if one is (R99) (DEDUCED,
log 60). -/
def OutPin.rise (x : OutPin) (raw : Nat) : Nat :=
  match x.pulse with
  | some (a, b) => if a ≤ raw && (x.fall.isSome || decide (raw ≤ b)) then a else raw
  | none => raw
/-- A pulse with both edges fixed (R99 MIRROR, R100) (DEDUCED, log 60). -/
def OutPin.startRaw (x : OutPin) (raw width : Nat) : OutPin := { x with pulse := some (x.rise raw, raw + width), fall := none }
/-- A pulse whose leading edge is fixed, with the view at which it ends (R96, R99, R100) (DEDUCED, log 77) (DEDUCED, log 60). -/
def OutPin.startView (x : OutPin) (raw v : Nat) : OutPin := { x with pulse := some (x.rise raw, raw), fall := some v }

/-- PPS_OUT_PULSE (R96, R100): fixed 4 ticks ahead of the instant. -/
def execPpsOutPulse (out : Fin 2) (s : State) : Host.Outcome State Fault Refusal :=
  let j := out.val
  .next (s.when (s.live && s.on F.SYN_PPS_OUT_CTRL_ENABLE j && s.epoch != 0) (fun s =>
    let s := s.classThree
    let ofs := s.rdS F.SYN_PPS_OUT_OFS_OFFSET_NS j * 65536
    match s.trainIn (s.now + 4) (ofs % (unitsPerSec : Nat)).toNat unitsPerSec with
    | some v =>
      let raw := s.rawIn (s.now + 4) v
      let early := match nth s.syn.ppsOutLast j none with
        | some t => decide (raw / 16 < t + 400000000)
        | none => false
      if early then s.bump 4 15
      else s.setSyn (fun y => { y with
        ppsOutLast := upd y.ppsOutLast j (fun _ => some (raw / 16))
        ppsOut := upd y.ppsOut j (fun x => x.startView raw (v + s.rd F.SYN_PPS_OUT_WIDTH_WIDTH_US j * 65536000)) })
    | none => s))

/-- The first tick whose view, under the parameters in effect, reaches a view (R22). -/
def State.tickAtView (s : State) (v : Nat) : Nat :=
  s.now + ((v - s.viewAt s.now 0 : Nat) * 2 ^ 40 + (81920 * (2 ^ 40 + s.params.rate)).toNat - 1) / (81920 * (2 ^ 40 + s.params.rate)).toNat
/-- The second of the pulse of PPS_OUT0 that comes next: the first whose instant the view has still to reach, or the one after it
where R96 suppresses that pulse. -/
def State.nextPps (s : State) (last : Nat) : Nat :=
  let ofs := s.rdS F.SYN_PPS_OUT_OFS_OFFSET_NS 0 * 65536
  let n : Nat := (Int.fdiv ((s.viewAt s.now 0 : Nat) - ofs) (unitsPerSec : Nat) + 1).toNat
  if s.tickAtView ((n * unitsPerSec : Nat) + ofs).toNat < last + 400000000 then n + 1 else n

/-- R95, R97: the line that labels a second. -/
def todLine (sec : Nat) (valid : Bool) : Bytes :=
  let body : Bytes := [75, 84, 79, 68, 44] ++ digitsOf sec ++ [44, if valid then 49 else 48]
  let x := (todSum body).toNat
  [36] ++ body ++ [42, hexDigit (x / 16), hexDigit (x % 16), 13, 10]

/-- TOD_TX_LINE (R97): 100 ms after a PPS_OUT0 pulse; the line labels the next pulse. -/
def execTodTxLine (s : State) : Host.Outcome State Fault Refusal :=
  .next (s.when (s.live && s.on F.SYN_TOD_CTRL_TX_EN) (fun s =>
    match nth s.syn.ppsOutLast 0 none with
    | some t =>
      if t + 80000000 ≤ s.now ∧ (s.syn.todTx.map Prod.fst) ≠ some t then
        let s := s.classThree
        s.setSyn (fun y => { y with todTx := some (t, todLine (s.nextPps t) (s.on F.TIM_STATUS_TIME_VALID)) })
      else s
    | none => s))

/-! ### Event pins (R98 to R100) -/

/-- The EVTI registers show the head of the FIFO (R111). -/
def State.showEvti (s : State) (n : Nat) : State :=
  let q := nth s.syn.evti n []
  let h := q.headD ⟨0, 0, false⟩
  (((s.wr2 F.SYN_EVTI_HEAD_LO_VALUE F.SYN_EVTI_HEAD_HI_VALUE n h.tick).wr F.SYN_EVTI_INFO_SUB n h.sub).wr
    F.SYN_EVTI_INFO_RISE n (b2n h.rise)).wr F.SYN_EVTI_INFO_COUNT n q.length

/-- R99 MIRROR: every output that mirrors the pin answers the capture at (T + 3, s). -/
def State.mirror (s : State) (pin raw : Nat) : State :=
  (List.range 8).foldl (fun s m =>
    if s.rd F.SYN_EVTO_CTRL_MODE m = 3 ∧ s.rd F.SYN_EVTO_CTRL_MIRROR_SRC m = pin then
      s.setSyn (fun y => { y with evto := upd y.evto m (fun x => x.startRaw (raw + 48) (nsToSub (s.rd F.SYN_EVTO_WIDTH_NS m))) })
    else s) s

/-- An edge that is captured, or finds its FIFO full (R98). -/
def State.evtCapture (s : State) (pin : Nat) (rise : Bool) (raw : Nat) : State :=
  let q := nth s.syn.evti pin []
  let rec' := s.on F.SYN_EVTI_CTRL_RECORD pin
  if q.length < 16 then
    let s := (s.setSyn (fun y => { y with
      evti := upd y.evti pin (fun q => q ++ [⟨raw / 16, raw % 16, rise⟩])
      evtiLast := upd y.evtiLast pin (fun _ => some raw) })).showEvti pin
    let v := s.stampView raw
    let s := s.when rec' (fun s => s.eventRec 2 pin (raw / 16) 3 (pin + b2n rise * 256) (viewSec v)
      (viewNs v * 65536 + viewFrac v) (raw % 16))
    s.mirror pin raw
  else
    let s := s.setSyn (fun y => { y with evtiDrops := upd y.evtiDrops pin (fun n => n + 1) })
    let s := (s.raiseBits F.SYN_EVTI_INFO_OVERFLOW pin 1).raiseBits F.SYN_INT_STATUS_EVT_OVERFLOW 0 1
    s.when rec' (fun s => s.eventRec 2 pin (raw / 16) 4 pin 0 0 (raw % 16))

/-- The pin captures an edge of this direction (R111). -/
def State.evtSelects (s : State) (pin : Nat) (rise : Bool) : Bool :=
  s.on F.SYN_EVTI_CTRL_ENABLE pin &&
    (s.rd F.SYN_EVTI_CTRL_EDGE pin == 2 || (s.rd F.SYN_EVTI_CTRL_EDGE pin == 0) == rise)

/-- EVT_IN_EDGE: an edge with its raw form in sub-ticks, the fused input delay taken out; DELAY is taken out here (DEDUCED, log 60). -/
def execEvtInEdge (pin : Fin 8) (rise : Bool) (raw : Nat) (s : State) : Host.Outcome State Fault Refusal :=
  .next (s.when (s.live && s.evtSelects pin.val rise) (fun s =>
    let r := stampOf ((20 * raw : Nat) - s.rdS F.SYN_EVTI_DELAY_VALUE pin.val)
    let glitch := match nth s.syn.evtiLast pin.val none with
      | some l => decide (r < l + 32)
      | none => false
    if glitch then s.bump 4 14 else s.classThree.evtCapture pin.val rise r))

/-- R111: POP removes the head entry. -/
def State.evtiPop (s : State) (pin : Nat) : State :=
  (s.setSyn (fun y => { y with evti := upd y.evti pin (fun q => q.drop 1) })).showEvti pin

/-- EVT_OUT_PULSE (R99, R100): an instant START + n × PERIOD_NS is fixed 4 ticks ahead. -/
def execEvtOutPulse (pin : Fin 8) (s : State) : Host.Outcome State Fault Refusal :=
  let n := pin.val
  .next (s.when (s.live && s.rd F.SYN_EVTO_CTRL_MODE n == 2) (fun s =>
    let s := s.classThree
    let base := viewOf (s.rd2 F.SYN_EVTO_START_SEC_LO_VALUE F.SYN_EVTO_START_SEC_HI_VALUE n) (s.rd F.SYN_EVTO_START_NS_NS n) 0
    match s.trainIn (s.now + 4) base (s.rd F.SYN_EVTO_PERIOD_NS n * 65536) with
    | some v => s.setSyn (fun y => { y with evto := upd y.evto n (fun x =>
        x.startView (s.rawIn (s.now + 4) v) (v + s.rd F.SYN_EVTO_WIDTH_NS n * 65536)) })
    | none => s))

/-- R99: a write of MODE, LEVEL or INVERT. Outside pulses the pin is at its inactive level, but in LEVEL mode with LEVEL 1; INVERT
turns it about. A pulse does not outlast PULSE and MIRROR. An edge leaves 3 ticks later. -/
def State.evtoLevel (s : State) (n : Nat) : State :=
  let mode := s.rd F.SYN_EVTO_CTRL_MODE n
  let lvl := (mode == 1 && s.on F.SYN_EVTO_CTRL_LEVEL n) != s.on F.SYN_EVTO_CTRL_INVERT n
  s.setSyn (fun y => { y with evto := upd y.evto n (fun x =>
    let high := x.rise (16 * s.now + 48) != 16 * s.now + 48
    let x' : OutPin := if mode < 2 then { x with pulse := none, fall := none } else x
    if x.level = lvl && !(high && decide (mode < 2)) then x' else { x' with level := lvl, edge := some (s.now + 3, lvl) }) })

/-- R99: what WIDTH_NS and PERIOD_NS may hold together. -/
def evtoOk (width period : Nat) : Bool := decide (5 ≤ width ∧ 2 * width ≤ period)

end Sys2Proof.Machine
end

