-- ==== Sys2Proof/Machine/Classify.lean ====
section
/-! DEFINITION. The parser, the classifier, the fragment tables, the load-spreading hash and the lookups that choose a
destination (R139 to R160, R169 to R171, R178, R188), and the slots of the pipelines (R113, R114, R130). -/

namespace Sys2Proof.Machine

/-! ### The tables as lookups see them -/

/-- The indexed tables of generation g (R150, R168). -/
def State.genTables (s : State) (g : Nat) : List TabEntry :=
  if g = s.rd F.SYS_CFG_GEN_CURRENT then s.tbl.cur else s.tbl.prev
def findEntry (l : List TabEntry) (table index : Nat) : Option (List Nat) :=
  (l.find? (fun e => e.table == table && e.index == index)).map (fun e => e.words)
/-- The VLAN entry of a VID, its reset value where none is written (R187). -/
def State.vlan (s : State) (g vid : Nat) : Nat := (((findEntry (s.genTables g) 6 vid).getD []).getD 0 0x20000)
/-- The key of a MAC entry and of a host entry as numbers (R170). -/
def macKey (vid mac : Nat) : Nat := vid % 4096 * 2 ^ 48 + mac
def hostKey (version addr : Nat) : Nat := version * 2 ^ 128 + addr
/-- R171: the lookup of an exact-match table; a table that is not enabled misses (R193). -/
def State.emFind (s : State) (t key : Nat) : Option EmEntry :=
  if s.on F.TBL_EM_CTRL_ENABLE t then s.tbl.em.find? (fun e => e.table == t && e.key == key) else none
/-- R188: the longest prefix that contains an address. -/
def State.prefixFind (s : State) (version addr : Nat) : Option PrefixEntry :=
  let w := if version = 4 then 32 else 128
  let hits := s.tbl.prefixes.filter (fun e => e.version == version && addr / 2 ^ (w - e.len) == e.addr / 2 ^ (w - e.len))
  hits.foldl (fun b e => match b with
    | none => some e
    | some x => if x.len < e.len then some e else b) none

/-! ### The parser (R139 to R146) -/

/-- n bytes from byte o of what the parser reads; a missing byte reads as 0 (R144) (DEDUCED, log 63). -/
def readBytes (b : Bytes) (o n : Nat) : Nat := (List.range n).foldl (fun a i => a * 256 + byteAt b (o + i)) 0

/-- R145: the width of a role. -/
def roleWidth (r : Nat) : Nat :=
  [0, 16, 32, 16, 32, 12, 3, 16, 32, 32, 32, 32, 32, 32, 32, 32, 32, 32, 8, 6, 8, 16, 16, 8, 16, 16, 32, 12, 32, 32, 32,
   32].getD r 0

/-- R78: the fixed PTP profile of a frame, if it matches a selector. -/
def ptpProfile (b : Bytes) : Option Nat :=
  let at' := fun o n => readBytes b o n
  let udp := fun o => at' o 2 == 319 || at' o 2 == 320
  let ip := fun o => -- o: place of the EtherType
    if at' o 2 = 0x88F7 then some 58
    else if at' o 2 = 0x0800 ∧ at' (o + 2) 1 % 16 = 5 ∧ at' (o + 11) 1 = 17 ∧ udp (o + 24) then some 60
    else if at' o 2 = 0x86DD ∧ at' (o + 8) 1 = 17 ∧ udp (o + 44) then some 62
    else none
  match ip 12 with
  | some p => some p
  | none => if at' 12 2 = 0x8100 then (ip 16).map (fun p => p + 1) else none

/-- Where the PTP header of a profile stands (R78). -/
def ptpOffset (profile : Nat) : Nat := [14, 18, 42, 46, 62, 66].getD (profile - 58) 0

/-- What the parser gives (R141 to R144). -/
structure Parsed where
  profile : Nat
  roles : List (Nat × Nat)
  fields : Nat
  short : Bool
  byDefault : Bool

/-- One compare of a selection entry: whether it passes, and whether it touches a missing byte (R141, R144). -/
def State.compare (s : State) (g : Nat) (b : Bytes) (off mask value : Fld) (n : Nat) : Bool × Bool :=
  let o := s.rdG g off n
  let m := s.rdG g mask n
  (Nat.land (readBytes b o 2) m == Nat.land (s.rdG g value n) m,
   (decide (256 ≤ m) && decide (b.length ≤ o)) || (m % 256 != 0 && decide (b.length ≤ o + 1)))

/-- Selection entry n matches (R141). -/
def State.selMatch (s : State) (g pclass : Nat) (b : Bytes) (n : Nat) : Bool :=
  s.onG g F.PRS_SEL_CTRL_VALID n && bit (s.rdG g F.PRS_SEL_CTRL_PCLASS_MASK n) pclass
    && (s.compare g b F.PRS_SEL_OFFS_OFF0 F.PRS_SEL_CMP0_MASK F.PRS_SEL_CMP0_VALUE n).1
    && (s.compare g b F.PRS_SEL_OFFS_OFF1 F.PRS_SEL_CMP1_MASK F.PRS_SEL_CMP1_VALUE n).1
    && (s.compare g b F.PRS_SEL_OFFS_OFF2 F.PRS_SEL_CMP2_MASK F.PRS_SEL_CMP2_VALUE n).1
def State.selShort (s : State) (g : Nat) (b : Bytes) (n : Nat) : Bool :=
  (s.compare g b F.PRS_SEL_OFFS_OFF0 F.PRS_SEL_CMP0_MASK F.PRS_SEL_CMP0_VALUE n).2
    || (s.compare g b F.PRS_SEL_OFFS_OFF1 F.PRS_SEL_CMP1_MASK F.PRS_SEL_CMP1_VALUE n).2
    || (s.compare g b F.PRS_SEL_OFFS_OFF2 F.PRS_SEL_CMP2_MASK F.PRS_SEL_CMP2_VALUE n).2

/-- Descriptor n (profile × 32 + f) is applied (R143). -/
def State.applyFld (s : State) (g : Nat) (b : Bytes) (n : Nat) (x : Parsed) : Parsed :=
  if !s.onG g F.PRS_FLD_EN n then x
  else
    let o := s.rdG g F.PRS_FLD_OFFSET n
    let i := s.rdG g F.PRS_FLD_BIT n
    let len := s.rdG g F.PRS_FLD_LEN_M1 n + 1
    let v := Nat.land (readBytes b o 5 / 2 ^ (40 - i - len) % 2 ^ len) (s.rdG g F.PRS_MASK_VALUE n)
    let role := s.rdG g F.PRS_FLD_ROLE n
    let lsb := s.rdG g F.PRS_FLD_KEY_LSB n
    { x with
      roles := if role = 0 then x.roles else (role, v % 2 ^ roleWidth role) :: x.roles.filter (fun r => r.1 != role)
      fields := if s.onG g F.PRS_FLD_KEY_EN n then
          x.fields / 2 ^ (lsb + len) * 2 ^ (lsb + len) + v * 2 ^ lsb + x.fields % 2 ^ lsb
        else x.fields
      short := x.short || decide (b.length ≤ o + (i + len - 1) / 8) }

/-- R139 to R144: the parser, on the payload of a frame that enters as port p (DEDUCED, log 63). -/
def State.parse (s : State) (g p : Nat) (payload : Bytes) : Parsed :=
  let b := payload.take 128
  let pclass := s.rdG g F.PRS_PORT_CFG_PCLASS p
  let start : Parsed :=
    match ptpProfile b with
    | some k => ⟨k, [], 0, false, false⟩
    | none =>
      match (List.range 64).find? (fun n => s.selMatch g pclass b n) with
      | some n => ⟨s.rdG g F.PRS_SEL_CTRL_PROFILE n, [], 0, s.selShort g b n, false⟩
      | none => ⟨s.rdG g F.PRS_PORT_CFG_DEFAULT_PROFILE p, [], 0, false, true⟩
  (List.range 32).foldl (fun x f => s.applyFld g b (start.profile * 32 + f) x) start

/-- The value of a role, if it was extracted, and as a lookup reads it (R144). -/
def roleOf? (r : List (Nat × Nat)) (n : Nat) : Option Nat := (r.find? (fun x => x.1 == n)).map (fun x => x.2)
def roleOf (r : List (Nat × Nat)) (n : Nat) : Nat := (roleOf? r n).getD 0

/-- R146: 0 not a fragment, 1 first, 2 later. -/
def fragState (r : List (Nat × Nat)) : Nat :=
  let f4 := roleOf? r 24
  let f6 := roleOf? r 25
  let later := (match f4 with | some v => v % 8192 != 0 | none => false) || (match f6 with | some v => v / 8 != 0 | none => false)
  let first := (match f4 with | some v => v % 8192 == 0 && bit v 13 | none => false)
    || (match f6 with | some v => v / 8 == 0 && bit v 0 | none => false)
  if later then 2 else if first then 1 else 0

/-! ### The key and the ternary table (R147 to R149) -/

/-- R148: the RANGE bits. -/
def State.rangeBits (s : State) (g : Nat) (r : List (Nat × Nat)) : Nat :=
  (s.listedG g F.CLS_RANGE_CTRL_ENABLE).foldl (fun a n =>
    let hit := match roleOf? r (s.rdG g F.CLS_RANGE_CTRL_ROLE n) with
      | some v => s.onG g F.CLS_RANGE_CTRL_ENABLE n && decide (s.rdG g F.CLS_RANGE_LO_VALUE n ≤ v)
          && decide (v ≤ s.rdG g F.CLS_RANGE_HI_VALUE n)
      | none => false
    if hit then a ||| 2 ^ s.rdG g F.CLS_RANGE_CTRL_KEY_BIT n else a) 0

/-- R147: the 320-bit key (DEDUCED, log 63). -/
def State.keyOf (s : State) (g port : Nat) (x : Parsed) : Nat :=
  port * 2 ^ 310 + x.profile * 2 ^ 304 + s.rdG g F.PRS_PORT_CFG_PCLASS port * 2 ^ 300 + b2n x.short * 2 ^ 299
    + fragState x.roles * 2 ^ 297 + s.rangeBits g x.roles * 2 ^ 256 + x.fields % 2 ^ 256

/-- Ten words, word 0 first, as a 320-bit value (R147). -/
def wordsNat (w : List Nat) : Nat := w.foldl (fun a x => a * 2 ^ 32 + x % 2 ^ 32) 0
/-- A row's words: VALUE, MASK, PG_MASK, ACTION (R149, R154). -/
def rowValue (w : List Nat) : Nat := wordsNat (w.take 10)
def rowMask (w : List Nat) : Nat := wordsNat ((w.drop 10).take 10)
def rowPg (w : List Nat) : Nat := w.getD 20 0
def rowAction (w : List Nat) : Nat := wordsNat ((w.drop 21).take 3)

/-- R149: the first row that matches, in a set of rows. -/
def rowFind (l : List TabEntry) (key pg : Nat) : Option TabEntry :=
  l.find? (fun e => e.table == 0x10 && bit (rowPg e.words) pg
    && Nat.land key (rowMask e.words) == Nat.land (rowValue e.words) (rowMask e.words))

/-- The fields of an action (R154). -/
def actPath (a : Nat) : Nat := bits a 95 94
def actPathId (a : Nat) : Nat := bits a 93 89
def actFwd (a : Nat) : Nat := bits a 88 87
def actDest (a : Nat) : Nat := bits a 86 71
def actCopyEn (a : Nat) : Bool := bit a 70
def actCopySeat (a : Nat) : Nat := bits a 69 68
def actCopyQ (a : Nat) : Nat := bits a 67 64
def actQueueEn (a : Nat) : Bool := bit a 63
def actQueue (a : Nat) : Nat := bits a 62 59
def actPoliceEn (a : Nat) : Bool := bit a 58
def actStream (a : Nat) : Nat := bits a 57 46
def actLearnDis (a : Nat) : Bool := bit a 45
def actEvrSel (a : Nat) : Nat := bits a 44 41
def actTagOp (a : Nat) : Nat := bits a 40 39
def actNewVid (a : Nat) : Nat := bits a 38 27
def actNewPcp (a : Nat) : Nat := bits a 26 24
def actNoL4 (a : Nat) : Bool := bit a 23

/-! ### The hash (R156) -/

/-- R156: the load-spreading hash of a frame. -/
def State.hashOf (s : State) (g : Nat) (r : List (Nat × Nat)) (action : Nat) : Nat :=
  let l4 := s.onG g F.CLS_HASH_CFG_L4_EN && !actNoL4 action && fragState r != 2
  let ps := if l4 then roleOf r 21 else 0
  let pd := if l4 then roleOf r 22 else 0
  let v4 := (roleOf? r 8).isSome && (roleOf? r 9).isSome
  let v6 := (List.range 8).all (fun i => (roleOf? r (10 + i)).isSome)
  let w6 := fun o => (List.range 4).foldl (fun a i => a * 2 ^ 32 + roleOf r (o + i)) 0
  let input : Bytes :=
    if v4 || v6 then
      let n := if v4 then 4 else 16
      let a := (if v4 then roleOf r 8 else w6 10)
      let b := (if v4 then roleOf r 9 else w6 14)
      let swap := decide (b < a) || (a == b && decide (pd < ps))
      let (a, pa, b, pb) := if swap then (b, pd, a, ps) else (a, ps, b, pd)
      be n a ++ be n b ++ be 1 (roleOf r 18) ++ be 2 pa ++ be 2 pb
    else
      let d := roleOf r 1 * 2 ^ 32 + roleOf r 2
      let m := roleOf r 3 * 2 ^ 32 + roleOf r 4
      be 6 (min d m) ++ be 6 (max d m) ++ be 2 (if s.onG g F.CLS_HASH_CFG_VID_EN then roleOf r 5 else 0) ++ be 2 (roleOf r 7)
  crcStep 1 (s.rdG g F.CLS_HASH_SEED_VALUE) input

/-! ### The destination (R169) -/

/-- What a result word says (R169). -/
inductive Found
  | to (d : Dest) (queue : Option Nat)
  | drop (reason : Nat)
deriving DecidableEq, Repr

def foundOf (w : Nat) : Found :=
  let q := if bit w 29 then some (bits w 28 25) else none
  if bits w 31 30 = 0 then .to (.port (bits w 15 0)) q
  else if bits w 31 30 = 1 then .to (.group (bits w 15 0)) q else .drop 21

/-- The address that IP lookups use: version and address (R169). -/
def ipDest (r : List (Nat × Nat)) : Option (Nat × Nat) :=
  match roleOf? r 9 with
  | some a => some (4, a)
  | none =>
    if (List.range 4).all (fun i => (roleOf? r (14 + i)).isSome) then
      some (6, (List.range 4).foldl (fun a i => a * 2 ^ 32 + roleOf r (14 + i)) 0)
    else none

/-- The VID that lookups use (R145, R407). -/
def State.lookupVid (s : State) (g p : Nat) (r : List (Nat × Nat)) : Nat :=
  match roleOf? r 5 with
  | some v => v
  | none => s.rdG g F.MAC_PORT_VLAN_DEFAULT_VID p

/-- A copy waits for its repair, which it asks for once (R153, R189). -/
def State.askRepair (s : State) (pipe table index : Nat) : State :=
  if s.tbl.repairs.any (fun r => r.pipe == pipe && r.table == table && r.index == index) then s
  else s.setTbl (fun t => { t with repairs := t.repairs ++ [⟨pipe, table, index, s.now⟩] })
/-- A word of a copy is uncorrectable until it is repaired (R189, R153). -/
def State.noteDamage (s : State) (pipe table index : Nat) : State :=
  (s.setTbl (fun t => { t with
    damage := if t.damage.contains (pipe, table, index) then t.damage else t.damage ++ [(pipe, table, index)] })).askRepair pipe table index
/-- A lookup that misses because its copy is uncorrectable is counted and reported (R189). -/
def State.eccMiss (s : State) (pipe table index : Nat) : State :=
  (((s.bump 6 16).raiseBits F.TBL_INT_STATUS_ECC_UNCORR 0 1).raiseFault 29 2 1 pipe (table * 2 ^ 32 + index)).noteDamage pipe table index
/-- The uncorrectable word that the lookup of a table in a pipeline's copy meets, by its index: one that its codes find now, or one known
and not yet repaired where the entry stands (R189). -/
def State.lostWord (s : State) (pipe table : Nat) (lost : List (Nat × Nat)) (place : Option Nat) : Option Nat :=
  match lost.find? (fun x => x.1 == table) with
  | some x => some x.2
  | none => place.bind (fun i => if s.tbl.damage.contains (pipe, table, i) then some i else none)
/-- One lookup of a table that would find its entry at `place`, or nothing: whether it finds it, counted as a hit or a miss (R189, R193). -/
def State.tableLookup (s : State) (pipe table : Nat) (lost : List (Nat × Nat)) (place : Option Nat) : State × Bool :=
  match s.lostWord pipe table lost place with
  | some i => ((s.eccMiss pipe table i).bump 6 2, false)
  | none => (s.bump 6 (if place.isSome then 1 else 2), place.isSome)

/-- The place of an exact-match slot as an index: T0, T1, then the stash. -/
def Loc.index (t : Nat) : Loc → Nat
  | .slot half bucket place => (half * (if t = 0 then 65536 else 131072) + bucket) * 4 + place
  | .stash n => 8 * (if t = 0 then 65536 else 131072) + n

/-- R169 steps 1 and 2: the host table, then the longest prefix. -/
def State.ipDestination (s : State) (pipe : Nat) (ip : Nat × Nat) (lost : List (Nat × Nat)) : State × Option (Found × List (Nat × Nat)) :=
  let host := s.emFind 1 (hostKey ip.1 ip.2)
  match host, s.tableLookup pipe 2 lost (host.map (fun h => h.loc.index 1)) with
  | some h, (s, true) => (s, some (foundOf h.result, if h.ageEn then [(1, h.key)] else []))
  | _, (s, _) =>
    let pfx := s.prefixFind ip.1 ip.2
    match pfx, s.tableLookup pipe 3 lost (pfx.bind (fun x => s.tbl.prefixes.idxOf? x)) with
    | some x, (s, true) => (s, some (foundOf x.result, []))
    | _, (s, _) => (s, none)

/-- R169 steps 3 to 5: the MAC table, then the VLAN's flood group. -/
def State.macDestination (s : State) (pipe g vid dmac : Nat) (lost : List (Nat × Nat)) : State × Found × List (Nat × Nat) :=
  let mac := s.emFind 0 (macKey vid dmac)
  match mac, s.tableLookup pipe 1 lost (mac.map (fun m => m.loc.index 0)) with
  | some m, (s, true) => (s, foundOf m.result, if s.on F.TBL_LEARN_CTRL_HIT_ON_DA then [(0, m.key)] else [])
  | _, (s, _) =>
    match s.lostWord pipe 6 lost (some vid) with
    | some i => (s.eccMiss pipe 6 i, .drop 20, [])
    | none =>
      let v := s.vlan g vid
      (s, if bit v 16 then .to (.group (v % 65536)) none else .drop 20, [])

/-- R169: the search for a destination; with it the entries hit (R182). -/
def State.destination (s : State) (pipe g p : Nat) (r : List (Nat × Nat)) (e : LookupErr) :
    State × Found × List (Nat × Nat) :=
  let mac := fun (s : State) => s.macDestination pipe g (s.lookupVid g p r) (roleOf r 1 * 2 ^ 32 + roleOf r 2) e.lost
  match (if s.onG g F.TBL_PORT_CFG_L3_EN p then ipDest r else none) with
  | none => mac s
  | some ip =>
    match s.ipDestination pipe ip e.lost with
    | (s, some x) => (s, x.1, x.2)
    | (s, none) => mac s

/-! ### Fragments (R157 to R160) -/

/-- R157: the key of an entry. -/
def fragKey (r : List (Nat × Nat)) : List Nat :=
  if (roleOf? r 8).isSome then [4, roleOf r 8, roleOf r 9, roleOf r 18, roleOf r 26]
  else 6 :: (List.range 8).map (fun i => roleOf r (10 + i)) ++ [roleOf r 18, roleOf r 26]

def State.fragLive (s : State) (x : Frag) : Bool := decide (s.now - x.last < s.rd F.CLS_FRAG_CTRL_TIMEOUT_US * 800)
def State.fragFind (s : State) (group : Nat) (key : List Nat) : Option Frag :=
  if !s.on F.CLS_FRAG_CTRL_ENABLE then none else s.fwd.frags.find? (fun x => x.group == group && x.key == key && s.fragLive x)

/-- R160: the fragment tables of some groups are emptied. -/
def State.emptyFrags (s : State) (group : Nat → Bool) : State :=
  s.setFwd (fun w => { w with frags := w.frags.filter (fun x => !group x.group) })
/-- R158: a first fragment claims an entry for its decision, a drop among them (DESIGN CHOICE, log 26). -/
def State.fragClaim (s : State) (group : Nat) (key : List Nat) (dec : Decision) : State :=
  if !s.on F.CLS_FRAG_CTRL_ENABLE then s
  else
    match s.fragFind group key with
    | some x =>
      (s.bump 5 7).setFwd (fun w => { w with
        frags := w.frags.map (fun y => if y = x then { y with dec := dec, last := s.now } else y) })
    | none =>
      let set := Config.fragSet key % 256
      let here := s.fwd.frags.filter (fun y => y.group == group && y.set == set && s.fragLive y)
      match (List.range 4).find? (fun w => here.all (fun y => y.way != w)) with
      | some w =>
        s.setFwd (fun x => { x with
          frags := x.frags.filter (fun y => !(y.group == group && y.set == set && y.way == w))
            ++ [⟨group, set, w, key, dec, s.now⟩] })
      | none => (s.bump 5 8).raiseBits F.CLS_INT_STATUS_FRAG_FULL 0 1

/-! ### Sampling and learning candidates -/

/-- R135: the countdown of the ingress port; whether the frame that reached the classifier is sampled. -/
def State.sampleCount (s : State) (p : Nat) : State × Bool :=
  let n := s.rd F.BUF_FWD_PORT_SAMPLE_SAMPLE_N p
  if n = 0 then (s, false)
  else
    let left := s.fwd.sample.get p n
    if left ≤ 1 then ((s.setFwd (fun w => { w with sample := w.sample.put p n 0 })).bump 0 4 p, true)
    else (s.setFwd (fun w => { w with sample := w.sample.put p (left - 1) 0 }), false)

/-- R178: what the frame may teach, and the entries its lookups hit, wait for its decision tick. -/
def State.candidate (s : State) (f : Frame) (r : List (Nat × Nat)) (action : Nat) (hits : List (Nat × Nat)) : State :=
  let vid := s.lookupVid f.gen f.port r
  let smac := roleOf r 3 * 2 ^ 32 + roleOf r 4
  let learn := !actLearnDis action && !bit smac 40 && bit (s.vlan f.gen vid) 17
  if f.seen then s
  else if learn || !hits.isEmpty then
    s.setTbl (fun t => { t with
      candidates := t.candidates ++ [⟨f.id, learn, vid, smac, f.port, f.raw, hits,
        if f.ended then some (f.bad == 0) else none⟩] })
  else s

/-! ### What is taken out of the path before it is classified -/

/-- A hardware association or a master-port role on the port is configured for the domain (R77). -/
def State.ptpTerminates (s : State) (p dom : Nat) : Bool :=
  (List.range 4).any (fun a => s.on F.SYN_ASSOC_CTRL_ENABLE a && s.rd F.SYN_ASSOC_CTRL_PORT a == p
      && s.rd F.SYN_ASSOC_CTRL_DOMAIN a == dom)
    || (decide (p < 512) && s.rd F.SYN_MPORT_CTRL_ROLE p == 1 && s.rd F.SYN_MPORT_CTRL_DOMAIN p == dom)

/-- A frame that is consumed and never forwarded: an in-band command (R434), a Troupe frame (R303), a PTP message on a
terminating port, or a Pdelay message (R77). -/
def State.consumed (s : State) (f : Frame) : Bool :=
  let b := f.payload
  let et := readBytes b 12 2
  let inband := readBytes b 0 6 == s.rd2 F.CMD_INBAND_MAC_LO_VALUE F.CMD_INBAND_MAC_HI_VALUE
    && (et == 0x88B6 || (s.isTagged f.gen b && readBytes b 16 2 == 0x88B6))
  let ptp := match ptpProfile b with
    | some k =>
      let o := ptpOffset k
      let t := byteAt b o % 16
      t == 2 || t == 3 || t == 10 || s.ptpTerminates f.port (byteAt b (o + 4))
    | none => false
  inband || et == 0x88B5 || ptp

/-! ### A slot (R113, R114, R130) -/

/-- A corrected row or entry (R153, R189): the lookup is unaffected, a NOTE fault is raised and the copy repaired. -/
def State.corrected (s : State) (pipe : Nat) (e : LookupErr) : State :=
  let s := match e.rowCorrected with
    | some row => ((s.raiseFault 28 1 0 pipe row).raiseBits F.CLS_INT_STATUS_ECC_CORR 0 1).askRepair pipe 0x10 row
    | none => s
  e.corrected.foldl (fun s x =>
    ((s.raiseFault 29 1 0 pipe (x.1 * 2 ^ 32 + x.2)).raiseBits F.TBL_INT_STATUS_ECC_CORR 0 1).askRepair pipe x.1 x.2) s

/-- A decision reached: the frame is dropped, or is on its way to buffer admission, 64 ticks after its slot (R116). -/
def State.onward (s : State) (f : Frame) (pipe : Nat) (x : Parsed) (d : Decision) : State :=
  match d.dest with
  | .none r => s.dropDecided f d.action r
  | _ => s.setFwd (fun w => { w with pipe := w.pipe ++ [⟨f, pipe, s.now + s.pathTicks 64, d, x.profile, x.roles⟩] })

/-- The row that the classifier's copy finds uncorrectable for a key: found now, or known where the first match stands (R153). -/
def State.lostRow (s : State) (pipe : Nat) (e : LookupErr) (row : Option TabEntry) : Option Nat :=
  match e.rowLost with
  | some i => some i
  | none => row.bind (fun x => if s.tbl.damage.contains (pipe, 0x10, x.index) then some x.index else none)
/-- R149, R154, R169: the decision on a frame's own key, with the entries that its lookups hit. -/
def State.ownDecision (s : State) (f : Frame) (pipe : Nat) (x : Parsed) (e : LookupErr) : State × Decision × List (Nat × Nat) :=
  let g := f.gen
  let pg := if f.port < 512 then f.port / 32 else 16
  let row := rowFind (s.genTables g) (s.keyOf g f.port x) pg
  match s.lostRow pipe e row with
  | some i => ((s.raiseFault 28 2 1 pipe i).noteDamage pipe 0x10 i, { dest := .none 18 }, [])
  | none =>
    let action := match row with | some r => rowAction r.words | none => 0
    let s := match row with | some _ => s.bump 5 1 | none => s
    let (s, found, hits) : State × Found × List (Nat × Nat) :=
      if actFwd action = 0 then s.destination pipe g f.port x.roles e
      else if actFwd action = 1 then (s, .to (.port (actDest action)) none, [])
      else if actFwd action = 2 then (s, .to (.group (actDest action)) none, [])
      else (s, .drop 17, [])
    let d : Decision := { action := action, hash := s.hashOf g x.roles action, recordIt := !e.lost.isEmpty, lost := e.lost }
    (s, (match found with
      | .drop r => { d with dest := .none r }
      | .to dest q => { d with dest := dest, resQueue := q }), hits)

/-- R149 to R156, R169: classification and lookup of a frame on its own key. -/
def State.classify (s : State) (f : Frame) (pipe : Nat) (x : Parsed) (e : LookupErr) : State :=
  let (s, d, hits) := s.ownDecision f pipe x e
  let s := if d.dest = .none 18 then s else s.candidate f x.roles d.action hits
  let s := if fragState x.roles = 1 then s.fragClaim f.group (fragKey x.roles) d else s
  s.onward f pipe x d

/-- R113, R139 to R169: a frame in its slot. -/
def State.process (s : State) (f : Frame) (pipe : Nat) (e : LookupErr) : State :=
  if f.gen ≠ s.rd F.SYS_CFG_GEN_CURRENT ∧ f.gen ≠ s.rd F.SYS_CFG_GEN_PREVIOUS then
    (s.raiseFault (11 + pipe) 3 1 f.group s.now).dropFrame f 10
  else if s.consumed f then s
  else
    let s := s.corrected pipe e
    let x := s.parse f.gen f.port f.payload
    let s := if x.byDefault then s.bump 5 2 else s
    let s := if x.short then s.bump 5 3 else s
    let s := if s.rangeBits f.gen x.roles ≠ 0 then s.bump 5 4 else s
    let (s, sampled) := if f.seen then (s, false) else s.sampleCount f.port
    let s := if sampled then
        s.setFwd (fun w => { w with samples := w.samples ++ [⟨⟨f, pipe, s.now + s.pathTicks 64, {}, x.profile, x.roles⟩,
          s.rd F.BUF_FWD_PORT_SAMPLE_DEST_SAMPLE_SEAT f.port, s.rd F.BUF_FWD_PORT_SAMPLE_DEST_SAMPLE_Q f.port, 1⟩] })
      else s
    if fragState x.roles = 2 then
      match s.fragFind f.group (fragKey x.roles) with
      | some y =>
        let s := s.setFwd (fun w => { w with frags := w.frags.map (fun z => if z = y then { z with last := s.now } else z) })
        (s.candidate f x.roles y.dec.action []).onward f pipe x y.dec
      | none =>
        let s := s.raiseBits F.CLS_INT_STATUS_FRAG_MISS 0 1
        if s.on F.CLS_FRAG_CTRL_MISS_POLICY then
          let x := { x with roles := x.roles.map (fun r => if r.1 = 21 ∨ r.1 = 22 then (r.1, 0) else r) }
          (s.bump 5 10).classify f pipe x e
        else s.dropFrame f 19
    else s.classify f pipe x e

/-- R407: the tag state passes ACCEPT (DEDUCED, log 27). -/
def State.tagPasses (s : State) (f : Frame) : Bool :=
  let accept := s.rdG f.gen F.MAC_PORT_CFG_ACCEPT f.ing
  !((accept == 1 && !s.isTagged f.gen f.bytes) || (accept == 2 && s.isTagged f.gen f.bytes))

/-- R118, R116: a frame may be taken before its end when its port cuts through and its byte 128 has been detected; a frame that
the tag filter will keep back waits for its end. The hand-off takes 8 ticks (DEDUCED, log 27) (DEDUCED, log 73). -/
def State.headReady (s : State) (f : Frame) : Bool :=
  (f.ended && decide (s.lastByteTick f = 0 ∨ s.lastByteTick f + s.pathTicks 8 ≤ s.now)) || (decide (f.port < 512) && s.on F.BUF_FWD_PORT_CTRL_CT_EN f.port && decide (128 ≤ f.bytes.length)
    && decide (s.detectTick f 128 + s.pathTicks 8 ≤ s.now) && beAt f.bytes 12 2 != 0x8808 && s.tagPasses f)

/-- The oldest frame of a port that waits and may be taken. -/
def State.waitingOf (s : State) (p : Nat) (group : Nat) : Option Frame :=
  match s.fwd.fifo.find? (fun f => f.port == p && f.group == group) with
  | some f => if s.headReady f then some f else none
  | none => none

/-- FWD_PORT.FIFO shows the frames of a port's FIFO (R138). -/
def State.showFifo (s : State) (p : Nat) : State :=
  s.wr F.BUF_FWD_PORT_FIFO_FRAMES p (s.fwd.fifo.filter (fun f => f.port == p)).length

/-- R114: the next front-panel port of a group under weighted round robin, and the turn after it (DEDUCED, log 27). -/
def State.wrrNext (s : State) (pipe group : Nat) : Option (Frame × Nat × Nat) :=
  let (cur, had) := nth s.fwd.wrr pipe (0, 0)
  let stay := if had < modeLanes (s.rd F.LAN_PORT_CFG_MODE (32 * group + cur)) then s.waitingOf (32 * group + cur) group else none
  match stay with
  | some f => some (f, cur, had + 1)
  | none =>
    (List.range 32).findSome? (fun i =>
      let p := (cur + 1 + i) % 32
      (s.waitingOf (32 * group + p) group).map (fun f => (f, p, 1)))

/-- R130: the internal ports of a group in turn. -/
def State.internalNext (s : State) (pipe group : Nat) : Option (Frame × Nat) :=
  let cur := nth s.fwd.rrInt pipe 0
  (List.range 6).findSome? (fun i =>
    let k := (cur + 1 + i) % 6
    (s.waitingOf (512 + k) group).map (fun f => (f, k)))

/-- A frame leaves its FIFO for its slot. -/
def State.unqueue (s : State) (f : Frame) : State :=
  (s.setFwd (fun w => { w with fifo := w.fifo.filter (fun y => y.id != f.id) })).showFifo f.port

/-- The frame that a slot takes (R113): none in slot 0, an internal one in slots 32 and 96. -/
def State.takeSlot (s : State) (pipe group slot : Nat) : Option Frame × State :=
  let s := s.setFwd (fun w => { w with slotsUsed := w.slotsUsed ++ [128 * pipe + slot] })
  if slot = 0 then (none, s)
  else if slot = 32 ∨ slot = 96 then
    match s.internalNext pipe group with
    | some (f, k) => (some f, (s.setFwd (fun w => { w with rrInt := upd w.rrInt pipe (fun _ => k) })).unqueue f)
    | none => (none, s)
  else
    match s.wrrNext pipe group with
    | some (f, p, n) => (some f, (s.setFwd (fun w => { w with wrr := upd w.wrr pipe (fun _ => (p, n)) })).unqueue f)
    | none => (none, s)

/-- R562: ticks from the start of a group of 128 slots to that of the next, and to slot k: 32 core clocks and k div 4 of them. -/
def groupTicks (mhz : Nat) : Nat := ceilDiv 25600 mhz
def slotOffset (mhz slot : Nat) : Nat := slot / 4 * 800 / mhz
/-- R562: the base tick and core frequency that place the groups of this tick. -/
def State.slotGrid (s : State) : Nat × Nat :=
  if s.now < s.fwd.slotBase then s.fwd.slotPrev else (s.fwd.slotBase, s.rd F.PWR_STATUS_CORE_MHZ)
/-- R562: slot k falls in this tick (DEDUCED, log 27). -/
def State.slotNow (s : State) (slot : Nat) : Bool :=
  let (base, mhz) := s.slotGrid
  (s.now - base) % groupTicks mhz == slotOffset mhz slot
/-- R562: the core frequency changes: the group under way ends as it began, and the first group after it starts at the next boundary, or at
the next multiple of 16 at the full core clock (DEDUCED, log 27). -/
def State.regrid (s : State) (mhz : Nat) : State :=
  let (base, old) := s.slotGrid
  let after := base + ((s.now - base) / groupTicks old + 1) * groupTicks old
  s.setFwd (fun w => { w with slotPrev := (base, old), slotBase := if mhz = 1600 then ceilDiv after 16 * 16 else after })
/-- R113: a slot carries once in its tick. -/
def State.slotFree (s : State) (pipe slot : Nat) : Bool := s.slotNow slot && !s.fwd.slotsUsed.contains (128 * pipe + slot)

/-- SLOT_ISSUE: a slot of a pipeline, with what its table copies' codes find. A pipeline that has failed hands its frames
to the replay buffer (R489); pipeline 16 replays it first (R490 step 4) (DEDUCED, log 27). -/
def execSlotIssue (pipe : Fin 17) (slot : Fin 128) (err : LookupErr) (s : State) : Host.Outcome State Fault Refusal :=
  let p := pipe.val
  .next (s.when (s.live && s.slotFree p slot.val) (fun s =>
    if p < 16 then
      match nth s.flt.pipes p .down with
      | .serving =>
        match s.takeSlot p p slot.val with
        | (some f, s) => s.process f p err
        | (none, s) => s
      | .failed =>
        if (s.flt.takeOver.map Prod.fst) = some p ∧ !s.flt.slotsTaken then
          match s.takeSlot p p slot.val with
          | (some f, s) => s.setFwd (fun w => { w with replay := w.replay ++ [{ f with replayed := true }] })
          | (none, s) => s
        else s
      | .down => s
    else
      match s.flt.takeOver with
      | some (g, _) =>
        if !s.flt.slotsTaken then s
        else
          match s.fwd.replay with
          | f :: rest =>
            if slot.val = 0 then s
            else ((s.setFwd (fun w => { w with replay := rest, slotsUsed := w.slotsUsed ++ [128 * 16 + slot.val] })).bump 17 6).process f 16 err
          | [] =>
            match s.takeSlot 16 g slot.val with
            | (some f, s) => s.process f 16 err
            | (none, s) => s
      | none => s))

end Sys2Proof.Machine
end

