-- ==== Sys2Proof/Machine/Edit.lean ====
section
/-! DEFINITION. The egress edit (R65 to R70, R408 to R410). -/

namespace Sys2Proof.Machine

/-! ### Tags (R408 steps 1 and 2) -/

/-- A VID written into the outer tag. -/
def setVid (b : Bytes) (vid : Nat) : Bytes := spliceAt b 14 (be 2 (beAt b 14 2 / 4096 * 4096 + vid))
def dropTag (b : Bytes) : Bytes := b.take 12 ++ b.drop 16

/-- TAG_OP (R408 step 1): the bytes after it, whether an outer tag stands there now, by how much what follows the
addresses has moved, and whether a pop or rewrite found no tag. -/
def tagOp (c : Copy) (b : Bytes) (tagged : Bool) : Bytes × Bool × Int × Bool :=
  let op := actTagOp c.action
  if op = 1 then
    (b.take 12 ++ be 2 c.pushTpid ++ be 2 (actNewPcp c.action * 8192 + actNewVid c.action) ++ b.drop 12, true, 4, false)
  else if op = 2 then (if tagged then (dropTag b, false, -4, false) else (b, false, 0, true))
  else if op = 3 then (if tagged then (setVid b (actNewVid c.action), true, 0, false) else (b, false, 0, true))
  else (b, tagged, 0, false)

/-- Native untag (R408 step 2). -/
def nativeUntag (c : Copy) (b : Bytes) (tagged : Bool) : Bytes × Int :=
  match c.untagVid with
  | some v => if tagged ∧ beAt b 14 2 % 4096 = v then (dropTag b, -4) else (b, 0)
  | none => (b, 0)

/-! ### One-step updates (R70, R78) -/

/-- One's complement sum of the 16-bit words of a string. -/
def onesSum (b : Bytes) : Nat :=
  let t := (List.range ((b.length + 1) / 2)).foldl (fun a i => a + byteAt b (2 * i) * 256 + byteAt b (2 * i + 1)) 0
  let t := t % 65536 + t / 65536
  t % 65536 + t / 65536

/-- A UDP checksum updated for bytes that change (R70): the complement of the old sum less the old words plus the new (PRESUMED, log 37). -/
def checksumUpdate (old : Nat) (before after : Bytes) : Nat :=
  let t := (65535 - old) + (65535 - onesSum before) + onesSum after
  let t := t % 65536 + t / 65536
  65535 - (t % 65536 + t / 65536)

/-- The residence time in units of 2⁻¹⁶ ns: the raw difference scaled by 1 + Rate (R70). -/
def State.residence (s : State) (ingRaw egrRaw : Nat) : Int :=
  let d : Int := ((egrRaw : Int) - ingRaw) * 5120
  d + Int.fdiv (d * s.params.rate) (2 ^ 40)

/-- What the transparent-clock update of a copy adds to correctionField, as it is predicted (R70): the residence time, and for a Sync the
link delay of a P2P ingress port too (R81). -/
def State.oneStepCorr (s : State) (c : Copy) (egrRaw : Nat) : Int :=
  if !c.oneStep || c.profile < 58 then 0
  else
    let ing := c.frame.ing
    let sync := byteAt c.frame.payload (ptpOffset c.profile) % 16 == 0
    s.residence c.frame.raw egrRaw
      + (if sync && decide (ing < 512) && s.on F.SYN_MPORT_CTRL_DELAY_MECH ing then s.rdS F.SYN_MPORT_LINK_LINK_DELAY ing else 0)

/-- The transparent-clock update of a Sync or Delay_Req by `corr` (R70, R78) (PRESUMED, log 37). -/
def oneStepUpdate (c : Copy) (b : Bytes) (shift corr : Int) : Bytes :=
  if !c.oneStep || c.profile < 58 then b
  else
    let o := ((ptpOffset c.profile : Int) + shift).toNat
    let t := byteAt b o % 16
    if t ≠ 0 ∧ t ≠ 1 then b
    else
      let old := (b.drop (o + 8)).take 8
      let new := be 8 (ofS 64 (toS 64 (beNat old) + corr))
      let b := spliceAt b (o + 8) new
      if c.profile < 60 then b
      else
        let k := beAt b (o - 2) 2
        if k = 0 ∧ c.profile < 62 then b
        else
          let k' := checksumUpdate k old new
          spliceAt b (o - 2) (be 2 (if k' = 0 then 0xFFFF else k'))

/-! ### The trailer (R65 to R67) -/

/-- The timestamp trailer of a copy (R65). -/
def trailerOf (c : Copy) : Bytes :=
  let f := c.frame
  let v := f.view
  be 2 0x4B54 ++ be 1 f.epoch
    ++ be 1 (b2n c.late + b2n (f.bad == 4) * 2 + b2n c.seqNo.isSome * 4 + b2n (c.path == 1) * 8 + b2n f.hold * 16
        + b2n f.uncal * 32)
    ++ be 4 (viewSec v) ++ be 4 (viewNs v) ++ be 2 (viewFrac v) ++ be 2 f.ing
    ++ (match c.seqNo with | some n => be 8 n | none => [])

/-! ### The edit (R408) -/

/-- What the egress edit gives: the bytes sent, whether a trailer stands in them or was skipped, a tag operation without
a tag, a store-and-forward copy that is too long, and the reason of a bad end. -/
structure Edited where
  out : Bytes
  trailer : Bool
  skip : Bool
  noTag : Bool
  tooLong : Bool
  endReason : Nat

/-- The reason with which a cut-through copy of a bad frame ends (R120, R121). -/
def ctReason (f : Frame) : Nat :=
  if f.cutOff then 53 else if f.bad = 0 then 0 else if f.bad = 1 then 52 else if f.bad = 4 then 58 else 51

/-- The bytes that the edit starts from: the frame without its FCS; what had come of one cut off; of a sample, the first 128 bytes of a
longer frame (R132, R135) (DEDUCED, log 86). -/
def Copy.content (c : Copy) : Bytes :=
  let f := c.frame
  if f.cutOff then (if c.sample then f.bytes.take 128 else f.bytes)
  else if c.sample ∧ 128 < f.len then
    (f.payload ++ (if f.stripLen = 0 then f.bytes.drop (f.bytes.length - 4) else fcsOf f.payload)).take 128
  else f.payload

/-- R408, R410, R120: the egress edit of a copy whose one-step update is predicted as `corr`. -/
def State.edit (s : State) (c : Copy) (corr : Int) : Edited :=
  let f := c.frame
  let maxLen := s.rd F.MAC_PORT_CFG_MAX_LEN c.egr
  let b0 := c.content
  let tagged := s.isTagged f.gen f.bytes
  let (b1, t1, d1, noTag) := tagOp c b0 tagged
  let (b2, d2) := nativeUntag c b1 t1
  if maxLen < b2.length + 4 then
    let b := b2.take (maxLen - 4)
    { out := b ++ stompOf b, trailer := false, skip := false, noTag := noTag, tooLong := !c.cut,
      endReason := if c.cut then 54 else 0 }
  else
    let b3 := oneStepUpdate c b2 (d1 + d2) corr
    let t := if c.trailer ∧ !f.cutOff then trailerOf c else []
    let fits := b3.length + t.length + 4 ≤ maxLen
    let b4 := if fits then b3 ++ t else b3
    let b5 := b4 ++ zeros (60 - b4.length)
    let bad := if c.sample then 0 else ctReason f
    { out := b5 ++ (if bad = 0 then fcsOf b5 else stompOf b5), trailer := fits && t.length != 0,
      skip := !fits && t.length != 0, noTag := noTag, tooLong := false, endReason := bad }

/-- The frame bytes of a copy as it will be transmitted (R229, R244). -/
def State.sentBytes (s : State) (c : Copy) : Nat := (s.edit c 0).out.length

end Sys2Proof.Machine
end

