-- ==== Sys2Proof/Machine/Gates.lean ====
section
/-! DEFINITION. Gate lists and stream gates (R240 to R246), the conditions on a queue's head (R228, R229, R244, R249),
shapers (R232 to R234) and pauses (R236). -/

namespace Sys2Proof.Machine

/-! ### From a view instant to its tick -/

/-- The first tick, not before `t`, whose view at its boundary reaches an instant (R242) (DEDUCED, log 61). -/
def State.tickOfView (s : State) (t : Nat) (v : Int) : Nat :=
  let p := s.params
  let n := (p.anchor : Int) + Int.fdiv ((v - p.offset) * 2 ^ 40) (81920 * (2 ^ 40 + p.rate))
  let lo := max t (n - 2).toNat
  (((List.range 6).map (fun i => lo + i)).find? (fun c => decide (v ≤ viewUnits p c 0))).getD (lo + 6)

/-! ### Headers and entries (R241, R242) -/

/-- A schedule header: base and cycle in units of 2⁻¹⁶ ns, first entry, entries. -/
structure Sched where
  base : Nat
  cycle : Nat
  first : Nat
  len : Nat

def State.liveEntry (s : State) (table index : Nat) : List Nat := (findEntry s.tbl.live table index).getD []

def State.sched (s : State) (h : Nat) : Sched :=
  let w := s.liveEntry 0x20 h
  { base := viewOf (bits (w.getD 1 0) 15 0 * 2 ^ 32 + w.getD 0 0) (bits (w.getD 2 0) 29 0) 0,
    cycle := w.getD 3 0 * 65536, first := bits (w.getD 4 0) 14 0, len := bits (w.getD 4 0) 24 16 }

/-- STATES, IPV if enabled, and the interval in units of 2⁻¹⁶ ns of an entry. -/
def State.gateStates (s : State) (i : Nat) : Nat := bits ((s.liveEntry 0x21 i).getD 0 0) 15 0
def State.gateIpv (s : State) (i : Nat) : Option Nat :=
  let w := (s.liveEntry 0x21 i).getD 0 0
  if bit w 19 then some (bits w 18 16) else none
def State.gateInterval (s : State) (i : Nat) : Nat := (s.liveEntry 0x21 i).getD 1 0 * 65536

/-- The end of each entry within the cycle: intervals beyond it are cut, and the last entry runs on (R242). -/
def entryEnds (cycle : Nat) : Nat → List Nat → List Nat
  | _, [] => []
  | _, [_] => [cycle]
  | acc, d :: rest => min cycle (acc + d) :: entryEnds cycle (acc + d) rest
def State.schedEnds (s : State) (x : Sched) : List Nat :=
  entryEnds x.cycle 0 ((List.range x.len).map (fun i => s.gateInterval (x.first + i)))

/-- The position of a view in a header's cycle. -/
def Sched.pos (x : Sched) (v : Int) : Nat := if x.cycle = 0 then 0 else ((v - x.base) % (x.cycle : Int)).toNat
/-- R242: the entry in force at a view, relative to FIRST. -/
def State.entryAt (s : State) (x : Sched) (v : Int) : Nat :=
  ((s.schedEnds x).findIdx? (fun e => decide (x.pos v < e))).getD (x.len - 1)

/-! ### Open and closed (R243, R244) -/

def State.runningOn (s : State) (p : Nat) : Option GateList := s.qsg.running.find? (fun l => l.port == p)
def State.waitingOn (s : State) (p : Nat) : Option GateList := s.qsg.waiting.find? (fun l => l.port == p)

/-- A queue of a list is open at a view. -/
def State.openAt (s : State) (x : Sched) (n : Nat) (v : Int) : Bool := bit (s.gateStates (x.first + s.entryAt x v)) n

/-- The list of a port that is in force at tick t: from its change instant X on, the one that waits (R243, R246). -/
def State.listAt (s : State) (p t : Nat) : Option GateList :=
  match s.waitingOn p with
  | some l => if l.x ≤ s.viewAt t 0 then some l else s.runningOn p
  | none => s.runningOn p

/-- The gate of queue n of a port at tick t (R243: a port without a list has every gate open). -/
def State.gateOpen (s : State) (p n t : Nat) : Bool :=
  match s.listAt p t with
  | some l => s.openAt (s.sched l.header) n (s.viewAt t 0)
  | none => true

/-- Units of view time after a position until the queue is closed, over the entries in turn; none when it is not closed
within the entries looked at. -/
def closeIn (states : List (Nat × Nat)) (n : Nat) : Nat → Option Nat
  | acc => match states with
    | [] => none
    | (st, d) :: rest => if bit st n then closeIn rest n (acc + d) else some acc

/-- STATES and the span within the cycle of each entry of a list, in order; one that the cycle's end leaves none has a span of 0 (R242). -/
def State.schedDurs (s : State) (x : Sched) : List (Nat × Nat) :=
  let ends := s.schedEnds x
  (List.range x.len).map (fun k => (s.gateStates (x.first + k), ends.getD k 0 - (if k = 0 then 0 else ends.getD (k - 1) 0)))

/-- The entries of a list that are ever in force, from a view on: what is left of the one in force, then two whole rounds
(DEDUCED, log 61). -/
def State.entriesFrom (s : State) (x : Sched) (v : Int) : List (Nat × Nat) :=
  let i := s.entryAt x v
  let durs := s.schedDurs x
  ((s.gateStates (x.first + i), (s.schedEnds x).getD i 0 - x.pos v) :: durs.drop (i + 1) ++ durs ++ durs).filter (fun e => e.2 != 0)

/-- R244: the view instant at which queue n of a port is next closed, from tick t on, across a pending change; none when
it stays open (DEDUCED, log 61). -/
def State.closeView (s : State) (p n t : Nat) : Option Int :=
  let v : Int := s.viewAt t 0
  let now := match s.listAt p t with
    | some l => (closeIn (s.entriesFrom (s.sched l.header) v) n 0).map (fun d => v + d)
    | none => none
  match s.waitingOn p with
  | none => now
  | some l =>
    let x : Int := l.x
    if x ≤ v then now
    else match now with
    | some c => if c ≤ x then some c else (closeIn (s.entriesFrom (s.sched l.header) x) n 0).map (fun d => x + d)
    | none => (closeIn (s.entriesFrom (s.sched l.header) x) n 0).map (fun d => x + d)

/-- R244: the queue is open and its head ends by the next closing. -/
def State.gateFits (s : State) (p n t ticks : Nat) : Bool :=
  s.gateOpen p n t &&
    (match s.closeView p n t with
     | none => true
     | some v => decide (t + ticks ≤ s.tickOfView (t + 1) v))

/-- R245: the longest span in units of 2⁻¹⁶ ns over which a queue is open without a break; none when it never closes, or never
opens. -/
def longestOpen (l : List (Nat × Nat)) (n : Nat) : Option Nat :=
  let l := l.filter (fun e => e.2 != 0)
  if l.all (fun e => bit e.1 n) || l.all (fun e => !bit e.1 n) then none
  else
    let r := (l ++ l).foldl (fun (acc : Nat × Nat) e => if bit e.1 n then (acc.1 + e.2, max acc.2 (acc.1 + e.2)) else (0, acc.2)) (0, 0)
    some r.2
def State.openSpan (s : State) (p n t : Nat) : Option Nat :=
  match s.listAt p t with
  | none => none
  | some l => longestOpen (s.schedDurs (s.sched l.header)) n

/-! ### Shapers (R232 to R234) -/

/-- The credit of a shaper in units of 1/50,000 bit (DEDUCED, log 62). -/
def State.credit (s : State) (m : Nat) : Int := ((s.qsg.credit.find? (fun c => c.shaper == m)).map (fun c => c.units)).getD 0
/-- Set it; CREDIT shows it in bytes, rounded toward zero (R257). -/
def State.setCredit (s : State) (m : Nat) (u : Int) : State :=
  (s.setQsg (fun q => { q with credit := q.credit.filter (fun c => c.shaper != m) ++ [⟨m, u⟩] })).wr
    F.QSG_SHAPER_CREDIT_CREDIT_BYTES m (ofS 32 (Int.tdiv u 400000))
/-- The fields of modes and bindings, which a refill boundary puts into use (R235). -/
def shaperFields : List Fld :=
  [F.QSG_SHAPER_CTRL_MODE, F.QSG_Q_SCHED_SHAPER, F.QSG_Q_SCHED_SHAPER_EN, F.QSG_PORT_CTRL_PSHAPER, F.QSG_PORT_CTRL_PSHAPER_EN]
/-- A refill boundary puts the committed modes and bindings into use (R235). -/
def State.bindShapers (s : State) : State :=
  s.setQsg (fun q => { q with shaperRegs := s.regs.filter (fun kv => shaperFields.any (fun f => (f.copy? kv.1).isSome)) })
/-- A mode or binding in use (R235) (DEDUCED, log 62). -/
def State.rdShaper (s : State) (f : Fld) (n : Nat) : Nat := s.qsg.shaperRegs.get (f.key n) (f.reset n) % 2 ^ f.width
/-- The shaper of a queue of its own, if one is in use. -/
def State.ownShaper (s : State) (q : Nat) : Option Nat :=
  if s.rdShaper F.QSG_Q_SCHED_SHAPER_EN q = 1 then some (s.rdShaper F.QSG_Q_SCHED_SHAPER q) else none
/-- The shapers that meter a queue: its own and its port's. -/
def State.shapersOf (s : State) (p n : Nat) : List Nat :=
  (s.ownShaper (16 * p + n)).toList
    ++ (if s.rdShaper F.QSG_PORT_CTRL_PSHAPER_EN p = 1 then [s.rdShaper F.QSG_PORT_CTRL_PSHAPER p] else [])
/-- A shaper lets copies pass (R233, R235). -/
def State.shaperOpen (s : State) (m : Nat) : Bool := s.rdShaper F.QSG_SHAPER_CTRL_MODE m == 0 || decide (0 ≤ s.credit m)
/-- The cost of a copy of b bytes is deducted at selection (R233, R234). -/
def State.shaperPay (s : State) (m b : Nat) : State :=
  if s.rdShaper F.QSG_SHAPER_CTRL_MODE m = 0 then s else s.setCredit m (s.credit m - 400000 * b)

/-! ### Pauses (R236) -/

/-- The PFC priority of queue n. -/
def State.pfcPrio (s : State) (p n : Nat) : Nat :=
  if n < 8 then bits (s.rd F.QSG_PFC_QMAP_LO_MAP p) (3 * n + 2) (3 * n)
  else bits (s.rd F.QSG_PFC_QMAP_HI_MAP p) (3 * (n - 8) + 2) (3 * (n - 8))
/-- No copy may be started from queue n at a tick. -/
def State.isPaused (s : State) (p n t : Nat) : Bool :=
  decide (t < s.qsg.paused.get (9 * p + 8) 0) || decide (t < s.qsg.paused.get (9 * p + s.pfcPrio p n) 0)

/-- R234: an empty queue's positive credit under mode 2 is set to 0, unless its gate or a pause freezes it. -/
def State.settleEmpty (s : State) (q : Nat) : State :=
  match s.ownShaper q with
  | none => s
  | some m =>
    if s.rdShaper F.QSG_SHAPER_CTRL_MODE m = 2 ∧ s.qsg.queue.all (fun c => c.q != q) ∧ 0 < s.credit m
        ∧ s.gateOpen (q / 16) (q % 16) s.now ∧ !s.isPaused (q / 16) (q % 16) s.now then s.setCredit m 0
    else s

/-! ### The head of a queue -/

/-- The scheduling profile of a queue. -/
def State.schedProf (s : State) (p n : Nat) : Nat := s.rd F.QSG_Q_SCHED_PROFILE (16 * p + n)
/-- The head of queue n of a port: only from the on-die segment of a deep queue (R215). -/
def State.headOf (s : State) (p n : Nat) : Option Copy :=
  match s.qsg.queue.find? (fun c => c.egr == p && c.queue == n) with
  | some c => if c.seg = .onDie then some c else none
  | none => none
/-- A copy that is stored and forwarded may leave once its frame has been received. -/
def Copy.ready (c : Copy) : Bool := c.frame.ended

/-- The tick of the ball for an entry to the PCS in a tick (DEDUCED, log 36). -/
def State.ballTick (s : State) (p var entry : Nat) : Nat := (Int.fdiv ((320 * entry : Nat) + s.toBallFine p var) 320).toNat

/-- The tick in which a sequenced copy falls due: that of its offer for one late or early, else its release tick (R282, R284, R290). -/
def SeqCopy.due (x : SeqCopy) : Nat := if x.late || x.early then x.offered else x.release
/-- The tick d of a held copy (R264). -/
def Held.due (h : Held) : Nat := (Int.fdiv h.entry 320).toNat - 16

/-- R229, R264, R282: the tick of the PCS by which the port must be free for its earliest deterministic copy. -/
def State.detDue (s : State) (p : Nat) : Option Nat :=
  let held := (s.qsg.held.filter (fun h => h.copy.egr == p)).map (fun h => h.due)
  let seq := (s.qsg.seq.filter (fun x => x.copy.egr == p && decide (x.copy.admitted < s.now))).map (fun x => x.due + s.pathTicks 24)
  (held ++ seq).foldl (fun b d => match b with
    | none => some d
    | some e => some (min d e)) none

/-- R229: a copy of b bytes that enters the PCS in a tick leaves the port free for the deterministic input. -/
def State.detFits (s : State) (p b entry : Nat) : Bool :=
  match s.detDue p with
  | none => true
  | some d => decide (entry + gapTicksOf b (s.portMbps p) ≤ d)

/-- R249: the heads of other queues that are protected by LT_PROTECT keep their launch ticks. -/
def State.launchFits (s : State) (p n b t : Nat) : Bool :=
  (List.range 16).all (fun m =>
    m == n || !(s.on F.QSG_SCHED_PROF_CTRL_LT_PROTECT (s.schedProf p m)) ||
      (match s.headOf p m with
       | some c => (match c.launch with
         | some l => decide (t + gapTicksOf b (s.portMbps p) ≤ l)
         | none => true)
       | none => true))

/-- Why a head is dropped when it is examined at tick t: its lifetime (R252), a gate that it can never fit (R245), a
launch missed by too much (R249). -/
def State.headDrop (s : State) (p n t : Nat) (c : Copy) : Option Nat :=
  let k := s.schedProf p n
  let life := s.rd F.QSG_SCHED_PROF_LIFETIME_LIFETIME_US k
  if life ≠ 0 ∧ c.frame.raw / 16 + 800 * life < t then some 44
  else if (match s.openSpan p n t with
    | some d => decide (d < txTicksOf (s.sentBytes c) (s.portMbps p) * 81920)
    | none => false) then some 38
  else match c.launch with
    | some l => if l < t ∧ s.rd F.QSG_SCHED_PROF_LT_LATE_LT_LATE_NS k * 4 < (t - l) * 5 then some 41 else none
    | none => none

/-- The instant, in fine units, at which a head selected for an entry in a tick enters the PCS: one with a launch tick no sooner than it
crosses the ball at the opening boundary of that tick (R249). -/
def State.entryFine (s : State) (p var entry : Nat) (c : Copy) : Int :=
  let e : Int := (320 * entry : Nat)
  match c.launch with
  | some l =>
    let x := (320 * l : Nat) - s.toBallFine p var
    if e ≤ x ∧ x < e + 320 then x else e
  | none => e
/-- The tick of the ball at which the first bit of a head would leave (R228). -/
def State.headTick (s : State) (p var entry : Nat) (c : Copy) : Nat :=
  (Int.fdiv (s.entryFine p var entry c + s.toBallFine p var) 320).toNat

/-- R228: the head of queue n is eligible for an entry to the PCS in a tick; a copy has the 16 ticks of the delivery path behind it
(R116) (DEDUCED, log 36). -/
def State.eligible (s : State) (p n var entry : Nat) (c : Copy) : Bool :=
  let b := s.sentBytes c
  let t := s.headTick p var entry c
  s.stored c.frame && decide (c.admitted + 16 ≤ s.now) && s.gateFits p n t (txTicksOf b (s.portMbps p))
    && (match c.launch with | some l => decide (l ≤ t) | none => true)
    && (s.shapersOf p n).all (fun m => s.shaperOpen m)
    && !s.isPaused p n t && s.detFits p b entry && s.launchFits p n b t

end Sys2Proof.Machine
end

