-- ==== Sys2Proof/Machine/Egress.lean ====
section
/-! DEFINITION. The egress side: transmissions, the deterministic input with Clearing Release and the Merge Sequencer
(R262 to R292), the scheduler (R227 to R231), what the end of a transmission does (R409, R246, R131 to R133), and what a
lost link does (R250, R251). -/

namespace Sys2Proof.Machine

/-! ### Starting a copy -/

/-- The PCS tick from which a port is free for the next copy; a woken port idles first (R396). -/
def State.portFreeAt (s : State) (p : Nat) : Nat :=
  (s.qsg.txs.filter (fun t => t.port == p)).foldl (fun m t => max m (t.start + t.gapTicks)) (s.lan.wake.get p 0)

/-- A copy enters the egress PCS at an instant in fine units; its stamp, and the one-step update with it, is predicted (R53, R54, R57, R70).
`held` is the slot that it leaves then. -/
def State.startTx (s : State) (c : Copy) (entry toBall : Int) (held : Option Held := none) : State :=
  let first := c.second.isNone && !s.qsg.recorded.contains c.frame.id
  let c := { c with second := some (c.second.getD (s.qsg.recorded.contains c.frame.id)) }
  let s := if c.cap.onePer ∧ first then s.setQsg (fun q => { q with recorded := c.frame.id :: q.recorded }) else s
  let raw := stampOf (subTickOf entry + toBall)
  let corr := s.oneStepCorr c raw
  let e := s.edit c corr
  let mbps := s.portMbps c.egr
  let s := if e.noTag then s.bump 15 2 else s
  let s := if c.cut then s.bump 1 6 c.egr else s
  let s := if c.path = 0 then s else s.setQsg (fun q => { q with lastDet := s.now + 1 })
  s.setQsg (fun q => { q with txs := q.txs ++ [
    { port := c.egr, copy := some c, out := e.out, start := (Int.fdiv entry 320).toNat,
      ball := (Int.fdiv (entry + toBall) 320).toNat, txTicks := txTicksOf e.out.length mbps,
      gapTicks := gapTicksOf e.out.length mbps, raw := raw, endReason := e.endReason, skip := e.skip, corr := corr, trailer := e.trailer, held := held }] })

/-- Whether copies of a group can be edited, or dropped (R494), now: not while a take-over has not reached its egress half (R490 step 2). -/
def State.editReady (s : State) (g : Nat) : Bool :=
  match nth s.flt.pipes g .down with
  | .serving => true
  | .failed => (s.flt.takeOver.map Prod.fst) == some g && s.flt.egressTaken
  | .down => true
/-- No pipeline serves a group: copies selected for its ports are dropped (R494). -/
def State.editDown (s : State) (g : Nat) : Bool := nth s.flt.pipes g .down == .down

/-! ### Clearing Release (R264 to R268) -/

/-- Stamped raw form, then ingress port (R266). -/
def Copy.before (a b : Copy) : Bool :=
  decide (a.frame.raw < b.frame.raw) || (a.frame.raw == b.frame.raw && decide (a.frame.ing < b.frame.ing))

/-- R266: of a port's held copies, the one that leaves next: none of its profile came before it, then by target, raw form and
ingress port. -/
def heldFirst (l : List Held) : Option Held :=
  let open' := l.filter (fun h => l.all (fun x => !(x.k == h.k && x.copy.before h.copy)))
  open'.foldl (fun b h => match b with
    | none => some h
    | some x => if h.target < x.target ∨ (h.target = x.target ∧ h.copy.before x.copy) then some h else some x) none
/-- The held copies of a port, and the one that leaves next. -/
def State.heldOf (s : State) (p : Nat) : List Held := s.qsg.held.filter (fun h => h.copy.egr == p)
def State.heldHead (s : State) (p : Nat) : Option Held := heldFirst (s.heldOf p)
/-- All of them in the order in which they leave (R266). -/
def heldOrder : Nat → List Held → List Held
  | 0, _ => []
  | n + 1, l => match heldFirst l with
    | none => []
    | some h => h :: heldOrder n (l.erase h)

/-- A LATE_RELEASE record (R328). -/
def State.lateRecord (s : State) (c : Copy) (subkind unit inst refTick refFrac actTick actFrac lateness : Nat) : State :=
  let body := be 1 subkind ++ be 1 c.lateCause ++ be 2 c.egr ++ be 2 c.frame.ing ++ be 1 c.pathId ++ zeros 1
    ++ be 8 refTick ++ be 2 refFrac ++ zeros 2 ++ be 8 actTick ++ be 2 actFrac ++ zeros 2 ++ be 8 lateness
    ++ be 8 (c.seqNo.getD 0)
  let r := s.mkRecord 0x14 unit inst (c.frame.raw / 16) (c.frame.raw % 16) body
  s.hand { r with flags := b2n c.frame.replayed + b2n c.frame.hold * 2 + b2n c.frame.uncal * 4, epoch := c.frame.epoch }

/-- R328: the cause of a late copy (DEDUCED, log 64). -/
def State.lateCauseOf (s : State) (c : Copy) : Nat :=
  if c.lateCause ≠ 0 then c.lateCause else if c.frame.replayed then 1
  else if s.rd F.PWR_STATUS_CORE_MHZ ≠ 1600 then 3 else 0

/-- R293, R328: a copy stamped before W of its instance was last lowered is late for that (DEDUCED, log 64). -/
def State.lowered (s : State) (m : Nat) (c : Copy) : Bool := decide (c.frame.raw / 16 + 1 < s.qsg.wLowered.get m 0)
def State.seqCauseOf (s : State) (m : Nat) (c : Copy) : Nat :=
  if c.frame.replayed then 1 else if s.lowered m c then 4 else s.lateCauseOf c
/-- R293: W_NS of an instance has changed from `s` to `t`. -/
def State.noteWindow (s t : State) (m : Nat) : State :=
  if t.rd F.MSQ_INST_WINDOW_W_NS m < s.rd F.MSQ_INST_WINDOW_W_NS m then
    t.setQsg (fun q => { q with wLowered := q.wLowered.put m (t.now + 1) 0 })
  else t

/-- R268: the copy is not sent; it is dropped with HOLD_TOO_LATE. -/
def State.dropTooLate (s : State) (h : Held) (crossing : Int) : State :=
  let c := { h.copy with lateCause := s.lateCauseOf h.copy }
  let s := s.setQsg (fun q => { q with held := q.held.filter (fun x => x != h) })
  let s := s.lateRecord c 2 9 c.egr (h.target.toNat / 320) (h.target.toNat % 320) (crossing.toNat / 320)
    (crossing.toNat % 320) (crossing - h.target).toNat
  (s.dropCopy c 47).showHeld c.egr h.k

/-- R268: a lateness beyond LATE_MAX_NS. -/
def State.tooLate (s : State) (h : Held) (crossing : Int) : Bool :=
  decide (h.target < crossing) && decide (256 * (s.rd F.CLR_PROF_LATE_MAX_LATE_MAX_NS h.k : Int) < crossing - h.target)

/-- R267: the late copy is counted, logged and recorded. -/
def State.noteLate (s : State) (h : Held) (c : Copy) (crossing : Int) : State :=
  let s := ((s.bump 9 3 c.egr).bump 9 4 h.k).raiseBits F.CLR_INT_STATUS_LATE 0 1
  let s := if c.frame.replayed then s.bump 9 7 else s
  let s := if s.on F.CLR_LAST_LATE_VALID then s
    else ((((s.wr F.CLR_LAST_LATE_PORT 0 c.egr).wr F.CLR_LAST_LATE_PROFILE 0 h.k).raiseBits F.CLR_LAST_LATE_VALID 0 1).wr
      F.CLR_LAST_LATE_FINE_LATENESS 0 (crossing - h.target).toNat).wr2 F.CLR_LAST_LATE_TICK_LO_VALUE
      F.CLR_LAST_LATE_TICK_HI_VALUE 0 (crossing.toNat / 320)
  s.lateRecord c 0 9 c.egr (h.target.toNat / 320) (h.target.toNat % 320) (crossing.toNat / 320) (crossing.toNat % 320)
    (crossing - h.target).toNat

/-- R266, R273, R328: a held copy that waits behind one now entering the PCS: for a lowered L when its target was the earlier one, for
the order of R266 when its entry has come (DEDUCED, log 64). -/
def State.markBehind (s : State) (h : Held) (entry : Int) : State :=
  let cause := fun (x : Held) => if x.copy.lateCause ≠ 0 then x.copy.lateCause
    else if x.target < h.target then 4 else if x.entry < entry then 5 else 0
  s.setQsg (fun q => { q with held := q.held.map (fun x =>
    if x.copy.egr = h.copy.egr then { x with copy := { x.copy with lateCause := cause x } } else x) })
/-- R275, R328: the port is active again: held copies whose entry has passed are late for the link's return (DEDUCED, log 64). -/
def State.markReturn (s : State) (p : Nat) : State :=
  let cause := fun (x : Held) => if x.copy.lateCause = 0 ∧ x.entry < 320 * (s.now : Int) then 2 else x.copy.lateCause
  s.setQsg (fun q => { q with held := q.held.map (fun x =>
    if x.copy.egr = p then { x with copy := { x.copy with lateCause := cause x } } else x) })

/-- R264, R267: the entry of a held copy when its port is free from a tick of the PCS on: its own, or the earliest that the path allows
after it (DEDUCED, log 64) (DEDUCED, log 73) (DEDUCED, log 87). -/
def State.heldEntry (s : State) (h : Held) (free : Nat) : Int :=
  max h.entry (320 * (max (max (s.now + 16) (max (h.copy.admitted + s.pathTicks 40) (s.storedEntry h.copy.frame))) (free + 16) : Nat))
/-- R268: of the held copies of a port, in the order in which they leave, those that `test` names and that would cross too late behind the
ones ahead of them, with their planned crossings (DEDUCED, log 87). -/
def State.lateHeld (s : State) (test : Held → Bool) : Nat → List Held → List (Held × Int)
  | _, [] => []
  | free, h :: rest =>
    let entry := s.heldEntry h free
    if test h && s.tooLate h (entry + h.toBall) then (h, entry + h.toBall) :: State.lateHeld s test free rest
    else State.lateHeld s test ((Int.fdiv entry 320).toNat + gapTicksOf (s.sentBytes h.copy) (s.portMbps h.copy.egr)) rest
/-- R268: the test of every held copy of a port that `test` names. -/
def State.sweepHeld (s : State) (p : Nat) (test : Held → Bool) : State :=
  let l := s.heldOf p
  (s.lateHeld test (s.portFreeAt p) (heldOrder l.length l)).foldl (fun s x => s.dropTooLate x.1 x.2) s
/-- A held copy leaves the list of those that wait. -/
def State.unhold (s : State) (h : Held) : State := s.setQsg (fun q => { q with held := q.held.filter (fun x => x != h) })

/-- R264, R267: the head held copy of a port enters the egress PCS at its entry, or late at the earliest instant that the
path allows, or is dropped. Before its tick d nothing happens. `var` is the egress variable part at a late entry (R52); `met` a cell
that its reader finds uncorrectable (R216) (DEDUCED, log 64) (DEDUCED, log 73). -/
def State.startHeld (s : State) (p var : Nat) (met : Option Nat) : State :=
  match s.heldHead p with
  | none => s
  | some h =>
    let free := s.portFreeAt p
    if s.now < h.due then s
    else
      let first := s.heldEntry h free
      let toBall := if first = h.entry then h.toBall else s.toBallFine p var
      let entry := max first (h.target - toBall)
      let crossing := entry + toBall
      if s.tooLate h crossing then s.dropTooLate h crossing
      else if s.now + 16 < free ∨ !h.copy.frame.ended then s
      else if s.editDown h.copy.group then ((s.unhold h).dropCopy h.copy 14).showHeld p h.k
      else match s.badCellOf h.copy met with
        | some x => (((s.unhold h).noteBadCell x).dropCopy h.copy 30).showHeld p h.k
        | none =>
          let late := decide (h.target < crossing)
          let c := { h.copy with late := late, lateCause := if late then s.lateCauseOf h.copy else 0 }
          let s := (s.unhold h).markBehind h entry
          let s := if !late then (s.bump 9 1 c.egr).bump 9 2 h.k else if h.delayed then s else s.noteLate h c crossing
          (s.startTx c entry toBall (some h)).showHeld p h.k

/-! ### The Merge Sequencer (R281 to R288) -/

/-- LAST_RAW of an instance in sub-ticks, while it is valid. -/
def State.lastRaw (s : State) (m : Nat) : Option Nat :=
  if s.on F.MSQ_LAST_SUB_VALID m then
    some (s.rd2 F.MSQ_LAST_RAW_LO_TICK F.MSQ_LAST_RAW_HI_TICK m * 16 + s.rd F.MSQ_LAST_SUB_SUB m)
  else none

/-- The order of the store (R280, R282, R283): raw form, then (port − PTR) mod 512, and the copies of one frame in list order; a copy
that came after one of its raw form had been started follows the rest of that tie. -/
def seqBefore (ptr : Nat) (a b : SeqCopy) : Bool :=
  let key := fun (x : SeqCopy) => (x.copy.frame.ing + 512 - ptr) % 512
  decide (a.copy.frame.raw < b.copy.frame.raw)
    || (a.copy.frame.raw == b.copy.frame.raw && ((!a.arrival && b.arrival)
      || (!a.arrival && !b.arrival && decide (key a < key b))
      || (a.copy.frame.id == b.copy.frame.id && decide (a.copy.ord < b.copy.ord))))

/-- The copy that an instance offers: a late one at once (R284), one released early (R290), else the head of its store
when its release tick has come (R282) (DEDUCED, log 64). -/
def State.seqHead (s : State) (m : Nat) : Option SeqCopy :=
  let l := s.qsg.seq.filter (fun x => x.inst == m && x.visible)
  match l.find? (fun x => x.late) with
  | some x => some x
  | none =>
    match l.find? (fun x => x.early) with
    | some x => some x
    | none =>
      let ptr := match s.qsg.ties.find? (fun t => t.1 == m) with
        | some t => t.2.ptr
        | none => s.rd F.MSQ_INST_STATUS_PTR m
      let h := l.foldl (fun b x => match b with
        | none => some x
        | some y => if seqBefore ptr x y then some x else some y) none
      match h with
      | some x => if x.release ≤ s.now then some x else none
      | none => none

/-- A TIE record (R329). -/
def State.tieRecord (s : State) (m raw epoch cause ptr : Nat) (ports : List Nat) : State :=
  let r := s.mkRecord 0x15 10 m (raw / 16) (raw % 16)
    (be 1 m ++ be 1 cause ++ be 2 ptr ++ be 2 ports.length ++ zeros 10 ++ ports.flatMap (fun p => be 2 p))
  s.hand { r with epoch := epoch }

/-- R283: what starting a copy does to a tied group (DEDUCED, log 64). -/
def State.tieStep (s : State) (m : Nat) (x : SeqCopy) : State :=
  let raw := x.copy.frame.raw
  let epoch := x.copy.frame.epoch
  let rest := s.qsg.seq.filter (fun y => y.inst == m && y.visible && !y.late && !y.arrival && y.copy.frame.raw == raw)
  if x.arrival then (s.tieRecord m raw epoch 1 (s.rd F.MSQ_INST_STATUS_PTR m) [x.copy.frame.ing]).bump 10 2
  else match s.qsg.ties.find? (fun t => t.1 == m) with
  | some (_, g) =>
    let g := { g with ports := g.ports ++ [x.copy.frame.ing] }
    let s := s.setQsg (fun q => { q with ties := q.ties.filter (fun t => t.1 != m) ++ (if rest.isEmpty then [] else [(m, g)]) })
    if rest.isEmpty then
      ((s.tieRecord m raw epoch 0 g.ptr g.ports).bump 10 2).wr F.MSQ_INST_STATUS_PTR m ((g.ports.headD 0 + 1) % 512)
    else s
  | none =>
    let ptr := s.rd F.MSQ_INST_STATUS_PTR m
    if rest.any (fun y => y.copy.frame.ing != x.copy.frame.ing) then
      s.setQsg (fun q => { q with ties := q.ties ++ [(m, ⟨raw, ptr, [x.copy.frame.ing]⟩)] })
    else s

/-- R284: the late copy that is started is counted, logged and recorded. -/
def State.noteSeqLate (s : State) (m : Nat) (x : SeqCopy) (c : Copy) : State :=
  let lateness := x.lastRaw - c.frame.raw
  let s := ((s.bump 10 3 m).bump 10 4 c.frame.ing).raiseBits F.MSQ_INT_STATUS_LATE 0 1
  let s := if c.frame.replayed then s.bump 10 9 else s
  let s := if s.on F.MSQ_LAST_LATE_VALID then s
    else ((((s.wr F.MSQ_LAST_LATE_INSTANCE 0 m).wr F.MSQ_LAST_LATE_PORT 0 c.frame.ing).raiseBits F.MSQ_LAST_LATE_VALID 0 1).wr
      F.MSQ_LAST_LATE_SUB_LATENESS 0 lateness).wr2 F.MSQ_LAST_LATE_TICK_LO_VALUE F.MSQ_LAST_LATE_TICK_HI_VALUE 0 s.now
  s.lateRecord c 1 10 m (x.lastRaw / 16) (x.lastRaw % 16) s.now 0 lateness

/-- The deterministic input starts a copy of an instance (R282, R284, R286, R287): it enters the PCS 24 ticks later
(DEDUCED, log 64) (DEDUCED, log 73). -/
def State.startSeq (s : State) (m var : Nat) (met : Option Nat) : State :=
  match s.seqHead m with
  | none => s
  | some x =>
    let p := x.copy.egr
    let drop := fun (s : State) (r : Nat) =>
      (((s.setQsg (fun q => { q with seq := q.seq.filter (fun y => y != x) })).dropCopy x.copy r)).showSeq m
    if s.selectEntry < s.portFreeAt p ∨ !s.portUp p ∨ !s.stored x.copy.frame then s
    else if s.editDown x.copy.group then drop s 14
    else match s.badCellOf x.copy met with
    | some cell => drop (s.noteBadCell cell) 30
    | none =>
      let no := s.rd2 F.MSQ_SEQ_NEXT_LO_VALUE F.MSQ_SEQ_NEXT_HI_VALUE m
      let c := { x.copy with
        late := x.late, seqNo := if x.copy.seqEn then some no else none
        lateCause := if x.late then s.seqCauseOf m x.copy else 0 }
      let s := s.setQsg (fun q => { q with seq := q.seq.filter (fun y => y != x) })
      let s := if x.copy.seqEn then s.wr2 F.MSQ_SEQ_NEXT_LO_VALUE F.MSQ_SEQ_NEXT_HI_VALUE m (no + 1) else s
      let s := s.bump 10 1
      let s :=
        if x.late then s.noteSeqLate m x c
        else
          let s := s.tieStep m x
          let top := max c.frame.raw ((s.lastRaw m).getD 0)
          ((((s.wr2 F.MSQ_LAST_RAW_LO_TICK F.MSQ_LAST_RAW_HI_TICK m (top / 16)).wr F.MSQ_LAST_SUB_SUB m (top % 16)).wr
            F.MSQ_LAST_SUB_VALID m 1)).setQsg (fun q => { q with seqLast := q.seqLast.put m (c.frame.ing + 1) 0 })
      (s.startTx c (320 * s.selectEntry : Nat) (s.toBallFine p var)).showSeq m

/-- R282, R284: the copies that an instance has been given in earlier ticks and has not yet seen: each joins its store at the boundary after
its admission, or is late. -/
def State.seeSeq (s : State) (m : Nat) : State :=
  let last := s.lastRaw m
  let isNew := fun (x : SeqCopy) => x.inst == m && !x.visible && decide (x.copy.admitted < s.now)
  let isLate := fun (x : SeqCopy) => match last with | some r => decide (x.copy.frame.raw < r) | none => false
  let exceeded := s.qsg.seq.filter (fun x => isNew x && !isLate x && !x.early && decide (x.release ≤ x.copy.admitted))
  let s := s.setQsg (fun q => { q with seq := q.seq.map (fun x =>
    if isNew x then
      { x with
        visible := true, late := isLate x, lastRaw := last.getD 0
        offered := if isLate x && !x.early then x.copy.admitted + 1 else x.offered
        arrival := last == some x.copy.frame.raw && s.qsg.seqLast.get m 0 != x.copy.frame.ing + 1 }
    else x) })
  if exceeded.isEmpty then s else s.bump 10 5 0 exceeded.length

/-- The instance whose copies wait for a port (R279). -/
def State.instanceOf (s : State) (p : Nat) : Option Nat := (s.qsg.seq.find? (fun x => x.copy.egr == p)).map (fun x => x.inst)

/-- The deterministic input of a port (R266): held and sequenced copies in the order of their due ticks, a held copy
first; none when neither is due. A held copy is edited before its entry whatever becomes of its group's pipeline (R272, R491); a sequenced
one waits for the egress half that takes over. -/
def State.startDet (s : State) (p var : Nat) (met : Option Nat) : Option State :=
  let s := match s.instanceOf p with
    | some m => s.seeSeq m
    | none => s
  let held := match s.heldHead p with
    | some h => if h.due ≤ s.now then some h.due else none
    | none => none
  let seq := match s.instanceOf p with
    | some m => (match s.seqHead m with
      | some x => if s.stored x.copy.frame && s.editReady x.copy.group then some (m, x.due) else none
      | none => none)
    | none => none
  match held, seq with
  | some d, some (m, r) => if d ≤ r then some (s.startHeld p var met) else some (s.startSeq m var met)
  | some _, none => some (s.startHeld p var met)
  | none, some (m, _) => some (s.startSeq m var met)
  | none, none => none

/-- R268: held copies whose tick d has come and whose entry is delayed are tested again. -/
def State.sweepDue (s : State) (p : Nat) : State := s.sweepHeld p (fun h => decide (h.due ≤ s.now))

/-- HELD_RELEASE: 16 ticks before the entry of a port's head held copy, or as soon after as the path allows (R264), in its turn at the
deterministic input (R266). -/
def execHeldRelease (turn : HeldTurn) (s : State) : Host.Outcome State Fault Refusal :=
  let port := turn.port
  .next (s.when (s.live && s.portUp port.val && !s.resting port.val) (fun s =>
    let s := s.sweepDue port.val
    (s.startDet port.val turn.read.var turn.read.badCell).getD s))

/-- SEQ_VISIBLE: at the boundary after their admission, an instance sees its copies (R282, R284). -/
def execSeqVisible (inst : Fin 32) (s : State) : Host.Outcome State Fault Refusal := .next (s.whenLive (fun s => s.seeSeq inst.val))

/-- SEQ_RELEASE: an instance offers its head to the deterministic input of its port, behind a held copy that is due
(R282, R266). -/
def execSeqRelease (inst : Fin 32) (read : ReadOut) (s : State) : Host.Outcome State Fault Refusal :=
  .next (s.whenLive (fun s =>
    let s := s.seeSeq inst.val
    match s.seqHead inst.val with
    | none => s
    | some x => if s.portUp x.copy.egr ∧ !s.resting x.copy.egr then (s.startDet x.copy.egr read.var read.badCell).getD s else s))

/-! ### The queues (R230, R231) -/

def State.deficitOf (s : State) (q : Nat) : Int := ((s.qsg.deficit.find? (fun d => d.1 == q)).map Prod.snd).getD 0
def setDeficit (l : List (Nat × Int)) (q : Nat) (v : Int) : List (Nat × Int) :=
  l.filter (fun d => d.1 != q) ++ (if v = 0 then [] else [(q, v)])

/-- R230: the queue that deficit weighted round robin chooses among the eligible ones of a level: the queue whose place
it is while its deficit is positive, else the next ones in turn, each with a new quantum (DEDUCED, log 35). -/
def dwrr (quantum : Nat → Nat) (elig : List Nat) : Nat → Nat → List (Nat × Int) → Option (Nat × List (Nat × Int))
  | 0, _, _ => none
  | fuel + 1, n, d =>
    let cur := ((d.find? (fun x => x.1 == n)).map Prod.snd).getD 0
    if elig.contains n ∧ 0 < cur then some (n, d)
    else
      let n' := (n + 1) % 16
      let c' := ((d.find? (fun x => x.1 == n')).map Prod.snd).getD 0
      dwrr quantum elig fuel n' (if elig.contains n' then setDeficit d n' (c' + quantum n') else d)

/-- The deep queue bound to a queue, if it is enabled (R213). -/
def State.deepOf (s : State) (q : Nat) : Option Nat :=
  (s.listed F.BUF_DEEP_CTRL_ENABLE).find? (fun d => s.on F.BUF_DEEP_CTRL_ENABLE d && s.rd F.BUF_DEEP_CTRL_QUEUE d == q)
/-- Bytes that a copy takes in the spill area (R214). -/
def Copy.rmBytes (c : Copy) : Nat := ceilDiv c.frame.bytes.length 256 * 256 + 64
def State.segBytes (s : State) (q : Nat) (k : Seg) : Nat :=
  sumOf (s.qsg.queue.filter (fun c => c.q == q && c.seg == k)) (fun c => c.rmBytes)
/-- The registers that show a deep queue (R224). -/
def State.showDeep (s : State) (q : Nat) : State :=
  match s.deepOf q with
  | none => s
  | some d =>
    (s.wr2 F.BUF_DEEP_RM_BYTES_LO_VALUE F.BUF_DEEP_RM_BYTES_HI_VALUE d (s.segBytes q .reserve)).wr
      F.BUF_DEEP_ONDIE_ONDIE_CELLS d (sumOf (s.qsg.queue.filter (fun c => c.q == q && c.seg == .onDie)) (fun c => c.cells))

/-- A copy has left a queue: an empty queue has no deficit (R230) and, under mode 2, no credit (R234), and its deep queue shows it. -/
def State.leftQueue (s : State) (q : Nat) : State :=
  let s := if s.qsg.queue.any (fun c => c.q == q) then s
    else s.setQsg (fun x => { x with deficit := x.deficit.filter (fun d => d.1 != q) })
  (s.settleEmpty q).showDeep q
/-- A head leaves its queue without being sent. -/
def State.dropHead (s : State) (c : Copy) (reason : Nat) : State :=
  ((s.setQsg (fun q => { q with queue := q.queue.erase c })).dropCopy c reason).leftQueue c.q

/-- The heads of a port's queues that must go are dropped, one after the other (R245, R249, R252). -/
def State.cleanQueue (s : State) (p n t : Nat) : Nat → State
  | 0 => s
  | fuel + 1 =>
    match s.headOf p n with
    | none => s
    | some c =>
      match s.headDrop p n t c with
      | some r => State.cleanQueue (s.dropHead c r) p n t fuel
      | none => s

/-- The selected copy of queue n starts (R230, R233, R249, R253, R410) (DEDUCED, log 36). -/
def State.startQueued (s : State) (p n var : Nat) (c : Copy) (deficits : List (Nat × Int)) (met : Option Nat) : State :=
  let q := c.q
  let e := s.edit c 0
  let entry := s.entryFine p var s.selectEntry c
  let t := s.headTick p var s.selectEntry c
  let soj := s.now - c.frame.raw / 16
  let last := !(s.qsg.queue.erase c).any (fun x => x.egr == p && x.queue == n)
  let s := s.setQsg (fun x => { x with
    queue := x.queue.erase c
    deficit := x.deficit.filter (fun d => d.1 / 16 != p)
      ++ (deficits.map (fun d => (16 * p + d.1, if d.1 = n then (if last then (0 : Int) else d.2 - (e.out.length : Int)) else d.2))).filter
        (fun d => d.2 != 0)
    place := x.place.put (8 * p + s.rd F.QSG_SCHED_PROF_CTRL_PRIO (s.schedProf p n)) n 0
    lastSoj := x.lastSoj.put q soj 0
    sojTick := x.sojTick.put q (max soj (x.sojTick.get q 0)) 0 })
  let s := (s.shapersOf p n).foldl (fun s m => s.shaperPay m e.out.length) s
  let bad := s.badCellOf c met
  let s := (s.settleEmpty q).showDeep q
  if s.editDown c.group then s.dropCopy c 14
  else if bad.isSome then (s.noteBadCell (bad.getD 0)).dropCopy c 30
  else if e.tooLong then s.dropCopy c 55
  else
    let missed : Bool := match c.launch with | some l => decide (l < t) | none => false
    let s := if missed then s.bump 8 6 else s
    let c := if missed then c.owesRecord else c
    s.startTx c entry (s.toBallFine p var)

/-- R231: the choice among the queues of a port (DEDUCED, log 35). -/
def State.selectQueue (s : State) (p var : Nat) (met : Option Nat) : State :=
  let entry := s.selectEntry
  let t := s.ballTick p var entry
  let s := (List.range 16).foldl (fun s n => s.cleanQueue p n t (s.qsg.queue.length + 1)) s
  let elig := (List.range 16).filter (fun n => match s.headOf p n with
    | some c => s.eligible p n var entry c && s.editReady c.group
    | none => false)
  let prio := fun n => s.rd F.QSG_SCHED_PROF_CTRL_PRIO (s.schedProf p n)
  match [7, 6, 5, 4, 3, 2, 1, 0].find? (fun l => elig.any (fun n => prio n == l)) with
  | none => s
  | some l =>
    let deficits := (s.qsg.deficit.filter (fun d => d.1 / 16 == p)).map (fun d => (d.1 % 16, d.2))
    match dwrr (fun n => s.rd F.QSG_SCHED_PROF_CTRL_WEIGHT (s.schedProf p n) * 64) (elig.filter (fun n => prio n == l))
        8192 (s.qsg.place.get (8 * p + l) 0) deficits with
    | none => s
    | some (n, d) =>
      match s.headOf p n with
      | some c => s.startQueued p n var c d met
      | none => s

/-- R209, R229: the flow-control frame that waits for a port goes ahead of every queued frame. -/
def State.flowNext (s : State) (p var : Nat) : Option State :=
  match s.buf.flow.find? (fun x => x.port == p) with
  | none => none
  | some x =>
    let entry := s.selectEntry
    if s.detFits p x.bytes.length entry then
      let s := s.setBuf (fun b => { b with flow := b.flow.erase x })
      let mbps := s.portMbps p
      some (s.setQsg (fun q => { q with txs := q.txs ++ [
        { port := p, copy := none, out := x.bytes, start := entry, ball := s.ballTick p var entry,
          txTicks := txTicksOf x.bytes.length mbps, gapTicks := gapTicksOf x.bytes.length mbps,
          raw := stampOf ((320 * entry : Nat) + s.toBallFine p var), endReason := 0, skip := false }] }))
    else none

/-- Ticks of a bit time at port 517 (R413). -/
def State.bitTicks (s : State) : Nat := if s.rd F.MAC_MGMT_STATUS_SPEED = 0 then 80 else 8
/-- Port 517 runs in half duplex. -/
def State.halfDuplex (s : State) : Bool := !s.on F.MAC_MGMT_STATUS_DUPLEX
/-- R413: the transmitter of port 517 may start: no back-off runs, and no carrier has been present for 96 bit times (DEDUCED, log 46). -/
def State.csmaFree (s : State) : Bool :=
  !s.halfDuplex || (s.csma.backoff.isNone && s.fwd.rx.all (fun f => f.ing != 517)
    && (s.qsg.txs.all (fun t => t.port != 517)) && decide (s.csma.carrier + 96 * s.bitTicks ≤ s.now))
/-- The frame that collided is sent again (R413) (DEDUCED, log 46). -/
def State.resend (s : State) (var : Nat) : State :=
  match s.csma.retry with
  | none => s
  | some c => (s.setCsma (fun x => { x with retry := none })).startTx c (320 * s.selectEntry : Nat) (s.toBallFine 517 var)

/-- SCHEDULER_SELECT: a free port chooses its next copy: the deterministic input, a flow-control frame, the queues by
level (R227, R231). `var` is the egress variable part of R52; `badCell` the cell, by its place in the chain, in which the reader of the
copy chosen meets an uncorrectable word before the first byte leaves (R216). -/
def execSchedulerSelect (port : Fin 518) (var : Nat) (badCell : Option Nat) (s : State) : Host.Outcome State Fault Refusal :=
  let p := port.val
  .next (s.when (s.live && s.portUp p && !s.resting p && (p != 517 || s.csmaFree) && decide (s.portFreeAt p ≤ s.selectEntry)) (fun s =>
    let s := s.sweepDue p
    if p = 517 ∧ s.csma.retry.isSome then s.resend var
    else match s.startDet p var badCell with
      | some t => t
      | none =>
        match s.flowNext p var with
        | some t => t
        | none => s.selectQueue p var badCell))

/-! ### The end of a transmission -/

/-- R246: the first tick of a transmission in which its queue was closed; before the running list took effect the copy was
selected to fit (R244). -/
def State.overrun (s : State) (t : Tx) (c : Copy) : Option Nat :=
  if c.path ≠ 0 then none
  else ((List.range t.txTicks).map (fun i => t.ball + i)).find? (fun k =>
    match s.listAt t.port k with
    | some l => decide (l.x ≤ s.stampView (16 * k)) && !s.openAt (s.sched l.header) c.queue (s.stampView (16 * k))
    | none => false)

/-- A GATE record (R327). -/
def State.gateRecord (s : State) (subkind queue p old new x excess tick : Nat) : State :=
  s.hand (s.mkRecord 0x13 8 p tick 0 (be 1 subkind ++ be 1 queue ++ be 2 p ++ be 2 old ++ be 2 new ++ be 8 x ++ be 4 excess ++ zeros 12))

/-- The overrun is counted and recorded (R246, R247). -/
def State.noteGateOverrun (s : State) (t : Tx) (c : Copy) : State :=
  match s.overrun t c with
  | none => s
  | some k =>
    let run := ((s.runningOn t.port).map (fun l => l.header)).getD 0xFFFF
    let wait := ((s.waitingOn t.port).map (fun l => l.header)).getD 0xFFFF
    ((s.bump 8 5).raiseBits F.QSG_INT_STATUS_GATE_OVERRUN 0 1).gateRecord 2 c.queue t.port run wait k
      (t.ball + t.txTicks - k) k

/-- The receive metadata of a copy (R132). -/
def rxMeta (c : Copy) : Bytes :=
  let f := c.frame
  let v := f.view
  le 8 (f.raw / 16) ++ le 1 (f.raw % 16 + f.gen * 16) ++ le 1 c.reason ++ le 2 f.ing ++ le 4 (viewNs v) ++ le 4 (viewSec v)
    ++ le 1 f.epoch
    ++ le 1 (b2n (f.bad == 0) + b2n (c.sample && decide (128 < f.len)) * 2 + b2n f.hold * 4 + b2n f.uncal * 8)
    ++ le 2 f.bytes.length ++ zeros 8

/-- The pieces of a string that fill buffers of n bytes. -/
def chunks (n : Nat) : Nat → Bytes → List Bytes
  | 0, _ => []
  | fuel + 1, b => if b.length ≤ n then [b] else b.take n :: chunks n fuel (b.drop n)

/-- R131, R132: a copy is written into the receive ring of a seat; none when it finds too few free buffers (DEDUCED, log 65). -/
def State.ringDeliver (s : State) (seat : Nat) (c : Copy) (out : Bytes) : Option State :=
  let size := 2 ^ s.rd F.BUF_SEAT_RING_CTRL_RX_LOG_SIZE seat
  let head := s.rd F.BUF_SEAT_RING_RX_HEAD_VALUE seat
  let free := (s.rd F.BUF_SEAT_RING_RX_TAIL_VALUE seat + size - head % size) % size
  let parts := chunks (max 1 (s.rd F.BUF_SEAT_RING_RX_BUF_SIZE_VALUE seat)) (out.length + 33) (rxMeta c ++ out)
  if !s.on F.BUF_SEAT_RING_CTRL_RX_EN seat || decide (free < parts.length) then none
  else
    let writes := (List.range parts.length).map (fun i =>
      ({ seat := seat, rx := true, index := (head + i) % size, length := (parts.getD i []).length,
         flags := if i + 1 < parts.length then 4 else 0, queue := c.queue, data := parts.getD i [] } : HostWrite))
    some ((s.setFwd (fun w => { w with hostOut := writes })).wr F.BUF_SEAT_RING_RX_HEAD_VALUE seat ((head + parts.length) % size))

/-- R133: a copy for port 516 re-enters as ingress port 516, or is dropped at the pass limit. -/
def State.reenter (s : State) (c : Copy) (out : Bytes) : Option State :=
  if s.rd F.BUF_RECIRC_CTRL_MAX_PASSES ≤ c.frame.passes then none
  else
    let f := { c.frame with
      id := s.fwd.nextFrame, port := 516, gen := s.rd F.SYS_CFG_GEN_CURRENT, bytes := out, stripLen := 0,
      passes := c.frame.passes + 1, det := 0, endTick := 0, saf := false, replayed := false, seen := false }
    some ((s.setFwd (fun w => { w with nextFrame := w.nextFrame + 1, fifo := w.fifo ++ [f] })).showFifo 516)

/-- A copy that has left is counted and recorded, and gives its reference back (R199, R321, R409). -/
def State.sent (s : State) (t : Tx) (c : Copy) : State :=
  let s := ((s.bump 1 0 c.egr).bump 1 1 c.egr t.out.length).bump 3 2 c.q
  let s := s.bump 3 3 c.q t.out.length
  let s := if t.trailer then s.bump 1 2 c.egr else s
  let s := if t.skip then (s.bump 1 3 c.egr).bump 4 9 else s
  let s := if c.late then s.bump 1 7 c.egr else s
  let fate := if t.endReason ≠ 0 then 2 else if c.late then 1 else 0
  let reason := if t.endReason ≠ 0 then t.endReason else if c.late then (if c.path = 1 then 49 else 50) else 0
  let s := if reason = 0 then s else s.bump 2 reason c.egr
  let s := s.noteGateOverrun t c
  (s.frameRecord c fate reason (some t)).release c

/-- R131 to R133: where a copy for an internal port goes when it has crossed to it; the other ports have sent it. -/
def State.complete (s : State) (t : Tx) (c : Copy) : State :=
  if 512 ≤ t.port ∧ t.port < 516 then
    match s.ringDeliver (t.port - 512) c t.out with
    | some s => s.sent t c
    | none => s.dropCopy c 12
  else if t.port = 516 then
    match s.reenter c t.out with
    | some s => s.sent t c
    | none => s.dropCopy c 13
  else s.sent t c

/-- The oldest transmission of a port that has ended. -/
def State.endedTx (s : State) (p : Nat) : Option Tx :=
  match s.qsg.txs.find? (fun t => t.port == p) with
  | some t => if t.ball + t.txTicks ≤ s.now ∧ (t.copy.map (fun c => c.frame.ended)).getD true then some t else none
  | none => none

/-- TRANSMIT_DONE on any port (R409). An uncorrectable cell met after the first byte has left ends the copy with a stomped
FCS (R216). -/
def State.transmitDone (s : State) (p : Nat) (met : Option Nat) : State :=
  match s.endedTx p with
  | none => s
  | some t =>
    let s := s.setQsg (fun q => { q with txs := q.txs.erase t })
    let s := s.setCsma (fun c => if p = 517 then { c with carrier := s.now, collisions := 0 } else c)
    match t.copy with
    | none => s.bump 1 4 p
    | some c =>
      match s.badCellOf c met with
      | some x => (s.noteBadCell x).complete { t with out := bodyOf t.out ++ stompOf (bodyOf t.out), endReason := 30 } c
      | none => s.complete t c

/-- A copy for a seat waits for its PCIe link (R560). -/
def State.linkServes (s : State) (p : Nat) : Bool := p < 512 || 516 ≤ p || s.on F.CMD_SEAT_STATUS_LINK_UP (p - 512)
/-- TRANSMIT_DONE; `badCell` as for SCHEDULER_SELECT, met after the first byte has left. -/
def execTransmitDone (port : Fin 518) (badCell : Option Nat) (s : State) : Host.Outcome State Fault Refusal :=
  .next (s.when (s.live && s.linkServes port.val) (fun s => s.transmitDone port.val badCell))

/-- SEAT_RX_DELIVER (R131, R132): the copy that has crossed to a seat port is written into its receive ring, once the
seat's PCIe link is up (DEDUCED, log 65). -/
def execSeatRxDeliver (seat : Fin 4) (s : State) : Host.Outcome State Fault Refusal :=
  .next (s.when (s.live && s.on F.CMD_SEAT_STATUS_LINK_UP seat.val) (fun s => s.transmitDone (512 + seat.val) none))

/-- RECIRC_REENTRY (R133). -/
def execRecircReentry (s : State) : Host.Outcome State Fault Refusal :=
  .next (s.whenLive (fun s => s.transmitDone 516 none))

/-! ### A link that is lost (R250, R251, R275, R291) -/

/-- The held copy of a transmission whose entry has not been made: it still holds its slot (R265, R275). -/
def State.stillHeld (s : State) (t : Tx) : Option Held :=
  if s.now < t.start then t.held.map (fun h => { h with
    delayed := h.delayed || (t.copy.map (fun c => c.late)).getD false
    copy := { h.copy with second := t.copy.bind (fun c => c.second) } }) else none
/-- Transmissions of a port are cut off (R250); a held copy that has not entered the PCS waits again in its slot (R275)
(DEDUCED, log 38). -/
def State.cutOff (s : State) (p : Nat) : State :=
  let mine := s.qsg.txs.filter (fun t => t.port == p)
  let back := mine.filterMap (fun t => s.stillHeld t)
  let cut := mine.filter (fun t => (s.stillHeld t).isNone)
  let s := s.setQsg (fun q => { q with txs := q.txs.filter (fun t => t.port != p), held := q.held ++ back })
  cut.foldl (fun s t => match t.copy with
    | some c => (((s.bumpDrop 45 p).frameRecord c 3 45 (some t)).release c)
    | none => s) s

/-- Every waiting copy of a port is dropped: queued, held and sequenced (R250, R275, R291). -/
def State.flushPort (s : State) (p reason : Nat) : State :=
  let queued := s.qsg.queue.filter (fun c => c.egr == p)
  let held := s.qsg.held.filter (fun h => h.copy.egr == p)
  let seq := s.qsg.seq.filter (fun x => x.copy.egr == p)
  let s := s.setQsg (fun q => { q with
    queue := q.queue.filter (fun c => c.egr != p)
    held := q.held.filter (fun h => h.copy.egr != p)
    seq := q.seq.filter (fun x => x.copy.egr != p)
    ties := q.ties.filter (fun t => !(seq.any (fun x => x.inst == t.1)))
    deficit := q.deficit.filter (fun d => d.1 / 16 != p) })
  let s := (queued ++ held.map (fun h => h.copy) ++ seq.map (fun x => x.copy)).foldl (fun s c => s.dropCopy c reason) s
  let s := (held.map (fun h => h.k)).dedup.foldl (fun s k => s.showHeld p k) s
  let s := (seq.map (fun x => x.inst)).dedup.foldl (fun s m => s.showSeq m) s
  (queued.map (fun c => c.q)).dedup.foldl (fun s q => s.leftQueue q) s

/-- Pauses of a port end (R236, R250); PAUSE_STATUS shows it. -/
def State.clearPause (s : State) (p : Nat) : State :=
  ((s.setQsg (fun q => { q with paused := q.paused.filter (fun x => x.1 / 9 != p) })).wr F.QSG_PAUSE_STATUS_PFC_PAUSED p 0).wr
    F.QSG_PAUSE_STATUS_PAUSED p 0

/-- The port leaves the active state in this tick (R250, R251): at once, or into a flap-hold. -/
def State.portLost (s : State) (p : Nat) (hold : Bool) : State :=
  let h := if hold ∧ p < 512 then s.rd F.QSG_PORT_CTRL_FLAP_HOLD_US p else 0
  let s := (s.cutOff p).setBuf (fun b => { b with flow := b.flow.filter (fun x => x.port != p) })
  if h = 0 then (s.flushPort p 42).clearPause p
  else s.setQsg (fun q => { q with flap := q.flap.put p (s.now + 800 * h) 0 })

end Sys2Proof.Machine
end

