-- ==== Sys2Proof/Machine/Admit.lean ====
section
/-! DEFINITION. Buffer admission (R112, R118, R124, R127 to R129, R184, R186, R202 to R208, R213 to R215, R226, R237 to
R240, R248, R260 to R268, R279 to R290). -/

namespace Sys2Proof.Machine

/-! ### Policing (R237 to R240) -/

/-- The tokens of a meter; one not yet used holds none. -/
def State.meter (s : State) (n : Nat) : Meter := (s.qsg.meters.find? (fun m => m.index == n)).getD ⟨n, 0, 0, false, false⟩
def State.setMeter (s : State) (m : Meter) : State :=
  s.setQsg (fun q => { q with meters := q.meters.filter (fun x => x.index != m.index) ++ [m] })

/-- R239: a frame of b bytes at a meter: 0 green, 1 yellow, 2 red. -/
def State.meterFrame (s : State) (n b : Nat) : State × Nat :=
  let m := s.meter n
  let cost := 400000 * b
  if m.allRed then (s, 2)
  else if cost ≤ m.c then (s.setMeter { m with c := m.c - cost }, 0)
  else if cost ≤ m.e then (s.setMeter { m with e := m.e - cost }, 1)
  else if bit ((s.liveEntry 0x23 n).getD 4 0) 2 then
    ((s.setMeter { m with allRed := true }).raiseBits F.QSG_INT_STATUS_MARK_ALL_RED 0 1, 2)
  else (s, 2)

/-- R237: policing of a frame whose action sets POLICE_EN: the reason of a drop, and the IPV of its stream gate (R240) (DEDUCED, log 72). -/
def State.police (s : State) (f : Frame) (action : Nat) : State × Option Nat × Option Nat :=
  if !actPoliceEn action then (s, none, none)
  else
    let n := actStream action
    match findEntry (s.genTables f.gen) 0x22 n with
    | none => (s, some 32, none)
    | some w =>
      let w0 := w.getD 0 0
      let len := f.bytes.length
      if s.qsg.blocked.contains n then (s, some 33, none)
      else if bits w0 13 0 ≠ 0 ∧ bits w0 13 0 < len then
        (if bit w0 14 then (s.setQsg (fun q => { q with blocked := n :: q.blocked })).raiseBits F.QSG_INT_STATUS_STREAM_BLOCKED 0 1
         else s, some 34, none)
      else
        let x := s.sched (bits w0 25 16)
        let v : Int := s.stampView (f.raw / 16 * 16)
        let i := x.first + s.entryAt x v
        if bit w0 15 && !bit (s.gateStates i) 0 then (s, some 35, none)
        else
          let ipv := if bit w0 15 then s.gateIpv i else none
          if bit w0 26 then
            let m := bits (w.getD 1 0) 9 0
            let (s, colour) := s.meterFrame m len
            let s := s.bump 8 (8 + colour) m
            if colour = 2 then (s, some 36, ipv)
            else if colour = 1 ∧ bit ((s.liveEntry 0x23 m).getD 4 0) 1 then (s, some 37, ipv) else (s, none, ipv)
          else (s, none, ipv)

/-! ### Descriptors (R124, R127 to R129, R226) -/

/-- A copy that a frame asks for: egress port, queue of the replication list, queue fixed by the action, REASON, and its place
in the list of its group (R280). -/
structure Want where
  egr : Nat
  listQ : Option Nat
  fixedQ : Option Nat
  reason : Nat
  ord : Nat

/-- The word of a table's copy that replication reads is uncorrectable (R189). -/
def State.wordLost (s : State) (pf : PipeFrame) (table index : Nat) : Bool :=
  pf.dec.lost.contains (table, index) || s.tbl.damage.contains (pf.pipe, table, index)
/-- R186: the copies of a group, in list order; those not made are counted per reason: 0 the ingress port, 1 a port that
is down. A group whose word is uncorrectable is a miss (R189), and a list entry whose word is gives no copy (DEDUCED, log 88). -/
def State.groupWants (s : State) (pf : PipeFrame) (g : Nat) : State × Option (List Want) :=
  let f := pf.frame
  if s.wordLost pf 4 g then (s.eccMiss pf.pipe 4 g, none)
  else match findEntry (s.genTables f.gen) 4 g with
  | none => (s, none)
  | some w =>
    let w0 := w.getD 0 0
    if !bit w0 31 then (s, none)
    else
      let base := bits w0 17 0
      let places := (List.range (bits w0 29 20)).map (fun i => (base + i, i))
      let s := (places.filter (fun x => s.wordLost pf 5 x.1)).foldl (fun s x => s.eccMiss pf.pipe 5 x.1) s
      let all := (places.filter (fun x => !s.wordLost pf 5 x.1)).map (fun x => ((s.liveEntry 5 x.1).getD 0 0, x.2))
      let self := fun (e : Nat × Nat) => bit w0 30 && e.1 % 1024 == f.port
      let down := fun (e : Nat × Nat) => !s.portUp (e.1 % 1024) && !s.inFlap (e.1 % 1024)
      let made := all.filter (fun e => !self e && !down e)
      let nSelf := (all.filter self).length
      let nDown := all.length - made.length - nSelf
      let s := if nSelf = 0 then s else s.bump 6 15 0 nSelf
      let s := if nDown = 0 then s else s.bump 6 15 1 nDown
      (s, some (made.map (fun e => ⟨e.1 % 1024, if bit e.1 14 then some (bits e.1 13 10) else none, none, 0, e.2⟩)))

/-- R226: the egress queue of a copy. -/
def State.queueFor (s : State) (pf : PipeFrame) (w : Want) (ipv : Option Nat) : Nat :=
  match w.fixedQ with
  | some q => q
  | none =>
    if actQueueEn pf.dec.action then actQueue pf.dec.action
    else match w.listQ with
      | some q => q
      | none => match pf.dec.resQueue with
        | some q => q
        | none =>
          let v := match ipv with
            | some v => v
            | none => match roleOf? pf.roles 6 with
              | some v => v
              | none => if pf.frame.port < 512 then s.rd F.BUF_ING_PORT_CFG_DEFAULT_PCP pf.frame.port else 0
          bits (s.rdG pf.frame.gen F.QSG_QMAP_MAP w.egr) (4 * v + 3) (4 * v)

/-- R128: the copy to an egress port is one that the instance of the frame's action sequences: the port is the instance's, and the
ingress port a member (DEDUCED, log 71). -/
def State.sequences (s : State) (pf : PipeFrame) (egr : Nat) : Bool :=
  let m := actPathId pf.dec.action
  egr == s.rd F.MSQ_INST_CTRL_EGRESS m && decide (pf.frame.port < 512)
    && bit (s.rdG pf.frame.gen F.MSQ_MEMBER_PORTS (16 * m + pf.frame.port / 32)) (pf.frame.port % 32)

/-- R127 to R129: the delivery path that a copy takes: plain for an internal port, for a port that is not the instance's and for a
frame of a non-member, whatever the profile or instance; none when the profile or instance it names is disabled (DEDUCED, log 71). -/
def State.pathFor (s : State) (pf : PipeFrame) (w : Want) : Option Nat :=
  let a := pf.dec.action
  let g := pf.frame.gen
  if w.fixedQ.isSome then some 0
  else if actPath a = 1 then
    if 512 ≤ w.egr then some 0 else if s.onG g F.CLR_PROF_CTRL_ENABLE (actPathId a) then some 1 else none
  else if actPath a = 2 then
    let m := actPathId a
    if s.sequences pf w.egr then (if s.onG g F.MSQ_INST_CTRL_ENABLE m then some 2 else none) else some 0
  else some 0

/-- The descriptor of a copy (R124). -/
def State.mkCopy (s : State) (pf : PipeFrame) (w : Want) (path : Nat) (ipv : Option Nat) : Copy :=
  let f := pf.frame
  let g := f.gen
  let a := pf.dec.action
  let cap := s.captureOf g (actEvrSel a)
  { frame := f, egr := w.egr, queue := s.queueFor pf w ipv, path := path, pathId := if path = 0 then 0 else actPathId a,
    action := a, hash := pf.dec.hash, profile := pf.profile, reason := w.reason, ord := w.ord, admitted := s.now,
    pushTpid := if s.onG g F.MAC_PORT_VLAN_PUSH_TPID w.egr then s.rdG g F.MAC_TPID_VALUE else 0x8100,
    untagVid := if s.onG g F.MAC_PORT_VLAN_UNTAG_NATIVE w.egr then some (s.rdG g F.MAC_PORT_VLAN_DEFAULT_VID w.egr) else none,
    trailer := s.onG g F.TSU_PORT_CFG_TRL_INSERT w.egr || (path == 2 && s.onG g F.MSQ_INST_CTRL_TRAILER (actPathId a)),
    oneStep := s.onG g F.TSU_PORT_CFG_ONE_STEP w.egr,
    seqEn := path == 2 && s.onG g F.MSQ_INST_CTRL_SEQ_EN (actPathId a),
    cap := if pf.dec.recordIt ∧ !cap.active then { cap with active := true, mode := 1, onePer := false } else cap }

/-! ### Cells and references -/

/-- The frame's buffer: allocated with its first copy (R195, R197, R199); none when the free store is empty. -/
def State.ensureBuf (s : State) (id need : Nat) : Option State :=
  if s.buf.stored.any (fun b => b.id == id) then some s
  else match s.alloc need with
    | none => none
    | some (cells, s) => some (s.setBuf (fun b => { b with stored := b.stored ++ [⟨id, cells, 0, 0, 8, 0, 0⟩] }))

/-- One more reference (R199), and the place of the frame in its ingress class (R208). -/
def State.addRef (s : State) (id : Nat) : State :=
  s.setBuf (fun b => { b with stored := b.stored.map (fun x => if x.id = id then { x with count := x.count + 1 } else x) })
def State.setClass (s : State) (id p c cls hr : Nat) : State :=
  s.setBuf (fun b => { b with stored := b.stored.map (fun x =>
    if x.id = id then { x with port := p, cls := c, classCells := cls, hrCells := hr } else x) })

/-- R206: an allocation that finds no free cell. -/
def State.exhausted (s : State) (c : Copy) : State := (s.raiseFault 30 3 1 0 0).noteDrop c 26

/-- `shared_free` scaled by 2^k (R203, R205). -/
def scaled (free : Nat) (k : Int) : Nat := if 0 ≤ k then free * 2 ^ k.toNat else free / 2 ^ k.natAbs

/-- A copy admitted to its queue: it is counted there (R529), and the highest depth follows (R253). -/
def State.enqueue (s : State) (c : Copy) : State :=
  let s := ((s.bump 3 0 c.q).bump 3 1 c.q c.frame.bytes.length).touch c.egr
  (s.setQsg (fun q => { q with queue := q.queue ++ [c] })).markDepth c.q

/-! ### Launch (R248) and throttling (ch. 19, step 1) -/

/-- R248: the launch tick of a plain copy, or the reason of its drop. -/
def State.launchOf (s : State) (pf : PipeFrame) (c : Copy) : Except Nat (Option Nat) :=
  let k := s.schedProf c.egr c.queue
  let mode := s.rdG pf.frame.gen F.QSG_SCHED_PROF_CTRL_LAUNCH_MODE k
  let far := s.now + s.rd F.QSG_SCHED_PROF_LT_HORIZON_LT_HORIZON_US k * 800
  let check := fun (l : Nat) => if far < l then (.error 40 : Except Nat (Option Nat)) else .ok (some l)
  if mode = 1 then check (pf.frame.raw / 16 + ceilDiv (s.rdG pf.frame.gen F.QSG_SCHED_PROF_LT_OFFSET_LT_OFFSET_NS k * 4) 5)
  else if mode = 2 then
    match roleOf? pf.roles 30, roleOf? pf.roles 31 with
    | some sec, some ns =>
      if 1000000000 ≤ ns then .error 39
      else
        let cur := viewSec (s.viewAt s.now 0)
        let near := cur / 2 ^ 32 * 2 ^ 32 + sec
        let full := if near + 2 ^ 31 < cur then near + 2 ^ 32 else if cur + 2 ^ 31 ≤ near ∧ 2 ^ 32 ≤ near then near - 2 ^ 32 else near
        check (s.tickOfView 0 (viewOf full ns 0))
    | _, _ => .error 39
  else .ok none

/-- Throttling step 1: the best-effort bucket of the pipeline; whether the copy passes. -/
def State.bestEffort (s : State) (pipe : Nat) (c : Copy) : State × Bool :=
  if s.rd F.PWR_STATUS_STEP = 0 ∨ !s.on F.BUF_THR_PROF_ALPHA_BEST_EFFORT (s.rd F.BUF_Q_CFG_PROFILE c.q) then (s, true)
  else
    let u := nth s.buf.beBucket pipe 0
    if u < 0 ∨ s.rd F.PWR_STEP1_BE_GBPS = 0 then (s, false)
    else (s.setBuf (fun b => { b with beBucket := upd b.beBucket pipe (fun x => x - 400000 * (c.frame.bytes.length : Int)) }), true)

/-! ### Plain copies (R203, R208, R214) -/

/-- R203: a queue takes `need` more cells. -/
def State.queueTakes (s : State) (q need : Nat) : Bool :=
  let total := s.queueCells q + need
  decide (total ≤ s.minCells q)
    || decide (total - s.minCells q ≤ scaled s.sharedFree (s.rdS F.BUF_THR_PROF_ALPHA_ALPHA_K (s.rd F.BUF_Q_CFG_PROFILE q)))

/-- How the frame's ingress class takes it (R208): no rule, charged to queues without the alpha test, or to headroom. -/
inductive Lossless
  | no | queues | headroom
deriving DecidableEq, Repr

/-- R118, R119: the copy cuts through, whether or not the frame has ended by its admission (log 73). -/
def State.cutsThrough (s : State) (c : Copy) : Bool :=
  !c.frame.saf && decide (c.frame.port < 512) && decide (c.egr < 512) && s.on F.BUF_FWD_PORT_CTRL_CT_EN c.frame.port
    && s.on F.BUF_FWD_PORT_CTRL_CT_EN c.egr && c.path == 0 && (s.listAt c.egr s.now).isNone && c.launch.isNone
    && s.portUp c.egr && !s.inFlap c.egr && !s.resting c.egr && decide (s.lan.wake.get c.egr 0 ≤ s.now) && s.qsg.txs.all (fun t => t.port != c.egr)
    && s.copies.all (fun x => x.egr != c.egr) && decide (s.portMbps c.egr ≤ s.portMbps c.frame.port)
    && !s.isPaused c.egr (c.queue % 16) (s.ballTick c.egr 0 (s.now + s.pathTicks 40))

/-- A plain copy that has passed its test takes its reference, and waits in its queue or cuts through. -/
def State.placePlain (s : State) (c : Copy) (need var : Nat) (ll : Lossless) : State :=
  match s.ensureBuf c.frame.id (if c.sample then 1 else need) with
  | none => s.exhausted c
  | some s =>
    let s := s.addRef c.frame.id
    let c := { c with buf := some c.frame.id, cells := if ll = .headroom then 0 else need }
    if s.cutsThrough c then
      let s := (s.bump 3 0 c.q).bump 3 1 c.q c.frame.bytes.length
      if s.editDown c.group then s.dropCopy c 14
      else (s.startTx { c with cut := true } (320 * (s.now + s.pathTicks 40) : Nat) (s.toBallFine c.egr var)).markDepth c.q
    else s.enqueue c

/-- R214: a plain copy for a deep queue; while Reserve Memory has failed it stands at its quota (R376). One of a lossless class is charged
without the alpha test, or to its headroom (R208). -/
def State.placeDeep (s : State) (d : Nat) (c : Copy) (need : Nat) (ll : Lossless) : State :=
  let q := c.q
  let charge := if ll = .headroom then 0 else need
  let inRm := s.qsg.queue.any (fun x => x.q == q && x.seg != .onDie)
  let total := s.queueCells q + charge
  let excess := total - s.minCells q
  let limit := if ll = .no then scaled s.sharedFree (s.rdS F.BUF_THR_PROF_ALPHA_ALPHA_K (s.rd F.BUF_Q_CFG_PROFILE q)) else excess
  let quota := s.rd F.BUF_DEEP_QUOTA_QUOTA_GIB d * 2 ^ 30
  if !inRm ∧ excess ≤ min limit (s.rd F.BUF_DEEP_SPILL_ON_SPILL_ON d) then (s.placePlain c need 0 ll).showDeep q
  else if s.rd F.MEM_STATUS_STATE ≠ 3 ∧ s.segBytes q .reserve + s.segBytes q .backlog + c.rmBytes ≤ quota then
    if excess ≤ limit then
      match s.ensureBuf c.frame.id need with
      | none => s.exhausted c
      | some s => ((s.addRef c.frame.id).enqueue { c with buf := some c.frame.id, cells := charge, seg := .backlog }).showDeep q
    else s.noteDrop c 29
  else s.noteDrop c 28

/-- A plain copy at admission (R203, R204, R208, R214, R248). -/
def State.admitPlain (s : State) (pf : PipeFrame) (c : Copy) (need var : Nat) (ll : Lossless) : State :=
  match s.bestEffort pf.pipe c with
  | (s, false) => s.noteDrop c 16
  | (s, true) =>
    match s.launchOf pf c with
    | .error r => s.noteDrop c r
    | .ok l =>
      let c := { c with launch := l }
      match s.deepOf c.q with
      | some d => s.placeDeep d c need ll
      | none => if ll ≠ .no ∨ s.queueTakes c.q need then s.placePlain c need var ll else s.noteDrop c 24

/-- A frame that the part makes itself, with the stamp of the present tick (R301, R351, R434) (DEDUCED, log 91). -/
def State.ownFrame (s : State) (p : Nat) (bytes : Bytes) : Frame :=
  { id := s.fwd.nextFrame, ing := p, port := p, raw := 16 * s.now, hold := s.holdAt s.now, view := s.stampView (16 * s.now),
    epoch := s.stampEpoch (16 * s.now), gen := s.rd F.SYS_CFG_GEN_CURRENT, bytes := bytes, ended := true, saf := true }
/-- A plain copy of such a frame at admission, stored and forwarded: it meets what every plain copy meets (R203, R214, R248) (DEDUCED, log 91). -/
def State.admitOwn (s : State) (c : Copy) : State :=
  (s.admitPlain { frame := c.frame, pipe := c.frame.group, admitAt := s.now, dec := {}, profile := 0, roles := [] } c
    (ceilDiv c.frame.bytes.length 256) 0 .no).refreshBuf

/-! ### Held and sequenced copies (R205, R262, R265, R281, R289, R290) -/

/-- R205: the deterministic regions take `need` more cells. -/
def State.detTakes (s : State) (need : Nat) : Bool :=
  let total := s.detCells + need
  decide (total - s.rd F.BUF_DET_RESERVE_CELLS ≤ scaled s.sharedFree (s.rdS F.BUF_DET_RESERVE_DET_ALPHA_K))
    || decide (total ≤ s.rd F.BUF_DET_RESERVE_CELLS)

/-- R270: the need of a copy, in nanoseconds rounded up, for MAX_NEED_NS (DEDUCED, log 32). -/
def State.noteNeed (s : State) (k : Nat) (needFine : Int) : State :=
  let ns := min (2 ^ 20 - 1) (ceilDiv needFine.toNat 256)
  s.rcMax F.CLR_PROF_NEED_MAX_NEED_NS k ns

/-- R262, R265, R268: a held copy takes a slot with its target and entry, or is refused (DEDUCED, log 64) (DEDUCED, log 73). -/
def State.admitHeld (s : State) (c : Copy) (need var : Nat) : State :=
  let p := c.egr
  let k := c.pathId
  let tIn : Int := 20 * (c.frame.raw : Int)
  let cable : Int := s.rd F.CLR_PORT_CABLE_CABLE_OFS p
  let toBall := s.toBallFine p var
  let target := tIn + 256 * (s.rd F.CLR_PROF_L_L_NS k : Int) + cable
  let earliest : Int := (320 * max (s.now + s.pathTicks 40) (s.storedEntry c.frame) : Nat) + toBall
  let h : Held := { copy := { c with cells := need, buf := some c.frame.id }, target := target, entry := target - toBall,
                    toBall := toBall, delayed := false }
  if !s.detTakes need then s.noteDrop c 25
  else if s.rd F.CLR_PORT_HOLD_MAX_SLOTS p ≤ (s.slotCopies.filter (fun x => x.egr == p)).length
      ∨ 16384 ≤ (s.slotCopies.filter (fun x => x.egr / 32 == p / 32)).length then s.noteDrop c 46
  else
    match s.ensureBuf c.frame.id need with
    | none => s.exhausted c
    | some s =>
      let s := (s.noteNeed k (earliest - tIn - cable)).addRef c.frame.id
      (((s.touch p).setQsg (fun q => { q with held := q.held ++ [h] })).showHeld p k).sweepHeld p (fun x => x == h)

/-- R281: W_TICKS of an instance. -/
def State.wTicks (s : State) (m : Nat) : Nat := ceilDiv (s.rd F.MSQ_INST_WINDOW_W_NS m * 4) 5

/-- R290: a copy is offered before its release tick; its record is due whatever selector its frame names (DESIGN CHOICE, log 95). -/
def SeqCopy.released (x : SeqCopy) (now : Nat) : SeqCopy :=
  { x with early := true, offered := now, copy := x.copy.owesRecord }

/-- R281, R285, R289, R290: a sequenced copy enters the store of its instance (DEDUCED, log 64). -/
def State.admitSeq (s : State) (c : Copy) (need : Nat) : State :=
  let m := c.pathId
  let age := s.now - c.frame.raw / 16
  let mine := s.seqStored.filter (fun x => x.inst == m)
  let full := decide (s.rd F.MSQ_INST_STORE_STORE_MAX m ≤ mine.length) || decide (131072 ≤ s.seqStored.length)
  let x : SeqCopy := { copy := { c with cells := need, buf := some c.frame.id }, inst := m,
                       release := c.frame.raw / 16 + s.wTicks m, visible := false, late := false, early := false, lastRaw := 0 }
  if !s.detTakes need then (s.bump 10 8).noteDrop c 25
  else if full && !s.on F.MSQ_INST_CTRL_FULL_POLICY m then s.noteDrop c 48
  else
    match s.ensureBuf c.frame.id need with
    | none => s.exhausted c
    | some s =>
      let s := s.rcMax F.MSQ_AGE_MAX_AGE_NS m (min (2 ^ 20 - 1) (ceilDiv (age * 5) 4))
      let s := ((s.addRef c.frame.id).touch c.egr).setQsg (fun q => { q with seq := q.seq ++ [x] })
      let s :=
        if full then
          let waiting := (mine ++ [x]).filter (fun y => !y.late)
          let least := waiting.foldl (fun b y => match b with
            | none => some y
            | some z => if y.copy.frame.raw < z.copy.frame.raw then some y else some z) none
          match least with
          | some y => ((s.setQsg (fun q => { q with seq := q.seq.map (fun z => if z = y then z.released s.now else z) })).bump
              10 7).raiseBits F.MSQ_INT_STATUS_EARLY_RELEASE 0 1
          | none => s
        else s
      s.showSeq m

/-! ### A frame at admission -/

/-- R208: what the ingress class of a plain frame says: the class, and how it takes the frame; none for a drop. -/
def State.losslessRule (s : State) (f : Frame) (need : Nat) : Nat × Option Lossless :=
  if 512 ≤ f.port then (8, some .no)
  else
    let mode := s.rd F.BUF_ING_PORT_CFG_MODE f.port
    let pcp := s.outerPcp f
    let c := if mode = 1 then 0 else bits (s.rd F.BUF_ING_PORT_MAP_MAP f.port) (3 * pcp + 2) (3 * pcp)
    if !(s.losslessClasses f.port).contains c then (c, some .no)
    else
      let hr := s.hrUse f.port c
      if s.classUse f.port c - hr + need ≤ s.ingProf F.BUF_ING_PROF_XOFF_XOFF f.port c ∧ need ≤ s.sharedFree then (c, some .queues)
      else if hr + need ≤ s.ingProf F.BUF_ING_PROF_HEADROOM_HEADROOM f.port c then (c, some .headroom)
      else (c, none)

/-- The variable part given for the next copy of a port, and what is left for those after it: the last one given serves the rest. -/
def takeVar (vars : List (Nat × Nat)) (p : Nat) : Nat × List (Nat × Nat) :=
  match vars.find? (fun v => v.1 == p) with
  | none => (0, vars)
  | some v => (v.2, if ((vars.erase v).any (fun x => x.1 == p)) then vars.erase v else vars)

/-- R128: a copy to an instance's egress port whose ingress port is no member goes plain and is counted. No item of R532 names this
count: it stands beyond those of group 10, where no address shows it (DESIGN CHOICE, log 30). -/
def State.noteNonMember (s : State) (pf : PipeFrame) (w : Want) : State :=
  let a := pf.dec.action
  if w.fixedQ.isNone ∧ actPath a = 2 ∧ w.egr = s.rd F.MSQ_INST_CTRL_EGRESS (actPathId a) ∧ !s.sequences pf w.egr then
    s.bump 10 11 (actPathId a)
  else s

/-- R129, R124, R203, R205: one copy that a frame asks for. A copy for a port that is down waits for it (R118, R250) (DEDUCED, log 72). -/
def State.admitWant (s : State) (pf : PipeFrame) (need v : Nat) (ipv : Option Nat) (ll : Option Lossless) (w : Want) : State :=
  match s.pathFor pf w with
  | none => s.noteDrop (s.mkCopy pf w 0 ipv) 11
  | some path =>
    let c := s.mkCopy pf w path ipv
    let s := s.noteNonMember pf w
    if path = 1 then s.admitHeld c need v
    else if path = 2 then s.admitSeq c need
    else match ll with
      | some l => s.admitPlain pf c need v l
      | none => s

/-- The copies that the frame's destination asks for (R154, R169, R186). -/
def State.wantsOf (s : State) (pf : PipeFrame) : State × Option (List Want) :=
  match pf.dec.dest with
  | .port p => (s, some [(⟨p, none, none, 0, 0⟩ : Want)])
  | .group g => s.groupWants pf g
  | .none _ => (s, none)

/-- R116: the frame has ended, and 72 of the 112 ticks since its last byte have passed. -/
def State.wholeIn (s : State) (f : Frame) : Bool :=
  f.ended && decide (s.lastByteTick f = 0 ∨ s.lastByteTick f + s.pathTicks 72 ≤ s.now)
/-- R118: a copy of the frame cuts through (DEDUCED, log 73). -/
def State.anyCut (s : State) (pf : PipeFrame) : Bool :=
  ((s.wantsOf pf).2.getD []).any (fun w => s.pathFor pf w == some 0 &&
    (match s.launchOf pf (s.mkCopy pf w 0 none) with
      | .ok l => s.cutsThrough { s.mkCopy pf w 0 none with launch := l }
      | .error _ => false))

/-- Copies that wait, of one frame, other than its sample, are dropped for a reason. -/
def State.discardCopies (s : State) (id reason : Nat) : State :=
  let mine := fun (c : Copy) => c.frame.id == id && !c.sample
  let held := (s.qsg.held.filter (fun h => mine h.copy)).map (fun h => h.copy)
  let seq := s.qsg.seq.filter (fun x => mine x.copy)
  let queued := s.qsg.queue.filter mine
  let s := s.setQsg (fun q => { q with
    queue := q.queue.filter (fun c => !mine c)
    held := q.held.filter (fun h => !mine h.copy)
    seq := q.seq.filter (fun x => !mine x.copy) })
  let s := (queued ++ held ++ seq.map (fun x => x.copy)).foldl (fun s c => s.dropCopy c reason) s
  let s := held.foldl (fun s c => s.showHeld c.egr c.pathId) s
  let s := (seq.map (fun x => x.inst)).dedup.foldl (fun s m => s.showSeq m) s
  (queued.map Copy.q).dedup.foldl (fun s q => s.leftQueue q) s
/-- The cut-through transmission of a frame. -/
def State.cutTx (s : State) (id : Nat) : Option Tx :=
  s.qsg.txs.find? (fun t => match t.copy with | some c => c.cut && c.frame.id == id && !c.sample | none => false)

/-- R208: the frame's place in its ingress class, while a plain copy of it stays, and what its class then does (R209). -/
def State.chargeClass (s : State) (f : Frame) (c need : Nat) (ll : Option Lossless) : State :=
  if 512 ≤ f.port ∨ s.copies.all (fun x => x.frame.id != f.id || x.path != 0) then s
  else
    let hr := ll == some .headroom
    let s := s.setClass f.id f.port c (if hr then 0 else need) (if hr then need else 0)
    if c < 8 ∧ (s.losslessClasses f.port).contains c then s.flowClass f.port c hr else s

/-- R135, R77: a sample copy or a general PTP message at admission; it takes its own buffer and no part in replication. A message counts in
its ingress class (R208) (DEDUCED, log 27). -/
def State.admitAside (s : State) (a : Aside) : State :=
  let sample := a.reason == 1
  let id := if sample then s.fwd.nextFrame else a.pf.frame.id
  let s := s.setFwd (fun w => { w with
    samples := w.samples.erase a, nextFrame := if sample then w.nextFrame + 1 else w.nextFrame })
  let pf := { a.pf with frame := { a.pf.frame with id := id } }
  let c := { s.mkCopy pf ⟨512 + a.seat, none, some a.queue, a.reason, 0⟩ 0 none with sample := sample }
  let need := if sample then 1 else ceilDiv pf.frame.bytes.length 256
  let (cls, ll) := if sample then (8, some .no) else s.losslessRule pf.frame need
  match ll with
  | none => s.noteDrop c 27
  | some l => ((s.admitPlain pf c need 0 l).chargeClass pf.frame cls need (if sample then none else ll)).refreshBuf

/-- What takes its turn at admission (R206): a copy that the frame asks for, or one that stands aside. -/
inductive Turn
  | copy (w : Want)
  | aside (a : Aside)
/-- The egress queue of a turn. -/
def State.turnQ (s : State) (pf : PipeFrame) (ipv : Option Nat) : Turn → Nat
  | .copy w => 16 * w.egr + s.queueFor pf w ipv
  | .aside a => 16 * (512 + a.seat) + a.queue
/-- The turns of a frame in the order of R206, with the variable parts left. -/
def State.takeTurns (s : State) (pf : PipeFrame) (need : Nat) (ipv : Option Nat) (ll : Option Lossless) :
    List (Nat × Nat) → List Turn → State × List (Nat × Nat)
  | vars, [] => (s, vars)
  | vars, .aside a :: rest => State.takeTurns (s.admitAside a) pf need ipv ll vars rest
  | vars, .copy w :: rest =>
    State.takeTurns (s.admitWant pf need (takeVar vars w.egr).1 ipv ll w) pf need ipv ll (takeVar vars w.egr).2 rest

/-- R112, R154, R169, R237: a frame reaches buffer admission, with the copies that stand aside from it and are due. -/
def State.admitFrame (s : State) (pf : PipeFrame) (asides : List Aside) (vars : List (Nat × Nat)) : State × List (Nat × Nat) :=
  let f := pf.frame
  let a := pf.dec.action
  let s := s.setFwd (fun w => { w with pipe := w.pipe.filter (fun x => x.frame.id != f.id) })
  let drop := fun (s : State) (r : Nat) => (asides.foldl (fun s x => s.admitAside x) (s.dropDecided f a r), vars)
  if f.ended ∧ f.bad ≠ 0 then drop s f.bad
  else if f.gen ≠ s.rd F.SYS_CFG_GEN_CURRENT ∧ f.gen ≠ s.rd F.SYS_CFG_GEN_PREVIOUS then
    drop (s.raiseFault (11 + pf.pipe) 3 1 f.group s.now) 10
  else
    match s.police f a with
    | (s, some r, _) => drop s r
    | (s, none, ipv) =>
      match s.wantsOf pf with
      | (s, none) => drop s 20
      | (s, some ws) =>
        let ws := if actCopyEn a then ws ++ [⟨512 + actCopySeat a, none, some (actCopyQ a), 2, 0⟩] else ws
        let need := ceilDiv f.bytes.length 256
        let plain := ws.any (fun w => s.pathFor pf w == some 0)
        let (c, ll) := if plain then s.losslessRule f need else (8, some .no)
        let s := if plain ∧ ll = none then s.dropDecided f a 27 else s
        let turns := sortBy (fun x y => decide (s.turnQ pf ipv x ≤ s.turnQ pf ipv y)) (ws.map Turn.copy ++ asides.map Turn.aside)
        let (s, vars) := s.takeTurns pf need ipv ll vars turns
        let s := s.chargeClass f c need ll
        let s := if ((s.cutTx f.id).map (fun t => t.endReason)) = some 54 then s.discardCopies f.id 54 else s
        (s.refreshBuf, vars)

/-- R116, R118: a frame whose head is here before its end goes on when a copy of it cuts through; else the frame is stored and
forwarded, and goes on 72 ticks after its last byte (DEDUCED, log 73). -/
def State.reachAdmission (s : State) (pf : PipeFrame) (asides : List Aside) (vars : List (Nat × Nat)) : State × List (Nat × Nat) :=
  let f := pf.frame
  if s.wholeIn f || (f.ended && f.bad != 0) || s.anyCut pf then s.admitFrame pf asides vars
  else
    (asides.foldl (fun s x => s.admitAside x) (s.setFwd (fun w => { w with pipe := w.pipe.map (fun x =>
      if x.frame.id = f.id then
        { x with frame := { x.frame with saf := true }, admitAt := max (s.now + 1) (s.lastByteTick f + s.pathTicks 72) }
      else x) })), vars)

/-- R206: stamped raw form, then ingress port. -/
def Frame.first (x y : Frame) : Bool := decide (x.raw < y.raw) || (x.raw == y.raw && decide (x.port ≤ y.port))
/-- The frames that are due at admission: not before their tick, and of pipelines that have not stopped (R490). -/
def State.admitDue (s : State) : List PipeFrame :=
  sortBy (fun (x y : PipeFrame) => x.frame.first y.frame) (s.fwd.pipe.filter (fun x => decide (x.admitAt ≤ s.now)))
/-- The copies that stand aside, whose frame has ended and which are due (R135, R77). -/
def State.asidesDue (s : State) : List Aside :=
  s.fwd.samples.filter (fun x => x.pf.frame.ended && decide (x.pf.admitAt ≤ s.now))
/-- Everything due at admission, frame by frame: what a frame's pipeline brings, if anything, and what stands aside from it. -/
def State.admitList (s : State) : List (Option PipeFrame × List Aside) :=
  let due := s.admitDue
  let aside := s.asidesDue
  let alone := aside.filter (fun a => due.all (fun x => x.frame.id != a.pf.frame.id))
  sortBy (fun x y => match (x.1.map (fun p => p.frame)).orElse (fun _ => x.2.head?.map (fun a => a.pf.frame)),
      (y.1.map (fun p => p.frame)).orElse (fun _ => y.2.head?.map (fun a => a.pf.frame)) with
    | some f, some g => f.first g
    | _, _ => true)
    (due.map (fun p => (some p, aside.filter (fun a => a.pf.frame.id == p.frame.id))) ++ alone.map (fun a => (none, [a])))

/-- BUFFER_ADMISSION: what reaches admission in this tick, in the order of R206. `vars` gives the egress variable part of R52 at the entry
of each copy of a port in turn; the last one of a port serves its further copies. -/
def execBufferAdmission (vars : List (Nat × Nat)) (s : State) : Host.Outcome State Fault Refusal :=
  .next (s.whenLive (fun s => (s.admitList.foldl (fun x item => match item.1 with
    | some pf => x.1.reachAdmission pf item.2 x.2
    | none => (item.2.foldl (fun s a => s.admitAside a) x.1, x.2)) (s, vars)).1))

end Sys2Proof.Machine
end

