-- ==== Sys2Proof/Machine/Pools.lean ====
section
/-! DEFINITION. The buffers of the control memory: pools, allocation, frees and errors (R199, R200, R211, R212, R216). -/

namespace Sys2Proof.Machine

/-- Bytes of a buffer of pool c (R211). -/
def poolSize (c : Nat) : Nat := 64 * 4 ^ c

/-- Buffers of a pool in use. -/
def State.poolUsed (s : State) (c : Nat) : Nat := (s.buf.ctl.filter (fun b => b.pool == c)).length
/-- POOL[c].FREE (R222). -/
def State.showPool (s : State) (c : Nat) : State := s.wr F.BUF_POOL_FREE_FREE c (s.rd F.BUF_POOL_COUNT_COUNT c - s.poolUsed c)
/-- The lowest free place of a pool (R196), if it has one. -/
def State.poolPlace (s : State) (c : Nat) : Option Nat :=
  let used := (s.buf.ctl.filter (fun b => b.pool == c)).map (fun b => b.place)
  let k := lowestFree used used.length 0
  if k < s.rd F.BUF_POOL_COUNT_COUNT c then some k else none

/-- R212: a request of some bytes for an owner: the smallest pool that holds it, or a larger one; a fallback and a failure are
counted (DEDUCED, log 28). -/
def State.ctlAlloc (s : State) (bytes owner : Nat) : State × Option CtlBuf :=
  let take := fun (s : State) (c k : Nat) =>
    let b : CtlBuf := { pool := c, place := k, owner := owner }
    ((s.setBuf (fun x => { x with ctl := x.ctl ++ [b] })).showPool c, some b)
  let fail := fun (s : State) => ((s.bump 7 6).raiseBits F.BUF_INT_STATUS_POOL_FAIL 0 1, (none : Option CtlBuf))
  match (List.range 4).find? (fun c => decide (bytes ≤ poolSize c)) with
  | none => fail s
  | some c =>
    match s.poolPlace c with
    | some k => take s c k
    | none =>
      if 65536 ≤ s.rd F.BUF_POOL_COUNT_COUNT c then fail s
      else match (List.range 4).findSome? (fun d => if c < d then (s.poolPlace d).map (fun k => (d, k)) else none) with
        | some (d, k) => take (s.bump 7 5) d k
        | none => fail s

/-- A free of a control buffer, with the owner code that the requester presents: it goes back to its pool, or the free is refused (R199, R200)
(DESIGN CHOICE, log 89). -/
def State.ctlFree (s : State) (pool place requester : Nat) : State :=
  let handle := pool * 65536 + place
  match s.buf.ctl.find? (fun b => b.pool == pool && b.place == place) with
  | none => s.refuseFree 0 handle requester
  | some b =>
    if b.owner = 0 then s.refuseFree 0 handle requester
    else if b.owner ≠ requester then s.refuseFree 1 handle requester
    else (s.setBuf (fun x => { x with ctl := x.ctl.erase b })).showPool pool

/-- The control buffer in which a 64-byte unit of the control memory lies, the pools standing in order from its start: pool and place
(DESIGN CHOICE, log 89). -/
def State.ctlPlace (s : State) (unit : Nat) : Option (Nat × Nat) :=
  let size := fun (c : Nat) => s.rd F.BUF_POOL_COUNT_COUNT c * poolSize c
  let base := fun (c : Nat) => sumOf (List.range c) size
  ((List.range 4).find? (fun c => decide (base c ≤ 64 * unit) && decide (64 * unit < base c + size c))).map
    (fun c => (c, (64 * unit - base c) / poolSize c))
/-- A finding in the control memory (R216): an uncorrectable error in a buffer is told to its owner, and one in a tag or count word keeps
the buffer from being freed (DESIGN CHOICE, log 89). -/
def State.ctlFinding (s : State) (unit finding : Nat) : State :=
  let here := fun (b : CtlBuf) => s.ctlPlace unit == some (b.pool, b.place)
  match finding with
  | 0 => s
  | 1 => (s.raiseFault 30 1 0 255 unit).raiseBits F.BUF_INT_STATUS_ECC_CORR 0 1
  | 2 => ((s.raiseFault 30 2 1 255 unit).raiseBits F.BUF_INT_STATUS_ECC_UNCORR 0 1).setBuf (fun x => { x with
      ctl := x.ctl.map (fun b => if here b then { b with bad := true } else b) })
  | _ => ((s.raiseFault 30 2 1 255 unit).raiseBits F.BUF_INT_STATUS_ECC_UNCORR 0 1).setBuf (fun x => { x with
      ctl := x.ctl.map (fun b => if here b then { b with owner := 0 } else b) })


end Sys2Proof.Machine
end

