-- ==== Sys2Proof/Machine/Buffer.lean ====
section
/-! DEFINITION. Deep queues (R213 to R215) and the protection of the shared buffer: scrubbing, sparing and retiring of
banks (R216 to R219), and the bank test (R220). -/

namespace Sys2Proof.Machine

/-! ### Deep queues -/

/-- The queue that a deep queue is bound to. -/
def State.deepQueue (s : State) (d : Nat) : Nat := s.rd F.BUF_DEEP_CTRL_QUEUE d

/-- SPILL_WRITE_DONE (R215): the copy at the head of the backlog of deep queue d, once its frame has ended, has been written; its cells on
die are freed. -/
def execSpillWriteDone (d : Fin 64) (s : State) : Host.Outcome State Fault Refusal :=
  .next (s.whenLive (fun s =>
    let q := s.deepQueue d.val
    match s.qsg.queue.find? (fun c => c.q == q && c.seg == .backlog) with
    | none => s
    | some c => s.when (c.ready && s.rd F.MEM_STATUS_STATE != 3) fun s =>
      let s := s.setQsg (fun x => { x with queue := x.queue.map (fun y =>
        if y = c then { y with seg := .reserve, cells := 0, buf := none } else y) })
      ((s.bump 7 10).release c).showDeep q))

/-- REFILL_READ_DONE (R215): the copy at the head of the segment in Reserve Memory of deep queue d has been read back, if
the segment on die holds fewer than REFILL cells and the charge is allowed (R203). -/
def execRefillReadDone (d : Fin 64) (s : State) : Host.Outcome State Fault Refusal :=
  .next (s.whenLive (fun s =>
    let q := s.deepQueue d.val
    match s.qsg.queue.find? (fun c => c.q == q && c.seg == .reserve) with
    | none => s
    | some c =>
      let need := ceilDiv c.frame.bytes.length 256
      let onDie := sumOf (s.qsg.queue.filter (fun x => x.q == q && x.seg == .onDie)) (fun x => x.cells)
      if s.rd F.MEM_STATUS_STATE ≠ 3 ∧ onDie < s.rd F.BUF_DEEP_REFILL_REFILL d.val ∧ s.queueTakes q need then
        let id := s.fwd.nextFrame
        match s.ensureBuf id need with
        | none => s
        | some t =>
          let t := (t.setFwd (fun w => { w with nextFrame := w.nextFrame + 1 })).addRef id
          ((((t.setQsg (fun x => { x with queue := x.queue.map (fun y =>
            if y = c then { y with seg := .onDie, cells := need, buf := some id } else y) })).bump 7 11).showDeep q).markDepth q).refreshBuf
      else s))

/-! ### Sparing -/

/-- BANK_MAP shows the selected bank (R222). -/
def State.showBank (s : State) : State :=
  let b := s.rd F.BUF_BANK_MAP_SEL_BANK
  ((s.wr F.BUF_BANK_MAP_PHYS 0 (s.buf.bankMap.get b b)).wr F.BUF_BANK_MAP_RETIRED 0 (b2n (s.buf.retired.contains b))).wr
    F.BUF_SPARE_STATUS_SPARES_LEFT 0 s.buf.spares.length

/-- R217: FORCE asks for the sparing of FORCE_BANK. -/
def State.spareForce (s : State) (bank : Nat) : State := (s.wr F.BUF_SPARE_CTRL_FORCE_BANK 0 bank).askSparing bank

/-- R218: a bank for which no spare is left is retired. -/
def State.retireBank (s : State) (bank : Nat) : State :=
  let s := s.setBuf (fun b => { b with retired := b.retired ++ [bank] })
  ((s.raiseBits F.BUF_INT_STATUS_SPARE_NONE 0 1).raiseFault 30 5 1 bank 0).refreshBuf.showBank

/-- BANK_SPARING_START: the first bank that waits takes a spare as its shadow, or is retired (R217, R218). -/
def execBankSparingStart (s : State) : Host.Outcome State Fault Refusal :=
  .next (s.when (s.live && s.buf.sparing.isNone) (fun s =>
    match s.buf.spareReq with
    | [] => s
    | bank :: rest =>
      let s := s.setBuf (fun b => { b with spareReq := rest })
      match s.buf.spares with
      | [] => s.retireBank bank
      | sp :: more =>
        let s := s.setBuf (fun b => { b with spares := more, sparing := some ⟨bank, sp, s.now⟩ })
        ((s.wr F.BUF_SPARE_STATUS_MIGRATING 0 1).wr F.BUF_SPARE_STATUS_BANK 0 bank).showBank))

/-- BANK_SPARING_DONE: every live cell of the bank is copied, at one cell in 2 ticks, and the map points to the shadow in
this tick (R217) (DEDUCED, log 28). -/
def execBankSparingDone (s : State) : Host.Outcome State Fault Refusal :=
  .next (s.whenLive (fun s =>
    match s.buf.sparing with
    | none => s
    | some x =>
      if s.now < x.start + 2 * (s.usedCells.filter (fun c => c / 16384 == x.bank)).length then s
      else
        let s := s.setBuf (fun b => { b with
          sparing := none, bankMap := b.bankMap.put x.bank x.spare x.bank })
        let s := (s.wr F.BUF_SPARE_STATUS_MIGRATING 0 0).raiseBits F.BUF_INT_STATUS_SPARE_USED 0 1
        (((s.raiseFault 30 4 2 x.bank 0).bump 7 9).eventRec 7 x.bank s.now 6 x.bank x.start s.now).showBank))

/-! ### Scrubbing (R216, R219) -/

/-- A corrected error in a bank: counted, ECC_CORR, a NOTE fault, and the bank is spared at CE_LIMIT within 1 s (R216, R217, R223). -/
def State.noteCorrected (s : State) (cell : Nat) : State :=
  let bank := cell / 16384
  let s := ((s.raiseFault 30 1 0 bank cell).raiseBits F.BUF_INT_STATUS_ECC_CORR 0 1).bump 7 7 bank
  let s := s.setBuf (fun b => { b with ceTicks := b.ceTicks.filter (fun x => s.now < x.2 + 800000000) ++ [(bank, s.now)] })
  let lim := s.rd F.BUF_SPARE_CTRL_CE_LIMIT
  if lim ≠ 0 ∧ lim ≤ (s.buf.ceTicks.filter (fun x => x.1 == bank)).length then s.askSparing bank else s

/-- An uncorrectable word of the tag and count store: the buffer is retired without being freed (R216). -/
def State.loseTag (s : State) (cell : Nat) : State :=
  match s.buf.stored.find? (fun b => b.cells.contains cell) with
  | some b => s.setBuf (fun x => { x with stored := x.stored.filter (fun y => y.id != b.id), lost := x.lost ++ b.cells })
  | none => s

/-- The logical bank that a physical bank serves, if it serves one (R194). -/
def State.logicalBank (s : State) (phys : Nat) : Option Nat := (List.range 60).find? (fun b => s.buf.bankMap.get b b == phys)

/-- A finding in a cell of a logical bank (R216, R219). -/
def State.cellFinding (s : State) (c finding : Nat) : State :=
  match finding with
  | 0 => s
  | 1 => s.noteCorrected c
  | 2 => if s.usedCells.contains c then s.noteBadCell c else (s.bump 7 8 (c / 16384)).noteUncorrectable c
  | _ => (((s.loseTag c).bump 7 8 (c / 16384)).noteUncorrectable c).refreshBuf
/-- A finding in a bank that serves none: it counts against that bank (R216, R219). -/
def State.spareFinding (s : State) (c finding : Nat) : State :=
  match finding with
  | 0 => s
  | 1 => ((s.raiseFault 30 1 0 (c / 16384) c).raiseBits F.BUF_INT_STATUS_ECC_CORR 0 1).bump 7 7 (c / 16384)
  | _ => ((s.raiseFault 30 2 1 (c / 16384) c).raiseBits F.BUF_INT_STATUS_ECC_UNCORR 0 1).bump 7 8 (c / 16384)

/-- BUFFER_SCRUB: the scrubber reads a cell of a physical bank and its tag word, or a 64-byte unit of the control memory, and finds them clean,
corrected, or uncorrectable in the cell or in the tag word (R216, R219). -/
def execBufferScrub (word : ScrubWord) (finding : Fin 4) (s : State) : Host.Outcome State Fault Refusal :=
  .next (s.when (s.live && s.on F.BUF_SCRUB_CTRL_ENABLE) (fun s =>
    match word with
    | .control u => s.ctlFinding u.val finding.val
    | .cell c => match s.logicalBank (c.val / 16384) with
      | some b => s.cellFinding (16384 * b + c.val % 16384) finding.val
      | none => s.spareFinding c.val finding.val))

/-! ### The start of the buffer (R220) -/

/-- INIT_DONE: the bank test ends with the banks it found failing, the bitmaps, tags and counts are clear, and the tables
are initialised (R191, R220). After SYSRST_N no bank test runs (DEDUCED, log 28). -/
def execInitDone (failing : List (Fin 64)) (s : State) : Host.Outcome State Fault Refusal :=
  .next (s.when (s.live && s.on F.TIM_STATUS_RUN && !s.on F.BUF_STATUS_INIT_DONE) (fun s =>
    let bad := if s.on F.SYS_BOOT_STATUS_BUF_INIT then [] else failing.map (fun x => x.val)
    let s := s.setBuf (fun b => { b with spares := b.spares.filter (fun x => !bad.contains x) })
    let s := (bad.filter (fun b => b < 60)).dedup.foldl (fun s b =>
      match s.buf.spares with
      | sp :: rest => ((((s.setBuf (fun x => { x with spares := rest, bankMap := x.bankMap.put b sp b })).raiseBits
          F.BUF_INT_STATUS_SPARE_USED 0 1).raiseFault 30 4 2 b 0).bump 7 9).eventRec 7 b s.now 6 b s.now s.now
      | [] => s.retireBank b) s
    (((s.wr F.BUF_STATUS_INIT_DONE 0 1).wr F.SYS_BOOT_STATUS_BUF_INIT 0 1).refreshBuf).showBank))

end Sys2Proof.Machine
end

