-- ==== Sys2Proof/Machine/Check.lean ====
section
/-! DEFINITION. The Check Engines (R416 to R420). -/

namespace Sys2Proof.Machine

/-- R417: a seat may write an engine: the one of OWNER.SEAT, of engines 2 to 15. -/
def State.ownsEngine (s : State) (seat e : Nat) : Bool := !s.on F.CHK_OWNER_DRAFEN e && s.rd F.CHK_OWNER_SEAT e == seat

/-- Bytes of the result of ALG (R419). -/
def crcBytes (alg : Nat) : Nat := crcWidth alg / 8
/-- A CRC in BYTE_ORDER (R419). -/
def crcPlaced (alg order v : Nat) : Bytes := if order = 0 then be (crcBytes alg) v else le (crcBytes alg) v

def State.flow (s : State) (e : Nat) : Option Flow := s.chk.find? (fun f => f.engine == e)
def State.setFlow (s : State) (f : Flow) : State := { s with chk := f :: s.chk.filter (fun x => x.engine != f.engine) }
/-- A flow ends without output: its buffer is free (R418, R419). -/
def State.endFlow (s : State) (e : Nat) : State :=
  match s.flow e with
  | none => s
  | some f =>
    let s := match f.buf with | some b => s.ctlFree b.pool b.place (0x10 + e) | none => s
    ({ s with chk := s.chk.filter (fun x => x.engine != e) }).wr F.CHK_OUT_LEFT_BYTES e 0

/-- The output buffer of a waiting flow (R418 step 2). -/
def State.grantFlow (s : State) (e : Nat) : State :=
  match s.flow e with
  | none => s
  | some f =>
    match s.ctlAlloc (s.rd F.CHK_LEN_BYTES e + 8) (0x10 + e) with
    | (s, some b) => (s.setFlow { f with buf := some b }).wr F.CHK_STATUS_WAIT_BUF e 0
    | (s, none) => s

/-- START (R418 to R420): with the low bits of CTRL written with it. -/
def State.chkStart (s : State) (e ctrl : Nat) : Except Status State := do
  need (!s.on F.CHK_STATUS_ACTIVE e) .busy
  let alg := bits ctrl 1 0
  let mode := if bits ctrl 3 2 = 3 then 0 else bits ctrl 3 2
  let len := s.rd F.CHK_LEN_BYTES e
  need (len != 0 && (mode != 2 || decide (crcBytes alg < len))) .badAddress
  let s := s.endFlow e
  let s := (((s.wr F.CHK_CTRL_ALG e alg).wr F.CHK_CTRL_MODE e mode).wr F.CHK_CTRL_BYTE_ORDER e (b2n (bit ctrl 4))).wr F.CHK_CTRL_RESUME e
    (b2n (bit ctrl 5))
  let v := if bit ctrl 5 then s.rd2 F.CHK_VALUE_LO_VALUE F.CHK_VALUE_HI_VALUE e % 2 ^ crcWidth alg else crcInit alg
  let s := s.wr2 F.CHK_VALUE_LO_VALUE F.CHK_VALUE_HI_VALUE e v
  let s := ((((s.wr F.CHK_STATUS_ACTIVE e 1).wr F.CHK_STATUS_DONE e 0).wr F.CHK_STATUS_CHECK_OK e 0).wr F.CHK_STATUS_CHECK_FAIL e 0).wr
    F.CHK_STATUS_FED e 0
  let s := (s.setFlow ⟨e, v, [], [], none⟩).bump 15 9 e
  pure (if mode = 0 then s else (s.wr F.CHK_STATUS_WAIT_BUF e 1).grantFlow e)

/-- LEN bytes have been fed (R418 step 4, R419). -/
def State.chkEnd (s : State) (e : Nat) (f : Flow) : State :=
  let alg := s.rd F.CHK_CTRL_ALG e
  let mode := s.rd F.CHK_CTRL_MODE e
  let order := s.rd F.CHK_CTRL_BYTE_ORDER e
  let w := crcBytes alg
  let s := ((s.wr F.CHK_STATUS_ACTIVE e 0).wr F.CHK_STATUS_DONE e 1).raiseBits F.CHK_INT_STATUS_DONE 0 (2 ^ e)
  if mode = 2 then
    let n := f.input.length - w
    let s := (s.setFlow { f with out := f.input.take n }).wr F.CHK_OUT_LEFT_BYTES e n
    if crcPlaced alg order (crcFinal alg (crcStep alg f.start (f.input.take n))) = f.input.drop n then s.wr F.CHK_STATUS_CHECK_OK e 1
    else ((s.wr F.CHK_STATUS_CHECK_FAIL e 1).raiseBits F.CHK_INT_STATUS_CHECK_FAIL 0 (2 ^ e)).bump 15 10
  else
    let v := crcFinal alg (s.rd2 F.CHK_VALUE_LO_VALUE F.CHK_VALUE_HI_VALUE e)
    let s := s.wr2 F.CHK_RESULT_LO_VALUE F.CHK_RESULT_HI_VALUE e v
    if mode = 0 then { s with chk := s.chk.filter (fun x => x.engine != e) }
    else (s.setFlow { f with out := f.input ++ crcPlaced alg order v }).wr F.CHK_OUT_LEFT_BYTES e (f.input.length + w)

/-- A write of DATA (R418 step 3). -/
def State.chkData (s : State) (e word : Nat) : Except Status State := do
  need (!s.on F.CHK_STATUS_WAIT_BUF e) .busy
  need (s.on F.CHK_STATUS_ACTIVE e) .notPermitted
  match s.flow e with
  | none => .error .notPermitted
  | some f =>
    let alg := s.rd F.CHK_CTRL_ALG e
    let len := s.rd F.CHK_LEN_BYTES e
    let b := (be 4 word).take (min 4 (len - f.input.length))
    let f := { f with input := f.input ++ b }
    let s := s.wr2 F.CHK_VALUE_LO_VALUE F.CHK_VALUE_HI_VALUE e (crcStep alg (s.rd2 F.CHK_VALUE_LO_VALUE F.CHK_VALUE_HI_VALUE e) b)
    let s := (s.setFlow f).wr F.CHK_STATUS_FED e f.input.length
    pure (if len ≤ f.input.length then s.chkEnd e f else s)

/-- ABORT (R418). -/
def State.chkAbort (s : State) (e : Nat) : State :=
  ((s.endFlow e).wr F.CHK_STATUS_ACTIVE e 0).wr F.CHK_STATUS_WAIT_BUF e 0

/-- A read of OUT: the next 4 output bytes are returned and removed; the read that empties it frees the buffer (R419). -/
def State.chkOutRead (s : State) (e : Nat) : Nat × State :=
  match s.flow e with
  | none => (0, s)
  | some f =>
    if s.on F.CHK_STATUS_ACTIVE e ∨ f.out = [] then (0, s)
    else
      let b := f.out.take 4
      let rest := f.out.drop 4
      let s := if rest = [] then s.endFlow e else (s.setFlow { f with out := rest }).wr F.CHK_OUT_LEFT_BYTES e rest.length
      (beNat (b ++ zeros (4 - b.length)), s)

def execChkBufGranted (engine : Fin 16) (s : State) : Host.Outcome State Fault Refusal :=
  .next (s.when (s.live && s.on F.CHK_STATUS_WAIT_BUF engine.val) (fun s => s.grantFlow engine.val))
def execChkOutRead (seat : Fin 4) (engine : Fin 16) (s : State) : Host.Outcome State Fault Refusal :=
  .next (s.whenLive (fun s =>
    let _ := seat
    let (v, s) := s.chkOutRead engine.val
    s.answer .ok [v]))

end Sys2Proof.Machine
end

