-- ==== Sys2Proof/Machine/Reply.lean ====
section
/-! DEFINITION. Commands in flight and their replies (R428, R434 to R443): acceptance, the checks of a packet, the layout
and the placing of a reply, and notices (R450). -/

namespace Sys2Proof.Machine

def State.setCmd (s : State) (f : Cmd → Cmd) : State := { s with cmd := f s.cmd }
def State.setSeat (s : State) (e : Nat) (f : Seat → Seat) : State := s.setCmd (fun c => { c with seats := upd c.seats e f })
def State.seat (s : State) (e : Nat) : Seat := nth s.cmd.seats e {}

/-- Drafen runs its image on an active core and takes commands (R471, R472). -/
def State.ready (s : State) : Bool :=
  s.live && s.on F.CMD_CORE_STATUS_READY && (s.rd F.CMD_CORE_STATUS_CORE0 == 0 || s.rd F.CMD_CORE_STATUS_CORE1 == 0)

/-! ### MSI-X (R426) -/

/-- Reset of a word of the MSI-X table: every vector is masked (DEDUCED, log 23). -/
def msixReset (i : Nat) : Nat := if i % 4 = 3 then 1 else 0
/-- A vector fires: its message leaves, or its pending bit is set while it is masked (DEDUCED, log 23). -/
def State.fireMsix (s : State) (e vec : Nat) : State :=
  if bit ((s.seat e).vectors.get (4 * vec + 3) (msixReset (4 * vec + 3))) 0 then
    s.setSeat e (fun x => { x with msix := x.msix ||| 2 ^ vec })
  else s

/-! ### Words (R435, R437, R438) -/

/-- The bytes of words, most significant byte of each word first (R437). -/
def wordBytes (w : List Nat) : Bytes := w.flatMap (fun x => be 4 x)
/-- The words with their CRC after them (R437). -/
def sealed (w : List Nat) : List Nat := w ++ [crcOf 1 (wordBytes w)]

/-- R438: the words of a reply. -/
def replyWords (op status tag seat txn : Nat) (dup notice : Bool) (tick : Nat) (data : List Nat) : List Nat :=
  sealed ([op * 2 ^ 24 + status * 2 ^ 16 + (data.length + 5), tag * 2 ^ 22 + seat * 2 ^ 20 + txn * 2 ^ 8 + b2n dup + 2 * b2n notice,
    tick % 2 ^ 32, tick / 2 ^ 32] ++ data)

/-- The words of a command packet (R435). -/
def packetWords (p : Packet) : List Nat :=
  sealed ([p.opcode.toNat * 2 ^ 24 + p.flags.toNat * 2 ^ 16 + (p.data.length + 5),
    p.tag.toNat * 2 ^ 22 + p.seat.val * 2 ^ 20 + p.txn.toNat * 2 ^ 8, p.address.toNat, p.parameter.toNat]
    ++ p.data.map (fun w => w.toNat))

/-- The registers that show a seat's FIFOs, tags and transactions (R455). -/
def State.showSeat (s : State) (e : Nat) : State :=
  let x := s.seat e
  let open' := fun (t : Txn) => !t.implicit
  (((((s.wr F.CMD_SEAT_FIFO_CMD_SPACE e (1024 - x.cmdFifo.length)).wr F.CMD_SEAT_FIFO_REPLY_WORDS e x.replyFifo.length).wr
    F.CMD_SEAT_TAGS_IN_FLIGHT e (s.cmd.flights.filter (fun f => f.packet.sender.val == e)).length).wr
    F.CMD_SEAT_TXN_OPEN e (s.cmd.txns.filter (fun t => open' t && t.seat == e)).length).wr
    F.CMD_TXN_STATUS_OPEN 0 (s.cmd.txns.filter open').length)

/-! ### Placing a reply -/

/-- The MAX_LEN of the port by which an in-band reply leaves bounds it (R434). -/
def inbandFits (s : State) (port : Nat) (words : List Nat) (tagged : Bool) : Bool :=
  decide (14 + (if tagged then 4 else 0) + 4 * words.length + 4 ≤ s.rd F.MAC_PORT_CFG_MAX_LEN port)

/-- The frame of an in-band reply (R434). -/
def State.inbandFrame (s : State) (src : Nat) (tag : Option Nat) (words : List Nat) : Bytes :=
  let b := be 6 src ++ be 6 (s.rd2 F.CMD_INBAND_MAC_LO_VALUE F.CMD_INBAND_MAC_HI_VALUE)
    ++ (match tag with | some t => be 4 t | none => []) ++ be 2 0x88B6 ++ wordBytes words
  let b := b ++ zeros (60 - b.length)
  b ++ fcsOf b

/-- The Reply FIFO of a seat has room for `n` words, and nothing waits for it already (R428, R443). -/
def State.fifoRoom (s : State) (e n : Nat) : Bool :=
  (s.seat e).late.isEmpty && decide ((s.seat e).replyFifo.length + n ≤ 1024)

/-- Words placed in a seat's Reply FIFO, whole and in one tick, which MSI-X vector 0 reports (R428, R431). -/
def State.placeWords (s : State) (e : Nat) (words : List Nat) : State :=
  ((s.setSeat e (fun x => { x with replyFifo := x.replyFifo ++ words })).fireMsix e 0).showSeat e

/-- What waited for room is placed in its order, as far as the room goes (R428) (DEDUCED, log 22). -/
def State.placeFrom (s : State) (e : Nat) : List (List Nat) → State
  | [] => s.setSeat e (fun x => { x with late := [] })
  | l :: rest =>
    if (s.seat e).replyFifo.length + l.length ≤ 1024 then (s.placeWords e l).placeFrom e rest
    else s.setSeat e (fun x => { x with late := l :: rest })
/-- What waits for room in a seat's Reply FIFO, if anything does, at a boundary (R428) (DEDUCED, log 22). -/
def State.placeLate (s : State) (e : Nat) : State :=
  if (s.seat e).late.isEmpty then s else s.placeFrom e (s.seat e).late

/-- A reply goes to its seat's Reply FIFO, whole and in one tick (R428), or leaves in a frame (R434) (DEDUCED, log 22). -/
def State.place (s : State) (origin : Origin) (e : Nat) (words : List Nat) : State :=
  match origin with
  | .lost => s
  | .window =>
    if s.fifoRoom e words.length then s.placeWords e words
    else s.setSeat e (fun x => { x with late := x.late ++ [words] })
  | .inband port src tag =>
    let words :=
      if inbandFits s port words tag.isSome then words
      else
        let w0 := words.getD 0 0
        sealed [w0 / 2 ^ 24 * 2 ^ 24 + 3 * 2 ^ 16 + 5, words.getD 1 0, words.getD 2 0, words.getD 3 0]
    let f := s.ownFrame port (s.inbandFrame src tag words)
    let c : Copy := { f.whole with egr := port, queue := s.rd F.CMD_INBAND_CFG_QUEUE, admitted := s.now }
    let s := s.setCmd (fun c => { c with inbandReplies := c.inbandReplies ++ [(port, words)] })
    (s.setFwd (fun w => { w with nextFrame := w.nextFrame + 1 })).admitOwn c

/-- What a command answers beside its status: data words, and the transaction ID of word 1. -/
structure Answer where
  data : List Nat := []
  txn : Option Nat := none
  dup : Bool := false
  tick : Option Nat := none

/-- The reply of a packet (R436, R438): none of a posted command with status OK. -/
def State.replyTo (s : State) (p : Packet) (origin : Origin) (st : Status) (a : Answer) : State :=
  let s := s.bump 16 1 (st.code * 256 + p.opcode.toNat)
  if bit p.flags.toNat 0 ∧ st = .ok then s.showSeat p.sender.val
  else s.place origin p.sender.val (replyWords p.opcode.toNat st.code p.tag.toNat p.seat.val (a.txn.getD p.txn.toNat) a.dup false
    (a.tick.getD s.now) a.data)

/-- The flight of a packet. -/
def State.flightOf (s : State) (p : Packet) : Option Flight := s.cmd.flights.find? (fun f => f.packet == p)

/-- A command in flight ends (R442): its tag is free, and its reply is placed. -/
def State.finish (s : State) (p : Packet) (st : Status) (a : Answer := {}) : State :=
  let origin := ((s.flightOf p).map (fun f => f.origin)).getD .window
  (((s.setCmd (fun c => { c with flights := c.flights.filter (fun f => f.packet != p) })).replyTo p origin st a).answer st a.data).showSeat
    p.sender.val

/-- A notice (R450): the opcode and tag of the command whose reply it follows. -/
def State.notice (s : State) (p : Packet) (origin : Origin) (st : Status) (tick : Nat) : State :=
  let s := (s.bump 16 11).place origin p.sender.val
    (replyWords p.opcode.toNat st.code p.tag.toNat p.seat.val p.txn.toNat false true tick [])
  if origin = .window then s.fireMsix p.sender.val 1 else s

/-! ### Acceptance (R436, R439, R441, R442) -/

/-- The data words of an opcode and whether it takes a TXN_ID: 0 no, 1 allowed, 2 required; for table opcodes both are
judged with the table (R439). -/
def opForm (op : Nat) : Option (Nat × Nat × Nat) :=
  match op with
  | 0x01 => some (0, 0, 0) | 0x02 => some (1, 1, 1) | 0x03 => some (0, 0, 0) | 0x04 => some (1, 1019, 1)
  | 0x10 => some (0, 0, 0) | 0x11 => some (0, 0, 2) | 0x12 => some (0, 0, 2) | 0x13 => some (3, 3, 2)
  | 0x20 => some (0, 1019, 1) | 0x21 => some (0, 1019, 1) | 0x22 => some (0, 1019, 0) | 0x23 => some (0, 0, 0)
  | 0x30 => some (7, 7, 0) | 0x31 => some (0, 0, 0) | 0x40 => some (0, 0, 0) | 0x41 => some (5, 5, 0)
  | 0x42 => some (7, 7, 0) | 0x50 => some (8, 8, 0) | 0x60 => some (0, 0, 0) | 0x70 => some (0, 1019, 0)
  | _ => none

/-- Opcodes whose reply carries data may not be posted (R436). -/
def opReplies (op : Nat) : Bool := [0x01, 0x03, 0x10, 0x11, 0x13, 0x22, 0x23, 0x30, 0x40, 0x42, 0x50, 0x60, 0x70].contains op

/-- The data words of TABLE_INSERT, TABLE_DELETE and TABLE_LOOKUP of each table (R149, R153, R176, R184, R185, R187, R188, R238, R239,
R241); none where the table takes the opcode in no form, and its refusal is told later. -/
def tableForm (table op : Nat) : Option Nat :=
  let l := match table with
    | 0x01 => [4, 3, 3] | 0x02 => [6, 5, 5] | 0x03 => [6, 5, 5] | 0x04 => [1, 0, 0] | 0x05 => [1, 0, 0] | 0x06 => [1, 0, 0]
    | 0x10 => [24, 0, 10] | 0x20 => [5, 0, 0] | 0x21 => [2, 0, 0] | 0x22 => [2, 0, 0] | 0x23 => [5, 0, 0]
    | _ => []
  if table = 0x11 ∨ table = 0x24 then (if op = 0x20 then none else some 0) else l[op - 0x20]?

/-- R436, R439: opcode and form. -/
def packetForm (p : Packet) : Bool :=
  match opForm p.opcode.toNat with
  | none => false
  | some (lo, hi, t) =>
    decide (p.flags.toNat < 8) && decide (lo ≤ p.data.length) && decide (p.data.length ≤ hi)
      && (!(decide (0x20 ≤ p.opcode.toNat) && decide (p.opcode.toNat ≤ 0x22))
        || (match tableForm (p.address.toNat / 2 ^ 24) p.opcode.toNat with | some n => p.data.length == n | none => true))
      && !(bit p.flags.toNat 0 && opReplies p.opcode.toNat)
      && (t == 1 || (t == 0 && p.txn.toNat == 0) || (t == 2 && p.txn.toNat != 0))

/-- The same as `need`, with DUP beside the status. -/
def need' (b : Bool) (e : Status × Bool) : Except (Status × Bool) Unit := if b then .ok () else .error e

/-- A packet comes to Drafen (R441, R442): the checks of form, seat field and tags; it is then in flight. -/
def State.acceptPacket (s : State) (p : Packet) (origin : Origin) : Except (Status × Bool) State := do
  need' (packetForm p) (Status.badOpcode, false)
  need' (p.seat == p.sender) (Status.notOwner, false)
  let mine := s.cmd.flights.filter (fun f => f.packet.sender == p.sender)
  need' (!mine.any (fun f => f.packet.tag == p.tag)) (Status.busy, true)
  need' (decide (mine.length < s.rd F.CMD_SEAT_TAGS_TAG_QUOTA p.sender.val)) (Status.tagsExhausted, false)
  pure ((s.setCmd (fun c => { c with
    flights := c.flights ++ [⟨p, origin, c.nextSeqNo, false⟩], nextSeqNo := c.nextSeqNo + 1 })).showSeat p.sender.val)

/-- A packet refused at acceptance is answered at once (DEDUCED, log 22). -/
def State.refusePacket (s : State) (p : Packet) (origin : Origin) (e : Status × Bool) : State :=
  let s := if e.2 then s.bump 16 6 else s
  (s.replyTo p origin e.1 { dup := e.2 }).answer e.1

/-- The words of one entry in a reply of TABLE_DUMP, at most (DEDUCED, log 24). -/
def entryWidth (t : Nat) : Nat :=
  match t with
  | 0x01 => 6 | 0x02 => 8 | 0x03 => 6 | 0x10 => 24 | 0x11 => 15 | 0x20 => 5 | 0x21 => 2 | 0x22 => 3 | 0x23 => 8 | 0x24 => 5 | _ => 1
/-- The data words of the longest reply of a command that names a table (R443). -/
def tableReply (p : Packet) (dump : Bool) : Nat :=
  let t := p.address.toNat / 2 ^ 24
  if dump then min 1019 (2 + p.parameter.toNat * entryWidth t)
  else if t = 1 ∨ t = 2 then 3 else if t = 3 ∨ t = 0x10 then 1 else entryWidth t
/-- Words of the longest reply of a command (R443); a count that READ_BLOCK refuses brings none. -/
def longestReply (p : Packet) : Nat :=
  5 + (match p.opcode.toNat with
    | 0x01 => 1 | 0x03 => (if p.parameter.toNat ≤ 1019 then p.parameter.toNat else 0) | 0x02 => 1 | 0x04 => 1 | 0x11 => 2 | 0x12 => 2
    | 0x13 => 1 | 0x20 => 1 | 0x21 => 1 | 0x22 => tableReply p false | 0x23 => tableReply p true | 0x30 => 1
    | 0x31 => 2 | 0x40 => 2 | 0x42 => 4 | 0x50 => 98 | 0x70 => p.data.length | _ => 0)

/-- Two commands touch the same register word or table entry (R443). -/
def packetsTouch (p q : Packet) : Bool :=
  let regs := fun (x : Packet) => match x.opcode.toNat with
    | 1 => some (x.address.toNat, 1) | 2 => some (x.address.toNat, 1)
    | 3 => some (x.address.toNat, x.parameter.toNat) | 4 => some (x.address.toNat, x.data.length) | _ => none
  let isTab := fun (x : Packet) => decide (0x20 ≤ x.opcode.toNat) && decide (x.opcode.toNat ≤ 0x23)
  let t := p.address.toNat / 2 ^ 24
  let count := fun (x : Packet) => if x.opcode = 0x23 then x.parameter.toNat else 1
  let at' := fun (x : Packet) => x.address.toNat % 2 ^ 24
  let key := fun (x : Packet) =>
    if x.opcode = 0x23 ∨ (t = 3 ∧ x.opcode = 0x22) then none
    else some (((x.data.map (fun w => w.toNat)).getD 0 0 % 2 ^ 30) :: ((x.data.map (fun w => w.toNat)).drop 1).take (if t = 1 then 2 else 4))
  match regs p, regs q with
  | some (a, n), some (b, m) => decide (a < b + 4 * m) && decide (b < a + 4 * n)
  | _, _ =>
    isTab p && isTab q && t == q.address.toNat / 2 ^ 24
      && (if 1 ≤ t ∧ t ≤ 3 then (key p).isNone || (key q).isNone || key p == key q
          else (t == 0x10 && (p.opcode == 0x22 || q.opcode == 0x22))
            || (decide (at' p < at' q + count q) && decide (at' q < at' p + count p)))

/-- R436, R443: the command may start: every earlier command of its seat has started and none stands in its way, and its reply has room. -/
def State.mayStart (s : State) (f : Flight) : Bool :=
  let p := f.packet
  s.cmd.flights.all (fun g =>
    !(g.packet.sender == p.sender && decide (g.seqNo < f.seqNo)) || (g.parked && !(bit p.flags.toNat 2 || packetsTouch p g.packet)))
    && (f.origin != .window || s.fifoRoom p.sender.val (longestReply p))

/-- What executing a command comes to: a refusal, an answer at once, or an answer that follows. -/
inductive Done
  | refuse (st : Status) (a : Answer)
  | ok (t : State) (st : Status) (a : Answer)
  | wait (t : State)

/-- The command of a packet row: one in flight is executed when it may start; another is accepted first. The view it is judged by is
that after class 3 of the tick (R31, R35). -/
def State.command (s : State) (p : Packet) (opcode : Nat) (body : State → Packet → Done) : State :=
  s.inside (if !s.ready then s
  else
    let s := s.classThree
    let p := { p with opcode := BitVec.ofNat 8 opcode }
    let accepted : Except (Status × Bool) State := match s.flightOf p with
      | some _ => .ok s
      | none => s.acceptPacket p .window
    match accepted with
    | .error e => s.refusePacket p .window e
    | .ok s =>
      match s.flightOf p with
      | some f =>
        if f.parked || !s.mayStart f then s
        else match body s p with
          | .refuse st a => s.finish p st a
          | .ok t st a => t.finish p st a
          | .wait t => t.setCmd (fun c => { c with flights := c.flights.map (fun g => if g.packet = p then { g with parked := true } else g) })
      | none => s)

end Sys2Proof.Machine
end

