-- ==== Sys2Proof/Machine/Counters.lean ====
section
/-! DEFINITION. The counter block (chapter 21): which counter stands at which address, descriptors, permissions and
snapshots. -/

namespace Sys2Proof.Machine

/-- A counter: its group, event (slot or reason in groups 0 to 3), value of INSTANCE, unit, and whether it counts bytes. -/
structure Counter where
  group : Nat
  event : Nat
  inst : Nat
  unit : Nat
  bytes : Bool
deriving DecidableEq, Repr

/-- An item of a chapter's counter paragraph: event code, its INSTANCE values in ascending order, unit (R532). -/
structure CntItem where
  event : Nat
  insts : List Nat
  unit : Nat
deriving DecidableEq, Repr

/-- Items without a value of INSTANCE, event codes lo to hi. -/
def plainItems (unit lo hi : Nat) : List CntItem := (List.range (hi + 1 - lo)).map (fun i => ⟨lo + i, [0], unit⟩)
/-- The numbers lo to hi. -/
def span (lo hi : Nat) : List Nat := (List.range (hi + 1 - lo)).map (fun i => lo + i)

/-- How many causes a fault source has (R477, R503, R525). -/
def causesOf (src : Nat) : Nat :=
  if 11 ≤ src ∧ src ≤ 27 then 4
  else if 33 ≤ src ∧ src ≤ 36 then 6
  else [2, 5, 2, 1, 1, 7, 1, 5, 5, 4, 4].getD src (match src with | 28 => 2 | 29 => 3 | 30 => 6 | 31 => 1 | 32 => 6 | 37 => 1 | 38 => 1 | _ => 0)
/-- Level, cause and source of every fault, in ascending INSTANCE (R532) (DEDUCED, log 30). -/
def faultInsts : List Nat :=
  (List.range 4).flatMap (fun l => (span 1 7).flatMap (fun c =>
    ((List.range 39).filter (fun s => decide (c ≤ causesOf s))).map (fun s => l * 2 ^ 14 + c * 64 + s)))
/-- Status and opcode of every command, in ascending INSTANCE (DEDUCED, log 30). -/
def commandInsts : List Nat :=
  (List.range 14).flatMap (fun st => [0x01, 0x02, 0x03, 0x04, 0x10, 0x11, 0x12, 0x13, 0x20, 0x21, 0x22, 0x23, 0x30, 0x31, 0x40, 0x41,
    0x42, 0x50, 0x60, 0x70].map (fun op => st * 256 + op))

/-- The items of the unit groups 4 to 19 (R532) (DEDUCED, log 30). -/
def cntItems (g : Nat) : List CntItem :=
  match g with
  | 4 => plainItems 1 1 6 ++ plainItems 3 7 11 ++ plainItems 2 12 18
  | 5 => plainItems 5 1 1 ++ plainItems 4 2 3 ++ plainItems 5 4 10
  | 6 => plainItems 6 1 14 ++ [⟨15, [0, 1], 6⟩] ++ plainItems 6 16 17
  | 7 => [⟨1, span 24 30, 7⟩, ⟨2, span 0 3, 7⟩] ++ plainItems 7 3 6 ++ [⟨7, span 0 59, 7⟩, ⟨8, span 0 59, 7⟩] ++ plainItems 7 9 12
  | 8 => [⟨1, span 32 44, 8⟩] ++ plainItems 8 2 7 ++ [⟨8, span 0 1023, 8⟩, ⟨9, span 0 1023, 8⟩, ⟨10, span 0 1023, 8⟩]
  | 9 => [⟨1, span 0 511, 9⟩, ⟨2, span 0 7, 9⟩, ⟨3, span 0 511, 9⟩, ⟨4, span 0 7, 9⟩] ++ plainItems 9 5 8
  | 10 => plainItems 10 1 2 ++ [⟨3, span 0 31, 10⟩, ⟨4, span 0 511, 10⟩] ++ plainItems 10 5 10
  | 11 => [⟨1, span 1 6, 11⟩, ⟨2, span 1 6, 11⟩] ++ plainItems 11 3 9
  | 12 => [⟨1, [1, 2] ++ span 0x10 0x18 ++ [0x20], 12⟩, ⟨2, [2, 3], 12⟩, ⟨3, [0, 1, 4, 5, 6], 12⟩] ++ plainItems 12 4 4
      ++ [⟨5, span 0 6, 12⟩] ++ plainItems 12 6 9
  | 13 => [⟨1, span 0 31, 13⟩, ⟨2, span 0 31, 13⟩] ++ plainItems 13 3 6 ++ [⟨7, span 0 3, 13⟩, ⟨8, span 0 3, 13⟩] ++ plainItems 13 9 12
  | 14 => [⟨1, span 1 4, 14⟩, ⟨2, span 1 4, 14⟩] ++ plainItems 14 3 3 ++ [⟨4, span 0 7, 14⟩] ++ plainItems 14 5 8
      ++ (span 9 13).map (fun e => ⟨e, span 0 511, 14⟩)
  | 15 => [⟨1, span 1 7 ++ span 55 57, 15⟩] ++ plainItems 15 2 8 ++ [⟨9, span 0 15, 16⟩] ++ plainItems 16 10 10
  | 16 => [⟨1, commandInsts, 17⟩] ++ plainItems 17 2 8 ++ [⟨9, span 0 3, 17⟩] ++ plainItems 17 10 11 ++ [⟨12, span 0 3, 17⟩] ++ plainItems 17 13 18
  | 17 => [⟨1, faultInsts, 18⟩] ++ plainItems 18 2 8
  | 18 => plainItems 19 1 5 ++ [⟨6, span 0 6, 19⟩] ++ plainItems 19 7 7 ++ [⟨8, span 0 47, 19⟩]
  | 19 => plainItems 20 1 4
  | _ => []

/-- The i-th counter of a packed list of items. -/
def cntPick (g : Nat) : List CntItem → Nat → Option Counter
  | [], _ => none
  | x :: rest, i => if i < x.insts.length then some ⟨g, x.event, x.insts.getD i 0, x.unit, false⟩ else cntPick g rest (i - x.insts.length)

/-- The group at an offset from 0x0080_0000, and, of groups 0 to 3, the port (R529). -/
def cntGroup (off : Nat) : Nat × Option Nat :=
  if off < 0x40000 then (0, some (off / 0x100))
  else if off < 0x80000 then (1, some ((off - 0x40000) / 0x100))
  else if off < 0x100000 then (2, some ((off - 0x80000) / 0x200))
  else if off < 0x180000 then (3, some ((off - 0x100000) / 0x20 / 16))
  else (4 + (off - 0x180000) / 0x10000, none)

/-- The counter at an offset, a multiple of 8 (R529 to R532) (DEDUCED, log 30). -/
def cntAt (off : Nat) : Option Counter :=
  match cntGroup off with
  | (0, some p) => let i := off % 0x100 / 8; if p < 518 ∧ i < 8 then some ⟨0, i, p, 15, i == 1⟩ else none
  | (1, some p) => let i := off % 0x100 / 8; if p < 518 ∧ i < 8 then some ⟨1, i, p, 15, i == 1⟩ else none
  | (2, some p) =>
    let r := off % 0x200 / 8
    if p < 518 ∧ 1 ≤ r ∧ r ≤ 58 ∧ r ≠ 22 ∧ r ≠ 23 then some ⟨2, r, p, reasonUnit r, false⟩ else none
  | (3, some _) =>
    let q := (off - 0x100000) / 0x20
    let i := off % 0x20 / 8
    if q < 8288 then some ⟨3, i, q, 8, i % 2 == 1⟩ else none
  | (g, _) => cntPick g (cntItems g) ((off - 0x180000) % 0x10000 / 8)

/-- The value of the counter at an offset (R528, R534). -/
def State.cntValue (s : State) (off : Nat) : Nat :=
  match cntAt off with
  | some c => s.count c.group c.event c.inst % 2 ^ 64
  | none => 0

/-- The descriptor of the counter at an offset (R533). -/
def cntDescriptor (off : Nat) : Nat :=
  match cntAt off with
  | some c => c.event + c.inst * 2 ^ 16 + c.group * 2 ^ 32 + c.unit * 2 ^ 40 + b2n c.bytes * 2 ^ 48
  | none => 0

/-- R536: a seat may read a counter. -/
def State.mayCount (s : State) (seat off : Nat) : Bool :=
  let perm := s.rd F.CMD_SEAT_CNT_PERM_GROUPS seat
  let (g, p) := cntGroup off
  seat == 0 || (bit perm g && (match p with | some p => bit perm 31 || s.ownsPort seat p | none => true))

/-! ### Snapshots (R537) -/

/-- A write of TAKE with BASE and COUNT as the group's registers hold them. -/
def State.cntTake (s : State) (seat group : Nat) : Except Status State := do
  need (seat == group) .notOwner
  let base := s.rd F.CNT_SNAP_BASE_BASE group * 8
  let n := s.rd F.CNT_SNAP_CTRL_COUNT_M1 group + 1
  need ((List.range n).all (fun i => s.mayCount seat (base + 8 * i))) .notOwner
  pure (({ s with cntReq := upd s.cntReq group (fun _ => some (s.now, base, n)) } : State).wr F.CNT_SNAP_CTRL_DONE group 0)

/-- The counters as they stood after class 7 of the tick before, into SNAP_DATA. -/
def State.cntCapture (s : State) (g base n : Nat) : State :=
  let s := (List.range n).foldl (fun s i =>
    s.wr2 F.CNT_SNAP_DATA_LO_VALUE F.CNT_SNAP_DATA_HI_VALUE (256 * g + i) (s.cntValue (base + 8 * i))) s
  let s := (s.wr2 F.CNT_SNAP_TICK_LO_VALUE F.CNT_SNAP_TICK_HI_VALUE g s.now).wr F.CNT_SNAP_CTRL_DONE g 1
  { s with cntReq := upd s.cntReq g (fun _ => none) }

/-- CNT_SNAP_CAPTURE: at the boundary after TAKE. -/
def execCntSnapCapture (group : Fin 4) (s : State) : Host.Outcome State Fault Refusal :=
  .next (s.when s.live (fun s =>
    match nth s.cntReq group.val none with
    | some (t, base, n) => if t < s.now then s.cntCapture group.val base n else s
    | none => s))

end Sys2Proof.Machine
end

