-- ==== Sys2Proof/Machine/Evidence.lean ====
section
/-! DEFINITION. The Evidence Recorder (chapter 12): acceptance, loss and aggregation (R318, R319, R332 to R337), blocks and
the chain (R338 to R343), signing (R341), the ring (R345 to R348), and the EVR_ commands and export (R349 to R352). -/

namespace Sys2Proof.Machine

def State.setEvr (s : State) (f : Evr → Evr) : State := { s with evr := f s.evr }
/-- The phase in effect allows self-refresh (R369). -/
def State.srAllowed (s : State) : Bool := bit (s.rd F.MEM_SR_CTRL_PHASES) s.phase
/-- The Recorder writes to Reserve Memory only in flushes (R373). -/
def State.batching (s : State) : Bool := s.srAllowed && s.rd F.MEM_SR_BATCH_BATCH_US != 0
/-- PIN_LIMIT_GIB as it reads back: at most GIB − 8 (R356). -/
def State.clampPins (s : State) : State :=
  s.wr F.EVR_RING_PIN_LIMIT_GIB 0 (min (s.rd F.EVR_RING_PIN_LIMIT_GIB) (s.rd F.EVR_RING_GIB - 8))

/-! ### Staging and the rate cap (R335 to R337) -/

/-- 32 MiB of staging; its last 64 KiB take few kinds (R335). -/
def stagingSize : Nat := 33554432
/-- Kinds that the last 64 KiB of staging take. -/
def vital (kind : Nat) : Bool := kind == 0x10 || kind == 0x11 || kind == 0x12 || kind == 0x20

/-- EVR.STAGING (R356). -/
def State.showStaging (s : State) : State :=
  let k := ceilDiv s.evr.staging 1024
  (s.wr F.EVR_STAGING_USED_KIB 0 k).rcMax F.EVR_STAGING_HWM_KIB 0 k

/-- R336: the cap in force. -/
def State.capEff (s : State) : Nat := min (s.rd F.EVR_PHASE_POL_CAP s.phase) (s.rd F.EVR_CAP_POWER_CAP)

/-- EVR_CAP_REFILL: at every 16th tick (R336). -/
def execEvrCapRefill (s : State) : Host.Outcome State Fault Refusal :=
  .next (s.once 11 (s.live && s.now % 16 == 0) (fun s =>
    (s.setEvr (fun e => { e with bucket := min 262144 (e.bucket + 2 * (s.capEff : Int)) })).wr F.EVR_CAP_CAP_EFF 0 s.capEff))

/-! ### Losses (R333, R334) -/

/-- A record that is due is not written. -/
def State.loseRecord (s : State) (cause : Nat) (r : Record) : State :=
  let open' := s.evr.gaps.any (fun g => g.cause == cause)
  let s := s.setEvr (fun e => { e with gaps := addLoss cause s.now r e.gaps })
  let s := if cause = 2 ∨ cause = 3 then s.bump 12 2 cause else s.bump 12 3 cause
  if cause = 0 ∨ cause = 1 ∨ cause = 6 then
    let s := (s.raiseBits F.EVR_INT_STATUS_GAP 0 1).wr F.EVR_STATUS_GAP_OPEN 0 1
    if cause = 0 ∧ !open' then s.raiseFault 32 1 1 0 0 else s
  else s

/-- The GAP record of a loss (R333). -/
def State.gapRecord (s : State) (g : Gap) : Record :=
  let body := be 1 g.cause ++ zeros 7 ++ be 8 g.last ++ be 8 g.frames ++ be 8 g.other ++ be 8 g.bytes ++ be 8 g.d0 ++ be 8 g.d1 ++ zeros 8
  s.mkRecord 0x20 12 0 g.first 0 body

/-- A loss of cause 0, 1 or 6 whose GAP record has not been accepted (R334). -/
def State.gapOpen (s : State) : Bool :=
  let open' := fun (c : Nat) => c == 0 || c == 1 || c == 6
  s.evr.gaps.any (fun g => open' g.cause) || s.evr.own.any (fun r => r.kind == 0x20 && open' (byteAt r.body 0))
/-- GAP_OPEN while a loss of cause 0, 1 or 6 has no record yet (R334, R356). -/
def State.showGap (s : State) : State :=
  s.wr F.EVR_STATUS_GAP_OPEN 0 (b2n s.gapOpen)

/-! ### Acceptance (R319) -/

/-- A record joins the open block, or waits for the genesis block (R353). -/
def State.enter (s : State) (r : Record) : State :=
  match s.evr.opened with
  | none => s.setEvr (fun e => { e with early := e.early ++ [r] })
  | some b => s.setEvr (fun e => { e with opened := some { b with records := b.records ++ [r] } })
/-- The open block whose first record, a TIME_STATE of its opening tick, takes the cause of another TIME_STATE of that tick (R324). -/
def State.firstTakes (s : State) (r : Record) : Option OpenBlock :=
  s.evr.opened.filter (fun b => r.kind == 0x10 && r.tick == b.openTick && b.records.head?.any (fun first => first.tick == b.openTick))

/-- An accepted record is staged, counted and paid for (R335, R336). A TIME_STATE of an event in the opening tick of the block is no second
record: the block's first carries its cause (R324). -/
def State.takeRecord (s : State) (r : Record) : State :=
  let r := { r with handed := s.now }
  match s.firstTakes r with
  | some b => s.when (b.records.head?.all (fun first => byteAt first.body 39 == 0))
      (fun s => s.setEvr (fun e => { e with opened := some { b with records := r :: b.records.tail } }))
  | none =>
    let s := s.enter r
    (s.setEvr (fun e => { e with
      staging := e.staging + r.bytes, stagedAt := e.stagedAt ++ [(s.now, r.bytes)], bucket := e.bucket - (r.bytes : Int),
      acceptedBytes := e.acceptedBytes + r.bytes })).bump 12 1 r.kind

/-- A record meets staging (R335, R353). -/
def State.stage (s : State) (r : Record) : State :=
  let limit := if vital r.kind then stagingSize else stagingSize - 65536
  if limit < s.evr.staging + r.bytes then s.loseRecord (if s.evr.opened.isNone then 6 else 0) r else s.takeRecord r

/-- R332, R337: a drop joins the window of its port and reason. -/
def aggJoin (w : Nat) (port reason : Nat) (r : Record) : List AggWindow → List AggWindow
  | [] => [⟨port, reason, w, 1, r.tick, r.sub, r.tick, r.sub⟩]
  | a :: rest =>
    if a.ingPort = port ∧ a.reason = reason ∧ a.window = w then
      let lower := decide (r.tick < a.minTick) || (r.tick == a.minTick && decide (r.sub < a.minSub))
      let higher := decide (a.maxTick < r.tick) || (r.tick == a.maxTick && decide (a.maxSub < r.sub))
      { a with count := a.count + 1, minTick := if lower then r.tick else a.minTick, minSub := if lower then r.sub else a.minSub,
               maxTick := if higher then r.tick else a.maxTick, maxSub := if higher then r.sub else a.maxSub } :: rest
    else a :: aggJoin w port reason r rest

/-- One record at the Recorder (R335 to R337). -/
def State.judge (s : State) (r : Record) : State :=
  let agg := s.on F.EVR_STATUS_AGGREGATING
  match r.drop with
  | some (port, reason) =>
    if agg then s.setEvr (fun e => { e with agg := aggJoin (r.handed / 800) port reason r e.agg }) else s.stage r
  | none =>
    if r.kind = 0x20 then (s.takeRecord r).showGap
    else if r.kind = 0x18 then (s.stage r).bump 12 4
    else if r.optional ∧ agg then s.loseRecord 3 r
    else if r.optional ∧ s.evr.bucket < 0 then s.loseRecord 2 r
    else s.stage r

/-- The AGG record of a window that has ended (R332). -/
def State.aggRecord (s : State) (a : AggWindow) : Record :=
  s.mkRecord 0x18 (reasonUnit a.reason) a.ingPort a.minTick a.minSub
    (be 2 a.ingPort ++ be 2 a.reason ++ be 1 4 ++ zeros 3 ++ be 8 a.count ++ be 8 a.maxTick ++ be 1 a.maxSub ++ zeros 7)

/-- The order of R319: earlier ticks first, then ascending SOURCE. -/
def Record.before (a b : Record) : Bool :=
  decide (a.handed < b.handed) || (a.handed == b.handed && decide (a.unit * 1024 + a.inst ≤ b.unit * 1024 + b.inst))

/-- Records are taken in order while the tick's 16 KiB last. -/
def State.acceptAll (s : State) : Nat → List Record → State
  | 0, _ => s
  | _ + 1, [] => s
  | fuel + 1, r :: rest =>
    if 16384 < s.evr.acceptedBytes + r.bytes then s
    else State.acceptAll ((s.setEvr (fun e => { e with taps := e.taps.erase r, own := e.own.erase r })).judge r) fuel rest

/-- R337: aggregation starts and ends by what staging holds. -/
def State.aggSwitch (s : State) : State :=
  let pct := fun (n : Nat) => stagingSize * n / 100
  if s.on F.EVR_STATUS_AGGREGATING then
    if s.evr.staging ≤ pct (s.rd F.EVR_STAGING_CFG_AGG_OFF_PCT) then s.wr F.EVR_STATUS_AGGREGATING 0 0 else s
  else if pct (s.rd F.EVR_STAGING_CFG_AGG_ON_PCT) ≤ s.evr.staging then
    (((s.wr F.EVR_STATUS_AGGREGATING 0 1).raiseBits F.EVR_INT_STATUS_AGG_ON 0 1).raiseFault 32 2 0 0 0).setEvr
      (fun e => { e with opened := e.opened.map (fun b => { b with aggregating := true }) })
  else s

/-- R334: a loss has ended. -/
def State.lossEnded (s : State) (g : Gap) : Bool :=
  decide (g.last < s.now) && s.evr.opened.isSome &&
    (match g.cause with
     | 2 => decide (0 ≤ s.evr.bucket)
     | 3 => !s.on F.EVR_STATUS_AGGREGATING
     | 0 => decide (s.evr.staging < stagingSize - 65536)
     | _ => true)

/-- The losses that satisfy a test have their GAP records, which wait to be accepted. -/
def State.endGaps (s : State) (p : Gap → Bool) : State :=
  let done := (s.evr.gaps.filter p).map s.gapRecord
  s.setEvr (fun e => { e with gaps := e.gaps.filter (fun g => !p g), own := e.own ++ done })
/-- The same, and every GAP record that waits is accepted. -/
def State.closeGaps (s : State) (p : Gap → Bool) : State :=
  let s := s.endGaps p
  let done := s.evr.own.filter (fun r => r.kind == 0x20)
  (done.foldl State.takeRecord (s.setEvr (fun e => { e with own := e.own.filter (fun r => r.kind != 0x20) }))).showGap

/-- Bytes of the open block's body. -/
def OpenBlock.bodyBytes (b : OpenBlock) : Nat := sumOf b.records Record.bytes

/-! ### The ring (R345, R346, R338 cause 6) -/

def State.ringSize (s : State) : Nat := s.rd F.EVR_RING_GIB * 2 ^ 30
/-- A block that may not leave the ring: pinned, or in the range of a running export (R347, R350). -/
def State.heldBlock (s : State) (b : SealedBlock) : Bool :=
  b.pinned || (match s.evr.exporting with | some x => decide (x.first ≤ b.no) && decide (b.no ≤ x.last) | none => false)
/-- The unpinned space ahead of the write pointer; none while no block is held. -/
def State.spaceAhead (s : State) : Option Nat :=
  let size := max 1 s.ringSize
  (s.evr.blocks.filter s.heldBlock).foldl (fun m b =>
    let d := (b.place + size - s.evr.writePtr % size) % size
    match m with
    | none => some d
    | some x => some (min x d)) none

/-- A block is due to seal at the next boundary for what this tick brought (R338, causes 5 and 6). -/
def State.askSeals (s : State) : State :=
  match s.evr.opened with
  | none => s
  | some b =>
    let ask := fun (s : State) (c : Nat) =>
      if s.evr.sealReq.any (fun x => x.1 == c) then s else s.setEvr (fun e => { e with sealReq := e.sealReq ++ [(c, s.now + 1)] })
    let s := if 67108864 - 65536 ≤ b.bodyBytes then ask s 5 else s
    match s.spaceAhead with
    | some d => if d ≤ 65536 + 256 + b.bodyBytes then ask s 6 else s
    | none => s

/-! ### Blocks (R338 to R340) -/

/-- The capture policy in force: SEL[0] to SEL[15] and PHASE_POL of the phase (R339). -/
def State.policyWords (s : State) : List Nat :=
  (List.range 16).map (fun n => s.rd F.EVR_SEL_MODE n + 4 * s.rd F.EVR_SEL_HEAD_128 n + 8 * s.rd F.EVR_SEL_ONE_PER_FRAME n)
    ++ [s.rd F.EVR_PHASE_POL_SEL_EN s.phase + 65536 * s.rd F.EVR_PHASE_POL_CAP s.phase]

/-- A block opens in this tick (R338, R343). -/
def State.openBlock (s : State) (genesis afterReset : Bool) (records : List Record) : State :=
  let b : OpenBlock :=
    { no := s.evr.nextNo, firstRec := s.evr.nextRec, openTick := s.now, records := records, genesis := genesis,
      afterReset := afterReset, aggregating := s.on F.EVR_STATUS_AGGREGATING, phase := s.phase,
      openView := tsRecord s.epoch (s.viewAt s.now 0) false s.holdoverFlag, policy := s.policyWords }
  (s.setEvr (fun e => { e with opened := some b })).wr2 F.EVR_OPEN_NO_LO_VALUE F.EVR_OPEN_NO_HI_VALUE 0 b.no

/-- R339: the header of a block that seals in this tick. -/
def State.blockHeader (s : State) (b : OpenBlock) (cause : Nat) (gap : Bool) (body : Bytes) : Bytes :=
  be 4 0x4B455642 ++ be 1 1 ++ be 1 (b2n b.genesis + 2 * b2n gap + 4 * b2n b.aggregating + 8 * b2n b.afterReset) ++ be 1 cause
    ++ be 1 b.phase ++ be 8 s.evr.chainId ++ be 8 b.no ++ be 8 b.firstRec ++ be 4 b.records.length ++ be 4 body.length
    ++ be 8 b.openTick ++ be 8 s.now ++ be 12 b.openView ++ be 8 (s.rd2 F.IDN_KEY_ID_LO_VALUE F.IDN_KEY_ID_HI_VALUE) ++ zeros 4
    ++ (sha512 (wordBytes b.policy)).take 32 ++ (List.range 4).flatMap (fun i => be 4 (s.rd F.IDN_UID_VALUE i))
    ++ s.evr.prevHash ++ sha512 body

/-- Sealed blocks without a signature. -/
def State.unsigned (s : State) : List SealedBlock := s.evr.blocks.filter (fun b => b.trailer.isNone)

/-- The registers that show the chain and the ring (R356). -/
def State.showRing (s : State) : State :=
  let oldest := (s.evr.blocks.head?).map (fun b => b.no)
  let signed := match s.unsigned.head? with
    | some b => b.no - 1
    | none => s.evr.nextNo - 1
  let pinned := sumOf (s.evr.blocks.filter (fun b => b.pinned)) (fun b => b.length)
  (((s.wr2 F.EVR_OLDEST_NO_LO_VALUE F.EVR_OLDEST_NO_HI_VALUE 0 (oldest.getD 0)).wr2 F.EVR_SIGNED_NO_LO_VALUE
    F.EVR_SIGNED_NO_HI_VALUE 0 signed).wr F.EVR_PINNED_MIB 0 (ceilDiv pinned 1048576)).wr F.EVR_SIGN_STATUS_BACKLOG 0 s.unsigned.length

/-- R345: the place of the next block: a pinned range in the way is jumped over. -/
def State.placeFor (s : State) (len : Nat) : Nat → Nat → Nat
  | 0, p => p
  | fuel + 1, p =>
    let size := max 1 s.ringSize
    let hits := fun (b : SealedBlock) => decide ((b.place + size - p) % size < len) || decide ((p + size - b.place) % size < b.length)
    match s.evr.blocks.find? (fun b => s.heldBlock b && hits b) with
    | some b => State.placeFor s len fuel ((b.place + b.length) % size)
    | none => p

/-- R345, R346: a sealed block takes its place; blocks that it runs into leave the ring (DEDUCED, log 42). -/
def State.storeBlock (s : State) (b : SealedBlock) : State :=
  let size := max 1 s.ringSize
  let p := s.placeFor b.length (s.evr.blocks.length + 1) (s.evr.writePtr % size)
  let hits := fun (x : SealedBlock) => decide ((x.place + size - p) % size < b.length) || decide ((p + size - x.place) % size < x.length)
  let gone := fun (x : SealedBlock) => !s.heldBlock x && hits x
  let n := (s.evr.blocks.filter gone).length
  let s := s.setEvr (fun e => { e with
    blocks := e.blocks.filter (fun x => !gone x) ++ [{ b with place := p }], writePtr := (p + b.length) % size })
  let s := if n = 0 then s else s.bump 12 7 0 n
  if 8388608 < s.evr.blocks.length then
    match s.evr.blocks.find? (fun x => !s.heldBlock x) with
    | some x => (s.setEvr (fun e => { e with blocks := e.blocks.erase x })).bump 12 7
    | none => s
  else s

/-- The open block seals at this boundary, and the next one opens (R338, R343); `afterReset` for the seal of R354. -/
def State.sealBlock (s : State) (cause : Nat) (afterReset : Bool) : State :=
  match s.evr.opened with
  | none => s
  | some _ =>
    let gap := s.gapOpen
    let s := s.closeGaps (fun _ => true)
    match s.evr.opened with
    | none => s
    | some b =>
      let body := b.records.flatMap Record.encode
      let header := s.blockHeader b cause gap body
      let sb : SealedBlock :=
        { no := b.no, openTick := b.openTick, sealTick := s.now, header := header, body := body, trailer := none, place := 0,
          length := ceilDiv (400 + body.length) 4096 * 4096, pinned := false, lost := false, keyGen := s.idn.keyGen }
      let s := s.storeBlock sb
      let s := ({ s with mem := { s.mem with tail := some ((s.evr.writePtr - 1) / 7168) } } : State).setEvr (fun e => { e with
        prevHash := sha512 header, nextNo := b.no + 1, nextRec := b.firstRec + b.records.length, sealReq := [], sealReply := [] })
      let waiting := s.evr.sealReply
      let s := (s.bump 12 5 cause).openBlock false afterReset []
      let s := if afterReset then s else s.takeRecord (s.mkRecord 0x10 1 0 s.now 0 (s.timeStateBody s.now 0))
      let s := waiting.foldl (fun s p => s.finish p .ok { data := [b.no % 2 ^ 32, b.no / 2 ^ 32] }) s
      let s := if s.unsigned.length = 1024 then (s.raiseBits F.EVR_INT_STATUS_SIGN_BACKLOG 0 1).raiseFault 32 4 1 0 b.no else s
      s.showRing

/-- The cause with which the open block seals at this boundary: the lowest that applies (R338) (DEDUCED, log 42). -/
def State.sealCause (s : State) : Option Nat :=
  match s.evr.opened with
  | none => none
  | some b =>
    if s.now ≤ b.openTick then none
    else
      let l := (s.evr.sealReq.filter (fun x => decide (x.2 ≤ s.now))).map Prod.fst ++ (if s.now % 800000 = 0 then [4] else [])
      [0, 1, 2, 3, 4, 5, 6].find? (fun c => l.contains c)

/-- A seal that is due at this boundary comes before the tick's records (R338). -/
def State.sealDue (s : State) : State :=
  match s.sealCause with
  | some c => s.sealBlock c false
  | none => s

/-- BLOCK_SEAL (R338). -/
def execBlockSeal (s : State) : Host.Outcome State Fault Refusal :=
  .next (s.when (s.live && !s.evr.held) (fun s =>
    s.classThree.sealDue))

/-- RECORD_ACCEPT (R319): the records of this tick, those that the Recorder makes itself among them. Between SYSRST_N asserted and released none is accepted (R354) (DEDUCED, log 42). -/
def execRecordAccept (s : State) : Host.Outcome State Fault Refusal :=
  .next (s.when (s.live && !s.evr.held) (fun s =>
    let s := s.sealDue.aggSwitch
    let s := s.endGaps s.lossEnded
    let ended := (s.evr.agg.filter (fun a => decide ((a.window + 1) * 800 ≤ s.now))).map s.aggRecord
    let s := s.setEvr (fun e => { e with
      agg := e.agg.filter (fun a => decide (s.now < (a.window + 1) * 800)), own := e.own ++ ended })
    let l := sortBy Record.before (s.evr.taps ++ s.evr.own)
    ((s.acceptAll (l.length + 1) l).askSeals).showStaging))

/-- GENESIS_BLOCK_OPEN (R353): at the first 1 ms grid tick after memory is trained and the evidence key is ready. The chain
identifier comes from the random source (DESIGN CHOICE, log 7). -/
def execGenesisBlockOpen (s : State) : Host.Outcome State Fault Refusal :=
  .next (s.when (s.live && s.now % 800000 == 0 && s.on F.MEM_STATUS_TRAINED && s.on F.IDN_STATUS_EVK_READY
      && !s.on F.EVR_STATUS_READY) (fun s =>
    let (id, s) := s.classThree.fresh
    let early := s.evr.early
    let s := s.setEvr (fun e => { e with chainId := id % 2 ^ 64, early := [], nextNo := 0, nextRec := 0, prevHash := zeros 64 })
    let s := ((s.wr F.EVR_STATUS_READY 0 1).wr F.SYS_BOOT_STATUS_EVR_READY 0 1).wr2 F.EVR_CHAIN_ID_LO_VALUE
      F.EVR_CHAIN_ID_HI_VALUE 0 s.evr.chainId
    let s := (s.openBlock true false []).takeRecord (s.mkRecord 0x10 1 0 s.now 0 (s.timeStateBody s.now 0))
    let s := s.setEvr (fun e => { e with opened := e.opened.map (fun b => { b with records := b.records ++ early }) })
    s.closeGaps (fun g => g.cause == 6)))

/-! ### Signing (R340, R341) -/

/-- R212: signing and the sending out of blocks take a control buffer for as long as they work; while no pool has one they wait. How many
bytes they ask for is a free value (DESIGN CHOICE, log 92). -/
def State.withBuffer (s : State) (f : State → State) : State :=
  let (n, s) := s.fresh
  match s.ctlAlloc (1 + n % 4096) 3 with
  | (s, some b) => (f s).ctlFree b.pool b.place 3
  | (s, none) => s

/-- R342, R518: once no sealed block waits for the old key, it is destroyed and the rotation is over (DEDUCED, log 98). -/
def State.destroyOldKey (s : State) : State :=
  s.when (s.idn.oldKey && s.unsigned.all (fun b => decide (s.idn.keyGen ≤ b.keyGen)))
    (fun s => ({ s with idn := { s.idn with oldKey := false } } : State).wr F.IDN_STATUS_ROTATING 0 0)

/-- BLOCK_SIGN: a signing core completes the signature of the oldest sealed block without one. R and S are drawn with a random
nonce: free values below 2⁵²¹ (DESIGN CHOICE, log 7) (DEDUCED, log 42). -/
def execBlockSign (s : State) : Host.Outcome State Fault Refusal :=
  .next (s.when (s.live && s.rd F.EVR_SIGN_STATUS_CORES_OK != 0 && s.on F.IDN_STATUS_RNG_OK) (fun s =>
    match s.unsigned.head? with
    | none => s
    | some b => s.withBuffer (fun s =>
      let (r, s) := s.fresh
      let (x, s) := s.fresh
      let t := be 4 0x4B455653 ++ zeros 4 ++ be 66 (r % 2 ^ 521) ++ be 66 (x % 2 ^ 521) ++ zeros 4
      ((s.setEvr (fun e => { e with blocks := e.blocks.map (fun y => if y.no = b.no then { y with trailer := some t } else y) })).bump
        12 6).showRing.destroyOldKey)))

/-- SIGNER_FAULT: a signing core fails and leaves service (R341). -/
def execSignerFault (core : Fin 12) (s : State) : Host.Outcome State Fault Refusal :=
  .next (s.when (s.live && bit (s.rd F.EVR_SIGN_STATUS_CORES_OK) core.val) (fun s =>
    let ok := s.rd F.EVR_SIGN_STATUS_CORES_OK - 2 ^ core.val
    let s := ((s.wr F.EVR_SIGN_STATUS_CORES_OK 0 ok).wr F.EVR_STATUS_SIGNERS 0
      ((List.range 12).filter (fun i => bit ok i)).length).raiseBits F.EVR_INT_STATUS_SIGNER_FAULT 0 1
    if ok = 0 then s.raiseFault 32 5 3 core.val 0 else s.raiseFault 32 3 2 core.val 0))

/-! ### Lost blocks (R348) -/

/-- The blocks of the ring that touch a range of user addresses are lost. -/
def State.ringLost (s : State) (lo len : Nat) : State :=
  let size := max 1 s.ringSize
  let hit := fun (b : SealedBlock) => decide (lo < size) && (decide ((b.place + size - lo) % size < len) || decide ((lo + size - b.place) % size < b.length))
  let bad := s.evr.blocks.filter (fun b => hit b && !b.lost)
  if bad.isEmpty then s
  else
    let first := (bad.head?.map (fun b => b.no)).getD 0
    let last := (bad.getLast?.map (fun b => b.no)).getD 0
    let s := s.setEvr (fun e => { e with blocks := e.blocks.map (fun b => if hit b then { b with lost := true } else b) })
    let g : Gap := ⟨5, s.now, s.now, 0, 0, 0, first, last⟩
    (((s.setEvr (fun e => { e with own := e.own ++ [s.gapRecord g] })).raiseBits F.EVR_INT_STATUS_RING_LOST 0 1).raiseFault 32 6 1 0 first).destroyOldKey

/-! ### Commands (R347, R349, R350) -/

/-- The EVR_ opcodes are accepted from the seats of SEAT_EN (R349). -/
def State.evrSeat (s : State) (p : Packet) : Bool := p.sender.val == 0 || bit (s.rd F.EVR_CTRL_SEAT_EN) p.sender.val
/-- A lo/hi pair among the data words. -/
def dataPair (p : Packet) (i : Nat) : Nat := (p.data.getD i 0).toNat + (p.data.getD (i + 1) 0).toNat * 2 ^ 32

/-- EVR_SEAL seals the open block at the next boundary; its reply follows (R349, R338). -/
def evrSealBody (s : State) (p : Packet) : Done :=
  if !p.data.isEmpty then .refuse .badOpcode {}
  else if !s.evrSeat p then .refuse .notOwner {}
  else if !s.on F.EVR_STATUS_READY then .refuse .notPermitted {}
  else .wait (s.setEvr (fun e => { e with sealReq := e.sealReq ++ [(3, s.now + 1)], sealReply := e.sealReply ++ [p] }))

def execEvrSeal (p : Packet) (s : State) : Host.Outcome State Fault Refusal := .next (s.command p 0x40 evrSealBody)

/-- Every block of a range is sealed, present and not lost. -/
def State.rangePresent (s : State) (a b : Nat) : Bool :=
  decide (a ≤ b) && decide ((s.evr.blocks.filter (fun x => decide (a ≤ x.no) && decide (x.no ≤ b) && !x.lost)).length = b - a + 1)

/-- EVR_PIN (R347) (DEDUCED, log 25). -/
def evrPinBody (s : State) (p : Packet) : Done :=
  if p.data.length ≠ 5 then .refuse .badOpcode {}
  else if !s.evrSeat p then .refuse .notOwner {}
  else
    let pin := bit (p.data.getD 0 0).toNat 0
    let a := dataPair p 1
    let b := dataPair p 3
    if !s.rangePresent a b ∨ s.rd F.MEM_STATUS_STATE = 3 then .refuse .badAddress {}
    else
      let s' := s.setEvr (fun e => { e with blocks := e.blocks.map (fun x => if a ≤ x.no ∧ x.no ≤ b then { x with pinned := pin } else x) })
      let held := s'.evr.blocks.filter (fun x => x.pinned)
      if pin ∧ (s.rd F.EVR_RING_PIN_LIMIT_GIB * 2 ^ 30 < sumOf held (fun x => x.length) ∨ 4194304 < held.length) then .refuse .notPermitted {}
      else .ok ((((s'.bump 12 8).eventRec 12 p.sender.val s.now 0x0A a b (p.sender.val * 2 ^ 32 + b2n pin)).showRing)) .ok {}

def execEvrPin (p : Packet) (s : State) : Host.Outcome State Fault Refusal := .next (s.command p 0x41 evrPinBody)

/-- An export ends: its reply, its record (R350) (DEDUCED, log 25). -/
def State.endExport (s : State) (x : ExportRun) (st : Status) : State :=
  let s := s.setEvr (fun e => { e with exporting := none })
  let s := (s.wr F.EVR_EXPORT_STATUS_BUSY 0 0).raiseBits F.EVR_INT_STATUS_EXPORT_DONE 0 1
  let s := s.eventRec 12 x.packet.sender.val s.now 9 x.first x.last (x.packet.sender.val * 2 ^ 32 + st.code)
  s.finish x.packet st { data := [x.sentBlocks % 2 ^ 32, x.sentBlocks / 2 ^ 32, x.sentBytes % 2 ^ 32, x.sentBytes / 2 ^ 32] }

/-- Bytes of an export frame with n data bytes, FCS included (R351). -/
def exportFrameLen (n : Nat) : Nat := max 64 (14 + 20 + 8 + 32 + n + 4)

/-- EVR_EXPORT (R350) (DEDUCED, log 25). -/
def evrExportBody (s : State) (p : Packet) : Done :=
  if p.data.length ≠ 7 then .refuse .badOpcode {}
  else if !s.evrSeat p then .refuse .notOwner {}
  else if bit (p.data.getD 0 0).toNat 0 then
    match s.evr.exporting with
    | some x => .ok (s.endExport x .notPermitted) .ok { data := [x.sentBlocks % 2 ^ 32, x.sentBlocks / 2 ^ 32, x.sentBytes % 2 ^ 32, x.sentBytes / 2 ^ 32] }
    | none => .ok s .ok { data := [0, 0, 0, 0] }
  else if s.evr.exporting.isSome then .refuse .busy {}
  else
    let a := dataPair p 1
    let b := dataPair p 3
    if s.evr.opened.isNone ∨ s.evr.nextNo ≤ b then .refuse .notPermitted {}
    else if !s.rangePresent a b ∨ s.rd F.MEM_STATUS_STATE = 3 then .refuse .badAddress {}
    else if s.rd F.MAC_PORT_CFG_MAX_LEN (s.rd F.EVR_EXPORT_CTRL_PORT) < exportFrameLen (1024 * s.rd F.EVR_EXPORT_CTRL_CHUNK_KIB) then
      .refuse .notPermitted {}
    else
      let n := (p.data.getD 6 0).toNat
      let x : ExportRun :=
        { block := a, offset := (p.data.getD 5 0).toNat, last := b, first := a, limit := if n = 0 then none else some n,
          sentBlocks := 0, sentBytes := 0, nextAt := s.now, packet := p }
      let id := (s.evr.exportId + 1) % 256
      let s := s.setEvr (fun e => { e with exporting := some x, exportId := id })
      .wait ((s.wr F.EVR_EXPORT_STATUS_BUSY 0 1).wr F.EVR_EXPORT_STATUS_EXPORT_ID 0 id)

def execEvrExport (p : Packet) (s : State) : Host.Outcome State Fault Refusal := .next (s.command p 0x42 evrExportBody)

/-- The IPv4 header checksum. -/
def ipChecksum (b : Bytes) : Nat :=
  let t := (List.range (b.length / 2)).foldl (fun a i => a + beAt b (2 * i) 2) 0
  let t := t % 65536 + t / 65536
  65535 - (t % 65536 + t / 65536)

/-- Part of a sealed block is still in staging (R373). -/
def State.blockStaged (s : State) (b : SealedBlock) : Bool :=
  match s.evr.stagedAt.head? with
  | some x => decide (x.1 ≤ b.sealTick)
  | none => false
/-- R351: an export frame. -/
def State.exportFrame (s : State) (no offset blockLen : Nat) (chunk : Bytes) (lastChunk lastFrame : Bool) : Bytes :=
  let payload := be 4 0x4B455658 ++ be 8 s.evr.chainId ++ be 8 no ++ be 4 offset ++ be 4 blockLen ++ be 2 chunk.length
    ++ be 1 (b2n lastChunk + 2 * b2n lastFrame) ++ be 1 s.evr.exportId ++ chunk
  let udp := be 2 (s.rd F.EVR_EXPORT_UDP_SRC) ++ be 2 (s.rd F.EVR_EXPORT_UDP_DST) ++ be 2 (payload.length + 8) ++ be 2 0 ++ payload
  let ip := fun (sum : Nat) => be 1 0x45 ++ be 1 0 ++ be 2 (udp.length + 20) ++ be 4 0 ++ be 1 64 ++ be 1 17 ++ be 2 sum
    ++ be 4 (s.rd F.EVR_EXPORT_IP_SRC_VALUE) ++ be 4 (s.rd F.EVR_EXPORT_IP_DST_VALUE)
  let b := be 6 (s.rd2 F.EVR_EXPORT_MAC_DST_LO_VALUE F.EVR_EXPORT_MAC_DST_HI_VALUE)
    ++ be 6 (s.rd2 F.EVR_EXPORT_MAC_SRC_LO_VALUE F.EVR_EXPORT_MAC_SRC_HI_VALUE) ++ be 2 0x0800 ++ ip (ipChecksum (ip 0)) ++ udp
  let b := b ++ zeros (60 - b.length)
  b ++ fcsOf b

/-- EXPORT_FRAME: the next frame of the running export, when its queue can admit it and the rate allows it; an unsigned block
is waited for (R350, R352). -/
def execExportFrame (s : State) : Host.Outcome State Fault Refusal :=
  .next (s.whenLive (fun s =>
    match s.evr.exporting with
    | none => s
    | some x =>
      match s.evr.blocks.find? (fun b => b.no == x.block) with
      | none => s.endExport x .ok
      | some b =>
        match b.trailer with
        | none => s
        | some t =>
          if s.batching && s.blockStaged b then s else s.withBuffer (fun s =>
          let all := b.header ++ b.body ++ t
          let chunk := (all.drop x.offset).take (match x.limit with
            | some n => min n (1024 * s.rd F.EVR_EXPORT_CTRL_CHUNK_KIB)
            | none => 1024 * s.rd F.EVR_EXPORT_CTRL_CHUNK_KIB)
          let left := match x.limit with | some n => some (n - chunk.length) | none => none
          let lastChunk := decide (all.length ≤ x.offset + chunk.length)
          let lastFrame := (lastChunk && x.block == x.last) || left == some 0
          let bytes := s.exportFrame x.block x.offset all.length chunk lastChunk lastFrame
          let port := s.rd F.EVR_EXPORT_CTRL_PORT
          let c : Copy := { (s.ownFrame port bytes).whole with egr := port, queue := s.rd F.EVR_EXPORT_CTRL_QUEUE, admitted := s.now, noRecord := true }
          let need := ceilDiv bytes.length 256
          if s.now < x.nextAt ∨ !s.queueTakes c.q need then s
          else
            let s := ((s.setFwd (fun w => { w with nextFrame := w.nextFrame + 1 })).admitOwn c).bump 12 9
            let x' := { x with
              block := if lastChunk then x.block + 1 else x.block, offset := if lastChunk then 0 else x.offset + chunk.length,
              limit := left, sentBlocks := x.sentBlocks + b2n lastChunk, sentBytes := x.sentBytes + chunk.length,
              nextAt := s.now + gapTicksOf bytes.length (1000 * s.rd F.EVR_EXPORT_CTRL_RATE_GBPS) }
            if lastFrame then s.endExport x' .ok else s.setEvr (fun e => { e with exporting := some x' }))))

end Sys2Proof.Machine
end

