-- ==== Sys2Proof/Machine/Receive.lean ====
section
/-! DEFINITION. The ingress side: the start and the end of a received frame (R54, R71, R114, R406, R407, R413, R414, R69,
R120, R121), the seats' rings (R130 to R132) and general PTP messages (R77). -/

namespace Sys2Proof.Machine

/-! ### The start of a frame -/

/-- The generation that a frame takes (R122): that of its stamped tick. -/
def State.genOf (s : State) (raw : Nat) : Nat :=
  match s.cmd.lastCommit with
  | some c => if raw / 16 < c then s.rd F.SYS_CFG_GEN_PREVIOUS else s.rd F.SYS_CFG_GEN_CURRENT
  | none => s.rd F.SYS_CFG_GEN_CURRENT

/-- A new frame of port p with the stamp `raw` and its view and epoch (R54, R55, R64). -/
def State.newFrame (s : State) (p raw : Nat) (bytes : Bytes) (ended : Bool) (det : Nat := 0) : Frame :=
  { id := s.fwd.nextFrame, ing := p, port := p, raw := raw, det := det, uncal := s.uncalFlag p, hold := s.holdAt (raw / 16),
    view := s.stampView raw, epoch := s.stampEpoch raw, gen := s.genOf raw, bytes := bytes, ended := ended }

/-- Frames that the ingress FIFO of a port holds at most (R114). -/
def State.fifoCap (s : State) (p : Nat) : Nat := if p < 512 then 32 * modeLanes (s.rd F.LAN_PORT_CFG_MODE p) else 32

/-- MAC Control by bytes 12 and 13 (R406). -/
def isMacCtrl (b : Bytes) : Bool := beAt b 12 2 == 0x8808

/-- R69: bytes of the trailer that stands at the end of a frame. -/
def trailerLen (b : Bytes) : Nat :=
  let l := b.length
  let marked := fun n => decide (n ≤ l) && beAt b (l - n) 2 == 0x4B54
  let sequenced := fun n => bit (byteAt b (l - n + 3)) 2
  if marked 28 && sequenced 28 then 24 else if marked 20 && !sequenced 20 then 16 else 0
/-- The trailer that a port strips from a frame (R69). -/
def State.stripFor (s : State) (p : Nat) (b : Bytes) : Nat := if s.on F.TSU_PORT_CFG_TRL_STRIP p then trailerLen b else 0

/-- A half-duplex fragment is no frame (R414). -/
def State.isFragment (s : State) (f : Frame) : Bool :=
  f.ing == 517 && !s.on F.MAC_MGMT_STATUS_DUPLEX && decide (f.bytes.length < 64)

/-- R71, R114, R494: the frame whose start is detected is stamped, and waits in its ingress FIFO, unless that is full or
no pipeline serves the port's group. A trailer to be stripped is no part of what its pipeline parses (R140) (DEDUCED, log 27). -/
def State.ingressStart (s : State) (p raw detect : Nat) (bytes : Bytes) : State :=
  let bytes' := bytes.take (s.rd F.MAC_PORT_CFG_MAX_LEN p + 1)
  let f : Frame := { s.newFrame p raw bytes' false detect with stripLen := s.stripFor p bytes' }
  if s.isFragment f then s.setFwd (fun w => { w with nextFrame := w.nextFrame + 1, rx := w.rx ++ [f] }) else
  let s := (s.noteOverrun raw).setFwd (fun w => { w with nextFrame := w.nextFrame + 1 })
  let s := if f.uncal then s.bump 0 7 p else s
  if s.fifoCap p ≤ (s.fwd.fifo.filter (fun x => x.port == p)).length then
    ((s.bump 0 0 p).bump 0 1 p bytes.length).dropFrame f 9
  else if nth s.flt.pipes f.group .down = .down then
    ((s.bump 0 0 p).bump 0 1 p bytes.length).dropFrame f 14
  else if isMacCtrl bytes then s.setFwd (fun w => { w with rx := w.rx ++ [f] })
  else (s.setFwd (fun w => { w with rx := w.rx ++ [f], fifo := w.fifo ++ [f] })).showFifo p

/-- INGRESS_START (R54, R71): the start of a frame is detected at `detect`, in fine units of the present tick, with the
variable part `var` of R52; `bytes` is the whole frame as the wire will bring it. The port is up (R389, R412), the
buffer is ready (R220), and no other frame of the port is under way. -/
def execIngressStart (port : Fin 518) (detect var : Nat) (bytes : Bytes) (s : State) : Host.Outcome State Fault Refusal :=
  let p := port.val
  .next (s.when (s.live && (decide (p < 512) || p == 517) && s.portUp p && s.on F.BUF_STATUS_INIT_DONE
      && decide (detect / 320 = s.now) && s.fwd.rx.all (fun f => f.ing != p))
    (fun s => let s := s.classThree; s.ingressStart p (s.ingressRaw p detect var) detect bytes))

/-! ### The end of a frame -/

/-- R406, R407, R414: the reason that the receive MAC finds, 0 for a good frame. -/
def State.rxReason (s : State) (f : Frame) (pcsError oddNibble : Bool) : Nat :=
  let b := f.bytes
  let tagged := s.isTagged f.gen b
  let accept := s.rdG f.gen F.MAC_PORT_CFG_ACCEPT f.ing
  let op := beAt b 14 2
  if pcsError then 1
  else if s.rd F.MAC_PORT_CFG_MAX_LEN f.ing < b.length then 2
  else if b.length < 64 then 3
  else if oddNibble then 5
  else if fcsStomped b then 4
  else if !fcsGood b then 5
  else if isMacCtrl b && (f.ing == 517 || (op != 1 && op != 0x0101)) then 6
  else if !isMacCtrl b && ((accept == 1 && !tagged) || (accept == 2 && tagged)) then 7
  else 0

/-- A cut-through transmission of a frame as its end makes it (R120, R121) (DEDUCED, log 38). -/
def State.endTx (s : State) (f : Frame) (t : Tx) : Tx :=
  match t.copy with
  | some c =>
    if c.frame.id = f.id ∧ !c.sample then
      let c := { c with frame := f }
      if c.cut then
        let e := s.edit c t.corr
        let mbps := s.portMbps t.port
        { t with copy := some c, out := e.out, endReason := e.endReason, skip := e.skip, trailer := e.trailer,
                 txTicks := txTicksOf e.out.length mbps, gapTicks := gapTicksOf e.out.length mbps }
      else { t with copy := some c }
    else t
  | none => t

/-- The frame is known as it ended wherever it stands. -/
def State.spread (s : State) (f : Frame) : State :=
  let fr := fun (x : Frame) => if x.id = f.id then { f with replayed := x.replayed, saf := x.saf, seen := x.seen } else x
  let cp := fun (c : Copy) => { c with frame := fr c.frame }
  let s := s.setFwd (fun w => { w with
    fifo := w.fifo.map fr
    replay := w.replay.map fr
    pipe := w.pipe.map (fun x => { x with frame := fr x.frame })
    samples := w.samples.map (fun x => { x with pf := { x.pf with frame := fr x.pf.frame } }) })
  let s := s.setTbl (fun t => { t with candidates := t.candidates.map (fun c =>
    if c.frameId = f.id then { c with good := some (f.bad == 0) } else c) })
  let s := s.setQsg (fun q => { q with
    queue := q.queue.map cp
    held := q.held.map (fun h => { h with copy := cp h.copy })
    seq := q.seq.map (fun x => { x with copy := cp x.copy }) })
  s.setQsg (fun q => { q with txs := q.txs.map (s.endTx f) })

/-- The reason with which what has not left of an ended frame is dropped, 0 when it is sent: its own, or that of the cut-through copy of
the same frame, if that is one of R120: a stomped frame is none (R120, R121, R406) (DEDUCED, log 38). -/
def State.lostReason (s : State) (f : Frame) : Nat :=
  match s.cutTx f.id with
  | some t => if t.endReason = 0 ∨ f.bad = 4 then f.bad else t.endReason
  | none => f.bad
/-- What has not left of a frame is dropped for a reason (DEDUCED, log 38). -/
def State.discardRest (s : State) (f : Frame) (reason : Nat) : State :=
  let cut := s.cutTx f.id
  let waiting := s.copies.any (fun c => c.frame.id == f.id && !c.sample && !c.cut)
  let inPipe := s.fwd.pipe.filter (fun x => x.frame.id == f.id)
  let unissued := (s.fwd.fifo ++ s.fwd.replay).any (fun x => x.id == f.id)
  let s := s.setFwd (fun w => { w with
    fifo := w.fifo.filter (fun x => x.id != f.id)
    replay := w.replay.filter (fun x => x.id != f.id)
    pipe := w.pipe.filter (fun x => x.frame.id != f.id) })
  let s := s.discardCopies f.id reason
  let s := inPipe.foldl (fun s x => s.dropDecided f x.dec.action reason) s
  let s := if (unissued || (isMacCtrl f.bytes && inPipe.isEmpty)) && !waiting && cut.isNone then s.dropFrame f reason else s
  if f.port < 518 then s.showFifo f.port else s

def State.dropFragment (s : State) (f : Frame) : State :=
  let s := s.setFwd (fun w => { w with
    fifo := w.fifo.filter (fun x => x.id != f.id), pipe := w.pipe.filter (fun x => x.frame.id != f.id),
    samples := w.samples.filter (fun x => x.pf.frame.id != f.id) })
  ((s.setTbl (fun t => { t with candidates := t.candidates.filter (fun c => c.frameId != f.id) })).showFifo f.port).bump 15 6

/-- The end of a frame is detected (DEDUCED, log 27). -/
def State.frameEnd (s : State) (f : Frame) (pcsError : Bool) (cutAt : Option Nat) (oddNibble : Bool) : State :=
  let p := f.ing
  let s := s.setFwd (fun w => { w with rx := w.rx.filter (fun x => x.id != f.id) })
  let f := { f with bytes := match cutAt with | some n => f.bytes.take n | none => f.bytes }
  if s.isFragment f then s.dropFragment f
  else
    let odd := oddNibble && p == 517
    let strip := s.stripFor p f.bytes
    let f := { f with ended := true, endTick := s.now, bad := s.rxReason f (pcsError || cutAt.isSome) odd, stripLen := strip, cutOff := cutAt.isSome }
    let s := (s.bump 0 0 p).bump 0 1 p f.bytes.length
    let s := if odd then s.bump 15 7 else s
    let s := if strip = 0 then s else (s.bump 0 6 p).bump 4 10
    let s := s.spread f
    let reason := s.lostReason f
    let s :=
      if reason ≠ 0 then s.discardRest f reason
      else if isMacCtrl f.bytes then s.setFwd (fun w => { w with macCtrl := w.macCtrl ++ [(p, s.now, f.bytes)] })
      else s
    s.refreshBuf

/-- FRAME_END (R406, R69, R120): the end of the frame that a port receives is detected. `pcsError` is an uncorrectable
codeword or error block inside it, `cutAt` the bytes that had come when its link was lost or its elastic buffer reached its
limit, `oddNibble` that it ended on an odd nibble (R414), `elastic` that the elastic buffer truncated it (R393). -/
def execFrameEnd (port : Fin 518) (pcsError : Bool) (cutAt : Option Nat) (oddNibble elastic : Bool) (s : State) :
    Host.Outcome State Fault Refusal :=
  .next (s.whenLive (fun s =>
    match s.fwd.rx.find? (fun f => f.ing == port.val) with
    | some f =>
      let s := s.setCsma (fun c => if port.val = 517 then { c with carrier := s.now } else c)
      if elastic ∧ port.val < 512 then
        let s := ((s.bump 14 11 port.val).wr F.LAN_PORT_STATUS_PPM_ALARM port.val 1).raiseBits F.LAN_GRP_INT_STATUS_PPM_ALARM
          (port.val / 32) 1
        s.frameEnd { f with bytes := match cutAt with | some n => f.bytes.take n | none => f.bytes } true none false
      else s.frameEnd f pcsError cutAt oddNibble
    | none => s))

/-! ### General PTP messages (R77) -/

/-- PTP_GENERAL_DELIVER: an Announce, Signaling or Management message received on a port that terminates PTP for its domain goes to the
seat port of HOST_SEAT, with its ingress port and its stamp; it takes its turn at admission in this tick (R206). -/
def execPtpGeneralDeliver (port : Fin 512) (bytes : Bytes) (arrival : Arrival) (s : State) : Host.Outcome State Fault Refusal :=
  let p := port.val
  let ok := match ptpProfile bytes with
    | some k =>
      let o := ptpOffset k
      (byteAt bytes o % 16 == 11 || byteAt bytes o % 16 == 12 || byteAt bytes o % 16 == 13) && s.ptpTerminates p (byteAt bytes (o + 4))
    | none => false
  .next (s.when (s.live && ok && s.on F.BUF_STATUS_INIT_DONE) (fun s =>
    let s := s.classThree
    let raw := s.ingressRaw p arrival.detect arrival.var
    let f := s.newFrame p raw bytes true
    let x := s.parse f.gen p f.payload
    (s.noteOverrun raw).setFwd (fun w => { w with
      nextFrame := w.nextFrame + 1
      samples := w.samples ++ [⟨⟨f, f.group, s.now, {}, x.profile, x.roles⟩, s.rd F.SYN_PTP_CFG_HOST_SEAT, 0, 3⟩] })))

/-! ### The seats' rings (R131, R132) -/

/-- A ring pointer stays within its ring. -/
def State.ringSet (s : State) (size tail : Fld) (seat ring value : Nat) : Except Status State := do
  need (seat == ring) .notOwner
  pure (s.wr tail ring (value % 2 ^ s.rd size ring))

/-- The descriptor that the part writes back when it refuses a transmit frame (R131). -/
def State.txRefused (s : State) (seat index length : Nat) : State :=
  s.setFwd (fun w => { w with hostOut := [⟨seat, false, index, length, 2, 0, []⟩] })

/-- SEAT_TX_FETCH: the part takes the descriptor at TX_HEAD of a seat's transmit ring (R131, R132). `own` is its OWN bit,
`readable` whether its buffer can be read, `length` its LENGTH and `bytes` what the buffer holds. The frame takes its FCS
and enters the path as port 512 + s, stamped as it enters (DEDUCED, log 65). -/
def execSeatTxFetch (seat : Fin 4) (own readable : Bool) (length : BitVec 16) (bytes : Bytes) (s : State) :
    Host.Outcome State Fault Refusal :=
  let e := seat.val
  let p := 512 + e
  .next (s.when (s.live && s.on F.CMD_SEAT_STATUS_LINK_UP e && s.on F.BUF_SEAT_RING_CTRL_TX_EN e && own
      && s.on F.BUF_STATUS_INIT_DONE
      && s.rd F.BUF_SEAT_RING_TX_HEAD_VALUE e != s.rd F.BUF_SEAT_RING_TX_TAIL_VALUE e) (fun s =>
    let s := s.classThree
    let head := s.rd F.BUF_SEAT_RING_TX_HEAD_VALUE e
    let s := s.wr F.BUF_SEAT_RING_TX_HEAD_VALUE e ((head + 1) % 2 ^ s.rd F.BUF_SEAT_RING_CTRL_TX_LOG_SIZE e)
    let n := length.toNat
    if n < 60 ∨ s.rd F.MAC_PORT_CFG_MAX_LEN p - 4 < n ∨ !readable then s.txRefused e head n
    else
      let body := bytes.take n ++ zeros (n - bytes.length)
      let raw := s.ingressRaw p (320 * s.now) 0
      let f := s.newFrame p raw (body ++ fcsOf body) true
      let s := ((s.setFwd (fun w => { w with nextFrame := w.nextFrame + 1 })).bump 0 0 p).bump 0 1 p f.bytes.length
      if nth s.flt.pipes f.group .down = .down then s.dropFrame f 14
      else (s.setFwd (fun w => { w with fifo := w.fifo ++ [f] })).showFifo p))

end Sys2Proof.Machine
end

