-- ==== Sys2Proof/Machine/Faults.lean ====
section
/-! DEFINITION. The Fault Collector (R476 to R486): order, escalation, history, acknowledgement and alarm pins; and the
take-over of a pipeline (R488 to R495). -/

namespace Sys2Proof.Machine

def State.setMain (s : State) (f : Collector → Collector) : State := s.setFlt (fun x => { x with main := f x.main })

/-! ### Latches, FSW and pins (R478, R485) -/

/-- The sources that R477 lists. -/
def sourceCount : Nat := 39
/-- The unit code of a source (R477); pipelines have that of FLT (R484). -/
def sourceUnit (i : Nat) : Nat :=
  ([18, 1, 2, 2, 3, 17, 17, 11, 19, 19, 20] ++ List.replicate 17 18 ++ [5, 6, 7, 7, 12, 13, 13, 13, 13, 14, 17]).getD i 18

/-- The latched level of a class (R480). -/
def Collector.levelOf (c : Collector) (src cause : Nat) : Option Nat :=
  (c.latches.find? (fun l => l.src == src && l.cause == cause)).map (fun l => l.level)
/-- The latches of a source. -/
def Collector.ofSrc (c : Collector) (src : Nat) : List Latch := c.latches.filter (fun l => l.src == src)
/-- The highest latched level of a source, 0 for none. -/
def Collector.topLevel (c : Collector) (src : Nat) : Nat := (c.ofSrc src).foldl (fun m l => max m l.level) 0
/-- Bit i is 1 while source i holds an unacknowledged fault (R478). -/
def Collector.fsw (c : Collector) : Nat := sumOf ((c.latches.map (fun l => l.src)).dedup) (fun i => 2 ^ i)

/-- A copy of the Collector is in service (R486). -/
def State.collecting (s : State) : Bool := s.on F.FLT_STATUS_A_OK || s.on F.FLT_STATUS_B_OK

/-- ALERT_N (R485). -/
def State.showAlert (s : State) : State :=
  let mask := s.rd2 F.FLT_ALERT_MASK_LO_SOURCES F.FLT_ALERT_MASK_HI_SOURCES
  s.wr F.FLT_STATUS_ALERT_N 0 (b2n (s.flt.main.latches.any (fun l =>
    bit mask l.src && decide (s.rd F.FLT_CTRL_ALERT_LEVEL ≤ l.level))))

/-- The registers that show a source and the pins (R478, R485, R498). -/
def State.showSource (s : State) (i : Nat) : State :=
  let c := s.flt.main
  let s := (s.wr F.FLT_SRC_STATUS_LEVEL i (c.topLevel i)).wr F.FLT_SRC_STATUS_LATCHED i (b2n !(c.ofSrc i).isEmpty)
  let s := s.wr2 F.FLT_FSW_LO_VALUE F.FLT_FSW_HI_VALUE 0 c.fsw
  (s.wr F.FLT_STATUS_FAULT_N 0 (b2n !c.asserting.isEmpty)).showAlert

/-! ### Raising (R479 to R483) -/

/-- The level at which a fault of own severity v is raised (R480). -/
def raisedLevel (latched : Option Nat) (v : Nat) : Nat :=
  match latched with
  | none => v
  | some k => min 3 (max v (k + 1))

/-- The FAULT record of an entry (R326, R482). -/
def State.faultRecord (s : State) (e : HistEntry) : State :=
  let flags := e.level + 4 * b2n e.escalated + 8 * b2n e.first + 16 * b2n e.ack + 32 * b2n e.faultN
  s.hand (s.mkRecord 0x12 18 e.src e.tick 0
    (be 1 e.src ++ be 1 flags ++ zeros 6 ++ be 8 s.flt.main.fsw ++ be 1 e.cause ++ be 1 e.inst ++ zeros 6 ++ be 8 e.val))

/-- An entry joins the live history (R482). -/
def State.enterHist (s : State) (e : HistEntry) : State :=
  s.setMain (fun c => { c with live := (e :: c.live).take 32 })

/-- FAULT_N is asserted by a source (R485): MSI-X vector 3 of every seat. -/
def State.assertFaultN (s : State) (src : Nat) : State :=
  let before := s.flt.main.asserting
  let s := s.setMain (fun c => { c with asserting := (src :: c.asserting).dedup })
  if before.isEmpty then
    let s := (s.raiseBits F.FLT_INT_STATUS_FAULT_N 0 1).bump 17 4
    (List.range 4).foldl (fun s e => s.fireMsix e 3) s
  else s

/-- One fault is raised (R480, R482, R485) (DEDUCED, log 50). -/
def State.takeFault (s : State) (first : Bool) (e : FaultEvent) : State :=
  let k := s.flt.main.levelOf e.src e.cause
  let level := raisedLevel k e.sev
  let esc := k == some 3 || decide (e.sev < level)
  let fn := level == 3 && (k == some 3 || s.on F.FLT_CTRL_FAULT_N_FIRST || !s.on F.CMD_CORE_STATUS_READY)
  let s := s.setMain (fun c => { c with
    latches := c.latches.filter (fun l => !(l.src == e.src && l.cause == e.cause)) ++ [⟨e.src, e.cause, level⟩]
    autoAck := if level = 0 ∧ s.on F.FLT_SRC_CTRL_NOTE_AUTO_ACK e.src then c.autoAck ++ [(e.src, e.cause, s.now)] else c.autoAck })
  let s := if fn then s.assertFaultN e.src else s
  let s := (s.wr F.FLT_SRC_STATUS_COUNT e.src (min 255 (s.rd F.FLT_SRC_STATUS_COUNT e.src + 1))).wr
    F.FLT_SRC_STATUS_LAST_CAUSE e.src e.cause
  let s := (s.raiseBits F.FLT_INT_STATUS_NEW_FAULT 0 1).bump 17 1 (level * 2 ^ 14 + e.cause * 64 + e.src)
  let s := if esc then (s.raiseBits F.FLT_INT_STATUS_ESCALATION 0 1).bump 17 2 else s
  let h : HistEntry :=
    { tick := s.now, src := e.src, level := level, escalated := esc, first := first, ack := false, faultN := fn,
      cause := e.cause, inst := e.inst % 256, val := e.val % 2 ^ 64 }
  ((s.enterHist h).showSource e.src).faultRecord h

/-- R481: own severity, highest first; then source, cause, and the order of the line. -/
def FaultEvent.before (a b : FaultEvent) : Bool :=
  if a.sev ≠ b.sev then decide (b.sev < a.sev)
  else if a.src ≠ b.src then decide (a.src < b.src) else decide (a.cause ≤ b.cause)

/-- R483: the first tick with a fault at or above FREEZE_LEVEL freezes the history. -/
def State.freezeIfDue (s : State) (n firstSrc : Nat) : State :=
  let mine := s.flt.main.live.take n
  if s.flt.main.frozen.isNone ∧ mine.any (fun h => decide (s.rd F.FLT_FREEZE_CTRL_FREEZE_LEVEL ≤ h.level)) then
    let s := s.setMain (fun c => { c with frozen := some c.live })
    (s.wr F.FLT_STATUS_FROZEN 0 1).wr F.FLT_STATUS_FIRST_SRC 0 firstSrc
  else s

/-! ### Acknowledgement (R480, R484) -/

/-- The Collector acknowledges a fault raised at NOTE in an earlier tick (R480). -/
def State.autoAckOne (s : State) (a : Nat × Nat × Nat) : State :=
  let s := if s.flt.main.levelOf a.1 a.2.1 = some 0 then
      s.setMain (fun c => { c with latches := c.latches.filter (fun l => !(l.src == a.1 && l.cause == a.2.1)) })
    else s
  s.showSource a.1

/-- Every automatic acknowledgement that is due at this boundary. -/
def State.autoAcks (s : State) : State :=
  let due := s.flt.main.autoAck.filter (fun a => decide (a.2.2 < s.now))
  let s := s.setMain (fun c => { c with autoAck := c.autoAck.filter (fun a => decide (s.now ≤ a.2.2)) })
  due.foldl State.autoAckOne s

/-- A FAULT_ACK takes effect (R484): the source's latches, FSW bit and count are cleared, and the reply is placed. With nothing latched only
the reply is given. -/
def State.applyAck (s : State) (a : AckPending) : State :=
  let c := s.flt.main
  let any := !(c.ofSrc a.src).isEmpty
  let level := c.topLevel a.src
  let data := level + 4 * b2n any + 256 * s.rd F.FLT_SRC_STATUS_COUNT a.src
  let s := s.setMain (fun c => { c with
    latches := c.latches.filter (fun l => l.src != a.src)
    asserting := c.asserting.filter (fun i => i != a.src)
    autoAck := c.autoAck.filter (fun x => x.1 != a.src) })
  let s :=
    if any then
      let s := (s.wr F.FLT_SRC_STATUS_COUNT a.src 0).showSource a.src
      let h : HistEntry :=
        { tick := s.now, src := a.src, level := level, escalated := false, first := false, ack := true, faultN := false,
          cause := 0, inst := 0, val := 0 }
      ((s.enterHist h).faultRecord h).bump 17 3
    else s
  s.finish a.packet .ok { data := [data] }

/-- Every acknowledgement whose command was executed in an earlier tick. -/
def State.applyAcks (s : State) : State :=
  let due := s.flt.acks.filter (fun a => decide (a.tick < s.now))
  let s := s.setFlt (fun f => { f with acks := f.acks.filter (fun a => decide (s.now ≤ a.tick)) })
  due.foldl State.applyAck s

/-- ACK_APPLY (R484): ahead of the tick's faults (DEDUCED, log 50). -/
def execAckApply (s : State) : Host.Outcome State Fault Refusal := .next (s.when (s.live && s.collecting) State.applyAcks)

/-- NOTE_AUTO_ACK (R480) (DEDUCED, log 50). -/
def execNoteAutoAck (s : State) : Host.Outcome State Fault Refusal := .next (s.when (s.live && s.collecting) State.autoAcks)

/-- R484: which seats may acknowledge a source. -/
def State.mayAck (s : State) (seat src : Nat) : Except Status Unit := do
  let grant := s.rd F.CMD_SEAT_INT_GRANT_UNITS seat
  need (seat == 0 || bit grant 18) .notOwner
  need (decide (src < sourceCount)) .badAddress
  need (seat == 0 || bit grant (sourceUnit src)) .notOwner

/-- FAULT_ACK (R484): the acknowledgement takes effect at the next boundary. -/
def execFaultAck (p : Packet) (s : State) : Host.Outcome State Fault Refusal :=
  .next (s.command p 0x60 (fun s p =>
    match s.mayAck p.sender.val p.parameter.toNat with
    | .error e => .refuse e {}
    | .ok _ => .wait (s.setFlt (fun f => { f with acks := f.acks ++ [⟨p.parameter.toNat, p, s.now⟩] }))))

/-! ### The Collector's tick (R476, R481, R486) -/

/-- A copy whose own check fails is retired, and the other says so (R486). -/
def State.retireCopy (s : State) (fld : Fld) (copy : Nat) (fails : Bool) : State :=
  if fails ∧ s.on fld then (s.wr fld 0 0).raiseFault 0 2 1 copy 0 else s

/-- The Collector takes every event held on the lines, once in a tick: classes 1 and 2 (R476, R481). -/
def State.takeFaults (s : State) : State :=
  if s.flt.takenTick = some s.now then s
  else
    let s := (s.applyAcks).autoAcks
    let l := sortBy FaultEvent.before s.flt.held
    let s := s.setFlt (fun f => { f with held := [], takenTick := some s.now })
    match l with
    | [] => s
    | e :: rest => (rest.foldl (fun (s : State) e => s.takeFault false e) (s.takeFault true e)).freezeIfDue l.length e.src
/-- The acknowledgements of the boundary (R480, R484), then classes 1 and 2 of the present tick, where an event waits for them (R32). -/
def State.takeDue (s : State) : State :=
  if !(s.live && s.collecting) then s
  else
    let s := s.applyAcks.autoAcks
    if s.flt.held.isEmpty then s else s.takeFaults

/-- FAULT_TAKE. `checkA` and `checkB` say that a copy's own check has failed, `differ` that the copies differ while both checks pass
(DEDUCED, log 50). -/
def execFaultTake (checkA checkB differ : Bool) (s : State) : Host.Outcome State Fault Refusal :=
  .next (s.when (s.live && s.collecting) (fun s =>
    let both := s.on F.FLT_STATUS_A_OK && s.on F.FLT_STATUS_B_OK
    let s := s.takeFaults
    let s := (s.retireCopy F.FLT_STATUS_A_OK 0 checkA).retireCopy F.FLT_STATUS_B_OK 1 checkB
    if both ∧ differ ∧ !checkA ∧ !checkB then s.raiseFault 0 1 2 1 0 else s))

/-! ### Pipelines (R488 to R495) -/

def State.setPipe (s : State) (g : Nat) (x : PipeState) : State := s.setFlt (fun f => { f with pipes := upd f.pipes g (fun _ => x) })

/-- Pipeline 16 serves no group (R490). -/
def State.spareIdle (s : State) : Bool := s.flt.takeOver.isNone
/-- Pipeline 16 serves no group, and its self-check passes (R490, R495). -/
def State.spareReady (s : State) : Bool := s.spareIdle && s.on F.FLT_PIPE_STATUS_SPARE_OK

/-- Drafen gets a level 0 request (R490, R463). -/
def State.askDrafen (s : State) (level : Nat) : State :=
  { s with drafen := { s.drafen with requests := s.drafen.requests ++ [⟨level, 3, none⟩] } }

/-- The headers that a pipeline holds stand in the replay buffer, in hand-off order (R489, R490) (DEDUCED, log 51). -/
def State.toReplay (s : State) (g : Nat) : State :=
  let mine := s.fwd.pipe.filter (fun x => x.pipe == g)
  s.setFwd (fun w => { w with
    pipe := w.pipe.filter (fun x => x.pipe != g)
    replay := mine.map (fun x => { x.frame with replayed := true, seen := true }) ++ w.replay })

/-- R490: pipeline g stops, and pipeline 16 takes over (DEDUCED, log 51). -/
def State.beginTakeOver (s : State) (g value : Nat) : State :=
  let s := (s.setPipe g .failed).setFlt (fun f => { f with takeOver := some (g, s.now), egressTaken := false, slotsTaken := false })
  let s := ((s.toReplay g).wr F.FLT_PIPE_STATUS_SPARE_FOR 0 g).wr F.FLT_PIPE_STATUS_REPLAYING 0 1
  (((s.raiseBits F.FLT_INT_STATUS_TAKEOVER 0 1).bump 17 5).raiseFault (11 + g) 1 2 g value).askDrafen 0

/-- R494: a group stops: what it has not admitted is dropped. -/
def State.strikeGroup (s : State) (g : Nat) : State :=
  let inPipe := s.fwd.pipe.filter (fun x => x.frame.group == g)
  let waiting := (s.fwd.replay ++ s.fwd.fifo).filter (fun f => f.group == g)
  let s := (s.setPipe g .down).setFwd (fun w => { w with
    pipe := w.pipe.filter (fun x => x.frame.group != g)
    replay := w.replay.filter (fun f => f.group != g)
    fifo := w.fifo.filter (fun f => f.group != g) })
  let s := inPipe.foldl (fun s x => s.dropDecided x.frame x.dec.action 14) s
  let s := waiting.foldl (fun s f => s.dropFrame f 14) s
  ((waiting.map (fun f => f.port)).filter (fun p => decide (p < 518))).dedup.foldl (fun s p => s.showFifo p) s

/-- Pipeline 16 is idle again. -/
def State.freeSpare (s : State) : State :=
  ((s.setFlt (fun f => { f with takeOver := none, egressTaken := false, slotsTaken := false })).wr F.FLT_PIPE_STATUS_SPARE_FOR 0
    31).wr F.FLT_PIPE_STATUS_REPLAYING 0 0

/-- R495: the idle self-check of pipeline 16 fails (DEDUCED, log 51). -/
def State.spareFails (s : State) : State :=
  (s.wr F.FLT_PIPE_STATUS_SPARE_OK 0 0).raiseFault 27 4 1 31 s.now

/-- A pipeline's check fires (R488, R490, R494). -/
def State.pipelineFault (s : State) (g : Nat) : State :=
  if g < 16 then
    if nth s.flt.pipes g .down ≠ .serving then s
    else if s.spareReady then s.beginTakeOver g s.now
    else (s.strikeGroup g).raiseFault (11 + g) 2 3 g s.now
  else match s.flt.takeOver with
    | some (x, _) => (((s.strikeGroup x).freeSpare).wr F.FLT_PIPE_STATUS_SPARE_OK 0 0).raiseFault 27 2 3 x s.now
    | none => if s.on F.FLT_PIPE_STATUS_SPARE_OK then s.spareFails else s

/-- PIPELINE_FAULT. -/
def execPipelineFault (pipe : Fin 17) (s : State) : Host.Outcome State Fault Refusal :=
  .next (s.whenLive (fun s => s.pipelineFault pipe.val))

/-- TAKE_OVER_EGRESS (R490 step 2): pipeline 16 edits the copies of the failed group. -/
def execTakeOverEgress (s : State) : Host.Outcome State Fault Refusal :=
  .next (s.when (s.live && s.flt.takeOver.isSome && !s.flt.egressTaken) (fun s => s.setFlt (fun f => { f with egressTaken := true })))

/-- TAKE_OVER_SLOTS (R490 step 3): pipeline 16 takes the group's slots, and replay starts. -/
def execTakeOverSlots (s : State) : Host.Outcome State Fault Refusal :=
  .next (s.when (s.live && s.flt.takeOver.isSome && !s.flt.slotsTaken) (fun s => s.setFlt (fun f => { f with slotsTaken := true })))

/-- REPLAY_DONE (R490 step 5): the replay buffer is empty. -/
def execReplayDone (s : State) : Host.Outcome State Fault Refusal :=
  .next (s.when (s.live && s.flt.slotsTaken && s.fwd.replay.isEmpty) (fun s => s.wr F.FLT_PIPE_STATUS_REPLAYING 0 0))

/-- The pipeline that a give-back restores: the one that pipeline 16 serves for, else the lowest that is ready. -/
def State.readyPipe (s : State) : Option Nat :=
  match s.flt.takeOver with
  | some (g, _) => if s.flt.ready.contains g then some g else (sortBy (fun a b => decide (a ≤ b)) s.flt.ready).head?
  | none => (sortBy (fun a b => decide (a ≤ b)) s.flt.ready).head?

/-- R493 step 1: the copies of the pipeline are rewritten. -/
def State.giveBack (s : State) : State :=
  if s.flt.givingBack.isSome then s else s.setFlt (fun f => { f with givingBack := s.readyPipe })

/-- PIPE_SELF_TEST_DONE (R493): the self-test of a stopped pipeline ends. -/
def execPipeSelfTestDone (pipe : Fin 16) (pass : Bool) (s : State) : Host.Outcome State Fault Refusal :=
  let g := pipe.val
  .next (s.when (s.live && nth s.flt.pipes g .down != .serving && !s.flt.ready.contains g && !bit (s.rd F.FLT_PIPE_STATUS_RETIRED) g)
    (fun s =>
      if pass then
        let s := (s.setFlt (fun f => { f with ready := f.ready ++ [g] })).wr F.FLT_PIPE_STATUS_GIVE_BACK_READY 0 1
        if s.on F.FLT_PIPE_CTRL_AUTO_GIVE_BACK then s.giveBack else s
      else s.wr F.FLT_PIPE_STATUS_RETIRED 0 (s.rd F.FLT_PIPE_STATUS_RETIRED ||| 2 ^ g)))

/-- R493 step 2: pipeline g takes its group back; pipeline 16 becomes idle if it served that group. -/
def State.giveBackSwitch (s : State) (g : Nat) : State :=
  let s := ((s.setPipe g .serving).setFlt (fun f => { f with givingBack := none, ready := f.ready.filter (fun x => x != g) })).bump 17 7
  let s := (s.wr F.FLT_PIPE_STATUS_GIVE_BACK_READY 0 (b2n !s.flt.ready.isEmpty)).setTbl (fun t => { t with
    damage := t.damage.filter (fun d => d.1 != g), repairs := t.repairs.filter (fun r => r.pipe != g) })
  let s := if (s.flt.takeOver.map Prod.fst) = some g then s.freeSpare else s
  if s.on F.FLT_PIPE_CTRL_AUTO_GIVE_BACK then s.giveBack else s

/-- GIVE_BACK_SWITCH: from a tick that is a multiple of 16, once nothing of the group waits for replay. -/
def execGiveBackSwitch (s : State) : Host.Outcome State Fault Refusal :=
  .next (s.once 0 (s.live && s.now % 16 == 0) (fun s =>
    match s.flt.givingBack with
    | some g => if s.fwd.replay.all (fun f => f.group != g) then s.giveBackSwitch g else s
    | none => s))

/-- SPARE_SELF_CHECK_FAIL (R495). -/
def execSpareSelfCheckFail (s : State) : Host.Outcome State Fault Refusal :=
  .next (s.when (s.live && s.spareIdle && s.on F.FLT_PIPE_STATUS_SPARE_OK) State.spareFails)

/-- SPARE_OK (R495): the self-check of pipeline 16 passes again. -/
def execSpareOk (s : State) : Host.Outcome State Fault Refusal :=
  .next (s.when (s.live && s.spareIdle) (fun s => s.wr F.FLT_PIPE_STATUS_SPARE_OK 0 1))

end Sys2Proof.Machine
end

