-- ==== Sys2Proof/Machine/Ecdsa.lean ====
section
/-! DEFINITION. Verification of the signatures of R521: ECDSA over P-521 with SHA-512, public keys in uncompressed SEC1 form,
signatures R then S. The curve is that of FIPS 186 (PRESUMED, log entry 44). -/

namespace Sys2Proof.Machine.P521

def p : Nat := 2 ^ 521 - 1
/-- The order of the base point. -/
def order : Nat := 2 ^ 521 - 2 ^ 260 + 0xA51868783BF2F966B7FCC0148F709A5D03BB5C9B8899C47AEBB6FB71E91386409
def coeffB : Nat :=
  0x0051953EB9618E1C9A1F929A21A0B68540EEA2DA725B99B315F3B8B489918EF109E156193951EC7E937B1652C0BD3BB1BF073573DF883D2C34F1EF451FD46B503F00
def baseX : Nat :=
  0x00C6858E06B70404E9CD9E3ECB662395B4429C648139053FB521F828AF606B4D3DBAA14B5E77EFE75928FE1DC127A2FFA8DE3348B3C1856A429BF97E7E31C2E5BD66
def baseY : Nat :=
  0x011839296A789A3BC0045C8A5FB42C7D1BD998F54449579B446817AFBD17273E662C97EE72995EF42640C550B9013FAD0761353C7086A272C24088BE94769FD16650

/-- a − b modulo p. -/
def sub (a b : Nat) : Nat := (a + (p - b % p)) % p

/-- b to the power e modulo m; `fuel` bounds the bits of e. -/
def powMod (m : Nat) : Nat → Nat → Nat → Nat
  | 0, _, _ => 1
  | fuel + 1, b, e => (if e % 2 = 1 then b else 1) * powMod m fuel (b * b % m) (e / 2) % m

/-- The inverse modulo a prime. -/
def inverse (m a : Nat) : Nat := powMod m 521 (a % m) (m - 2)

/-- A point in Jacobian coordinates; z = 0 is the point at infinity. -/
structure Point where
  x : Nat
  y : Nat
  z : Nat
deriving DecidableEq, Repr

def infinity : Point := ⟨1, 1, 0⟩

def double (q : Point) : Point :=
  if q.z = 0 then q
  else
    let delta := q.z * q.z % p
    let gamma := q.y * q.y % p
    let beta := q.x * gamma % p
    let alpha := 3 * sub q.x delta * (q.x + delta) % p
    let x := sub (alpha * alpha) (8 * beta)
    ⟨x, sub (alpha * sub (4 * beta) x) (8 * gamma * gamma), sub ((q.y + q.z) * (q.y + q.z)) (gamma + delta)⟩

def add (q r : Point) : Point :=
  if q.z = 0 then r else if r.z = 0 then q
  else
    let zz := q.z * q.z % p
    let ww := r.z * r.z % p
    let u := q.x * ww % p
    let s := q.y * r.z * ww % p
    let h := sub (r.x * zz) u
    let d := sub (r.y * q.z * zz) s
    if h = 0 then (if d = 0 then double q else infinity)
    else
      let hh := h * h % p
      let hhh := h * hh % p
      let v := u * hh % p
      let x := sub (d * d) (hhh + 2 * v)
      ⟨x, sub (d * sub v x) (s * hhh), h * q.z * r.z % p⟩

/-- k times a point; `fuel` bounds the bits of k. -/
def times : Nat → Nat → Point → Point
  | 0, _, _ => infinity
  | fuel + 1, k, q => add (if k % 2 = 1 then q else infinity) (times fuel (k / 2) (double q))

/-- The public key of 133 bytes lies on the curve. -/
def onCurve (x y : Nat) : Bool :=
  decide (x < p) && decide (y < p) && y * y % p == (x * x * x + (p - 3) * x + coeffB) % p

/-- R521: a signature of 132 bytes over a digest of 64 bytes holds under a public key of 133 bytes. -/
def verify (key sig digest : Bytes) : Bool :=
  let x := beAt key 1 66
  let y := beAt key 67 66
  let r := beAt sig 0 66
  let s := beAt sig 66 66
  let w := inverse order s
  let q := add (times 521 (beNat digest * w % order) ⟨baseX, baseY, 1⟩) (times 521 (r * w % order) ⟨x, y, 1⟩)
  let zi := inverse p q.z
  key.length == 133 && sig.length == 132 && byteAt key 0 == 4 && onCurve x y && decide (0 < r) && decide (r < order)
    && decide (0 < s) && decide (s < order) && q.z != 0 && q.x * zi * zi % p % order == r

end Sys2Proof.Machine.P521
end

