-- ==== Sys2Proof/Machine/Identity.lean ====
section
/-! DEFINITION. Identity, attestation and signed images (chapter 20), and the load of Drafen's stores (R472, R473). -/

namespace Sys2Proof.Machine

def State.setIdn (s : State) (f : Idn → Idn) : State := { s with idn := f s.idn }

/-- A fresh string of bytes whose content the spec leaves open (DESIGN CHOICE, log 7). -/
def State.freshBytes (s : State) : Bytes × State := (Config.freeBytes s.freeCount, { s with freeCount := s.freeCount + 1 })

/-! ### Certificates (R519) -/

/-- CERT_SEL.LENGTH shows the length of the certificate selected. -/
def State.showCert (s : State) : State :=
  s.wr F.IDN_CERT_SEL_LENGTH 0 (nth s.idn.certs (s.rd F.IDN_CERT_SEL_CERT) []).length
def State.setCert (s : State) (n : Nat) (b : Bytes) : State :=
  (s.setIdn (fun i => { i with certs := upd i.certs n (fun _ => b) })).showCert

/-- CERT_SEL_WRITE: the read restarts at byte 0. -/
def State.selectCert (s : State) (n : Nat) : State :=
  ((s.wr F.IDN_CERT_SEL_CERT 0 n).setIdn (fun i => { i with certPos := 0 })).showCert

/-- The next 4 bytes of the certificate selected, and the state after their read. -/
def State.readCert (s : State) : Nat × State :=
  (beNat (padTo 4 (((nth s.idn.certs (s.rd F.IDN_CERT_SEL_CERT) []).drop s.idn.certPos).take 4)),
   s.setIdn (fun i => { i with certPos := i.certPos + 4 }))

/-- CERT_DATA_READ, by any seat. -/
def execCertDataRead (_seat : Fin 4) (s : State) : Host.Outcome State Fault Refusal :=
  .next (s.whenLive (fun s => let (w, t) := s.readCert; t.answer .ok [w]))

/-- R544: the certificates of the flash area, in order; a length of 0 or above 4,096 ends it. -/
def certList : Nat → List Bytes → List Bytes
  | 0, _ => []
  | _, [] => []
  | n + 1, b :: rest => if b.length = 0 ∨ 4096 < b.length then [] else b :: certList n rest

/-- Certificate 0 and its issuing chain, certificates 3 to 7 (R519, R544). -/
def State.placeCerts (s : State) (area : List Bytes) : State :=
  let l := certList 6 area
  let at' := fun (c : List Bytes) (n : Nat) (b : Bytes) => upd c n (fun _ => b)
  let all := fun (c : List Bytes) =>
    (List.range 5).foldl (fun c k => at' c (3 + k) (l.getD (k + 1) [])) (at' c 0 (l.getD 0 []))
  (s.setIdn (fun i => { i with certs := all i.certs })).showCert

/-! ### Images (R520, R521) -/

def allZero (b : Bytes) : Bool := b.all (fun x => x == 0)
/-- A piece of the header. -/
def slice (b : Bytes) (n len : Nat) : Bytes := (b.drop n).take len

/-- The magic, the format, the body's length and the reserved bytes (R520). -/
def imageForm (b : Bytes) : Bool :=
  b.length == 82944 && beAt b 0 4 == 0x4B444D49 && beAt b 4 2 == 1 && beAt b 10 4 == 81920 && decide (byteAt b 9 < 2)
    && allZero (slice b 14 50) && allZero (slice b 197 3) && allZero (slice b 332 4) && allZero (slice b 469 3)
    && allZero (slice b 604 420)

/-- The image digest. -/
def imageDigest (b : Bytes) : Bytes := sha512 (b.take 64 ++ b.drop 1024)

/-- The owner hash in force: that programmed since the part was made, or that fused at first power-up. -/
def State.ownerHash (s : State) : Bytes := s.idn.ownerHash.getD Config.fusedOwnerHash

/-- R521: what IMAGE_FAIL shows; 0 when the image is verified (PRESUMED, log 44). -/
def State.imageFail (s : State) (b : Bytes) : Nat :=
  let d := imageDigest b
  let own := slice b 336 133
  if !imageForm b then 1
  else if sha512 (slice b 64 133) ≠ Config.kelHash then 2
  else if !P521.verify (slice b 64 133) (slice b 200 132) d then 3
  else if s.on F.IDN_STATUS_OWNER_EN ∧ (byteAt b 9 = 0 ∨ sha512 own ≠ s.ownerHash ∨ !P521.verify own (slice b 472 132) d) then 4
  else if byteAt b 8 < s.rd F.IDN_STATUS_ROLLBACK then 5
  else 0

/-- Words of `width` bytes from a string, as a store; words of 0 are not listed. -/
def wordStore (width : Nat) : Nat → Nat → Bytes → SMap
  | 0, _, _ => []
  | fuel + 1, i, b =>
    let v := beNat (b.take width)
    let rest := wordStore width fuel (i + 1) (b.drop width)
    if v = 0 then rest else (i, v) :: rest
def microStore (b : Bytes) : SMap := wordStore 4 8192 0 (b.drop 1024)
def nanoStore (b : Bytes) : SMap := wordStore 24 2048 0 (b.drop 33792)
/-- R460: no nanoword has a reserved bit set. -/
def nanoFormed (m : SMap) : Bool := m.all (fun kv => kv.2 % 2 ^ 34 == 0 && bits kv.2 100 96 == 0)

/-- A failed load (R473). -/
def State.loadFailed (s : State) : State := (s.wr F.CMD_CORE_STATUS_READY 0 0).raiseFault 5 7 3

/-- The standing of a core (R475). -/
def coreFld (k : Nat) : Fld := if k = 0 then F.CMD_CORE_STATUS_CORE0 else F.CMD_CORE_STATUS_CORE1
/-- Drafen without a standby core (R471). -/
def State.standbyLost (s : State) : State := (s.raiseBits F.CMD_INT_STATUS_STANDBY_LOST 0 1).raiseFault 5 5 1

/-- R472: both cores have run their self-tests: the first that passed is active, the second standby; a retired core stays
retired (DEDUCED, log 49). -/
def State.startCores (s : State) (test0 test1 : Bool) : State :=
  let ok := fun (k : Nat) (t : Bool) => t && s.rd (coreFld k) != 3
  let a := ok 0 test0
  let b := ok 1 test1
  let s := (s.wr F.CMD_CORE_STATUS_CORE0 0 (if a then 0 else 3)).wr F.CMD_CORE_STATUS_CORE1 0 (if b then (if a then 1 else 0) else 3)
  let s := s.wr F.CMD_CORE_STATUS_ACTIVE_CORE 0 (b2n (!a && b))
  let fresh' := fun (x : DrafenCore) => ({ micro := x.micro, nano := x.nano, failures := x.failures } : DrafenCore)
  let s : State := { s with drafen := { s.drafen with cores := s.drafen.cores.map fresh' } }
  if !a && !b then s.raiseFault 5 6 3
  else
    let s := (s.wr F.CMD_CORE_STATUS_READY 0 1).wr F.SYS_BOOT_STATUS_DRAFEN_READY 0 1
    if a && b then s else s.standbyLost

/-- A verified image is the running one, and D begins with it (R521, R523). -/
def State.installImage (s : State) (b : Bytes) : State :=
  let d := imageDigest b
  let owned := s.on F.IDN_STATUS_OWNER_EN
  let s := (((s.wr F.SYS_BOOT_STATUS_IMAGE_OK 0 1).wr F.IDN_STATUS_IMAGE_FAIL 0 0).wr F.CMD_IMAGE_STATUS_VERSION 0 (beAt b 6 2)).wr
    F.CMD_IMAGE_STATUS_OWNER_SIGNED 0 (b2n owned)
  let s := s.setIdn (fun i => { i with
    image := some { digest := d, version := beAt b 6 2, svn := byteAt b 8, ownerKey := if byteAt b 9 = 1 then some (slice b 336 133) else none } })
  let s := (List.range 16).foldl (fun s w => s.wr F.IDN_IMAGE_DIGEST_VALUE w (beAt d (4 * w) 4)) s
  s.setDigest (sha512 d)

/-- R521, R472: the image is verified, and both cores' stores are written from it. -/
def State.loadImage (s : State) (b : Bytes) (copiesAgree test0 test1 : Bool) : State :=
  let why := s.imageFail b
  if why ≠ 0 then ((s.wr F.IDN_STATUS_IMAGE_FAIL 0 why).wr F.SYS_BOOT_STATUS_IMAGE_FAILED 0 1).loadFailed
  else
    let s := s.installImage b
    let nano := nanoStore b
    if !nanoFormed nano || !copiesAgree then s.loadFailed
    else
      ({ s with drafen := { s.drafen with cores := s.drafen.cores.map (fun c => { c with micro := microStore b, nano := nano }) } } : State).startCores
        test0 test1

/-- The loader runs: the time base runs, and no image of this start has been verified or refused. -/
def State.loaderDue (s : State) : Bool :=
  s.live && s.on F.TIM_STATUS_RUN && !s.on F.SYS_BOOT_STATUS_IMAGE_OK && !s.on F.SYS_BOOT_STATUS_IMAGE_FAILED

/-- IMAGE_LOAD: the bytes of the strapped slot, the certificates of the flash, whether the key of certificate 0 is the part's own,
whether the two copies of the stores agree, and what the cores' self-tests gave. -/
def execImageLoad (image : Bytes) (certs : List Bytes) (keyMatches copiesAgree test0 test1 : Bool) (s : State) :
    Host.Outcome State Fault Refusal :=
  .next (s.when s.loaderDue (fun s =>
    let s := s.placeCerts certs
    let s := if keyMatches then s else s.raiseFault 10 1 3
    s.loadImage image copiesAgree test0 test1))

/-! ### The evidence key (R517, R518) -/

/-- A new key: the part draws its public key (DESIGN CHOICE, log 7); with it its KEY_ID (R339) and its certificate (R517). -/
def State.drawKey (s : State) : (Nat × Bytes) × State :=
  let (b, s) := s.freshBytes
  let pub := be 1 4 ++ padTo 132 (b.take 132)
  let from' := if s.epoch = 0 then none else some (viewSec (s.viewAt s.now 0))
  ((beAt (sha512 pub) 0 8, Config.evidenceCert ((List.range 4).map (fun i => s.rd F.IDN_UID_VALUE i)) from' pub), s)
def State.showKey (s : State) (id : Nat) : State := s.wr2 F.IDN_KEY_ID_LO_VALUE F.IDN_KEY_ID_HI_VALUE 0 id

/-- EVK_GENERATED: the operand says whether the generation succeeded. -/
def execEvkGenerated (ok : Bool) (s : State) : Host.Outcome State Fault Refusal :=
  .next (s.when (s.live && s.on F.SYS_BOOT_STATUS_IMAGE_OK && s.on F.IDN_STATUS_RNG_OK && !s.on F.IDN_STATUS_EVK_READY) (fun s =>
    if ok then
      let ((id, cert), s) := s.drawKey
      (((s.showKey id).setCert 1 cert).wr F.IDN_STATUS_EVK_READY 0 1).wr F.SYS_BOOT_STATUS_EVK_READY 0 1
    else s.raiseFault 10 2 1))

/-- R518: a write of ROTATE. -/
def State.rotate (s : State) (seat : Nat) : Except Status State := do
  need (seat == 0) .notOwner
  need (s.on F.IDN_STATUS_EVK_READY) .notPermitted
  need (!s.on F.IDN_STATUS_ROTATING) .busy
  pure (s.wr F.IDN_STATUS_ROTATING 0 1)

/-- R342: the record of the rotation is the last of the block that the old key signs. -/
def State.sealForRotation (s : State) (new : Nat) : State :=
  if s.on F.EVR_STATUS_READY ∧ !s.evr.held then
    let old := s.rd2 F.IDN_KEY_ID_LO_VALUE F.IDN_KEY_ID_HI_VALUE
    let body := be 2 8 ++ zeros 6 ++ be 8 new ++ be 8 old ++ zeros 8
    (s.takeRecord (s.mkRecord 0x16 20 0 s.now 0 body)).sealBlock 1 false
  else s

/-- ROTATION_COMPLETE: the new key is ready, or its generation failed. -/
def execRotationComplete (ok : Bool) (s : State) : Host.Outcome State Fault Refusal :=
  .next (s.when (s.live && s.on F.IDN_STATUS_ROTATING && !s.idn.oldKey && s.on F.IDN_STATUS_RNG_OK) (fun s =>
    if ok then
      let ((id, cert), s) := s.drawKey
      let s := s.sealForRotation id
      let s := (s.setCert 2 (nth s.idn.certs 1 [])).setCert 1 cert
      let s := (s.setIdn (fun i => { i with keyGen := i.keyGen + 1, oldKey := true })).showKey id
      ((s.raiseBits F.IDN_INT_STATUS_ROTATED 0 1).bump 19 2).destroyOldKey
    else (s.wr F.IDN_STATUS_ROTATING 0 0).raiseFault 10 2 1))

/-! ### Fuses (R522) -/

/-- A write of FUSE_CTRL: OP 1 and OP 2; the other codes have no effect. -/
def State.fuseWrite (s : State) (seat op : Nat) : Except Status State := do
  need (seat == 0) .notOwner
  need (!s.on F.IDN_FUSE_CTRL_BUSY) .busy
  let begin' : State := (s.wr F.IDN_FUSE_CTRL_BUSY 0 1).setIdn (fun i => { i with fuseOp := op })
  if op = 1 then do
    need (!s.on F.IDN_STATUS_OWNER_EN && s.idn.ownerHash.isNone && ((s.idn.image.bind (fun i => i.ownerKey)).isSome)) .notPermitted
    pure begin'
  else if op = 2 then do
    need (decide (s.idn.rollback.getD (s.rd F.IDN_STATUS_ROLLBACK) < (s.idn.image.map (fun i => i.svn)).getD 0)) .notPermitted
    pure begin'
  else pure s

/-- FUSE_PROGRAMMING_DONE: the fuses hold what was asked, or the programming failed. -/
def execFuseProgrammingDone (ok : Bool) (s : State) : Host.Outcome State Fault Refusal :=
  .next (s.when (s.live && s.on F.IDN_FUSE_CTRL_BUSY) (fun s =>
    let s := (s.wr F.IDN_FUSE_CTRL_BUSY 0 0).bump 19 3
    let key := s.idn.image.bind (fun i => i.ownerKey)
    let svn := s.idn.image.map (fun i => i.svn)
    if !ok then s.raiseFault 10 4 1
    else if s.idn.fuseOp = 1 then s.setIdn (fun i => { i with ownerHash := key.map sha512 })
    else s.setIdn (fun i => { i with rollback := svn })))

/-! ### The random source (R525) -/

/-- RNG_HEALTH_FAIL. -/
def execRngHealthFail (s : State) : Host.Outcome State Fault Refusal :=
  .next (s.when (s.live && s.on F.IDN_STATUS_RNG_OK) (fun s =>
    ((s.wr F.IDN_STATUS_RNG_OK 0 0).raiseBits F.IDN_INT_STATUS_RNG_FAIL 0 1).raiseFault 10 3 1 |>.bump 19 4))

/-- RNG_OK. -/
def execRngOk (s : State) : Host.Outcome State Fault Refusal := .next (s.whenLive (fun s => s.wr F.IDN_STATUS_RNG_OK 0 1))

/-! ### Quotes (R524) -/

/-- ATTEST_QUOTE. -/
def attestBody (s : State) (p : Packet) : Done :=
  if p.data.length ≠ 8 then .refuse .badOpcode {}
  else if 4 ≤ s.idn.quotes.length then .refuse .busy {}
  else .wait (s.setIdn (fun i => { i with quotes := i.quotes ++ [⟨p, s.now, none⟩] }))
def execAttestQuote (p : Packet) (s : State) : Host.Outcome State Fault Refusal := .next (s.command p 0x50 attestBody)

/-- The words of a string. -/
def bytesToWords : Nat → Bytes → List Nat
  | 0, _ => []
  | n + 1, b => beAt b 0 4 :: bytesToWords n (b.drop 4)

/-- QUOTE_SIGNED: the oldest quote is signed with the identity key, whose signature is drawn with a random nonce (DESIGN CHOICE, log 7). -/
def execQuoteSigned (s : State) : Host.Outcome State Fault Refusal :=
  .next (s.when (s.live && s.on F.IDN_STATUS_RNG_OK) (fun s =>
    match s.idn.quotes with
    | { packet := p, accepted := _, body := some b } :: rest =>
      let (r, s) := s.fresh
      let (x, s) := s.fresh
      let words := bytesToWords 98 (b ++ be 66 (r % 2 ^ 521) ++ be 66 (x % 2 ^ 521) ++ zeros 4)
      ((s.setIdn (fun i => { i with quotes := rest })).bump 19 1).finish p .ok { data := words }
    | _ => s))

end Sys2Proof.Machine
end

