-- ==== Sys2Proof/Machine/Stamp.lean ====
section
/-! DEFINITION. Calibration and temperature compensation of the timestamp units (R58 to R62). The ingress stamp is
State.ingressRaw of Ops.lean, the egress stamp stands in State.startTx of Egress.lean; the trailers and one-step updates stand with the frames. -/

namespace Sys2Proof.Machine

/-- R58: the port comes up in a mode; its delays take that mode's nominal values and the calibration is discarded,
unless the mode is the one they were loaded for and its calibration stands (R391). CAL_STALE goes with the calibration (DESIGN CHOICE,
log 83). -/
def State.loadDelays (s : State) (p mode : Nat) : State :=
  if s.rd F.TSU_PORT_STATUS_MODE p = mode then s
  else
    ((((s.hwWr F.TSU_ING_DELAY_VALUE p (s.rd F.TSU_NOM_ING_VALUE mode)).hwWr F.TSU_EGR_DELAY_VALUE p
      (s.rd F.TSU_NOM_EGR_VALUE mode)).wr F.TSU_PORT_STATUS_CALIBRATED p 0).wr F.TSU_PORT_STATUS_CAL_STALE p 0).wr
      F.TSU_PORT_STATUS_MODE p mode

/-- R60: the checks of a GO write and the start of the run. The loopback is engaged and BUSY is set. -/
def State.calGo (s : State) (seat port : Nat) (apply : Bool) (count : Nat) : Except Status State := do
  need (port < 512) .badAddress
  need (s.ownsPort seat port) .notOwner
  need (!s.on F.TSU_CAL_STATUS_BUSY) .busy
  need (s.portStopped port) .quiesceRequired
  let c := clampN 4 12 count
  let s := ((s.wr F.TSU_CAL_CTRL_PORT 0 port).wr F.TSU_CAL_CTRL_APPLY 0 (b2n apply)).wr F.TSU_CAL_CTRL_CAL_COUNT 0 c
  let s := ((s.wr F.TSU_CAL_STATUS_BUSY 0 1).wr F.TSU_CAL_STATUS_DONE 0 0).wr F.LAN_PORT_STATUS_STATE port 7
  pure { s with tsu := { s.tsu with cal := some ⟨port, apply, c, seat, s.now⟩ } }

/-- The run ends: the loopback is released, BUSY clears, DONE is set, and the port stays stopped (R60). -/
def State.calEnd (s : State) (result : Nat) : State :=
  let s := ((s.wr F.TSU_CAL_STATUS_BUSY 0 0).wr F.TSU_CAL_STATUS_DONE 0 1).wr F.TSU_CAL_STATUS_RESULT 0 result
  let s := if result = 0 then s.raiseBits F.TSU_INT_STATUS_CAL_DONE 0 1 else s.raiseBits F.TSU_INT_STATUS_CAL_FAIL 0 1
  let s := match s.tsu.cal with | some r => s.wr F.LAN_PORT_STATUS_STATE r.port 0 | none => s
  ({ s with tsu := { s.tsu with cal := none } } : State).bump 4 11

/-- CAL_LOCK_TIMEOUT (R60 step 2): no block lock within 10 ms of GO ends the run with RESULT 1. -/
def execCalLockTimeout (s : State) : Host.Outcome State Fault Refusal :=
  .next (s.whenLive (fun s =>
    match s.tsu.cal with
    | some r => if r.start + 8000000 ≤ s.now then s.calEnd 1 else s
    | none => s))

/-- R60 step 4: round(mean(r_i)) for the sum of N = 2^count round trips, halves up (DEDUCED, log 32). -/
def calMean (sum count : Nat) : Nat := (2 * sum + 2 ^ count) / (2 * 2 ^ count)

/-- R60 steps 4 to 8, with the sum of the round trips and the temperature that the run has measured. A run that fails leaves CAL_STALE
as it is (DESIGN CHOICE, log 83). -/
def State.calDone (s : State) (r : CalRun) (sum temp : Nat) : State :=
  let mode := s.rd F.LAN_PORT_CFG_MODE r.port
  let nomI := s.rd F.TSU_NOM_ING_VALUE mode
  let nomE := s.rd F.TSU_NOM_EGR_VALUE mode
  let sS : Int := (calMean sum r.count : Int) - s.rd F.TSU_LB_DELAY_VALUE (r.port / 32)
  let s := s.wr F.TSU_CAL_SUM_VALUE 0 (ofS 24 sS)
  let e : Int := sS - (nomI + nomE : Nat)
  if e.natAbs > 2048 then (s.calEnd 2).raiseFault 4 1 0 0 r.port
  else
    let egr : Int := nomE + Int.fdiv (e * s.rd F.TSU_PORT_CFG_SPLIT r.port + 128) 256
    let ing : Int := nomI + e - (egr - nomE)
    let s := s.wr F.TSU_PORT_STATUS_CAL_TEMP r.port temp
    let s := if r.apply then
        let s := (s.wr F.TSU_PORT_STATUS_CALIBRATED r.port 1).wr F.TSU_PORT_STATUS_MODE r.port mode
        s.implicitTxn r.seat
          [⟨F.TSU_ING_DELAY_VALUE.addr r.port, 0xFFFFF, ofS 20 ing⟩, ⟨F.TSU_EGR_DELAY_VALUE.addr r.port, 0xFFFFF, ofS 20 egr⟩]
          [] none
      else s
    (s.wr F.TSU_PORT_STATUS_CAL_STALE r.port 0).calEnd 0

/-- CAL_DONE: the calibration frames of the run have been measured. -/
def execCalDone (sum : Nat) (temp : BitVec 8) (s : State) : Host.Outcome State Fault Refusal :=
  .next (s.whenLive (fun s =>
    match s.tsu.cal with
    | some r => s.calDone r sum temp.toNat
    | none => s))

/-- R62: the correction from the temperature of the port's nearest sensor, in fine units, rounded down (DESIGN CHOICE, log 82); beyond
15 °C CAL_STALE. -/
def State.tempComp (s : State) (p : Nat) (temp : Int) : State :=
  let d := temp - s.rdS F.TSU_PORT_STATUS_CAL_TEMP p
  let corr := Int.fdiv (s.rdS F.TSU_TEMPCO_VALUE (s.rd F.TSU_PORT_STATUS_MODE p) * d) 256
  let s := s.wr F.TSU_TEMP_CORR_VALUE p (ofS 16 corr)
  if d.natAbs > 15 then
    (s.wr F.TSU_PORT_STATUS_CAL_STALE p 1).raiseBits F.TSU_INT_STATUS_CAL_STALE 0 1
  else s

/-- TEMP_COMP_UPDATE (R62): every 800,000 ticks while TEMP_COMP is 1, at the multiples of the Canopy (DESIGN CHOICE, log 82), with the
sensor's reading. -/
def execTempCompUpdate (port : Fin 512) (temp : BitVec 8) (s : State) : Host.Outcome State Fault Refusal :=
  .next (s.once (2048 + port.val) (s.live && s.on F.TSU_PORT_CFG_TEMP_COMP port.val && s.now % 800000 == 0)
    (fun s => s.tempComp port.val temp.toInt))

end Sys2Proof.Machine
end

