-- ==== Sys2Proof/Machine/Lanes.lean ====
section
/-! DEFINITION. Lanes and links (chapter 14): bring-up (R382 to R388), the active state (R389 to R392), the figure of merit and
the snapshots (R394, R395), electrical idle (R396, R397) and the group clocks (R399, R400). -/

namespace Sys2Proof.Machine

/-! ### Ports and their lanes -/

def State.portState (s : State) (p : Nat) : Nat := s.rd F.LAN_PORT_STATUS_STATE p
/-- The lanes of a port (R379). -/
def State.lanesOf (s : State) (p : Nat) : List Nat := (List.range (modeLanes (s.rd F.LAN_PORT_CFG_MODE p))).map (fun i => p + i)
/-- The existing port that a lane belongs to (R379, R380). -/
def State.lanePort (s : State) (n : Nat) : Option Nat :=
  ((List.range 8).map (fun i => n - i)).find? (fun p => s.on F.LAN_PORT_CFG_EN p && (s.lanesOf p).contains n)
/-- R401: a seat may write the registers of a lane. -/
def State.ownsLane (s : State) (seat n : Nat) : Bool :=
  seat == 0 || (match s.lanePort n with | some p => s.ownsPort seat p | none => false)

/-- ACTIVE_PORTS of a group (R402). -/
def State.showGroup (s : State) (g : Nat) : State :=
  s.wr F.LAN_GRP_STATUS_ACTIVE_PORTS g (((List.range 32).filter (fun i => s.portState (32 * g + i) == 5)).length)

/-- The group's clock and PLL stand (R399). -/
def State.groupOk (s : State) (g : Nat) : Bool := s.on F.LAN_GRP_STATUS_REF_OK g && s.on F.LAN_GRP_STATUS_PLL_LOCK g

/-- A port enters a stage of R382; the attempt is counted. -/
def State.enterStage (s : State) (p stage tick : Nat) : State :=
  let s := (s.wr F.LAN_PORT_STATUS_STATE p stage).setLan (fun l => { l with since := l.since.put p tick 0, stable := l.stable.put p tick 0 })
  if stage < 5 then s.bump 14 1 stage else s

/-- Every lane of a port. -/
def State.eachLane (s : State) (p : Nat) (f : State → Nat → State) : State := (s.lanesOf p).foldl f s

/-- Lock and signal of a lane are lost. -/
def State.unlockLane (s : State) (n : Nat) : State :=
  (((s.wr F.LAN_LANE_STATUS_SIGNAL n 0).wr F.LAN_LANE_STATUS_BIT_LOCK n 0).wr F.LAN_LANE_STATUS_BLOCK_LOCK n 0).wr
    F.LAN_LANE_STATUS_RX_INVERTED n 0

/-- A lane takes a snapshot of its receive coefficients (R395). -/
def State.takeSnapshot (s : State) (n : Nat) : State :=
  ((s.setLan (fun l => { l with
    snap := l.snap.put n (l.coef.get n 0 + 1) 0, snapTick := l.snapTick.put n s.now 0 })).wr F.LAN_LANE_SNAP_SNAP_FOM n (s.rd F.LAN_LANE_FOM_VALUE n)).wr
    F.LAN_LANE_SNAP_SNAP_AGE_S n 0
/-- A lane loads its snapshot, if it has one (R395). -/
def State.loadSnapshot (s : State) (n : Nat) : State :=
  match s.lan.snap.get n 0 with
  | 0 => s
  | c + 1 => s.setLan (fun l => { l with coef := l.coef.put n c 0 })
/-- The snapshot of a lane is cleared (R395). -/
def State.clearSnapshot (s : State) (n : Nat) : State :=
  ((s.setLan (fun l => { l with
    snap := l.snap.erase n, snapTick := l.snapTick.erase n, snapSec := l.snapSec.erase n, low := l.low.erase n,
    rolled := l.rolled.filter (fun x => x != n) })).rst F.LAN_LANE_SNAP_SNAP_FOM n).rst F.LAN_LANE_SNAP_SNAP_AGE_S n

/-- Full bring-up of a port begins at DETECT (R382, R383, R395). -/
def State.restart (s : State) (p tick : Nat) : State :=
  let s := s.eachLane p (fun s n => (s.unlockLane n).clearSnapshot n)
  (((s.setLan (fun l => { l with quick := l.quick.erase p })).wr F.LAN_PORT_STATUS_TX_EI p 1).wr F.LAN_PORT_STATUS_RX_EI p 0).enterStage
    p 1 tick

/-- A stage fails: counted, and back to DETECT (R382). -/
def State.stageFail (s : State) (p : Nat) : State :=
  ((s.bump 14 2 (s.portState p)).raiseBits F.LAN_GRP_INT_STATUS_BRINGUP_FAIL (p / 32) 1).restart p s.now

/-- R389: a further cause in the tick in which the port left ACTIVE: LAST_DOWN shows the lowest. -/
def State.lowerCause (s : State) (p cause : Nat) : State :=
  s.when (s.lan.downAt.get p 0 == s.now + 1 && decide (cause < s.rd F.LAN_PORT_STATUS_LAST_DOWN p)) (fun s =>
    s.wr F.LAN_PORT_STATUS_LAST_DOWN p cause)

/-- A port leaves ACTIVE for a cause of R389, in this tick; `quick` where a quick relock may follow (R390). -/
def State.leaveActive (s : State) (p cause : Nat) (quick : Bool := true) : State :=
  let s := s.setLan (fun l => { l with downAt := l.downAt.put p (s.now + 1) 0 })
  let s := ((s.wr F.LAN_PORT_STATUS_LAST_DOWN p cause).bump 14 4 cause).raiseBits F.LAN_GRP_INT_STATUS_LINK_DOWN (p / 32) 1
  let s := (s.setLan (fun l => { l with ei := l.ei.erase p, wake := l.wake.erase p })).portLost p (cause != 5)
  let s := (s.wr F.LAN_PORT_STATUS_RX_EI p 0).wr F.LAN_PORT_STATUS_TX_EI p 0
  if quick ∧ cause ≤ 4 ∧ s.on F.LAN_PORT_CTRL_QUICK_EN p then
    let s := s.eachLane p (fun s n => (s.unlockLane n).loadSnapshot n)
    (((s.eachLane p (fun s n => s.wr F.LAN_LANE_STATUS_SIGNAL n (b2n (cause != 2)))).setLan (fun l => { l with
      quick := l.quick.put p (s.now + 1) 0 })).enterStage p 3 (s.now + 1)).showGroup (p / 32)
  else if cause = 5 then s.showGroup (p / 32)
  else (s.restart p s.now).showGroup (p / 32)

/-! ### Bring-up -/

/-- PORT_START: START = 1 (R382, R391, R392, R398, R403). -/
def State.portStart (s : State) (seat p : Nat) : Except Status State := do
  need (s.ownsPort seat p) .notOwner
  need (s.on F.LAN_PORT_CFG_EN p) .notPermitted
  need (s.tsu.cal.all (fun r => r.port != p)) .busy
  if s.on F.LAN_PORT_CTRL_START p then pure s
  else
    let down := (s.lanesOf p).any (fun n => s.rd F.LAN_LANE_STATUS_POWER n == 2)
    let s := (s.wr F.LAN_PORT_CTRL_START p 1).loadDelays p (s.rd F.LAN_PORT_CFG_MODE p)
    let s := s.eachLane p (fun s n => s.wr F.LAN_LANE_STATUS_POWER n 0)
    pure (s.restart p (if down then s.now + 160000 else s.now))

/-- A port stops at whatever stage it has reached (R389 cause 5, R392). -/
def State.stopPort (s : State) (p : Nat) : State :=
  let s := s.wr F.LAN_PORT_CTRL_START p 0
  let s := if s.portState p = 5 then s.leaveActive p 5 else s.lowerCause p 5
  let s := s.eachLane p (fun s n => (s.unlockLane n).wr F.LAN_LANE_STATUS_POWER n (if 3 ≤ s.rd F.PWR_STATUS_STEP then 2 else 1))
  ((s.setLan (fun l => { l with quick := l.quick.erase p, since := l.since.erase p, stable := l.stable.erase p })).wr
    F.LAN_PORT_STATUS_STATE p 0).wr F.LAN_PORT_STATUS_TX_EI p 1

/-- A bring-up event of a port in a stage whose group has its clock, and has had it for 1 ms after a loss (R399). -/
def State.inStage (s : State) (p stage : Nat) : Bool :=
  s.live && s.groupOk (p / 32) && !s.lan.refWait.contains (p / 32) && s.portState p == stage

/-- DETECT: which lanes of the port see a termination in this measurement: one every 1 ms from the stage's beginning (R383) (DESIGN CHOICE,
log 97). -/
def execDetect (port : Fin 512) (seen : BitVec 8) (s : State) : Host.Outcome State Fault Refusal :=
  let p := port.val
  .next (s.when (s.inStage p 1 && decide (s.lan.since.get p 0 ≤ s.now) && (s.now - s.lan.since.get p 0) % 800000 == 0
      && (List.range (modeLanes (s.rd F.LAN_PORT_CFG_MODE p))).all (fun i => bit seen.toNat i))
    (fun s => (s.wr F.LAN_PORT_STATUS_TX_EI p 0).enterStage p 2 s.now))

/-- R381: the precoding in force: by training, off, or on. -/
def precode (setting : Nat) (trained : Bool) : Nat := if setting = 0 then b2n trained else if setting = 1 then 0 else 1

/-- TRAIN_DONE: training ends on every lane (R384); each takes its first snapshot (R395) (DEDUCED, log 45). -/
def execTrainDone (port : Fin 512) (lanes : List Trained) (s : State) : Host.Outcome State Fault Refusal :=
  let p := port.val
  let chip := s.rd F.LAN_PORT_CFG_REACH p == 2
  .next (s.when (s.inStage p 2 && decide (lanes.length = modeLanes (s.rd F.LAN_PORT_CFG_MODE p))
      && (!chip || decide (s.lan.since.get p 0 + 1600000 ≤ s.now))) (fun s =>
    let mode := s.rd F.LAN_PORT_CFG_PRECODE p
    let s := (lanes.zipIdx).foldl (fun s (t, i) =>
      let n := p + i
      let w := t.taps.toNat
      let s := if chip then s else (((s.wr F.LAN_LANE_TX_COEF_C_M2 n w).wr F.LAN_LANE_TX_COEF_C_M1 n (w / 2 ^ 8)).wr
        F.LAN_LANE_TX_COEF_C_0 n (w / 2 ^ 16)).wr F.LAN_LANE_TX_COEF_C_P1 n (w / 2 ^ 24)
      let s := (s.wr F.LAN_LANE_STATUS_PRECODE_RX n (precode mode (t.precodeRx && !chip))).wr F.LAN_LANE_STATUS_PRECODE_TX n
        (precode mode (t.precodeTx && !chip))
      ((s.wr F.LAN_LANE_STATUS_SIGNAL n 1).setLan (fun l => { l with coef := l.coef.put n t.rx 0 })).takeSnapshot n) s
    s.enterStage p 3 s.now))

/-- The lanes have bit lock: their latest figure of merit reaches FOM_MIN (R385). -/
def State.bitLock (s : State) (p : Nat) : Bool :=
  (s.lanesOf p).all (fun n => decide (s.rd F.LAN_FOM_CFG_FOM_MIN (p / 32) ≤ s.rd F.LAN_LANE_FOM_VALUE n))

/-- BLOCK_LOCK: every lane has found its markers, as many in a row as LOCK_GOOD asks (R386, R387): the lane that carries PCS lane 0, the skew in ticks, the deskew
depth in fine units, and which lanes are inverted on the board. A lane with POL_AUTO 0 locks only as RX_INVERT says (DEDUCED, log 45). -/
def execBlockLock (port : Fin 512) (lock : PcsLock) (skew deskew : Nat) (inverted : BitVec 8) (s : State) :
    Host.Outcome State Fault Refusal :=
  let p := port.val
  .next (s.when (s.inStage p 3 && decide (s.lan.since.get p 0 ≤ s.now) && s.bitLock p
      && decide (s.rd F.LAN_LOCK_CFG_LOCK_GOOD (p / 32) ≤ lock.markers) && (s.lanesOf p).all (fun n => s.on F.LAN_LANE_CTRL_POL_AUTO n
        || (bit inverted.toNat (n - p) == s.on F.LAN_LANE_CTRL_RX_INVERT n))) (fun s =>
    if 80 < skew then s.bump 14 3
    else
      let s := s.eachLane p (fun s n =>
        (((s.wr F.LAN_LANE_STATUS_SIGNAL n 1).wr F.LAN_LANE_STATUS_BIT_LOCK n 1).wr F.LAN_LANE_STATUS_BLOCK_LOCK n 1).wr F.LAN_LANE_STATUS_RX_INVERTED n
          (b2n (bit inverted.toNat (n - p))))
      ((s.wr F.LAN_PORT_STATUS_PCS0_LANE p lock.pcs0.val).wr F.TSU_VAR_DESKEW_VALUE p deskew).enterStage p 4 s.now))

/-- The limit of a stage, in ticks (R382). -/
def State.stageLimit (s : State) (p stage : Nat) : Option Nat :=
  match stage with
  | 2 => some (s.rd F.LAN_TIMER0_TRAIN_MS (p / 32) * 800000)
  | 3 => some (s.rd F.LAN_TIMER0_LOCK_MS (p / 32) * 800000)
  | 4 => some 400000000
  | _ => none

/-- STAGE_TIMEOUT (R382). -/
def execStageTimeout (port : Fin 512) (s : State) : Host.Outcome State Fault Refusal :=
  let p := port.val
  .next (s.when s.live (fun s =>
    match s.stageLimit p (s.portState p) with
    | some n => if s.lan.since.get p 0 + n ≤ s.now then s.stageFail p else s
    | none => s))

/-- EXCHANGE_BREAK: the STABLE_US timer restarts (R388). -/
def execExchangeBreak (port : Fin 512) (s : State) : Host.Outcome State Fault Refusal :=
  .next (s.when (s.live && s.portState port.val == 4) (fun s =>
    s.setLan (fun l => { l with stable := l.stable.put port.val s.now 0 })))

/-- LINK_UP: EXCHANGE has held for STABLE_US and the port enters ACTIVE (R388, R389, R251, R235). -/
def execLinkUp (port : Fin 512) (s : State) : Host.Outcome State Fault Refusal :=
  let p := port.val
  .next (s.when (s.inStage p 4 && decide (s.lan.stable.get p 0 + 800 * s.rd F.LAN_TIMER1_STABLE_US (p / 32) ≤ s.now)) (fun s =>
    let quick := s.lan.quick.get p 0 != 0
    let s := if quick then s.bump 14 5 else s
    let s := ((s.enterStage p 5 s.now).wr F.LAN_PORT_STATUS_QUICK p (b2n quick)).wr F.LAN_PORT_STATUS_PPM_ALARM p 0
    let s := (s.setLan (fun l => { l with quick := l.quick.erase p, used := l.used.put p s.now 0 })).setQsg
      (fun q => { q with flap := q.flap.erase p, upPorts := q.upPorts ++ [p] })
    ((((s.bump 14 4).raiseBits F.LAN_GRP_INT_STATUS_LINK_UP (p / 32) 1)).showGroup (p / 32)).markReturn p))

/-- Causes 1 to 4 of R389, the lowest that a port's receiver shows: block lock lost after LOCK_BAD invalid markers in a row (R386), signal
lost unannounced, a fault received for 800 ticks without a break, and hi_ser under HISER_DOWN. A receiver at rest keeps its lock (R397). -/
def State.downCause (s : State) (p badMarkers : Nat) (signalLost : Bool) (faultTicks : Nat) (hiSer : Bool) : Option Nat :=
  let rest := s.on F.LAN_PORT_STATUS_RX_EI p
  if !rest && decide (s.rd F.LAN_LOCK_CFG_LOCK_BAD (p / 32) ≤ badMarkers) then some 1
  else if !rest && signalLost then some 2
  else if 800 ≤ faultTicks then some 3
  else if hiSer && s.on F.LAN_PORT_CTRL_HISER_DOWN p then some 4
  else none

/-- LINK_DOWN: the receiver of a port shows in this tick what takes the link down (R389). -/
def execLinkDown (port : Fin 512) (loss : LinkLoss) (s : State) : Host.Outcome State Fault Refusal :=
  let p := port.val
  .next (s.whenLive (fun s =>
    match s.downCause p loss.badMarkers loss.signalLost loss.faultTicks loss.hiSer with
    | some c => if s.portState p = 5 then s.leaveActive p c else s.lowerCause p c
    | none => s))

/-- QUICK_TIMEOUT: a quick relock not ended within QUICK_US (R390). -/
def execQuickTimeout (port : Fin 512) (s : State) : Host.Outcome State Fault Refusal :=
  let p := port.val
  let d := s.lan.quick.get p 0
  .next (s.when (s.live && d != 0 && decide (d - 1 + 800 * s.rd F.LAN_TIMER1_QUICK_US (p / 32) ≤ s.now)) (fun s => s.restart p s.now))

/-- FORCE_RETRAIN: a started port restarts at DETECT; from ACTIVE that counts as cause 1 (R390). -/
def State.forceRetrain (s : State) (p : Nat) : State :=
  if !s.on F.LAN_PORT_CTRL_START p then s
  else
    if s.portState p = 5 then s.leaveActive p 1 false else s.restart p s.now

/-! ### Figure of merit (R394, R395) -/

/-- floor(160 × log10(num / den)), clamped to 0 .. 1023: the greatest such k with 10^k × den^160 ≤ num^160 (DEDUCED, log 45). -/
def fomOf (num den : Nat) : Nat :=
  if den = 0 then 1023
  else [512, 256, 128, 64, 32, 16, 8, 4, 2, 1].foldl (fun k b =>
    if 10 ^ (k + b) * den ^ 160 ≤ num ^ 160 then k + b else k) 0
/-- R394: the figure of merit of a window. -/
def windowFom (w : Window) : Nat :=
  let d := min (w.mu1 - w.mu0) (min (w.mu2 - w.mu1) (w.mu3 - w.mu2))
  fomOf (d * d).toNat (4 * w.variance)

/-- ROLLBACK_N low measurements in a row: the snapshot is loaded, once (R395). -/
def State.rollback (s : State) (n : Nat) : State :=
  if s.lan.rolled.contains n then s.wr F.LAN_LANE_STATUS_FOM_LOW n 1
  else (((s.loadSnapshot n).setLan (fun l => { l with low := l.low.erase n, rolled := l.rolled ++ [n] })).bump 14 6).raiseBits
    F.LAN_GRP_INT_STATUS_ROLLBACK (n / 32) 1

/-- SNAP_AGE_S of a lane (R404). -/
def State.showSnapAge (s : State) (n : Nat) : State :=
  if s.lan.snap.get n 0 = 0 then s
  else s.wr F.LAN_LANE_SNAP_SNAP_AGE_S n (min 65535 ((s.now - s.lan.snapTick.get n 0) / 800000000))

/-- The measurement of a lane: FOM, MIN_SEEN, bit lock from LOCK on (R385), and the rules of R395 while its port is ACTIVE. -/
def State.fomMeasured (s : State) (p n fom : Nat) : State :=
  let s := (s.wr F.LAN_LANE_FOM_VALUE n fom).rcMin F.LAN_LANE_FOM_MIN_SEEN n fom
  let least := s.rd F.LAN_FOM_CFG_FOM_MIN (n / 32)
  let s := s.when (decide (3 ≤ s.portState p ∧ s.portState p ≤ 5)) (fun s => s.wr F.LAN_LANE_STATUS_BIT_LOCK n (b2n (decide (least ≤ fom))))
  if s.portState p ≠ 5 then s
  else if least ≤ fom then
    let s := (s.setLan (fun l => { l with low := l.low.erase n, rolled := l.rolled.filter (fun x => x != n) })).wr
      F.LAN_LANE_STATUS_FOM_LOW n 0
    if least + s.rd F.LAN_FOM_CFG_SNAP_MARGIN (n / 32) ≤ fom ∧ s.lan.snapSec.get n 0 ≠ s.now / 800000000 + 1 then
      (s.setLan (fun l => { l with snapSec := l.snapSec.put n (s.now / 800000000 + 1) 0 })).takeSnapshot n
    else s
  else
    let k := s.lan.low.get n 0 + 1
    let s := s.setLan (fun l => { l with low := l.low.put n k 0 })
    if s.rd F.LAN_FOM_CFG_ROLLBACK_N (n / 32) ≤ k then s.rollback n else s

/-- FOM_MEASURE: every 1 ms, on a lane with signal (R394); its receiver adapts while the port is ACTIVE (R395). -/
def execFomMeasure (lane : Fin 512) (w : Window) (s : State) : Host.Outcome State Fault Refusal :=
  let n := lane.val
  .next (s.once (1024 + n) (s.live && s.now % 800000 == 0 && (s.on F.LAN_LANE_STATUS_SIGNAL n
      || (s.lanePort n).any (fun p => s.portState p == 3))) (fun s =>
    match s.lanePort n with
    | none => s
    | some p =>
      if s.on F.LAN_PORT_STATUS_RX_EI p then s
      else
        let s := s.wr F.LAN_LANE_STATUS_SIGNAL n 1
        let s := if s.on F.LAN_LANE_CTRL_ADAPT_EN n ∧ s.portState p = 5 then s.setLan (fun l => { l with coef := l.coef.put n w.rx 0 }) else s
        let s := s.wr F.LAN_PORT_STATUS_PPM p w.ppm.toNat
        let s := (((s.bump 14 9 p w.inserted).bump 14 10 p w.deleted).bump 14 12 p w.corrected).bump 14 13 p w.uncorrectable
        s.fomMeasured p n (windowFom w)))

/-! ### Electrical idle (R396, R397) -/

/-- A deterministic copy or a flow-control frame waits for the transmitter of a port. -/
def State.portCalled (s : State) (p : Nat) : Bool :=
  s.qsg.held.any (fun h => h.copy.egr == p) || s.qsg.seq.any (fun x => x.copy.egr == p) || s.buf.flow.any (fun x => x.port == p)
/-- Something waits for the transmitter of a port. -/
def State.portWants (s : State) (p : Nat) : Bool := s.qsg.queue.any (fun c => c.egr == p) || s.portCalled p
/-- The head of a queue of the port is eligible (R228). -/
def State.portEligible (s : State) (p var : Nat) : Bool :=
  (List.range 16).any (fun n => match s.headOf p n with
    | some c => s.eligible p n var s.selectEntry c
    | none => false)

/-- EI_ENTRY: a port idle for IDLE_US announces its rest, and 800 ticks later its transmitter is in electrical idle (R396) (DEDUCED, log 45). -/
def execEiEntry (port : Fin 512) (s : State) : Host.Outcome State Fault Refusal :=
  let p := port.val
  let t := s.lan.ei.get p 0
  .next (s.when (s.live && s.portState p == 5) (fun s =>
    if t = 0 then
      s.when (s.on F.LAN_PORT_CTRL_EI_EN p && !s.portWants p && s.qsg.txs.all (fun x => x.port != p)
          && decide (s.lan.used.get p 0 + 800 * s.rd F.LAN_PORT_EI_IDLE_US p ≤ s.now))
        (fun s => (s.setLan (fun l => { l with ei := l.ei.put p (s.now + 1) 0 })).bump 14 7)
    else s.when (decide (t - 1 + 800 ≤ s.now)) (fun s => s.wr F.LAN_PORT_STATUS_TX_EI p 1)))

/-- EI_EXIT: a copy for a resting port is eligible, a deterministic one is pending, or a flow-control frame waits: the port's first frame
starts 2,400 ticks later (R396) (DEDUCED, log 45). -/
def execEiExit (wake : PortWake) (s : State) : Host.Outcome State Fault Refusal :=
  let p := wake.port.val
  .next (s.when (s.live && s.resting p && (s.portCalled p || s.portEligible p wake.var)) (fun s =>
    ((s.setLan (fun l => { l with ei := l.ei.erase p, wake := l.wake.put p (s.now + 2400) 0 })).wr F.LAN_PORT_STATUS_TX_EI p 0).bump
      14 8))

/-- RX_EI: after the announcement the receiver loses signal, freezes its adaptation and stays ACTIVE (R397). -/
def execRxEi (port : Fin 512) (s : State) : Host.Outcome State Fault Refusal :=
  let p := port.val
  .next (s.when (s.live && s.portState p == 5) (fun s =>
    (s.eachLane p (fun s n => s.wr F.LAN_LANE_STATUS_SIGNAL n 0)).wr F.LAN_PORT_STATUS_RX_EI p 1))

/-- RX_SIGNAL_RETURN: the lanes retrim; one whose first measurement is below FOM_MIN loads its snapshot; without block lock
within 8,000 ticks the port leaves ACTIVE with cause 6 (R397). -/
def execRxSignalReturn (port : Fin 512) (ok : Bool) (foms : List (Fin 1024)) (deskew : Nat) (s : State) :
    Host.Outcome State Fault Refusal :=
  let p := port.val
  .next (s.when (s.live && s.portState p == 5 && s.on F.LAN_PORT_STATUS_RX_EI p) (fun s =>
    if !ok then s.leaveActive p 6
    else
      let s := ((s.lanesOf p).zip foms).foldl (fun s (n, f) =>
        let s := (s.wr F.LAN_LANE_FOM_VALUE n f.val).rcMin F.LAN_LANE_FOM_MIN_SEEN n f.val
        if f.val < s.rd F.LAN_FOM_CFG_FOM_MIN (n / 32) then s.loadSnapshot n else s) s
      ((s.eachLane p (fun s n => s.wr F.LAN_LANE_STATUS_SIGNAL n 1)).wr F.LAN_PORT_STATUS_RX_EI p 0).wr F.TSU_VAR_DESKEW_VALUE p deskew))

/-! ### Group clocks (R399, R400) -/

/-- GROUP_REF_LOSS: the group's reference clock, or its PLL's lock, is lost. -/
def execGroupRefLoss (group : Fin 16) (clock : Bool) (s : State) : Host.Outcome State Fault Refusal :=
  let g := group.val
  .next (s.whenLive (fun s =>
    let s := (if clock then s.wr F.LAN_GRP_STATUS_REF_OK g 0 else s).wr F.LAN_GRP_STATUS_PLL_LOCK g 0
    let s := s.setLan (fun l => { l with pllSince := l.pllSince.erase g })
    let s := (s.raiseBits F.LAN_GRP_INT_STATUS_REF_LOST g 1).raiseFault 37 1 1 g 0
    let s := s.setLan (fun l => { l with refWait := (g :: l.refWait).dedup })
    (List.range 32).foldl (fun s i => if s.portState (32 * g + i) = 5 then s.leaveActive (32 * g + i) 7 else s) s))

/-- GROUP_PLL_LOCK: the clock is present and the group's PLL has locked to it (R399, R400). -/
def execGroupPllLock (group : Fin 16) (s : State) : Host.Outcome State Fault Refusal :=
  let g := group.val
  .next (s.when (!s.pins.porst && !s.pins.tripped) (fun s =>
    ((s.wr F.LAN_GRP_STATUS_REF_OK g 1).wr F.LAN_GRP_STATUS_PLL_LOCK g 1).setLan (fun l => { l with pllSince := l.pllSince.put g (s.now + 1) 0 })))

/-- GROUP_REF_RESTORE: the PLL has been locked again for 1 ms: started ports of the group restart at DETECT (R399). -/
def execGroupRefRestore (group : Fin 16) (s : State) : Host.Outcome State Fault Refusal :=
  let g := group.val
  let t := s.lan.pllSince.get g 0
  .next (s.when (s.live && s.groupOk g && t != 0 && decide (t - 1 + 800000 ≤ s.now)) (fun s =>
    let s := s.setLan (fun l => { l with pllSince := l.pllSince.erase g, refWait := l.refWait.filter (fun x => x != g) })
    (List.range 32).foldl (fun s i => if s.on F.LAN_PORT_CTRL_START (32 * g + i) then s.restart (32 * g + i) s.now else s) s))

end Sys2Proof.Machine
end

