-- ==== Sys2Proof/Machine/Management.lean ====
section
/-! DEFINITION. The management port (R411 to R415): its link, half duplex and the MDIO master. -/

namespace Sys2Proof.Machine

/-- The link of port 517 goes down (R412): R250, without a flap-hold. -/
def State.mgmtDown (s : State) : State :=
  let waiting := s.csma.retry
  let s := s.setCsma (fun c => { phyLink := c.phyLink, phySpeed := c.phySpeed, phyFull := c.phyFull })
  let s := match waiting with | some c => s.dropCopy c 42 | none => s
  ((s.wr F.MAC_MGMT_STATUS_LINK 0 0).raiseBits F.MAC_INT_STATUS_MGMT_LINK 0 1).portLost 517 false

/-- R411, R412: port 517 is up while EN is 1 and the PHY reports link; its speed and duplex are the PHY's with AUTO, else those set. Half
duplex at 1,000 Mb/s keeps it down. -/
def State.mgmtJudge (s : State) : State :=
  let auto := s.on F.MAC_MGMT_CFG_AUTO
  let link := s.on F.MAC_MGMT_CFG_EN && s.csma.phyLink
  let sp := if auto then s.csma.phySpeed else s.rd F.MAC_MGMT_CFG_SPEED
  let du := if auto then b2n s.csma.phyFull else s.rd F.MAC_MGMT_CFG_DUPLEX
  let bad := sp == 2 && du == 0
  let s := if link ∧ bad then s.raiseBits F.MAC_INT_STATUS_MGMT_BAD_MODE 0 1 else s
  let up := link && !bad
  let s := if s.on F.MAC_MGMT_STATUS_LINK ∧ !up then s.mgmtDown
    else if !s.on F.MAC_MGMT_STATUS_LINK ∧ up then (s.wr F.MAC_MGMT_STATUS_LINK 0 1).raiseBits F.MAC_INT_STATUS_MGMT_LINK 0 1
    else s
  if link then (s.wr F.MAC_MGMT_STATUS_SPEED 0 sp).wr F.MAC_MGMT_STATUS_DUPLEX 0 du else s

/-- MGMT_LINK_CHANGE: the PHY reports its link, speed and duplex (R411, R412). -/
def execMgmtLinkChange (link : Bool) (speed : Fin 3) (duplex : Bool) (s : State) : Host.Outcome State Fault Refusal :=
  .next (s.whenLive (fun s => (s.setCsma (fun c => { c with phyLink := link, phySpeed := speed.val, phyFull := duplex })).mgmtJudge))

/-- COLLISION (R413): within 512 bit times the frame stops after a 32-bit jam and backs off for r slot times, r drawn from the
random source below 2^min(n, 10); the 16th collision, or a late one, drops it. -/
def execCollision (r : Nat) (s : State) : Host.Outcome State Fault Refusal :=
  .next (s.when (s.live && s.portUp 517 && s.halfDuplex) (fun s =>
    match s.qsg.txs.find? (fun t => t.port == 517) with
    | none => s
    | some t =>
      match t.copy with
      | none => s
      | some c =>
        let bt := s.bitTicks
        let n := s.csma.collisions + 1
        let s := (s.setQsg (fun q => { q with txs := q.txs.erase t })).bump 15 5
        let s := s.setCsma (fun x => { x with carrier := s.now + 32 * bt })
        if t.ball + 512 * bt < s.now then (s.setCsma (fun x => { x with collisions := 0 })).dropCopy c 57
        else if n = 16 then (s.setCsma (fun x => { x with collisions := 0 })).dropCopy c 56
        else
          let slots := r % 2 ^ min n 10
          s.setCsma (fun x => { x with
            collisions := n, retry := some c, backoff := some (s.now + 32 * bt + slots * 512 * bt) })))

/-- BACKOFF_EXPIRE: the transmitter defers again (R413). -/
def execBackoffExpire (s : State) : Host.Outcome State Fault Refusal :=
  .next (s.whenLive (fun s =>
    match s.csma.backoff with
    | some t => if t ≤ s.now then s.setCsma (fun x => { x with backoff := none }) else s
    | none => s))

/-- MDIO_GO: GO starts one Clause 22 read or write (R415). -/
def State.mdioGo (s : State) (phy reg : Nat) (isWrite : Bool) : Except Status State := do
  need (!s.on F.MAC_MDIO_CTRL_BUSY) .busy
  pure (((((s.wr F.MAC_MDIO_CTRL_PHY_ADDR 0 phy).wr F.MAC_MDIO_CTRL_REG 0 reg).wr F.MAC_MDIO_CTRL_OP 0 (b2n isWrite)).wr
    F.MAC_MDIO_CTRL_BUSY 0 1).bump 15 8)

/-- MDIO_DONE: the operation ends; `data` is the PHY's reply to a read, none when it gave no turnaround (R415). -/
def execMdioDone (data : Option (BitVec 16)) (s : State) : Host.Outcome State Fault Refusal :=
  .next (s.when (s.live && s.on F.MAC_MDIO_CTRL_BUSY) (fun s =>
    let s := s.wr F.MAC_MDIO_CTRL_BUSY 0 0
    if s.on F.MAC_MDIO_CTRL_OP then s
    else match data with
      | some d => s.hwWr F.MAC_MDIO_DATA_VALUE 0 d.toNat
      | none => (s.hwWr F.MAC_MDIO_DATA_VALUE 0 0xFFFF).raiseBits F.MAC_INT_STATUS_MDIO_NOACK 0 1))

end Sys2Proof.Machine
end

