-- ==== Sys2Proof/Machine/Troupe.lean ====
section
/-! DEFINITION. The Troupe engine (chapter 11): control frames (R301 to R303), the Lead (R299, R300), bases (R304, R305),
lift orders (R306 to R310), grants (R311) and losses (R312). -/

namespace Sys2Proof.Machine

def State.setTrp (s : State) (f : Trp → Trp) : State := { s with trp := f s.trp }
def State.peer (s : State) (n : Nat) : Peer := nth s.trp.peers n {}
def State.setPeer (s : State) (n : Nat) (f : Peer → Peer) : State := s.setTrp (fun t => { t with peers := upd t.peers n f })

def State.member (s : State) : Nat := s.rd F.TRP_CTRL_MEMBER_ID
def State.isLead (s : State) : Bool := s.rd F.TRP_STATUS_STATE == 3
/-- Ticks of a HELLO interval, and of LOSS_COUNT of them. -/
def State.helloTicks (s : State) : Nat := 800 * max 10 (s.rd F.TRP_TIMING_HELLO_US)
def State.lossTicks (s : State) : Nat := s.rd F.TRP_TIMING_LOSS_COUNT * s.helloTicks
def State.periodTicks (s : State) : Nat := 800000 * max 1 (s.rd F.TRP_BUDGET_PERIOD_MS)

/-- R306: the lift that a frequency requires; none at full clock. -/
def State.liftFor (s : State) (f : Nat) : Nat :=
  if 1600 ≤ f then 0 else ceilDiv (224000 - 140 * f) f + s.rd F.TRP_LIFT_CFG_MARGIN_NS
/-- REQ_NS of this member (R306): for the frequency it must go to, or that it runs at. -/
def State.reqNs (s : State) : Nat :=
  match s.pwr.target with
  | some (f, _) => s.liftFor f
  | none => s.liftFor (s.rd F.PWR_STATUS_CORE_MHZ)

/-- CRITICAL (R311): a held or sequenced copy was started within the last period. -/
def State.critical (s : State) : Bool := s.qsg.lastDet != 0 && decide (s.now < s.qsg.lastDet - 1 + s.periodTicks)

/-- The other members of the live set, and all of it (R300). -/
def State.liveOthers (s : State) : List Nat := (List.range 8).filter (fun n => n != s.member && s.on F.TRP_PEER_LIVE n)
def State.liveSet (s : State) : List Nat :=
  if s.rd F.TRP_STATUS_STATE = 1 then s.liveOthers else s.member :: s.liveOthers
/-- STATUS.LIVE (R315). -/
def State.showLive (s : State) : State := s.wr F.TRP_STATUS_LIVE 0 (sumOf s.liveSet (fun n => 2 ^ n))

/-! ### Control frames (R301, R302) -/

/-- The header of R301. -/
def State.trpHeader (s : State) (type : Nat) : Bytes :=
  be 1 1 ++ be 1 type ++ be 1 s.member
    ++ be 1 (b2n s.isLead + 2 * b2n s.critical + 4 * b2n (s.rd F.PWR_STATUS_CORE_MHZ == 1600))
    ++ be 4 (s.rd F.TRP_TROUPE_ID_VALUE) ++ be 4 s.trp.seq ++ be 4 (s.rd F.TRP_LIFT_SEQ_VALUE) ++ be 4 (s.rd F.TRP_LIFT_LIFT_NS)
    ++ be 4 s.reqNs

/-- An instant of a body: view seconds, then nanoseconds (R302). -/
def instantBytes (v : Nat) : Bytes := be 6 (viewSec v) ++ be 4 (viewNs v)
def instantAt (b : Bytes) (n : Nat) : Nat := viewOf (beAt b n 6) (beAt b (n + 6) 4) 0

/-- The ports that carry control frames, in the order of LINK. -/
def State.linkPorts (s : State) : List Nat :=
  ((List.range 16).filter (fun i => s.on F.TRP_LINK_VALID i)).map (fun i => s.rd F.TRP_LINK_PORT i)

/-- A control frame is sent on every listed port (R301). -/
def State.sendCtl (s : State) (type : Nat) (body : Bytes) : State :=
  let b := be 6 0x034B540F0001 ++ be 6 (s.rd2 F.TRP_SRC_MAC_LO_VALUE F.TRP_SRC_MAC_HI_VALUE) ++ be 2 0x88B5 ++ s.trpHeader type ++ body
  let b := b ++ zeros (60 - b.length)
  let ports := s.linkPorts
  let s := s.wr F.TRP_GRANT_CRITICAL 0 (b2n s.critical)
  let f := s.ownFrame (ports.headD 0) (b ++ fcsOf b)
  let s := s.setFwd (fun w => { w with nextFrame := w.nextFrame + 1 })
  let s := s.setTrp (fun t => { t with seq := (t.seq + 1) % 2 ^ 32 })
  ports.foldl (fun s p => s.admitOwn { f.whole with egr := p, queue := s.rd F.TRP_CTRL_QUEUE, admitted := s.now }) (s.bump 11 1 type)

/-- The body of a HELLO (R302). -/
def State.helloBody (s : State) : Bytes :=
  be 1 (s.rd F.TRP_CTRL_LEAD_PRIO) ++ be 1 (s.rd F.TRP_STATUS_LEAD_ID) ++ be 2 s.pwr.periodMean ++ be 2 (s.rd F.PWR_DEMAND_DEMAND_W)
    ++ be 2 (s.rd F.PWR_CTRL_PKG_LIMIT_W)
/-- The body of a LIFT_ORDER (R302). -/
def LiftOrder.body (o : LiftOrder) : Bytes := be 4 o.number ++ be 4 o.lift ++ instantBytes o.due
/-- An ACK (R302). -/
def State.sendAck (s : State) (type number : Nat) (st : Status) : State := s.sendCtl 5 (be 1 type ++ be 4 number ++ be 1 st.code)

/-- The view LIFT_LEAD_US from now, rounded up to a whole microsecond (R305, R307). -/
def State.leadInstant (s : State) : Nat :=
  viewWrap ((ceilDiv (s.viewAt s.now 0 + s.rd F.TRP_TIMING_LIFT_LEAD_US * 65536000) 65536000 * 65536000 : Nat) : Int)

/-! ### Bases and lift in force (R304) -/

/-- L_NS of a profile and W_NS of an instance from their bases and the lift. -/
def State.loadL (s : State) (k : Nat) : State :=
  let v := s.rd F.TRP_BASE_BASE_L_NS k + s.rd F.TRP_LIFT_LIFT_NS
  (s.wr F.CLR_PROF_L_L_NS k (min v 1000000)).when (decide (1000000 < v)) (fun s => s.raiseBits F.TRP_INT_STATUS_L_CLAMPED 0 1)
def State.loadW (s : State) (m : Nat) : State :=
  let v := s.rd F.TRP_WBASE_BASE_W_NS m + s.rd F.TRP_LIFT_LIFT_NS
  (s.noteWindow (s.wr F.MSQ_INST_WINDOW_W_NS m (min v 20000)) m).when (decide (20000 < v) && s.on F.MSQ_INST_CTRL_ENABLE m) (fun s =>
    s.raiseBits F.MSQ_INT_STATUS_W_CLAMPED 0 1)
/-- Every L_NS and W_NS under R304; none while the engine is disabled. -/
def State.loadBases (s : State) : State :=
  s.when (s.on F.TRP_CTRL_ENABLE) (fun s =>
    (List.range 32).foldl (fun s m => s.loadW m) ((List.range 8).foldl (fun s k => s.loadL k) s))

/-- R261: the floor of a profile's kind. -/
def kindFloor (kind : Nat) : Nat := if kind = 1 then 1080 else 480

/-! ### Lift orders (R306 to R310) -/

/-- A pending lift commit is cancelled. -/
def ActKind.isLift : ActKind → Bool
  | .lift _ _ _ => true
  | _ => false
/-- R307: a new order supersedes the earlier ones whose instant has not been reached, and the one of its own tick, which has its
number. -/
def State.superseded (s : State) (number : Nat) (a : Action) : Bool :=
  match a.kind with
  | .lift n _ _ => n == number || decide (s.viewAt s.now 0 < a.due)
  | _ => false
def State.cancelLifts (s : State) (p : Action → Bool) : State :=
  let keep := s.syn.actions.filter (fun a => !p a)
  ({ s with syn := { s.syn with actions := keep } } : State).wr F.SYN_SCHED_STATUS_PENDING 0 keep.length

/-- R308 steps 1 and 2: the commit of an order takes a scheduled-action entry, or is refused. -/
def State.scheduleLift (s : State) (o : LiftOrder) : State × Status :=
  let s := s.cancelLifts (s.superseded o.number)
  if s.epoch = 0 then (s, .notPermitted)
  else if 256 ≤ s.syn.actions.length then (s, .tableFull)
  else
    let id := s.syn.nextAction
    let a : Action := { id := id, seat := 0, kind := .lift o.number o.lift 0, lateOk := true, raw := false, due := o.due, accepted := s.now,
                        lateAt := if o.due ≤ s.viewAt s.now 0 then some (s.now + 1) else none }
    (({ s with syn := { s.syn.takeId with actions := s.syn.actions ++ [a] } } : State).wr
      F.SYN_SCHED_STATUS_PENDING 0 (s.syn.actions.length + 1), .ok)

/-- A member has acknowledged the latest order. -/
def State.noteAcked (s : State) (n : Nat) : State :=
  (s.setTrp (fun t => { t with acked := (n :: t.acked).dedup })).wr F.TRP_PEER_ACKED n 1
/-- A new order is held; no member has acknowledged it. -/
def State.holdOrder (s : State) (o : LiftOrder) (mine : Bool) : State :=
  (List.range 8).foldl (fun s n => s.wr F.TRP_PEER_ACKED n 0) (s.setTrp (fun t => { t with order := some o, mine := mine, acked := [] }))

/-- The copies of a control frame that have not left are taken back, and its number is used again (R307: one order in a
tick). -/
def State.recall (s : State) (frame : Nat) : State :=
  let mine := s.qsg.queue.filter (fun c => c.frame.id == frame)
  let s := s.setQsg (fun q => { q with queue := q.queue.filter (fun c => c.frame.id != frame) })
  (mine.foldl (fun s c => s.release c) s).setTrp (fun t => { t with seq := (t.seq + 2 ^ 32 - 1) % 2 ^ 32 })

/-- The number of the latest order that this member knows of. -/
def State.lastNumber (s : State) : Nat :=
  let own := max ((s.trp.order.map (fun o => o.number)).getD 0) (s.rd F.TRP_LIFT_SEQ_VALUE)
  s.liveOthers.foldl (fun m n => max m (s.peer n).liftSeq) own

/-- R307: the Lead issues an order for a lift; a second one of the same tick takes the place of the first. -/
def State.issueOrder (s : State) (lift : Nat) : State :=
  let again := s.trp.order.filter (fun o => s.trp.mine && o.issued == s.now)
  let (s, number) := match again with
    | some o => (s.recall o.frame, o.number)
    | none => (s.bump 11 5, s.lastNumber + 1)
  let o : LiftOrder := { number := number, lift := lift, due := s.leadInstant, issued := s.now, frame := s.fwd.nextFrame }
  let s := s.holdOrder o true
  let (s, st) := s.scheduleLift o
  (s.when (st == .ok) (fun s => s.noteAcked s.member)).sendCtl 4 o.body

/-- The lift of the latest order, or the lift in force. -/
def State.orderedLift (s : State) : Nat := (s.trp.order.map (fun o => o.lift)).getD (s.rd F.TRP_LIFT_LIFT_NS)
/-- The greatest REQ_NS of the live set (R307). -/
def State.maxReq (s : State) : Nat := s.liveOthers.foldl (fun m n => max m (s.peer n).reqNs) s.reqNs

/-- R307, R309: the Lead orders a higher lift that a member requires, or lowers the lift when none requires it and the phase
allows it. -/
def State.leadCheck (s : State) : State :=
  s.when s.isLead (fun s =>
    let m := s.maxReq
    if s.orderedLift < m then s.issueOrder m
    else if m < s.orderedLift ∧ m < s.rd F.TRP_LIFT_LIFT_NS ∧ bit (s.rd F.TRP_LIFT_CFG_UNLIFT_PHASES) s.phase then s.issueOrder m
    else s)

/-- R309: a new Lead orders the greatest lift reported in its live set. -/
def State.newLead (s : State) : State :=
  let m := s.liveOthers.foldl (fun m n => max m (s.peer n).liftNs) 0
  if s.orderedLift < m then s.issueOrder (max m s.maxReq) else s

/-- R306: a lift that exceeds the one in force is asked for. -/
def State.askLift (s : State) : State :=
  s.when (s.on F.TRP_CTRL_ENABLE && decide (s.rd F.TRP_LIFT_LIFT_NS < s.reqNs)) (fun s => if s.isLead then s.leadCheck else s.sendCtl 3 [])

/-- A lift commit is applied (R308); `acked` and lateness are told in its record by the commit. -/
def State.applyLift (s : State) (number lift : Nat) (late : Bool) : State :=
  let s := ((s.wr F.TRP_LIFT_LIFT_NS 0 lift).wr F.TRP_LIFT_SEQ_VALUE 0 number).raiseBits F.TRP_INT_STATUS_LIFT_APPLIED 0 1
  let s := s.setTrp (fun t => { t with liftAt := some s.now })
  (if late then (s.raiseBits F.TRP_INT_STATUS_LIFT_LATE 0 1).bump 11 6 else s).loadBases

/-! ### The HELLO boundary (R299, R300, R312) -/

/-- R312: a member that has been silent too long. -/
def State.loseMember (s : State) (n : Nat) : State :=
  let s := ((s.setPeer n (fun p => { p with seq := none, lost := true })).wr F.TRP_PEER_LIVE n 0).raiseBits F.TRP_INT_STATUS_MEMBER_LOST 0 1
  let s := (s.raiseFault 7 3 1 n 0).bump 11 8
  if s.trp.lead = some n then (s.setTrp (fun t => { t with grants := [] })).wr F.TRP_GRANT_GRANT_W 0 0 else s
def State.silent (s : State) (n : Nat) : Bool :=
  match (s.peer n).heard with
  | some t => decide (t + s.lossTicks < s.now)
  | none => true
def State.dropSilent (s : State) : State :=
  (s.liveOthers.filter s.silent).foldl (fun s n => s.loseMember n) s

/-- LEAD_PRIO of a member of the live set. -/
def State.prioOf (s : State) (n : Nat) : Nat := if n = s.member then s.rd F.TRP_CTRL_LEAD_PRIO else (s.peer n).prio
/-- The least (LEAD_PRIO, MEMBER_ID) of the live set (R300). -/
def State.elect (s : State) : Option Nat :=
  s.liveSet.foldl (fun m n =>
    match m with
    | none => some n
    | some x => if s.prioOf n < s.prioOf x ∨ (s.prioOf n = s.prioOf x ∧ n < x) then some n else some x) none

/-- R299: JOINING lasts until time is valid, LOSS_COUNT intervals have passed, and no clash is in force. -/
def State.joining (s : State) : Bool :=
  !s.on F.TIM_STATUS_TIME_VALID || decide (s.trp.hellos < s.rd F.TRP_TIMING_LOSS_COUNT) || s.trp.clash.isSome

/-- The Lead and the state at a HELLO boundary (R299, R300). -/
def State.takeLead (s : State) : State :=
  let was := s.isLead
  let join := s.joining
  let s := s.wr F.TRP_STATUS_STATE 0 (if join then 1 else 2)
  let lead := s.elect
  let s := if join then s else s.wr F.TRP_STATUS_STATE 0 (if lead = some s.member then 3 else 2)
  let changed := s.trp.lead.isSome && lead.isSome && s.trp.lead != lead
  let s := (s.wr F.TRP_STATUS_LEAD_ID 0 (lead.getD 0)).setTrp (fun t => { t with lead := lead })
  let s := if changed then ((s.raiseFault 7 1 0 (lead.getD 0) 0).raiseBits F.TRP_INT_STATUS_LEAD_CHANGE 0 1).bump 11 9 else s
  if s.isLead && !was then s.newLead else s

/-- An order whose instant lies ahead and that a live member has not acknowledged is sent again (R307). -/
def State.repeatOrder (s : State) : State :=
  match s.trp.order with
  | some o =>
    if s.isLead ∧ o.issued < s.now ∧ s.viewAt s.now 0 < o.due ∧ s.liveSet.any (fun n => !s.trp.acked.contains n) then s.sendCtl 4 o.body else s
  | none => s

/-- HELLO_INTERVAL (R300): at every multiple of HELLO_US since the Canopy began. -/
def execHelloInterval (s : State) : Host.Outcome State Fault Refusal :=
  .next (s.once 9 (s.live && s.on F.TRP_CTRL_ENABLE && s.now % s.helloTicks == 0) (fun s =>
    let s := s.classThree.setTrp (fun t => { t with
      hellos := t.hellos + 1
      clash := match t.clash with | some c => if c + s.lossTicks < s.now then none else some c | none => none })
    let s := ((s.dropSilent).takeLead).showLive
    let s := s.sendCtl 1 s.helloBody
    (if s.isLead then s.leadCheck else s.askLift).repeatOrder))

/-! ### Frames taken (R299, R302, R303, R305, R307, R308) -/

/-- The TYPE of the payload of a control frame, and whether the engine consumes it (R303). -/
def State.ctlOk (s : State) (port : Nat) (b : Bytes) : Bool :=
  let p := b.drop 14
  decide (38 ≤ b.length) && s.linkPorts.contains port && byteAt p 0 == 1 && decide (byteAt p 2 < 8)
    && beAt p 4 4 == s.rd F.TRP_TROUPE_ID_VALUE
    && !(byteAt p 2 == s.member && beAt b 6 6 == s.rd2 F.TRP_SRC_MAC_LO_VALUE F.TRP_SRC_MAC_HI_VALUE)

/-- Later in modulo 2³² serial order (R303). -/
def serialLater (a b : Nat) : Bool := let d := (a + 2 ^ 32 - b) % 2 ^ 32; d != 0 && decide (d < 2 ^ 31)

/-- The sender is alive, and what its header reports (R300, R301). -/
def State.notePeer (s : State) (p : Bytes) : State :=
  let n := byteAt p 2
  let s := s.setPeer n (fun x => { x with
    seq := some (beAt p 8 4), heard := some s.now, critical := bit (byteAt p 3) 1, liftSeq := beAt p 12 4, liftNs := beAt p 16 4,
    reqNs := beAt p 20 4, lost := false })
  ((s.wr F.TRP_PEER_LIVE n 1).wr F.TRP_PEER_CRITICAL n (byteAt p 3 / 2)).showLive

/-- A HELLO of another device under this member's own number (R299). -/
def State.noteClash (s : State) : State :=
  let s := if s.trp.clash.isNone then (s.raiseFault 7 2 1 s.member 0).raiseBits F.TRP_INT_STATUS_ID_CLASH 0 1 else s
  (s.setTrp (fun t => { t with clash := some s.now })).wr F.TRP_STATUS_STATE 0 1 |>.showLive

/-- What every control frame of TYPE `type` meets: the checks of R303, duplicates, then its effect. The operand is the
received frame. A Lead that meets a member anew, as when a split Troupe merges, orders the greatest lift reported (R309) (DEDUCED,
log 96). -/
def State.takeCtl (s : State) (type port : Nat) (b : Bytes) (f : State → Nat → Bytes → State) : State :=
  s.whenLive (fun s =>
    let s := s.classThree
    let p := b.drop 14
    if beAt b 12 2 ≠ 0x88B5 ∨ byteAt p 1 ≠ type then s
    else if !s.on F.TRP_CTRL_ENABLE || !s.ctlOk port b then s.bump 11 3
    else
      let n := byteAt p 2
      if n = s.member then (if type = 1 then (s.bump 11 2 type).noteClash else s.bump 11 2 type)
      else
        let dup := match (s.peer n).seq with | some q => !serialLater (beAt p 8 4) q | none => false
        if dup then s.bump 11 4
        else
          let met := !s.on F.TRP_PEER_LIVE n
          let s := f ((s.bump 11 2 type).notePeer p) n (p.drop 24)
          (if met && s.isLead then s.newLead else s).leadCheck)

/-- HELLO (R302). -/
def execHello (port : Fin 512) (bytes : Bytes) (s : State) : Host.Outcome State Fault Refusal :=
  .next (s.takeCtl 1 port.val bytes (fun s n b =>
    s.setPeer n (fun x => { x with prio := byteAt b 0, believed := byteAt b 1, meas := beAt b 2 2, demand := beAt b 4 2, limit := beAt b 6 2 })))

/-- R261, R305: profile k of this member takes a base. -/
def State.baseFits (s : State) (k base : Nat) : Bool := decide (kindFloor (s.rd F.CLR_PROF_CTRL_KIND k) ≤ base) && decide (base ≤ 1000000)

/-- R305: a base is refused. -/
def State.refuseBase (s : State) : State := ((s.raiseFault 7 4 1 s.member 0).raiseBits F.TRP_INT_STATUS_BASE_REFUSED 0 1).bump 11 7

/-- PROFILE (R305): the new bases wait for their instant; a base that this member's KIND cannot take is refused. -/
def execProfile (port : Fin 512) (bytes : Bytes) (s : State) : Host.Outcome State Fault Refusal :=
  .next (s.takeCtl 2 port.val bytes (fun s _ b =>
    let bases := (List.range 8).map (fun k => (byteAt b (10 + 5 * k) != 0, beAt b (11 + 5 * k) 4))
    let s := s.setTrp (fun t => { t with
      shared := some (sumOf (bases.zipIdx.filter (fun x => x.1.1)) (fun x => 2 ^ x.2)), bases := t.bases ++ [⟨instantAt b 0, bases⟩] })
    if bases.zipIdx.all (fun x => !x.1.1 || s.baseFits x.2 x.1.2) then s
    else (s.refuseBase).sendAck 2 (beAt bytes 22 4) .notPermitted))

/-- The bases of one PROFILE take effect (R305). -/
def State.applyBases (s : State) (c : BaseChange) : State :=
  c.bases.zipIdx.foldl (fun s x =>
    if x.1.1 && s.baseFits x.2 x.1.2 then (s.wr F.TRP_BASE_BASE_L_NS x.2 x.1.2).loadL x.2 else s) s

/-- PROFILE_APPLY (R305): every PROFILE whose instant the view has reached. -/
def execProfileApply (s : State) : Host.Outcome State Fault Refusal :=
  .next (s.when (s.live && s.on F.TRP_CTRL_ENABLE) (fun s =>
    let s := s.classThree
    let v := s.viewAt s.now 0
    let due := s.trp.bases.filter (fun c => decide (c.due ≤ v))
    due.foldl State.applyBases (s.setTrp (fun t => { t with bases := t.bases.filter (fun c => decide (v < c.due)) }))))

/-- LIFT_REQ (R307): the Lead sees its REQ_NS. -/
def execLiftReq (port : Fin 512) (bytes : Bytes) (s : State) : Host.Outcome State Fault Refusal :=
  .next (s.takeCtl 3 port.val bytes (fun s _ _ => s))

/-- LIFT_ORDER (R308): a higher number is scheduled, and acknowledged with the status of its commit. -/
def execLiftOrder (port : Fin 512) (bytes : Bytes) (s : State) : Host.Outcome State Fault Refusal :=
  .next (s.takeCtl 4 port.val bytes (fun s _ b =>
    let o : LiftOrder := { number := beAt b 0 4, lift := beAt b 4 4, due := instantAt b 8, issued := s.now, frame := 0 }
    let held := match s.trp.order with | some x => decide (o.number ≤ x.number) | none => decide (o.number ≤ s.rd F.TRP_LIFT_SEQ_VALUE)
    if held then s
    else
      let (s, st) := (s.holdOrder o false).scheduleLift o
      (s.when (st == .ok) (fun s => s.noteAcked s.member)).sendAck 4 o.number st))

/-- ACK (R302): recorded against its order. -/
def execAck (port : Fin 512) (bytes : Bytes) (s : State) : Host.Outcome State Fault Refusal :=
  .next (s.takeCtl 5 port.val bytes (fun s n b =>
    s.when (byteAt b 0 == 4 && byteAt b 5 == 0 && (s.trp.order.map (fun o => o.number)) == some (beAt b 1 4)) (fun s => s.noteAcked n)))

/-! ### Grants (R311) -/

/-- The grants of a GRANT body wait for their instant. -/
def State.holdGrants (s : State) (due : Nat) (g : List Nat) : State :=
  let s := s.setTrp (fun t => { t with grants := t.grants ++ [⟨due, g⟩] })
  g.zipIdx.foldl (fun s x => s.wr F.TRP_PEER_GRANT_W x.2 x.1) s

/-- GRANT. -/
def execGrant (port : Fin 512) (bytes : Bytes) (s : State) : Host.Outcome State Fault Refusal :=
  .next (s.takeCtl 6 port.val bytes (fun s _ b =>
    s.holdGrants (instantAt b 0) ((List.range 8).map (fun n => beAt b (10 + 2 * n) 2))))

/-- What the Lead knows of a member of its live set: CRITICAL and min(demand, limit). -/
def State.wishOf (s : State) (n : Nat) : Bool × Nat :=
  if n = s.member then (s.critical, min (s.rd F.PWR_DEMAND_DEMAND_W) (s.rd F.PWR_CTRL_PKG_LIMIT_W))
  else ((s.peer n).critical, min (s.peer n).demand (s.peer n).limit)

/-- One group of R311 takes its share of what remains. -/
def shareOut (least : Nat) (rem : Nat) (group : List (Nat × Nat)) : List (Nat × Nat) × Nat :=
  let want := sumOf group (fun x => x.2 - least)
  if want ≤ rem then (group.map (fun x => (x.1, max least x.2)), rem - want)
  else (group.map (fun x => (x.1, least + rem * (x.2 - least) / want)), 0)

/-- The grants of members 0 to 7, and whether the budget is short (R311). -/
def State.computeGrants (s : State) : List Nat × Bool :=
  let least := s.rd F.TRP_POWER_GRANT_MIN_W
  let live := s.liveSet.map (fun n => (n, s.wishOf n))
  let lost := (List.range 8).filter (fun n => n != s.member && (s.peer n).lost)
  let reserved := sumOf lost (fun n => min (s.peer n).limit (s.rd F.TRP_POWER_SOLO_W))
  let fixed := least * live.length + reserved
  let group := fun (c : Bool) => (live.filter (fun x => x.2.1 == c)).map (fun x => (x.1, x.2.2))
  let (g1, rem) := shareOut least (s.rd F.TRP_BUDGET_BUDGET_W - fixed) (group true)
  let (g2, _) := shareOut least rem (group false)
  ((List.range 8).map (fun n => ((((g1 ++ g2).find? (fun x => x.1 == n)).map Prod.snd).getD 0) % 65536),
    decide (s.rd F.TRP_BUDGET_BUDGET_W < fixed))

/-- GRANT_PERIOD: at every multiple of PERIOD_MS the Lead computes and sends the grants; their instant is 200 µs away. -/
def execGrantPeriod (s : State) : Host.Outcome State Fault Refusal :=
  .next (s.once 10 (s.live && s.on F.TRP_CTRL_ENABLE && s.isLead && s.now % s.periodTicks == 0) (fun s =>
    let s := s.classThree
    let (g, short) := s.computeGrants
    let due := viewWrap ((s.viewAt s.now 0 + 200 * 65536000 : Nat) : Int)
    let s := s.when short (fun s => (s.raiseFault 7 5 0 0 0).raiseBits F.TRP_INT_STATUS_BUDGET_SHORT 0 1)
    (s.holdGrants due g).sendCtl 6 (instantBytes due ++ g.flatMap (fun x => be 2 x))))

/-- This member's grant of one GRANT: taken, still waiting, or none of its own. -/
def State.takeGrant (s : State) (w : GrantWait) : State × Bool :=
  let g := nth w.grants s.member 0
  let cur := if s.rd F.TRP_GRANT_GRANT_W = 0 then s.rd F.TRP_POWER_SOLO_W else s.rd F.TRP_GRANT_GRANT_W
  let v := s.viewAt s.now 0
  if v < w.due then (s, true)
  else if g = 0 then (s, false)
  else if g ≤ cur ∨ w.due + 100 * 65536000 ≤ v then
    (s.wr F.TRP_GRANT_GRANT_W 0 g, false)
  else (s, true)

/-- GRANT_APPLY: a lowered grant at its instant, a raised one 100 µs later. -/
def execGrantApply (s : State) : Host.Outcome State Fault Refusal :=
  .next (s.when (s.live && s.on F.TRP_CTRL_ENABLE) (fun s =>
    let s := s.classThree
    let l := s.trp.grants
    l.foldl (fun s w =>
      let (s, keep) := s.takeGrant w
      if keep then s.setTrp (fun t => { t with grants := t.grants ++ [w] }) else s) (s.setTrp (fun t => { t with grants := [] }))))

/-! ### Registers with an effect (R304, R305, R309) -/

/-- R304: ENABLE changes. -/
def State.trpEnable (s : State) (on : Bool) : State :=
  if on = s.on F.TRP_CTRL_ENABLE then s
  else
    let seq := s.trp.seq
    let s := (s.cancelLifts (fun a => a.kind.isLift)).wr F.TRP_CTRL_ENABLE 0 (b2n on)
    let s := (List.range 8).foldl (fun s n =>
      (((s.wr F.TRP_PEER_LIVE n 0).wr F.TRP_PEER_CRITICAL n 0).wr F.TRP_PEER_ACKED n 0).wr F.TRP_PEER_GRANT_W n 0) s
    let s := (((s.wr F.TRP_STATUS_STATE 0 (b2n on)).wr F.TRP_STATUS_LEAD_ID 0 0).wr F.TRP_STATUS_LIVE 0 0).wr F.TRP_GRANT_GRANT_W 0 0
    let s := s.setTrp (fun _ => { seq := seq })
    if on then
      let s := (List.range 8).foldl (fun s k => s.wr F.TRP_BASE_BASE_L_NS k (s.rd F.CLR_PROF_L_L_NS k)) s
      let s := (List.range 32).foldl (fun s m => s.wr F.TRP_WBASE_BASE_W_NS m (s.rd F.MSQ_INST_WINDOW_W_NS m)) s
      (s.wr F.TRP_LIFT_LIFT_NS 0 0).wr F.TRP_LIFT_SEQ_VALUE 0 0
    else s

/-- Profile k is shared (R305): as the Lead's mask says, or as the latest PROFILE told. -/
def State.sharedProfile (s : State) (k : Nat) : Bool :=
  bit (if s.isLead then s.rd F.TRP_SHARE_MASK_PROFILES else s.trp.shared.getD (s.rd F.TRP_SHARE_MASK_PROFILES)) k

/-- The base of profile k once every PROFILE that waits has been applied. -/
def State.comingBase (s : State) (k : Nat) : Nat :=
  s.trp.bases.foldl (fun b c => match c.bases[k]? with | some (true, x) => x | _ => b) (s.rd F.TRP_BASE_BASE_L_NS k)

/-- R305: a shared base is written on the Lead: a PROFILE is sent, and applied here too at its instant. -/
def State.sendProfile (s : State) (k value : Nat) : State :=
  let due := s.leadInstant
  let bases := (List.range 8).map (fun j => (bit (s.rd F.TRP_SHARE_MASK_PROFILES) j, if j = k then value else s.comingBase j))
  (s.setTrp (fun t => { t with bases := t.bases ++ [⟨due, bases⟩] })).sendCtl 2
    (instantBytes due ++ bases.flatMap (fun x => be 1 (b2n x.1) ++ be 4 x.2))

/-- UNLIFT (R309): on the Lead, the greatest REQ_NS is ordered at once; elsewhere the write is ignored. -/
def State.unlift (s : State) : State := s.when (s.on F.TRP_CTRL_ENABLE && s.isLead) (fun s => s.issueOrder s.maxReq)

end Sys2Proof.Machine
end

