-- ==== Sys2Proof/Machine/Power.lean ====
section
/-! DEFINITION. Power and thermal control (chapter 19): measurement (R499 to R501), the limit in force (R502), the throttling
order (R503, R504), the core clock (R505 to R507), operating points (R508) and temperature (R509, R510). -/

namespace Sys2Proof.Machine

def State.setPwr (s : State) (f : Pwr → Pwr) : State := { s with pwr := f s.pwr }

/-! ### Measurement -/

/-- R499: the current limit of each rail, mA. -/
def railLimit : List Nat := [720000, 300000, 60000, 40000, 40000, 8000, 2000]
/-- Power of a sample, µW. -/
def samplePower (x : List (Nat × Nat)) : Nat := sumOf x (fun r => r.1 * r.2)
/-- Mean of a field of rail r over the last n samples (DEDUCED, log 32). -/
def railMean (l : List (List (Nat × Nat))) (n r : Nat) (f : Nat × Nat → Nat) : Nat :=
  let l := l.take n
  if l = [] then 0 else sumOf l (fun x => f (nth x r (0, 0))) / l.length

/-- RAIL_SAMPLE: every 1 µs the voltage (mV) and current (mA) of the seven rails; the gain of R500 corrects the current. -/
def execRailSample (rails : List (Nat × Nat)) (s : State) : Host.Outcome State Fault Refusal :=
  .next (s.once 4 (s.live && s.now % 800 == 0 && decide (rails.length = 7)) (fun s =>
    let x := rails.zipIdx.map (fun (v, r) => (v.1, ((v.2 : Int) * (1000 + s.rdS F.PWR_RAIL_CFG_GAIN_ADJ r) / 1000).toNat))
    let ended := s.now % (800000 * s.rd F.TRP_BUDGET_PERIOD_MS) = 0
    let s := s.setPwr (fun p => { p with
      samples := (x :: p.samples).take 1000
      sums := (p.sums.zip x).map (fun (a, b) => (a.1 + b.1, a.2 + b.2)), sumCount := p.sumCount + 1
      periodMean := if ended then p.periodSum / max 1 p.periodCount / 1000000 else p.periodMean
      periodSum := (if ended then 0 else p.periodSum) + samplePower x
      periodCount := (if ended then 0 else p.periodCount) + 1 })
    let s := (List.range 7).foldl (fun s r =>
      (s.wr F.PWR_RAIL_STATUS_MV r (railMean s.pwr.samples 10 r Prod.fst)).wr F.PWR_RAIL_STATUS_AMPS_X4 r
        (railMean s.pwr.samples 10 r Prod.snd * 4 / 1000)) s
    let w := s.pwr.samples.take (s.rd F.PWR_CTRL_WINDOW_US)
    s.wr F.PWR_MEAS_MEAS_W 0 (sumOf w samplePower / max 1 w.length / 1000000)))

/-- A regulator that reports a fault in its STATUS_WORD (R500). -/
def State.railFaults (s : State) (faults : Nat) : State :=
  (List.range 7).foldl (fun s r => if bit faults r then s.raiseFault 8 5 3 r (s.rd F.PWR_MEAS_MEAS_W) else s) s

/-- A reading of a regulator (mV, mA), none when it does not answer: the gain moves by at most 2 %; three misses in a row raise
source 8 cause 4 (R500). -/
def State.railReading (s : State) (r : Nat) (x : Option (Nat × Nat)) : State :=
  match x with
  | none =>
    let k := s.pwr.missed.get r 0 + 1
    let s := (s.setPwr (fun p => { p with missed := p.missed.put r k 0 })).bump 18 7
    if k = 3 then s.raiseFault 8 4 1 r (s.rd F.PWR_MEAS_MEAS_W) else s
  | some (_, ma) =>
    let mean : Int := ((nth s.pwr.sums r (0, 0)).2 / max 1 s.pwr.sumCount : Nat)
    let s := s.setPwr (fun p => { p with missed := p.missed.erase r })
    if mean = 0 then s
    else
      let d := max (-20) (min 20 (Int.fdiv (((ma : Int) - mean) * 1000) mean))
      s.wr F.PWR_RAIL_CFG_GAIN_ADJ r (ofS 8 (max (-128) (min 127 (s.rdS F.PWR_RAIL_CFG_GAIN_ADJ r + d))))

/-- PMBUS_READ: every 1 ms, once the image runs (R500, R512): the readings of the regulators, and which report a fault. -/
def execPmbusRead (replies : List (Option (Nat × Nat))) (faults : BitVec 7) (s : State) : Host.Outcome State Fault Refusal :=
  .next (s.once 5 (s.live && s.now % 800000 == 0 && s.on F.CMD_CORE_STATUS_READY && decide (replies.length = 7)) (fun s =>
    let s := replies.zipIdx.foldl (fun s (x, r) => s.railReading r x) s
    (s.setPwr (fun p => { p with sums := List.replicate 7 (0, 0), sumCount := 0 })).railFaults faults.toNat))

/-- PMB_ALERT: STATUS_WORD of every regulator is read (R545). -/
def execPmbAlert (faults : BitVec 7) (s : State) : Host.Outcome State Fault Refusal :=
  .next (s.when (s.live && s.on F.CMD_CORE_STATUS_READY) (fun s => s.railFaults faults.toNat))

/-! ### Limits, frequencies and lift -/

/-- R502: the limit in force. -/
def State.limitEff (s : State) : Nat :=
  let own := min (s.rd F.PWR_CTRL_PKG_LIMIT_W) (s.rd F.PWR_OP_LIMIT_W (s.rd F.PWR_PHASE_OP_OP s.phase))
  if !s.on F.TRP_CTRL_ENABLE then own
  else if 2 ≤ s.rd F.TRP_STATUS_STATE ∧ s.rd F.TRP_GRANT_GRANT_W ≠ 0 then min own (s.rd F.TRP_GRANT_GRANT_W)
  else min own (s.rd F.TRP_POWER_SOLO_W)

/-- R505: the frequencies, highest first. -/
def coreFreqs : List Nat := [1600, 1400, 1200, 1000, 800]
def freqBelow (f : Nat) : Option Nat := coreFreqs.find? (fun x => decide (x < f))
def freqAbove (f : Nat) : Option Nat := coreFreqs.reverse.find? (fun x => decide (f < x))
/-- R499, R547: the setpoint of VCORE in mV: what the code on the VID pins gives, and, once the image runs, 25 mV less for each step of the
core frequency below full clock, never under 700 (DEDUCED, log 94). -/
def State.vcoreSetpoint (s : State) : Nat :=
  let fused := 700 + 5 * s.pins.vid
  if s.on F.CMD_CORE_STATUS_READY then max 700 (fused - 25 * ((1600 - s.rd F.PWR_STATUS_CORE_MHZ) / 200)) else fused
/-! ### Steps (R503, R508) -/

/-- The action of a step on entering or leaving it. -/
def State.stepAction (s : State) (step : Nat) (enter : Bool) : State :=
  match step with
  | 2 => s.wr F.EVR_CAP_POWER_CAP 0 (if enter then s.rd F.PWR_STEP2_EVR_CAP else 12000)
  | 3 =>
    (List.range 512).foldl (fun s n =>
      if s.rd F.LAN_LANE_STATUS_POWER n = (if enter then 1 else 2) then s.wr F.LAN_LANE_STATUS_POWER n (if enter then 2 else 1) else s) s
  | _ => s

/-- One step deeper, or one step back, in the order of R503. -/
def State.stepUp (s : State) : State :=
  let n := s.rd F.PWR_STATUS_STEP + 1
  (((s.wr F.PWR_STATUS_STEP 0 n).stepAction n true).bump 18 1).raiseBits F.PWR_INT_STATUS_STEP_CHANGE 0 1
def State.stepDown (s : State) : State :=
  let n := s.rd F.PWR_STATUS_STEP
  (((s.wr F.PWR_STATUS_STEP 0 (n - 1)).stepAction n false).bump 18 2).raiseBits F.PWR_INT_STATUS_STEP_CHANGE 0 1

/-- The floor step of the operating point in effect (R508). -/
def State.floorStep (s : State) : Nat := s.rd F.PWR_OP_FLOOR_STEP (s.rd F.PWR_PHASE_OP_OP s.phase)
def State.toFloor (s : State) : Nat → State
  | 0 => s
  | n + 1 => if s.rd F.PWR_STATUS_STEP < s.floorStep then State.toFloor s.stepUp n else s
/-- R508: the floor is held. -/
def State.holdFloor (s : State) : State := (s.toFloor 3).wr F.PWR_DEMAND_LIMIT_EFF_W 0 s.limitEff

/-- The core clock changes at this tick (R505), and the slots with it (R562). -/
def State.setClock (s : State) (f : Nat) : State :=
  (((s.regrid f).wr F.PWR_STATUS_CORE_MHZ 0 f).bump 18 3).raiseBits F.PWR_INT_STATUS_CLOCK_CHANGE 0 1

/-- R506: the next lower frequency becomes the target; in a Troupe it waits for its lift. -/
def State.chooseLower (s : State) : State :=
  match freqBelow (s.rd F.PWR_STATUS_CORE_MHZ) with
  | some f =>
    if f < s.rd F.PWR_STEP4_MIN_MHZ then s
    else
      let s := s.setPwr (fun p => { p with target := some (f, s.now) })
      if s.on F.TRP_CTRL_ENABLE then (s.wr F.PWR_STATUS_WAIT_LIFT 0 1).askLift else s
  | none => s

/-- deepen() of R504. -/
def State.deepen (s : State) : State :=
  let step := s.rd F.PWR_STATUS_STEP
  if step < 3 then s.stepUp
  else if s.pwr.target.isSome then s
  else if step = 3 then s.stepUp.chooseLower else s.chooseLower

/-- relax() of R504. -/
def State.relax (s : State) : State :=
  let step := s.rd F.PWR_STATUS_STEP
  if step ≤ s.floorStep ∨ s.pwr.target.isSome then s
  else if step = 4 then
    match freqAbove (s.rd F.PWR_STATUS_CORE_MHZ) with
    | some f => let s := s.setClock f; if f = 1600 then s.stepDown else s
    | none => s.stepDown
  else s.stepDown

/-! ### The decision (R504) -/

/-- tj_max: with more than 8 sensors excluded, as though THROTTLE_C (R509). -/
def State.tjMax (s : State) : Int :=
  if 8 < s.pwr.excluded.length then (s.rd F.PWR_THERM_CFG_THROTTLE_C : Int) else s.rdS F.PWR_THERM_STATUS_TJ_MAX
def State.stackMax (s : State) : Int :=
  (List.range 4).foldl (fun m k => max m (s.rdS F.MEM_STACK_STATUS_TEMP_C k)) (s.rdS F.MEM_STACK_STATUS_TEMP_C 0)

/-- A rail's 10 µs mean exceeds its limit (R499). -/
def State.railOver (s : State) (r : Nat) : Bool := decide (nth railLimit r 0 < railMean s.pwr.samples 10 r Prod.snd)
/-- The runs of over-current of the rails: an excursion is counted as it begins, the tenth period raises source 8 cause 2 (DESIGN CHOICE, log 52). -/
def State.railRuns (s : State) : State :=
  (List.range 7).foldl (fun s r =>
    if s.railOver r then
      let k := s.pwr.railRun.get r 0 + 1
      let s := s.setPwr (fun p => { p with railRun := p.railRun.put r k 0 })
      let s := if k = 1 then s.bump 18 6 r else s
      if k = 10 then s.raiseFault 8 2 1 r (s.rd F.PWR_MEAS_MEAS_W) else s
    else s.setPwr (fun p => { p with railRun := p.railRun.erase r })) s

/-- R501: the estimate, a value that the spec does not give, is compared with the measurement (DESIGN CHOICE, log 52). -/
def State.judgeModel (s : State) (est : Nat) : State :=
  let meas := s.rd F.PWR_MEAS_MEAS_W
  let off := (est - meas) + (meas - est)
  let k := if meas < 4 * off then s.pwr.divRun + 1 else 0
  let s := s.setPwr (fun p => { p with divRun := k })
  if k = 100 ∧ !s.on F.PWR_STATUS_DIVERGED then
    ((s.wr F.PWR_STATUS_DIVERGED 0 1).raiseBits F.PWR_INT_STATUS_DIVERGED 0 1).raiseFault 8 1 1 0 meas
  else s

/-- R507: while WAIT_LIFT is 1, an emergency reduces the clock at once. -/
def State.emergency (s : State) : State :=
  match s.pwr.target with
  | some (f, _) =>
    if s.on F.PWR_STATUS_WAIT_LIFT ∧ s.rd F.PWR_STATUS_CORE_MHZ ≠ f
        ∧ (10 ≤ s.pwr.highRun ∨ s.pwr.railRun.any (fun x => decide (10 ≤ x.2)) ∨ 120 ≤ s.tjMax) then
      ((((s.setClock f).wr F.PWR_STATUS_EMERGENCY 0 1).raiseBits F.PWR_INT_STATUS_EMERGENCY 0 1).bump 18 4).raiseFault 8 3 1 0
        (s.rd F.PWR_MEAS_MEAS_W)
    else s
  | none => s

/-- R504: the decision of a control period, with the mean estimate of the period and the estimate now. -/
def State.decideStep (s : State) (est : Nat) : State :=
  let meas := s.rd F.PWR_MEAS_MEAS_W
  let lim := s.limitEff
  let div := s.on F.PWR_STATUS_DIVERGED
  let m := if div then s.rd F.PWR_MARGIN_DIV_MARGIN_W else s.rd F.PWR_MARGIN_MARGIN_W
  let q : Int := if div then meas else (meas : Int) + est - s.pwr.estPrev
  let thr : Int := s.rd F.PWR_THERM_CFG_THROTTLE_C
  let sthr : Int := s.rd F.PWR_THERM_CFG_STACK_THROTTLE_C
  let hot := decide (thr ≤ s.tjMax) || decide (sthr ≤ s.stackMax)
  let beyond := (List.range 7).any s.railOver || decide ((lim : Int) - m < max (meas : Int) q)
  let s := s.setPwr (fun p => { p with estPrev := est })
  if hot || beyond then (s.deepen).setPwr (fun p => { p with calm := 0 })
  else if (meas : Int) < (lim : Int) - m - s.rd F.PWR_MARGIN_HYST_W ∧ s.tjMax ≤ thr - 5 ∧ s.stackMax ≤ sthr - 5 then
    let c := s.pwr.calm + 1
    if s.rd F.PWR_TIMING_RESTORE_MS * 1000 ≤ c * 10 then (s.relax).setPwr (fun p => { p with calm := 0 })
    else s.setPwr (fun p => { p with calm := c })
  else s.setPwr (fun p => { p with calm := 0 })

/-- CLOCK_CHANGE: the chosen frequency takes effect at the next control period, in a Troupe the first after a lift of at least
its need has been applied in an earlier tick (R506). -/
def execClockChange (s : State) : Host.Outcome State Fault Refusal :=
  .next (s.once 7 (s.live && s.now % 8000 == 0) (fun s =>
    match s.pwr.target with
    | some (f, t) =>
      if t < s.now ∧ (!s.on F.PWR_STATUS_WAIT_LIFT ∨ !s.on F.TRP_CTRL_ENABLE
          ∨ s.liftFor f ≤ s.rd F.TRP_LIFT_LIFT_NS ∧ s.trp.liftAt.all (fun x => decide (x < s.now))) then
        let s := (s.setPwr (fun p => { p with target := none }))
        let s := if s.rd F.PWR_STATUS_CORE_MHZ = f then s else s.setClock f
        (s.wr F.PWR_STATUS_WAIT_LIFT 0 0).wr F.PWR_STATUS_EMERGENCY 0 0
      else s
    | none => s))

/-! ### Temperature (R509, R510) -/

/-- A sensor's reading: whether it is excluded. Its neighbours are the sensors before and after it (DESIGN CHOICE, log 52). -/
def State.sensorBad (s : State) (t : Nat) (v : Int) : Bool :=
  let old := 8000000000
  let stuck := fun (x : Nat) => decide (s.pwr.changed.get x 0 + old ≤ s.now)
  decide (v < -40) || decide (150 < v) || (stuck t && ((decide (0 < t) && !stuck (t - 1)) || (decide (t < 47) && !stuck (t + 1))))

/-- One reading is judged (R509). -/
def State.sensor (s : State) (t : Nat) (v : Int) : State :=
  let bad := s.sensorBad t v
  let s := if bad ∧ !s.pwr.excluded.contains t then s.raiseFault 9 3 1 t (ofS 64 v) else s
  let warm := decide ((s.rd F.PWR_THERM_CFG_WARN_C : Int) ≤ v) && !bad
  let s := if warm ∧ !s.pwr.warned.contains t then
      ((s.raiseFault 9 1 0 t (ofS 64 v)).raiseBits F.PWR_INT_STATUS_WARN 0 1).bump 18 8 t
    else s
  let s := s.setPwr (fun p => { p with
    excluded := if bad then (if p.excluded.contains t then p.excluded else p.excluded ++ [t]) else p.excluded.filter (fun x => x != t)
    warned := if warm then (if p.warned.contains t then p.warned else p.warned ++ [t]) else p.warned.filter (fun x => x != t) })
  (s.wr F.PWR_TEMP_TEMP_C t (ofS 8 v)).wr F.PWR_TEMP_VALID t (b2n (!bad))

/-- R509: the throttle thresholds. A crossing of either is told once. -/
def State.judgeThrottle (s : State) : State :=
  let hot := decide ((s.rd F.PWR_THERM_CFG_THROTTLE_C : Int) ≤ s.tjMax)
    || decide ((s.rd F.PWR_THERM_CFG_STACK_THROTTLE_C : Int) ≤ s.stackMax)
  let s := if hot ∧ !s.pwr.throttled then
      (s.raiseBits F.PWR_INT_STATUS_THROTTLE 0 1).raiseFault 9 2 1 (s.rd F.PWR_THERM_STATUS_MAX_SENSOR) (ofS 64 s.tjMax)
    else s
  s.setPwr (fun p => { p with throttled := hot })

/-- THERMAL_READ: every 100 µs, once the image runs (R509, R512). -/
def execThermalRead (temps : List Int) (s : State) : Host.Outcome State Fault Refusal :=
  .next (s.once 8 (s.live && s.now % 80000 == 0 && s.on F.CMD_CORE_STATUS_READY && decide (temps.length = 48)) (fun s =>
    let s := temps.zipIdx.foldl (fun s (v, t) =>
      if s.rdS F.PWR_TEMP_TEMP_C t = v then s else s.setPwr (fun p => { p with changed := p.changed.put t s.now 0 })) s
    let s := temps.zipIdx.foldl (fun s (v, t) => s.sensor t v) s
    let s := s.wr F.PWR_STATUS_WARN 0 (b2n (!s.pwr.warned.isEmpty))
    let valid := temps.zipIdx.filter (fun x => !s.pwr.excluded.contains x.2)
    let top := valid.foldl (fun m x => match m with
      | none => some x
      | some y => if y.1 < x.1 then some x else some y) (none : Option (Int × Nat))
    let s := match top with
      | some (v, t) => (s.wr F.PWR_THERM_STATUS_TJ_MAX 0 (ofS 8 v)).wr F.PWR_THERM_STATUS_MAX_SENSOR 0 t
      | none => s
    (s.wr F.PWR_THERM_STATUS_EXCLUDED 0 s.pwr.excluded.length).judgeThrottle.emergency))

/-- THERMTRIP (R510): a sensor at 125 °C or above stops every PLL but the TPLL and every transmitter. -/
def execThermtrip (sensor : Fin 48) (temp : Int) (s : State) : Host.Outcome State Fault Refusal :=
  .next (if !s.pins.porst && !s.pins.tripped && decide (125 ≤ temp) then
      let t := s.when true (fun s =>
        ((List.range 512).foldl (fun s p => s.wr F.LAN_PORT_STATUS_TX_EI p 1) s).raiseFault 9 4 3 sensor.val (ofS 64 temp))
      { t with pins := { t.pins with tripped := true } }
    else s)

end Sys2Proof.Machine
end

