-- ==== Sys2Proof/Machine/Memory.lean ====
section
/-! DEFINITION. Reserve Memory (chapter 13): the map of user addresses (R357 to R361), service (R362 to R364), refresh
(R366 to R368), self-refresh (R369 to R373), training (R374), and errors, failure and rebuild (R375, R376). -/

namespace Sys2Proof.Machine

def State.setMem (s : State) (f : Mem → Mem) : State := { s with mem := f s.mem }

/-! ### Channels, stripes and addresses -/

/-- R357: the stack of a channel, the stripe it is a member of, and the member it is. -/
def chanStack (c : Nat) : Nat := c / 8
def chanStripe (c : Nat) : Nat := c % 8 / 2
def chanMember (c : Nat) : Nat := 2 * (c / 8) + c % 2
/-- R357: member m of stripe j. -/
def memberChan (j m : Nat) : Nat := 8 * (m / 2) + 2 * j + m % 2
/-- R359: channel and channel address of a user address. -/
def memPlace (a : Nat) : Nat × Nat :=
  let u := a / 256
  let v := u / 4
  let row := v / 7
  let d := v % 7
  let p := row % 8
  let m := if d < p then d else d + 1
  (memberChan (u % 4) m, 256 * row + a % 256)
/-- The unit that a member holds in a row of a stripe, none for the parity (R358, R359). -/
def memUnit (j row m : Nat) : Option Nat :=
  let p := row % 8
  if m = p then none else some (4 * (7 * row + (if m < p then m else m - 1)) + j)

/-- Bits of CH.STATUS.STATE: 0 OK, 1 FAILED, 2 REBUILDING, 3 RETRAINING. -/
def State.chState (s : State) (c : Nat) : Nat := s.rd F.MEM_CH_STATUS_STATE c
/-- SR_STATE of a stack: 0 awake, 1 entering, 2 in self-refresh, 3 exiting. -/
def State.srState (s : State) (k : Nat) : Nat := s.rd F.MEM_STACK_STATUS_SR_STATE k

/-- Channels of a stripe that are not OK. -/
def State.stripeLost (s : State) (j : Nat) : Nat :=
  ((List.range 8).filter (fun m => s.chState (memberChan j m) != 0)).length
/-- MEM.STATUS.STATE (R376, R378). -/
def State.showMem (s : State) : State :=
  let st :=
    if (List.range 4).any (fun j => decide (2 ≤ s.stripeLost j)) then 3
    else if !s.on F.MEM_STATUS_TRAINED then 0
    else if (List.range 32).any (fun c => s.chState c != 0) then 2 else 1
  s.wr F.MEM_STATUS_STATE 0 st

/-! ### Refresh -/

/-- tREFI of a channel in ticks (R366, R367). -/
def State.trefi (s : State) (c : Nat) : Nat :=
  let t := s.rd F.MEM_REFRESH_CFG_TREFI_NS * 4 / 5
  if s.on F.MEM_STACK_STATUS_HOT (chanStack c) then t / 2 else t

/-- Until when a channel is busy with refresh. -/
def State.memBusy (s : State) (c : Nat) : Nat := s.mem.busy.get c 0
/-- A channel is occupied for some ticks, from when it is free (R366). -/
def State.occupy (s : State) (c ticks : Nat) : State :=
  s.setMem (fun m => { m with busy := m.busy.put c (max s.now (m.busy.get c 0) + ticks) 0 })

/-- A refresh of a channel: 224 ticks, and the debt falls by 1 (R366). -/
def State.refreshChan (s : State) (c : Nat) : State :=
  (s.wr F.MEM_CH_STATUS_DEBT c (s.rd F.MEM_CH_STATUS_DEBT c - 1)).occupy c 224

/-- REFRESH_TIMER: the interval timer of a channel expires; at a debt of 4 a refresh is forced (R366). In self-refresh the
memory refreshes itself (R369). -/
def execRefreshTimer (chan : Fin 32) (s : State) : Host.Outcome State Fault Refusal :=
  let c := chan.val
  .next (s.when (s.clocked && s.on F.MEM_STATUS_TRAINED && s.srState (chanStack c) == 0
      && decide (s.mem.due.get c 0 ≤ s.now)) (fun s =>
    let s := s.setMem (fun m => { m with due := m.due.put c (s.now + s.trefi c) 0 })
    let d := s.rd F.MEM_CH_STATUS_DEBT c + 1
    let s := s.wr F.MEM_CH_STATUS_DEBT c d
    if 4 ≤ d then ((s.refreshChan c).raiseBits F.MEM_INT_STATUS_FORCED 0 1).bump 13 4 else s))

/-- Requests of order 3 to 7 that wait for a channel, in the order of R364. -/
def State.memReqs (s : State) (c : Nat) : List MemReq :=
  sortBy (fun a b => decide (a.client ≤ b.client)) (s.mem.reqs.filter (fun r => r.chan == c))

/-- REFRESH_ISSUE: an owed refresh while the channel is idle (R364, R366). -/
def execRefreshIssue (chan : Fin 32) (s : State) : Host.Outcome State Fault Refusal :=
  let c := chan.val
  .next (s.when (s.clocked && s.on F.MEM_STATUS_TRAINED && s.srState (chanStack c) == 0
      && decide (s.memBusy c ≤ s.now) && s.rd F.MEM_CH_STATUS_DEBT c != 0 && (s.memReqs c).isEmpty)
    (fun s => (s.refreshChan c).bump 13 5))

/-- STACK_TEMP_READ: every 1 ms; a stack above 85 °C halves tREFI until 82 °C or below (R367). The throttle threshold is judged (R509). -/
def execStackTempRead (stack : Fin 4) (temp : BitVec 8) (s : State) : Host.Outcome State Fault Refusal :=
  .next (s.once (16 + stack.val) (s.clocked && s.now % 800000 == 0) (fun s =>
    let k := stack.val
    let s := s.wr F.MEM_STACK_STATUS_TEMP_C k temp.toNat
    let s :=
      if !s.on F.MEM_STACK_STATUS_HOT k && decide (85 < temp.toInt) then
        (s.wr F.MEM_STACK_STATUS_HOT k 1).raiseBits F.MEM_INT_STATUS_HOT 0 1
      else if temp.toInt ≤ 82 then s.wr F.MEM_STACK_STATUS_HOT k 0
      else s
    s.judgeThrottle))

/-! ### Failure (R375, R376) -/

/-- A channel fails: SPARED, and it is retrained once; the second of a stripe fails Reserve Memory. -/
def State.failChan (s : State) (c : Nat) : State :=
  if s.chState c = 1 ∨ s.chState c = 3 then s
  else
    let s := (((s.wr F.MEM_CH_STATUS_STATE c 3).wr F.MEM_CH_REBUILD_REBUILD_ROW c 0).raiseBits F.MEM_INT_STATUS_CH_FAIL 0 1).bump 13 12
    let s := s.raiseFault (33 + chanStack c) 3 2 c 0
    let s := if 2 ≤ s.stripeLost (chanStripe c) then s.raiseFault (33 + chanStack c) 5 3 c 0 else s
    s.showMem

/-- Uncorrectable words of a channel within the last second. -/
def State.ueCount (s : State) (c : Nat) : Nat :=
  (s.mem.ue.filter (fun x => x.1 == c && decide (s.now < x.2 + 800000000))).length

/-- The uncorrectable words of a channel have reached UE_LIMIT (R375). -/
def State.ueReached (s : State) (c : Nat) : Bool :=
  s.rd F.MEM_FAIL_CFG_UE_LIMIT != 0 && decide (s.rd F.MEM_FAIL_CFG_UE_LIMIT ≤ s.ueCount c)

/-- CHANNEL_FAIL: a channel fails on its count, or for a request not completed within 8,000 ticks (R375). The request stays,
to be served from the other members. -/
def execChannelFail (chan : Fin 32) (s : State) : Host.Outcome State Fault Refusal :=
  let c := chan.val
  .next (s.when (s.clocked && (s.ueReached c || (s.memReqs c).any (fun r => decide (r.arrived + 8000 ≤ s.now))))
    (fun s => s.failChan c))

/-- RETRAIN_DONE (R375). -/
def execRetrainDone (chan : Fin 32) (ok : Bool) (s : State) : Host.Outcome State Fault Refusal :=
  let c := chan.val
  .next (s.when (s.clocked && s.chState c == 3) (fun s =>
    (if ok then (s.wr F.MEM_CH_STATUS_STATE c 2).wr F.MEM_CH_REBUILD_REBUILD_ROW c 0
     else s.wr F.MEM_CH_STATUS_STATE c 1).showMem))

/-- REBUILD_DONE: every row of the channel has been rewritten (R375). -/
def execRebuildDone (chan : Fin 32) (s : State) : Host.Outcome State Fault Refusal :=
  let c := chan.val
  .next (s.when (s.clocked && s.chState c == 2) (fun s =>
    ((s.wr F.MEM_CH_STATUS_STATE c 0).raiseBits F.MEM_INT_STATUS_REBUILT 0 1).showMem))

/-- A word of a channel corrected, or a unit rebuilt from the other members (R375): user address u. -/
def State.memCorrected (s : State) (c addr : Nat) : State := (s.bump 13 1 c).raiseFault (33 + chanStack c) 1 0 c addr
def State.memRebuilt (s : State) (c addr : Nat) : State :=
  let s := (((s.bump 13 2 c).bump 13 3).raiseFault (33 + chanStack c) 2 2 c addr).setMem (fun m => { m with
    ue := m.ue.filter (fun x => decide (s.now < x.2 + 800000000)) ++ [(c, s.now)] })
  if s.ueReached c then s.failChan c else s

/-- MEM_ROWS_LOST: units of a row that cannot be rebuilt (R376), and the spilled copies that lie in them. -/
def execMemRowsLost (stripe : Fin 4) (row : BitVec 24) (members : List (Fin 8)) (spilled : List Nat) (s : State) :
    Host.Outcome State Fault Refusal :=
  .next (s.when (s.clocked && decide (2 ≤ (members.map Fin.val).dedup.length)) (fun s =>
    let units := (members.map Fin.val).dedup.filterMap (fun m => memUnit stripe.val row.toNat m)
    let s := (s.setMem (fun m => { m with lost := (m.lost ++ units).dedup })).raiseBits F.MEM_INT_STATUS_LOST 0 1
    let low := (units.foldl (fun (x : Option Nat) u => some (min (x.getD u) u)) none).getD 0 * 256
    let s := if s.on F.MEM_LOST_ADDR_HI_VALID then s
      else ((s.wr F.MEM_LOST_ADDR_LO_VALUE 0 low).wr F.MEM_LOST_ADDR_HI_VALUE 0 (low / 2 ^ 32)).raiseBits F.MEM_LOST_ADDR_HI_VALID 0 1
    let s := s.raiseFault (33 + chanStack (memberChan stripe.val ((members.head?.map Fin.val).getD 0))) 4 1
      (memberChan stripe.val ((members.head?.map Fin.val).getD 0)) low
    let s := units.foldl (fun s u => s.ringLost (u * 256) 256) s
    let lostCopies := spilled.dedup.filterMap (fun i =>
      match s.qsg.queue[i]? with
      | some c => if c.seg = .reserve then some c else none
      | none => none)
    let s := s.setQsg (fun q => { q with queue := q.queue.filter (fun c => !lostCopies.contains c) })
    lostCopies.foldl (fun s c => ((s.noteDrop c 31).bump 13 11).showDeep c.q) s))

/-! ### Service (R362 to R364, R370, R371) -/

/-- Requests held for a stack. -/
def State.stackReqs (s : State) (k : Nat) : List MemReq := s.mem.reqs.filter (fun r => chanStack r.chan == k)
/-- STACK.QUEUE (R378). -/
def State.showStack (s : State) (k : Nat) : State :=
  let n := (s.stackReqs k).length
  (s.wr F.MEM_STACK_QUEUE_DEPTH k n).rcMax F.MEM_STACK_QUEUE_HWM k n

/-- Room in the request queue of a channel's stack (R370). -/
def State.stackRoom (s : State) (c : Nat) : Bool := decide ((s.stackReqs (chanStack c)).length < 64)
/-- A request joins the queue of its stack. -/
def State.putReq (s : State) (r : MemReq) : State :=
  let k := chanStack r.chan
  (s.setMem (fun m => { m with reqs := m.reqs ++ [r], lastReq := m.lastReq.put k s.now 0 })).showStack k

/-! ### Writes (R363) -/

/-- The channels of the eight members of a stripe, and the one that holds the parity of a row (R358). -/
def stripeChans (j : Nat) : List Nat := (List.range 8).map (memberChan j)
def parityChan (j row : Nat) : Nat := memberChan j (row % 8)
/-- A write of a whole row writes all eight members; one of part of it first reads the old data and the old parity (R363). -/
def newMemOp (id client unit : Nat) (whole : Bool) : MemOp :=
  let j := unit % 4
  let row := unit / 28
  let pair := [(memPlace (256 * unit)).1, parityChan j row]
  { id := id, client := client, stripe := j, row := row, reads := if whole then [] else pair, writes := if whole then stripeChans j else pair }
/-- The write has not begun. -/
def MemOp.fresh (o : MemOp) : Bool := o.reads.length == 2 || o.writes.length == 8
/-- The channels that a write waits for now. -/
def MemOp.phase (o : MemOp) : List Nat := if o.reads.isEmpty then o.writes else o.reads
/-- The user unit of a write in a channel; for the parity, the first of its row. -/
def MemOp.unitIn (o : MemOp) (c : Nat) : Nat := (memUnit o.stripe o.row (chanMember c)).getD (28 * o.row + o.stripe)
/-- The Recorder writes part of a 7,168-byte group only at a seal or at the end of a flush, the spill engine only at the end of its backlog
(R363) (DEDUCED, log 93). -/
def State.mayPart (s : State) (client unit : Nat) : Bool :=
  if client = 3 then s.mem.tail == some (unit / 28)
  else decide (sumOf (s.qsg.queue.filter (fun c => c.seg == .backlog)) Copy.rmBytes < 7168)
/-- Writes that touch the same row are applied one after another, in the order of their clients (R363, R364) (DEDUCED, log 93). -/
def State.opTurn (s : State) (o : MemOp) : Bool :=
  !o.fresh || s.mem.ops.all (fun x => x.id == o.id || x.stripe != o.stripe || x.row != o.row
    || (x.fresh && decide (o.client < x.client ∨ (o.client = x.client ∧ o.id < x.id))))
/-- A write whose turn has come asks the channels that it waits for, as far as their stacks have room. -/
def State.askChans (s : State) (o : MemOp) : State :=
  (o.phase.filter (fun c => s.mem.reqs.all (fun r => r.op != some o.id || r.chan != c))).foldl (fun s c =>
    if s.stackRoom c then s.putReq { client := o.client, unit := o.unitIn c, chan := c, arrived := s.now, op := some o.id } else s) s
def State.pumpOps (s : State) : State := s.mem.ops.foldl (fun s o => if s.opTurn o then s.askChans o else s) s

/-- A request arrives: kind 0 a read of its unit, 1 a write of it, 2 a write of its whole row (R363). It is held in the stack's queue, or
its requester is back-pressured (R370, R371). -/
def State.memArrive (s : State) (c : Nat) (r : Nat × Nat × Nat) : State :=
  let (client, unit, kind) := r
  if kind = 0 then
    if s.stackRoom c then s.putReq { client := client, unit := unit, chan := c, arrived := s.now, op := none } else s.bump 13 9
  else if (client ≠ 3 ∧ client ≠ 4) ∨ 2 < kind ∨ (kind = 1 ∧ !s.mayPart client unit)
      ∨ (client = 3 ∧ s.batching ∧ s.mem.flush = 0) then s
  else
    let o := newMemOp s.mem.nextOp client unit (kind == 2)
    if o.phase.all (fun c => s.stackRoom c) then
      (s.setMem (fun m => { m with ops := m.ops ++ [o], nextOp := m.nextOp + 1 })).pumpOps
    else s.bump 13 9
/-- Staging without its oldest n bytes. -/
def drained (n : Nat) : List (Nat × Nat) → List (Nat × Nat)
  | [] => []
  | (t, b) :: rest => if b ≤ n then drained (n - b) rest else (t, b - n) :: rest
/-- A read or write of a channel that belongs to a write has been made: the Recorder's staging gives back what has been written, and the
write goes on or ends (R363). -/
def State.opServed (s : State) (id c : Nat) : State :=
  match s.mem.ops.find? (fun o => o.id == id) with
  | none => s
  | some o =>
    let wrote := o.reads.isEmpty
    let o' := if wrote then { o with writes := o.writes.erase c } else { o with reads := o.reads.erase c }
    let s := s.setMem (fun m => { m with
      ops := if o'.writes.isEmpty then m.ops.filter (fun x => x.id != id) else m.ops.map (fun x => if x.id = id then o' else x) })
    let s := if wrote ∧ o.client = 3 ∧ c ≠ parityChan o.stripe o.row then
        ((s.setEvr (fun e => { e with staging := e.staging - 256, stagedAt := drained 256 e.stagedAt })).setMem (fun m => { m with
          flush := m.flush - 256 })).showStaging
      else s
    s.pumpOps

/-- A request is served (R362, R375): `err` 1 a word corrected, 2 a word uncorrectable, 3 not completed in time. A write leaves the member
of a failed channel unwritten (R375). -/
def State.serve (s : State) (r : MemReq) (err : Fin 4) (draw : Bool) : State :=
  let c := r.chan
  let write := s.mem.ops.any (fun o => some o.id == r.op && o.reads.isEmpty)
  let down := s.chState c == 1 || s.chState c == 3
    || (!write && s.chState c == 2 && r.client != 6 && decide (s.rd F.MEM_CH_REBUILD_REBUILD_ROW c ≤ (memPlace (256 * r.unit)).2 / 256))
  if err = 3 ∧ !down then s.failChan c
  else
    let s := (s.setMem (fun m => { m with reqs := m.reqs.erase r })).showStack (chanStack c)
    let s := if down then (if write then s else s.bump 13 3)
      else match err with
        | 1 => s.memCorrected c (256 * r.unit)
        | 2 => s.memRebuilt c (256 * r.unit)
        | _ => s
    let s := if draw ∧ s.rd F.MEM_REFRESH_CFG_NR_K ≠ 0 then s.setMem (fun m => { m with owed := m.owed ++ [c] }) else s
    match r.op with
    | some id => s.opServed id c
    | none =>
    if r.client = 6 ∧ s.chState c = 2 then s.wr F.MEM_CH_REBUILD_REBUILD_ROW c (min (2 ^ 24 - 1) (r.unit + 1))
    else s

/-- MEM_ACCESS: requests arrive for a channel, and the first of the order of R364 is served when the stack is awake and the
channel free; a neighbour refresh that the channel owes comes before it (R368). A request is its client (3 to 7), its user unit, or for client 6 its row, and its kind; it arrives for the channel that
holds its unit (R359). -/
def execMemAccess (chan : Fin 32) (requests : List (Nat × Nat × Nat)) (err : Fin 4) (draw : Bool) (s : State) :
    Host.Outcome State Fault Refusal :=
  let c := chan.val
  .next (s.when (s.clocked && s.on F.MEM_STATUS_TRAINED && s.rd F.MEM_STATUS_STATE != 3) (fun s =>
    let s := (requests.filter (fun r => decide (3 ≤ r.1) && decide (r.1 ≤ 7) && (r.1 == 6 || (memPlace (256 * r.2.1)).1 == c))).foldl
      (fun s r => s.memArrive c r) s.pumpOps
    if s.srState (chanStack c) ≠ 0 ∨ s.now < s.memBusy c then s
    else if s.mem.owed.contains c then
      ((s.setMem (fun m => { m with owed := m.owed.filter (fun x => x != c) })).occupy c 72).bump 13 6
    else match (s.memReqs c).head? with
      | some r => s.serve r err draw
      | none => s))

/-! ### Self-refresh (R369, R370, R372) -/

/-- R369: the conditions of entry. -/
def State.mayEnter (s : State) (k : Nat) : Bool :=
  let mine := (List.range 8).map (fun i => 8 * k + i)
  s.srAllowed && s.on F.MEM_STATUS_TRAINED && (s.stackReqs k).isEmpty
    && decide (s.mem.lastReq.get k 0 + 800 * s.rd F.MEM_SR_CTRL_SR_IDLE_US ≤ s.now)
    && mine.all (fun c => s.chState c != 2 && !s.mem.owed.contains c)

def State.setSr (s : State) (k st tick : Nat) : State :=
  (s.wr F.MEM_STACK_STATUS_SR_STATE k st).setMem (fun m => { m with since := m.since.put k tick 0 })

/-- SELF_REFRESH_ENTRY: an idle stack begins entry, and ends it 160 ticks later (R369). -/
def execSelfRefreshEntry (stack : Fin 4) (s : State) : Host.Outcome State Fault Refusal :=
  let k := stack.val
  let since := s.mem.since.get k 0
  .next (s.when s.clocked (fun s =>
    match s.srState k with
    | 0 => s.when (s.live && s.mayEnter k) (fun s => (s.setSr k 1 s.now).bump 13 7 k)
    | 1 => s.when (decide (since + 160 ≤ s.now)) (fun s => s.setSr k 2 (since + 160))
    | _ => s))

/-- A stack is awake again: no debt, and its timers restart (R369). -/
def State.wakeStack (s : State) (k : Nat) : State :=
  let s := (s.setSr k 0 s.now).bump 13 8 k
  (List.range 8).foldl (fun s i =>
    let c := 8 * k + i
    (s.wr F.MEM_CH_STATUS_DEBT c 0).setMem (fun m => { m with due := m.due.put c (s.now + s.trefi c) 0 })) s

/-- SELF_REFRESH_EXIT: after 400 ticks of residency, for a held request or a phase that does not allow self-refresh; exit
takes 264 ticks (R369, R370, R372). -/
def execSelfRefreshExit (stack : Fin 4) (s : State) : Host.Outcome State Fault Refusal :=
  let k := stack.val
  let since := s.mem.since.get k 0
  .next (s.when s.clocked (fun s =>
    match s.srState k with
    | 2 => s.when (decide (since + 400 ≤ s.now) && (!s.srAllowed || !(s.stackReqs k).isEmpty)) (fun s => s.setSr k 3 s.now)
    | 3 => s.when (decide (since + 264 ≤ s.now)) (fun s => s.wakeStack k)
    | _ => s))

/-! ### Flush, scrub and training -/

/-- The 7,168-byte group in which the Recorder's writing of the open block stands. -/
def State.writeGroup (s : State) : Option Nat :=
  s.evr.opened.map (fun b => (s.evr.writePtr + 256 + sumOf b.records Record.bytes) / 7168)
/-- The sending out of blocks meets data that is still in staging (R373). -/
def State.exportWaits (s : State) : Bool :=
  match s.evr.exporting with
  | some x => s.evr.blocks.any (fun b => decide (x.block ≤ b.no) && decide (b.no ≤ x.last) && s.blockStaged b)
  | none => false
/-- EVR_FLUSH: in phases that allow self-refresh the Recorder writes all it has staged in one flush, which begins when staging holds
BATCH_KIB, when its oldest record has waited BATCH_US, or for blocks that are being sent out (R373). -/
def execEvrFlush (s : State) : Host.Outcome State Fault Refusal :=
  let old := match s.evr.stagedAt.head? with
    | some x => decide (x.1 + 800 * s.rd F.MEM_SR_BATCH_BATCH_US ≤ s.now)
    | none => false
  .next (s.when (s.live && s.batching && s.mem.flush == 0 && s.rd F.MEM_STATUS_STATE != 3
      && (decide (1024 * s.rd F.MEM_SR_BATCH_BATCH_KIB ≤ s.evr.staging) || old || s.exportWaits))
    (fun s => s.setMem (fun m => { m with flush := s.evr.staging, tail := s.writeGroup })))

/-- PATROL_SCRUB: a row of a stripe is read, by a request to each of its members, while every stack is awake (R369, R376): 1 a word corrected, 2 a unit rebuilt, 3 parity
rewritten from its data. -/
def execPatrolScrub (chan : Fin 32) (row : BitVec 24) (finding : Fin 4) (s : State) : Host.Outcome State Fault Refusal :=
  let c := chan.val
  let addr := 256 * (memUnit (chanStripe c) row.toNat (chanMember c)).getD 0
  .next (s.when (s.clocked && s.on F.MEM_STATUS_TRAINED && s.on F.MEM_SCRUB_CTRL_ENABLE && s.rd F.MEM_STATUS_STATE != 3
      && (List.range 4).all (fun k => s.srState k == 0) && s.chState c == 0) (fun s =>
    let s := s.setMem (fun m => { m with lastReq := (List.range 4).foldl (fun l k => l.put k s.now 0) m.lastReq })
    match finding with
    | 1 => s.memCorrected c addr
    | 2 => s.memRebuilt c addr
    | 3 => (s.bump 13 10).raiseFault (33 + chanStack c) 6 0 c addr
    | _ => s))

/-- MEM_TRAINING_DONE: channels that failed step 3, and spare lanes in use of the others (R374). -/
def execMemTrainingDone (failing : List (Fin 32)) (lanes : List (Nat × Nat)) (s : State) : Host.Outcome State Fault Refusal :=
  .next (s.when (s.clocked && !s.on F.MEM_STATUS_TRAINED && s.rd F.MEM_STATUS_STATE != 3) (fun s =>
    let s := (lanes.filter (fun x => decide (x.1 < 32) && decide (x.2 ≤ 3))).foldl
      (fun s x => s.wr F.MEM_CH_STATUS_LANES_REPAIRED x.1 x.2) s
    let s := (failing.map Fin.val).dedup.foldl (fun s c => s.failChan c) s
    let s := if s.rd F.MEM_STATUS_STATE = 3 then s
      else (s.wr F.MEM_STATUS_TRAINED 0 1).wr F.SYS_BOOT_STATUS_MEM_TRAINED 0 1
    ((List.range 32).foldl (fun s c =>
      s.setMem (fun m => { m with due := m.due.put c (s.now + s.trefi c + c * s.trefi c / 32) 0 })) s).showMem))

end Sys2Proof.Machine
end

