-- ==== Sys2Proof/Machine/Queues.lean ====
section
/-! DEFINITION. What time does to the queues: pauses (R236), refreshed flow control (R209), shapers and meters (R232 to
R235, R239), gate lists (R242, R243, R247), flap-holds (R251, R275, R291) and queue samples (R254). -/

namespace Sys2Proof.Machine

/-! ### Flow control sent and received -/

/-- R209: the classes of a port that stand above XON get their frame again. -/
def State.refreshFlow (s : State) (p : Nat) : State :=
  let xoff := s.rd F.BUF_ING_PORT_STATE_XOFF_STATE p
  let above := (s.losslessClasses p).any (fun c => bit xoff c && decide (s.ingProf F.BUF_ING_PROF_XON_XON p c < s.classUse p c))
  if above && decide (s.buf.flowTick.get p 0 + 800 * s.rd F.BUF_ING_PORT_FC_REFRESH_US p ≤ s.now) then s.sendFlow p 0 else s

/-- PFC_REFRESH (R209). -/
def execPfcRefresh (s : State) : Host.Outcome State Fault Refusal :=
  .next (s.whenLive (fun s => (s.listed F.BUF_ING_PORT_STATE_XOFF_STATE).foldl (fun s p => s.refreshFlow p) s))

/-- R236: ticks of a pause of some quanta. -/
def pauseTicks (quanta mbps : Nat) : Nat := ceilDiv (quanta * 409600) mbps

/-- PAUSE_STATUS shows the pauses in force (R258). -/
def State.showPause (s : State) (p : Nat) : State :=
  let live := fun (c : Nat) => decide (s.now < s.qsg.paused.get (9 * p + c) 0)
  (s.wr F.QSG_PAUSE_STATUS_PFC_PAUSED p (sumOf ((List.range 8).filter live) (fun c => 2 ^ c))).wr
    F.QSG_PAUSE_STATUS_PAUSED p (b2n (live 8))

/-- The pause of one class, 8 for PAUSE, runs from tick t; quanta 0 ends it (DEDUCED, log 39). -/
def State.setPause (s : State) (p c t quanta : Nat) : State :=
  s.setQsg (fun q => { q with paused := q.paused.put (9 * p + c) (if quanta = 0 then 0 else t + pauseTicks quanta (s.portMbps p)) 0 })

/-- R236: a frame handed by the receive MAC acts from the tick of its end. -/
def State.takePause (s : State) (p t : Nat) (b : Bytes) : State :=
  if beAt b 14 2 = 1 then
    let s := (s.bump 0 2 p).bump 8 2
    if s.on F.QSG_PORT_CTRL_RX_PAUSE_EN p then (s.setPause p 8 t (beAt b 16 2)).showPause p else s
  else
    let s := (s.bump 0 3 p).bump 8 3
    if s.on F.QSG_PORT_CTRL_RX_PFC_EN p then
      ((List.range 8).foldl (fun s c => if bit (beAt b 16 2) c then s.setPause p c t (beAt b (18 + 2 * c) 2) else s) s).showPause p
    else s

/-- PAUSE_RECEIVED: the oldest PAUSE or PFC frame handed by the receive MACs (R236, R406) (DEDUCED, log 39). -/
def execPauseReceived (s : State) : Host.Outcome State Fault Refusal :=
  .next (s.whenLive (fun s =>
    match s.fwd.macCtrl with
    | [] => s
    | (p, t, b) :: rest => (s.setFwd (fun w => { w with macCtrl := rest })).takePause p t b))

/-- PAUSE_EXPIRE: pauses whose time has run out end (R236). -/
def execPauseExpire (s : State) : Host.Outcome State Fault Refusal :=
  .next (s.whenLive (fun s =>
    let done := s.qsg.paused.filter (fun x => decide (x.2 ≤ s.now))
    let s := s.setQsg (fun q => { q with paused := q.paused.filter (fun x => decide (s.now < x.2)) })
    (done.map (fun x => x.1 / 9)).dedup.foldl (fun s p => s.showPause p) s))

/-! ### Shapers and meters -/

/-- The queues that a shaper meters of their own, under the bindings in use; under mode 2 one at most (R234). -/
def State.servedBy (s : State) (m : Nat) : List Nat :=
  (listedIn s.qsg.shaperRegs F.QSG_Q_SCHED_SHAPER_EN).filter (fun q => s.ownShaper q == some m)
/-- The ports whose queues a shaper meters. -/
def State.portsOf (s : State) (m : Nat) : List Nat :=
  (s.servedBy m).map (fun q => q / 16)
    ++ (listedIn s.qsg.shaperRegs F.QSG_PORT_CTRL_PSHAPER_EN).filter (fun p => s.rdShaper F.QSG_PORT_CTRL_PSHAPER p == m)

/-- One shaper at a refill boundary, `before` its mode until then (R232 to R235) (DEDUCED, log 62). -/
def State.refillShaper (s : State) (before m : Nat) : State :=
  let cap : Int := 400000 * (s.rd F.QSG_SHAPER_BURST_BURST_BYTES m : Int)
  let rate : Int := s.rd F.QSG_SHAPER_RATE_RATE_KBPS m
  let c := s.credit m
  let wasUp := (s.portsOf m).any (fun p => s.qsg.upPorts.contains p)
  match s.rdShaper F.QSG_SHAPER_CTRL_MODE m with
  | 1 => s.setCredit m (if wasUp then cap else min cap (c + rate))
  | 2 =>
    match s.servedBy m with
    | [] => s.setCredit m (if wasUp then 0 else min 0 (c + rate))
    | q :: _ =>
      let p := q / 16
      let holds := s.qsg.queue.any (fun x => x.q == q)
      if wasUp then s.setCredit m 0
      else if !s.gateOpen p (q % 16) s.now || s.isPaused p (q % 16) s.now then s.setCredit m (min cap c)
      else if holds then s.setCredit m (min cap (c + rate))
      else s.setCredit m (min 0 (c + rate))
  | _ => s.setCredit m (if before ≠ 0 then cap else min cap c)

/-- One meter at a refill boundary (R239) (DEDUCED, log 62). -/
def refillMeter (w : List Nat) (m : Meter) : Meter :=
  let cbs := 400000 * (w.getD 2 0 % 2 ^ 24)
  let ebs := 400000 * (w.getD 3 0 % 2 ^ 24)
  if m.written then { m with c := cbs, e := ebs, allRed := false, written := false }
  else
    let sum := m.c + w.getD 0 0
    let spill := sum - cbs
    { m with c := min cbs sum, e := min ebs (m.e + w.getD 1 0 + (if bit (w.getD 4 0) 0 then spill else 0)) }

/-- The best-effort buckets of throttling step 1 (R504), on the grid and in the units of R232, capped at 64 KiB (DEDUCED, log 62). -/
def State.refillBuckets (s : State) : State :=
  let next := s.buf.beBucket.map (fun u => min (400000 * 65536) (u + 1000000 * (s.rd F.PWR_STEP1_BE_GBPS : Int)))
  s.setBuf (fun b => { b with beBucket := next })

/-- R232, R235: every shaper at a refill boundary, under the modes and bindings that it puts into use. -/
def State.refillShapers (s : State) : State :=
  let before := fun (m : Nat) => s.rdShaper F.QSG_SHAPER_CTRL_MODE m
  let s := s.bindShapers
  let all := (s.listed F.QSG_SHAPER_CTRL_MODE ++ s.qsg.credit.map (fun c => c.shaper)).dedup
  all.foldl (fun s m => s.refillShaper (before m) m) s

/-- SHAPER_REFILL: a refill boundary, every 16 ticks (R232). -/
def execShaperRefill (s : State) : Host.Outcome State Fault Refusal :=
  .next (s.once 1 (s.live && s.now % 16 == 0) (fun s =>
    let s := s.refillShapers
    (s.setQsg (fun q => { q with upPorts := [], meters := q.meters.map (fun m => refillMeter (s.liveEntry 0x23 m.index) m) })).refillBuckets))

/-! ### Gate lists -/

/-- GCL_STATUS of a port (R258). -/
def State.showGcl (s : State) (p : Nat) : State :=
  let s := match s.runningOn p with
    | some l => ((s.wr F.QSG_GCL_STATUS_OPER_SCHED p l.header).wr F.QSG_GCL_STATUS_OPER_VALID p 1).wr F.QSG_GCL_STATUS_ENTRY p
        (s.entryAt (s.sched l.header) (s.viewAt s.now 0))
    | none => ((s.wr F.QSG_GCL_STATUS_OPER_SCHED p 0).wr F.QSG_GCL_STATUS_OPER_VALID p 0).wr F.QSG_GCL_STATUS_ENTRY p 0
  s.wr F.QSG_GCL_STATUS_PENDING p (b2n (s.waitingOn p).isSome)

/-- GATE_EVENT: in every port with a running list the entry that the view of this tick gives is in force (R242). -/
def execGateEvent (s : State) : Host.Outcome State Fault Refusal :=
  .next (s.whenLive (fun s => s.qsg.running.foldl (fun s l => s.showGcl l.port) s.classThree))

/-- R243, R247: a header whose change instant has come becomes the running list of its port. -/
def State.changeList (s : State) (l : GateList) : State :=
  let old := ((s.runningOn l.port).map (fun x => x.header)).getD 0xFFFF
  let s := s.setQsg (fun q => { q with
    running := q.running.filter (fun x => x.port != l.port) ++ [l]
    waiting := q.waiting.filter (fun x => x.port != l.port) })
  ((s.raiseBits F.QSG_INT_STATUS_GCL_CHANGE 0 1).gateRecord 0 0 l.port old l.header s.now 0 s.now).showGcl l.port

/-- Every pending header whose X the view of this tick has reached: class 5 (R243, R246). -/
def State.changeLists (s : State) : State :=
  (s.qsg.waiting.filter (fun l => decide (l.x ≤ s.viewAt s.now 0))).foldl (fun s l => s.changeList l) s
/-- GCL_CHANGE. -/
def execGclChange (s : State) : Host.Outcome State Fault Refusal := .next (s.whenLive (fun s => s.classThree.changeLists))

/-- R243: X of a header installed by a commit in this tick (DEDUCED, log 61). -/
def State.changeInstant (s : State) (h : Nat) : Nat :=
  let x := s.sched h
  let v := s.viewAt s.now 0
  if v ≤ x.base ∨ x.cycle = 0 then x.base else x.base + ceilDiv (v - x.base) x.cycle * x.cycle

/-- R243: what a commit does to the gates of a port. -/
def State.installGates (s : State) (p : Nat) (en : Bool) (h : Nat) : State :=
  let old := ((s.runningOn p).map (fun x => x.header)).getD 0xFFFF
  if !en then
    let s := s.setQsg (fun q => { q with
      running := q.running.filter (fun x => x.port != p), waiting := q.waiting.filter (fun x => x.port != p) })
    (s.gateRecord 3 0 p old 0xFFFF s.now 0 s.now).showGcl p
  else
    let x := s.changeInstant h
    let s := match s.waitingOn p with
      | some w => ((s.bump 8 4).raiseBits F.QSG_INT_STATUS_GCL_REPLACED 0 1).gateRecord 1 0 p w.header h
          (s.tickOfView s.now x) 0 s.now
      | none => s
    (s.setQsg (fun q => { q with waiting := q.waiting.filter (fun y => y.port != p) ++ [⟨p, h, x⟩] })).showGcl p

/-! ### Flap-holds and samples -/

/-- FLAP_HOLD_EXPIRE: the holds whose end has come without the port returning (R251, R275, R291). -/
def execFlapHoldExpire (s : State) : Host.Outcome State Fault Refusal :=
  .next (s.whenLive (fun s =>
    let done := (s.qsg.flap.filter (fun x => decide (x.2 ≤ s.now))).map Prod.fst
    done.foldl (fun s p =>
      let s := s.setQsg (fun q => { q with flap := q.flap.erase p })
      if s.portUp p then s else (s.flushPort p 43).clearPause p) s))

/-- The QSAMPLE record of a port (R331). -/
def State.queueSample (s : State) (p : Nat) : State :=
  let depth := (List.range 16).flatMap (fun n => be 4 (s.queueCells (16 * p + n)))
  let soj := (List.range 16).flatMap (fun n => be 4 (match s.qsg.queue.find? (fun c => c.egr == p && c.queue == n) with
    | some c => s.now - c.frame.raw / 16
    | none => 0))
  s.hand (s.mkRecord 0x17 8 p s.now 0 (be 2 p ++ zeros 14 ++ depth ++ soj))

/-- QUEUE_SAMPLE (R254). -/
def execQueueSample (s : State) : Host.Outcome State Fault Refusal :=
  let per := 800 * s.rd F.QSG_SAMPLE_CTRL_PERIOD_US
  .next (s.once 2 (s.live && per != 0 && s.now % per == 0) (fun s =>
    (s.listed F.QSG_PORT_CTRL_SAMPLE_EN).foldl (fun s p => s.queueSample p) s))

end Sys2Proof.Machine
end

