-- ==== Sys2Proof/Machine/Tables.lean ====
section
/-! DEFINITION. The Table Engine (R166 to R176, R183, R188, R189), learning (R178 to R181), aging (R182, R183), the pin log
(R193) and the table scrubber (R190). -/

namespace Sys2Proof.Machine

/-! ### Places of the exact-match tables (R170) -/

/-- Buckets per half. -/
def emBuckets (t : Nat) : Nat := if t = 0 then 65536 else 131072
/-- Key bytes in hash order. -/
def emKeyBytes (t key : Nat) : Bytes := if t = 0 then be 8 key else be 17 key
/-- The bucket of a key in a half. -/
def State.bucketOf (s : State) (t half key : Nat) : Nat :=
  crcStep 1 (if half = 0 then s.rd F.TBL_EM_SEED0_VALUE t else s.rd F.TBL_EM_SEED1_VALUE t) (emKeyBytes t key) % emBuckets t
def State.emAt (s : State) (t : Nat) (l : Loc) : Option EmEntry := s.tbl.em.find? (fun e => e.table == t && e.loc == l)
def State.emKey (s : State) (t key : Nat) : Option EmEntry := s.tbl.em.find? (fun e => e.table == t && e.key == key)
/-- The lowest free slot of a bucket. -/
def State.freeSlot (s : State) (t half bucket : Nat) : Option Loc :=
  ((List.range 4).map (fun i => Loc.slot half bucket i)).find? (fun l => (s.emAt t l).isNone)
/-- The lowest free stash entry (R174). -/
def State.freeStash (s : State) (t : Nat) : Option Loc :=
  ((List.range 64).map Loc.stash).find? (fun l => (s.emAt t l).isNone)

/-- EM_STATUS and STASH_HIGH (R174, R193): a key that stands in two places during a walk is one key (R171). -/
def State.showEm (s : State) (t : Nat) : State :=
  let mine := s.tbl.em.filter (fun e => e.table == t)
  let st := (mine.filter (fun e => match e.loc with | .stash _ => true | _ => false)).length
  let s := (s.wr F.TBL_EM_STATUS_ENTRIES t (mine.map (fun e => e.key)).dedup.length).wr F.TBL_EM_STATUS_STASH t st
  if 48 ≤ st then s.raiseBits F.TBL_INT_STATUS_STASH_HIGH 0 1 else s

/-! ### Insertion (R173) -/

/-- The pointer of a bucket. -/
def ptrKey (t half bucket : Nat) : Nat := (2 * t + half) * 2 ^ 17 + bucket

/-- The search for a path: slots so far, newest first, each with what it holds; the slot that ends it, if one is found (DEDUCED, log 40). -/
def State.walk (s : State) (t : Nat) : Nat → Nat → Nat → List EmEntry → State × Option (List EmEntry × Loc)
  | 0, _, _, _ => (s, none)
  | fuel + 1, side, cur, path =>
    let b := s.bucketOf t side cur
    let ptr := s.tbl.ptr.get (ptrKey t side b) 0
    let slots := (List.range 4).map (fun i => Loc.slot side b ((ptr + i) % 4))
    match slots.find? (fun l => path.all (fun e => e.loc != l)) with
    | none => (s, none)
    | some l =>
      let s := s.setTbl (fun x => { x with ptr := x.ptr.put (ptrKey t side b) ((ptr + 1) % 4) 0 })
      match s.emAt t l with
      | none => (s, none)
      | some e =>
        let path := e :: path
        let side := 1 - side
        match s.freeSlot t side (s.bucketOf t side e.key) with
        | some f => (s, some (path, f))
        | none => State.walk s t fuel side e.key path

/-- The writes of a walk: each victim to the place after it, from the free end back, then the new key. -/
def walkWrites (new : EmEntry) : List EmEntry → Loc → List TabWrite
  | [], dest => [.put { new with loc := dest }]
  | e :: rest, dest => .put { e with loc := dest } :: walkWrites new rest e.loc

/-- R173: the writes that insert a key, or none when no place is left (R175) (DEDUCED, log 40). -/
def State.planInsert (s : State) (e : EmEntry) : State × Option (List TabWrite) :=
  let t := e.table
  match s.freeSlot t 0 (s.bucketOf t 0 e.key) with
  | some l => (s, some [.put { e with loc := l }])
  | none =>
    match s.freeSlot t 1 (s.bucketOf t 1 e.key) with
    | some l => (s, some [.put { e with loc := l }])
    | none =>
      match s.walk t 32 0 e.key [] with
      | (s, some (path, f)) => (s.bump 6 13 0 path.length, some (walkWrites e path f))
      | (s, none) =>
        match s.freeStash t with
        | some l => (s.bump 6 14, some [.put { e with loc := l }])
        | none => (s, none)

/-- A write to an index of a table reaches every copy, a damaged one among them (R166). -/
def State.rewritten (s : State) (table index : Nat) : State :=
  s.setTbl (fun t => { t with
    damage := t.damage.filter (fun d => !(d.2.1 == table && d.2.2 == index))
    repairs := t.repairs.filter (fun r => !(r.table == table && r.index == index)) })

/-- One write lands (R171, R173): a key that stands elsewhere takes what it holds there with it, and stands in both places until the old one
is overwritten or cleared. -/
def State.applyWrite (s : State) (walking : Bool) : TabWrite → State
  | .put e =>
    let s := if walking then s.wr F.TBL_EM_MOVE_SEQ_VALUE e.table (s.rd F.TBL_EM_MOVE_SEQ_VALUE e.table + 1) else s
    let here := fun (y : EmEntry) => y.table == e.table && y.loc == e.loc
    let e := if s.tbl.em.any (fun y => here y && y.key == e.key) then e
      else match s.emKey e.table e.key with
        | some old => { old with loc := e.loc }
        | none => e
    ((s.setTbl (fun x => { x with em := x.em.filter (fun y => !here y) ++ [e] })).rewritten (e.table + 1) (e.loc.index e.table)).showEm e.table
  | .clear t l =>
    ((s.setTbl (fun x => { x with em := x.em.filter (fun y => !(y.table == t && y.loc == l)) })).rewritten (t + 1) (l.index t)).showEm t

/-- An operation joins the learn queue, which has room (R172, R562). -/
def State.putLearn (s : State) (o : LearnOp) : State := s.setTbl (fun x => { x with learn := x.learn ++ [(s.now, o)] })
/-- The learn queue has room for one more (R172). -/
def State.learnRoom (s : State) : Bool := decide (s.tbl.learn.length < 4096)
/-- A stash entry that a freed slot could hold moves back through the learn queue (R174), as soon as that has room. -/
def State.unstashFor (s : State) (t : Nat) (l : Loc) : State :=
  match l with
  | .stash _ => s
  | .slot half bucket _ =>
    match s.tbl.em.find? (fun e => e.table == t && (match e.loc with | .stash _ => true | _ => false)
        && s.bucketOf t half e.key == bucket && s.tbl.learn.all (fun o => o.2 != .unstash t e.key) && !s.tbl.moveBack.contains (t, e.key)) with
    | some e => if s.learnRoom then s.putLearn (.unstash t e.key) else s.setTbl (fun x => { x with moveBack := x.moveBack ++ [(t, e.key)] })
    | none => s
/-- A move back that found the learn queue full joins it when there is room. -/
def State.retryMove (s : State) : State :=
  match s.tbl.moveBack with
  | [] => s
  | m :: rest => if s.learnRoom then (s.setTbl (fun x => { x with moveBack := rest })).putLearn (.unstash m.1 m.2) else s

/-- A key leaves its table (R174, R176). -/
def State.removeKey (s : State) (t key : Nat) : State :=
  match s.emKey t key with
  | none => s
  | some e =>
    ((s.setTbl (fun x => { x with em := x.em.filter (fun y => !(y.table == t && y.key == key)),
                                  removing := x.removing.filter (fun y => y != (t, key)) })).showEm t).unstashFor t e.loc

/-! ### Station moves (R180, R181) -/

/-- An entry as a learn makes it (R179). -/
def learned (key port : Nat) : EmEntry :=
  { table := 0, key := key, loc := .stash 0, result := port, static := false, pinned := false, ageEn := true, hit := true,
    stale := false, moveCnt := 0, moveStart := 0 }

/-- The PIN_LOG registers show the head entry (R193). -/
def State.showPinLog (s : State) : State :=
  let h := s.tbl.pinLog.headD 0
  (((s.wr F.TBL_PIN_LOG_KEY_LO_MAC_LO 0 (h % 2 ^ 32)).wr F.TBL_PIN_LOG_KEY_HI_MAC_HI 0 (h / 2 ^ 32 % 2 ^ 16)).wr
    F.TBL_PIN_LOG_KEY_HI_VID 0 (h / 2 ^ 48)).wr F.TBL_PIN_LOG_CTRL_COUNT 0 s.tbl.pinLog.length

/-- R181: what a pin does beside the entry. -/
def State.notePin (s : State) (key count : Nat) : State :=
  let s := (s.raiseBits F.TBL_INT_STATUS_PINNED 0 1).bump 6 11
  let s := if s.tbl.pinLog.length < 16 then (s.setTbl (fun t => { t with pinLog := t.pinLog ++ [key] })).showPinLog
    else s.raiseBits F.TBL_INT_STATUS_PIN_LOG_OVERFLOW 0 1
  s.eventRec 6 0 s.now 2 key count 0

/-- R180, R181: a move rewrites DEST; the move count and its window. Its hit is set in its decision tick (R182). -/
def State.moved (s : State) (e : EmEntry) (port d : Nat) : EmEntry × Nat :=
  let elapsed := 1024 * ((d / 1024 + 2 ^ 32 - e.moveStart % 2 ^ 32) % 2 ^ 32)
  let fresh := decide (e.moveCnt = 0) || decide (s.rd F.TBL_MOVE_CFG_WINDOW_US * 800 ≤ elapsed)
  let count := if fresh then 1 else e.moveCnt + 1
  let pin := decide (s.rd F.TBL_MOVE_CFG_LIMIT < count)
  ({ e with result := e.result / 65536 * 65536 + port, moveCnt := min count 15,
            moveStart := if fresh then d / 1024 % 2 ^ 32 else e.moveStart, pinned := pin }, count)

/-- R179, R180: an event of a key, when its write comes up, against the entry that stands then, or against none. -/
def State.learnEvent (s : State) (key : Nat) (e : Option EmEntry) (port d : Nat) : State × EmEntry :=
  match e with
  | none => (s, learned key port)
  | some e =>
    if e.static then (s.bump 6 9, e)
    else if e.pinned then (s.bump 6 10, e)
    else if e.result / 2 ^ 30 ≠ 0 ∨ e.result % 65536 = port then (s, { e with hit := true })
    else
      let (e', count) := s.moved e port d
      let s := s.bump 6 8
      (if e'.pinned then s.notePin key count else s, e')

/-- The events of a key, in turn. -/
def State.learnEvents (s : State) (key : Nat) : Option EmEntry → List (Nat × Nat) → State × Option EmEntry
  | e, [] => (s, e)
  | e, (port, d) :: rest =>
    match s.learnEvent key e port d with
    | (s, e') => State.learnEvents s key (some e') rest

/-! ### The write slot (R172) -/

/-- A learn fails (R175). -/
def State.learnFail (s : State) : State := (s.bump 6 6).raiseBits F.TBL_INT_STATUS_LEARN_FAIL 0 1

/-- A table write by a command ends: it extends D (R523), and its reply is placed. -/
def State.finishTab (s : State) (p : Packet) : State :=
  (s.extendD (if p.opcode.toNat = 0x21 then 2 else 1) p.sender.val 0 p.address.toNat Config.tableMask
    (p.data.map (fun w => w.toNat))).finish p .ok

/-- Writes begin: the first lands in this slot, the others follow. -/
def State.beginWrites (s : State) (t : Nat) (w : List TabWrite) (p : Option Packet) : State :=
  match w with
  | [] => match p with | some p => s.finishTab p | none => s
  | x :: rest =>
    let s := s.applyWrite (rest.any (fun w => match w with | .put _ => true | .clear _ _ => false)) x
    if rest = [] then (match p with | some p => s.finishTab p | none => s)
    else s.setTbl (fun y => { y with op := y.op ++ [⟨t, rest, p⟩] })

/-- The next write of the operation in progress of a table. -/
def State.continueOp (s : State) (o : TabOp) : State :=
  match o.writes with
  | [] => s.setTbl (fun y => { y with op := y.op.filter (fun x => x.table != o.table) })
  | x :: rest =>
    let s := s.applyWrite true x
    if rest = [] then
      let s := s.setTbl (fun y => { y with op := y.op.filter (fun x => x.table != o.table) })
      (match o.packet with | some p => s.finishTab p | none => s)
    else s.setTbl (fun y => { y with op := y.op.map (fun x => if x.table = o.table then { o with writes := rest } else x) })

/-- One operation of the learn queue (R179, R174, R183) (DEDUCED, log 40). -/
def State.learnOp (s : State) (o : LearnOp) : State :=
  match o with
  | .learn key events =>
    if !s.on F.TBL_EM_CTRL_ENABLE 0 then s.learnFail
    else
      let old := s.emKey 0 key
      match s.learnEvents key old events with
      | (t, none) => t
      | (t, some e) =>
        match old with
        | some _ => t.applyWrite false (.put e)
        | none =>
          match t.planInsert e with
          | (t, some w) => (t.bump 6 5).beginWrites 0 w none
          | (t, none) => (s.setTbl (fun x => { x with ptr := t.tbl.ptr })).learnFail
  | .remove t key => if s.tbl.removing.contains (t, key) then (s.removeKey t key).bump 6 12 else s
  | .unstash t key =>
    match s.emKey t key with
    | some e =>
      (match e.loc with
       | .stash _ =>
         let l := match s.freeSlot t 0 (s.bucketOf t 0 key) with
           | some l => some l
           | none => s.freeSlot t 1 (s.bucketOf t 1 key)
         (match l with
          | some l => s.beginWrites t [.put { e with loc := l }, .clear t e.loc] none
          | none => s)
       | _ => s)
    | none => s

/-- The table that an operation of the learn queue writes. -/
def LearnOp.table : LearnOp → Nat
  | .learn _ _ => 0
  | .remove t _ => t
  | .unstash t _ => t

/-- The entry of a MAC or host descriptor (R176). -/
def emOf (t : Nat) (w : List Nat) : EmEntry :=
  let w0 := w.getD 0 0
  let key := if t = 0 then macKey (bits w0 11 0) (bits (w.getD 1 0) 15 0 * 2 ^ 32 + w.getD 2 0)
    else hostKey (bits w0 7 0) (wordsNat ((w.drop 1).take 4))
  { table := t, key := key, loc := .stash 0, result := w.getD (if t = 0 then 3 else 5) 0, static := t == 0 && bit w0 30,
    pinned := false, ageEn := t == 0 || bit w0 30, hit := false, stale := false, moveCnt := 0, moveStart := 0 }

/-- A software operation on the MAC or host table comes up (R172, R175, R176). -/
def State.softEm (s : State) (t : Nat) (p : Packet) : State :=
  let w := p.data.map (fun x => x.toNat)
  let e := emOf t w
  if p.opcode.toNat = 0x21 then (s.removeKey t e.key).finishTab p
  else
    match s.emKey t e.key with
    | some old =>
      if bit (w.getD 0 0) 31 then
        (s.applyWrite false (.put { old with result := e.result, static := e.static, ageEn := e.ageEn, pinned := false })).finishTab p
      else s.finish p .notPermitted
    | none =>
      match s.planInsert e with
      | (s, some ws) => s.beginWrites t ws (some p)
      | (s, none) => s.finish p .tableFull

/-- The prefix of a descriptor (R188). -/
def prefixOf (w : List Nat) : PrefixEntry :=
  { version := bits (w.getD 0 0) 7 0, len := bits (w.getD 0 0) 15 8, addr := wordsNat ((w.drop 1).take 4), result := w.getD 5 0 }
def PrefixEntry.units (e : PrefixEntry) : Nat := if e.version = 4 then 1 else 2
def State.prefixUnits (s : State) : Nat := sumOf s.tbl.prefixes PrefixEntry.units
def State.showPrefix (s : State) : State := s.wr F.TBL_PREFIX_STATUS_UNITS 0 s.prefixUnits
/-- The prefix at an index goes; those after it stand one lower. -/
def State.dropPrefix (s : State) (i : Nat) : State :=
  let low := fun (n : Nat) => if i < n then n - 1 else n
  (s.rewritten 3 i).setTbl (fun t => { t with
    prefixes := t.prefixes.eraseIdx i
    damage := t.damage.map (fun d => if d.2.1 = 3 then (d.1, 3, low d.2.2) else d)
    repairs := t.repairs.map (fun r => if r.table = 3 then { r with index := low r.index } else r) })

/-- A software operation on the prefix table: seen before or after, never between (R188, R176). -/
def State.softPrefix (s : State) (p : Packet) : State :=
  let w := p.data.map (fun x => x.toNat)
  let e := prefixOf w
  let same := fun (x : PrefixEntry) => x.version == e.version && x.len == e.len && x.addr == e.addr
  match s.tbl.prefixes.findIdx? same with
  | some i =>
    if p.opcode.toNat = 0x21 then ((s.dropPrefix i).showPrefix).finishTab p
    else if bit (w.getD 0 0) 31 then
      ((s.setTbl (fun t => { t with prefixes := upd t.prefixes i (fun _ => e) })).rewritten 3 i).finishTab p
    else s.finish p .notPermitted
  | none =>
    if p.opcode.toNat = 0x21 then s.finishTab p
    else if 262144 < s.prefixUnits + e.units then s.finish p .tableFull
    else ((s.setTbl (fun t => { t with prefixes := t.prefixes ++ [e] })).showPrefix).finishTab p

/-- Set or remove an entry of an indexed table; entries stand in the order of table and index. -/
def putEntry (l : List TabEntry) (e : TabEntry) : List TabEntry :=
  let before := fun (x : TabEntry) => decide (x.table < e.table) || (x.table == e.table && decide (x.index < e.index))
  l.filter before ++ [e] ++ l.filter (fun x => !before x && !(x.table == e.table && x.index == e.index))
def dropEntry (l : List TabEntry) (table index : Nat) : List TabEntry :=
  l.filter (fun x => !(x.table == table && x.index == index))

/-- A software operation on the replication lists (R165). -/
def State.softList (s : State) (p : Packet) : State :=
  let i := p.address.toNat % 2 ^ 24
  let s := s.setTbl (fun t => { t with live :=
    if p.opcode.toNat = 0x21 then dropEntry t.live 5 i else putEntry t.live ⟨5, i, p.data.map (fun x => x.toNat)⟩ })
  (s.rewritten 5 i).finishTab p

/-- The software operation at the head of a table's queue (DEDUCED, log 24). -/
def State.softOp (s : State) (o : SoftOp) : State :=
  let s := s.setTbl (fun t => { t with soft := t.soft.erase o })
  if o.table = 1 then s.softEm 0 o.packet else if o.table = 2 then s.softEm 1 o.packet
  else if o.table = 3 then s.softPrefix o.packet else s.softList o.packet

/-! ### Repairs (R153, R167, R189) -/

/-- R167, step 2: the lowest pipeline that serves its own group and is neither retired nor being rewritten, other than one. -/
def State.lowPipe (s : State) (other : Nat) : Option Nat :=
  (List.range 16).find? (fun p => p != other && nth s.flt.pipes p .down == .serving && !bit (s.rd F.FLT_PIPE_STATUS_RETIRED) p
    && s.flt.givingBack != some p)
/-- R167: the pipeline whose copy is the reference copy in this tick. -/
def State.refPipe (s : State) : Option Nat := if s.spareReady then some 16 else s.lowPipe 17
/-- R167: the copy from which another is repaired, never itself. -/
def State.repairSource (s : State) (pipe : Nat) : Option Nat := if s.refPipe = some pipe then s.lowPipe pipe else s.refPipe

/-- R189: the entry at an index of a table is lost in every copy. -/
def State.loseEntry (s : State) (table index : Nat) : State :=
  let s :=
    if table = 1 ∨ table = 2 then
      match s.tbl.em.find? (fun e => e.table + 1 == table && e.loc.index (table - 1) == index) with
      | some e => s.removeKey (table - 1) e.key
      | none => s
    else if table = 3 then (s.dropPrefix index).showPrefix
    else s.setTbl (fun t => { t with live := dropEntry t.live table index, cur := dropEntry t.cur table index,
                                     prev := dropEntry t.prev table index })
  (((s.rewritten table index).bump 6 17).raiseBits F.TBL_INT_STATUS_ENTRY_LOST 0 1).raiseFault 29 3 1 0 (table * 2 ^ 32 + index)

/-- A repair write: the copy is rewritten from its source (R167); when both are uncorrectable the entry is lost (R189), and a row stays as it
is (DESIGN CHOICE, log 90). -/
def State.repairCopy (s : State) (r : Repair) : State :=
  let s := s.setTbl (fun t => { t with repairs := t.repairs.erase r })
  let bad := fun (p : Nat) => s.tbl.damage.contains (p, r.table, r.index)
  match s.repairSource r.pipe with
  | none => s
  | some q =>
    if !bad q then s.setTbl (fun t => { t with damage := t.damage.filter (fun d => d != (r.pipe, r.table, r.index)) })
    else if bad r.pipe && r.table != 0x10 then s.loseEntry r.table r.index
    else s

/-- R172, R152: a table's write slot takes its write from the first source that has one which reached the table port in an earlier tick
(R562) (DEDUCED, log 40). -/
def State.writeSlot (s : State) (table : Nat) : State :=
  match s.tbl.repairs.find? (fun r => r.table == table && decide (r.arrived < s.now)) with
  | some r => s.repairCopy r
  | none =>
    if table = 0x10 then
      match s.tbl.rows.find? (fun r => decide (r.arrived < s.now)) with
      | some r => s.setTbl (fun t => { t with rows := t.rows.erase r })
      | none => s
    else match s.tbl.op.find? (fun o => o.table + 1 == table) with
    | some o => s.continueOp o
    | none =>
      match s.tbl.soft.find? (fun o => o.table == table && decide (o.arrived < s.now)) with
      | some o => s.softOp o
      | none =>
        match s.tbl.learn.find? (fun o => o.2.table + 1 == table && decide (o.1 < s.now)) with
        | some o => ((s.setTbl (fun t => { t with learn := t.learn.erase o })).learnOp o.2).retryMove
        | none => s

/-- The mark of the table write slot among the slots used in a tick (R113). -/
def writeSlotMark : Nat := 128 * 17
/-- TABLE_WRITE_SLOT: the table write slot of a 128-slot group, once in 16 ticks at the full core clock and the same in all 17 pipelines,
carries one write to each table array (R113, R166). -/
def execTableWriteSlot (s : State) : Host.Outcome State Fault Refusal :=
  .next (s.when (s.live && s.slotNow 0 && !s.fwd.slotsUsed.contains writeSlotMark) (fun s =>
    [1, 2, 3, 4, 5, 6, 0x10].foldl (fun s t => s.writeSlot t)
      (s.setFwd (fun w => { w with slotsUsed := w.slotsUsed ++ [writeSlotMark] }))))

/-! ### Learning (R178, R179) -/

/-- The hit bit of a key, which also cancels its removal (R182, R183). -/
def State.setHit (s : State) (t key : Nat) : State :=
  s.setTbl (fun x => { x with
    em := x.em.map (fun e => if e.table = t ∧ e.key = key then { e with hit := true } else e)
    removing := x.removing.filter (fun y => y != (t, key)) })

/-- The entry of a key as the writes that wait will leave it (R179). -/
def State.expected (s : State) (key : Nat) : Option EmEntry :=
  match s.tbl.learn.findSome? (fun o => match o.2 with | .learn k ev => if k = key then some ev else none | _ => none) with
  | some ev => (s.learnEvents key (s.emKey 0 key) ev).2
  | none => s.emKey 0 key

/-- A learn or a move of decision tick `d` waits for its write; events of one key merge (R179) (DEDUCED, log 40). -/
def State.queueLearn (s : State) (key port d : Nat) : State :=
  let has := s.tbl.learn.any (fun o => match o.2 with | .learn k _ => k == key | _ => false)
  if has then
    s.setTbl (fun t => { t with learn := t.learn.map (fun o => match o.2 with
      | .learn k ev => if k = key then (o.1, .learn k (ev ++ [(port, d)])) else o
      | _ => o) })
  else if s.learnRoom then s.putLearn (.learn key [(port, d)])
  else (s.bump 6 7).raiseBits F.TBL_INT_STATUS_LEARN_OVERFLOW 0 1

/-- A candidate at its decision tick (R178 to R180): its destination's hits count whatever its FCS (R182). -/
def State.learnDecide (s : State) (c : Candidate) : State :=
  let s := c.hits.foldl (fun s h => s.setHit h.1 h.2) s
  if c.good ≠ some true || !c.learn || !s.on F.TBL_LEARN_CTRL_ENABLE || !s.on F.TBL_PORT_CFG_LEARN_EN c.port then s
  else
    let key := macKey c.vid c.smac
    let d := c.raw / 16 + 4096
    let s := s.bump 6 (if (s.emFind 0 key).isSome then 1 else 2)
    if !s.on F.TBL_EM_CTRL_ENABLE 0 then s.learnFail
    else match s.expected key with
      | none => s.queueLearn key c.port d
      | some e =>
        if e.result / 2 ^ 30 ≠ 0 ∨ e.result % 65536 = c.port then s.setHit 0 key
        else if e.static then s.bump 6 9
        else if e.pinned then s.bump 6 10
        else (s.setHit 0 key).queueLearn key c.port d

/-- The decisions of this tick: the frames stamped 4,096 ticks ago, in the order of their stamps and ports (R179, R34). -/
def State.learnDue (s : State) : State :=
  let due := s.tbl.candidates.filter (fun c => decide (c.raw / 16 + 4096 ≤ s.now))
  let s := s.setTbl (fun t => { t with candidates := t.candidates.filter (fun c => decide (s.now < c.raw / 16 + 4096)) })
  (sortBy (fun (a b : Candidate) => decide (a.raw < b.raw) || (a.raw == b.raw && decide (a.port ≤ b.port))) due).foldl (fun s c => s.learnDecide c) s
/-- LEARN_DECISION. -/
def execLearnDecision (s : State) : Host.Outcome State Fault Refusal := .next (s.whenLive State.learnDue)

/-! ### Aging (R183) -/

/-- The Age Sweeper at one entry. -/
def State.ageEntry (s : State) (e : EmEntry) (hitError : Bool) : State :=
  let e := { e with hit := e.hit || hitError }
  let on' := s.rd F.TBL_AGE_CTRL_PERIOD_S != 0
  let ages := if e.table = 0 then !e.static else e.ageEn
  let over' := decide (s.rd F.TBL_MOVE_CFG_WINDOW_US * 800 ≤ 1024 * ((s.now / 1024 + 2 ^ 32 - e.moveStart % 2 ^ 32) % 2 ^ 32))
  let e' := if e.moveCnt ≠ 0 ∧ over' then { e with moveCnt := 0 } else e
  let gone := on' && ages && !e.hit && e.stale
  let e' := if !on' || !ages then e' else if e.hit then { e' with hit := false, stale := false } else { e' with stale := true }
  let s := s.setTbl (fun x => { x with em := x.em.map (fun y => if y.table = e.table ∧ y.key = e.key then e' else y) })
  if gone && !s.tbl.removing.contains (e.table, e.key) && s.learnRoom then
    (s.putLearn (.remove e.table e.key)).setTbl (fun x => { x with removing := x.removing ++ [(e.table, e.key)] })
  else s

/-- R183: the ticks between two visits to a place. -/
def State.agePeriod (s : State) : Nat :=
  800000000 * (if s.rd F.TBL_AGE_CTRL_PERIOD_S = 0 then 4096 else s.rd F.TBL_AGE_CTRL_PERIOD_S)
/-- AGE_SWEEPER_VISIT: a visit to a place of the MAC or host table: the buckets of T0, those of T1, then the 64 stash entries, each once in
a period and after the learns and moves of its tick (R183). -/
def execAgeSweeperVisit (table : Fin 2) (visit : SweepVisit) (s : State) : Host.Outcome State Fault Refusal :=
  let b := emBuckets table.val
  let n := visit.place.val
  let here := fun (l : Loc) => match l with
    | .slot half bucket _ => decide (n < 2 * b) && half == n / b && bucket == n % b
    | .stash i => decide (2 * b ≤ n) && i == n - 2 * b
  let k := 2 ^ 20 * table.val + n
  let last := s.tbl.visited.get k 0
  .next (s.when (s.live && (last == 0 || decide (last - 1 + s.agePeriod ≤ s.now))) (fun s =>
    let s := s.learnDue.setTbl (fun x => { x with visited := x.visited.put k (s.now + 1) 0 })
    (s.tbl.em.filter (fun e => e.table == table.val && here e.loc)).foldl (fun s e => s.ageEntry e visit.hitError) s))

/-! ### The pin log and the scrubber -/

/-- POP removes the head entry of the pin log (R193). -/
def State.pinLogPop (s : State) : State := (s.setTbl (fun t => { t with pinLog := t.pinLog.drop 1 })).showPinLog

/-- TABLE_SCRUB: the scrubber reads a word of a copy and finds it clean, corrected, uncorrectable, or uncorrectable with its
repair source uncorrectable too (R189, R190, R153). -/
def execTableScrub (pipe : Fin 17) (table : Fin 17) (index : BitVec 24) (finding : Fin 4) (s : State) : Host.Outcome State Fault Refusal :=
  let i := index.toNat
  let t := table.val
  let p := pipe.val
  let src := if t = 16 then 28 else 29
  let val := if t = 16 then i else t * 2 ^ 32 + i
  .next (s.when (s.live && s.on F.TBL_SCRUB_CTRL_ENABLE) (fun s =>
    match finding.val with
    | 0 => s
    | 1 => ((s.raiseFault src 1 0 p val).raiseBits (if t = 16 then F.CLS_INT_STATUS_ECC_CORR else F.TBL_INT_STATUS_ECC_CORR) 0 1).askRepair p t i
    | 2 => (s.raiseFault src 2 1 p val).noteDamage p t i
    | _ =>
      let s := (s.raiseFault src 2 1 p val).noteDamage p t i
      match s.repairSource p with
      | some q => s.noteDamage q t i
      | none => s))

end Sys2Proof.Machine
end

