-- ==== Sys2Proof/Machine/Access.lean ====
section
/-! DEFINITION. Register accesses (R6 to R12, R440 to R447): the register at an address, reads with their side effects, the
64-bit pairs, ownership, classes, the checks of the target unit, and what a write sets going. -/

namespace Sys2Proof.Machine

/-! ### The register at an address (R6, R7, R13) -/

/-- The maps of the blocks, in the order of their bases. -/
def blockMaps : List (List RegD) :=
  [regMapSYS, regMapTIM, regMapSYN, regMapTSU, regMapPRS, regMapCLS, regMapTBL, regMapBUF, regMapQSG, regMapCLR, regMapMSQ,
   regMapTRP, regMapEVR, regMapMEM, regMapLAN, regMapMAC, regMapCHK, regMapCMD, regMapFLT, regMapPWR, regMapIDN, regMapCNT]
/-- Which copy of a register stands at an address. -/
def RegD.copyAt (r : RegD) (addr : Nat) : Option Nat :=
  match r.fields with
  | [] => none
  | d :: _ => d.fld.copy? (addr * 32 + d.fld.lsb)
/-- The register at an address, and which copy of it. -/
def findReg (addr : Nat) : Option (RegD × Nat) :=
  if addr % 4 = 0 then (blockMaps.getD (unitOf addr) []).findSome? (fun r => (r.copyAt addr).map (fun n => (r, n))) else none

/-- The bits of a field in a word, a value at the field's place, and the mask of the field. -/
def Fld.part (f : Fld) (w : Nat) : Nat := w / 2 ^ f.lsb % 2 ^ f.width
def Fld.place (f : Fld) (v : Nat) : Nat := v % 2 ^ f.width * 2 ^ f.lsb
def Fld.ones (f : Fld) : Nat := (2 ^ f.width - 1) * 2 ^ f.lsb
/-- A value with the bits of a mask replaced. -/
def masked (old m v : Nat) : Nat := (old ^^^ (old &&& m)) ||| (v &&& m)

/-! ### Reads -/

/-- FLT.HIST shows the entry that HIST_SEL names, of the live queue or of the frozen copy, 0 the newest (R498). -/
def State.showHist (s : State) : State :=
  let l := if s.on F.FLT_HIST_SEL_FROZEN then s.flt.main.frozen.getD [] else s.flt.main.live
  let i := s.rd F.FLT_HIST_SEL_INDEX
  let e := l.getD i ⟨0, 0, 0, false, false, false, false, 0, 0, 0⟩
  let s := (s.wr2 F.FLT_HIST_TICK_LO_TICK F.FLT_HIST_TICK_HI_TICK 0 e.tick).wr2 F.FLT_HIST_VALUE_LO_VALUE F.FLT_HIST_VALUE_HI_VALUE 0 e.val
  let s := (((s.wr F.FLT_HIST_INFO_SRC 0 e.src).wr F.FLT_HIST_INFO_LEVEL 0 e.level).wr F.FLT_HIST_INFO_CAUSE 0 e.cause).wr
    F.FLT_HIST_INFO_INSTANCE 0 e.inst
  let s := (((s.wr F.FLT_HIST_INFO_ESCALATED 0 (b2n e.escalated)).wr F.FLT_HIST_INFO_FIRST 0 (b2n e.first)).wr F.FLT_HIST_INFO_ACK 0
    (b2n e.ack)).wr F.FLT_HIST_INFO_FAULT_N 0 (b2n e.faultN)
  s.wr F.FLT_HIST_INFO_VALID 0 (b2n (decide (i < l.length)))

/-- CMD.STORE_DATA shows the word that STORE_SEL names (R473, R475). -/
def State.showStore (s : State) : State :=
  let c := nth s.drafen.cores (s.rd F.CMD_STORE_SEL_CORE) {}
  let i := s.rd F.CMD_STORE_SEL_INDEX
  let p := s.rd F.CMD_STORE_SEL_PART
  s.wr F.CMD_STORE_DATA_VALUE 0
    (if s.on F.CMD_STORE_SEL_STORE then bits (c.nano.get i 0) (32 * p + 31) (32 * p) else c.micro.get i 0)

/-- CMD.ROUTINE shows the routine that runs (R475). -/
def State.showRoutine (s : State) : State :=
  match s.drafen.routine with
  | some r => (((s.wr F.CMD_ROUTINE_START 0 r.start).wr F.CMD_ROUTINE_LEVEL 0 r.req.level).wr F.CMD_ROUTINE_PAST_COMMIT 0 (b2n r.past)).wr
      F.CMD_ROUTINE_ABANDONS 0 r.abandons
  | none => (((s.rst F.CMD_ROUTINE_START).rst F.CMD_ROUTINE_LEVEL).rst F.CMD_ROUTINE_PAST_COMMIT).rst F.CMD_ROUTINE_ABANDONS

/-- Registers that only show other state take it before a read (DEDUCED, log 68). -/
def State.showFor (s : State) (addr : Nat) : State :=
  if unitOf addr = 18 then s.showHist else if unitOf addr = 17 then (s.showStore).showRoutine
  else if unitOf addr = 14 then
    (match findReg addr with
      | some (r, n) => if r.base = A.LAN_LANE_SNAP then s.showSnapAge n else s
      | none => s)
  else if addr = A.EVR_CAP then s.wr F.EVR_CAP_CAP_EFF 0 s.capEff else s

/-- The word of a register as a read gives it (R10). On a port that does not exist STATUS reads 0 (R403). -/
def State.wordOf (s : State) (r : RegD) (n : Nat) : Nat :=
  if r.base = A.LAN_PORT_STATUS ∧ !s.on F.LAN_PORT_CFG_EN n then 0
  else sumOf r.fields (fun d => if d.acc = .wo then 0 else d.fld.place (s.rd d.fld n))
/-- The word at an address, 0 where there is none. -/
def State.wordAt (s : State) (addr : Nat) : Nat := match findReg addr with | some (r, n) => s.wordOf r n | none => 0

/-- A read of a register and what it clears or takes (R10, R419, R519) (DESIGN CHOICE, log 74). -/
def State.readReg (s : State) (r : RegD) (n : Nat) : Nat × State :=
  if r.base = A.CHK_OUT then s.chkOutRead n
  else if r.base = A.IDN_CERT_DATA then s.readCert
  else (s.wordOf r n, r.fields.foldl (fun s d => if d.acc = .rc then s.rst d.fld n else s) s)

/-- R9: a read of one half of a pair whose halves now hold `lo` and `hi` (DEDUCED, log 11). -/
def State.readHalf (s : State) (seat addr lo hi : Nat) (isHi : Bool) : Nat × State :=
  if isHi then
    (match (s.seat seat).capture with
      | some (a, h) => if a = addr - 4 then h else hi
      | none => hi, s)
  else (lo, s.setSeat seat (fun x => { x with capture := some (addr, hi) }))

/-- A 64-bit value of the counter block: a counter, or a descriptor (R528, R533). -/
def State.cntWord (s : State) (seat addr : Nat) : Option (Except Status Nat) :=
  if 0x800000 ≤ addr ∧ addr < 0xBF0000 then
    let off := (addr - 0x800000) / 8 * 8
    some (if s.mayCount seat off then .ok (s.cntValue off) else .error .notOwner)
  else if 0xC00000 ≤ addr ∧ addr < 0xFF0000 then some (.ok (cntDescriptor ((addr - 0xC00000) / 8 * 8)))
  else none

/-- A seat reads a register word. -/
def State.readWord (s : State) (seat addr : Nat) : Except Status (Nat × State) :=
  if addr % 4 ≠ 0 then .error .badAddress
  else
    match s.cntWord seat addr with
    | some (.error e) => .error e
    | some (.ok v) => .ok (s.readHalf seat addr (v % 2 ^ 32) (v / 2 ^ 32) (addr % 8 == 4))
    | none =>
      let s := s.showFor addr
      match findReg addr with
      | none => .error .badAddress
      | some (r, n) =>
        match r.half with
        | .whole => .ok (s.readReg r n)
        | .lo =>
          let hi := s.wordAt (addr + 4)
          let (v, s) := s.readReg r n
          .ok (s.readHalf seat addr v hi false)
        | .hi => .ok (s.readHalf seat addr 0 (s.wordOf r n) true)

/-! ### What a write sets (R8, R10, R12) -/

/-- The fields that a write reaches: taps of a lane without a chip-to-module reach ignore it (R404). -/
def State.fieldsOf (s : State) (r : RegD) (n : Nat) : List FieldD :=
  if r.base = A.LAN_LANE_TX_COEF then
    match s.lanePort n with
    | some p => if s.rd F.LAN_PORT_CFG_REACH p = 2 then r.fields else []
    | none => r.fields
  else r.fields

/-- The value of a field after a write under a mask. -/
def State.written (s : State) (d : FieldD) (n mask value : Nat) : Nat :=
  let old := s.rd d.fld n
  let m := d.fld.part mask
  if m = 0 ∨ d.fixedAt n then old
  else match d.acc with
    | .rw => d.norm n (masked old m (d.fld.part value)) % 2 ^ d.fld.width
    | .w1c =>
      let keep := s.hwSet.get (d.fld.key n) 0
      let clr := d.fld.part value &&& m
      masked old (clr ^^^ (clr &&& keep)) 0
    | _ => old
/-- A value that the field does not take (R440) (DEDUCED, log 12). -/
def State.outOfRange (s : State) (d : FieldD) (n mask value : Nat) : Bool :=
  let m := d.fld.part mask
  m != 0 && !d.fixedAt n && d.acc == .rw && !d.ok (masked (s.rd d.fld n) m (d.fld.part value))
/-- The write changes the field, or asks for what a write-only field does. -/
def State.changes (s : State) (d : FieldD) (n mask value : Nat) : Bool :=
  if d.acc = .wo then d.fld.part (value &&& mask) != 0 else s.written d n mask value != s.rd d.fld n
/-- The state with a word written, and nothing set going. -/
def State.poke (s : State) (r : RegD) (n mask value : Nat) : State :=
  let l := s.fieldsOf r n
  { l.foldl (fun t d => if s.written d n mask value = s.rd d.fld n then t else t.wr d.fld n (s.written d n mask value)) s with
    rwSet := (l.filter (fun d => d.acc == .rw && d.fld.part mask != 0)).map (fun d => d.fld.key n) ++ s.rwSet }

/-- A write of TRP.BASE[k] that goes out as a PROFILE and stages nothing (R305) (DEDUCED, log 41). -/
def State.sharedBase (s : State) (r : RegD) (n : Nat) : Bool := r.base == A.TRP_BASE && s.on F.TRP_CTRL_ENABLE && s.sharedProfile n

/-- R12: the strictest class among the fields that a write changes (DEDUCED, log 12). -/
def State.classOf (s : State) (r : RegD) (n mask value : Nat) : Cls :=
  let c := ((s.fieldsOf r n).filter (fun d => s.changes d n mask value)).map (fun d => d.cls)
  if c.contains .q then .q else if c.contains .s && !s.sharedBase r n then .s else .l

/-! ### Ownership (R432 and the rule of each block) -/

/-- Bits of a mask lie in a field; and the field's bits that a write sets. -/
def Fld.touched (f : Fld) (mask : Nat) : Bool := f.part mask != 0
def Fld.hit (f : Fld) (mask value : Nat) : Bool := f.part (mask &&& value) != 0

def State.mayWrite (s : State) (seat : Nat) (r : RegD) (n mask value : Nat) : Bool :=
  match r.own with
  | .seat0 => seat == 0
  | .nobody => seat == 0
  | .port => s.ownsPort seat n
  | .queue => s.ownsPort seat (n / 16)
  | .ring => seat == n
  | .group => seat == (if r.base = A.CNT_SNAP_DATA_LO ∨ r.base = A.CNT_SNAP_DATA_HI then n / 256 else n)
  | .engine => s.ownsEngine seat n
  | .cal => s.ownsPort seat (F.TSU_CAL_CTRL_PORT.part (masked (s.wordOf r n) mask value))
  | .lane => s.ownsLane seat n
  | .seatStatus => seat == 0 || seat == n

/-! ### Stopped instances (R11 and the rule of each block) -/

/-- Both segments of a deep queue are empty (R213) (DEDUCED, log 18). -/
def State.deepEmpty (s : State) (d : Nat) : Bool :=
  !s.on F.BUF_DEEP_CTRL_ENABLE d || s.copies.all (fun c => c.q != s.deepQueue d)
/-- A field of the previous generation. -/
def State.prevOn (s : State) (f : Fld) (n : Nat) : Bool := s.prevRegs.get (f.key n) (f.reset n) == 1
/-- An instance of the Merge Sequencer is stopped: disabled in both generations, its store empty (R297). -/
def State.instStopped (s : State) (m : Nat) : Bool :=
  !s.on F.MSQ_INST_CTRL_ENABLE m && !s.prevOn F.MSQ_INST_CTRL_ENABLE m && s.qsg.seq.all (fun x => x.inst != m)

/-- The instance of a class Q write is stopped; `t` is the state with the write in place (DEDUCED, log 18). -/
def State.stopped (s t : State) (r : RegD) (n : Nat) : Bool :=
  let b := r.base
  let kept := fun (f : Fld) => s.rd f n == t.rd f n
  if [A.SYN_ASSOC_CTRL, A.SYN_ASSOC_VLAN, A.SYN_MASTER_ID_LO, A.SYN_MASTER_ID_HI, A.SYN_MASTER_PORT].contains b then
    !s.on F.SYN_ASSOC_CTRL_ENABLE n
  else if b = A.SYN_MPORT_CTRL then s.rd F.SYN_MPORT_CTRL_ROLE n == 0
  else if b = A.TBL_EM_SEED0 ∨ b = A.TBL_EM_SEED1 then !s.on F.TBL_EM_CTRL_ENABLE n && s.tbl.em.all (fun e => e.table != n)
  else if b = A.BUF_DEEP_AREA then (List.range 64).all (fun d => !s.on F.BUF_DEEP_CTRL_ENABLE d)
  else if b = A.BUF_DEEP_CTRL then !s.on F.BUF_DEEP_CTRL_ENABLE n || (s.deepEmpty n && !t.on F.BUF_DEEP_CTRL_ENABLE n)
  else if b = A.BUF_DEEP_QUOTA then !s.on F.BUF_DEEP_CTRL_ENABLE n
  else if b = A.BUF_SEAT_RING_CTRL then
    (kept F.BUF_SEAT_RING_CTRL_TX_LOG_SIZE || !s.on F.BUF_SEAT_RING_CTRL_TX_EN n)
      && (kept F.BUF_SEAT_RING_CTRL_RX_LOG_SIZE || !s.on F.BUF_SEAT_RING_CTRL_RX_EN n)
  else if b = A.BUF_SEAT_RING_TX_BASE_LO ∨ b = A.BUF_SEAT_RING_TX_BASE_HI then !s.on F.BUF_SEAT_RING_CTRL_TX_EN n
  else if [A.BUF_SEAT_RING_RX_BASE_LO, A.BUF_SEAT_RING_RX_BASE_HI, A.BUF_SEAT_RING_RX_BUF_SIZE].contains b then
    !s.on F.BUF_SEAT_RING_CTRL_RX_EN n
  else if [A.MSQ_INST_CTRL, A.MSQ_SEQ_NEXT_LO, A.MSQ_SEQ_NEXT_HI].contains b then s.instStopped n
  else if [A.TRP_CTRL, A.TRP_TROUPE_ID, A.TRP_SRC_MAC_LO, A.TRP_SRC_MAC_HI].contains b then !s.on F.TRP_CTRL_ENABLE
  else if b = A.LAN_PORT_CFG then s.portStopped n
  else if b = A.LAN_LANE_CTRL ∨ b = A.LAN_LANE_TX_COEF then
    match s.lanePort n with
    | some p => s.portStopped p
    | none => true
  else if b = A.MAC_MGMT_CFG then !s.on F.MAC_MGMT_CFG_EN
  else true

/-! ### The checks of the target unit -/

/-- GiB of the spill area that enabled deep queues hold (R213). -/
def State.deepSum (s : State) : Nat :=
  sumOf ((List.range 64).filter (fun d => s.on F.BUF_DEEP_CTRL_ENABLE d)) (fun d => s.rd F.BUF_DEEP_QUOTA_QUOTA_GIB d)
/-- The lowest free run of whole GiB in the spill area (R361). -/
def State.deepRun (s : State) (quota : Nat) : Option Nat :=
  let size := s.rd F.BUF_DEEP_AREA_SIZE_GIB
  (List.range (size + 1)).find? (fun g =>
    decide (g + quota ≤ size) && s.mem.segs.all (fun x => decide (g + quota ≤ x.2.1) || decide (x.2.1 + x.2.2 ≤ g)))

/-- Ports in whose eight lanes port p lies. -/
def octet (p : Nat) : List Nat := (List.range 8).map (fun i => p / 8 * 8 + i)
/-- R380: the lanes of an existing port begin at a multiple of their number and are no other existing port's. -/
def State.lanesFree (s : State) (p : Nat) : Bool :=
  let n := fun (q : Nat) => modeLanes (s.rd F.LAN_PORT_CFG_MODE q)
  !s.on F.LAN_PORT_CFG_EN p ||
    (p % n p == 0 && (octet p).all (fun q => q == p || !s.on F.LAN_PORT_CFG_EN q || decide (q + n q ≤ p) || decide (p + n p ≤ q)))

/-- Queues that use a shaper (R232). -/
def State.shaperQueues (s : State) (m : Nat) : List Nat :=
  (s.listed F.QSG_Q_SCHED_SHAPER_EN).filter (fun q => s.on F.QSG_Q_SCHED_SHAPER_EN q && s.rd F.QSG_Q_SCHED_SHAPER q == m)
/-- R234: a mode 2 shaper serves one queue and no port. -/
def State.shaperAlone (s : State) (m : Nat) : Bool :=
  s.rd F.QSG_SHAPER_CTRL_MODE m != 2 ||
    (decide ((s.shaperQueues m).length ≤ 1)
      && (s.listed F.QSG_PORT_CTRL_PSHAPER_EN).all (fun p => !s.on F.QSG_PORT_CTRL_PSHAPER_EN p || s.rd F.QSG_PORT_CTRL_PSHAPER p != m))

/-- Magnitude of a signed 6-bit tap. -/
def State.tap (s : State) (f : Fld) (n : Nat) : Nat := (s.rdS f n).natAbs

/-- The parser reads bytes 0 to 127, and a key's field area has 256 bits (R140, R143). -/
def State.fldFits (s : State) (n : Nat) : Bool :=
  decide (s.rd F.PRS_FLD_OFFSET n * 8 + s.rd F.PRS_FLD_BIT n + s.rd F.PRS_FLD_LEN_M1 n + 1 ≤ 1024)
    && (!s.on F.PRS_FLD_KEY_EN n || decide (s.rd F.PRS_FLD_KEY_LSB n + s.rd F.PRS_FLD_LEN_M1 n + 1 ≤ 256))

/-- The registers of a running sending-out of blocks (R356). -/
def exportRegs : List Nat :=
  [A.EVR_EXPORT_CTRL, A.EVR_EXPORT_IP_SRC, A.EVR_EXPORT_IP_DST, A.EVR_EXPORT_UDP, A.EVR_EXPORT_MAC_SRC_LO, A.EVR_EXPORT_MAC_SRC_HI,
   A.EVR_EXPORT_MAC_DST_LO, A.EVR_EXPORT_MAC_DST_HI]

/-- What a block's own rules ask of a write: `v` is the state with the write in place (R446) (DEDUCED, log 12) (DEDUCED, log 18). -/
def State.unitOk (s v : State) (r : RegD) (n mask : Nat) : Except Status Unit :=
  let b := r.base
  let kept := fun (f : Fld) => s.rd f n == v.rd f n
  if b = A.CLR_PROF_L then do
    need (!s.on F.TRP_CTRL_ENABLE || !F.CLR_PROF_L_L_NS.touched mask) .notPermitted
    need (v.baseFits n (v.rd F.CLR_PROF_L_L_NS n)) .notPermitted
  else if b = A.CLR_PROF_CTRL then need (v.rd F.CLR_PROF_CTRL_KIND n != 1 || decide (1080 ≤ v.rd F.CLR_PROF_L_L_NS n)) .notPermitted
  else if b = A.MSQ_INST_WINDOW then need (!s.on F.TRP_CTRL_ENABLE || !F.MSQ_INST_WINDOW_W_NS.touched mask) .notPermitted
  else if b = A.TRP_BASE then need (s.sharedBase r n || v.baseFits n (v.rd F.TRP_BASE_BASE_L_NS n)) .notPermitted
  else if b = A.MSQ_INST_CTRL then
    need ((kept F.MSQ_INST_CTRL_EGRESS && kept F.MSQ_INST_CTRL_ENABLE) || (List.range 32).all (fun m =>
      m == n || v.rd F.MSQ_INST_CTRL_EGRESS m != v.rd F.MSQ_INST_CTRL_EGRESS n
        || (!v.on F.MSQ_INST_CTRL_ENABLE m && !s.on F.MSQ_INST_CTRL_ENABLE m && !s.prevOn F.MSQ_INST_CTRL_ENABLE m))) .notPermitted
  else if b = A.BUF_DEEP_AREA then need (decide (v.rd F.BUF_DEEP_AREA_SIZE_GIB + s.rd F.EVR_RING_GIB ≤ 112)) .notPermitted
  else if b = A.BUF_DEEP_CTRL then do
    need (decide (v.deepSum ≤ s.rd F.BUF_DEEP_AREA_SIZE_GIB)) .notPermitted
    need (s.on F.BUF_DEEP_CTRL_ENABLE n || !v.on F.BUF_DEEP_CTRL_ENABLE n || (s.deepRun (v.rd F.BUF_DEEP_QUOTA_QUOTA_GIB n)).isSome)
      .notPermitted
  else if b = A.LAN_PORT_CFG then do
    need (decide (v.rd F.LAN_PORT_CFG_MODE n < 12)) .badAddress
    need (v.rd F.LAN_PORT_CFG_MODE n != 6 || v.rd F.LAN_PORT_CFG_REACH n == 2) .badAddress
    need (v.lanesFree n) .notPermitted
  else if b = A.LAN_LANE_TX_COEF then
    need (decide (v.tap F.LAN_LANE_TX_COEF_C_M2 n + v.tap F.LAN_LANE_TX_COEF_C_M1 n + v.tap F.LAN_LANE_TX_COEF_C_0 n
      + v.tap F.LAN_LANE_TX_COEF_C_P1 n ≤ 31)) .badAddress
  else if b = A.SYN_EVTO_PERIOD ∨ b = A.SYN_EVTO_WIDTH then
    need (evtoOk (v.rd F.SYN_EVTO_WIDTH_NS n) (v.rd F.SYN_EVTO_PERIOD_NS n)) .badAddress
  else if b = A.QSG_Q_SCHED then
    need (!v.on F.QSG_Q_SCHED_SHAPER_EN n || v.shaperAlone (v.rd F.QSG_Q_SCHED_SHAPER n)) .notPermitted
  else if b = A.QSG_PORT_CTRL then
    need (!v.on F.QSG_PORT_CTRL_PSHAPER_EN n || v.shaperAlone (v.rd F.QSG_PORT_CTRL_PSHAPER n)) .notPermitted
  else if b = A.QSG_SHAPER_CTRL then need (v.shaperAlone n) .notPermitted
  else if b = A.CMD_SEAT_TAGS then
    need (decide (sumOf (List.range 4) (fun e => v.rd F.CMD_SEAT_TAGS_TAG_QUOTA e) ≤ 1024)) .notPermitted
  else if b = A.EVR_STAGING_CFG then
    need (decide (v.rd F.EVR_STAGING_CFG_AGG_OFF_PCT < v.rd F.EVR_STAGING_CFG_AGG_ON_PCT)) .badAddress
  else if exportRegs.contains b then need (!s.on F.EVR_EXPORT_STATUS_BUSY) .busy
  else if b = A.PRS_FLD then need (v.fldFits n) .badAddress
  else if [A.TSU_ING_DELAY, A.TSU_EGR_DELAY, A.TSU_PORT_CFG].contains b then need (s.tsu.cal.all (fun c => c.port != n)) .busy
  else if b = A.CHK_CTRL then
    need (!s.on F.CHK_STATUS_ACTIVE n ||
      (kept F.CHK_CTRL_ALG && kept F.CHK_CTRL_MODE && kept F.CHK_CTRL_BYTE_ORDER && kept F.CHK_CTRL_RESUME)) .busy
  else if [A.CHK_LEN, A.CHK_VALUE_LO, A.CHK_VALUE_HI].contains b then need (!s.on F.CHK_STATUS_ACTIVE n) .busy
  else if b = A.CHK_OWNER then need (decide (2 ≤ n)) .notPermitted
  else if b = A.MAC_MGMT_CFG then need (v.rd F.MAC_MGMT_CFG_SPEED != 2 || v.on F.MAC_MGMT_CFG_DUPLEX || v.on F.MAC_MGMT_CFG_AUTO) .badAddress
  else if b = A.TIM_RATE then need (!s.on F.SYN_SERVO_CTRL_ENABLE || mask == 0) .notPermitted
  else if b = A.IDN_FUSE_CTRL then need (!s.on F.IDN_FUSE_CTRL_BUSY) .busy
  else pure ()

/-! ### What a write sets going -/

/-- CMD_FLUSH (R429). -/
def State.flushCmd (s : State) (e : Nat) : State :=
  ((((s.setSeat e (fun x => { x with cmdFifo := [] })).wr F.CMD_SEAT_STATUS_FRAMING e 0).wr F.CMD_SEAT_STATUS_OVERFLOW e 0).wr
    F.CMD_SEAT_STATUS_UNDERFLOW e 0).showSeat e
/-- REJOIN of a retired core: it runs its self-test (R471, R475). -/
def State.rejoinCore (s : State) (k : Nat) : State := if s.rd (coreFld k) = 3 then s.wr (coreFld k) 0 2 else s
/-- SWAP (R475): a planned take-over waits for the routine's end. -/
def State.askSwap (s : State) : Except Status State := do
  need (s.rd F.CMD_CORE_STATUS_CORE0 == 1 || s.rd F.CMD_CORE_STATUS_CORE1 == 1) .notPermitted
  pure { s with drafen := { s.drafen with swapAsked := true } }
/-- RETRY (R375, R378): ignored but for a failed channel. -/
def State.retryChan (s : State) (c : Nat) : State := if s.chState c = 1 then (s.wr F.MEM_CH_STATUS_STATE c 3).showMem else s
/-- FORCE (R492). -/
def State.forcePipe (s : State) (g : Nat) : Except Status State := do
  need (s.spareReady && nth s.flt.pipes g .down == .serving) .notPermitted
  pure (s.beginTakeOver g 0)
/-- GIVE_BACK (R493, R498). -/
def State.askGiveBack (s : State) : Except Status State := do
  need (s.on F.FLT_PIPE_STATUS_GIVE_BACK_READY) .notPermitted
  pure s.giveBack
/-- RELEASE (R483). -/
def State.releaseFrozen (s : State) : State :=
  ((s.setMain (fun c => { c with frozen := none })).wr F.FLT_STATUS_FROZEN 0 0).wr F.FLT_STATUS_FIRST_SRC 0 0
/-- A deep queue takes its segment, or gives it back (R361). -/
def State.deepSwitch (s : State) (d : Nat) (was on : Bool) : State :=
  if was = on then s
  else if on then
    let quota := s.rd F.BUF_DEEP_QUOTA_QUOTA_GIB d
    s.setMem (fun m => { m with segs := m.segs ++ [(d, (s.deepRun quota).getD 0, quota)] })
  else s.setMem (fun m => { m with segs := m.segs.filter (fun x => x.1 != d) })
/-- The software reset of R551 is asked for (DEDUCED, log 55). -/
def State.askReset (s : State) : State := { s with pins := { s.pins with swAt := some s.now } }

/-- What a write of a register does beside setting its fields: `s` is the state before it, `t` that with the word in place.
A refusal here refuses the write (DEDUCED, log 18). -/
def State.hook (s t : State) (seat : Nat) (r : RegD) (n mask value : Nat) : Except Status State :=
  let b := r.base
  let go := fun (f : Fld) => f.hit mask value
  if b = A.SYS_RESET_CAUSE then pure (if t.on F.SYS_RESET_CAUSE_SUPPLY then t else t.wr F.SYS_RESET_CAUSE_SUPPLY_RAIL 0 0)
  else if b = A.SYS_SW_RESET then
    pure (if F.SYS_SW_RESET_KEY.part (value &&& mask) = 0xA5 ∧ go F.SYS_SW_RESET_GO then t.askReset else t)
  else if b = A.TIM_RATE then if mask = 0 then pure s else s.armRate (t.rd F.TIM_RATE_VALUE)
  else if b = A.TIM_STEP_CTRL then if go F.TIM_STEP_CTRL_GO then t.stepGo (t.on F.TIM_STEP_CTRL_MODE) else pure t
  else if b = A.TIM_VOTE_CTRL then pure (t.rejoin (F.TIM_VOTE_CTRL_REJOIN.part (value &&& mask)))
  else if b = A.TIM_SNAP_CTRL then if go F.TIM_SNAP_CTRL_TAKE then t.snapTake seat n else pure t
  else if b = A.SYN_SERVO_CTRL then
    pure ((t.wr F.SYN_SERVO_CTRL_ENABLE 0 (s.rd F.SYN_SERVO_CTRL_ENABLE)).servoSwitch (t.on F.SYN_SERVO_CTRL_ENABLE))
  else if b = A.SYN_SERVO_SRC then pure (t.servoSrc (t.rd F.SYN_SERVO_SRC_ORDER))
  else if b = A.SYN_REF_CTRL then
    pure (if s.rd F.SYN_REF_CTRL_ORDER = t.rd F.SYN_REF_CTRL_ORDER then t else t.refOrderWritten)
  else if b = A.SYN_PPS_IN_CTRL then pure (if t.on F.SYN_PPS_IN_CTRL_ENABLE n then t else t.ppsStop n)
  else if b = A.SYN_EVTI_CTRL then pure (if go F.SYN_EVTI_CTRL_POP then t.evtiPop n else t)
  else if b = A.SYN_EVTO_CTRL then pure (t.evtoLevel n)
  else if b = A.TSU_CAL_CTRL then
    if go F.TSU_CAL_CTRL_GO then
      t.calGo seat (t.rd F.TSU_CAL_CTRL_PORT) (t.on F.TSU_CAL_CTRL_APPLY) (t.rd F.TSU_CAL_CTRL_CAL_COUNT)
    else pure t
  else if b = A.MSQ_INST_WINDOW then pure (s.noteWindow t n)
  else if b = A.TBL_PIN_LOG_CTRL then pure (if go F.TBL_PIN_LOG_CTRL_POP then t.pinLogPop else t)
  else if b = A.PRS_PORT_CFG then
    pure (if s.rd F.PRS_PORT_CFG_PCLASS n = t.rd F.PRS_PORT_CFG_PCLASS n then t else t.emptyFrags (fun g => n == 516 || g == egrGroup n))
  else if b = A.CLS_FRAG_CTRL then pure (if t.on F.CLS_FRAG_CTRL_ENABLE then t else t.emptyFrags (fun _ => true))
  else if b = A.BUF_GLOBAL_EW then pure t.refreshBuf
  else if b = A.BUF_BANK_MAP_SEL then pure t.showBank
  else if b = A.BUF_SPARE_CTRL then pure (if go F.BUF_SPARE_CTRL_FORCE then t.spareForce (t.rd F.BUF_SPARE_CTRL_FORCE_BANK) else t)
  else if b = A.BUF_FWD_PORT_SAMPLE then
    let old := s.rd F.BUF_FWD_PORT_SAMPLE_SAMPLE_N n
    let new := t.rd F.BUF_FWD_PORT_SAMPLE_SAMPLE_N n
    pure (if old ≠ new ∧ (old = 0 ∨ new = 0) then t.setFwd (fun w => { w with sample := w.sample.erase n }) else t)
  else if b = A.BUF_SEAT_RING_TX_TAIL then
    t.ringSet F.BUF_SEAT_RING_CTRL_TX_LOG_SIZE F.BUF_SEAT_RING_TX_TAIL_VALUE seat n (t.rd F.BUF_SEAT_RING_TX_TAIL_VALUE n)
  else if b = A.BUF_SEAT_RING_RX_TAIL then
    t.ringSet F.BUF_SEAT_RING_CTRL_RX_LOG_SIZE F.BUF_SEAT_RING_RX_TAIL_VALUE seat n (t.rd F.BUF_SEAT_RING_RX_TAIL_VALUE n)
  else if b = A.BUF_DEEP_CTRL then pure (t.deepSwitch n (s.on F.BUF_DEEP_CTRL_ENABLE n) (t.on F.BUF_DEEP_CTRL_ENABLE n))
  else if b = A.TRP_CTRL then
    pure ((t.wr F.TRP_CTRL_ENABLE 0 (s.rd F.TRP_CTRL_ENABLE)).trpEnable (t.on F.TRP_CTRL_ENABLE))
  else if b = A.TRP_LIFT_CFG then pure (if go F.TRP_LIFT_CFG_UNLIFT then t.unlift else t)
  else if b = A.EVR_RING then pure t.clampPins
  else if b = A.MEM_CH_CTRL then
    let t := if go F.MEM_CH_CTRL_FORCE_FAIL then t.failChan n else t
    pure (if go F.MEM_CH_CTRL_RETRY then t.retryChan n else t)
  else if b = A.LAN_PORT_CTRL then do
    let start := t.on F.LAN_PORT_CTRL_START n
    let t := t.wr F.LAN_PORT_CTRL_START n (s.rd F.LAN_PORT_CTRL_START n)
    let t ← if !F.LAN_PORT_CTRL_START.touched mask then pure t
      else if start then t.portStart seat n
      else pure (if t.on F.LAN_PORT_CTRL_START n then t.stopPort n else t)
    pure (if go F.LAN_PORT_CTRL_FORCE_RETRAIN then t.forceRetrain n else t)
  else if b = A.LAN_LANE_CTRL then
    let t := if go F.LAN_LANE_CTRL_SNAPSHOT then t.takeSnapshot n else t
    pure (if go F.LAN_LANE_CTRL_ROLLBACK then t.loadSnapshot n else t)
  else if b = A.MAC_MGMT_CFG then pure (if s.on F.MAC_MGMT_CFG_EN == t.on F.MAC_MGMT_CFG_EN then t else t.mgmtJudge)
  else if b = A.MAC_MDIO_CTRL then
    if go F.MAC_MDIO_CTRL_GO then t.mdioGo (t.rd F.MAC_MDIO_CTRL_PHY_ADDR) (t.rd F.MAC_MDIO_CTRL_REG) (t.on F.MAC_MDIO_CTRL_OP) else pure t
  else if b = A.CHK_CTRL then
    let t := if go F.CHK_CTRL_ABORT then t.chkAbort n else t
    if go F.CHK_CTRL_START then t.chkStart n (t.wordOf r n) else pure t
  else if b = A.CHK_DATA then t.chkData n (value &&& mask)
  else if b = A.CMD_CORE_CTRL then do
    let t := if go F.CMD_CORE_CTRL_REJOIN0 then t.rejoinCore 0 else t
    let t := if go F.CMD_CORE_CTRL_REJOIN1 then t.rejoinCore 1 else t
    if go F.CMD_CORE_CTRL_SWAP then t.askSwap else pure t
  else if b = A.CMD_SEAT_CTRL then pure (if go F.CMD_SEAT_CTRL_FLUSH then t.flushCmd n else t)
  else if b = A.FLT_CTRL ∨ b = A.FLT_ALERT_MASK_LO ∨ b = A.FLT_ALERT_MASK_HI then pure t.showAlert
  else if b = A.FLT_FREEZE_CTRL then pure (if go F.FLT_FREEZE_CTRL_RELEASE then t.releaseFrozen else t)
  else if b = A.FLT_PIPE_CTRL then do
    let t ← if go F.FLT_PIPE_CTRL_FORCE then t.forcePipe (t.rd F.FLT_PIPE_CTRL_FORCE_PIPE) else pure t
    if go F.FLT_PIPE_CTRL_GIVE_BACK then t.askGiveBack else pure t
  else if b = A.PWR_CTRL then
    let t := if go F.PWR_CTRL_MODEL_RESUME then (t.wr F.PWR_STATUS_DIVERGED 0 0).setPwr (fun p => { p with divRun := 0 }) else t
    pure t.holdFloor
  else if b = A.PWR_OP ∨ b = A.PWR_PHASE_OP then pure t.holdFloor
  else if b = A.PWR_STEP2 then pure (if 2 ≤ t.rd F.PWR_STATUS_STEP then t.stepAction 2 true else t)
  else if b = A.IDN_EVK_CTRL then if go F.IDN_EVK_CTRL_ROTATE then t.rotate seat else pure t
  else if b = A.IDN_FUSE_CTRL then t.fuseWrite seat (F.IDN_FUSE_CTRL_OP.part (value &&& mask))
  else if b = A.IDN_CERT_SEL then pure (if F.IDN_CERT_SEL_CERT.touched mask then t.selectCert (t.rd F.IDN_CERT_SEL_CERT) else t)
  else if b = A.CNT_SNAP_CTRL then if go F.CNT_SNAP_CTRL_TAKE then t.cntTake seat n else pure t
  else pure t

/-- A word written in full: its fields, and what it sets going. -/
def State.applyWord (s : State) (seat : Nat) (w : StagedWord) : Except Status State :=
  match findReg w.addr with
  | none => .error .badAddress
  | some (r, n) =>
    if s.sharedBase r n then do
      let v := F.TRP_BASE_BASE_L_NS.part (masked (s.wordOf r n) w.mask w.value)
      need s.isLead .notPermitted
      need (s.baseFits n v) .notPermitted
      pure (s.sendProfile n v)
    else s.hook (s.poke r n w.mask w.value) seat r n w.mask w.value

/-! ### The checks of a write (R441) -/

/-- The refusal of a write where no register takes one: the counter space takes none (R528) (DEDUCED, log 12). -/
def noReg (addr : Nat) : Status := if addr % 4 = 0 ∧ 0x800000 ≤ addr ∧ addr < 0x1000000 then .notPermitted else .badAddress

/-- A write of one word, checked in the order of R441 against `s`, which holds what the same transaction staged so far: its class,
and the state that it gives. `txn` is the transaction's key, 0 for a direct write; `state` judges that transaction; `force` is
the state in force; `owned` tells that its ownership was checked before (R433) (DEDUCED, log 12). -/
def State.tryWord (force s : State) (seat txn : Nat) (state : Except Status Unit) (w : StagedWord) (owned : Bool := false) :
    Except Status (Cls × State) :=
  match findReg w.addr with
  | none => .error (noReg w.addr)
  | some (r, n) => do
    need (owned || force.mayWrite seat r n w.mask w.value) .notOwner
    state
    let c := force.classOf r n w.mask w.value
    let v := s.poke r n w.mask w.value
    need (c != .q || txn == 0 || decide (4096 ≤ txn)) .notPermitted
    need (c != .q || force.stopped v r n) .quiesceRequired
    need (!force.wordHeld txn w.addr) .txnConflict
    need ((s.fieldsOf r n).all (fun d => !s.outOfRange d n w.mask w.value)) .badAddress
    s.unitOk v r n w.mask
    let t ← s.applyWord seat w
    pure (c, t)

/-- R9: what a write of one half of a pair comes to: the words written, and the seat's staging register after it (DEDUCED, log 11). -/
def State.pairWords (s : State) (seat : Nat) (w : StagedWord) : List StagedWord × Option (Nat × Nat) :=
  let staging := (s.seat seat).staging
  match findReg w.addr with
  | none => ([w], staging)
  | some (r, _) =>
    match r.half with
    | .whole => ([w], staging)
    | .lo => ([], some (w.addr, masked (s.wordAt w.addr) w.mask w.value))
    | .hi =>
      let lo := match staging with
        | some (a, v) => if a + 4 = w.addr then v else 0
        | none => 0
      ([⟨w.addr - 4, 0xFFFFFFFF, lo⟩, w], none)

/-- A direct write under way: the state, its words, and whether one of class S has been met. -/
structure Direct where
  t : State
  words : List StagedWord
  anyS : Bool

/-- One word of a direct write (R444): its pair, its checks, its effect, and its entry in D (R523). -/
def Direct.word (x : Direct) (seat : Nat) (w : StagedWord) (owned : Bool := false) : Except Status Direct := do
  let (words, staging) := x.t.pairWords seat w
  if words = [] then
    let _ ← x.t.tryWord x.t seat 0 (pure ()) { w with mask := 0 } owned
  let x ← words.foldlM (fun (x : Direct) (w : StagedWord) => do
    let (c, t) ← x.t.tryWord x.t seat 0 (pure ()) w owned
    pure ⟨t.extendD 0 seat 0 w.addr w.mask [w.value], x.words ++ [w], x.anyS || c == .s⟩) x
  pure { x with t := x.t.setSeat seat (fun e => { e with staging := staging }) }

/-- A direct write of words in order: applied at once, or one implicit transaction if any is of class S (R444). The Bool tells that
the answer follows its commit (DEDUCED, log 14). -/
def State.writeDirect (s : State) (seat : Nat) (words : List StagedWord) (waiting : Option Packet) (owned : Bool := false) :
    Except Status (State × Bool) := do
  let x ← words.foldlM (fun (x : Direct) w => x.word seat w owned) ⟨s, [], false⟩
  if x.anyS then do
    let s := s.setSeat seat (fun e => { e with staging := (x.t.seat seat).staging })
    pure (s.implicitTxn seat x.words [] waiting, true)
  else pure (x.t, false)

/-- A refused write: conflicts are counted (R447). -/
def State.noteRefusal (s : State) (e : Status) : State := if e = .txnConflict then s.bump 16 10 else s

/-- A write of SYS.SW_RESET that asks for the reset: no reply is sent (R559) (DEDUCED, log 55). -/
def resetWrite (w : StagedWord) : Bool :=
  w.addr == A.SYS_SW_RESET && F.SYS_SW_RESET_KEY.part (w.value &&& w.mask) == 0xA5 && F.SYS_SW_RESET_GO.hit w.mask w.value

/-- A seat writes one register word, after class 3 of the tick (R31) (DEDUCED, log 13). -/
def State.seatWrite (s : State) (seat addr value mask : Nat) : State :=
  s.whenLive (fun s =>
    let s := s.classThree
    match s.writeDirect seat [⟨addr, mask, value⟩] none with
    | .ok (t, _) => if resetWrite ⟨addr, mask, value⟩ then t else t.answer .ok
    | .error e => (s.noteRefusal e).answer e)

/-- A write of a word of the MSI-X table: a vector that is no longer masked sends what is pending (R426). -/
def State.msixWrite (s : State) (seat i value mask : Nat) : State :=
  s.setSeat seat (fun x =>
    let v := masked (x.vectors.get i (msixReset i)) mask value % 2 ^ 32
    let x := { x with vectors := x.vectors.put i v (msixReset i) }
    if i % 4 = 3 ∧ !bit v 0 ∧ bit x.msix (i / 4) then { x with msix := x.msix - 2 ^ (i / 4) } else x)

/-! ### The rows -/

/-- REGISTER_WRITE: through Drafen, or in BAR0, where only the MSI-X table takes a write of this row (R426). -/
def execRegisterWrite (seat : Fin 4) (bar0 : Bool) (addr value mask : Word) (s : State) : Host.Outcome State Fault Refusal :=
  let a := addr.toNat
  .next (if bar0 then
      s.when (!s.pins.porst && decide (0x800 ≤ a) && decide (a < 0x840) && a % 4 == 0)
        (fun s => s.msixWrite seat.val ((a - 0x800) / 4) value.toNat mask.toNat)
    else s.seatWrite seat.val a value.toNat mask.toNat)

/-- A write of one half of a pair: another address is refused. -/
def State.pairWrite (s : State) (seat addr value mask : Nat) (half : Half) : State :=
  match findReg addr with
  | some (r, _) => if r.half = half then s.seatWrite seat addr value mask else s.whenLive (fun s => s.answer .badAddress)
  | none => s.seatWrite seat addr value mask
/-- PAIR_LO_WRITE and PAIR_HI_WRITE (R9). -/
def execPairLoWrite (seat : Fin 4) (addr value mask : Word) (s : State) : Host.Outcome State Fault Refusal :=
  .next (s.pairWrite seat.val addr.toNat value.toNat mask.toNat .lo)
def execPairHiWrite (seat : Fin 4) (addr value mask : Word) (s : State) : Host.Outcome State Fault Refusal :=
  .next (s.pairWrite seat.val addr.toNat value.toNat mask.toNat .hi)

end Sys2Proof.Machine
end

