-- ==== Sys2Proof/Machine/Writes.lean ====
section
/-! DEFINITION. The writes of single registers that have a row of their own. Each is the seat's write of the fields named, with
the checks and the effects of every register write (R441, R444). -/

namespace Sys2Proof.Machine

/-- A seat writes fields of one register, copy n. -/
def State.fieldWrite (s : State) (seat n : Nat) (l : List (Fld × Nat)) : Host.Outcome State Fault Refusal :=
  .next (match l with
    | [] => s
    | x :: _ => s.seatWrite seat (x.1.addr n) (sumOf l (fun y => y.1.place y.2)) (sumOf l (fun y => y.1.ones)))

/-! ### Time -/

/-- REJOIN (R20): the REJOIN bits of VOTE_CTRL. -/
def execRejoin (seat : Fin 4) (mask : BitVec 3) (s : State) : Host.Outcome State Fault Refusal :=
  s.fieldWrite seat.val 0 [(F.TIM_VOTE_CTRL_REJOIN, mask.toNat)]
/-- RATE_WRITE (R44). -/
def execRateWrite (seat : Fin 4) (value : Word) (s : State) : Host.Outcome State Fault Refusal :=
  s.fieldWrite seat.val 0 [(F.TIM_RATE_VALUE, value.toNat)]
/-- STEP_GO (R28, R46): GO with MODE. -/
def execStepGo (seat : Fin 4) (relative : Bool) (s : State) : Host.Outcome State Fault Refusal :=
  s.fieldWrite seat.val 0 [(F.TIM_STEP_CTRL_GO, 1), (F.TIM_STEP_CTRL_MODE, b2n relative)]
/-- SNAP_TAKE (R39, R49). -/
def execSnapTake (seat group : Fin 4) (s : State) : Host.Outcome State Fault Refusal :=
  s.fieldWrite seat.val group.val [(F.TIM_SNAP_CTRL_TAKE, 1)]
/-- CAL_GO (R60). -/
def execCalGo (seat : Fin 4) (port : Fin 518) (apply : Bool) (count : Fin 16) (s : State) : Host.Outcome State Fault Refusal :=
  s.fieldWrite seat.val 0 [(F.TSU_CAL_CTRL_GO, 1), (F.TSU_CAL_CTRL_PORT, port.val), (F.TSU_CAL_CTRL_APPLY, b2n apply),
    (F.TSU_CAL_CTRL_CAL_COUNT, count.val)]
/-- SERVO_SRC_WRITE (R90). -/
def execServoSrcWrite (seat : Fin 4) (order : BitVec 16) (s : State) : Host.Outcome State Fault Refusal :=
  s.fieldWrite seat.val 0 [(F.SYN_SERVO_SRC_ORDER, order.toNat)]
/-- SERVO_ENABLE (R83, R108): the whole of SERVO_CTRL. -/
def execServoEnable (seat : Fin 4) (value : Word) (s : State) : Host.Outcome State Fault Refusal :=
  .next (s.seatWrite seat.val A.SYN_SERVO_CTRL value.toNat 0xFFFFFFFF)
/-- EVTI_POP (R111). -/
def execEvtiPop (seat : Fin 4) (pin : Fin 8) (s : State) : Host.Outcome State Fault Refusal :=
  s.fieldWrite seat.val pin.val [(F.SYN_EVTI_CTRL_POP, 1)]

/-! ### Frames, buffer and tables -/

/-- TX_TAIL_WRITE and RX_TAIL_WRITE (R131). -/
def execTxTailWrite (seat ring : Fin 4) (value : BitVec 14) (s : State) : Host.Outcome State Fault Refusal :=
  s.fieldWrite seat.val ring.val [(F.BUF_SEAT_RING_TX_TAIL_VALUE, value.toNat)]
def execRxTailWrite (seat ring : Fin 4) (value : BitVec 14) (s : State) : Host.Outcome State Fault Refusal :=
  s.fieldWrite seat.val ring.val [(F.BUF_SEAT_RING_RX_TAIL_VALUE, value.toNat)]
/-- SPARE_FORCE (R217). -/
def execSpareForce (seat : Fin 4) (bank : BitVec 6) (s : State) : Host.Outcome State Fault Refusal :=
  s.fieldWrite seat.val 0 [(F.BUF_SPARE_CTRL_FORCE, 1), (F.BUF_SPARE_CTRL_FORCE_BANK, bank.toNat)]
/-- PIN_LOG_POP (R193). -/
def execPinLogPop (seat : Fin 4) (s : State) : Host.Outcome State Fault Refusal := s.fieldWrite seat.val 0 [(F.TBL_PIN_LOG_CTRL_POP, 1)]
/-- FORCE_FAIL and RETRY (R375). -/
def execForceFail (seat : Fin 4) (chan : Fin 32) (s : State) : Host.Outcome State Fault Refusal :=
  s.fieldWrite seat.val chan.val [(F.MEM_CH_CTRL_FORCE_FAIL, 1)]
def execRetry (seat : Fin 4) (chan : Fin 32) (s : State) : Host.Outcome State Fault Refusal :=
  s.fieldWrite seat.val chan.val [(F.MEM_CH_CTRL_RETRY, 1)]

/-! ### Lanes, management port and Check Engines -/

/-- PORT_START and PORT_STOP (R382, R392). -/
def execPortStart (seat : Fin 4) (port : Fin 512) (s : State) : Host.Outcome State Fault Refusal :=
  s.fieldWrite seat.val port.val [(F.LAN_PORT_CTRL_START, 1)]
def execPortStop (seat : Fin 4) (port : Fin 512) (s : State) : Host.Outcome State Fault Refusal :=
  s.fieldWrite seat.val port.val [(F.LAN_PORT_CTRL_START, 0)]
/-- FORCE_RETRAIN (R390). -/
def execForceRetrain (seat : Fin 4) (port : Fin 512) (s : State) : Host.Outcome State Fault Refusal :=
  s.fieldWrite seat.val port.val [(F.LAN_PORT_CTRL_FORCE_RETRAIN, 1)]
/-- SNAPSHOT_WRITE and ROLLBACK_WRITE (R395). -/
def execSnapshotWrite (seat : Fin 4) (lane : Fin 512) (s : State) : Host.Outcome State Fault Refusal :=
  s.fieldWrite seat.val lane.val [(F.LAN_LANE_CTRL_SNAPSHOT, 1)]
def execRollbackWrite (seat : Fin 4) (lane : Fin 512) (s : State) : Host.Outcome State Fault Refusal :=
  s.fieldWrite seat.val lane.val [(F.LAN_LANE_CTRL_ROLLBACK, 1)]
/-- MDIO_GO (R415). -/
def execMdioGo (seat : Fin 4) (phy reg : BitVec 5) (isWrite : Bool) (s : State) : Host.Outcome State Fault Refusal :=
  s.fieldWrite seat.val 0 [(F.MAC_MDIO_CTRL_GO, 1), (F.MAC_MDIO_CTRL_PHY_ADDR, phy.toNat), (F.MAC_MDIO_CTRL_REG, reg.toNat),
    (F.MAC_MDIO_CTRL_OP, b2n isWrite)]
/-- CHK_START (R418): START with ALG, MODE, BYTE_ORDER and RESUME, bits 5 to 0 of CTRL (DEDUCED, log 18). -/
def execChkStart (seat : Fin 4) (engine : Fin 16) (ctrl : BitVec 6) (s : State) : Host.Outcome State Fault Refusal :=
  s.fieldWrite seat.val engine.val [(F.CHK_CTRL_START, 1), (F.CHK_CTRL_ALG, bits ctrl.toNat 1 0), (F.CHK_CTRL_MODE, bits ctrl.toNat 3 2),
    (F.CHK_CTRL_BYTE_ORDER, bits ctrl.toNat 4 4), (F.CHK_CTRL_RESUME, bits ctrl.toNat 5 5)]
/-- CHK_DATA and CHK_ABORT (R418). -/
def execChkData (seat : Fin 4) (engine : Fin 16) (word : Word) (s : State) : Host.Outcome State Fault Refusal :=
  s.fieldWrite seat.val engine.val [(F.CHK_DATA_WORD, word.toNat)]
def execChkAbort (seat : Fin 4) (engine : Fin 16) (s : State) : Host.Outcome State Fault Refusal :=
  s.fieldWrite seat.val engine.val [(F.CHK_CTRL_ABORT, 1)]

/-! ### Power, Troupe, faults and identity -/

/-- MODEL_RESUME (R514). -/
def execModelResume (seat : Fin 4) (s : State) : Host.Outcome State Fault Refusal := s.fieldWrite seat.val 0 [(F.PWR_CTRL_MODEL_RESUME, 1)]
/-- TROUPE_ENABLE (R304). -/
def execTroupeEnable (seat : Fin 4) (enable : Bool) (s : State) : Host.Outcome State Fault Refusal :=
  s.fieldWrite seat.val 0 [(F.TRP_CTRL_ENABLE, b2n enable)]
/-- BASE_WRITE (R305). -/
def execBaseWrite (seat : Fin 4) (k : Fin 8) (value : BitVec 20) (s : State) : Host.Outcome State Fault Refusal :=
  s.fieldWrite seat.val k.val [(F.TRP_BASE_BASE_L_NS, value.toNat)]
/-- UNLIFT (R309). -/
def execUnlift (seat : Fin 4) (s : State) : Host.Outcome State Fault Refusal := s.fieldWrite seat.val 0 [(F.TRP_LIFT_CFG_UNLIFT, 1)]
/-- FREEZE_RELEASE (R483). -/
def execFreezeRelease (seat : Fin 4) (s : State) : Host.Outcome State Fault Refusal := s.fieldWrite seat.val 0 [(F.FLT_FREEZE_CTRL_RELEASE, 1)]
/-- PIPE_FORCE (R492): FORCE with FORCE_PIPE. -/
def execPipeForce (seat : Fin 4) (pipe : Fin 16) (s : State) : Host.Outcome State Fault Refusal :=
  s.fieldWrite seat.val 0 [(F.FLT_PIPE_CTRL_FORCE, 1), (F.FLT_PIPE_CTRL_FORCE_PIPE, pipe.val)]
/-- GIVE_BACK (R493). -/
def execGiveBack (seat : Fin 4) (s : State) : Host.Outcome State Fault Refusal := s.fieldWrite seat.val 0 [(F.FLT_PIPE_CTRL_GIVE_BACK, 1)]
/-- ROTATE (R518). -/
def execRotate (seat : Fin 4) (s : State) : Host.Outcome State Fault Refusal := s.fieldWrite seat.val 0 [(F.IDN_EVK_CTRL_ROTATE, 1)]
/-- FUSE_OWNER_HASH and FUSE_ROLLBACK (R522): OP 1 and OP 2. -/
def execFuseOwnerHash (seat : Fin 4) (s : State) : Host.Outcome State Fault Refusal := s.fieldWrite seat.val 0 [(F.IDN_FUSE_CTRL_OP, 1)]
def execFuseRollback (seat : Fin 4) (s : State) : Host.Outcome State Fault Refusal := s.fieldWrite seat.val 0 [(F.IDN_FUSE_CTRL_OP, 2)]
/-- CERT_SEL_WRITE (R519). -/
def execCertSelWrite (seat : Fin 4) (cert : Fin 8) (s : State) : Host.Outcome State Fault Refusal :=
  s.fieldWrite seat.val 0 [(F.IDN_CERT_SEL_CERT, cert.val)]
/-- CNT_SNAP_TAKE (R537): TAKE with COUNT − 1; BASE stands in its own register. -/
def execCntSnapTake (seat group : Fin 4) (countM1 : BitVec 8) (s : State) : Host.Outcome State Fault Refusal :=
  s.fieldWrite seat.val group.val [(F.CNT_SNAP_CTRL_TAKE, 1), (F.CNT_SNAP_CTRL_COUNT_M1, countM1.toNat)]
/-- REJOIN_CORE (R471, R475): the REJOIN bits of CORE_CTRL. -/
def execRejoinCore (seat : Fin 4) (mask : BitVec 2) (s : State) : Host.Outcome State Fault Refusal :=
  s.fieldWrite seat.val 0 [(F.CMD_CORE_CTRL_REJOIN0, mask.toNat % 2), (F.CMD_CORE_CTRL_REJOIN1, mask.toNat / 2)]
/-- SWAP (R475). -/
def execSwap (seat : Fin 4) (s : State) : Host.Outcome State Fault Refusal := s.fieldWrite seat.val 0 [(F.CMD_CORE_CTRL_SWAP, 1)]
/-- SW_RESET (R551): KEY 0xA5 with GO. The reset follows in the next tick (SYSRST_N_ASSERT) (DEDUCED, log 55). -/
def execSwReset (seat : Fin 4) (key : BitVec 8) (s : State) : Host.Outcome State Fault Refusal :=
  s.fieldWrite seat.val 0 [(F.SYS_SW_RESET_KEY, key.toNat), (F.SYS_SW_RESET_GO, 1)]

end Sys2Proof.Machine
end

