-- ==== Sys2Proof/Machine/Windows.lean ====
section
/-! DEFINITION. How commands reach Drafen and status reaches the hosts (R426 to R434): the Command and Reply Windows, the
flushes, the Immediate Status Words and their mirror, in-band commands; and CANOPY_TICK, whose boundary refreshes the
mirror. -/

namespace Sys2Proof.Machine

/-! ### The mirror (R430, R431) -/

/-- The INT_STATUS and INT_ENABLE registers of each unit code. -/
def intPairs : List (Nat × Nat × Nat) :=
  [(1, A.TIM_INT_STATUS, A.TIM_INT_ENABLE), (2, A.SYN_INT_STATUS, A.SYN_INT_ENABLE), (3, A.TSU_INT_STATUS, A.TSU_INT_ENABLE),
   (5, A.CLS_INT_STATUS, A.CLS_INT_ENABLE), (6, A.TBL_INT_STATUS, A.TBL_INT_ENABLE), (7, A.BUF_INT_STATUS, A.BUF_INT_ENABLE),
   (8, A.QSG_INT_STATUS, A.QSG_INT_ENABLE), (9, A.CLR_INT_STATUS, A.CLR_INT_ENABLE), (10, A.MSQ_INT_STATUS, A.MSQ_INT_ENABLE),
   (11, A.TRP_INT_STATUS, A.TRP_INT_ENABLE), (12, A.EVR_INT_STATUS, A.EVR_INT_ENABLE), (13, A.MEM_INT_STATUS, A.MEM_INT_ENABLE),
   (15, A.MAC_INT_STATUS, A.MAC_INT_ENABLE), (16, A.CHK_INT_STATUS, A.CHK_INT_ENABLE), (17, A.CMD_INT_STATUS, A.CMD_INT_ENABLE),
   (18, A.FLT_INT_STATUS, A.FLT_INT_ENABLE), (19, A.PWR_INT_STATUS, A.PWR_INT_ENABLE), (20, A.IDN_INT_STATUS, A.IDN_INT_ENABLE)]
    ++ (List.range 16).map (fun g => (14, A.LAN_GRP_INT_STATUS + g * 0x1000, A.LAN_GRP_INT_ENABLE + g * 0x1000))
/-- The word of a register whose fields all reset to 0. -/
def State.plainWord (s : State) (addr : Nat) : Nat :=
  s.regs.foldl (fun a kv => if kv.1 / 32 = addr then a + kv.2 * 2 ^ (kv.1 % 32) else a) 0
/-- Units with an interrupt pending, by unit code (R48, R431). -/
def State.pendingUnits (s : State) : Nat :=
  intPairs.foldl (fun a x => if s.plainWord x.2.1 &&& s.plainWord x.2.2 = 0 then a else a ||| 2 ^ x.1) 0

/-- ISWs 0 to 7 of a seat as the present tick gives them (R431) (DEDUCED, log 23). -/
def State.iswNow (s : State) (e units : Nat) : List Nat :=
  let v := s.viewAt s.now 0
  let x := s.seat e
  [s.epoch * 2 ^ 56 + b2n (s.rd F.SYN_SERVO_STATUS_STATE != 3) * 2 ^ 49 + s.rd F.TIM_STATUS_TIME_VALID * 2 ^ 48 + viewSec v,
   viewNs v * 2 ^ 32 + viewFrac v * 2 ^ 16,
   s.now,
   s.rd2 F.FLT_FSW_LO_VALUE F.FLT_FSW_HI_VALUE,
   s.rd2 F.SYS_CFG_GEN_TICK_LO_VALUE F.SYS_CFG_GEN_TICK_HI_VALUE,
   s.rd F.SYS_CFG_GEN_CURRENT + s.rd F.SYS_CFG_GEN_PREVIOUS * 16 + x.lastTxn % 4096 * 256 + x.lastStatus % 256 * 2 ^ 24 + s.phase * 2 ^ 32
     + s.rd F.SYN_SCHED_STATUS_PENDING * 2 ^ 40,
   (1024 - x.cmdFifo.length) + x.replyFifo.length * 2 ^ 16 + s.rd F.CMD_SEAT_TAGS_IN_FLIGHT e * 2 ^ 32 + s.rd F.CMD_SEAT_TXN_OPEN e * 2 ^ 48
     + s.rd F.CMD_SEAT_STATUS_FRAMING e * 2 ^ 56 + s.rd F.CMD_SEAT_STATUS_OVERFLOW e * 2 ^ 57 + s.rd F.CMD_SEAT_STATUS_UNDERFLOW e * 2 ^ 58
     + s.rd F.CMD_SEAT_STATUS_RESET_SEEN e * 2 ^ 59 + s.rd F.CMD_CORE_STATUS_READY * 2 ^ 60,
   units &&& s.rd F.CMD_SEAT_INT_GRANT_UNITS e]

/-- The mirrors take the values of the boundary (R430). A granted unit interrupt that was not pending at the boundary before fires
vector 2 (R426) (DEDUCED, log 23). -/
def State.refreshMirrors (s : State) : State :=
  let units := s.pendingUnits
  (List.range 4).foldl (fun s e =>
    let l := s.iswNow e units
    let old := (s.seat e).mirror.getD 7 0
    let new := l.getD 7 0
    let s := s.setSeat e (fun x => { x with mirror := l })
    if new ^^^ (new &&& old) = 0 then s else s.fireMsix e 2) s

/-- ISW_READ (R430): a read of ISW `index` of BAR0. -/
def execIswRead (seat : Fin 4) (index : Fin 16) (s : State) : Host.Outcome State Fault Refusal :=
  let e := seat.val
  let i := index.val
  .next (s.when (!s.pins.porst && !s.pins.tripped && s.on F.CMD_SEAT_STATUS_LINK_UP e) (fun s =>
    let l := if (s.seat e).mirror = [] then s.iswNow e s.pendingUnits else (s.seat e).mirror
    let live := l.getD i 0
    if i = 0 then
      (s.setSeat e (fun x => { x with isw := (List.range 7).map (fun k => (k + 1, l.getD (k + 1) 0)) })).answer .ok [live]
    else
      match (s.seat e).isw.find? (fun x => x.1 == i) with
      | some x => (s.setSeat e (fun y => { y with isw := y.isw.filter (fun z => z.1 != i) })).answer .ok [x.2]
      | none => s.answer .ok [live]))

/-! ### Packets from words (R427, R435, R437) -/

/-- The packet that words spell, from a sender. -/
def packetOf (sender : Fin 4) (w : List Nat) : Packet :=
  let w0 := w.getD 0 0
  let w1 := w.getD 1 0
  { sender := sender, opcode := BitVec.ofNat 8 (w0 / 2 ^ 24), flags := BitVec.ofNat 8 (w0 / 2 ^ 16), tag := BitVec.ofNat 10 (w1 / 2 ^ 22),
    seat := Fin.ofNat 4 (w1 / 2 ^ 20), txn := BitVec.ofNat 12 (w1 / 2 ^ 8), address := BitVec.ofNat 32 (w.getD 2 0),
    parameter := BitVec.ofNat 32 (w.getD 3 0), data := ((w.drop 4).take (w.length - 5)).map (fun x => BitVec.ofNat 32 x) }
/-- Words of a packet carry their CRC (R437). -/
def crcHolds (w : List Nat) : Bool := crcOf 1 (wordBytes (w.take (w.length - 1))) == w.getD (w.length - 1) 0

/-- FRAMING (R427). -/
def State.setFraming (s : State) (e : Nat) : State := (s.raiseBits F.CMD_SEAT_STATUS_FRAMING e 1).bump 16 3

/-- The first packet of a seat's Command FIFO passes to Drafen once it is whole (R427) (DEDUCED, log 22). -/
def State.takePacket (s : State) (e : Fin 4) : Option State :=
  let x := s.seat e.val
  match x.cmdFifo with
  | [] => none
  | w0 :: _ =>
    let len := w0 % 65536
    if !s.live || s.on F.CMD_SEAT_STATUS_FRAMING e.val then none
    else if len < 5 ∨ 1024 < len then some (s.setFraming e.val)
    else if !s.ready then none
    else if x.cmdFifo.length < len then none
    else
      let w := x.cmdFifo.take len
      let s := (s.setSeat e.val (fun x => { x with cmdFifo := x.cmdFifo.drop len })).showSeat e.val
      let p := packetOf e w
      if !crcHolds w then
        let s := ((s.bump 16 2).setFraming e.val).bump 16 1 (9 * 256 + p.opcode.toNat)
        some (s.place .window e.val (replyWords p.opcode.toNat 9 p.tag.toNat p.seat.val p.txn.toNat false false s.now []))
      else match s.acceptPacket p .window with
        | .ok t => some t
        | .error r => some (s.refusePacket p .window r)
/-- Drafen takes what stands whole in a seat's Command FIFO. -/
def State.takePackets (s : State) (e : Fin 4) : Nat → State
  | 0 => s
  | n + 1 => match s.takePacket e with
    | some t => t.takePackets e n
    | none => s
/-- The same for the four seats. -/
def State.takeAll (s : State) : State := [0, 1, 2, 3].foldl (fun s e => s.takePackets e 205) s

/-! ### The windows (R427 to R429) -/

/-- One word written to the Command Window (DEDUCED, log 22). -/
def State.pushWord (s : State) (e w : Nat) : State :=
  if s.on F.CMD_SEAT_STATUS_FRAMING e || s.on F.CMD_SEAT_STATUS_OVERFLOW e then s
  else if (s.seat e).cmdFifo.length < 1024 then s.setSeat e (fun x => { x with cmdFifo := x.cmdFifo ++ [w] })
  else (s.raiseBits F.CMD_SEAT_STATUS_OVERFLOW e 1).bump 16 4

/-- COMMAND_WINDOW_WRITE: a 64-bit write pushes bits [31:0] first; a 32-bit write pushes one word. -/
def execCommandWindowWrite (seat : Fin 4) (wide : Bool) (value : DWord) (s : State) : Host.Outcome State Fault Refusal :=
  let e := seat.val
  let v := value.toNat
  .next (s.when (s.live && s.on F.CMD_SEAT_STATUS_LINK_UP e) (fun s =>
    let s := (s.pushWord e (v % 2 ^ 32)).takePackets seat 1
    let s := if wide then (s.pushWord e (v / 2 ^ 32)).takePackets seat 1 else s
    s.showSeat e))

/-- REPLY_WINDOW_READ: two words, or one; 0 and UNDERFLOW for a word that is missing. -/
def execReplyWindowRead (seat : Fin 4) (wide : Bool) (s : State) : Host.Outcome State Fault Refusal :=
  let e := seat.val
  let n := if wide then 2 else 1
  .next (s.when (s.live && s.on F.CMD_SEAT_STATUS_LINK_UP e) (fun s =>
    let q := (s.seat e).replyFifo
    let w := (List.range n).map (fun i => q.getD i 0)
    let s := s.setSeat e (fun x => { x with replyFifo := x.replyFifo.drop n })
    let s := if q.length < n then s.raiseBits F.CMD_SEAT_STATUS_UNDERFLOW e 1 else s
    (s.showSeat e).answer .ok w))

/-- CMD_FLUSH and REPLY_FLUSH: bits 0 and 1 of CONTROL (R426, R429). -/
def execCmdFlush (seat : Fin 4) (s : State) : Host.Outcome State Fault Refusal :=
  .next (s.when (s.live && s.on F.CMD_SEAT_STATUS_LINK_UP seat.val) (fun s => s.flushCmd seat.val))
def execReplyFlush (seat : Fin 4) (s : State) : Host.Outcome State Fault Refusal :=
  .next (s.when (s.live && s.on F.CMD_SEAT_STATUS_LINK_UP seat.val) (fun s =>
    (s.setSeat seat.val (fun x => { x with replyFifo := [] })).showSeat seat.val))

/-! ### In-band commands (R434) -/

/-- Words of bytes, most significant byte first (R4). -/
def wordsOf : Nat → Bytes → List Nat
  | 0, _ => []
  | n + 1, b => beAt b 0 4 :: wordsOf n (b.drop 4)

/-- INBAND_COMMAND: a good frame for INBAND_MAC with EtherType 0x88B6, received on a port (DEDUCED, log 22). -/
def execInbandCommand (port : Fin 512) (bytes : Bytes) (arrival : Arrival) (s : State) : Host.Outcome State Fault Refusal :=
  let p := port.val
  let s := if s.live then s.classThree else s
  let raw := s.ingressRaw p arrival.detect arrival.var
  let g := s.genOf raw
  let tagged := s.isTagged g bytes
  let o := if beAt bytes 12 2 = 0x88B6 then 14 else 18
  let mine := beAt bytes 0 6 == s.rd2 F.CMD_INBAND_MAC_LO_VALUE F.CMD_INBAND_MAC_HI_VALUE
    && (beAt bytes 12 2 == 0x88B6 || (tagged && beAt bytes 16 2 == 0x88B6))
  .next (s.when (s.live && mine) (fun s =>
    let b := (bodyOf bytes).drop o
    let len := beAt b 2 2
    let w := wordsOf (if len ≤ 1024 then len else 0) b
    let e : Fin 4 := Fin.ofNat 4 (w.getD 1 0 / 2 ^ 20)
    let ok := s.ready && decide (5 ≤ len ∧ len ≤ 1024 ∧ 4 * len ≤ b.length) && s.on F.CMD_SEAT_CTRL_INBAND_EN e.val
      && bit (s.rd F.CMD_SEAT_INBAND_PORTS (e.val * 16 + p / 32)) (p % 32) && crcHolds w
    if ok then
      let origin := Origin.inband p (beAt bytes 6 6) (if o = 18 then some (beAt bytes 12 4) else none)
      let pk := packetOf e w
      match s.acceptPacket pk origin with
      | .ok t => t
      | .error r => s.refusePacket pk origin r
    else
      let f := s.newFrame p raw bytes true
      (s.setFwd (fun x => { x with nextFrame := x.nextFrame + 1 })).dropFrame f 8))

/-! ### The tick -/

/-- CANOPY_TICK (R15). The operands are upsets of the counters A, B and C in the tick that opens (0: none). The boundary refreshes the
mirrors (R430), and Drafen places the replies that found no room and takes the packets that waited for it. -/
def execCanopyTick (ua ub uc : DWord) (s : State) : Host.Outcome State Fault Refusal :=
  .next (s.when s.ticking (fun s => ([0, 1, 2, 3].foldl State.placeLate (s.tick ua ub uc).refreshMirrors).takeAll))

end Sys2Proof.Machine
end

