-- ==== Sys2Proof/Machine/Entries.lean ====
section
/-! DEFINITION. The entries of the indexed tables (R165, R149 to R151, R184 to R187, R238, R239, R241): sizes, regions (R432), the
marking of list entries, headers and gate entries (R185, R241), the checks of a write, and the write itself. -/

namespace Sys2Proof.Machine

/-! ### Tables and regions -/

/-- Entries of an indexed table; the fragment table is indexed by port group, set and way, the queue status by queue (R157,
R253) (DEDUCED, log 24). -/
def tabSize (t : Nat) : Option Nat :=
  match t with
  | 0x04 => some 65536 | 0x05 => some 262144 | 0x06 => some 4096 | 0x10 => some 16384 | 0x11 => some 16384
  | 0x20 => some 1024 | 0x21 => some 32768 | 0x22 => some 4096 | 0x23 => some 1024 | 0x24 => some 8288
  | _ => none
/-- Keyed tables (R168). -/
def keyed (t : Nat) : Bool := t == 1 || t == 2 || t == 3
/-- The place of a table among a seat's regions (R432, R454). -/
def regionNo (t : Nat) : Option Nat :=
  ((List.range 8).zip [0x04, 0x05, 0x06, 0x10, 0x20, 0x21, 0x22, 0x23]).findSome? (fun x => if x.2 = t then some x.1 else none)
/-- An index lies in the region of a seat. -/
def State.inRegion (s : State) (seat t i : Nat) : Bool :=
  seat == 0 || (match regionNo t with
    | some r => decide (s.rd F.CMD_REGION_BASE_INDEX (8 * seat + r) ≤ i) && decide (i < s.rd F.CMD_REGION_LIMIT_INDEX (8 * seat + r))
    | none => false)
/-- Tables that hold two generations (R150, R168, R238). -/
def twoGen (t : Nat) : Bool := t == 0x04 || t == 0x06 || t == 0x10 || t == 0x22
/-- Table writes of class S (R150, R165, R238). -/
def tabClassS (t : Nat) : Bool := twoGen t

/-! ### Marking (R185, R241) -/

/-- A unit has acknowledged the prepare of a transaction (R448). -/
def Txn.acked (t : Txn) (u : Nat) : Bool :=
  match t.phase with
  | .staging => false
  | .preparing _ waiting refused _ => !waiting.contains u && !refused.contains u
  | .fixed _ => true
/-- What the other transactions have staged in a table whose unit has acknowledged. -/
def State.ackedEntries (s : State) (txn table : Nat) : List StagedEntry :=
  (s.cmd.txns.filter (fun t => t.id != txn && t.acked (tableUnit table))).flatMap (fun t => t.entries.filter (fun e => e.table == table))
/-- The descriptors of a table that both held generations hold. -/
def State.heldWords (s : State) (table : Nat) : List (Nat × List Nat) :=
  ((s.tbl.cur ++ s.tbl.prev).filter (fun e => e.table == table)).map (fun e => (e.index, e.words))

/-- A group descriptor names a list entry (R184). -/
def groupNames (w0 i : Nat) : Bool := bit w0 31 && decide (bits w0 17 0 ≤ i) && decide (i < bits w0 17 0 + bits w0 29 20)
/-- A list entry is marked against a write of a transaction, or of none (R185). -/
def State.listMarked (s : State) (txn i : Nat) : Bool :=
  (s.heldWords 4).any (fun x => groupNames (x.2.getD 0 0) i)
    || (s.ackedEntries txn 4).any (fun e => e.insert && groupNames (e.words.getD 0 0) i)

/-- The values that will be in force if words commit. -/
def State.overlay (s : State) (words : List StagedWord) : State :=
  words.foldl (fun v w => match findReg w.addr with
    | some (r, n) => v.poke r n w.mask w.value
    | none => v) s

/-- Ports whose gates a transaction sets: port, and whether it sets GATE_EN (R243). -/
def gatePorts (words : List StagedWord) : List Nat :=
  (words.filterMap (fun w => match findReg w.addr with
    | some (r, n) =>
      if n < 512 ∧ ((r.base = A.QSG_PORT_CTRL ∧ F.QSG_PORT_CTRL_GATE_EN.touched w.mask)
          ∨ (r.base = A.QSG_GCL_CTRL ∧ F.QSG_GCL_CTRL_ADMIN_SCHED.touched w.mask)) then some n else none
    | none => none)).dedup

/-- The headers that the acknowledged prepares of other transactions would install on ports (R241, R243). -/
def State.ackedHeaders (s : State) (txn : Nat) : List Nat :=
  (s.cmd.txns.filter (fun t => t.id != txn && t.acked 8)).flatMap (fun t =>
    let v := s.overlay t.words
    ((gatePorts t.words).filter (fun p => v.on F.QSG_PORT_CTRL_GATE_EN p)).map (fun p => v.rd F.QSG_GCL_CTRL_ADMIN_SCHED p))
/-- The headers that are marked (R241). -/
def State.markedHeaders (s : State) (txn : Nat) : List Nat :=
  s.qsg.running.map (fun l => l.header) ++ s.qsg.waiting.map (fun l => l.header)
    ++ (s.heldWords 0x22).map (fun x => bits (x.2.getD 0 0) 25 16)
    ++ ((s.ackedEntries txn 0x22).filter (fun e => e.insert)).map (fun e => bits (e.words.getD 0 0) 25 16)
    ++ (s.ackedEntries txn 0x20).map (fun e => e.index) ++ s.ackedHeaders txn
/-- A header names a gate entry. -/
def headerNames (w : List Nat) (i : Nat) : Bool :=
  decide (bits (w.getD 4 0) 14 0 ≤ i) && decide (i < bits (w.getD 4 0) 14 0 + bits (w.getD 4 0) 24 16)
/-- A gate entry is marked (R241) (DEDUCED, log 24). -/
def State.gateMarked (s : State) (txn i : Nat) : Bool :=
  (s.markedHeaders txn).any (fun h => headerNames (s.liveEntry 0x20 h) i)
    || (s.ackedEntries txn 0x20).any (fun e => headerNames e.words i)

/-! ### Checks -/

/-- The values that a header and a gate entry may hold (R241, R563). -/
def cycleOk (v : Nat) : Bool := decide (1000 ≤ v) && decide (v ≤ 1000000000)
def intervalOk (v : Nat) : Bool := decide (8 ≤ v) && decide (v ≤ 1000000000)

/-- The result word of a keyed entry (R169). -/
def resultOk (w : Nat) : Bool := w / 2 ^ 30 != 3 && (w / 2 ^ 30 != 0 || decide (w % 65536 ≤ 517))

/-- The values of a descriptor (R155, R184, R185, R241). -/
def entryForm (table : Nat) (w : List Nat) : Bool :=
  match table with
  | 0x04 => decide (bits (w.getD 0 0) 29 20 ≤ 518) && decide (bits (w.getD 0 0) 17 0 + bits (w.getD 0 0) 29 20 ≤ 262144)
  | 0x05 => decide (bits (w.getD 0 0) 9 0 ≤ 517)
  | 0x10 =>
    let a := rowAction w
    actPath a != 3 && !(actPath a == 1 && decide (7 < actPathId a)) && !(actFwd a == 1 && decide (517 < actDest a))
  | 0x20 => decide (bits (w.getD 2 0) 29 0 < 1000000000) && cycleOk (w.getD 3 0) && decide (1 ≤ bits (w.getD 4 0) 24 16)
      && decide (bits (w.getD 4 0) 24 16 ≤ 256) && decide (bits (w.getD 4 0) 14 0 + bits (w.getD 4 0) 24 16 ≤ 32768)
  | 0x21 => intervalOk (w.getD 1 0)
  | _ => true

/-- A row is valid in either parity (R151). -/
def State.rowHeld (s : State) (i : Nat) : Bool := (s.heldWords 0x10).any (fun x => x.1 == i)
/-- Another transaction has staged an entry (R447). -/
def State.entryHeld (s : State) (txn table i : Nat) : Bool :=
  s.cmd.txns.any (fun t => t.id != txn && t.entries.any (fun e => e.table == table && e.index == i))

/-- The checks of a table's unit. -/
def State.entryOk (s : State) (txn : Nat) (e : StagedEntry) : Except Status Unit := do
  need (!e.insert || entryForm e.table e.words) .badAddress
  need (!(e.table == 0x05 && s.listMarked txn e.index)) .notPermitted
  need (!(e.table == 0x10 && e.insert && s.rowHeld e.index)) .notPermitted
  need (!(e.table == 0x20 && (s.markedHeaders txn).contains e.index)) .notPermitted
  need (!(e.table == 0x21 && s.gateMarked txn e.index)) .notPermitted

/-! ### The write of an entry -/

/-- R164: rows valid in CURRENT. -/
def State.showRows (s : State) : State := s.wr F.CLS_TCAM_STATUS_ROWS 0 (s.tbl.cur.filter (fun e => e.table == 0x10)).length

/-- An entry changes: of a two-generation table in the generation that a commit makes, in every copy, of another at once. -/
def State.applyEntry (s : State) (e : StagedEntry) : State :=
  let change := fun (l : List TabEntry) => if e.insert then putEntry l ⟨e.table, e.index, e.words⟩ else dropEntry l e.table e.index
  if twoGen e.table then
    let s := (s.rewritten e.table e.index).setTbl (fun t => { t with cur := change t.cur })
    let s := if e.table = 0x22 then s.setQsg (fun q => { q with blocked := q.blocked.filter (fun i => i != e.index) }) else s
    if e.table = 0x10 then s.showRows else s
  else
    let s := s.setTbl (fun t => { t with live := change t.live })
    if e.table = 0x23 then s.setMeter { s.meter e.index with written := true } else s

end Sys2Proof.Machine
end

