-- ==== Sys2Proof/Machine/Commit.lean ====
section
/-! DEFINITION. Transactions after their staging (R445 to R452): prepare, acknowledgement and deadline, the commit tick with its
record, notices and replies, roll-backs, and the idle timeout. -/

namespace Sys2Proof.Machine

/-! ### Due times (R103, R35) -/

/-- The view, or the tick, has reached a due time. -/
def State.dueAt (s : State) (tick : Nat) (raw : Bool) (due : Nat) : Bool :=
  if raw then decide (due ≤ tick) else decide (due ≤ s.viewAt tick 0)
def State.reached (s : State) (raw : Bool) (due : Nat) : Bool := s.dueAt s.now raw due

/-- The lateness of what fires in this tick, in units of 2⁻¹⁶ ns; none when it is not late. -/
def State.lateBy (s : State) (raw : Bool) (due : Nat) : Option Int :=
  if raw then (if due < s.now then some ((s.now - due) * 81920 : Nat) else none)
  else
    let before := viewWrap (viewUnits (paramsAt s.tim.params (s.now - 1)).1 (s.now - 1) 0)
    let old := (s.tim.params.find? (fun p => decide (p.since < s.now))).getD {}
    let carried := s.tim.epochTick == some s.now && decide (viewWrap (viewUnits old s.now 0) < due)
    if due ≤ before ∨ carried then some ((s.viewAt s.now 0 : Int) - due) else none

/-- R123: 4,096 ticks have gone by since the latest commit tick (DEDUCED, log 20). -/
def State.spaced (s : State) : Bool :=
  match s.cmd.lastCommit with
  | none => true
  | some c => decide (c + 4096 ≤ s.now)

/-! ### Records and ends -/

/-- A COMMIT record (R325). -/
def State.commitRec (s : State) (unit inst sub seat txn action : Nat) (late : Int) (units order lift acked : Nat) (st : Status) : State :=
  s.hand (s.mkRecord 0x11 unit inst s.now 0
    (be 1 sub ++ be 1 (seat + 16 * s.rd F.SYS_CFG_GEN_CURRENT) ++ be 2 txn ++ be 4 action ++ be 8 (ofS 64 late) ++ be 4 units
      ++ be 4 order ++ be 4 lift ++ be 1 acked ++ be 1 st.code ++ zeros 2 ++ s.idn.digest.take 32))

/-- Set a transaction. -/
def State.putTxn (s : State) (t : Txn) : State :=
  s.setCmd (fun c => { c with txns := c.txns.map (fun x => if x.id = t.id then t else x) })
/-- The pending actions, and their count (R111). -/
def State.setActions (s : State) (l : List Action) : State :=
  (s.setSyn (fun y => { y with actions := l })).wr F.SYN_SCHED_STATUS_PENDING 0 l.length
/-- An action leaves without firing (R105). -/
def State.noteDiscard (s : State) (id seat : Nat) : State := s.setSyn (fun y => { y with discarded := (id, seat) :: y.discarded })
/-- A late action or commit is counted and sets SCHED_LATE (R103). -/
def State.noteLateCommit (s : State) : State := (s.bump 4 18).raiseBits F.SYN_INT_STATUS_SCHED_LATE 0 1
/-- The transaction ID that replies and records carry: none of an implicit one (DEDUCED, log 14). -/
def Txn.shown (t : Txn) : Nat := if t.implicit then 0 else t.id

/-- A transaction ends: it leaves with its scheduled-action entry, and ISW 5 of its seat tells how (R431). -/
def State.endTxn (s : State) (t : Txn) (st : Status) : State :=
  let s := (s.setCmd (fun c => { c with txns := c.txns.filter (fun x => x.id != t.id) })).setTbl (fun x => { x with
    rows := x.rows.filter (fun r => r.txn != t.id) })
  let s := if t.implicit then s else s.setSeat t.seat (fun x => { x with lastTxn := t.id, lastStatus := st.code })
  let s := if t.timed.isSome then (s.setActions (s.syn.actions.filter (fun a => a.kind != .commit t.id))).noteDiscard t.action t.seat else s
  s.showSeat t.seat

/-- A transaction is rolled back (R451): cause 0 command, 1 idle, 2 partition, 3 prepare; the units that failed (DEDUCED, log 21). -/
def State.rollBack (s : State) (t : Txn) (cause units : Nat) : State :=
  let s := (s.endTxn t .rolledBack).bump 16 9 cause
  let s := if t.implicit then s else s.setCmd (fun c => { c with rolledBack := (t.id, t.seat) :: c.rolledBack })
  let s := s.commitRec 17 t.seat 2 t.seat t.shown t.action 0 units 0 0 0 .rolledBack
  match t.waiting with
  | some p => s.finish p .rolledBack { data := [units] }
  | none => match t.timed with
    | some d => s.notice d.packet d.origin .rolledBack s.now
    | none => s

/-- The units that failed, as bits. -/
def unitMask (l : List Nat) : Nat := sumOf (l.dedup.filter (fun u => decide (u < 31))) (fun u => 2 ^ u)

/-! ### Prepare (R446, R448) -/

/-- An entry of a table as a transaction leaves it. -/
def State.entryAfter (s : State) (t : Txn) (table i : Nat) : List Nat :=
  match t.entries.find? (fun e => e.table == table && e.index == i) with
  | some e => if e.insert then e.words else []
  | none => s.liveEntry table i
/-- R563: a header and its entries hold values in range. -/
def State.headerFit (s : State) (t : Txn) (h : Nat) : Bool :=
  let w := s.entryAfter t 0x20 h
  cycleOk (w.getD 3 0) && (List.range (bits (w.getD 4 0) 24 16)).all (fun i =>
    intervalOk ((s.entryAfter t 0x21 (bits (w.getD 4 0) 14 0 + i)).getD 1 0))

/-- R432: no port and no table index lies in two partitions of seats 1 to 3. -/
def State.partitionsApart (v : State) : Bool :=
  [(1, 2), (1, 3), (2, 3)].all (fun x =>
    (List.range 17).all (fun w => v.rd F.CMD_SEAT_PORTS_PORTS (17 * x.1 + w) &&& v.rd F.CMD_SEAT_PORTS_PORTS (17 * x.2 + w) == 0)
      && (List.range 8).all (fun r =>
        let lo := fun (e : Nat) => v.rd F.CMD_REGION_BASE_INDEX (8 * e + r)
        let hi := fun (e : Nat) => v.rd F.CMD_REGION_LIMIT_INDEX (8 * e + r)
        decide (hi x.1 ≤ lo x.1) || decide (hi x.2 ≤ lo x.2) || decide (hi x.1 ≤ lo x.2) || decide (hi x.2 ≤ lo x.1)))

/-- A word that stages a reserve of the buffer (R207). -/
def reserveWord (w : StagedWord) : Bool :=
  match findReg w.addr with
  | some (r, _) => [F.BUF_THR_PROF_MIN_MIN_CELLS, F.BUF_Q_CFG_PROFILE, F.BUF_DET_RESERVE_CELLS, F.BUF_ING_PROF_HEADROOM_HEADROOM,
      F.BUF_ING_PORT_CFG_MODE, F.BUF_ING_PORT_CFG_PROFILE, F.BUF_ING_PORT_CFG_PFC_EN, F.BUF_SLACK_CELLS].any (fun f => f.base == r.base && f.touched w.mask)
  | none => false
/-- What a unit asks of a transaction as a whole (R207, R432, R563); `v` holds the values that will be in force. -/
def State.unitFits (s v : State) (t : Txn) (u : Nat) : Bool :=
  if u = 7 then !t.words.any reserveWord || decide (65536 ≤ v.sharedTotal)
  else if u = 8 then
    (gatePorts t.words).all (fun p => !v.on F.QSG_PORT_CTRL_GATE_EN p || s.headerFit t (v.rd F.QSG_GCL_CTRL_ADMIN_SCHED p))
      && (t.entries.filter (fun e => e.table == 0x22 && e.insert && bit (e.words.getD 0 0) 15)).all (fun e =>
        s.headerFit t (bits (e.words.getD 0 0) 25 16))
  else if u = 17 then v.partitionsApart
  else true

/-- R446: a unit checks every staged write again. -/
def State.recheck (s : State) (t : Txn) (u : Nat) : Bool :=
  let r := t.words.foldl (fun (x : State × Bool) w =>
    match s.tryWord x.1 t.seat t.id (pure ()) w with
    | .ok (_, v) => (v, x.2)
    | .error _ => (x.1, x.2 && unitOf w.addr != u)) (s, true)
  let tabs := (t.entries.filter (fun e => tableUnit e.table == u)).all (fun e => match s.entryOk t.id e with | .ok _ => true | .error _ => false)
  r.2 && tabs && s.unitFits (s.overlay t.words) t u

/-- Every unit has answered the prepare. -/
def State.prepared (s : State) (t : Txn) (refused : List Nat) : State :=
  if refused ≠ [] then s.rollBack t 3 (unitMask refused)
  else match t.timed with
    | none => s.putTxn { t with phase := .fixed (s.now + 16) }
    | some d =>
      if !d.late && s.dueAt (s.now + 15) d.raw d.due then s.rollBack t 3 0
      else
        let s := s.putTxn { t with phase := .fixed (s.now + 16), waiting := none }
        match t.waiting with
        | some p => s.finish p .ok { data := [t.action] }
        | none => s

/-- A unit answers the prepare of a transaction; the classifier once every row has reached every pipeline's array (R152). -/
def State.takeAck (s : State) (t : Txn) (u : Nat) : State :=
  match t.phase with
  | .preparing dl waiting refused _ =>
    if !waiting.contains u ∨ (u = 5 ∧ s.tbl.rows.any (fun r => r.txn == t.id)) then s
    else if dl < s.now then s.rollBack t 3 (unitMask (waiting ++ refused))
    else
      let refused := if s.recheck t u then refused else refused ++ [u]
      let waiting := waiting.erase u
      let t := { t with phase := .preparing dl waiting refused s.now }
      let s := s.putTxn t
      if waiting = [] then s.prepared t refused else s
  | _ => s

/-- PREPARE_ACK: unit `unit` (31 stands for the pipelines) has loaded its shadow of a transaction: an identifier of R445, or 4,096 plus
the action identifier of an implicit one (R448). -/
def execPrepareAck (txn : Nat) (unit : Fin 32) (s : State) : Host.Outcome State Fault Refusal :=
  .next (s.when s.ready (fun s =>
    match s.cmd.txns.find? (fun t => t.id == txn) with
    | some t => s.takeAck t unit.val
    | none => s))

/-- A prepare that can no longer be in time (R448, R450): the units that have failed. -/
def State.overdue (s : State) (t : Txn) : Option Nat :=
  match t.phase with
  | .preparing dl waiting refused _ =>
    if dl < s.now then some (unitMask (waiting ++ refused))
    else match t.timed with
      | some d => if !d.late && s.dueAt (s.now + 15) d.raw d.due then some (unitMask (waiting ++ refused)) else none
      | none => none
  | _ => none

/-- PREPARE_DEADLINE: transactions whose prepare has not ended in time are rolled back (R448, R450). -/
def execPrepareDeadline (s : State) : Host.Outcome State Fault Refusal :=
  .next (s.when s.ready (fun s => s.cmd.txns.foldl (fun s t => match s.overdue t with
    | some m => s.rollBack t 3 m
    | none => s) s))

/-- TXN_IDLE_TIMEOUT: an open transaction that has received no command for IDLE_S is rolled back (R451) (DEDUCED, log 20). -/
def execTxnIdleTimeout (s : State) : Host.Outcome State Fault Refusal :=
  .next (s.when s.ready (fun s =>
    let idle := s.rd F.CMD_TXN_CFG_IDLE_S
    let old := s.cmd.txns.filter (fun t => t.phase == .staging && idle != 0 && decide (t.lastCmd + idle * 800000000 ≤ s.now))
    old.foldl (fun s t => s.rollBack t 1 0) s))

/-! ### The commit tick (R449) -/

/-- A transaction that commits in this tick (DEDUCED, log 20). -/
def State.commitsNow (s : State) (t : Txn) : Bool :=
  match t.phase with
  | .fixed c => decide (c ≤ s.now) && s.spaced && (match t.timed with
    | none => true
    | some d => d.late || s.reached d.raw d.due)
  | _ => false

/-- Words and entries in the order of their staging. -/
def staged : List Bool → List StagedWord → List StagedEntry → List (StagedWord ⊕ StagedEntry)
  | false :: o, w :: ws, es => .inl w :: staged o ws es
  | true :: o, ws, e :: es => .inr e :: staged o ws es
  | _, _, _ => []

/-- One staged write is applied, and extends D (R523). A word whose effect is refused by now has none (DEDUCED) (DEDUCED,
log 15) (DESIGN CHOICE, log 16). -/
def State.applyItem (s : State) (t : Txn) (x : StagedWord ⊕ StagedEntry) : State :=
  match x with
  | .inl w =>
    let s := match s.applyWord t.seat w with | .ok v => v | .error _ => s
    s.extendD 0 t.seat t.shown w.addr w.mask [w.value]
  | .inr e =>
    (s.applyEntry e).extendD (if e.insert then 1 else 2) t.seat t.shown (e.table * 2 ^ 24 + e.index) Config.tableMask e.words

/-- A word that changes a field of the capture policy (R338), and one that sets a partition (R432). -/
def State.policyWord (s : State) (w : StagedWord) : Bool :=
  match findReg w.addr with
  | some (r, n) => (r.base == A.EVR_SEL || r.base == A.EVR_PHASE_POL) && r.fields.any (fun d => s.changes d n w.mask w.value)
  | none => false
def partitionWord (w : StagedWord) : Bool :=
  match findReg w.addr with
  | some (r, _) => [A.CMD_SEAT_CTRL, A.CMD_SEAT_PORTS, A.CMD_REGION_BASE, A.CMD_REGION_LIMIT].contains r.base
  | none => false

/-- A transaction has staged a write outside the partition of its seat (R452). -/
def State.outside (s : State) (t : Txn) : Bool :=
  t.words.any (fun w => match findReg w.addr with
    | some (r, n) => !s.mayWrite t.seat r n w.mask w.value
    | none => false) || t.entries.any (fun e => !s.inRegion t.seat e.table e.index)

/-- The gates of a port after a commit that sets them (R243). -/
def State.gatesAfter (s : State) (p : Nat) (was : Bool) : State :=
  let en := s.on F.QSG_PORT_CTRL_GATE_EN p
  if en || was then s.installGates p en (s.rd F.QSG_GCL_CTRL_ADMIN_SCHED p) else s

/-- A transaction is applied in class 4 of its commit tick. The generation has been counted on (DEDUCED, log 21). -/
def State.commitTxn (s : State) (t : Txn) : State :=
  if !s.cmd.txns.contains t then s
  else
    let late := match t.timed with | some d => s.lateBy d.raw d.due | none => none
    let st : Status := if late.isSome then .lateApplied else .ok
    let wasOn := (gatePorts t.words).map (fun p => (p, s.on F.QSG_PORT_CTRL_GATE_EN p))
    let sealNow := t.words.any (fun w => s.policyWord w)
    let s := s.endTxn t st
    let s := (staged t.order t.words t.entries).foldl (fun s x => s.applyItem t x) s
    let s := wasOn.foldl (fun s x => s.gatesAfter x.1 x.2) s
    let s := if sealNow then s.setEvr (fun e => { e with sealReq := e.sealReq ++ [(2, s.now)] }) else s
    let s := (s.loadBases.refreshBuf).bump 16 (if t.implicit then 8 else 7)
    let s := if late.isSome then s.noteLateCommit else s
    let s := if t.implicit then s else s.setCmd (fun c => { c with committed := (t.id, t.seat, s.now) :: c.committed })
    let s := if t.timed.isSome then
        (s.wr F.SYN_SCHED_LAST_ID_VALUE 0 t.action).wr2 F.SYN_SCHED_LAST_TICK_LO_VALUE F.SYN_SCHED_LAST_TICK_HI_VALUE 0 s.now
      else s
    let s := s.commitRec 17 t.seat (b2n t.implicit) t.seat t.shown t.action (late.getD 0) 0 0 0 0 st
    let s := match t.waiting with
      | some p => s.finish p .ok { data := if t.implicit then [] else [t.action, s.rd F.SYS_CFG_GEN_CURRENT] }
      | none => match t.timed with
        | some d => s.notice d.packet d.origin st s.now
        | none => s
    if t.words.any partitionWord then
      (s.cmd.txns.filter (fun x => s.outside x)).foldl (fun s x => s.rollBack x 2 0) s
    else s

/-- A lift commit is applied (R308), or rolled back and tried again at the next possible tick. -/
def State.commitLift (s : State) (a : Action) (fails : Bool) : State :=
  match a.kind with
  | .lift number lift _ =>
    if fails then s.raiseFault 6 1 1 0 number
    else
      let late := s.lateBy a.raw a.due
      let s := s.setActions (s.syn.actions.filter (fun x => x.id != a.id))
      let s := s.applyLift number lift late.isSome
      let s := if late.isSome then s.noteLateCommit else s
      let s := (s.wr F.SYN_SCHED_LAST_ID_VALUE 0 a.id).wr2 F.SYN_SCHED_LAST_TICK_LO_VALUE F.SYN_SCHED_LAST_TICK_HI_VALUE 0 s.now
      let by' := if s.trp.mine then s.member else s.trp.lead.getD s.member
      let acked := if s.trp.order.any (fun o => o.number == number) then sumOf s.trp.acked (fun n => 2 ^ n) else 0
      s.commitRec 11 by' 4 0 0 a.id (late.getD 0) 0 number lift acked (if late.isSome then .lateApplied else .ok)
  | _ => s

/-- Action identifiers in the order of their issue, across the wrap (R101). -/
def idLe (a b : Nat) : Bool := a == b || serialLater b a

/-- A new generation begins (R122, R123, R136). -/
def State.nextGen (s : State) : State :=
  let g := s.rd F.SYS_CFG_GEN_CURRENT
  let s := { s with prevRegs := s.regs, tbl := { s.tbl with prev := s.tbl.cur }, cmd := { s.cmd with lastCommit := some s.now } }
  ((s.wr F.SYS_CFG_GEN_PREVIOUS 0 g).wr F.SYS_CFG_GEN_CURRENT 0 (g + 1)).wr2 F.SYS_CFG_GEN_TICK_LO_VALUE F.SYS_CFG_GEN_TICK_HI_VALUE 0 s.now

end Sys2Proof.Machine
end

