-- ==== Sys2Proof/Machine/Action.lean ====
section
/-! DEFINITION. Scheduled actions (R101 to R105), and class 4 of a tick: commits and actions in ascending identifier (R32, R449). -/

namespace Sys2Proof.Machine

/-! ### The descriptor (R102) -/

/-- The due time of words DUE_LO, DUE_HI, DUE_NS: in units of 2⁻¹⁶ ns, or a tick. -/
def dueOf (raw : Bool) (lo hi ns : Nat) : Nat := if raw then hi * 2 ^ 32 + lo else viewOf (hi % 65536 * 2 ^ 32 + lo) ns 0
/-- DUE_NS in range; a reserved bit above it makes it another value (R102) (DESIGN CHOICE, log 84). -/
def dueNsOk (raw : Bool) (ns : Nat) : Bool := if raw then ns == 0 else decide (ns < 1000000000)

/-- An action fires in this tick (R103). -/
def State.firesNow (s : State) (a : Action) : Bool :=
  match a.lateAt with
  | some t => decide (t ≤ s.now)
  | none => s.reached a.raw a.due

/-- Fields within a mask are all of class L (R104). -/
def State.allClassL (s : State) (r : RegD) (n mask : Nat) : Bool :=
  (s.fieldsOf r n).all (fun d => !d.fld.touched mask || d.cls == .l)

/-- SCHED_ACTION (R101 to R104, R36) (DEDUCED, log 19) (DESIGN CHOICE, log 84). -/
def schedBody (s : State) (p : Packet) : Done :=
  let w := fun (i : Nat) => (p.data.getD i 0).toNat
  let seat := p.sender.val
  let raw := bit (w 0) 9
  let lateOk := bit (w 0) 8
  let due := dueOf raw (w 1) (w 2) (w 3)
  let kind := w 0 % 256
  let early : Except Status ActKind := do
    need (kind == 1 || kind == 2) .badOpcode
    need (dueNsOk raw (w 3)) .badAddress
    if kind = 1 then
      match findReg (w 4) with
      | none => .error (noReg (w 4))
      | some (r, n) => do
        need (s.mayWrite seat r n (w 6) (w 5)) .notOwner
        need (s.allClassL r n (w 6)) .notPermitted
        need ((s.fieldsOf r n).all (fun d => !s.outOfRange d n (w 6) (w 5))) .badAddress
        pure (.regWrite (w 4) (w 5) (w 6))
    else do
      need (decide (w 4 ≤ 4)) .badAddress
      need (seat == 0) .notOwner
      pure (.phase (w 4))
  let come := s.reached raw due
  let checked : Except Status ActKind := do
    let k ← early
    need (raw || s.epoch != 0) .notPermitted
    need (!come || lateOk) .timePast
    need (decide (s.syn.actions.length < 256)) .tableFull
    pure k
  match checked with
  | .error e => .refuse e {}
  | .ok k =>
    let id := s.syn.nextAction
    let a : Action := { id := id, seat := seat, kind := k, lateOk := lateOk, raw := raw, due := due, accepted := s.now,
                        lateAt := if come then some (s.now + 1) else none }
    let s := (s.setActions (s.syn.actions ++ [a])).setSyn Syn.takeId
    .ok s (if come then .lateApplied else .ok) { data := [id] }
def execSchedAction (p : Packet) (s : State) : Host.Outcome State Fault Refusal := .next (s.command p 0x30 schedBody)

/-- SCHED_CANCEL (R105). -/
def cancelBody (s : State) (p : Packet) : Done :=
  let id := p.parameter.toNat
  let seat := p.sender.val
  let tick := fun (t : Nat) => [t % 2 ^ 32, t / 2 ^ 32]
  match s.syn.actions.find? (fun a => a.id == id) with
  | some a =>
    let mine := seat == 0 || seat == a.seat
    match a.kind with
    | .commit _ | .lift _ _ _ => .refuse (if mine then .notPermitted else .notOwner) {}
    | _ =>
      if !mine then .refuse .notOwner {}
      else if s.firesNow a then .refuse .notPermitted { data := tick s.now }
      else .ok ((s.setActions (s.syn.actions.filter (fun x => x.id != id))).noteDiscard id a.seat) .ok {}
  | none =>
    match s.syn.fired.find? (fun f => f.id == id) with
    | some f => if seat == 0 || seat == f.seat then .refuse .notPermitted { data := tick f.tick } else .refuse .notOwner {}
    | none =>
      match s.syn.discarded.find? (fun x => x.1 == id) with
      | some x => .refuse (if seat == 0 || seat == x.2 then .notPermitted else .notOwner) {}
      | none => .refuse (if id = 0 ∨ (!s.syn.idsWrapped && decide (s.syn.nextAction ≤ id)) then .badAddress else .notPermitted) {}
def execSchedCancel (p : Packet) (s : State) : Host.Outcome State Fault Refusal := .next (s.command p 0x31 cancelBody)

/-! ### Firing (R103, R89, R100) -/

/-- A write of LEVEL of an event output that is not in LEVEL mode (R100). -/
def State.skipsLevel (s : State) (target mask : Nat) : Bool :=
  match findReg target with
  | some (r, n) => r.base == A.SYN_EVTO_CTRL && F.SYN_EVTO_CTRL_LEVEL.touched mask && s.rd F.SYN_EVTO_CTRL_MODE n != 1
  | none => false

/-- The session phase changes (R89). -/
def State.setPhase (s : State) (seat code : Nat) : State :=
  let was := s.phase
  let s := (s.wr F.SYN_SESSION_PHASE 0 code).extendD 0 seat 0 0x2001C 7 [code]
  if was = code then s
  else ((s.setEvr (fun e => { e with sealReq := e.sealReq ++ [(2, s.now)] })).holdFloor).leadCheck

/-- What a fired action does, and the status of its outcome. Its ownership was checked when it was accepted (R104, R433)
(DEDUCED, log 19). -/
def State.actionEffect (s : State) (a : Action) : State × Status :=
  match a.kind with
  | .regWrite target value mask =>
    if s.skipsLevel target mask then (s.bump 4 17, .notPermitted)
    else match s.writeDirect a.seat [⟨target, mask, value⟩] none true with
      | .ok (t, _) => (t, .ok)
      | .error e => (s.noteRefusal e, e)
  | .phase code => (s.setPhase a.seat code, .ok)
  | _ => (s, .ok)

/-- An action fires: it is done once, and recorded (R103, R325) (DEDUCED, log 19). -/
def State.fireAction (s : State) (a : Action) : State :=
  let late := s.lateBy a.raw a.due
  let s := s.setActions (s.syn.actions.filter (fun x => x.id != a.id))
  let s := s.setSyn (fun y => { y with fired := ⟨a.id, a.seat, s.now⟩ :: y.fired })
  let s := (s.wr F.SYN_SCHED_LAST_ID_VALUE 0 a.id).wr2 F.SYN_SCHED_LAST_TICK_LO_VALUE F.SYN_SCHED_LAST_TICK_HI_VALUE 0 s.now
  let (s, st) := s.actionEffect a
  let s := if late.isSome then s.noteLateCommit else s
  s.commitRec 17 a.seat 3 a.seat 0 a.id (late.getD 0) 0 0 0 0 (if st = .ok ∧ late.isSome then .lateApplied else st)

/-- The register writes and phase changes that fire in a tick. -/
def State.actionsDue (s : State) : List Action :=
  s.syn.actions.filter (fun a => (match a.kind with
    | .regWrite _ _ _ => true
    | .phase _ => true
    | _ => false) && s.firesNow a)

/-! ### Class 4 -/

/-- What commits in a tick. -/
def State.commitsDue (s : State) : List (Txn ⊕ Action) :=
  (s.cmd.txns.filter (fun t => s.commitsNow t)).map Sum.inl
    ++ (s.syn.actions.filter (fun a => a.kind.isLift && s.spaced && decide (a.accepted < s.now) && s.reached a.raw a.due)).map Sum.inr

/-- The action identifier that orders class 4. -/
def classKey (x : Txn ⊕ Action) : Nat := match x with | .inl t => t.action | .inr a => a.id
/-- Class 4 of a tick in which something commits: commits and actions in ascending identifier, under one new generation
(R32, R449) (DEDUCED, log 19). -/
def State.classFour (s : State) (commits : List (Txn ⊕ Action)) (liftFails : Bool) : State :=
  let all := sortBy (fun x y => idLe (classKey x) (classKey y)) (commits ++ s.actionsDue.map Sum.inr)
  let none' := liftFails && commits.all (fun x => x.isRight)
  let s := if none' then s else s.nextGen
  (all.foldl (fun s x => match x with
    | .inl t => s.commitTxn t
    | .inr a => if a.kind.isLift then s.commitLift a liftFails else s.fireAction a) s).refreshQuotes

/-- Class 4 of a tick in which nothing commits: the actions, in ascending identifier (R103). -/
def State.fireAll (s : State) : State :=
  (sortBy (fun (x y : Action) => idLe x.id y.id) s.actionsDue).foldl (fun s a => s.fireAction a) s

/-- COMMIT_TICK: class 4 of a tick in which transactions or lift commits are applied, after its classes 1 to 3 (R32, R448 step 3, R449,
R308). `liftFails` tells that a lift commit is rolled back (DEDUCED, log 20). -/
def execCommitTick (liftFails : Bool) (s : State) : Host.Outcome State Fault Refusal :=
  .next (s.when s.live (fun s =>
    let s := s.takeDue.classThree
    if s.commitsDue.isEmpty then s else s.classFour s.commitsDue liftFails))

/-- ACTION_FIRE: class 4 of a tick in which nothing commits, after its classes 1 to 3 (R32, R35, R103). Where something does,
COMMIT_TICK fires the actions in their places. -/
def execActionFire (s : State) : Host.Outcome State Fault Refusal :=
  .next (s.when s.live (fun s =>
    let s := s.takeDue.classThree
    if s.commitsDue.isEmpty then s.fireAll else s))

/-! ### Reads (R31) -/

/-- Classes 1 to 6 of the present tick as far as they are still due: a register read in a tick sees them all (R31). A lift commit waits
for COMMIT_TICK, which tells whether it fails. -/
def State.caughtUp (s : State) : State :=
  if !s.live then s
  else
    let s := s.takeDue.classThree
    let due := s.commitsDue
    let s := if due.isEmpty then s.fireAll else if due.any (fun x => x.isRight) then s else s.classFour due false
    s.changeLists.learnDue

/-! ### The control period -/

/-- POWER_DECISION (R504): at every tick that is a multiple of 8,000, on the state after class 4 of that tick. EST_W, and what the steps in force save, are free
values (DESIGN CHOICE, log 7) (DESIGN CHOICE, log 52). -/
def execPowerDecision (s : State) : Host.Outcome State Fault Refusal :=
  .next (s.once 6 (s.live && s.now % 8000 == 0) (fun s =>
    let (est, s) := s.caughtUp.fresh
    let (mean, s) := s.fresh
    let (saved, s) := s.fresh
    let s := s.holdFloor
    let meas := s.rd F.PWR_MEAS_MEAS_W
    let s := s.railRuns.judgeModel (mean % 2048)
    let s := s.setPwr (fun p => { p with highRun := if 105 * s.limitEff < 100 * meas then p.highRun + 1 else 0 })
    let s := s.emergency.decideStep (est % 2048)
    (s.wr F.PWR_MEAS_EST_W 0 (est % 2048)).wr F.PWR_DEMAND_DEMAND_W 0
      (if s.rd F.PWR_STATUS_STEP = 0 then meas else meas + saved % (2048 - meas))))

/-- A read of a register, or of one half of a pair, by a seat (R31) (DEDUCED, log 13). -/
def State.seatRead (s : State) (seat addr : Nat) (half : Half) : State :=
  s.whenLive (fun s =>
    let s := s.caughtUp
    let fits : Bool := match findReg addr with
      | some (r, _) => r.half == half
      | none => decide (0x800000 ≤ addr) && (half != .whole) && (addr % 8 == if half = .lo then 0 else 4)
    match (if fits then s.readWord seat addr else .error .badAddress) with
    | .ok (v, t) => t.answer .ok [v]
    | .error e => s.answer e)

/-- PAIR_LO_READ and PAIR_HI_READ (R9): the address of the half read. -/
def execPairLoRead (seat : Fin 4) (addr : Word) (s : State) : Host.Outcome State Fault Refusal := .next (s.seatRead seat.val addr.toNat .lo)
def execPairHiRead (seat : Fin 4) (addr : Word) (s : State) : Host.Outcome State Fault Refusal := .next (s.seatRead seat.val addr.toNat .hi)

/-- RC_READ: a read of a register with a read-to-clear field (R10). -/
def execRcRead (seat : Fin 4) (addr : Word) (s : State) : Host.Outcome State Fault Refusal :=
  .next (match findReg addr.toNat with
    | some (r, _) =>
      if r.fields.any (fun d => d.acc == .rc) then s.seatRead seat.val addr.toNat .whole else s.whenLive (fun s => s.answer .badAddress)
    | none => s.whenLive (fun s => s.answer .badAddress))

end Sys2Proof.Machine
end

