-- ==== Sys2Proof/Machine/Command.lean ====
section
/-! DEFINITION. The commands of R439 that read and write registers and tables and that open, commit and roll back transactions (R150,
R151, R168, R172, R176, R177, R444 to R451). -/

namespace Sys2Proof.Machine

/-! ### Transactions named by a command -/

/-- The open transaction that a command of a seat names (R445, R451). -/
def State.openTxn (s : State) (seat id : Nat) (seat0 : Bool) : Except Status Txn :=
  match s.cmd.txns.find? (fun t => !t.implicit && t.id == id) with
  | some t => if t.seat = seat ∨ (seat0 ∧ seat = 0) then .ok t else .error .notOwner
  | none =>
    match s.cmd.rolledBack.find? (fun x => x.1 == id) with
    | some x => .error (if x.2 = seat ∨ (seat0 ∧ seat = 0) then .rolledBack else .notOwner)
    | none => .error .badAddress
/-- The transaction in which a command stages: one that has not begun to commit. -/
def State.stagingTxn (s : State) (seat id : Nat) : Except Status Txn := do
  let t ← s.openTxn seat id false
  need (t.phase == .staging) .notPermitted
  pure t
/-- R451: a command to a transaction restarts its idle time. -/
def State.touchTxn (s : State) (id : Nat) : State :=
  s.setCmd (fun c => { c with txns := c.txns.map (fun t => if !t.implicit && t.id == id then { t with lastCmd := s.now } else t) })

/-! ### Staging (R446) -/

/-- A staged word joins a transaction: it merges with one already staged. -/
def Txn.stageWord (t : Txn) (w : StagedWord) : Except Status Txn :=
  if t.words.any (fun x => x.addr == w.addr) then
    pure { t with words := t.words.map (fun x =>
      if x.addr = w.addr then { x with mask := x.mask ||| w.mask, value := masked x.value w.mask w.value } else x) }
  else do
    need (decide (t.words.length < 65536)) .tableFull
    pure { t with words := t.words ++ [w], order := t.order ++ [false] }
/-- A staged entry joins a transaction: it takes the place of one already staged. -/
def Txn.stageEntry (t : Txn) (e : StagedEntry) : Except Status Txn :=
  if t.entries.any (fun x => x.table == e.table && x.index == e.index) then
    pure { t with entries := t.entries.map (fun x => if x.table = e.table ∧ x.index = e.index then e else x) }
  else do
    need (decide (t.entries.length < 16384)) .tableFull
    pure { t with entries := t.entries ++ [e], order := t.order ++ [true] }

/-- A word of a command is staged: its pair (R9), and its checks against what the transaction has staged so far. -/
def State.stageOne (s : State) (seat id : Nat) (x : State × Txn) (w : StagedWord) : Except Status (State × Txn) := do
  let state : Except Status Unit := (s.stagingTxn seat id).map (fun _ => ())
  let (words, staging) := x.1.pairWords seat w
  if words = [] then
    let _ ← s.tryWord (x.1.overlay x.2.words) seat id state { w with mask := 0 }
  let t ← words.foldlM (fun (t : Txn) (w : StagedWord) => do
    let _ ← s.tryWord (x.1.overlay t.words) seat id state w
    t.stageWord w) x.2
  pure (x.1.setSeat seat (fun e => { e with staging := staging }), t)

/-- Words of a command with a transaction ID. -/
def State.stageAll (s : State) (seat id : Nat) (words : List StagedWord) : Except Status State := do
  let blank : Txn := { id := id, seat := seat, implicit := false, words := [], entries := [], order := [], prepUs := 0, lastCmd := 0,
                       phase := .staging, action := 0, timed := none, waiting := none }
  let t := match s.stagingTxn seat id with | .ok t => t | .error _ => blank
  let (v, t) ← words.foldlM (s.stageOne seat id) (s, t)
  let _ ← s.stagingTxn seat id
  pure (v.putTxn t)

/-! ### Registers (R439, R444) -/

/-- A refusal of a write; a command to a transaction restarts its idle time all the same. -/
def State.refused (s : State) (e : Status) : Done := .ok (s.noteRefusal e) e {}

/-- The words of a write command. -/
def State.writeWords (s : State) (p : Packet) (words : List StagedWord) : Done :=
  let seat := p.sender.val
  let id := p.txn.toNat
  if id = 0 then
    match s.writeDirect seat words (some p) with
    | .error e => s.refused e
    | .ok (t, later) => if later || words.any resetWrite then .wait t else .ok t .ok {}
  else
    let s := s.touchTxn id
    match s.stageAll seat id words with
    | .error e => s.refused e
    | .ok t => .ok t .ok {}

/-- READ and READ_BLOCK: n words from an address; a word that is refused refuses the whole (R440). Both come after classes 1 to 6 of
the tick (R31). -/
def State.readWords (s : State) (seat addr n : Nat) : Except Status (List Nat × State) :=
  (List.range n).foldlM (fun (x : List Nat × State) i => do
    let (v, t) ← x.2.readWord seat (addr + 4 * i)
    pure (x.1 ++ [v], t)) ([], s)

/-- READ. -/
def readBody (s : State) (p : Packet) : Done :=
  match s.caughtUp.readWords p.sender.val p.address.toNat 1 with
  | .ok (l, t) => .ok t .ok { data := l }
  | .error e => .refuse e {}
def execRead (p : Packet) (s : State) : Host.Outcome State Fault Refusal := .next (s.command p 0x01 readBody)
/-- WRITE. -/
def writeBody (s : State) (p : Packet) : Done :=
  s.writeWords p [⟨p.address.toNat, p.parameter.toNat, (p.data.getD 0 0).toNat⟩]
def execWrite (p : Packet) (s : State) : Host.Outcome State Fault Refusal := .next (s.command p 0x02 writeBody)
/-- READ_BLOCK. -/
def readBlockBody (s : State) (p : Packet) : Done :=
  let n := p.parameter.toNat
  if n = 0 ∨ 1019 < n then .refuse .badAddress {}
  else match s.caughtUp.readWords p.sender.val p.address.toNat n with
    | .ok (l, t) => .ok t .ok { data := l }
    | .error e => .refuse e {}
def execReadBlock (p : Packet) (s : State) : Host.Outcome State Fault Refusal := .next (s.command p 0x03 readBlockBody)
/-- WRITE_BLOCK. -/
def writeBlockBody (s : State) (p : Packet) : Done :=
  s.writeWords p ((List.range p.data.length).map (fun i => ⟨p.address.toNat + 4 * i, 0xFFFFFFFF, (p.data.getD i 0).toNat⟩))
def execWriteBlock (p : Packet) (s : State) : Host.Outcome State Fault Refusal := .next (s.command p 0x04 writeBlockBody)

/-- ECHO. -/
def echoBody (s : State) (p : Packet) : Done := .ok s .ok { data := p.data.map (fun w => w.toNat) }
def execEcho (p : Packet) (s : State) : Host.Outcome State Fault Refusal := .next (s.command p 0x70 echoBody)

/-! ### Transactions (R445 to R451) -/

/-- The next identifier in rotation from 1 to 4,095, and the first that is free from a given one on (R445). -/
def idAfter (i : Nat) : Nat := if 4095 ≤ i then 1 else i + 1
def State.freeId (s : State) : Nat → Nat → Nat
  | 0, i => i
  | n + 1, i => if s.cmd.txns.any (fun t => !t.implicit && t.id == i) then s.freeId n (idAfter i) else i

/-- TXN_BEGIN. -/
def beginBody (s : State) (p : Packet) : Done :=
  let seat := p.sender.val
  let others := s.cmd.txns.filter (fun t => !t.implicit)
  if 64 ≤ others.length ∨ 16 ≤ (others.filter (fun t => t.seat == seat)).length then .refuse .busy {}
  else
    let id := s.freeId 64 (s.rd F.CMD_TXN_STATUS_NEXT_ID)
    let us := p.parameter.toNat % 65536
    let t : Txn :=
      { id := id, seat := seat, implicit := false, words := [], entries := [], order := [],
        prepUs := if us = 0 then s.rd F.CMD_TXN_CFG_PREP_US else us, lastCmd := s.now, phase := .staging, action := 0, timed := none,
        waiting := none }
    let s := s.setCmd (fun c => { c with
      txns := c.txns ++ [t]
      rolledBack := c.rolledBack.filter (fun x => x.1 != id), committed := c.committed.filter (fun x => x.1 != id) })
    .ok ((s.wr F.CMD_TXN_STATUS_NEXT_ID 0 (s.freeId 64 (idAfter id))).showSeat seat) .ok { txn := some id }
def execTxnBegin (p : Packet) (s : State) : Host.Outcome State Fault Refusal := .next (s.command p 0x10 beginBody)

/-- Prepare begins: the transaction takes an action identifier (R448 step 1). -/
def State.beginPrepare (s : State) (t : Txn) (p : Packet) (timed : Option TimedCommit) : State :=
  let id := s.syn.nextAction
  (s.putTxn { t with phase := .preparing (s.now + t.prepUs * 800) (prepUnits t.words t.entries) [] s.now, action := id, timed := timed,
                     waiting := some p, lastCmd := s.now }).setSyn Syn.takeId
    |>.setTbl (fun x => x.stageRows t.id s.now t.entries)

/-- TXN_COMMIT: the reply follows the commit or the roll-back. -/
def commitBody (s : State) (p : Packet) : Done :=
  match s.stagingTxn p.sender.val p.txn.toNat with
  | .error e => .refuse e {}
  | .ok t => .wait (s.beginPrepare t p none)
def execTxnCommit (p : Packet) (s : State) : Host.Outcome State Fault Refusal := .next (s.command p 0x11 commitBody)

/-- TXN_COMMIT_AT (R450): the reply follows the prepare. -/
def commitAtBody (s : State) (p : Packet) : Done :=
  let w := fun (i : Nat) => (p.data.getD i 0).toNat
  let raw := bit p.parameter.toNat 0
  let lateOk := bit p.flags.toNat 1
  let due := dueOf raw (w 0) (w 1) (w 2)
  let come := s.reached raw due
  let checked : Except Status Txn := do
    let t ← s.stagingTxn p.sender.val p.txn.toNat
    need (dueNsOk raw (w 2)) .badAddress
    need (raw || s.epoch != 0) .notPermitted
    need (!come || lateOk) .timePast
    need (decide (s.syn.actions.length < 256)) .tableFull
    pure t
  match checked with
  | .error e => .refuse e {}
  | .ok t =>
    let origin := ((s.flightOf p).map (fun f => f.origin)).getD .window
    let a : Action := { id := s.syn.nextAction, seat := p.sender.val, kind := .commit t.id, lateOk := lateOk, raw := raw, due := due,
                        accepted := s.now, lateAt := none }
    let s := s.setActions (s.syn.actions ++ [a])
    .wait (s.beginPrepare t p (some ⟨due, raw, lateOk, come, p, origin⟩))
def execTxnCommitAt (p : Packet) (s : State) : Host.Outcome State Fault Refusal := .next (s.command p 0x13 commitAtBody)

/-- TXN_ROLLBACK: before the commit tick is reached; in or after it the reply carries that tick (R451). -/
def rollbackBody (s : State) (p : Packet) : Done :=
  let seat := p.sender.val
  let id := p.txn.toNat
  let tick := fun (t : Nat) => [t % 2 ^ 32, t / 2 ^ 32]
  match s.openTxn seat id true with
  | .ok t => if s.commitsNow t then .refuse .notPermitted { data := tick s.now } else .ok (s.rollBack t 0 0) .ok {}
  | .error e =>
    match s.cmd.committed.find? (fun x => x.1 == id) with
    | some x => if x.2.1 = seat ∨ seat = 0 then .refuse .notPermitted { data := tick x.2.2 } else .refuse .notOwner {}
    | none => .refuse e {}
def execTxnRollback (p : Packet) (s : State) : Host.Outcome State Fault Refusal := .next (s.command p 0x12 rollbackBody)

/-! ### Tables: writes (R150, R151, R168, R172, R176, R188) -/

/-- The table and the index of a packet (DEDUCED, log 24). -/
def tabOf (p : Packet) : Nat := p.address.toNat / 2 ^ 24
def indexOf (p : Packet) : Nat := p.address.toNat % 2 ^ 24
def dataOf (p : Packet) : List Nat := p.data.map (fun w => w.toNat)

/-- R168: a result word names what the seat holds. -/
def State.resultMine (s : State) (seat w : Nat) : Bool :=
  match w / 2 ^ 30 with
  | 0 => s.ownsPort seat (w % 65536)
  | 1 => s.inRegion seat 4 (w % 65536)
  | _ => true
/-- The result word of the entry of a keyed table that a packet names, if it has one. -/
def State.keyedResult (s : State) (p : Packet) : Option Nat :=
  let w := dataOf p
  if tabOf p = 3 then
    let e := prefixOf w
    (s.tbl.prefixes.find? (fun x => x.version == e.version && x.len == e.len && x.addr == e.addr)).map (fun x => x.result)
  else (s.emKey (tabOf p - 1) (emOf (tabOf p - 1) w).key).map (fun e => e.result)

/-- R176, R188: the key and the result of a keyed descriptor hold. -/
def keyedForm (p : Packet) (del : Bool) : Bool :=
  let w := dataOf p
  let version := w.getD 0 0 % 256
  let res := del || resultOk (w.getD (if tabOf p = 1 then 3 else 5) 0)
  match tabOf p with
  | 1 => res
  | 2 => res && (version == 6 || (version == 4 && w.getD 1 0 == 0 && w.getD 2 0 == 0 && w.getD 3 0 == 0))
  | _ =>
    let e := prefixOf w
    let width := if version = 4 then 32 else 128
    res && (version == 6 || version == 4) && decide (e.len ≤ width) && decide (e.addr < 2 ^ width)
      && e.addr % 2 ^ (width - e.len) == 0

/-- A write of a keyed table: it joins the table's software queue, and its reply follows its slot. -/
def State.keyedWrite (s : State) (p : Packet) (del : Bool) : Done :=
  let seat := p.sender.val
  let old := s.keyedResult p
  let touches := del || bit ((dataOf p).getD 0 0) 31
  let checked : Except Status Unit := do
    need (seat == 0 || s.on F.CMD_SEAT_CTRL_KEYED_EN seat) .notOwner
    need (del || seat == 0 || s.resultMine seat ((dataOf p).getD (if tabOf p = 1 then 3 else 5) 0)) .notOwner
    need (seat == 0 || !touches || (match old with | some r => s.resultMine seat r | none => true)) .notOwner
    need (p.txn.toNat == 0) .notPermitted
    need (keyedForm p del) .badAddress
    need (decide ((s.tbl.soft.filter (fun o => o.table == tabOf p)).length < 64)) .busy
  match checked with
  | .error e => .refuse e {}
  | .ok _ => .wait (s.setTbl (fun t => { t with soft := t.soft ++ [⟨tabOf p, p, s.now⟩] }))

/-- A write of an indexed table. -/
def State.indexedWrite (s : State) (p : Packet) (size : Nat) (del : Bool) : Done :=
  let seat := p.sender.val
  let id := p.txn.toNat
  let e : StagedEntry := ⟨tabOf p, indexOf p, !del, if del then [] else dataOf p⟩
  let checked : Except Status (Option Txn) := do
    need (decide (e.index < size)) .badAddress
    need (s.inRegion seat e.table e.index) .notOwner
    let t ← if id = 0 then pure none else (s.stagingTxn seat id).map some
    need (!(e.table == 0x05 && id != 0)) .notPermitted
    need (!s.entryHeld id e.table e.index) .txnConflict
    s.entryOk id e
    need (e.table != 0x05 || decide ((s.tbl.soft.filter (fun o => o.table == 5)).length < 64)) .busy
    pure t
  let s := s.touchTxn id
  match checked with
  | .error st => s.refused st
  | .ok (some t) =>
    match t.stageEntry e with
    | .error st => .refuse st {}
    | .ok t => .ok (s.putTxn { t with lastCmd := s.now }) .ok {}
  | .ok none =>
    if e.table = 0x05 then .wait (s.setTbl (fun t => { t with soft := t.soft ++ [⟨5, p, s.now⟩] }))
    else if tabClassS e.table then .wait (s.implicitTxn seat [] [e] (some p))
    else .ok ((s.applyEntry e).extendD (if del then 2 else 1) seat 0 p.address.toNat Config.tableMask e.words) .ok {}

/-- A delete of an entry of a fragment table: port group, set and way (R163) (DEDUCED, log 24). -/
def State.fragDelete (s : State) (p : Packet) : Done :=
  let i := indexOf p
  let here := fun (x : Frag) => x.group == i / 1024 && x.set == i / 4 % 256 && x.way == i % 4
  if 16384 ≤ i then .refuse .badAddress {}
  else if p.sender.val ≠ 0 then .refuse .notOwner {}
  else if p.txn.toNat ≠ 0 then .refuse .notPermitted {}
  else
    let s := s.setFwd (fun w => { w with frags := w.frags.filter (fun x => !here x) })
    .ok (s.extendD 2 0 0 p.address.toNat Config.tableMask []) .ok {}

/-- TABLE_INSERT and TABLE_DELETE. -/
def State.tableWrite (s : State) (p : Packet) (del : Bool) : Done :=
  if keyed (tabOf p) then s.keyedWrite p del
  else match tabSize (tabOf p) with
    | none => .refuse .badAddress {}
    | some size =>
      if tabOf p = 0x24 then .refuse .notPermitted {}
      else if tabOf p = 0x11 then (if del then s.fragDelete p else .refuse .notPermitted {})
      else s.indexedWrite p size del
def insertBody (s : State) (p : Packet) : Done := s.tableWrite p false
def execTableInsert (p : Packet) (s : State) : Host.Outcome State Fault Refusal := .next (s.command p 0x20 insertBody)
def deleteBody (s : State) (p : Packet) : Done := s.tableWrite p true
def execTableDelete (p : Packet) (s : State) : Host.Outcome State Fault Refusal := .next (s.command p 0x21 deleteBody)

/-! ### Tables: reads (R153, R176, R177, R238, R239, R253) -/

/-- Words 1 and 2 of a lookup of an exact-match entry (R176). -/
def EmEntry.flags (e : EmEntry) : Nat :=
  b2n (e.table == 0 && e.static) + 2 * b2n e.pinned + 4 * b2n e.hit + 8 * b2n e.stale + 16 * b2n (e.table == 1 && e.ageEn)
def EmEntry.placeWord (e : EmEntry) : Nat :=
  match e.loc with
  | .stash n => 2 ^ 31 + n
  | .slot half bucket place => half * 2 ^ 30 + place * 2 ^ 28 + bucket
def ones32 : Nat := 0xFFFFFFFF

/-- The words of a number, most significant first. -/
def numWords (n v : Nat) : List Nat := (List.range n).map (fun i => v / 2 ^ (32 * (n - 1 - i)) % 2 ^ 32)

/-- The key words of an exact-match entry as its descriptor has them. -/
def EmEntry.descriptor (e : EmEntry) : List Nat :=
  if e.table = 0 then
    [b2n e.static * 2 ^ 30 + e.key / 2 ^ 48, e.key / 2 ^ 32 % 65536, e.key % 2 ^ 32, e.result]
  else [b2n e.ageEn * 2 ^ 30 + e.key / 2 ^ 128] ++ numWords 4 e.key ++ [e.result]

/-- A queue's status entry (R253). -/
def State.queueStatus (s : State) (q : Nat) : List Nat :=
  [s.queueCells q, (s.qsg.queue.filter (fun c => c.q == q)).length, s.qsg.hwm.get q 0, s.qsg.lastSoj.get q 0, s.qsg.maxSoj.get q 0]

/-- A fragment entry: version, addresses, PROTO and IP_ID as the key holds them, the action, and the hash (R157). -/
def Frag.words (x : Frag) : List Nat := x.key ++ numWords 3 x.dec.action ++ [x.dec.hash]

/-- The entry in force at an index. -/
def State.entryWords (s : State) (t i : Nat) : List Nat :=
  let held := fun (l : List TabEntry) (d : List Nat) => (findEntry l t i).getD d
  match t with
  | 0x04 => held s.tbl.cur [0]
  | 0x05 => held s.tbl.live [0]
  | 0x06 => held s.tbl.cur [0x20000]
  | 0x10 => held s.tbl.cur (List.replicate 24 0)
  | 0x11 => ((s.fwd.frags.find? (fun x => x.group == i / 1024 && x.set == i / 4 % 256 && x.way == i % 4 && s.fragLive x)).map Frag.words).getD []
  | 0x20 => held s.tbl.live (List.replicate 5 0)
  | 0x21 => held s.tbl.live [0, 0]
  | 0x22 => held s.tbl.cur [0, 0] ++ [b2n (s.qsg.blocked.contains i)]
  | 0x23 =>
    let m := s.meter i
    held s.tbl.live (List.replicate 5 0) ++ [m.c / 400000, m.e / 400000, b2n m.allRed]
  | 0x24 => s.queueStatus i
  | _ => []

/-- R253: the highest depth and sojourn of a queue start again; what the present tick gives them counts after it (R10). -/
def State.clearQueueStatus (s : State) (q : Nat) : State :=
  s.setQsg (fun x => { x with hwm := x.hwm.put q 0 0, maxSoj := x.maxSoj.put q 0 0 })

/-- TABLE_LOOKUP, after classes 1 to 6 of its tick (R31) (DEDUCED, log 24). -/
def lookupBody (s : State) (p : Packet) : Done :=
  let s := s.caughtUp
  let t := tabOf p
  let w := dataOf p
  if t = 1 ∨ t = 2 then
    if t = 2 ∧ !(keyedForm p true) then .refuse .badAddress {}
    else .ok s .ok { data := match (if s.on F.TBL_EM_CTRL_ENABLE (t - 1) then s.emKey (t - 1) (emOf (t - 1) w).key else none) with
      | some e => [e.result, e.flags, e.placeWord]
      | none => [ones32, ones32, ones32] }
  else if t = 3 then
    if !(keyedForm p true) then .refuse .badAddress {}
    else .ok s .ok { data := [(s.keyedResult p).getD ones32] }
  else match tabSize t with
    | none => .refuse .badAddress {}
    | some size =>
      if t = 0x10 then
        if 16 < p.parameter.toNat then .refuse .badAddress {}
        else
          let rows := s.tbl.cur.filter (fun e => e.table == 0x10)
          .ok s .ok { data := [((rowFind rows (wordsNat w) p.parameter.toNat).map (fun e => e.index)).getD ones32] }
      else if size ≤ indexOf p then .refuse .badAddress {}
      else
        let t' := if t = 0x24 ∧ bit p.parameter.toNat 0 then s.clearQueueStatus (indexOf p) else s
        .ok t' .ok { data := s.entryWords t (indexOf p) }
def execTableLookup (p : Packet) (s : State) : Host.Outcome State Fault Refusal := .next (s.command p 0x22 lookupBody)

/-- Places of a table for TABLE_DUMP. -/
def dumpSize (t : Nat) : Option Nat :=
  match t with
  | 1 => some (8 * 65536 + 64) | 2 => some (8 * 131072 + 64) | 3 => some 262144 | t => tabSize t
/-- One place of a table as a dump gives it: exact-match places as descriptor, flags and place, or all ones (DEDUCED, log 24). -/
def State.dumpWords (s : State) (t i : Nat) : List Nat :=
  if t = 1 ∨ t = 2 then
    match s.tbl.em.find? (fun e => e.table + 1 == t && e.loc.index (t - 1) == i) with
    | some e => e.descriptor ++ [e.flags, e.placeWord]
    | none => List.replicate (if t = 1 then 6 else 8) ones32
  else if t = 3 then
    match s.tbl.prefixes[i]? with
    | some e => [e.len * 256 + e.version] ++ numWords 4 e.addr ++ [e.result]
    | none => List.replicate 6 ones32
  else s.entryWords t i

/-- TABLE_DUMP: entries of a range, each table's in the words of its lookup or descriptor; those of R177 after the two values of
EM_MOVE_SEQ (DEDUCED, log 24). -/
def dumpBody (s : State) (p : Packet) : Done :=
  let s := s.caughtUp
  let t := tabOf p
  let n := p.parameter.toNat
  match dumpSize t with
  | none => .refuse .badAddress {}
  | some size =>
    if n = 0 ∨ 1019 < n ∨ size < indexOf p + n then .refuse .badAddress {}
    else
      let moves := if t = 1 ∨ t = 2 then
          [s.rd F.TBL_EM_MOVE_SEQ_VALUE (t - 1), s.rd F.TBL_EM_MOVE_SEQ_VALUE (t - 1)] else []
      let l := moves ++ (List.range n).flatMap (fun i => s.dumpWords t (indexOf p + i))
      if 1019 < l.length then .refuse .badAddress {} else .ok s .ok { data := l }
def execTableDump (p : Packet) (s : State) : Host.Outcome State Fault Refusal := .next (s.command p 0x23 dumpBody)

end Sys2Proof.Machine
end

