-- ==== Sys2Proof/Machine/Drafen.lean ====
section
/-! DEFINITION. The Drafen command processor (chapter 17): the issue of microwords, routines and their order, the journal and the
effect engine, microcode faults, and the take-over. -/

namespace Sys2Proof.Machine

def State.setDrafen (s : State) (f : Drafen → Drafen) : State := { s with drafen := f s.drafen }
def State.setCore (s : State) (k : Nat) (f : DrafenCore → DrafenCore) : State := s.setDrafen (fun d => { d with cores := upd d.cores k f })
def State.core (s : State) (k : Nat) : DrafenCore := nth s.drafen.cores k {}
def State.setRoutine (s : State) (f : Routine → Routine) : State := s.setDrafen (fun d => { d with routine := d.routine.map f })
/-- The active core, if there is one. -/
def State.activeCore (s : State) : Option Nat := [0, 1].find? (fun k => s.rd (coreFld k) == 0)

/-! ### Fields of a microword and of a nanoword (R457, R460) -/

def mwNano (w : Nat) : Nat := bits w 31 21
def mwNext (w : Nat) : Nat := bits w 20 8
def mwCond (w : Nat) : Nat := bits w 7 3
def mwCommit (w : Nat) : Bool := bit w 2
def mwSeq (w : Nat) : Nat := bits w 1 0

def nwImm (w : Nat) : Nat := bits w 191 128
def nwAlu (w : Nat) : Nat := bits w 127 122
def nwSrcA (w : Nat) : Nat := bits w 121 116
def nwSrcB (w : Nat) : Nat := bits w 115 110
def nwBImm (w : Nat) : Bool := bit w 109
def nwDst (w : Nat) : Nat := bits w 108 103
def nwDstEn (w : Nat) : Bool := bit w 102
def nwFlagsEn (w : Nat) : Bool := bit w 101
def nwBusOp (w : Nat) : Nat := bits w 95 88
def nwBusAddr (w : Nat) : Nat := bits w 87 82
def nwBusData (w : Nat) : Nat := bits w 81 76
def nwBusDst (w : Nat) : Nat := bits w 75 70
def nwUnit (w : Nat) : Nat := bits w 69 65
def nwWait (w : Nat) : Bool := bit w 64
def nwLoopVal (w : Nat) : Nat := bits w 63 48
def nwLoopLd (w : Nat) : Bool := bit w 47
def nwCall (w : Nat) : Nat := bits w 46 34

/-! ### The ALU (R461) -/

/-- The bytes of a 32-bit word reversed. -/
def swap32 (v : Nat) : Nat := leNat (be 4 v)
/-- Leading zeros of a 64-bit value. -/
def clz64 (v : Nat) : Nat := if v = 0 then 64 else 63 - Nat.log2 v
/-- The result of a code on A and B; none for a reserved code. -/
def aluResult (code a b : Nat) : Option Nat :=
  let m := 2 ^ 64
  match code with
  | 0 => some a
  | 1 => some ((a + b) % m)
  | 2 => some ((a + m - b) % m)
  | 3 => some (a &&& b)
  | 4 => some (a ||| b)
  | 5 => some (a ^^^ b)
  | 6 => some (a * 2 ^ (b % 64) % m)
  | 7 => some (a / 2 ^ (b % 64))
  | 8 => some (ofS 64 (Int.fdiv (toS 64 a) ((2 ^ (b % 64) : Nat) : Int)))
  | 9 => some ((a + m - b) % m)
  | 10 => some (min a b)
  | 11 => some (max a b)
  | 12 => some (swap32 (a % 2 ^ 32))
  | 13 => some (clz64 a)
  | 63 => some 0
  | _ => none

/-- The nanoword's ALU operation, flags and loop load in a core. The carry of code 1 is that of the sum; the spec gives C of no other
code, and it is a free value there (DESIGN CHOICE, log 7). -/
def State.aluStep (s : State) (k nw : Nat) : State :=
  let c := s.core k
  let a := c.g.get (nwSrcA nw) 0
  let b := if nwBImm nw then nwImm nw else c.g.get (nwSrcB nw) 0
  let code := nwAlu nw
  let r := (aluResult code a b).getD 0
  let flags := nwFlagsEn nw && code != 63
  let (carry, s) :=
    if !flags then (c.c, s)
    else if code = 1 then (decide (2 ^ 64 ≤ a + b), s)
    else let (v, t) := s.fresh; (v % 2 == 1, t)
  s.setCore k (fun c => { c with
    g := if nwDstEn nw && code != 9 && code != 63 then c.g.put (nwDst nw) r 0 else c.g
    z := if flags then r == 0 else c.z
    n := if flags then bit r 63 else c.n
    c := carry
    loop := if nwLoopLd nw then nwLoopVal nw else c.loop })

/-! ### Requests (R463) -/

/-- The longest reply of a packet fits (R443, R459). -/
def State.replyRoom (s : State) (p : Packet) : Bool :=
  match s.flightOf p with
  | some f => f.origin != .window || s.fifoRoom p.sender.val (longestReply p)
  | none => true
/-- The command that level 3 gives: the seats in rotation after the one served last. -/
def State.seatRequest (s : State) : Option Request :=
  let order := (List.range 4).map (fun i => (s.drafen.lastSeat + 1 + i) % 4)
  order.findSome? (fun e =>
    (s.cmd.flights.find? (fun f => f.packet.sender.val == e && !f.parked && s.mayStart f)).map (fun f => ⟨3, e, some f.packet⟩))
/-- The waiting request of the lowest level. -/
def State.nextRequest (s : State) : Option Request :=
  match sortBy (fun (a b : Request) => decide (a.level ≤ b.level)) s.drafen.requests with
  | r :: _ => some r
  | [] => s.seatRequest

/-- A routine starts at a microword, on the active core. -/
def State.startRoutine (s : State) (q : Request) (entry : Nat) : State :=
  let before := ((s.drafen.abandoned.find? (fun x => x.1 == q)).map (fun x => x.2)).getD 0
  let r : Routine :=
    { req := q, start := entry, past := false, abandons := before, ucodeFaults := 0, cycles := 0, effects := [], reads := [],
      received := 0, replay := none, wordPos := 0, busDone := false, busErr := none, poolOk := false, poolFail := false, allocs := [] }
  let s := s.setDrafen (fun d => { d with
    requests := d.requests.erase q, routine := some r, bus := none, lastSeat := if q.level = 3 then q.seat else d.lastSeat })
  let s := match s.activeCore with
    | some k => s.setCore k (fun c => { c with pc := entry, stack := [] })
    | none => s
  s.bump 16 12 q.level

/-- The buffers that a routine has allocated are freed, with Drafen's owner code (R199, R462); a buffer is named by pool × 65,536 + place
(DESIGN CHOICE, log 89). -/
def State.freeAllocs (s : State) (l : List Nat) : State := l.foldl (fun s h => s.ctlFree (h / 65536) (h % 65536) 2) s

/-- An abandonment is counted; the fourth in a row makes the routine PROTECTED (R464). -/
def State.countAbandon (s : State) (n : Nat) : State :=
  let s := s.bump 16 13
  if n = 4 then s.raiseBits F.CMD_INT_STATUS_PROTECTED 0 1 else s

/-- R464: the running routine is abandoned; its request waits again. -/
def State.abandon (s : State) (r : Routine) : State :=
  let n := min 15 (r.abandons + 1)
  (s.freeAllocs r.allocs).countAbandon n |>.setDrafen (fun d => { d with
    routine := none, bus := none
    requests := if r.req.level = 3 then d.requests else r.req :: d.requests
    abandoned := (r.req, n) :: d.abandoned.filter (fun x => x.1 != r.req) })

/-- ROUTINE_DISPATCH (R463, R464): the core takes the waiting request of the lowest level, at the entry that the image gives it; a
routine of a higher level is abandoned for it where that is allowed. `asks` is the level of an internal request that has arrived. -/
def execRoutineDispatch (entry : BitVec 13) (asks : Option (Fin 3)) (s : State) : Host.Outcome State Fault Refusal :=
  .next (s.when s.ready (fun s =>
    let s := match asks with | some l => s.askDrafen l.val | none => s
    match s.nextRequest with
    | none => s
    | some q =>
      match s.drafen.routine with
      | none => s.startRoutine q entry.toNat
      | some r =>
        if q.level < r.req.level ∧ !r.past ∧ (r.abandons < 4 ∨ q.level = 0) then (s.abandon r).startRoutine q entry.toNat else s))

/-! ### Microcode faults (R468) -/

/-- CMD.LAST_FAULT is filled if it is empty. -/
def State.logFault (s : State) (addr cause : Nat) : State :=
  let s := (s.raiseBits F.CMD_INT_STATUS_UCODE_FAULT 0 1).bump 16 16
  if s.on F.CMD_LAST_FAULT_VALID then s
  else ((s.wr F.CMD_LAST_FAULT_ADDR 0 addr).wr F.CMD_LAST_FAULT_CAUSE 0 cause).raiseBits F.CMD_LAST_FAULT_VALID 0 1

/-- The core goes back to the idle loop, at address 0 (R472). -/
def State.toIdle (s : State) (k : Nat) : State :=
  (s.setDrafen (fun d => { d with routine := none, bus := none })).setCore k (fun c => { c with pc := 0, stack := [] })

/-- The command of a routine waits without being run again (R463). -/
def State.parkPacket (s : State) (p : Option Packet) : State :=
  match p with
  | some p => s.setCmd (fun c => { c with flights := c.flights.map (fun f => if f.packet = p then { f with parked := true } else f) })
  | none => s

/-- A microcode fault of core k at a microword: the first before the commit point abandons the routine and restarts it. What a command has
released past it stands, and it is not run again. -/
def State.microFault (s : State) (k addr cause : Nat) : State :=
  let s := s.logFault addr cause
  match s.drafen.routine with
  | none => s.toIdle k
  | some r =>
    if r.past then ((s.toIdle k).parkPacket r.req.packet).raiseFault 5 3 3 k addr
    else
      let s := s.freeAllocs r.allocs
      if r.ucodeFaults = 0 then
        let s := s.countAbandon (min 15 (r.abandons + 1))
        let s := (s.setDrafen (fun d => { d with bus := none })).setRoutine (fun r => { r with
          abandons := min 15 (r.abandons + 1), ucodeFaults := 1, cycles := 0, poolFail := false, effects := [], reads := [], received := 0, wordPos := 0, busDone := false, busErr := none,
          allocs := [] })
        s.setCore k (fun c => { c with pc := r.start, stack := [] })
      else
        let s := (s.toIdle k).raiseFault 5 2 1 k addr
        match r.req.packet with
        | some p => s.finish p .notPermitted { data := [0xDF000000 ||| addr] }
        | none => s

/-- ROUTINE_WATCHDOG: a routine that has run 64,000 cycles. -/
def execRoutineWatchdog (s : State) : Host.Outcome State Fault Refusal :=
  .next (s.when s.ready (fun s =>
    match s.drafen.routine, s.activeCore with
    | some r, some k => if 64000 ≤ r.cycles then s.microFault k (s.core k).pc 4 else s
    | _, _ => s))

/-! ### The journal and the bus (R462, R465, R466) -/

/-- An effect is entered; one that a replay has already had applied is dropped (R470). None when the journal is full. -/
def State.enterEffect (s : State) (e : Effect) : Option State :=
  match s.drafen.routine with
  | none => some s
  | some r =>
    match r.replay with
    | some (i, j) =>
      if j < r.received then some (s.setRoutine (fun r => { r with replay := some (i, j + 1) }))
      else if 256 ≤ r.effects.length then none
      else some ((s.setRoutine (fun r => { r with
          effects := r.effects ++ [e], received := r.received + 1, replay := some (i, j + 1) })).setDrafen (fun d => { d with
        released := d.released ++ [(e, r.req.packet)] }))
    | none =>
      if 256 ≤ r.effects.length then none
      else
        let s := s.setRoutine (fun r => { r with effects := r.effects ++ [e], received := if r.past then r.received + 1 else r.received })
        some (if r.past then s.setDrafen (fun d => { d with released := d.released ++ [(e, r.req.packet)] }) else s)

/-- The commit point: every effect entered so far is released. -/
def State.commitPoint (s : State) : State :=
  match s.drafen.routine with
  | none => s
  | some r =>
    if r.past then s
    else (s.setRoutine (fun r => { r with past := true, received := r.effects.length })).setDrafen (fun d => { d with
      released := d.released ++ r.effects.map (fun e => (e, r.req.packet)) })

/-- A register of the core receives data. -/
def State.toReg (s : State) (k n v : Nat) : State := s.setCore k (fun c => { c with g := c.g.put n (v % 2 ^ 64) 0 })
/-- The bus operation has completed, or was refused with a status in G62[7:0]. -/
def State.busEnd (s : State) (k : Nat) (err : Option Nat) : State :=
  let s := s.setRoutine (fun r => { r with busDone := true, busErr := err })
  match err with
  | some e => s.setCore k (fun c => { c with g := c.g.put 62 (c.g.get 62 0 / 256 * 256 + e % 256) 0 })
  | none => s

/-- A read for the journal: the journalled result in replay, else the value read, which is entered. None when it is full. -/
def State.journalRead (s : State) (k dst : Nat) (read : State → Except Status (Nat × State)) : Option State :=
  let live : Option State := match read s with
    | .error e => some (s.busEnd k (some e.code))
    | .ok (v, t) =>
      let full := match t.drafen.routine with | some r => decide (256 ≤ r.reads.length) | none => false
      if full then none else some (((t.setRoutine (fun r => { r with reads := r.reads ++ [v] })).toReg k dst v).busEnd k none)
  match s.drafen.routine with
  | some r =>
    (match r.replay with
     | some (i, j) =>
       if i < r.reads.length then
         some (((s.setRoutine (fun r => { r with replay := some (i + 1, j) })).toReg k dst (r.reads.getD i 0)).busEnd k none)
       else live
     | none => live)
  | none => live

/-- R466: a REG_READ before the commit point clears nothing; the clear is an effect. -/
def State.regRead (s : State) (k addr dst : Nat) : Option State :=
  let past := match s.drafen.routine with | some r => r.past | none => true
  let rc := match findReg addr with | some (r, _) => r.fields.any (fun d => d.acc == .rc) | none => false
  let s := s.caughtUp
  if past || !rc then s.journalRead k dst (fun s => s.readWord 0 addr)
  else
    let v := s.wordAt addr
    match s.journalRead k dst (fun s => .ok (s.wordAt addr, s)) with
    | none => none
    | some t => t.enterEffect (.rcClear addr v)

/-- A bus operation completes: `data` is what an engine read port gives. None for a full journal. -/
def State.busComplete (s : State) (k op addr dst : Nat) (data : Nat) : Option State :=
  match op with
  | 1 => s.regRead k (addr % 2 ^ 32) dst
  | 3 => s.journalRead k dst (fun s => .ok (data, s))
  | 5 =>
    let n := match s.drafen.routine with | some r => r.wordPos | none => 0
    let w := match s.drafen.routine with
      | some r => (match r.req.packet with | some p => packetWords p | none => [])
      | none => []
    some (((s.setRoutine (fun r => { r with wordPos := r.wordPos + 1 })).toReg k dst (w.getD n 0)).busEnd k none)
  | 12 =>
    let (t, b) := s.ctlAlloc addr 2
    match b with
    | some b => some ((((t.setRoutine (fun r => { r with poolOk := true, allocs := (b.pool * 65536 + b.place) :: r.allocs })).toReg k dst
        (b.pool * 65536 + b.place))).busEnd k none)
    | none => some ((t.setRoutine (fun r => { r with poolOk := false, poolFail := true })).busEnd k none)
  | _ => some (s.busEnd k none)

/-- Words fed to Check Engine 0 or 1, as G61[0] selects (R417, R462) (DEDUCED, log 47). -/
def State.feedCheck (s : State) (k data : Nat) : State :=
  let e := (s.core k).g.get 61 0 % 2
  let f := (s.flow e).getD { engine := e, start := 0xFFFFFFFF, input := [], out := [], buf := none }
  s.setFlow { f with input := f.input ++ be 4 data }

/-- A bus operation issues (R462): an effect is entered; a read, an allocation and CMD_WORD wait for their completion. The code of a
microcode fault where there is one (DEDUCED, log 47). -/
def State.busIssue (s : State) (k nw : Nat) : Except Nat State :=
  let c := s.core k
  let addr := c.g.get (nwBusAddr nw) 0
  let data := c.g.get (nwBusData nw) 0
  let enter := fun (e : Effect) => match s.enterEffect e with
    | some t => Except.ok (t.busEnd k none)
    | none => Except.error 3
  match nwBusOp nw with
  | 0 => .ok s
  | 2 => enter (.regWrite (addr % 2 ^ 32) (data % 2 ^ 32) (nwImm nw % 2 ^ 32))
  | 6 => enter (.replyWord (data % 2 ^ 32))
  | 8 => .ok ((s.feedCheck k data).busEnd k none)
  | op =>
    if op = 1 ∨ op = 3 ∨ op = 5 ∨ op = 12 then
      .ok ((s.setRoutine (fun r => { r with busDone := false, busErr := none })).setDrafen (fun d => { d with
        bus := some (op, addr, nwBusDst nw, nwWait nw) }))
    else if op = 4 ∨ op = 7 ∨ op = 9 ∨ op = 10 ∨ op = 11 ∨ op = 13 then enter (.unit op (nwUnit nw) addr data)
    else .error 1

/-! ### Sequencing (R458, R459) -/

/-- The transaction in hand: the one that the current packet names. -/
def State.handTxn (s : State) : Option Txn :=
  match s.drafen.routine with
  | some r => (match r.req.packet with
    | some p => s.cmd.txns.find? (fun t => !t.implicit && t.id == p.txn.toNat)
    | none => none)
  | none => none

/-- The value of a condition in a core, and what testing it changes; none for a reserved code. -/
def State.condition (s : State) (k code : Nat) : Option (Bool × State) :=
  let c := s.core k
  let r := s.drafen.routine
  let chk := fun (f : Fld) => s.on f (c.g.get 61 0 % 2)
  match code with
  | 0 => some (false, s)
  | 1 => some (true, s)
  | 2 => some (c.z, s)
  | 3 => some (!c.z, s)
  | 4 => some (c.c, s)
  | 5 => some (!c.c, s)
  | 6 => some (c.n, s)
  | 7 =>
    let n := (c.loop + 65535) % 65536
    some (n != 0, s.setCore k (fun c => { c with loop := n }))
  | 8 => some ((r.map (fun r => r.busDone)).getD true, s)
  | 9 => some ((r.map (fun r => r.busErr.isSome)).getD false, s)
  | 10 => some (s.nextRequest.isSome, s)
  | 11 => some ((r.bind (fun r => r.req.packet.map (fun p => s.replyRoom p))).getD true, s)
  | 12 => some (s.handTxn.any (fun t => match t.phase with | .fixed _ => true | _ => false), s)
  | 13 => some (s.handTxn.any (fun t => match t.phase with | .preparing dl _ _ _ => decide (dl < s.now) | _ => false), s)
  | 14 => some (s.drafen.tickSeen != s.now, s.setDrafen (fun d => { d with tickSeen := s.now }))
  | 15 => some (chk F.CHK_STATUS_DONE, s)
  | 16 => some (chk F.CHK_STATUS_CHECK_FAIL, s)
  | 17 => some ((r.map (fun r => r.poolOk)).getD false, s)
  | 18 => some ((r.map (fun r => decide (r.effects.length ≤ 240))).getD true, s)
  | 19 => some ((r.map (fun r => decide (4 ≤ r.abandons))).getD false, s)
  | 20 => some ((r.map (fun r => r.replay.isSome)).getD false, s)
  | _ => none

/-- The next microword of a core: the address and what SEQ does to the return stack; the cause of a fault where there is one. -/
def State.sequence (s : State) (k mw nw : Nat) : Except Nat State :=
  let go := fun (s : State) (pc : Nat) (stack : List Nat) => Except.ok (s.setCore k (fun c => { c with pc := pc % 8192, stack := stack }))
  let stack := (s.core k).stack
  if mwSeq mw = 3 then
    let p := match s.drafen.routine with
      | some r => r.req.packet
      | none => s.nextRequest.bind (fun q => q.packet)
    go s (mwNext mw + (p.map (fun p => p.opcode.toNat)).getD 0) stack
  else match s.condition k (mwCond mw) with
    | none => .error 1
    | some (c, s) =>
      let target := mwNext mw ^^^ b2n c
      match mwSeq mw with
      | 0 => go s target stack
      | 1 => if 8 ≤ stack.length then .error 2 else go s (nwCall nw) (target :: stack)
      | _ =>
        if !c then go s (mwNext mw) stack
        else match stack with
          | [] => .error 2
          | t :: rest => go s t rest

/-- A routine ends: without a commit point its effects are discarded; a command whose reply is not among them is parked (R463, R465), or
answered with BUSY when an allocation for it has failed (R212). -/
def State.endRoutine (s : State) (r : Routine) : State :=
  let s := if r.past then s else s.freeAllocs r.allocs
  let replies := r.past && r.effects.any (fun e => match e with | .replyWord _ => true | _ => false)
  let s := s.setDrafen (fun d => { d with routine := none, bus := none, abandoned := d.abandoned.filter (fun x => x.1 != r.req) })
  match r.req.packet with
  | some p =>
    if replies then s
    else if r.poolFail then s.finish p .busy
    else s.parkPacket (some p)
  | none => s

/-- What remains of a replay: it ends past the last journalled entry (R470). -/
def State.replayEnds (s : State) : State :=
  s.setRoutine (fun r => match r.replay with
    | some (i, j) => if r.reads.length ≤ i ∧ r.received ≤ j then { r with replay := none } else r
    | none => r)

/-- One microword in the active core k. -/
def State.issue (s : State) (k : Nat) (done : Bool) (data : Nat) (idle : Bool) : State :=
  let pc := (s.core k).pc
  let mw := (s.core k).micro.get pc 0
  let nw := (s.core k).nano.get (mwNano mw) 0
  let s := s.setRoutine (fun r => { r with cycles := r.cycles + 1 })
  let last := fun (s : State) =>
    match s.sequence k mw nw with
    | .error cause => s.microFault k pc cause
    | .ok s =>
      let s := s.replayEnds
      match s.drafen.routine with
      | some r => if idle then s.endRoutine r else s
      | none => s
  let complete := fun (s : State) => match s.drafen.bus with
    | some (op, addr, dst, _) => (s.setDrafen (fun d => { d with bus := none })).busComplete k op addr dst data
    | none => some s
  let stalled := match s.drafen.bus with | some (_, _, _, w) => w | none => false
  if stalled then
    if !done then s.bump 16 14
    else match complete s with
      | some s => last s
      | none => s.microFault k pc 3
  else
    match (if done then complete s else some s) with
    | none => s.microFault k pc 3
    | some s =>
      if (aluResult (nwAlu nw) 0 0).isNone then s.microFault k pc 1
      else match s.busIssue k nw with
        | .error cause => s.microFault k pc cause
        | .ok s =>
          let s := s.aluStep k nw
          let s := if mwCommit mw then s.commitPoint else s
          if s.drafen.bus.isSome ∧ nwWait nw then
            if done then (match complete s with
              | some s => last s
              | none => s.microFault k pc 3)
            else s
          else last s

/-- MICROWORD_ISSUE (R456 to R462): the active core issues one microword. The operands tell what the hardware around the core gives in
this cycle: whether the bus operation in hand completes, what an engine read port gives for TBL_READ, whether a store or
register-file error was corrected (R469), and whether the next microword belongs to the image's idle loop. -/
def execMicrowordIssue (done : Bool) (data : DWord) (corrected idle : Bool) (s : State) : Host.Outcome State Fault Refusal :=
  .next (s.when s.ready (fun s =>
    match s.activeCore with
    | none => s
    | some k =>
      let s := if corrected then ((s.raiseBits F.CMD_INT_STATUS_STORE_CE 0 1).bump 16 17).raiseFault 5 1 0 k (s.core k).pc else s
      s.issue k done data.toNat idle))

/-! ### The effect engine (R465) -/

/-- R466: the returned value is taken from the read-to-clear fields of a register. -/
def State.subtractRc (s : State) (addr value : Nat) : State :=
  match findReg addr with
  | some (r, n) => r.fields.foldl (fun s d => if d.acc = .rc then s.wr d.fld n (s.rd d.fld n - d.fld.part value) else s) s
  | none => s

/-- A word of a reply: the reply is placed when it is whole (R428). -/
def State.gatherWord (s : State) (p : Option Packet) (w : Nat) : State :=
  let l := (if s.drafen.gatherFor = p then s.drafen.gathering else []) ++ [w]
  if l.length < l.getD 0 0 % 65536 then s.setDrafen (fun d => { d with gathering := l, gatherFor := p })
  else
    let s := s.setDrafen (fun d => { d with gathering := [], gatherFor := none })
    match p with
    | none => s
    | some p =>
      let origin := ((s.flightOf p).map (fun f => f.origin)).getD .window
      let s := s.setCmd (fun c => { c with flights := c.flights.filter (fun f => f.packet != p) })
      (s.place origin p.sender.val l).showSeat p.sender.val

/-- EFFECT_APPLY: the effect engine applies the oldest released effect. -/
def execEffectApply (s : State) : Host.Outcome State Fault Refusal :=
  .next (s.when s.live (fun s =>
    match s.drafen.released with
    | [] => s
    | (e, p) :: rest =>
      let s := s.setDrafen (fun d => { d with released := rest })
      match e with
      | .regWrite addr value mask =>
        (match s.writeDirect ((p.map (fun p => p.sender.val)).getD 0) [⟨addr, mask, value⟩] none with
         | .ok (t, _) => t
         | .error e => s.noteRefusal e)
      | .rcClear addr value => s.subtractRc addr value
      | .replyWord w => s.gatherWord p w
      | .unit op unit addr data =>
        let s := s.setDrafen (fun d => { d with delivered := d.delivered ++ [(op, unit, addr, data)] })
        if op = 13 then s.freeAllocs [addr] else s))

/-! ### Take-over (R469 to R471) -/

/-- The other core becomes active, and restarts the routine from its first microword (DEDUCED, log 49). -/
def State.handOver (s : State) (k : Nat) : State :=
  let s := (s.wr (coreFld k) 0 0).wr F.CMD_CORE_STATUS_ACTIVE_CORE 0 k
  let s := (s.raiseBits F.CMD_INT_STATUS_TAKEOVER 0 1).bump 16 18
  let s := s.wr2 F.CMD_TAKEOVER_TICK_LO_VALUE F.CMD_TAKEOVER_TICK_HI_VALUE 0 s.now
  let s := { s with chk := s.chk.filter (fun f => 2 ≤ f.engine) }
  let s := s.setDrafen (fun d => { d with bus := none, swapAsked := false })
  match s.drafen.routine with
  | none => s.setCore k (fun c => { c with pc := 0, stack := [] })
  | some r =>
    let s := if r.past then s.setRoutine (fun r => { r with replay := some (0, 0), wordPos := 0, busDone := false, busErr := none, cycles := 0 })
      else (s.freeAllocs r.allocs).setRoutine (fun r => { r with
        effects := [], reads := [], received := 0, wordPos := 0, busDone := false, busErr := none, poolFail := false, allocs := [], cycles := 0 })
    let s := s.setCore k (fun c => { c with pc := r.start, stack := [] })
    if r.past then s.bump 16 15 else s

/-- The active core k fails. -/
def State.coreFails (s : State) (k : Nat) : State :=
  let twice := (s.core k).failures.any (fun t => decide (s.now < t + 800000000))
  let s := s.setCore k (fun c => { c with failures := s.now :: c.failures.filter (fun t => decide (s.now < t + 800000000)) })
  let s := s.wr (coreFld k) 0 (if twice then 3 else 2)
  if s.rd (coreFld (1 - k)) = 1 then ((s.raiseFault 5 4 2 k (s.core k).pc).handOver (1 - k)).standbyLost
  else s.raiseFault 5 6 3 k (s.core k).pc

/-- CORE_TAKE_OVER: the active core faults (R469), or a planned take-over comes at a routine's end (R475) (DEDUCED, log 49). -/
def execCoreTakeOver (planned : Bool) (s : State) : Host.Outcome State Fault Refusal :=
  .next (s.when s.ready (fun s =>
    match s.activeCore with
    | none => s
    | some k =>
      if !planned then s.coreFails k
      else if s.drafen.swapAsked ∧ s.drafen.routine.isNone ∧ s.rd (coreFld (1 - k)) = 1 then (s.wr (coreFld k) 0 1).handOver (1 - k)
      else s))

/-- The latch of the lost standby is cleared (R471). -/
def State.standbyBack (s : State) : State :=
  (s.setMain (fun c => { c with latches := c.latches.filter (fun l => !(l.src == 5 && l.cause == 5)) })).showSource 5

/-- CORE_SELF_TEST_DONE (R471): a core that passes takes its stores from the active core and becomes standby. -/
def execCoreSelfTestDone (core : Fin 2) (pass : Bool) (s : State) : Host.Outcome State Fault Refusal :=
  let k := core.val
  .next (s.when (s.ready && s.rd (coreFld k) == 2) (fun s =>
    if !pass then s.wr (coreFld k) 0 3
    else match s.activeCore with
      | none => s
      | some a =>
        let c := s.core a
        ((s.setCore k (fun x => { x with micro := c.micro, nano := c.nano })).wr (coreFld k) 0 1).standbyBack))

end Sys2Proof.Machine
end

