-- ==== Sys2Proof/Machine/Reset.lean ====
section
/-! DEFINITION. Pins, power-up and reset (chapter 22): PORST_N, SYSRST_N and SW_RESET, the supply monitors, PERSTe_N and the PCIe
links, the SMBus target and the TAP. -/

namespace Sys2Proof.Machine

/-- The pins with a change. -/
def State.setPins (s : State) (f : Pins → Pins) : State := { s with pins := f s.pins }

/-! ### PORST_N (R550) -/

/-- What the VAUX domain holds: SYS.RESET_CAUSE, POOL[c].COUNT_NEXT and EVR.RING.NEXT_GIB (R559, R211, R345) (DEDUCED, log 54). -/
def inVaux (key : Nat) : Bool :=
  key / 32 == A.SYS_RESET_CAUSE || key == F.EVR_RING_NEXT_GIB.key 0 || (F.BUF_POOL_COUNT_NEXT_COUNT_NEXT.copy? key).isSome

/-- Every unit in the state that PORST_N gives it: the VAUX domain, the fuses, the TAP and the pins stay, and so do what waits
and the free values drawn (DEDUCED, log 54). -/
def State.coldReset (s : State) : State :=
  { State.reset with
    regs := s.regs.filter (fun kv => inVaux kv.1)
    idn := { ownerHash := s.idn.ownerHash, rollback := s.idn.rollback }
    pins := { porst := true, tripped := s.pins.tripped, perst := s.pins.perst, ir := s.pins.ir,
              boundary := s.pins.boundary, vid := s.pins.vid, drive := s.pins.drive }
    freeCount := s.freeCount, pending := s.pending }

/-- R559: a reset sets the bit of its cause. -/
def State.noteCause (s : State) (f : Fld) : State := s.wr f 0 1

/-- A power-on reset of either origin: a thermal trip that preceded it is told (R559). -/
def State.powerReset (s : State) (cause : Fld) : State :=
  let s := s.coldReset.noteCause cause
  if s.pins.tripped then s.noteCause F.SYS_RESET_CAUSE_THERMTRIP else s

/-- PORST_N_ASSERT (R550). -/
def execPorstNAssert (s : State) : Host.Outcome State Fault Refusal :=
  .next (s.powerReset F.SYS_RESET_CAUSE_PORST_PIN)

/-- SUPPLY_MONITOR_TRIP (R549): the internal power-on reset of a rail, by its place in R499. A trip of VAUX, the last, loses
RESET_CAUSE. -/
def execSupplyMonitorTrip (rail : Fin 7) (s : State) : Host.Outcome State Fault Refusal :=
  let s := (s.powerReset F.SYS_RESET_CAUSE_SUPPLY).wr F.SYS_RESET_CAUSE_SUPPLY_RAIL 0 rail.val
  .next (if rail.val = 6 then
      [F.SYS_RESET_CAUSE_PORST_PIN, F.SYS_RESET_CAUSE_SUPPLY, F.SYS_RESET_CAUSE_SYSRST_PIN, F.SYS_RESET_CAUSE_SW_RESET,
        F.SYS_RESET_CAUSE_THERMTRIP, F.SYS_RESET_CAUSE_SUPPLY_RAIL].foldl (fun s f => s.wr f 0 0) s
    else s)

/-- VAUX_POWER_UP (R559): RESET_CAUSE starts at 0, and PORST_N, asserted during the ramp, sets its bit; every other register of the
VAUX domain takes its reset value (R211, R345). The VID pins take the fused code (R547). -/
def execVauxPowerUp (s : State) : Host.Outcome State Fault Refusal :=
  let s := s.coldReset
  .next { s with regs := [], pins := { porst := true, perst := s.pins.perst, vid := Config.fusedVid % 21 } }

/-- R211: COUNT takes COUNT_NEXT, or the reset values where the pools would exceed 16 MiB (DEDUCED, log 28). -/
def State.loadPools (s : State) : State :=
  let size := fun (c : Nat) => 64 * 4 ^ c
  let next := fun (s : State) (c : Nat) => s.rd F.BUF_POOL_COUNT_NEXT_COUNT_NEXT c
  let over' := decide (16777216 < sumOf (List.range 4) (fun c => next s c * size c))
  let s := (List.range 4).foldl (fun s c =>
    let v := if over' then F.BUF_POOL_COUNT_COUNT.reset c else next s c
    (s.wr F.BUF_POOL_COUNT_COUNT c v).wr F.BUF_POOL_FREE_FREE c v) s
  if over' then s.raiseFault 30 6 0 else s

/-- The straps, the fuses and the counts that a start takes (DEDUCED, log 53). -/
def State.latchStart (s : State) (straps : Nat) : State :=
  let s := (s.wr F.SYS_STRAP_VALUE 0 straps).loadPools.wr F.EVR_RING_GIB 0 (s.rd F.EVR_RING_NEXT_GIB)
  let s := s.clampPins
  let s := if s.idn.ownerHash.isSome then s.wr F.IDN_STATUS_OWNER_EN 0 1 else s
  match s.idn.rollback with
  | some n => s.wr F.IDN_STATUS_ROLLBACK 0 n
  | none => s

/-- PORST_N_RELEASE: the straps are latched (R542), the fuses sensed (R522), COUNT and GIB take the values that wait for them (R211,
R345). `cool`: every sensor reads below 105 °C, which ends a thermal trip (R510). -/
def execPorstNRelease (straps : BitVec 8) (cool : Bool) (s : State) : Host.Outcome State Fault Refusal :=
  .next (if s.pins.porst then
      (s.when true (fun s => s.latchStart straps.toNat)).setPins (fun p =>
        { p with porst := false, sysrst := false, tripped := p.tripped && !cool, drive := .functional })
    else s)

/-! ### SYSRST_N (R551) -/

/-- Fields of the TSU that SYSRST_N keeps (R58) (DEDUCED, log 54). -/
def keptTsu : List Fld :=
  [F.TSU_ING_DELAY_VALUE, F.TSU_EGR_DELAY_VALUE, F.TSU_PORT_CFG_SPLIT, F.TSU_VAR_DESKEW_VALUE, F.TSU_PORT_STATUS_CALIBRATED,
   F.TSU_PORT_STATUS_CAL_STALE, F.TSU_PORT_STATUS_MODE, F.TSU_PORT_STATUS_CAL_TEMP]
/-- Fields of the buffer that SYSRST_N keeps (R220) (DEDUCED, log 54). -/
def keptBuf : List Fld :=
  [F.BUF_STATUS_ACTIVE_CELLS, F.BUF_SPARE_STATUS_SPARES_LEFT, F.BUF_SPARE_STATUS_MIGRATING, F.BUF_SPARE_STATUS_BANK,
   F.BUF_POOL_COUNT_NEXT_COUNT_NEXT]
/-- Fields of the Recorder that SYSRST_N keeps (R354) (DEDUCED, log 54). -/
def keptEvr : List Fld :=
  [F.EVR_STATUS_READY, F.EVR_STATUS_AGGREGATING, F.EVR_STATUS_GAP_OPEN, F.EVR_STATUS_SIGNERS, F.EVR_STAGING_USED_KIB,
   F.EVR_RING_NEXT_GIB, F.EVR_RING_GIB, F.EVR_PINNED_MIB, F.EVR_SIGN_STATUS_BACKLOG, F.EVR_SIGN_STATUS_CORES_OK,
   F.EVR_CHAIN_ID_LO_VALUE, F.EVR_CHAIN_ID_HI_VALUE, F.EVR_OPEN_NO_LO_VALUE, F.EVR_OPEN_NO_HI_VALUE, F.EVR_SIGNED_NO_LO_VALUE,
   F.EVR_SIGNED_NO_HI_VALUE, F.EVR_OLDEST_NO_LO_VALUE, F.EVR_OLDEST_NO_HI_VALUE]
/-- Fields of the command block that SYSRST_N keeps: the standing of the cores and of the image (R473), and the links (R453) (DEDUCED, log 54). -/
def keptCmd : List Fld :=
  [F.CMD_CORE_STATUS_ACTIVE_CORE, F.CMD_CORE_STATUS_CORE0, F.CMD_CORE_STATUS_CORE1, F.CMD_IMAGE_STATUS_VERSION,
   F.CMD_IMAGE_STATUS_OWNER_SIGNED, F.CMD_SEAT_STATUS_LINK_UP]
/-- PLL lock of the port groups (R400) (DEDUCED, log 54). -/
def keptLan : List Fld := [F.LAN_GRP_STATUS_REF_OK, F.LAN_GRP_STATUS_PLL_LOCK]

/-- A place of the register store is a copy of one of these fields. -/
def copyOf (l : List Fld) (key : Nat) : Bool := l.any (fun f => (f.copy? key).isSome)
/-- A place of the register store that holds a field of a given kind of access. -/
def accOf (key : Nat) : Option Acc :=
  match findReg (key / 32) with
  | some (r, _) => (r.fields.find? (fun d => d.fld.lsb == key % 32)).map (fun d => d.acc)
  | none => none

/-- R551: what SYSRST_N keeps of the register at a place of the store (DEDUCED, log 54). -/
def keptBySysrst (key : Nat) : Bool :=
  match unitOf (key / 32) with
  | 0 => !(key / 32 == A.SYS_CFG_GEN || key / 32 == A.SYS_CFG_GEN_TICK_LO || key / 32 == A.SYS_CFG_GEN_TICK_HI)
  | 1 => true
  | 3 => copyOf keptTsu key
  | 7 => copyOf keptBuf key
  | 12 => copyOf keptEvr key
  | 13 => accOf key == some .ro
  | 14 => copyOf keptLan key
  | 17 => copyOf keptCmd key
  | 18 => accOf key != some .rw
  | 20 => true
  | 21 => true
  | _ => false

/-- Every copy held on die or in a spill segment, with the counter that its own unit keeps of the discard (R220, R276, R294) (DEDUCED, log 38). -/
def State.copiesHeld (s : State) : List (Copy × Option (Nat × Nat × Nat)) :=
  s.qsg.queue.map (fun c => (c, none)) ++ s.qsg.held.map (fun h => (h.copy, some (9, 8, h.k)))
    ++ s.qsg.seq.map (fun x => (x.copy, some (10, 10, x.inst)))
    ++ s.qsg.txs.filterMap (fun t => t.copy.map (fun c => (c, none))) ++ s.csma.retry.toList.map (fun c => (c, none))

/-- R220, R138: the copies are counted as RESET_DISCARD, and the frames of the ingress FIFOs as INGRESS_OVERRUN (DEDUCED, log 38). -/
def State.countDiscards (s : State) : State :=
  let l := s.copiesHeld
  let s := l.foldl (fun s x =>
    let s := s.bumpDrop 15 x.1.egr
    match x.2 with
    | some (g, ev, n) => s.bump g ev n
    | none => s) s
  let s := s.fwd.fifo.foldl (fun s f => s.bumpDrop 9 f.ing) s
  s.setEvr (fun e => { e with resetDiscards := l.length })

/-- The evidence as SYSRST_N leaves it: the open block has sealed, and nothing is accepted (R354). -/
def State.holdEvidence (s : State) : State :=
  let s := s.sealBlock 0 true
  s.setEvr (fun e => { e with held := true, resetTick := s.now, exporting := none, sealReply := [], sealReq := [] })

/-- A take-over that runs is completed (R496) (DEDUCED, log 51). -/
def Flt.settled (f : Flt) : Flt :=
  { f with acks := [], egressTaken := f.takeOver.isSome, slotsTaken := f.takeOver.isSome }

/-- The seats as SYSRST_N leaves them: FIFOs empty, RESET_SEEN to follow; the MSI-X vectors are those of the PCIe function (R453). -/
def Cmd.cleared (c : Cmd) : Cmd := { seats := c.seats.map (fun e => { vectors := e.vectors, msix := e.msix }) }

/-- R473: the image is to be loaded again: RELOAD asks for it, or it had not been loaded (R551) (DEDUCED, log 54). -/
def State.reloadDue (s : State) : Bool := s.on F.CMD_CORE_CTRL_RELOAD || !s.on F.SYS_BOOT_STATUS_IMAGE_OK

/-- R554 step 4 starts over. -/
def State.forgetImage (s : State) : State :=
  (((s.wr F.SYS_BOOT_STATUS_IMAGE_OK 0 0).wr F.SYS_BOOT_STATUS_IMAGE_FAILED 0 0).setIdn (fun i => { i with image := none }))

/-- Every unit as SYSRST_N leaves it (R551) (DEDUCED, log 54). A calibration run that it ends is not counted (DESIGN CHOICE, log 83). -/
def State.warmReset (s : State) : State :=
  let reload := s.reloadDue
  let calRuns := s.tsu.cal.isSome
  let s := s.holdEvidence.countDiscards
  let s : State := { s with
    regs := s.regs.filter (fun kv => keptBySysrst kv.1), prevRegs := [], cntReq := [none, none, none, none]
    tim := { s.tim with armedRate := none, armedStep := none, servoStep := none, snapReq := [none, none, none, none] }
    tsu := {}
    syn := { nextAction := s.syn.nextAction, fired := s.syn.fired, idsWrapped := s.syn.idsWrapped
             discarded := s.syn.actions.map (fun a => (a.id, a.seat)) ++ s.syn.discarded }
    flt := s.flt.settled
    cmd := s.cmd.cleared
    drafen := { cores := s.drafen.cores.map (fun c => { micro := c.micro, nano := c.nano, failures := c.failures }) }
    fwd := { nextFrame := s.fwd.nextFrame }
    buf := { bankMap := s.buf.bankMap, spares := s.buf.spares, retired := s.buf.retired, spareReq := s.buf.spareReq,
             sparing := s.buf.sparing, ceTicks := s.buf.ceTicks }
    qsg := {}, tbl := {}, mem := { s.mem with segs := [], reqs := [], ops := [] }, lan := { pllSince := s.lan.pllSince, refWait := s.lan.refWait }
    csma := { phyLink := s.csma.phyLink, phySpeed := s.csma.phySpeed, phyFull := s.csma.phyFull }, chk := [], trp := {}, pwr := {}
    idn := { s.idn with quotes := [] } }
  let s := (if s.idn.oldKey then s else s.wr F.IDN_STATUS_ROTATING 0 0).wr F.SYS_BOOT_STATUS_DRAFEN_READY 0 0
  let s := s.wr F.TIM_STEP_CTRL_PENDING 0 0
  let s := if calRuns then ((s.wr F.TSU_CAL_STATUS_DONE 0 1).wr F.TSU_CAL_STATUS_RESULT 0 3).raiseBits F.TSU_INT_STATUS_CAL_FAIL 0 1 else s
  let s := if reload then s.forgetImage else s
  let s := match s.idn.image with
    | some i => s.setDigest (sha512 i.digest)
    | none => s
  let s := (List.range 4).foldl (fun s k => if s.srState k = 0 then s else s.wakeStack k) s
  let s := if s.flt.takeOver.isSome then s.wr F.FLT_PIPE_STATUS_REPLAYING 0 0 else s
  let s := if s.pins.tripped then (List.range 512).foldl (fun s p => s.wr F.LAN_PORT_STATUS_TX_EI p 1) s else s
  let s := (List.range 4).foldl (fun s e => (s.showSeat e).wr F.CMD_SEAT_STATUS_RESET_SEEN e 1) s
  ((s.loadPools.clampPins.refreshBuf).showBank)

/-- SYSRST_N_ASSERT (R551, R552): the pin is recognised, or the reset that SW_RESET asked for falls due. The two together make one
reset, and PORST_N overrules both (DEDUCED, log 55). -/
def execSysrstNAssert (pin : Bool) (s : State) : Host.Outcome State Fault Refusal :=
  let due := match s.pins.swAt with | some t => decide (t < s.now) | none => false
  .next (if !s.pins.porst && s.on F.TIM_STATUS_RUN && (pin || due) then
      let t := s.when true (fun s =>
        let s := if s.pins.sysrst then s else s.warmReset
        let s := if pin then s.noteCause F.SYS_RESET_CAUSE_SYSRST_PIN else s
        if due then s.noteCause F.SYS_RESET_CAUSE_SW_RESET else s)
      { t with pins := { s.pins with
          sysrst := true, sysPin := s.pins.sysPin || pin
          swUntil := if due then s.pins.swAt.map (fun t => t + 801) else s.pins.swUntil
          swAt := if due then none else s.pins.swAt } }
    else s)

/-- After release the Recorder writes the first record of the block, and a GAP record of cause 4 (R354). -/
def State.resumeEvidence (s : State) : State :=
  let s := s.setEvr (fun e => { e with held := false })
  match s.evr.opened with
  | some b =>
    let s := s.takeRecord (s.mkRecord 0x10 1 0 b.openTick 0 (s.timeStateBody b.openTick 0))
    s.takeRecord (s.gapRecord ⟨4, s.evr.resetTick, s.now, 0, 0, 0, s.evr.resetDiscards, 0⟩)
  | none => s

/-- The units resume: both cores restart at address 0 with the stores kept (R473) (DEDUCED, log 54). -/
def State.resume (s : State) : State :=
  let s := s.resumeEvidence
  if s.idn.image.isSome then s.startCores true true else s

/-- The pins after a release is recognised, or the 800 ticks of SW_RESET have passed (R551). -/
def Pins.released (p : Pins) (pin : Bool) (now : Nat) : Pins :=
  let sysPin := p.sysPin && !pin
  let sw := match p.swUntil with
    | some t => if t ≤ now then none else some t
    | none => none
  { p with sysPin := sysPin, swUntil := sw, sysrst := sysPin || sw.isSome }

/-- SYSRST_N_RELEASE (R551): of the pin, or of SW_RESET, 800 ticks after its assertion; the reset ends at the later (DEDUCED, log 55). -/
def execSysrstNRelease (pin : Bool) (s : State) : Host.Outcome State Fault Refusal :=
  .next (if !s.pins.porst && s.pins.sysrst then
      let p := s.pins.released pin s.now
      { s.when (!p.sysrst) State.resume with pins := p }
    else s)

/-! ### PCIe links (R425, R453, R553) -/

/-- The seats of an endpoint that the straps give it (R425, R542) (DEDUCED, log 58). -/
def State.endpointSeats (s : State) (e : Nat) : List Nat :=
  let v := s.rd F.SYS_STRAP_VALUE
  if e = 0 then (if v % 2 = 0 then [0] else [0, 1])
  else match v / 2 % 4 with
    | 0 => [2]
    | 1 => [2, 3]
    | _ => []

/-- The link of a seat is lost (R553): its FIFOs are emptied and the replies to what it has in flight are discarded (DEDUCED, log 58). -/
def State.seatLinkLost (s : State) (e : Nat) : State :=
  let s := (s.wr F.CMD_SEAT_STATUS_LINK_UP e 0).raiseFault 38 1 0 e
  let s := s.setCmd (fun c => { c with
    seats := upd c.seats e (fun x => { x with cmdFifo := [], replyFifo := [], late := [] })
    flights := c.flights.map (fun f => if f.packet.sender.val = e ∧ f.origin = .window then { f with origin := .lost } else f) })
  s.showSeat e

/-- PERST (R553): PERSTe_N of an endpoint is asserted or released. -/
def execPerst (endpoint : Fin 2) (asserted : Bool) (s : State) : Host.Outcome State Fault Refusal :=
  let e := endpoint.val
  let was := nth s.pins.perst e false
  let s := s.setPins (fun p => { p with perst := upd p.perst e (fun _ => asserted) })
  .next (s.when (asserted && !was && !s.pins.porst) (fun s => (s.endpointSeats e).foldl (fun s k => s.seatLinkLost k) s))

/-- PCIE_LINK_UP: link training of an endpoint completes (R553, R554) (DEDUCED, log 58). -/
def execPcieLinkUp (endpoint : Fin 2) (s : State) : Host.Outcome State Fault Refusal :=
  let e := endpoint.val
  .next (s.when (!s.pins.porst && !s.pins.tripped && !nth s.pins.perst e true) (fun s =>
    (s.endpointSeats e).foldl (fun s k => s.wr F.CMD_SEAT_STATUS_LINK_UP k 1) s))

/-- PCIE_LINK_LOST: the link of a seat drops without PERSTe_N (R477) (DEDUCED, log 58). -/
def execPcieLinkLost (seat : Fin 4) (s : State) : Host.Outcome State Fault Refusal :=
  .next (s.when (!s.pins.porst && s.on F.CMD_SEAT_STATUS_LINK_UP seat.val) (fun s => s.seatLinkLost seat.val))

/-! ### SMBus and the TAP (R545, R555, R556) -/

/-- R545: the content of an SMBus command, as numbers of 32 bits or fewer, the first first (DEDUCED, log 56). -/
def State.smbusData (s : State) (cmd : Nat) : Option (List Nat) :=
  match cmd with
  | 0 => some [s.wordAt A.SYS_DEVICE_ID]
  | 1 => some [s.wordAt A.SYS_BOOT_STATUS]
  | 2 => some [s.wordAt A.SYS_RESET_CAUSE]
  | 3 => some [s.rd F.FLT_FSW_LO_VALUE, s.rd F.FLT_FSW_HI_VALUE]
  | 4 => some [ofS 16 (s.rdS F.PWR_THERM_STATUS_TJ_MAX)]
  | 5 => some [s.rd F.PWR_MEAS_MEAS_W]
  | 6 => some ((List.range 4).map (fun i => s.rd F.IDN_UID_VALUE i))
  | _ => none

/-- SMB_ALERT_N is asserted (R545). -/
def State.smbAlert (s : State) : Bool := !s.pins.porst && (s.on F.FLT_STATUS_FAULT_N || s.pins.tripped)

/-- SMBUS_READ: the target answers, or answers with NACK: an answer of NOT_PERMITTED without data (DEDUCED, log 56). -/
def execSmbusRead (cmd : BitVec 8) (s : State) : Host.Outcome State Fault Refusal :=
  .next (if s.pins.porst then s.answer .notPermitted
    else s.when true (fun s =>
      let s := s.caughtUp
      match s.smbusData cmd.toNat with
      | some l => s.answer .ok l
      | none => s.answer .notPermitted))

/-- R556: an instruction that drives the boundary is taken only while PORST_N is asserted and every rail is in range; else it acts as
BYPASS (PRESUMED, log 57). -/
def State.tapDrive (s : State) (rails : Bool) (code : Nat) (d : Drive) : State :=
  s.setPins (fun p => if p.porst && rails then { p with ir := code, drive := d } else { p with ir := 0xFF, drive := .functional })

/-- EXTEST (PRESUMED, log 57). -/
def execExtest (rails : Bool) (s : State) : Host.Outcome State Fault Refusal := .next (s.tapDrive rails 0x00 .extest)
/-- HIGHZ (PRESUMED, log 57). -/
def execHighz (rails : Bool) (s : State) : Host.Outcome State Fault Refusal := .next (s.tapDrive rails 0x03 .highz)
/-- CLAMP. -/
def execClamp (rails : Bool) (s : State) : Host.Outcome State Fault Refusal := .next (s.tapDrive rails 0x04 .clamp)
/-- EXTEST_PULSE. -/
def execExtestPulse (rails : Bool) (s : State) : Host.Outcome State Fault Refusal := .next (s.tapDrive rails 0x05 .pulse)
/-- EXTEST_TRAIN. -/
def execExtestTrain (rails : Bool) (s : State) : Host.Outcome State Fault Refusal := .next (s.tapDrive rails 0x06 .train)
/-- IDCODE: version 1, part 0x0102. -/
def execIdcode (s : State) : Host.Outcome State Fault Refusal :=
  .next ((s.setPins (fun p => { p with ir := 0x01, drive := .functional })).answer .ok [0x10102A6B])
/-- SAMPLE_PRELOAD: the boundary register samples the pins, a free value, and takes the bits shifted in (DESIGN CHOICE, log 7) (PRESUMED, log 57). -/
def execSamplePreload (bits : Nat) (s : State) : Host.Outcome State Fault Refusal :=
  let (v, s) := s.fresh
  .next ((s.setPins (fun p => { p with ir := 0x02, boundary := bits, drive := .functional })).answer .ok [v])
/-- BYPASS. -/
def execBypass (s : State) : Host.Outcome State Fault Refusal := .next (s.setPins (fun p => { p with ir := 0xFF, drive := .functional }))
/-- TAP_RESET: Test-Logic-Reset, whose instruction is IDCODE. -/
def execTapReset (s : State) : Host.Outcome State Fault Refusal := .next (s.setPins (fun p => { p with ir := 0x01, drive := .functional }))

end Sys2Proof.Machine
end

