-- ==== Sys2Proof/Machine/Dispatch.lean ====
section
/-! DEFINITION. The meaning of every command: one arm per row of the operation table. -/

namespace Sys2Proof.Machine

def exec (i : Instr) (s : State) : Host.Outcome State Fault Refusal :=
  match i with
  | .registerWrite seat bar0 addr value mask => Sys2Proof.Machine.execRegisterWrite seat bar0 addr value mask s
  | .pairLoRead seat addr => Sys2Proof.Machine.execPairLoRead seat addr s
  | .pairHiRead seat addr => Sys2Proof.Machine.execPairHiRead seat addr s
  | .pairLoWrite seat addr value mask => Sys2Proof.Machine.execPairLoWrite seat addr value mask s
  | .pairHiWrite seat addr value mask => Sys2Proof.Machine.execPairHiWrite seat addr value mask s
  | .rcRead seat addr => Sys2Proof.Machine.execRcRead seat addr s
  | .canopyTick upsetA upsetB upsetC => Sys2Proof.Machine.execCanopyTick upsetA upsetB upsetC s
  | .followerCompare bad => Sys2Proof.Machine.execFollowerCompare bad s
  | .rejoin seat mask => Sys2Proof.Machine.execRejoin seat mask s
  | .rejoinComplete counter => Sys2Proof.Machine.execRejoinComplete counter s
  | .rateWrite seat value => Sys2Proof.Machine.execRateWrite seat value s
  | .rateApply => Sys2Proof.Machine.execRateApply s
  | .stepGo seat relative => Sys2Proof.Machine.execStepGo seat relative s
  | .epochChange => Sys2Proof.Machine.execEpochChange s
  | .snapTake seat group => Sys2Proof.Machine.execSnapTake seat group s
  | .snapCapture group => Sys2Proof.Machine.execSnapCapture group s
  | .timeBaseStart => Sys2Proof.Machine.execTimeBaseStart s
  | .tpllUnlock => Sys2Proof.Machine.execTpllUnlock s
  | .ingressStart port detect var bytes => Sys2Proof.Machine.execIngressStart port detect var bytes s
  | .frameEnd port pcsError cutAt oddNibble elastic => Sys2Proof.Machine.execFrameEnd port pcsError cutAt oddNibble elastic s
  | .calGo seat port apply count => Sys2Proof.Machine.execCalGo seat port apply count s
  | .calLockTimeout => Sys2Proof.Machine.execCalLockTimeout s
  | .calDone sum temp => Sys2Proof.Machine.execCalDone sum temp s
  | .tempCompUpdate port temp => Sys2Proof.Machine.execTempCompUpdate port temp s
  | .syncReceive m followUp twoStep => Sys2Proof.Machine.execSyncReceive m followUp twoStep s
  | .delayReqSend assoc var => Sys2Proof.Machine.execDelayReqSend assoc var s
  | .delayRespReceive m => Sys2Proof.Machine.execDelayRespReceive m s
  | .pdelayExchange port isReq msg turnaround corr arrival => Sys2Proof.Machine.execPdelayExchange port isReq msg turnaround corr arrival s
  | .masterSyncSend port var => Sys2Proof.Machine.execMasterSyncSend port var s
  | .delayReqAnswer m => Sys2Proof.Machine.execDelayReqAnswer m s
  | .ptpGeneralDeliver port bytes arrival => Sys2Proof.Machine.execPtpGeneralDeliver port bytes arrival s
  | .servoUpdate => Sys2Proof.Machine.execServoUpdate s
  | .sourceLoss => Sys2Proof.Machine.execSourceLoss s
  | .servoSrcWrite seat order => Sys2Proof.Machine.execServoSrcWrite seat order s
  | .servoEnable seat value => Sys2Proof.Machine.execServoEnable seat value s
  | .refInputLoss loss => Sys2Proof.Machine.execRefInputLoss loss s
  | .refRevert => Sys2Proof.Machine.execRefRevert s
  | .ppsInEdge input rise raw => Sys2Proof.Machine.execPpsInEdge input rise raw s
  | .todLineRx line => Sys2Proof.Machine.execTodLineRx line s
  | .ppsOutPulse out => Sys2Proof.Machine.execPpsOutPulse out s
  | .todTxLine => Sys2Proof.Machine.execTodTxLine s
  | .evtInEdge pin rise raw => Sys2Proof.Machine.execEvtInEdge pin rise raw s
  | .evtiPop seat pin => Sys2Proof.Machine.execEvtiPop seat pin s
  | .evtOutPulse pin => Sys2Proof.Machine.execEvtOutPulse pin s
  | .schedAction p => Sys2Proof.Machine.execSchedAction p s
  | .schedCancel p => Sys2Proof.Machine.execSchedCancel p s
  | .actionFire => Sys2Proof.Machine.execActionFire s
  | .slotIssue pipe slot err => Sys2Proof.Machine.execSlotIssue pipe slot err s
  | .bufferAdmission vars => Sys2Proof.Machine.execBufferAdmission vars s
  | .schedulerSelect port var badCell => Sys2Proof.Machine.execSchedulerSelect port var badCell s
  | .transmitDone port badCell => Sys2Proof.Machine.execTransmitDone port badCell s
  | .tableWriteSlot => Sys2Proof.Machine.execTableWriteSlot s
  | .txTailWrite seat ring value => Sys2Proof.Machine.execTxTailWrite seat ring value s
  | .seatTxFetch seat own readable length bytes => Sys2Proof.Machine.execSeatTxFetch seat own readable length bytes s
  | .rxTailWrite seat ring value => Sys2Proof.Machine.execRxTailWrite seat ring value s
  | .seatRxDeliver seat => Sys2Proof.Machine.execSeatRxDeliver seat s
  | .recircReentry => Sys2Proof.Machine.execRecircReentry s
  | .tableInsert p => Sys2Proof.Machine.execTableInsert p s
  | .tableDelete p => Sys2Proof.Machine.execTableDelete p s
  | .tableLookup p => Sys2Proof.Machine.execTableLookup p s
  | .tableDump p => Sys2Proof.Machine.execTableDump p s
  | .tableScrub pipe table index finding => Sys2Proof.Machine.execTableScrub pipe table index finding s
  | .learnDecision => Sys2Proof.Machine.execLearnDecision s
  | .ageSweeperVisit table visit => Sys2Proof.Machine.execAgeSweeperVisit table visit s
  | .pinLogPop seat => Sys2Proof.Machine.execPinLogPop seat s
  | .pfcRefresh => Sys2Proof.Machine.execPfcRefresh s
  | .spillWriteDone queue => Sys2Proof.Machine.execSpillWriteDone queue s
  | .refillReadDone queue => Sys2Proof.Machine.execRefillReadDone queue s
  | .spareForce seat bank => Sys2Proof.Machine.execSpareForce seat bank s
  | .bankSparingStart => Sys2Proof.Machine.execBankSparingStart s
  | .bankSparingDone => Sys2Proof.Machine.execBankSparingDone s
  | .bufferScrub word finding => Sys2Proof.Machine.execBufferScrub word finding s
  | .pauseReceived => Sys2Proof.Machine.execPauseReceived s
  | .pauseExpire => Sys2Proof.Machine.execPauseExpire s
  | .shaperRefill => Sys2Proof.Machine.execShaperRefill s
  | .gateEvent => Sys2Proof.Machine.execGateEvent s
  | .gclChange => Sys2Proof.Machine.execGclChange s
  | .flapHoldExpire => Sys2Proof.Machine.execFlapHoldExpire s
  | .queueSample => Sys2Proof.Machine.execQueueSample s
  | .heldRelease turn => Sys2Proof.Machine.execHeldRelease turn s
  | .seqVisible inst => Sys2Proof.Machine.execSeqVisible inst s
  | .seqRelease inst read => Sys2Proof.Machine.execSeqRelease inst read s
  | .troupeEnable seat enable => Sys2Proof.Machine.execTroupeEnable seat enable s
  | .helloInterval => Sys2Proof.Machine.execHelloInterval s
  | .hello port bytes => Sys2Proof.Machine.execHello port bytes s
  | .profile port bytes => Sys2Proof.Machine.execProfile port bytes s
  | .profileApply => Sys2Proof.Machine.execProfileApply s
  | .liftReq port bytes => Sys2Proof.Machine.execLiftReq port bytes s
  | .liftOrder port bytes => Sys2Proof.Machine.execLiftOrder port bytes s
  | .ack port bytes => Sys2Proof.Machine.execAck port bytes s
  | .grant port bytes => Sys2Proof.Machine.execGrant port bytes s
  | .grantPeriod => Sys2Proof.Machine.execGrantPeriod s
  | .grantApply => Sys2Proof.Machine.execGrantApply s
  | .baseWrite seat k value => Sys2Proof.Machine.execBaseWrite seat k value s
  | .unlift seat => Sys2Proof.Machine.execUnlift seat s
  | .recordAccept => Sys2Proof.Machine.execRecordAccept s
  | .evrCapRefill => Sys2Proof.Machine.execEvrCapRefill s
  | .blockSeal => Sys2Proof.Machine.execBlockSeal s
  | .blockSign => Sys2Proof.Machine.execBlockSign s
  | .evrFlush => Sys2Proof.Machine.execEvrFlush s
  | .evrSeal p => Sys2Proof.Machine.execEvrSeal p s
  | .evrPin p => Sys2Proof.Machine.execEvrPin p s
  | .evrExport p => Sys2Proof.Machine.execEvrExport p s
  | .exportFrame => Sys2Proof.Machine.execExportFrame s
  | .genesisBlockOpen => Sys2Proof.Machine.execGenesisBlockOpen s
  | .refreshTimer chan => Sys2Proof.Machine.execRefreshTimer chan s
  | .refreshIssue chan => Sys2Proof.Machine.execRefreshIssue chan s
  | .memAccess chan requests err draw => Sys2Proof.Machine.execMemAccess chan requests err draw s
  | .stackTempRead stack temp => Sys2Proof.Machine.execStackTempRead stack temp s
  | .selfRefreshEntry stack => Sys2Proof.Machine.execSelfRefreshEntry stack s
  | .selfRefreshExit stack => Sys2Proof.Machine.execSelfRefreshExit stack s
  | .forceFail seat chan => Sys2Proof.Machine.execForceFail seat chan s
  | .channelFail chan => Sys2Proof.Machine.execChannelFail chan s
  | .retry seat chan => Sys2Proof.Machine.execRetry seat chan s
  | .retrainDone chan ok => Sys2Proof.Machine.execRetrainDone chan ok s
  | .rebuildDone chan => Sys2Proof.Machine.execRebuildDone chan s
  | .memRowsLost stripe row members spilled => Sys2Proof.Machine.execMemRowsLost stripe row members spilled s
  | .patrolScrub chan row finding => Sys2Proof.Machine.execPatrolScrub chan row finding s
  | .memTrainingDone failing lanes => Sys2Proof.Machine.execMemTrainingDone failing lanes s
  | .portStart seat port => Sys2Proof.Machine.execPortStart seat port s
  | .portStop seat port => Sys2Proof.Machine.execPortStop seat port s
  | .detect port seen => Sys2Proof.Machine.execDetect port seen s
  | .trainDone port lanes => Sys2Proof.Machine.execTrainDone port lanes s
  | .blockLock port lock skew deskew inverted => Sys2Proof.Machine.execBlockLock port lock skew deskew inverted s
  | .stageTimeout port => Sys2Proof.Machine.execStageTimeout port s
  | .linkUp port => Sys2Proof.Machine.execLinkUp port s
  | .linkDown port loss => Sys2Proof.Machine.execLinkDown port loss s
  | .quickTimeout port => Sys2Proof.Machine.execQuickTimeout port s
  | .forceRetrain seat port => Sys2Proof.Machine.execForceRetrain seat port s
  | .fomMeasure lane w => Sys2Proof.Machine.execFomMeasure lane w s
  | .snapshotWrite seat lane => Sys2Proof.Machine.execSnapshotWrite seat lane s
  | .rollbackWrite seat lane => Sys2Proof.Machine.execRollbackWrite seat lane s
  | .eiEntry port => Sys2Proof.Machine.execEiEntry port s
  | .eiExit wake => Sys2Proof.Machine.execEiExit wake s
  | .rxSignalReturn port ok foms deskew => Sys2Proof.Machine.execRxSignalReturn port ok foms deskew s
  | .groupRefLoss group clock => Sys2Proof.Machine.execGroupRefLoss group clock s
  | .groupRefRestore group => Sys2Proof.Machine.execGroupRefRestore group s
  | .mgmtLinkChange link speed duplex => Sys2Proof.Machine.execMgmtLinkChange link speed duplex s
  | .collision r => Sys2Proof.Machine.execCollision r s
  | .backoffExpire => Sys2Proof.Machine.execBackoffExpire s
  | .mdioGo seat phy reg isWrite => Sys2Proof.Machine.execMdioGo seat phy reg isWrite s
  | .mdioDone data => Sys2Proof.Machine.execMdioDone data s
  | .chkStart seat engine ctrl => Sys2Proof.Machine.execChkStart seat engine ctrl s
  | .chkBufGranted engine => Sys2Proof.Machine.execChkBufGranted engine s
  | .chkData seat engine word => Sys2Proof.Machine.execChkData seat engine word s
  | .chkAbort seat engine => Sys2Proof.Machine.execChkAbort seat engine s
  | .chkOutRead seat engine => Sys2Proof.Machine.execChkOutRead seat engine s
  | .commandWindowWrite seat wide value => Sys2Proof.Machine.execCommandWindowWrite seat wide value s
  | .replyWindowRead seat wide => Sys2Proof.Machine.execReplyWindowRead seat wide s
  | .cmdFlush seat => Sys2Proof.Machine.execCmdFlush seat s
  | .replyFlush seat => Sys2Proof.Machine.execReplyFlush seat s
  | .iswRead seat index => Sys2Proof.Machine.execIswRead seat index s
  | .inbandCommand port bytes arrival => Sys2Proof.Machine.execInbandCommand port bytes arrival s
  | .read p => Sys2Proof.Machine.execRead p s
  | .write p => Sys2Proof.Machine.execWrite p s
  | .readBlock p => Sys2Proof.Machine.execReadBlock p s
  | .writeBlock p => Sys2Proof.Machine.execWriteBlock p s
  | .txnBegin p => Sys2Proof.Machine.execTxnBegin p s
  | .txnCommit p => Sys2Proof.Machine.execTxnCommit p s
  | .txnRollback p => Sys2Proof.Machine.execTxnRollback p s
  | .txnCommitAt p => Sys2Proof.Machine.execTxnCommitAt p s
  | .prepareAck txn unit => Sys2Proof.Machine.execPrepareAck txn unit s
  | .prepareDeadline => Sys2Proof.Machine.execPrepareDeadline s
  | .commitTick liftFails => Sys2Proof.Machine.execCommitTick liftFails s
  | .txnIdleTimeout => Sys2Proof.Machine.execTxnIdleTimeout s
  | .attestQuote p => Sys2Proof.Machine.execAttestQuote p s
  | .quoteSigned => Sys2Proof.Machine.execQuoteSigned s
  | .faultAck p => Sys2Proof.Machine.execFaultAck p s
  | .ackApply => Sys2Proof.Machine.execAckApply s
  | .echo p => Sys2Proof.Machine.execEcho p s
  | .microwordIssue done data corrected idle => Sys2Proof.Machine.execMicrowordIssue done data corrected idle s
  | .routineDispatch entry asks => Sys2Proof.Machine.execRoutineDispatch entry asks s
  | .routineWatchdog => Sys2Proof.Machine.execRoutineWatchdog s
  | .effectApply => Sys2Proof.Machine.execEffectApply s
  | .coreTakeOver planned => Sys2Proof.Machine.execCoreTakeOver planned s
  | .coreSelfTestDone core pass => Sys2Proof.Machine.execCoreSelfTestDone core pass s
  | .rejoinCore seat mask => Sys2Proof.Machine.execRejoinCore seat mask s
  | .swap seat => Sys2Proof.Machine.execSwap seat s
  | .imageLoad image certs keyMatches copiesAgree test0 test1 => Sys2Proof.Machine.execImageLoad image certs keyMatches copiesAgree test0 test1 s
  | .faultTake checkA checkB differ => Sys2Proof.Machine.execFaultTake checkA checkB differ s
  | .noteAutoAck => Sys2Proof.Machine.execNoteAutoAck s
  | .freezeRelease seat => Sys2Proof.Machine.execFreezeRelease seat s
  | .pipelineFault pipe => Sys2Proof.Machine.execPipelineFault pipe s
  | .takeOverEgress => Sys2Proof.Machine.execTakeOverEgress s
  | .takeOverSlots => Sys2Proof.Machine.execTakeOverSlots s
  | .replayDone => Sys2Proof.Machine.execReplayDone s
  | .pipeForce seat pipe => Sys2Proof.Machine.execPipeForce seat pipe s
  | .pipeSelfTestDone pipe pass => Sys2Proof.Machine.execPipeSelfTestDone pipe pass s
  | .giveBack seat => Sys2Proof.Machine.execGiveBack seat s
  | .giveBackSwitch => Sys2Proof.Machine.execGiveBackSwitch s
  | .spareSelfCheckFail => Sys2Proof.Machine.execSpareSelfCheckFail s
  | .railSample rails => Sys2Proof.Machine.execRailSample rails s
  | .pmbusRead replies faults => Sys2Proof.Machine.execPmbusRead replies faults s
  | .pmbAlert faults => Sys2Proof.Machine.execPmbAlert faults s
  | .powerDecision => Sys2Proof.Machine.execPowerDecision s
  | .clockChange => Sys2Proof.Machine.execClockChange s
  | .modelResume seat => Sys2Proof.Machine.execModelResume seat s
  | .thermalRead temps => Sys2Proof.Machine.execThermalRead temps s
  | .thermtrip sensor temp => Sys2Proof.Machine.execThermtrip sensor temp s
  | .evkGenerated ok => Sys2Proof.Machine.execEvkGenerated ok s
  | .rotate seat => Sys2Proof.Machine.execRotate seat s
  | .rotationComplete ok => Sys2Proof.Machine.execRotationComplete ok s
  | .fuseOwnerHash seat => Sys2Proof.Machine.execFuseOwnerHash seat s
  | .fuseRollback seat => Sys2Proof.Machine.execFuseRollback seat s
  | .certSelWrite seat cert => Sys2Proof.Machine.execCertSelWrite seat cert s
  | .certDataRead seat => Sys2Proof.Machine.execCertDataRead seat s
  | .rngHealthFail => Sys2Proof.Machine.execRngHealthFail s
  | .cntSnapTake seat group countM1 => Sys2Proof.Machine.execCntSnapTake seat group countM1 s
  | .cntSnapCapture group => Sys2Proof.Machine.execCntSnapCapture group s
  | .porstNAssert => Sys2Proof.Machine.execPorstNAssert s
  | .porstNRelease straps cool => Sys2Proof.Machine.execPorstNRelease straps cool s
  | .sysrstNAssert pin => Sys2Proof.Machine.execSysrstNAssert pin s
  | .sysrstNRelease pin => Sys2Proof.Machine.execSysrstNRelease pin s
  | .swReset seat key => Sys2Proof.Machine.execSwReset seat key s
  | .supplyMonitorTrip rail => Sys2Proof.Machine.execSupplyMonitorTrip rail s
  | .vauxPowerUp => Sys2Proof.Machine.execVauxPowerUp s
  | .perst endpoint asserted => Sys2Proof.Machine.execPerst endpoint asserted s
  | .smbusRead cmd => Sys2Proof.Machine.execSmbusRead cmd s
  | .extest rails => Sys2Proof.Machine.execExtest rails s
  | .idcode => Sys2Proof.Machine.execIdcode s
  | .samplePreload bits => Sys2Proof.Machine.execSamplePreload bits s
  | .highz rails => Sys2Proof.Machine.execHighz rails s
  | .clamp rails => Sys2Proof.Machine.execClamp rails s
  | .extestPulse rails => Sys2Proof.Machine.execExtestPulse rails s
  | .extestTrain rails => Sys2Proof.Machine.execExtestTrain rails s
  | .bypass => Sys2Proof.Machine.execBypass s
  | .tapReset => Sys2Proof.Machine.execTapReset s
  | .tpllRelock input => Sys2Proof.Machine.execTpllRelock input s
  | .refInputGood good => Sys2Proof.Machine.execRefInputGood good s
  | .initDone failing => Sys2Proof.Machine.execInitDone failing s
  | .groupPllLock group => Sys2Proof.Machine.execGroupPllLock group s
  | .pdelayReqSend port var => Sys2Proof.Machine.execPdelayReqSend port var s
  | .rxEi port => Sys2Proof.Machine.execRxEi port s
  | .exchangeBreak port => Sys2Proof.Machine.execExchangeBreak port s
  | .signerFault core => Sys2Proof.Machine.execSignerFault core s
  | .spareOk => Sys2Proof.Machine.execSpareOk s
  | .rngOk => Sys2Proof.Machine.execRngOk s
  | .fuseProgrammingDone ok => Sys2Proof.Machine.execFuseProgrammingDone ok s
  | .pcieLinkUp endpoint => Sys2Proof.Machine.execPcieLinkUp endpoint s
  | .pcieLinkLost seat => Sys2Proof.Machine.execPcieLinkLost seat s

end Sys2Proof.Machine
end

