-- ==== Sys2Proof/Safety.lean ====
section
/-! DEFINITION. What claims about every step are stated with: the canonical form of the sparse stores, what PORST_N leaves, and
the rule of the TAP. -/

namespace Sys2Proof.Machine

/-- A sparse store is in its one form: keys strictly rising. -/
def SMap.wf (m : SMap) : Bool := SMap.rising none m

/-- A unit's commands have not touched the part since PORST_N: all that is left are the VAUX domain, the fuses, the pins, the answer of
the latest access, the free values drawn and the queue (R550). -/
def State.cold (s : State) : Bool :=
  s == { State.reset with
    regs := s.regs.filter (fun kv => inVaux kv.1)
    idn := { ownerHash := s.idn.ownerHash, rollback := s.idn.rollback }
    pins := s.pins, resp := s.resp, freeCount := s.freeCount, pending := s.pending }

/-- The rules of reset and of the TAP that every step keeps: while PORST_N is asserted every unit is as it left it (R550), and the TAP
drives the boundary only then (R556). -/
def State.Inv (s : State) : Prop :=
  (s.pins.porst = true → s.cold = true) ∧ (s.pins.drive ≠ .functional → s.pins.porst = true)

/-- The power resets: PORST_N, a supply monitor and the power-up of VAUX (R549, R550, R559). -/
def powerReset : Instr → Bool
  | .porstNAssert | .supplyMonitorTrip _ | .vauxPowerUp => true
  | _ => false

/-- The rows that move a pin of chapter 22: the resets, the thermal trip, PERSTe_N and the TAP. -/
def movesPins : Instr → Bool
  | .porstNAssert | .supplyMonitorTrip _ | .vauxPowerUp | .porstNRelease _ _ | .sysrstNAssert _ | .sysrstNRelease _ | .thermtrip _ _
  | .perst _ _ | .extest _ | .highz _ | .clamp _ | .extestPulse _ | .extestTrain _ | .idcode | .samplePreload _ | .bypass | .tapReset => true
  | _ => false

/-- The rows by which a latched fault may come or go: those of the Collector (R480, R484), the self-test of a core (R471), and those that
commit, fire, decide or read, before which the faults of the tick are taken (R31, R32). -/
def movesLatches : Instr → Bool
  | .faultTake _ _ _ | .noteAutoAck | .ackApply | .coreSelfTestDone _ _ => true
  | .commitTick _ | .actionFire | .powerDecision | .microwordIssue _ _ _ _ => true
  | .pairLoRead _ _ | .pairHiRead _ _ | .rcRead _ _ | .smbusRead _ | .read _ | .readBlock _ | .tableLookup _ | .tableDump _ => true
  | _ => false

/-- A command completes: it answers a next state, of which P holds. -/
def Completes (c : Instr) (s : State) (P : State → Prop) : Prop := ∃ t, exec c s = .next t ∧ P t

/-- Every register field but the listed copies reads in t as in s. -/
def RegsBut (s t : State) (l : List (Fld × Nat)) : Prop :=
  ∀ f n, (∀ x ∈ l, x.1.key x.2 ≠ f.key n) → t.rd f n = s.rd f n

/-- Every register field whose place in the store satisfies p reads in t as in s. -/
def RegsIf (s t : State) (p : Nat → Bool) : Prop := ∀ f n, p (f.key n) = true → t.rd f n = s.rd f n

/-- The fields of IDN.CFG_DIGEST, which every applied write extends (R523, R527). -/
def digestFields : List (Fld × Nat) := (List.range 16).map (fun w => (F.IDN_CFG_DIGEST_VALUE, w))

/-- The fields that show a seat's FIFOs, tags and open transactions (R455). -/
def seatFields (e : Nat) : List (Fld × Nat) :=
  [(F.CMD_SEAT_FIFO_CMD_SPACE, e), (F.CMD_SEAT_FIFO_REPLY_WORDS, e), (F.CMD_SEAT_TAGS_IN_FLIGHT, e), (F.CMD_SEAT_TXN_OPEN, e),
   (F.CMD_TXN_STATUS_OPEN, 0)]

/-- Nothing of class 3 is due any more in this tick (R32): no change of epoch, of Rate, and no update of the servo. -/
abbrev State.Settled (s : State) : Prop := s.classThree = s

/-- A seat's direct write of a word comes after class 3 of its tick and meets no transaction in which it is staged (R31, R447), while the
part works. -/
abbrev State.Free (s : State) (addr : Nat) : Prop := s.live = true ∧ s.wordHeld 0 addr = false ∧ s.Settled

/-- The register at an address, one without fields where the map has none, and the copy of it. -/
def regOf (addr : Nat) : RegD := ((findReg addr).map (fun x => x.1)).getD ⟨"", 0, .seat0, .whole, []⟩
def copyNo (addr : Nat) : Nat := ((findReg addr).map (fun x => x.2)).getD 0

/-- A seat's write of a whole register passes every check (R440, R441), is of class L, or of class Q with its instance
stopped (R11, R12), and is no software reset. -/
abbrev State.WritesAtOnce (s : State) (seat addr value mask : Nat) : Prop :=
  s.Free addr ∧ (findReg addr).isSome = true ∧ (regOf addr).half = .whole ∧ s.mayWrite seat (regOf addr) (copyNo addr) mask value = true ∧
    s.classOf (regOf addr) (copyNo addr) mask value ≠ .s ∧
    (s.classOf (regOf addr) (copyNo addr) mask value = .q → s.stopped (s.poke (regOf addr) (copyNo addr) mask value) (regOf addr) (copyNo addr) = true) ∧
    (s.fieldsOf (regOf addr) (copyNo addr)).all (fun d => !s.outOfRange d (copyNo addr) mask value) = true ∧
    (s.unitOk (s.poke (regOf addr) (copyNo addr) mask value) (regOf addr) (copyNo addr) mask).toBool = true ∧
    resetWrite ⟨addr, mask, value⟩ = false

/-- Drafen has taken a packet of a window: it is in flight (R442). -/
def State.taken (s : State) (p : Packet) : State := ((s.acceptPacket p .window).toOption).getD s

/-- Drafen takes a packet at once and executes it in the same tick, after class 3 of it (R31, R436, R439, R441 to R443): it is ready, the packet
has its form and names its sender's seat, and its seat has nothing in flight, a tag to give and room for the longest reply. -/
abbrev State.Takes (s : State) (p : Packet) : Prop :=
  s.ready = true ∧ s.Settled ∧ packetForm p = true ∧ p.seat = p.sender ∧ s.cmd.flights.all (fun f => f.packet.sender != p.sender) = true ∧
    0 < s.rd F.CMD_SEAT_TAGS_TAG_QUOTA p.sender.val ∧ s.fifoRoom p.sender.val (longestReply p) = true ∧
    s.cmd.seats.length = 4

/-- The command of a packet has ended with a status and data words (R438, R442): its tag is free again, and unless it was posted and
went well (R436), its reply is the last in its seat's Reply FIFO. -/
abbrev Replied (s t : State) (p : Packet) (st : Status) (data : List Nat) : Prop :=
  t.resp = some ⟨st, data⟩ ∧ t.cmd.flights = s.cmd.flights ∧
    (t.seat p.sender.val).replyFifo = (s.seat p.sender.val).replyFifo ++ (if bit p.flags.toNat 0 = true ∧ st = .ok then [] else
      replyWords p.opcode.toNat st.code p.tag.toNat p.seat.val p.txn.toNat false false s.now data)

/-- A member takes a control frame of a TYPE (R301 to R303): enabled, from a listed port, of its Troupe, from another member, and later
than what that member sent last. -/
abbrev State.Hears (s : State) (type port : Nat) (b : Bytes) : Prop :=
  s.live = true ∧ s.Settled ∧ s.on F.TRP_CTRL_ENABLE = true ∧ beAt b 12 2 = 0x88B5 ∧ byteAt b 15 = type ∧ s.ctlOk port b = true ∧
    byteAt b 16 ≠ s.member ∧ ((s.peer (byteAt b 16)).seq.all (fun q => serialLater (beAt b 22 4) q)) = true ∧ s.trp.peers.length = 8

/-- A run is safe at a state when the next step neither faults nor refuses. -/
def State.Safe (s : State) : Prop := ∃ t, step s = .next t

end Sys2Proof.Machine
end

