-- ==== Sys2Proof/Certificates/Slice0/Obligations.lean ====
section
/-! DEFINITION. The statements about the part, for the provers. -/

open Sys2Proof Sys2Proof.Machine


/-! ### Time (chapters 1 and 2) -/

/-- With the three counters in step and no upset, a boundary takes the Canopy to the next tick (R15), which CANOPY_LO and CANOPY_HI
show, and leaves the counters in step and the view's parameters as they were. With three counters active, one counter upset is
outvoted (R17): the Canopy counts on, the odd counter is due to be reloaded, and VOTE_LAST, LAST_ODD, DISAGREE and a SPARED
fault tell of it. It also rests on the model's own readings of log 59. -/
def Obligations.CanopyCountsAndOutvotesOneCounter : Prop :=
  (∀ (s : State), s.ticking = true → s.now + 1 < 2 ^ 64 → s.tim.voter.a = BitVec.ofNat 64 s.now ∧ s.tim.voter.b = s.tim.voter.a ∧ s.tim.voter.c = s.tim.voter.a → 
    Completes (.canopyTick 0 0 0) s (fun t => t.now = s.now + 1 ∧ t.rd2 F.TIM_CANOPY_LO_VALUE F.TIM_CANOPY_HI_VALUE = s.now + 1 ∧ t.tim.voter.reload = 0 ∧
    t.tim.voter.a = BitVec.ofNat 64 (s.now + 1) ∧ t.tim.voter.b = t.tim.voter.a ∧ t.tim.voter.c = t.tim.voter.a ∧
    t.tim.params = s.tim.params ∧ t.cntTick = [])) ∧
  (∀ (s : State) (i : Fin 3) (u : DWord), s.ticking = true → s.now + 1 < 2 ^ 64 → s.tim.voter.a = BitVec.ofNat 64 s.now ∧ s.tim.voter.b = s.tim.voter.a ∧ s.tim.voter.c = s.tim.voter.a → s.rd F.TIM_VOTE_STATUS_ACTIVE = 7 → u ≠ 0 → 
    Completes (.canopyTick (if i = 0 then u else 0) (if i = 1 then u else 0) (if i = 2 then u else 0)) s (fun t => t.now = s.now + 1 ∧ t.tim.voter.reload = 2 ^ i.val ∧ t.rd F.TIM_VOTE_STATUS_LAST_ODD = 2 ^ i.val ∧
    t.rd2 F.TIM_VOTE_LAST_LO_VALUE F.TIM_VOTE_LAST_HI_VALUE = s.now + 1 ∧ t.on F.TIM_INT_STATUS_DISAGREE = true ∧
    (⟨1, 1, 2, i.val, s.now + 1⟩ : FaultEvent) ∈ t.flt.held ∧ t.tim.params = s.tim.params))

/-- A Rate that is due takes effect, after an epoch change of the same tick (R32), with Offset set to the view now and the anchor to
this tick, so that the view at this tick is the same before and after (R24); a Rate beyond the limit is clamped to it, and
RATE_CLAMPED set (R23); the epoch stays. Beyond the epoch change, no frame, buffer, command, record or fault changes. A due
register step opens a new epoch at this tick, absolute or from the view now, and LAST_EPOCH, EPOCH_CHANGE, TIME_VALID and
PENDING show it; the epoch after 255 is 1 (R26). Where the phase in effect forbids steps, it is dropped, and STEP_DROPPED tells;
nothing else in the registers changes. It also rests on the model's own readings of log 3. -/
def Obligations.RateChangesAndStepsOfTime : Prop :=
  (∀ (s : State) (r : Int), s.clocked = true → s.rateDue = some r → 
    let u := s.epochDue
    Completes (.rateApply) s (fun t => t.params = {
      since := s.now, offset := u.viewAt s.now 0, anchor := s.now, rate := max (-2 ^ 29) (min (2 ^ 29) r), epoch := u.params.epoch } ∧
    t.viewAt s.now 0 = u.viewAt s.now 0 ∧ t.rdS F.TIM_RATE_VALUE = max (-2 ^ 29) (min (2 ^ 29) r) ∧ t.tim.armedRate = none ∧
    ((r < -2 ^ 29 ∨ 2 ^ 29 < r) → t.on F.TIM_INT_STATUS_RATE_CLAMPED = true) ∧
    t = { u with regs := t.regs, hwSet := t.hwSet, cntTick := t.cntTick, tim := t.tim, idn := t.idn })) ∧
  (∀ (s : State) (st : ArmedStep), s.clocked = true → s.now < 2 ^ 64 → s.tim.epochTick ≠ some s.now → s.tim.armedStep = some st → st.tick < s.now → s.tim.servoStep = none → s.stepAllowed = true → 
    Completes (.epochChange) s (fun t => t.params = {
      since := s.now, anchor := s.now, rate := s.params.rate,
      offset := if st.relative then viewWrap ((s.viewAt s.now 0 : Nat) + st.amount) else viewWrap st.amount,
      epoch := if s.params.epoch ≥ 255 then 1 else s.params.epoch + 1 } ∧
    t.rd2 F.TIM_LAST_EPOCH_LO_VALUE F.TIM_LAST_EPOCH_HI_VALUE = s.now ∧ t.on F.TIM_INT_STATUS_EPOCH_CHANGE = true ∧
    t.on F.TIM_STATUS_TIME_VALID = true ∧ t.on F.TIM_STEP_CTRL_PENDING = false ∧ t.tim.armedStep = none ∧
    t.tim.epochTick = some s.now ∧ t.now = s.now)) ∧
  (∀ (s : State) (st : ArmedStep), s.clocked = true → s.tim.epochTick ≠ some s.now → s.tim.armedStep = some st → st.tick < s.now → s.tim.servoStep = none → s.stepAllowed = false → 
    Completes (.epochChange) s (fun t => t.tim.params = s.tim.params ∧ t.tim.armedStep = none ∧ t.on F.TIM_STEP_CTRL_PENDING = false ∧
    t.on F.TIM_INT_STATUS_STEP_DROPPED = true ∧
    RegsBut s t [(F.TIM_STEP_CTRL_PENDING, 0), (F.TIM_INT_STATUS_STEP_DROPPED, 0)] ∧ t.flt = s.flt ∧ t.evr = s.evr ∧ t.fwd = s.fwd))

/-- A snapshot asked for before this tick is captured at its boundary, once class 3 of the tick is done: the Canopy, the view and
the epoch, and DONE (R39). The time base starts at Canopy 0 with Offset, Rate, anchor and epoch 0 (R40). A TPLL that loses lock
holds its control word, with TPLL_UNLOCK, REF_LOST and a CRITICAL fault, and the Canopy goes on (R42); one that regains it, on
the first good input of its list, ends REF_LOST (R92). In a tick that is a multiple of 64, a follower found wrong sets its bit
of FOLLOW_STATUS, is reloaded at the next boundary and raises a DEGRADED fault, and one found right has this tick as its last
good comparison (R21). A counter that has agreed for 1,024 ticks returns to the vote, and nothing but VOTE_STATUS and
STATUS.VOTERS changes (R20). It also rests on the model's own readings of log 3. -/
def Obligations.TimeBaseStartsComparesAndCaptures : Prop :=
  (∀ (s : State) (g : Fin 4) (t0 : Nat), s.live = true → nth s.tim.snapReq g.val none = some t0 → t0 < s.now → s.now < 2 ^ 64 → s.Settled → 
    Completes (.snapCapture g) s (fun t => t.rd2 F.TIM_SNAP_RAW_LO_VALUE F.TIM_SNAP_RAW_HI_VALUE g.val = s.now ∧
    t.rd2 F.TIM_SNAP_SEC_LO_VALUE F.TIM_SNAP_SEC_HI_VALUE g.val = viewSec (s.viewAt s.now 0) ∧
    t.rd F.TIM_SNAP_NS_VALUE g.val = viewNs (s.viewAt s.now 0) ∧ t.rd F.TIM_SNAP_FRAC_VALUE g.val = viewFrac (s.viewAt s.now 0) ∧
    t.rd F.TIM_SNAP_EPOCH_VALUE g.val = s.epoch ∧ t.on F.TIM_SNAP_CTRL_DONE g.val = true ∧
    nth t.tim.snapReq g.val none = none ∧ t = { s with regs := t.regs, tim := t.tim })) ∧
  (∀ (s : State), s.pins.porst = false → s.pins.tripped = false → s.on F.TIM_STATUS_RUN = false → 
    Completes (.timeBaseStart) s (fun t => t.now = 0 ∧ t.params = {} ∧ t.epoch = 0 ∧ t.on F.TIM_STATUS_RUN = true ∧ t.on F.TIM_STATUS_TPLL_LOCK = true ∧
    t.viewAt 0 0 = 0 ∧ t.tim.voter = {} ∧ t = { s with regs := t.regs, tim := t.tim })) ∧
  (∀ (s : State), s.clocked = true → s.on F.TIM_STATUS_TPLL_LOCK = true → 
    Completes (.tpllUnlock) s (fun t => t.tim.tpllHeld = true ∧ t.on F.TIM_STATUS_TPLL_LOCK = false ∧ t.on F.TIM_INT_STATUS_TPLL_UNLOCK = true ∧
    t.on F.SYN_SERVO_STATUS_REF_LOST = true ∧ t.holdoverFlag = true ∧ t.flt.held = s.flt.held ++ [⟨1, 5, 3, 0, s.now⟩] ∧ t.now = s.now)) ∧
  (∀ (s : State) (i : Fin 3), s.clocked = true → s.on F.TIM_STATUS_TPLL_LOCK = false → s.refOrder.find? (fun c => bit (s.rd F.SYN_REF_STATUS_GOOD) c) = some i.val → 
    Completes (.tpllRelock i) s (fun t => t.tim.tpllHeld = false ∧ t.on F.TIM_STATUS_TPLL_LOCK = true ∧ t.on F.SYN_SERVO_STATUS_REF_LOST = false ∧
    t.rd F.SYN_REF_STATUS_CURRENT = i.val ∧ t.now = s.now)) ∧
  (∀ (s : State) (bad : BitVec 16) (g : Fin 16), s.clocked = true → s.now % 64 = 0 ∧ s.ran.contains 3 = false → s.tim.followerGood.length = 16 → 
    Completes (.followerCompare bad) s (fun t => (bit bad.toNat g.val = true → bit (t.rd F.TIM_FOLLOW_STATUS_MISMATCH) g.val = true ∧ bit t.tim.followerReload g.val = true ∧
      (⟨1, 4, 1, g.val, s.now⟩ : FaultEvent) ∈ t.flt.held) ∧
    (bit bad.toNat g.val = false → nth t.tim.followerGood g.val 0 = s.now) ∧ t.tim.params = s.tim.params ∧ t.now = s.now ∧ t.fwd = s.fwd ∧
    t.cmd = s.cmd)) ∧
  (∀ (s : State) (i : Fin 3), s.clocked = true → bit (s.rd F.TIM_VOTE_STATUS_REJOINING) i.val = true → bit (s.rd F.TIM_VOTE_STATUS_ACTIVE) i.val = false → 1024 ≤ (if i = 0 then s.tim.voter.agreeA else if i = 1 then s.tim.voter.agreeB else s.tim.voter.agreeC) → 
    Completes (.rejoinComplete i) s (fun t => t.rd F.TIM_VOTE_STATUS_ACTIVE = s.rd F.TIM_VOTE_STATUS_ACTIVE + 2 ^ i.val ∧
    t.rd F.TIM_STATUS_VOTERS = t.rd F.TIM_VOTE_STATUS_ACTIVE ∧ bit (t.rd F.TIM_VOTE_STATUS_REJOINING) i.val = false ∧
    RegsBut s t [(F.TIM_VOTE_STATUS_ACTIVE, 0), (F.TIM_STATUS_VOTERS, 0), (F.TIM_VOTE_STATUS_REJOINING, 0)] ∧ t = { s with regs := t.regs }))

/-- A run without block lock in 10 ms ends with RESULT 1. A run that completes computes the delay sum; more than 2,048 fine units
away from the nominal sum it ends with RESULT 2 and a NOTE fault, and otherwise it splits the excess by SPLIT and, with APPLY,
writes both delays in one implicit transaction and sets CALIBRATED. Every 800,000 ticks the correction of a port is its mode's
TEMPCO times the difference from CAL_TEMP; beyond 15 degrees CAL_STALE is set. It also rests on the model's own readings of log
4 and log 32. -/
def Obligations.CalibrationEndsAndTemperatureCorrects : Prop :=
  (∀ (s : State) (r : CalRun), s.live = true → s.tsu.cal = some r → r.start + 8000000 ≤ s.now → 
    Completes (.calLockTimeout) s (fun t => t.tsu.cal = none ∧ t.on F.TSU_CAL_STATUS_BUSY = false ∧ t.on F.TSU_CAL_STATUS_DONE = true ∧
    t.rd F.TSU_CAL_STATUS_RESULT = 1 ∧ t.on F.TSU_INT_STATUS_CAL_FAIL = true ∧ t.rd F.LAN_PORT_STATUS_STATE r.port = 0 ∧
    t = { s with regs := t.regs, hwSet := t.hwSet, cntTick := t.cntTick, tsu := t.tsu })) ∧
  (∀ (s : State) (r : CalRun) (sum : Nat) (temp : BitVec 8), s.live = true → s.tsu.cal = some r → r.port < 512 → 
    let mode := s.rd F.LAN_PORT_CFG_MODE r.port
    let nom : Nat := s.rd F.TSU_NOM_ING_VALUE mode + s.rd F.TSU_NOM_EGR_VALUE mode
    let total : Int := ((2 * sum + 2 ^ r.count) / (2 * 2 ^ r.count) : Nat) - (s.rd F.TSU_LB_DELAY_VALUE (r.port / 32) : Int)
    let egr : Int := s.rd F.TSU_NOM_EGR_VALUE mode + Int.fdiv ((total - nom) * s.rd F.TSU_PORT_CFG_SPLIT r.port + 128) 256
    let ing : Int := total - egr
    Completes (.calDone sum temp) s (fun t => t.tsu.cal = none ∧ t.on F.TSU_CAL_STATUS_BUSY = false ∧ t.on F.TSU_CAL_STATUS_DONE = true ∧ t.rd F.TSU_CAL_SUM_VALUE = ofS 24 total ∧
    (2048 < (total - nom).natAbs → t.rd F.TSU_CAL_STATUS_RESULT = 2 ∧ t.flt.held = s.flt.held ++ [⟨4, 1, 0, 0, r.port⟩] ∧ t.cmd = s.cmd ∧
      t.rd F.TSU_PORT_STATUS_CALIBRATED r.port = s.rd F.TSU_PORT_STATUS_CALIBRATED r.port) ∧
    ((total - nom).natAbs ≤ 2048 → t.rd F.TSU_CAL_STATUS_RESULT = 0 ∧ t.on F.TSU_INT_STATUS_CAL_DONE = true ∧ t.flt = s.flt ∧
      t.rd F.TSU_PORT_STATUS_CAL_TEMP r.port = temp.toNat) ∧
    ((total - nom).natAbs ≤ 2048 → r.apply = true → t.on F.TSU_PORT_STATUS_CALIBRATED r.port = true ∧
      (t.cmd.txns.getLast?).map (fun x => (x.implicit, x.words)) = some (true,
        [⟨F.TSU_ING_DELAY_VALUE.addr r.port, 0xFFFFF, ofS 20 ing⟩, ⟨F.TSU_EGR_DELAY_VALUE.addr r.port, 0xFFFFF, ofS 20 egr⟩])))) ∧
  (∀ (s : State) (p : Fin 512) (temp : BitVec 8), s.live = true → s.on F.TSU_PORT_CFG_TEMP_COMP p.val = true → s.now % 800000 = 0 ∧ s.ran.contains (2048 + p.val) = false → 
    let d := temp.toInt - s.rdS F.TSU_PORT_STATUS_CAL_TEMP p.val
    Completes (.tempCompUpdate p temp) s (fun t => t.rd F.TSU_TEMP_CORR_VALUE p.val = ofS 16 (Int.fdiv (s.rdS F.TSU_TEMPCO_VALUE (s.rd F.TSU_PORT_STATUS_MODE p.val) * d) 256) ∧
    (15 < d.natAbs → t.on F.TSU_PORT_STATUS_CAL_STALE p.val = true ∧ t.on F.TSU_INT_STATUS_CAL_STALE = true) ∧
    (d.natAbs ≤ 15 → RegsBut s t [(F.TSU_TEMP_CORR_VALUE, p.val)]) ∧ t = { s with regs := t.regs, hwSet := t.hwSet, ran := t.ran }))

/-- A REJOIN write of Seat 0 marks the retired counters of its mask as rejoining and due to be loaded. A Rate write with the servo
off is armed for the next boundary, and RATE still reads the Rate in force. GO with no step pending in a phase that permits
steps latches the staged target and MODE, and sets PENDING. TAKE of a seat in its own group asks for a snapshot and clears DONE.
Each answers OK and extends CFG_DIGEST. A write of SERVO_SRC while the servo runs is a change of source: to the first listed
source that is valid, with ACQUIRING, or to none, with HOLDOVER; FREERUN while the epoch is 0. Turning the servo on loads f from
RATE and chooses its source in the same way. POP takes the oldest capture from its FIFO. A calibration GO on a stopped front-
panel port of the seat, with no run busy, sets BUSY and engages the loopback. It also rests on the model's own readings of log
13. -/
def Obligations.TimeAndSyncWritesOfASeat : Prop :=
  (∀ (s : State) (mask : BitVec 3), s.Free (F.TIM_VOTE_CTRL_REJOIN.addr 0) → 
    let m := mask.toNat &&& (7 ^^^ (s.rd F.TIM_VOTE_STATUS_ACTIVE ||| s.rd F.TIM_VOTE_STATUS_REJOINING))
    Completes (.rejoin 0 mask) s (fun t => t.resp = some ⟨.ok, []⟩ ∧ t.rd F.TIM_VOTE_STATUS_REJOINING = (s.rd F.TIM_VOTE_STATUS_REJOINING ||| m) ∧
    t.tim.voter.reload = (s.tim.voter.reload ||| m) ∧ t.now = s.now ∧
    RegsBut s t ((F.TIM_VOTE_STATUS_REJOINING, 0) :: digestFields))) ∧
  (∀ (s : State) (value : Word), s.Free (F.TIM_RATE_VALUE.addr 0) → s.on F.SYN_SERVO_CTRL_ENABLE = false → 
    Completes (.rateWrite 0 value) s (fun t => t.resp = some ⟨.ok, []⟩ ∧ t.tim.armedRate = some (s.now, value.toInt) ∧ t.tim.params = s.tim.params ∧ RegsBut s t digestFields)) ∧
  (∀ (s : State) (relative : Bool), s.Free (F.TIM_STEP_CTRL_GO.addr 0) → s.on F.TIM_STEP_CTRL_PENDING = false → s.stepAllowed = true → 
    Completes (.stepGo 0 relative) s (fun t => t.resp = some ⟨.ok, []⟩ ∧ t.tim.armedStep = some ⟨s.now, relative, s.stepTarget relative, false, false⟩ ∧
    t.on F.TIM_STEP_CTRL_PENDING = true ∧ t.on F.TIM_STEP_CTRL_MODE = relative ∧ t.tim.params = s.tim.params ∧
    RegsBut s t ((F.TIM_STEP_CTRL_PENDING, 0) :: (F.TIM_STEP_CTRL_MODE, 0) :: digestFields))) ∧
  (∀ (s : State) (g : Fin 4), s.Free (F.TIM_SNAP_CTRL_TAKE.addr g.val) → s.tim.snapReq.length = 4 → 
    Completes (.snapTake g g) s (fun t => t.resp = some ⟨.ok, []⟩ ∧ nth t.tim.snapReq g.val none = some s.now ∧ t.on F.TIM_SNAP_CTRL_DONE g.val = false ∧
    RegsBut s t ((F.TIM_SNAP_CTRL_DONE, g.val) :: digestFields))) ∧
  (∀ (s : State) (order : BitVec 16), s.Free (F.SYN_SERVO_SRC_ORDER.addr 0) → s.on F.SYN_SERVO_CTRL_ENABLE = true → 
    let o := order.toNat
    let listed := [o % 16, o / 16 % 16, o / 256 % 16, o / 4096].filter (fun c => c < 6)
    Completes (.servoSrcWrite 0 order) s (fun t => t.resp = some ⟨.ok, []⟩ ∧ t.rd F.SYN_SERVO_SRC_ORDER = o ∧
    t.rd F.SYN_SERVO_STATUS_SOURCE = (listed.find? s.srcValid).getD 15 ∧
    t.rd F.SYN_SERVO_STATUS_STATE = (if s.epoch = 0 then 1 else if (listed.find? s.srcValid).isSome then 2 else 5) ∧
    t.syn.servo.meas = none ∧ t.now = s.now)) ∧
  (∀ (s : State) (value : Word), s.Free (F.SYN_SERVO_CTRL_ENABLE.addr 0) → s.on F.SYN_SERVO_CTRL_ENABLE = false → bit value.toNat 0 = true → 
    Completes (.servoEnable 0 value) s (fun t => t.resp = some ⟨.ok, []⟩ ∧ t.on F.SYN_SERVO_CTRL_ENABLE = true ∧ t.rd F.SYN_FREQ_VALUE = s.rd F.TIM_RATE_VALUE ∧
    t.rd F.SYN_SERVO_STATUS_SOURCE = (s.srcOrder.find? s.srcValid).getD 15 ∧
    t.rd F.SYN_SERVO_STATUS_STATE = (if s.epoch = 0 then 1 else if (s.srcOrder.find? s.srcValid).isSome then 2 else 5) ∧
    (s.epoch = 0 ∨ (s.srcOrder.find? s.srcValid).isSome → t.tim.params = s.tim.params))) ∧
  (∀ (s : State) (pin : Fin 8), s.Free (F.SYN_EVTI_CTRL_POP.addr pin.val) → s.syn.evti.length = 8 → 
    Completes (.evtiPop 0 pin) s (fun t => t.resp = some ⟨.ok, []⟩ ∧ nth t.syn.evti pin.val [] = (nth s.syn.evti pin.val []).drop 1 ∧
    (∀ q : Fin 8, q ≠ pin → nth t.syn.evti q.val [] = nth s.syn.evti q.val []) ∧ t.tim = s.tim ∧ t.evr = s.evr)) ∧
  (∀ (s : State) (seat : Fin 4) (port : Fin 512) (apply : Bool) (count : Fin 16), s.Free (F.TSU_CAL_CTRL_GO.addr 0) → s.ownsPort seat.val port.val = true → s.on F.TSU_CAL_STATUS_BUSY = false → s.portStopped port.val = true → 
    Completes (.calGo seat ⟨port.val, by omega⟩ apply count) s (fun t => t.resp = some ⟨.ok, []⟩ ∧ t.tsu.cal = some ⟨port.val, apply, max 4 (min 12 count.val), seat.val, s.now⟩ ∧
    t.on F.TSU_CAL_STATUS_BUSY = true ∧ t.on F.TSU_CAL_STATUS_DONE = false ∧ t.rd F.LAN_PORT_STATUS_STATE port.val = 7 ∧
    t = { s with regs := t.regs, rwSet := t.rwSet, tsu := t.tsu, idn := t.idn, cmd := t.cmd, resp := t.resp }))

/-- A message's ingress stamp is the view of its raw form, the ingress delays taken out. A one-step Sync taken by one association
whose path delay is known, stamped in the current epoch, gives the measurement T1 + correction + mean path + asymmetry - T2 to a
servo that follows it; so does the Follow_Up that answers a pending two-step Sync, with both corrections. A two-step Sync waits
for its Follow_Up, and a Sync stamped in another epoch is discarded and counted. A Delay_Req leaves, its interval being over,
with the next sequenceId, and the first Delay_Resp that answers it sets the mean path to half of the two one-way differences, a
later one through the filter. A port's own Pdelay_Req and its answer set LINK_DELAY to half of the round trip less turnaround
and corrections, and a received Pdelay_Req is answered. A master port sends a Sync, its interval being over, two-step or with
the view of its prediction to the nearest nanosecond, and answers a Delay_Req with the ingress view, its fraction going to the
correctionField. It also rests on the model's own readings of log 33 and log 34. -/
def Obligations.PtpMessagesMeasureOffsetAndPath : Prop :=
  (∀ (s : State) (a : Fin 4) (m : PtpMsg), s.live = true → s.Settled → ∀ b : Fin 4, s.assocTakes b.val m = decide (b = a) → s.syn.assocs.length = 4 ∧ s.syn.servo.lastValid.length = 6 ∧ s.syn.servo.goodRun.length = 6 → (nth s.syn.assocs a.val {}).pend = none ∧ (nth s.syn.assocs a.val {}).hasPath = true → (paramsAt s.tim.params (s.ptpRaw m / 16)).2 = false ∧ s.stampEpoch (s.ptpRaw m) = s.epoch → s.on F.SYN_ASSOC_CTRL_DELAY_MECH a.val = false → s.on F.SYN_SERVO_CTRL_ENABLE = true ∧ s.srcOrder.contains a.val = true ∧ s.rd F.SYN_SERVO_STATUS_SOURCE = a.val → 
    let t1 : Int := (m.sec.toNat * 1000000000 + m.ns.toNat) * 65536
    let t2 : Int := (s.stampView (s.ingressRaw m.port.val m.detect m.var) : Nat)
    let mp := toS 64 (s.rd2 F.SYN_MEAN_PATH_LO_VALUE F.SYN_MEAN_PATH_HI_VALUE a.val)
    Completes (.syncReceive m false false) s (fun t => t.syn.servo.meas = some ⟨t1 + m.corr + mp + s.rdS F.SYN_ASSOC_ASYM_VALUE a.val - t2, a.val, true, s.now⟩ ∧
    t.rd F.SYN_ASSOC_STATUS_LAST_SEQ a.val = m.seq.toNat ∧ t.on F.SYN_ASSOC_STATUS_VALID a.val = true ∧
    (nth t.syn.assocs a.val {}).sample = some ⟨t1, m.corr, t2, s.epoch⟩ ∧
    nth t.syn.servo.lastValid a.val none = some s.now ∧
    RegsBut s t [(F.SYN_ASSOC_STATUS_LAST_SEQ, a.val), (F.SYN_ASSOC_STATUS_VALID, a.val)] ∧ t = { s with regs := t.regs, syn := t.syn })) ∧
  (∀ (s : State) (a : Fin 4) (m : PtpMsg) (q : SyncPend), s.live = true → s.Settled → ∀ b : Fin 4, s.assocTakes b.val m = decide (b = a) → s.syn.assocs.length = 4 ∧ s.syn.servo.lastValid.length = 6 ∧ s.syn.servo.goodRun.length = 6 → (nth s.syn.assocs a.val {}).pend = some q ∧ q.seq = m.seq.toNat ∧ q.t2Epoch = s.epoch ∧ (nth s.syn.assocs a.val {}).hasPath = true → (paramsAt s.tim.params (s.ptpRaw m / 16)).2 = false → s.on F.SYN_ASSOC_CTRL_DELAY_MECH a.val = false → s.on F.SYN_SERVO_CTRL_ENABLE = true ∧ s.srcOrder.contains a.val = true ∧ s.rd F.SYN_SERVO_STATUS_SOURCE = a.val → 
    let t1 : Int := (m.sec.toNat * 1000000000 + m.ns.toNat) * 65536
    let mp := toS 64 (s.rd2 F.SYN_MEAN_PATH_LO_VALUE F.SYN_MEAN_PATH_HI_VALUE a.val)
    Completes (.syncReceive m true false) s (fun t => t.syn.servo.meas = some ⟨t1 + (q.corr + m.corr) + mp + s.rdS F.SYN_ASSOC_ASYM_VALUE a.val - q.t2, a.val, true, s.now⟩ ∧
    t.rd F.SYN_ASSOC_STATUS_LAST_SEQ a.val = m.seq.toNat ∧ t.on F.SYN_ASSOC_STATUS_VALID a.val = true ∧
    (nth t.syn.assocs a.val {}).pend = none ∧ (nth t.syn.assocs a.val {}).sample = some ⟨t1, q.corr + m.corr, q.t2, s.epoch⟩ ∧
    RegsBut s t [(F.SYN_ASSOC_STATUS_LAST_SEQ, a.val), (F.SYN_ASSOC_STATUS_VALID, a.val)] ∧ t = { s with regs := t.regs, syn := t.syn })) ∧
  (∀ (s : State) (a : Fin 4) (m : PtpMsg) (twoStep : Bool), s.live = true → s.Settled → ∀ b : Fin 4, s.assocTakes b.val m = decide (b = a) → s.syn.assocs.length = 4 ∧ s.syn.servo.goodRun.length = 6 → (nth s.syn.assocs a.val {}).pend = none → (paramsAt s.tim.params (s.ptpRaw m / 16)).2 = false → twoStep = true ∨ s.stampEpoch (s.ptpRaw m) ≠ s.epoch → 
    let raw := s.ingressRaw m.port.val m.detect m.var
    Completes (.syncReceive m false twoStep) s (fun t => (twoStep = true → (nth t.syn.assocs a.val {}).pend = some ⟨m.seq.toNat, m.corr, (s.stampView raw : Nat), s.stampEpoch raw⟩ ∧
      t = { s with syn := t.syn }) ∧
    (twoStep = false → t = (s.bump 4 13).setServo (fun v => { v with goodRun := upd v.goodRun a.val (fun _ => 0) })) ∧
    (nth t.syn.assocs a.val {}).sample = (nth s.syn.assocs a.val {}).sample)) ∧
  (∀ (s : State) (a : Fin 4) (var : Nat), s.live = true → s.Settled → s.syn.assocs.length = 4 → s.on F.SYN_ASSOC_CTRL_ENABLE a.val = true → s.on F.SYN_ASSOC_CTRL_DELAY_MECH a.val = false → s.intervalOver (nth s.syn.assocs a.val {}).lastReq (s.rd F.SYN_ASSOC_VLAN_LOG_DELAY_REQ a.val) = true → 
    let n := (nth s.syn.assocs a.val {}).nextSeq
    let p := s.rd F.SYN_ASSOC_CTRL_PORT a.val
    let raw := s.egressRaw p (320 * s.now : Nat) var
    Completes (.delayReqSend a var) s (fun t => (nth t.syn.assocs a.val {}).dreq = some ⟨n, (s.stampView raw : Nat), s.stampEpoch raw, raw⟩ ∧
    (nth t.syn.assocs a.val {}).nextSeq = (n + 1) % 65536 ∧ (nth t.syn.assocs a.val {}).lastReq = some s.now ∧
    t.syn.ptpSent = some ⟨1, p, n, s.stampView raw, false, 0, some raw⟩ ∧ t = { s with syn := t.syn })) ∧
  (∀ (s : State) (a : Fin 4) (m : PtpMsg) (d : DelayReqSent) (q : SyncSample), s.live = true → s.syn.assocs.length = 4 → ∀ b : Fin 4, s.assocTakes b.val m = decide (b = a) → s.on F.SYN_ASSOC_CTRL_DELAY_MECH a.val = false → (nth s.syn.assocs a.val {}).dreq = some d ∧ (nth s.syn.assocs a.val {}).sample = some q → d.seq = m.seq.toNat ∧ d.t3Epoch = q.t2Epoch → 
    let t4 : Int := (m.sec.toNat * 1000000000 + m.ns.toNat) * 65536
    let pd := Int.fdiv ((q.t2 - q.t1 - q.corr) + (t4 - d.t3 - m.corr)) 2
    let mp := toS 64 (s.rd2 F.SYN_MEAN_PATH_LO_VALUE F.SYN_MEAN_PATH_HI_VALUE a.val)
    Completes (.delayRespReceive m) s (fun t => t.rd2 F.SYN_MEAN_PATH_LO_VALUE F.SYN_MEAN_PATH_HI_VALUE a.val = ofS 64 (if (nth s.syn.assocs a.val {}).hasPath then
      mp + Int.fdiv (pd - mp) (2 ^ s.rd F.SYN_ASSOC_FILTER_PD_SHIFT a.val) else pd) ∧
    (nth t.syn.assocs a.val {}).hasPath = true ∧ (nth t.syn.assocs a.val {}).dreq = none ∧
    RegsBut s t [(F.SYN_MEAN_PATH_LO_VALUE, a.val), (F.SYN_MEAN_PATH_HI_VALUE, a.val)] ∧ t = { s with regs := t.regs, syn := t.syn })) ∧
  (∀ (s : State) (port : Fin 512) (var : Nat), s.live = true → s.Settled → s.runsPdelay port.val = true → s.maySend port.val = true → 
    let x := s.syn.mport port.val
    let raw := s.egressRaw port.val (320 * s.now : Nat) var
    Completes (.pdelayReqSend port var) s (fun t => (t.syn.mport port.val).pdT1 = some (s.stampView raw : Nat) ∧ (t.syn.mport port.val).pdSeq = (x.pdSeq + 1) % 65536 ∧
    t.syn.ptpSent = some ⟨2, port.val, x.pdSeq, s.stampView raw, false, 0, some raw⟩ ∧ t = { s with syn := t.syn })) ∧
  (∀ (s : State) (port : Fin 512) (version : BitVec 8) (seq : BitVec 16) (turnaround corr : Int) (detect var : Nat) (t1 : Int), s.live = true → s.Settled → version.toNat = 0x02 ∨ version.toNat = 0x12 → s.runsPdelay port.val = true → (paramsAt s.tim.params (s.ingressRaw port.val detect var / 16)).2 = false → (s.syn.mport port.val).pdT1 = some t1 → (seq.toNat + 1) % 65536 = (s.syn.mport port.val).pdSeq → 
    let t4 : Int := (s.stampView (s.ingressRaw port.val detect var) : Nat)
    Completes (.pdelayExchange port false ⟨version, seq⟩ turnaround corr ⟨detect, var⟩) s (fun t => t.rd F.SYN_MPORT_LINK_LINK_DELAY port.val = ofS 32 (Int.fdiv (t4 - t1 - turnaround - corr) 2) ∧
    (t.syn.mport port.val).linkValid = true ∧ (t.syn.mport port.val).pdT1 = none ∧
    RegsBut s t [(F.SYN_MPORT_LINK_LINK_DELAY, port.val)] ∧ t = { s with regs := t.regs, syn := t.syn })) ∧
  (∀ (s : State) (port : Fin 512) (version : BitVec 8) (seq : BitVec 16) (turnaround corr : Int) (detect var : Nat), s.live = true → s.Settled → version.toNat = 0x02 ∨ version.toNat = 0x12 → s.runsPdelay port.val = true → s.maySend port.val = true → (paramsAt s.tim.params (s.ingressRaw port.val detect var / 16)).2 = false → 
    Completes (.pdelayExchange port true ⟨version, seq⟩ turnaround corr ⟨detect, var⟩) s (fun t => t.syn.ptpSent = some ⟨3, port.val, seq.toNat, s.stampView (s.ingressRaw port.val detect var), true, corr, none⟩ ∧ t = { s with syn := t.syn })) ∧
  (∀ (s : State) (port : Fin 512) (var : Nat), s.live = true → s.Settled → s.rd F.SYN_MPORT_CTRL_ROLE port.val = 1 → s.on F.TIM_STATUS_TIME_VALID = true → s.intervalOver (s.syn.mport port.val).lastSync (s.rd F.SYN_MPORT_CTRL_LOG_SYNC port.val) = true → 
    let x := s.syn.mport port.val
    let two := s.rd F.SYN_MPORT_CTRL_TWO_STEP port.val ≠ 0 ∨ s.on F.TSU_PORT_CFG_ONE_STEP port.val = false
    let raw := s.egressRaw port.val (320 * s.now : Nat) var
    let ns := (s.viewAt (raw / 16) (raw % 16) + 32768) / 65536 * 65536
    Completes (.masterSyncSend port var) s (fun t => (t.syn.mport port.val).lastSync = some s.now ∧ (t.syn.mport port.val).syncSeq = (x.syncSeq + 1) % 65536 ∧
    (two → t.syn.ptpSent = some ⟨0, port.val, x.syncSeq, s.stampView raw, true, 0, some raw⟩) ∧
    (¬two → t.syn.ptpSent = some ⟨0, port.val, x.syncSeq, ns, false, 0, none⟩ ∧
      (port.val, raw, ns, s.epoch) ∈ t.syn.oneStep) ∧ t = { s with syn := t.syn })) ∧
  (∀ (s : State) (m : PtpMsg), s.live = true → s.Settled → m.version.toNat = 0x02 ∨ m.version.toNat = 0x12 → s.rd F.SYN_MPORT_CTRL_ROLE m.port.val = 1 → s.on F.TIM_STATUS_TIME_VALID = true → s.rd F.SYN_MPORT_CTRL_DOMAIN m.port.val = m.domain.toNat → (paramsAt s.tim.params (s.ptpRaw m / 16)).2 = false → 
    let v := s.stampView (s.ingressRaw m.port.val m.detect m.var)
    Completes (.delayReqAnswer m) s (fun t => t.syn.ptpSent = some ⟨9, m.port.val, m.seq.toNat, v - v % 65536, false, m.corr + (v % 65536 : Nat), none⟩ ∧ t = { s with syn := t.syn }))

/-- At the first boundary after it, a measurement outside SLEWING and within the phase's threshold, whose proportional part keeps to
the slew limit, moves f by its integral part and sets Rate to f plus the proportional part, and shows in LAST_OFFSET. While the
epoch is 0, a measurement that carries seconds sets the time for the first time: a step by it opens the first epoch at that
boundary. A servo whose source has fallen silent and that has no other valid source enters HOLDOVER at Rate f with a DEGRADED
fault. It also rests on the model's own readings of log 34. -/
def Obligations.ServoFollowsMeasurementsAndLosesSources : Prop :=
  (∀ (s : State) (m : Meas), s.live = true → s.on F.SYN_SERVO_CTRL_ENABLE = true → s.syn.servo.meas = some m → m.tick < s.now → s.epoch ≠ 0 → s.rd F.SYN_SERVO_STATUS_STATE ≠ 4 → m.theta.natAbs ≤ s.rd F.SYN_PHASE_THRESH_NS s.phase * 65536 → s.epochDue = s ∧ s.rateDue = none → ((Int.fdiv (Int.fdiv (m.theta * 2 ^ 24) (s.srcInterval m.src)) (2 ^ s.rd F.SYN_SERVO_CTRL_KP_SHIFT)).natAbs : Int) ≤
      (s.rd F.SYN_PHASE_SLEW_PPB s.phase * 2 ^ 40 / 1000000000 : Nat) → 
    let e := Int.fdiv (m.theta * 2 ^ 24) (s.srcInterval m.src)
    let f := max (-2 ^ 29) (min (2 ^ 29) (s.rdS F.SYN_FREQ_VALUE + Int.fdiv e (2 ^ s.rd F.SYN_SERVO_CTRL_KI_SHIFT)))
    Completes (.servoUpdate) s (fun t => t.rdS F.SYN_FREQ_VALUE = f ∧
    t.params.rate = max (-2 ^ 29) (min (2 ^ 29) (f + Int.fdiv e (2 ^ s.rd F.SYN_SERVO_CTRL_KP_SHIFT))) ∧
    t.rd2 F.SYN_LAST_OFFSET_LO_VALUE F.SYN_LAST_OFFSET_HI_VALUE = ofS 64 m.theta ∧ t.syn.servo.meas = none ∧
    t.viewAt s.now 0 = s.viewAt s.now 0 ∧ t.tim.servoStep = s.tim.servoStep)) ∧
  (∀ (s : State) (m : Meas), s.live = true → s.on F.SYN_SERVO_CTRL_ENABLE = true → s.syn.servo.meas = some m → m.tick < s.now → s.epoch = 0 → m.seconds = true → s.epochDue = s ∧ s.rateDue = none ∧ s.tim.epochTick ≠ some s.now → 
    Completes (.servoUpdate) s (fun t => t.params = { since := s.now, offset := viewWrap ((s.viewAt s.now 0 : Nat) + m.theta), anchor := s.now, rate := s.params.rate, epoch := nextEpoch s.params.epoch } ∧
    t.tim.epochTick = some s.now ∧ t.on F.TIM_STATUS_TIME_VALID = true ∧ t.on F.SYN_INT_STATUS_STEP = true ∧
    t.rd F.SYN_SERVO_STATUS_STATE = 2 ∧ t.tim.servoStep = none ∧ t.syn.servo.meas = none)) ∧
  (∀ (s : State), s.live = true → s.Settled → s.on F.SYN_SERVO_CTRL_ENABLE = true → s.rd F.SYN_SERVO_STATUS_SOURCE < 6 → s.srcValid (s.rd F.SYN_SERVO_STATUS_SOURCE) = false ∧ s.srcOrder.all (fun c => !s.srcValid c) = true → 
    Completes (.sourceLoss) s (fun t => t.rd F.SYN_SERVO_STATUS_STATE = 5 ∧ t.rd F.SYN_SERVO_STATUS_SOURCE = 15 ∧ t.on F.SYN_INT_STATUS_HOLDOVER = true ∧
    t.holdoverFlag = true ∧ t.params.rate = max (-2 ^ 29) (min (2 ^ 29) (s.rdS F.SYN_FREQ_VALUE)) ∧
    t.viewAt s.now 0 = s.viewAt s.now 0 ∧
    (⟨2, 2, 1, s.rd F.SYN_SERVO_STATUS_SOURCE, s.rd2 F.SYN_LAST_OFFSET_LO_VALUE F.SYN_LAST_OFFSET_HI_VALUE⟩ : FaultEvent) ∈ t.flt.held))

/-- When the current input of a locked TPLL goes bad, the TPLL moves to the first listed input that is still good, with a NOTE fault
and no change of the view's parameters, and loses lock where none is. An input that becomes good is marked so with its tick.
With REVERT, an earlier input that has been good for 10 s is returned to. It also rests on the model's own readings of log 8. -/
def Obligations.ReferencesMoveWithoutAPhaseStep : Prop :=
  (∀ (s : State) (i : Fin 3) (j : Nat) (freq : Option Nat), s.clocked = true → freq.all (fun f => !s.refInTol i.val f) = true → bit (s.rd F.SYN_REF_STATUS_GOOD) i.val = true → s.rd F.SYN_REF_STATUS_CURRENT = i.val ∧ s.on F.TIM_STATUS_TPLL_LOCK = true → s.refOrder.find? (fun c => c != i.val && bit (s.rd F.SYN_REF_STATUS_GOOD) c) = some j → 
    Completes (.refInputLoss ⟨i, freq⟩) s (fun t => t.rd F.SYN_REF_STATUS_CURRENT = j ∧ bit (t.rd F.SYN_REF_STATUS_GOOD) i.val = false ∧ t.on F.SYN_INT_STATUS_REF_SWITCH = true ∧
    t.flt.held = s.flt.held ++ [⟨3, 1, 0, j, 0⟩] ∧ t.tim = s.tim)) ∧
  (∀ (s : State) (i : Fin 3) (freq : Option Nat), s.clocked = true → freq.all (fun f => !s.refInTol i.val f) = true → bit (s.rd F.SYN_REF_STATUS_GOOD) i.val = true → s.rd F.SYN_REF_STATUS_CURRENT = i.val ∧ s.on F.TIM_STATUS_TPLL_LOCK = true → s.refOrder.find? (fun c => c != i.val && bit (s.rd F.SYN_REF_STATUS_GOOD) c) = none → 
    Completes (.refInputLoss ⟨i, freq⟩) s (fun t => bit (t.rd F.SYN_REF_STATUS_GOOD) i.val = false ∧ t.on F.TIM_STATUS_TPLL_LOCK = false ∧ t.tim.tpllHeld = true ∧
    t.on F.SYN_SERVO_STATUS_REF_LOST = true ∧ t.flt.held = s.flt.held ++ [⟨1, 5, 3, 0, s.now⟩] ∧ t.tim.params = s.tim.params)) ∧
  (∀ (s : State) (i : Fin 3) (freq : Nat), s.clocked = true → s.refInTol i.val freq = true → s.syn.refGoodSince.length = 3 → bit (s.rd F.SYN_REF_STATUS_GOOD) i.val = false → 
    Completes (.refInputGood ⟨i, freq⟩) s (fun t => bit (t.rd F.SYN_REF_STATUS_GOOD) i.val = true ∧ nth t.syn.refGoodSince i.val none = some s.now ∧ t.tim = s.tim ∧
    (s.syn.refMoved = true → RegsBut s t [(F.SYN_REF_STATUS_GOOD, 0)] ∧ t.flt = s.flt))) ∧
  (∀ (s : State) (i j : Nat) (since : Nat), s.clocked = true → s.on F.SYN_REF_CTRL_REVERT = true ∧ s.on F.TIM_STATUS_TPLL_LOCK = true → s.refOrder = [i, j] ∧ i ≠ j ∧ s.rd F.SYN_REF_STATUS_CURRENT = j → nth s.syn.refGoodSince i none = some since → since + 8000000000 ≤ s.now → 
    Completes (.refRevert) s (fun t => t.rd F.SYN_REF_STATUS_CURRENT = i ∧ t.flt.held = s.flt.held ++ [⟨3, 1, 0, i, 0⟩] ∧ t.tim = s.tim))

/-- A valid PPS edge (0.9 s to 1.1 s after the one before) is captured with its raw form, and without a label in a known epoch shows
the offset from the nearest second. A well-formed time-of-day line in its window labels the next edge, and any other line sets
TOD_ERR. The leading edge of a pulse of a PPS output or of an EVT_OUT pin is fixed four ticks ahead at its instant of the view,
and its trailing edge waits for its own instant. A line that labels the next pulse leaves 100 ms after a PPS_OUT0 pulse. An
EVT_IN edge less than 2 ticks after the pin's last capture is a glitch; another is captured while its FIFO has room, and is
counted as dropped and sets OVERFLOW when it has none. It also rests on the model's own readings of log 60. -/
def Obligations.TimedInputsAndOutputs : Prop :=
  (∀ (s : State) (i : Fin 2) (rise : Bool) (raw : Nat) (x : PpsIn) (l : Nat), s.live = true → s.Settled → s.on F.SYN_PPS_IN_CTRL_ENABLE i.val = true ∧ s.on F.SYN_PPS_IN_CTRL_EDGE i.val = !rise → s.syn.pps.length = 2 ∧ nth s.syn.pps i.val {} = x ∧ x.last = some l ∧ x.label = none → l ≤ raw / 16 ∧ 720000000 ≤ raw / 16 - l ∧ raw / 16 - l ≤ 880000000 ∧ raw < 2 ^ 64 → s.epoch ≠ 0 → 
    let v := s.stampView raw
    let sec := (v + unitsPerSec / 2) / unitsPerSec
    Completes (.ppsInEdge i rise raw) s (fun t => t.rd2 F.SYN_PPS_IN_RAW_LO_VALUE F.SYN_PPS_IN_RAW_HI_VALUE i.val = raw / 16 ∧ t.rd F.SYN_PPS_IN_SUB_VALUE i.val = raw % 16 ∧
    t.rd2 F.SYN_PPS_IN_OFS_LO_VALUE F.SYN_PPS_IN_OFS_HI_VALUE i.val =
      ofS 64 ((sec * unitsPerSec : Nat) + s.rdS F.SYN_PPS_IN_DELAY_VALUE i.val - (v : Int)) ∧
    (nth t.syn.pps i.val {}).last = some (raw / 16) ∧ t.now = s.now)) ∧
  (∀ (s : State) (line : Bytes) (e n : Nat), s.live = true → s.on F.SYN_TOD_CTRL_RX_EN = true → s.syn.pps.length = 2 → (nth s.syn.pps (s.rd F.SYN_TOD_CTRL_RX_SRC) {}).edge = some e → todParse line = some n → 
    Completes (.todLineRx line) s (fun t => (e + 8000000 ≤ s.now ∧ s.now ≤ e + 792000000 → (nth t.syn.pps (s.rd F.SYN_TOD_CTRL_RX_SRC) {}).label = some n ∧
      t.rd2 F.SYN_TOD_SEC_LO_VALUE F.SYN_TOD_SEC_HI_VALUE = n ∧ t.on F.SYN_TOD_STATUS_LABEL_VALID = true) ∧
    (¬(e + 8000000 ≤ s.now ∧ s.now ≤ e + 792000000) → t.on F.SYN_INT_STATUS_TOD_ERR = true ∧ t.syn = s.syn) ∧ t.tim = s.tim)) ∧
  (∀ (s : State) (j : Fin 2) (v : Nat), s.live = true → s.Settled → s.on F.SYN_PPS_OUT_CTRL_ENABLE j.val = true → s.epoch ≠ 0 → s.syn.ppsOut.length = 2 ∧ s.syn.ppsOutLast.length = 2 ∧ (nth s.syn.ppsOutLast j.val none).all (fun l => l + 400000000 ≤ s.now) = true → s.trainIn (s.now + 4) (s.rdS F.SYN_PPS_OUT_OFS_OFFSET_NS j.val * 65536 % (unitsPerSec : Nat)).toNat unitsPerSec = some v → 
    let raw := s.rawIn (s.now + 4) v
    Completes (.ppsOutPulse j) s (fun t => (nth t.syn.ppsOut j.val {}).pulse = some ((nth s.syn.ppsOut j.val {}).rise raw, raw) ∧
    (nth t.syn.ppsOut j.val {}).fall = some (v + s.rd F.SYN_PPS_OUT_WIDTH_WIDTH_US j.val * 65536000) ∧
    nth t.syn.ppsOutLast j.val none = some (raw / 16) ∧ t = { s with syn := t.syn })) ∧
  (∀ (s : State) (t0 : Nat), s.live = true → s.Settled → s.on F.SYN_TOD_CTRL_TX_EN = true → nth s.syn.ppsOutLast 0 none = some t0 → t0 + 80000000 ≤ s.now → (s.syn.todTx.map Prod.fst) ≠ some t0 → 
    Completes (.todTxLine) s (fun t => t.syn.todTx = some (t0, todLine (s.nextPps t0) (s.on F.TIM_STATUS_TIME_VALID)) ∧ t = { s with syn := t.syn })) ∧
  (∀ (s : State) (pin : Fin 8) (rise : Bool) (raw : Nat), s.live = true → s.Settled → s.evtSelects pin.val rise = true → s.syn.evti.length = 8 ∧ s.syn.evtiLast.length = 8 ∧ s.syn.evtiDrops.length = 8 → s.on F.SYN_EVTI_CTRL_RECORD pin.val = false → 
    let r := stampOf ((20 * raw : Nat) - s.rdS F.SYN_EVTI_DELAY_VALUE pin.val)
    let glitch := ∃ l, nth s.syn.evtiLast pin.val none = some l ∧ r < l + 32
    Completes (.evtInEdge pin rise raw) s (fun t => (glitch → t.syn = s.syn ∧ t.regs = s.regs) ∧
    (¬glitch → (nth s.syn.evti pin.val []).length < 16 →
      nth t.syn.evti pin.val [] = nth s.syn.evti pin.val [] ++ [⟨r / 16, r % 16, rise⟩] ∧ nth t.syn.evtiLast pin.val none = some r ∧
      t.rd F.SYN_EVTI_INFO_COUNT pin.val = (nth s.syn.evti pin.val []).length + 1) ∧
    (¬glitch → 16 ≤ (nth s.syn.evti pin.val []).length → t.syn.evti = s.syn.evti ∧ nth t.syn.evtiDrops pin.val 0 = nth s.syn.evtiDrops pin.val 0 + 1 ∧ t.on F.SYN_EVTI_INFO_OVERFLOW pin.val = true ∧
      t.on F.SYN_INT_STATUS_EVT_OVERFLOW = true) ∧ t.tim = s.tim ∧ t.evr = s.evr)) ∧
  (∀ (s : State) (pin : Fin 8) (v : Nat), s.live = true → s.Settled → s.rd F.SYN_EVTO_CTRL_MODE pin.val = 2 → s.syn.evto.length = 8 → s.trainIn (s.now + 4) (viewOf (s.rd2 F.SYN_EVTO_START_SEC_LO_VALUE F.SYN_EVTO_START_SEC_HI_VALUE pin.val) (s.rd F.SYN_EVTO_START_NS_NS pin.val) 0)
      (s.rd F.SYN_EVTO_PERIOD_NS pin.val * 65536) = some v → 
    let raw := s.rawIn (s.now + 4) v
    Completes (.evtOutPulse pin) s (fun t => (nth t.syn.evto pin.val {}).pulse = some ((nth s.syn.evto pin.val {}).rise raw, raw) ∧
    (nth t.syn.evto pin.val {}).fall = some (v + s.rd F.SYN_EVTO_WIDTH_NS pin.val * 65536) ∧ t = { s with syn := t.syn }))


/-! ### The forwarding path, the buffer and the queues (chapters 4 to 10) -/

/-- A frame whose start is detected on an active port is stamped from the detection under R54, with its view, its epoch and its
flags, and waits as the newest of its ingress FIFO; where the FIFO is full it is dropped with reason 9 and nothing waits. At its
end a frame with a PCS error is taken out of the FIFO, and a good frame, no copy of which is being cut through, is known as good
wherever it waits; either is counted once. It also rests on the model's own readings of log 27 and log 63. -/
def Obligations.FramesAreStampedAndWaitForTheirSlot : Prop :=
  (∀ (s : State) (p : Fin 512) (detect var : Nat) (bytes : Bytes), s.live = true → s.portUp p.val = true ∧ s.on F.BUF_STATUS_INIT_DONE = true → s.Settled → detect / 320 = s.now → s.fwd.rx.all (fun f => f.ing != p.val) = true → (s.fwd.fifo.filter (fun x => x.port == p.val)).length < 32 * modeLanes (s.rd F.LAN_PORT_CFG_MODE p.val) → nth s.flt.pipes (p.val / 32) .down ≠ .down → beAt bytes 12 2 ≠ 0x8808 → 
    let raw := s.ingressRaw p.val detect var
    Completes (.ingressStart ⟨p.val, by omega⟩ detect var bytes) s (fun t => (t.fwd.fifo.getLast?).map (fun f => (f.id, f.ing, f.port, f.raw)) =
      some (s.fwd.nextFrame, p.val, p.val, s.ingressRaw p.val detect var) ∧
    (t.fwd.fifo.getLast?).map (fun f => (f.view, f.epoch, f.uncal, f.hold)) =
      some (s.stampView raw, s.stampEpoch raw, s.uncalFlag p.val, s.holdAt (raw / 16)) ∧
    (t.fwd.fifo.getLast?).map (fun f => (f.gen, f.bytes, f.ended)) =
      some (s.genOf (s.ingressRaw p.val detect var), bytes.take (s.rd F.MAC_PORT_CFG_MAX_LEN p.val + 1), false) ∧
    t.fwd.fifo.length = s.fwd.fifo.length + 1 ∧ t.fwd.rx.length = s.fwd.rx.length + 1 ∧ t.fwd.nextFrame = s.fwd.nextFrame + 1 ∧
    t.buf = s.buf ∧ t.qsg = s.qsg ∧ t.tbl = s.tbl ∧ t.cmd = s.cmd ∧ t.tim = s.tim)) ∧
  (∀ (s : State) (p : Fin 512) (detect var : Nat) (bytes : Bytes), s.live = true → s.portUp p.val = true ∧ s.on F.BUF_STATUS_INIT_DONE = true → s.Settled → detect / 320 = s.now → s.fwd.rx.all (fun f => f.ing != p.val) = true → 32 * modeLanes (s.rd F.LAN_PORT_CFG_MODE p.val) ≤ (s.fwd.fifo.filter (fun x => x.port == p.val)).length → 
    Completes (.ingressStart ⟨p.val, by omega⟩ detect var bytes) s (fun t => t.fwd.fifo = s.fwd.fifo ∧ t.fwd.rx = s.fwd.rx ∧ t.cntTick.get (cntKey 2 9 p.val) 0 = s.cntTick.get (cntKey 2 9 p.val) 0 + 1 ∧
    t.buf = s.buf ∧ t.qsg = s.qsg)) ∧
  (∀ (s : State) (p : Fin 512) (f : Frame), s.live = true → s.fwd.rx.find? (fun x => x.ing == p.val) = some f → 
    Completes (.frameEnd ⟨p.val, by omega⟩ true none false false) s (fun t => t.fwd.rx = s.fwd.rx.filter (fun x => x.id != f.id) ∧ (∀ x ∈ t.fwd.fifo, x.id ≠ f.id) ∧
    t.cntTick.get (cntKey 0 0 p.val) 0 = s.cntTick.get (cntKey 0 0 p.val) 0 + 1)) ∧
  (∀ (s : State) (p : Fin 512) (f : Frame), s.live = true → s.fwd.rx.find? (fun x => x.ing == p.val) = some f → 64 ≤ f.bytes.length ∧ f.bytes.length ≤ s.rd F.MAC_PORT_CFG_MAX_LEN p.val → fcsGood f.bytes = true ∧ fcsStomped f.bytes = false → beAt f.bytes 12 2 ≠ 0x8808 → s.rdG f.gen F.MAC_PORT_CFG_ACCEPT p.val = 0 ∧ s.cutTx f.id = none → 
    Completes (.frameEnd ⟨p.val, by omega⟩ false none false false) s (fun t => t.fwd.rx = s.fwd.rx.filter (fun x => x.id != f.id) ∧ t.fwd.fifo.length = s.fwd.fifo.length ∧
    (∀ x ∈ t.fwd.fifo, x.id = f.id → x.ended = true ∧ x.bad = 0 ∧ x.endTick = s.now ∧ x.bytes = f.bytes) ∧
    t.cntTick.get (cntKey 0 0 p.val) 0 = s.cntTick.get (cntKey 0 0 p.val) 0 + 1))

/-- A slot of a serving pipeline takes the frame that round robin gives it out of its FIFO; where its key matches a row whose action
names a port, the frame goes on to buffer admission with that decision, 64 ticks later at the full core clock. A slot of a
pipeline that has failed hands its frame to the replay buffer until pipeline 16 takes the slots. A seat's transmit descriptor
gives a frame with its FCS, or is written back with an error when its length or buffer is bad; either advances TX_HEAD. A
general PTP message on a port that terminates PTP takes its turn at admission in the same tick, for the host seat's port with
reason 3. It also rests on the model's own readings of log 27 and log 33. -/
def Obligations.SlotsClassifyAndSeatsSendFrames : Prop :=
  (∀ (s u : State) (pipe : Fin 16) (slot : Fin 128) (f : Frame) (r : TabEntry) (err : LookupErr), s.live = true → s.slotFree pipe.val slot.val = true → nth s.flt.pipes pipe.val .down = .serving → s.takeSlot pipe.val pipe.val slot.val = (some f, u) → f.gen = u.rd F.SYS_CFG_GEN_CURRENT ∧ u.consumed f = false → u.rd F.BUF_FWD_PORT_SAMPLE_SAMPLE_N f.port = 0 → fragState (u.parse f.gen f.port f.payload).roles = 0 → rowFind (u.genTables f.gen) (u.keyOf f.gen f.port (u.parse f.gen f.port f.payload)) (if f.port < 512 then f.port / 32 else 16) = some r → actFwd (rowAction r.words) = 1 → err.rowLost = none ∧ s.tbl.damage.contains (pipe.val, 0x10, r.index) = false → 
    let x := u.parse f.gen f.port f.payload
    let a := rowAction r.words
    Completes (.slotIssue ⟨pipe.val, by omega⟩ slot err) s (fun t => t.fwd.pipe = u.fwd.pipe ++ [⟨f, pipe.val, s.now + s.pathTicks 64, { action := a, dest := .port (actDest a), hash := u.hashOf f.gen x.roles a, recordIt := !err.lost.isEmpty, lost := err.lost },
      x.profile, x.roles⟩] ∧ t.fwd.fifo = s.fwd.fifo.filter (fun y => y.id != f.id) ∧ t.qsg = s.qsg ∧ t.buf = s.buf ∧ t.now = s.now)) ∧
  (∀ (s u : State) (pipe : Fin 16) (slot : Fin 128) (f : Frame) (err : LookupErr) (tick : Nat), s.live = true → s.slotFree pipe.val slot.val = true → nth s.flt.pipes pipe.val .down = .failed ∧ s.flt.takeOver = some (pipe.val, tick) ∧ s.flt.slotsTaken = false → s.takeSlot pipe.val pipe.val slot.val = (some f, u) → 
    Completes (.slotIssue ⟨pipe.val, by omega⟩ slot err) s (fun t => t.fwd.replay = s.fwd.replay ++ [{ f with replayed := true }] ∧ t.fwd.fifo = s.fwd.fifo.filter (fun y => y.id != f.id) ∧
    t.fwd.pipe = s.fwd.pipe ∧ RegsBut s t [(F.BUF_FWD_PORT_FIFO_FRAMES, f.port)] ∧ t = { s with regs := t.regs, fwd := t.fwd })) ∧
  (∀ (s : State) (seat : Fin 4) (length : BitVec 16) (bytes : Bytes), s.live = true → s.Settled → s.on F.CMD_SEAT_STATUS_LINK_UP seat.val = true ∧ s.on F.BUF_SEAT_RING_CTRL_TX_EN seat.val = true ∧ s.on F.BUF_STATUS_INIT_DONE = true → s.rd F.BUF_SEAT_RING_TX_HEAD_VALUE seat.val ≠ s.rd F.BUF_SEAT_RING_TX_TAIL_VALUE seat.val → 60 ≤ length.toNat ∧ length.toNat ≤ s.rd F.MAC_PORT_CFG_MAX_LEN (512 + seat.val) - 4 ∧ bytes.length = length.toNat → nth s.flt.pipes ({ ing := 512 + seat.val, port := 512 + seat.val : Frame }).group .down ≠ .down → 
    Completes (.seatTxFetch seat true true length bytes) s (fun t => (t.fwd.fifo.getLast?).map (fun f => (f.id, f.ing, f.port, f.bytes, f.ended)) =
      some (s.fwd.nextFrame, 512 + seat.val, 512 + seat.val, bytes ++ fcsOf bytes, true) ∧
    t.rd F.BUF_SEAT_RING_TX_HEAD_VALUE seat.val =
      (s.rd F.BUF_SEAT_RING_TX_HEAD_VALUE seat.val + 1) % 2 ^ s.rd F.BUF_SEAT_RING_CTRL_TX_LOG_SIZE seat.val % 2 ^ 14 ∧
    t.fwd.fifo.length = s.fwd.fifo.length + 1 ∧ t.qsg = s.qsg ∧ t.cmd = s.cmd)) ∧
  (∀ (s : State) (seat : Fin 4) (readable : Bool) (length : BitVec 16) (bytes : Bytes), s.live = true → s.Settled → s.on F.CMD_SEAT_STATUS_LINK_UP seat.val = true ∧ s.on F.BUF_SEAT_RING_CTRL_TX_EN seat.val = true ∧ s.on F.BUF_STATUS_INIT_DONE = true → s.rd F.BUF_SEAT_RING_TX_HEAD_VALUE seat.val ≠ s.rd F.BUF_SEAT_RING_TX_TAIL_VALUE seat.val → length.toNat < 60 ∨ s.rd F.MAC_PORT_CFG_MAX_LEN (512 + seat.val) - 4 < length.toNat ∨ readable = false → 
    Completes (.seatTxFetch seat true readable length bytes) s (fun t => t.fwd.hostOut = [⟨seat.val, false, s.rd F.BUF_SEAT_RING_TX_HEAD_VALUE seat.val, length.toNat, 2, 0, []⟩] ∧
    t.rd F.BUF_SEAT_RING_TX_HEAD_VALUE seat.val =
      (s.rd F.BUF_SEAT_RING_TX_HEAD_VALUE seat.val + 1) % 2 ^ s.rd F.BUF_SEAT_RING_CTRL_TX_LOG_SIZE seat.val % 2 ^ 14 ∧
    t.fwd.fifo = s.fwd.fifo ∧ RegsBut s t [(F.BUF_SEAT_RING_TX_HEAD_VALUE, seat.val)] ∧ t = { s with regs := t.regs, fwd := t.fwd })) ∧
  (∀ (s : State) (p : Fin 512) (bytes : Bytes) (detect var k : Nat), s.live = true → s.Settled → s.on F.BUF_STATUS_INIT_DONE = true → ptpProfile bytes = some k → byteAt bytes (ptpOffset k) % 16 = 11 ∨ byteAt bytes (ptpOffset k) % 16 = 12 ∨ byteAt bytes (ptpOffset k) % 16 = 13 → s.ptpTerminates p.val (byteAt bytes (ptpOffset k + 4)) = true → 
    Completes (.ptpGeneralDeliver p bytes ⟨detect, var⟩) s (fun t => (t.fwd.samples.getLast?).map (fun x => (x.seat, x.queue, x.reason, x.pf.admitAt)) = some (s.rd F.SYN_PTP_CFG_HOST_SEAT, 0, 3, s.now) ∧
    (t.fwd.samples.getLast?).map (fun x => (x.pf.frame.ing, x.pf.frame.raw, x.pf.frame.bytes, x.pf.frame.ended)) =
      some (p.val, s.ingressRaw p.val detect var, bytes, true) ∧
    t.fwd.samples.length = s.fwd.samples.length + 1 ∧ t.fwd.fifo = s.fwd.fifo ∧ t.qsg = s.qsg ∧ t.buf = s.buf ∧ t.syn = s.syn ∧ t.tim = s.tim))

/-- The one frame due at admission, plain, unpoliced, under no lossless class, not cutting through and for one port that is up and
whose queue takes it, becomes the newest copy of the queue that R226 names, with its launch tick if it has one. A free port with
nothing deterministic due and no flow-control frame waiting starts the eligible head that its levels and deficits choose, and a
flow-control frame that waits goes ahead of every queue. A transmission that has ended leaves its port, is counted, and gives
its reference back. It also rests on the model's own readings of log 28 and log 36. -/
def Obligations.FramesAreAdmittedSelectedAndSent : Prop :=
  (∀ (s u : State) (pf : PipeFrame) (e : Fin 512) (vars : List (Nat × Nat)) (l : Option Nat), s.live = true → s.admitDue = [pf] ∧ s.fwd.samples = [] → s.wholeIn pf.frame = true → u = s.setFwd (fun w => { w with pipe := w.pipe.filter (fun x => x.frame.id != pf.frame.id) }) → pf.frame.ended = true ∧ pf.frame.bad = 0 ∧ pf.frame.gen = u.rd F.SYS_CFG_GEN_CURRENT → (u.losslessRule pf.frame (ceilDiv pf.frame.bytes.length 256)).2 = some .no ∧ (u.cutTx pf.frame.id).map (fun x => x.endReason) ≠ some 54 → pf.dec.dest = .port e.val ∧ actPoliceEn pf.dec.action = false ∧ actCopyEn pf.dec.action = false → u.pathFor pf ⟨e.val, none, none, 0, 0⟩ = some 0 ∧ u.portUp e.val = true → u.rd F.PWR_STATUS_STEP = 0 → u.launchOf pf (u.mkCopy pf ⟨e.val, none, none, 0, 0⟩ 0 none) = .ok l → u.cutsThrough { u.mkCopy pf ⟨e.val, none, none, 0, 0⟩ 0 none with launch := l } = false → u.deepOf (16 * e.val + u.queueFor pf ⟨e.val, none, none, 0, 0⟩ none) = none → u.queueTakes (16 * e.val + u.queueFor pf ⟨e.val, none, none, 0, 0⟩ none) (ceilDiv pf.frame.bytes.length 256) = true → (u.alloc (ceilDiv pf.frame.bytes.length 256)).isSome = true → 
    Completes (.bufferAdmission vars) s (fun t => (t.qsg.queue.getLast?).map (fun c => (c.frame, c.egr, c.queue, c.path)) =
      some (pf.frame, e.val, u.queueFor pf ⟨e.val, none, none, 0, 0⟩ none, 0) ∧
    (t.qsg.queue.getLast?).map (fun c => (c.admitted, c.cells, c.action, c.launch, c.buf)) =
      some (s.now, ceilDiv pf.frame.bytes.length 256, pf.dec.action, l, some pf.frame.id) ∧
    t.qsg.queue.length = s.qsg.queue.length + 1 ∧ t.fwd.pipe = s.fwd.pipe.filter (fun x => x.frame.id != pf.frame.id) ∧
    t.qsg.txs = s.qsg.txs ∧ t.tim = s.tim)) ∧
  (∀ (s : State) (p : Fin 512) (n : Fin 16) (c : Copy) (var : Nat) (met : Option Nat) (d : List (Nat × Int)), s.live = true → s.portUp p.val = true ∧ s.resting p.val = false ∧ s.editReady c.group = true ∧ s.editDown c.group = false → s.portFreeAt p.val ≤ s.selectEntry → s.heldOf p.val = [] ∧ (s.startDet p.val var met).isNone = true ∧ (s.flowNext p.val var).isNone = true → s.qsg.queue = [c] ∧ c.egr = p.val ∧ c.queue = n.val ∧ c.launch = none → s.headOf p.val n.val = some c ∧ ∀ k : Fin 16, k ≠ n → s.headOf p.val k.val = none → s.headDrop p.val n.val (s.ballTick p.val var s.selectEntry) c = none → s.eligible p.val n.val var s.selectEntry c = true → dwrr (fun n => s.rd F.QSG_SCHED_PROF_CTRL_WEIGHT (s.schedProf p.val n) * 64) [n.val] 8192
      (s.qsg.place.get (8 * p.val + s.rd F.QSG_SCHED_PROF_CTRL_PRIO (s.schedProf p.val n.val)) 0)
      ((s.qsg.deficit.filter (fun d => d.1 / 16 == p.val)).map (fun d => (d.1 % 16, d.2))) = some (n.val, d) → s.badCellOf c met = none ∧ (s.edit c 0).tooLong = false → 
    Completes (.schedulerSelect ⟨p.val, by omega⟩ var met) s (fun t => t.qsg.queue = [] ∧ t.qsg.txs.length = s.qsg.txs.length + 1 ∧
    (t.qsg.txs.getLast?).map (fun x => (x.port, x.copy, x.start)) = some (p.val,
      some { c with second := some (c.second.getD (s.qsg.recorded.contains c.frame.id)) }, s.selectEntry) ∧ t.fwd = s.fwd ∧ t.tim = s.tim)) ∧
  (∀ (s : State) (p : Fin 512) (var : Nat) (met : Option Nat) (x : FlowFrame), s.live = true → s.portUp p.val = true ∧ s.resting p.val = false → s.portFreeAt p.val ≤ s.selectEntry → s.heldOf p.val = [] ∧ (s.startDet p.val var met).isNone = true → s.buf.flow.find? (fun x => x.port == p.val) = some x ∧ s.detFits p.val x.bytes.length s.selectEntry = true → 
    Completes (.schedulerSelect ⟨p.val, by omega⟩ var met) s (fun t => t.buf.flow = s.buf.flow.erase x ∧ (t.qsg.txs.getLast?).map (fun y => (y.port, y.copy, y.out, y.start)) =
      some (p.val, none, x.bytes, s.selectEntry) ∧ t.qsg.txs.length = s.qsg.txs.length + 1 ∧ t.qsg.queue = s.qsg.queue ∧
    t = { s with buf := t.buf, qsg := t.qsg })) ∧
  (∀ (s : State) (p : Fin 512) (x : Tx) (c : Copy) (met : Option Nat), s.live = true → s.badCellOf c met = none → s.endedTx p.val = some x ∧ x.port = p.val ∧ x.copy = some c ∧ x.endReason = 0 ∧ c.late = false → 
    Completes (.transmitDone ⟨p.val, by omega⟩ met) s (fun t => t.qsg.txs = s.qsg.txs.erase x ∧ t.cntTick.get (cntKey 1 0 c.egr) 0 = s.cntTick.get (cntKey 1 0 c.egr) 0 + 1 ∧
    t.cntTick.get (cntKey 1 1 c.egr) 0 = s.cntTick.get (cntKey 1 1 c.egr) 0 + x.out.length ∧
    (⟨if c.path = 0 then some c.q else none, c.cells, [], 0, 0, 0, 0⟩ : Leaving) ∈ t.buf.leaving ∧ t.qsg.queue = s.qsg.queue ∧ t.tim = s.tim)) ∧
  (∀ (s : State) (p : Fin 512) (x : Tx) (met : Option Nat), s.live = true → s.endedTx p.val = some x ∧ x.copy = none → 
    Completes (.transmitDone ⟨p.val, by omega⟩ met) s (fun t => t.qsg.txs = s.qsg.txs.erase x ∧ t.cntTick.get (cntKey 1 4 p.val) 0 = s.cntTick.get (cntKey 1 4 p.val) 0 + 1 ∧ t.tim = s.tim))

/-- A copy that has crossed to a seat's port is written with its metadata into free receive buffers, RX_HEAD moving past them. A
copy that has crossed to port 516 with passes left re-enters as the newest frame of port 516 in the current generation, with one
pass more; at the limit it is dropped with reason 13. The one held copy of a port enters the PCS 16 ticks before its entry
comes, so that it crosses the reference plane at its target, and is counted as on time. At the boundary after their admission an
instance's copies join its store, late where their raw form lies before LAST_RAW. The head of an instance whose port is free,
with no held copy in its way, starts as far ahead as the path asks, 24 ticks at the full core clock; with SEQ_EN it takes the
next sequence number, and unless it is late LAST_RAW follows it. It also rests on the model's own readings of log 64 and log 65. -/
def Obligations.InternalHeldAndSequencedCopies : Prop :=
  (∀ (s : State) (seat : Fin 4) (x : Tx) (c : Copy), s.live = true → s.on F.CMD_SEAT_STATUS_LINK_UP seat.val = true ∧ s.on F.BUF_SEAT_RING_CTRL_RX_EN seat.val = true → s.badCellOf c none = none → s.endedTx (512 + seat.val) = some x ∧ x.port = 512 + seat.val ∧ x.copy = some c → (chunks (max 1 (s.rd F.BUF_SEAT_RING_RX_BUF_SIZE_VALUE seat.val)) (x.out.length + 33) (rxMeta c ++ x.out)).length ≤
      (s.rd F.BUF_SEAT_RING_RX_TAIL_VALUE seat.val + 2 ^ s.rd F.BUF_SEAT_RING_CTRL_RX_LOG_SIZE seat.val -
        s.rd F.BUF_SEAT_RING_RX_HEAD_VALUE seat.val % 2 ^ s.rd F.BUF_SEAT_RING_CTRL_RX_LOG_SIZE seat.val) %
        2 ^ s.rd F.BUF_SEAT_RING_CTRL_RX_LOG_SIZE seat.val → 
    let parts := chunks (max 1 (s.rd F.BUF_SEAT_RING_RX_BUF_SIZE_VALUE seat.val)) (x.out.length + 33) (rxMeta c ++ x.out)
    Completes (.seatRxDeliver seat) s (fun t => t.fwd.hostOut.map (fun w => w.data) = parts ∧ t.fwd.hostOut.all (fun w => w.seat == seat.val && w.rx) = true ∧
    t.rd F.BUF_SEAT_RING_RX_HEAD_VALUE seat.val =
      (s.rd F.BUF_SEAT_RING_RX_HEAD_VALUE seat.val + parts.length) % 2 ^ s.rd F.BUF_SEAT_RING_CTRL_RX_LOG_SIZE seat.val % 2 ^ 14 ∧
    t.qsg.txs = s.qsg.txs.erase x ∧ t.tim = s.tim)) ∧
  (∀ (s : State) (x : Tx) (c : Copy), s.live = true → s.badCellOf c none = none → s.endedTx 516 = some x ∧ x.port = 516 ∧ x.copy = some c → c.frame.passes < s.rd F.BUF_RECIRC_CTRL_MAX_PASSES → 
    Completes (.recircReentry) s (fun t => (t.fwd.fifo.getLast?).map (fun f => (f.id, f.port, f.gen)) = some (s.fwd.nextFrame, 516, s.rd F.SYS_CFG_GEN_CURRENT) ∧
    (t.fwd.fifo.getLast?).map (fun f => (f.bytes, f.passes, f.raw, f.ing)) = some (x.out, c.frame.passes + 1, c.frame.raw, c.frame.ing) ∧
    t.fwd.fifo.length = s.fwd.fifo.length + 1 ∧ t.qsg.txs = s.qsg.txs.erase x ∧ t.tim = s.tim)) ∧
  (∀ (s : State) (x : Tx) (c : Copy), s.live = true → s.badCellOf c none = none → s.endedTx 516 = some x ∧ x.port = 516 ∧ x.copy = some c ∧ c.egr = 516 ∧ c.sample = false → s.rd F.BUF_RECIRC_CTRL_MAX_PASSES ≤ c.frame.passes → 
    Completes (.recircReentry) s (fun t => t.fwd.fifo = s.fwd.fifo ∧ t.cntTick.get (cntKey 2 13 516) 0 = s.cntTick.get (cntKey 2 13 516) 0 + 1 ∧
    t.qsg.txs = s.qsg.txs.erase x ∧ t.tim = s.tim)) ∧
  (∀ (s : State) (p : Fin 512) (h : Held) (var : Nat) (met : Option Nat), s.live = true → s.portUp p.val = true ∧ s.resting p.val = false ∧ s.editDown h.copy.group = false ∧ s.badCellOf h.copy met = none → s.qsg.held = [h] ∧ h.copy.egr = p.val ∧ s.instanceOf p.val = none → (Int.fdiv h.entry 320).toNat - 16 = s.now ∧ (320 * (s.now + 16) : Nat) ≤ h.entry → h.copy.admitted + s.pathTicks 40 ≤ s.now + 16 ∧ s.portFreeAt p.val ≤ s.now → h.copy.frame.ended = true ∧ s.storedEntry h.copy.frame ≤ s.now + 16 → h.target = h.entry + h.toBall → 
    Completes (.heldRelease ⟨p, var, met⟩) s (fun t => t.qsg.held = [] ∧ t.qsg.txs.length = s.qsg.txs.length + 1 ∧
    (t.qsg.txs.getLast?).map (fun x => (x.port, x.raw, x.ball)) = some (p.val, stampOf (subTickOf h.entry + h.toBall), (Int.fdiv h.target 320).toNat) ∧
    (t.qsg.txs.getLast?).map (fun x => x.copy.map (fun c => (c.frame, c.late))) = some (some (h.copy.frame, false)) ∧
    t.cntTick.get (cntKey 9 1 p.val) 0 = s.cntTick.get (cntKey 9 1 p.val) 0 + 1 ∧ t.qsg.queue = s.qsg.queue ∧ t.tim = s.tim)) ∧
  (∀ (s : State) (m : Fin 32), s.live = true → 
    let isLate := fun (x : SeqCopy) => (s.lastRaw m.val).any (fun r => decide (x.copy.frame.raw < r))
    Completes (.seqVisible m) s (fun t => t.qsg.seq = s.qsg.seq.map (fun x => if x.inst = m.val ∧ x.visible = false ∧ x.copy.admitted < s.now then
      { x with visible := true, late := isLate x, lastRaw := (s.lastRaw m.val).getD 0,
               offered := if isLate x && !x.early then x.copy.admitted + 1 else x.offered,
               arrival := s.lastRaw m.val == some x.copy.frame.raw && s.qsg.seqLast.get m.val 0 != x.copy.frame.ing + 1 } else x) ∧
    t = { s with qsg := t.qsg, cntTick := t.cntTick })) ∧
  (∀ (s : State) (m : Fin 32) (var : Nat) (met : Option Nat) (x : SeqCopy), s.live = true → s.qsg.seq.all (fun y => y.visible) = true → s.seqHead m.val = some x ∧ s.instanceOf x.copy.egr = some m.val ∧ s.heldHead x.copy.egr = none → s.portUp x.copy.egr = true ∧ s.resting x.copy.egr = false ∧ s.editReady x.copy.group = true ∧ s.editDown x.copy.group = false → s.badCellOf x.copy met = none → s.portFreeAt x.copy.egr ≤ s.selectEntry → s.stored x.copy.frame = true → 
    let no := s.rd2 F.MSQ_SEQ_NEXT_LO_VALUE F.MSQ_SEQ_NEXT_HI_VALUE m.val
    Completes (.seqRelease m ⟨var, met⟩) s (fun t => t.qsg.seq = s.qsg.seq.filter (fun y => y != x) ∧ t.qsg.txs.length = s.qsg.txs.length + 1 ∧
    (t.qsg.txs.getLast?).map (fun y => (y.port, y.copy.map (fun c => (c.frame, c.late, c.seqNo)))) =
      some (x.copy.egr, some (x.copy.frame, x.late, if x.copy.seqEn then some no else none)) ∧
    (t.qsg.txs.getLast?).map (fun y => y.start) = some s.selectEntry ∧
    (x.copy.seqEn = true → t.rd2 F.MSQ_SEQ_NEXT_LO_VALUE F.MSQ_SEQ_NEXT_HI_VALUE m.val = (no + 1) % 2 ^ 64) ∧
    (x.late = false → max x.copy.frame.raw ((s.lastRaw m.val).getD 0) < 2 ^ 64 →
      t.lastRaw m.val = some (max x.copy.frame.raw ((s.lastRaw m.val).getD 0))) ∧ t.qsg.queue = s.qsg.queue ∧ t.tim = s.tim))

/-- A PAUSE frame handed by a receive MAC pauses its port from the tick of its end, for its quanta at the port's rate, and quanta 0
end it; a PFC frame does so for each class that it enables. A pause whose time has run out is gone. The flow-control frame of a
port with a class above XON is queued again once REFRESH_US have passed. At a refill boundary a token-bucket shaper, under the
mode and bindings that the boundary puts into use, gains RATE_KBPS units up to its burst. It also rests on the model's own
readings of log 39 and log 62. -/
def Obligations.PausesFlowControlAndShapers : Prop :=
  (∀ (s : State) (p tk : Nat) (b : Bytes) (rest : List (Nat × Nat × Bytes)), s.live = true → s.fwd.macCtrl = (p, tk, b) :: rest → beAt b 14 2 = 1 ∧ s.on F.QSG_PORT_CTRL_RX_PAUSE_EN p = true → 
    Completes (.pauseReceived) s (fun t => t.qsg.paused.get (9 * p + 8) 0 = (if beAt b 16 2 = 0 then 0 else tk + ceilDiv (beAt b 16 2 * 409600) (s.portMbps p)) ∧
    (t.on F.QSG_PAUSE_STATUS_PAUSED p = true ↔ s.now < t.qsg.paused.get (9 * p + 8) 0) ∧ t.fwd.macCtrl = rest ∧
    t.cntTick.get (cntKey 8 2 0) 0 = s.cntTick.get (cntKey 8 2 0) 0 + 1 ∧ t.qsg.queue = s.qsg.queue ∧ t.buf = s.buf)) ∧
  (∀ (s : State) (p tk : Nat) (b : Bytes) (rest : List (Nat × Nat × Bytes)) (c : Fin 8), s.live = true → s.fwd.macCtrl = (p, tk, b) :: rest → beAt b 14 2 = 0x0101 ∧ s.on F.QSG_PORT_CTRL_RX_PFC_EN p = true → bit (beAt b 16 2) c.val = true → 
    Completes (.pauseReceived) s (fun t => t.qsg.paused.get (9 * p + c.val) 0 =
      (if beAt b (18 + 2 * c.val) 2 = 0 then 0 else tk + ceilDiv (beAt b (18 + 2 * c.val) 2 * 409600) (s.portMbps p)) ∧
    t.fwd.macCtrl = rest ∧ t.cntTick.get (cntKey 8 3 0) 0 = s.cntTick.get (cntKey 8 3 0) 0 + 1 ∧ t.qsg.queue = s.qsg.queue ∧ t.buf = s.buf)) ∧
  (∀ (s : State), s.live = true → 
    Completes (.pauseExpire) s (fun t => t.qsg.paused = s.qsg.paused.filter (fun x => decide (s.now < x.2)) ∧ t = { s with regs := t.regs, qsg := t.qsg })) ∧
  (∀ (s : State) (p : Fin 512) (c : Fin 8), s.live = true → s.listed F.BUF_ING_PORT_STATE_XOFF_STATE = [p.val] ∧ s.portUp p.val = true → bit (s.rd F.BUF_ING_PORT_STATE_XOFF_STATE p.val) c.val = true ∧ (s.losslessClasses p.val).contains c.val = true → s.ingProf F.BUF_ING_PROF_XON_XON p.val c.val < s.classUse p.val c.val → s.buf.flowTick.get p.val 0 + 800 * s.rd F.BUF_ING_PORT_FC_REFRESH_US p.val ≤ s.now → 
    Completes (.pfcRefresh) s (fun t => t.buf.flow.any (fun x => x.port == p.val) = true ∧ t.buf.flowTick.get p.val 0 = s.now ∧ t.qsg = s.qsg ∧ t.tim = s.tim)) ∧
  (∀ (s : State) (m : Nat), s.live = true → s.now % 16 = 0 ∧ s.ran.contains 1 = false → s.rd F.QSG_SHAPER_CTRL_MODE m = 1 ∧ (s.listed F.QSG_SHAPER_CTRL_MODE).contains m = true → (s.bindShapers.portsOf m).all (fun p => !s.qsg.upPorts.contains p) = true → 
    Completes (.shaperRefill) s (fun t => t.credit m = min (400000 * (s.rd F.QSG_SHAPER_BURST_BURST_BYTES m : Int)) (s.credit m + s.rd F.QSG_SHAPER_RATE_RATE_KBPS m) ∧
    t.qsg.upPorts = [] ∧ t = { s with regs := t.regs, qsg := t.qsg, buf := t.buf, ran := t.ran }))

/-- In every tick GCL_STATUS of a port with a running list shows the entry that the view gives. A pending header becomes the running
list of its port at its change instant, with GCL_CHANGE and a record. At the end of its flap-hold a port that has not returned
loses every copy that waits for it. At each sample period every port with SAMPLE_EN gives a queue-sample record. It also rests
on the model's own readings of log 61. -/
def Obligations.GateListsFlapHoldsAndQueueSamples : Prop :=
  (∀ (s : State) (l : GateList), s.live = true → s.Settled → l ∈ s.qsg.running ∧ (s.qsg.running.map (fun x => x.port)).Nodup → 
    Completes (.gateEvent) s (fun t => t.rd F.QSG_GCL_STATUS_OPER_SCHED l.port = l.header % 2 ^ F.QSG_GCL_STATUS_OPER_SCHED.width ∧ t.on F.QSG_GCL_STATUS_OPER_VALID l.port = true ∧
    t.rd F.QSG_GCL_STATUS_ENTRY l.port = s.entryAt (s.sched l.header) (s.viewAt s.now 0) % 2 ^ F.QSG_GCL_STATUS_ENTRY.width ∧
    t.on F.QSG_GCL_STATUS_PENDING l.port = (s.qsg.waiting.any (fun x => x.port == l.port)) ∧ t = { s with regs := t.regs })) ∧
  (∀ (s : State) (l : GateList), s.live = true → s.Settled → s.qsg.waiting = [l] → l.x ≤ s.viewAt s.now 0 → 
    Completes (.gclChange) s (fun t => t.qsg.waiting = [] ∧ t.qsg.running = s.qsg.running.filter (fun x => x.port != l.port) ++ [l] ∧
    t.on F.QSG_INT_STATUS_GCL_CHANGE = true ∧ t.rd F.QSG_GCL_STATUS_OPER_SCHED l.port = l.header % 2 ^ F.QSG_GCL_STATUS_OPER_SCHED.width ∧
    t.on F.QSG_GCL_STATUS_PENDING l.port = false ∧ t.qsg.queue = s.qsg.queue ∧ t.tim = s.tim)) ∧
  (∀ (s : State) (p : Fin 512) (at0 : Nat), s.live = true → s.qsg.flap = [(p.val, at0)] ∧ at0 ≤ s.now → s.portUp p.val = false → 
    Completes (.flapHoldExpire) s (fun t => t.qsg.flap = [] ∧ t.qsg.queue = s.qsg.queue.filter (fun c => c.egr != p.val) ∧
    t.qsg.held = s.qsg.held.filter (fun h => h.copy.egr != p.val) ∧ t.qsg.seq = s.qsg.seq.filter (fun x => x.copy.egr != p.val) ∧
    t.qsg.paused = s.qsg.paused.filter (fun x => x.1 / 9 != p.val) ∧ t.tim = s.tim)) ∧
  (∀ (s : State), s.live = true → s.rd F.QSG_SAMPLE_CTRL_PERIOD_US ≠ 0 ∧ s.now % (800 * s.rd F.QSG_SAMPLE_CTRL_PERIOD_US) = 0 → s.ran.contains 2 = false ∧ (s.listed F.QSG_PORT_CTRL_SAMPLE_EN).Nodup → (s.listed F.QSG_PORT_CTRL_SAMPLE_EN).all (fun p => decide ((s.evr.taps.filter (fun x => x.unit == 8 && x.inst == p)).length < 64)) = true → 
    Completes (.queueSample) s (fun t => t.evr.taps.map (fun r => (r.kind, r.unit, r.inst, r.tick)) = s.evr.taps.map (fun r => (r.kind, r.unit, r.inst, r.tick)) ++
      (s.listed F.QSG_PORT_CTRL_SAMPLE_EN).map (fun p => (0x17, 8, p, s.now)) ∧ t = { s with evr := t.evr, ran := t.ran }))

/-- A good frame whose decision tick comes sets the hits of its lookups; if its source address is unknown to the table and to the
writes that wait, it asks for a learn, and one from another port of an entry that is neither static nor pinned asks for a move.
The table write slot of a tick lands a learn that came in an earlier tick in the lowest free slot of its bucket, with its count,
an entry of a list written by a command, whose reply follows, and a repair: a copy is rewritten from its source, and an entry
whose source is lost too leaves its table. The Age Sweeper marks an entry without its hit bit stale, and asks for the removal of
one that was stale already. A corrected word that the scrubber finds raises a NOTE fault and waits for its repair, an
uncorrectable one a DEGRADED fault, and its copy is damaged until then. POP takes the head of the pin log. It also rests on the
model's own readings of log 40 and log 90. -/
def Obligations.AddressesAreLearnedAgedAndScrubbed : Prop :=
  (∀ (s : State) (c : Candidate), s.live = true → s.tbl.candidates.filter (fun x => decide (x.raw / 16 + 4096 ≤ s.now)) = [c] → c.good = some true ∧ c.learn = true → s.on F.TBL_LEARN_CTRL_ENABLE = true ∧ s.on F.TBL_PORT_CFG_LEARN_EN c.port = true ∧ s.on F.TBL_EM_CTRL_ENABLE 0 = true → s.emKey 0 (macKey c.vid c.smac) = none → s.tbl.learn.length < 4096 ∧ s.tbl.learn.all (fun o => match o.2 with | .learn k _ => k != macKey c.vid c.smac | _ => true) = true → 
    Completes (.learnDecision) s (fun t => t.tbl.candidates = s.tbl.candidates.filter (fun x => decide (s.now < x.raw / 16 + 4096)) ∧
    t.tbl.learn = s.tbl.learn ++ [(s.now, .learn (macKey c.vid c.smac) [(c.port, c.raw / 16 + 4096)])] ∧
    t.tbl.em = s.tbl.em.map (fun e => if c.hits.contains (e.table, e.key) then { e with hit := true } else e) ∧
    t.cntTick.get (cntKey 6 2 0) 0 = s.cntTick.get (cntKey 6 2 0) 0 + 1 ∧ t = { s with tbl := t.tbl, cntTick := t.cntTick })) ∧
  (∀ (s : State) (c : Candidate) (e : EmEntry), s.live = true → s.tbl.candidates.filter (fun x => decide (x.raw / 16 + 4096 ≤ s.now)) = [c] → c.good = some true ∧ c.learn = true ∧ c.hits = [] → s.on F.TBL_LEARN_CTRL_ENABLE = true ∧ s.on F.TBL_PORT_CFG_LEARN_EN c.port = true ∧ s.on F.TBL_EM_CTRL_ENABLE 0 = true → s.emKey 0 (macKey c.vid c.smac) = some e → s.tbl.learn.length < 4096 ∧ s.tbl.learn.all (fun o => match o.2 with | .learn k _ => k != macKey c.vid c.smac | _ => true) = true → 
    let same := e.result / 2 ^ 30 ≠ 0 ∨ e.result % 65536 = c.port
    let fixed := e.static = true ∨ e.pinned = true
    Completes (.learnDecision) s (fun t => t.tbl.learn = (if same ∨ fixed then s.tbl.learn else s.tbl.learn ++ [(s.now, .learn (macKey c.vid c.smac) [(c.port, c.raw / 16 + 4096)])]) ∧
    t.tbl.em = s.tbl.em.map (fun y => if ¬ (¬ same ∧ fixed) ∧ y.table = 0 ∧ y.key = macKey c.vid c.smac then { y with hit := true } else y) ∧
    t.cntTick.get (cntKey 6 9 0) 0 = s.cntTick.get (cntKey 6 9 0) 0 + (if ¬ same ∧ e.static = true then 1 else 0) ∧
    t.cntTick.get (cntKey 6 10 0) 0 = s.cntTick.get (cntKey 6 10 0) 0 + (if ¬ same ∧ e.static = false ∧ e.pinned = true then 1 else 0) ∧
    t.cntTick.get (cntKey 6 1 0) 0 = s.cntTick.get (cntKey 6 1 0) 0 + 1 ∧ t = { s with tbl := t.tbl, cntTick := t.cntTick })) ∧
  (∀ (s : State) (key port d a : Nat) (l : Loc), s.live = true → s.slotNow 0 = true ∧ s.fwd.slotsUsed.contains writeSlotMark = false → s.tbl.repairs = [] ∧ s.tbl.op = [] ∧ s.tbl.soft = [] ∧ s.tbl.moveBack = [] → s.tbl.learn = [(a, .learn key [(port, d)])] ∧ a < s.now → s.on F.TBL_EM_CTRL_ENABLE 0 = true ∧ s.emKey 0 key = none → s.freeSlot 0 0 (s.bucketOf 0 0 key) = some l → 
    Completes (.tableWriteSlot) s (fun t => t.tbl.em = s.tbl.em ++ [{ learned key port with loc := l }] ∧ t.tbl.learn = [] ∧
    t.cntTick.get (cntKey 6 5 0) 0 = s.cntTick.get (cntKey 6 5 0) 0 + 1 ∧
    RegsBut s t [(F.TBL_EM_STATUS_ENTRIES, 0), (F.TBL_EM_STATUS_STASH, 0), (F.TBL_INT_STATUS_STASH_HIGH, 0)] ∧
    t.fwd = { s.fwd with slotsUsed := s.fwd.slotsUsed ++ [writeSlotMark] } ∧ t.qsg = s.qsg ∧ t.tim = s.tim)) ∧
  (∀ (s : State) (p : Packet) (a : Nat), s.live = true → s.slotNow 0 = true ∧ s.fwd.slotsUsed.contains writeSlotMark = false → s.tbl.repairs = [] ∧ s.tbl.op = [] ∧ s.tbl.learn = [] ∧ s.tbl.soft = [⟨5, p, a⟩] → a < s.now ∧ p.opcode = 0x20 → 
    Completes (.tableWriteSlot) s (fun t => t.tbl.live = putEntry s.tbl.live ⟨5, p.address.toNat % 2 ^ 24, p.data.map (fun x => x.toNat)⟩ ∧ t.tbl.soft = [] ∧
    t.tbl.em = s.tbl.em ∧ t.resp = some ⟨.ok, []⟩ ∧ t.cmd.flights = s.cmd.flights.filter (fun f => f.packet != p))) ∧
  (∀ (s : State) (r : Repair) (q : Nat), s.live = true → s.slotNow 0 = true ∧ s.fwd.slotsUsed.contains writeSlotMark = false → s.tbl.repairs = [r] ∧ s.tbl.op = [] ∧ s.tbl.learn = [] ∧ s.tbl.soft = [] ∧ s.tbl.rows = [] → r.arrived < s.now ∧ 1 ≤ r.table ∧ r.table ≤ 6 → s.repairSource r.pipe = some q ∧ s.tbl.damage.contains (q, r.table, r.index) = false → 
    Completes (.tableWriteSlot) s (fun t => t.tbl = { s.tbl with repairs := [], damage := s.tbl.damage.filter (fun d => d != (r.pipe, r.table, r.index)) } ∧
    t = { s with tbl := t.tbl, fwd := { s.fwd with slotsUsed := s.fwd.slotsUsed ++ [writeSlotMark] } })) ∧
  (∀ (s : State) (r : Repair) (q : Nat), s.live = true → s.slotNow 0 = true ∧ s.fwd.slotsUsed.contains writeSlotMark = false → s.tbl.repairs = [r] ∧ s.tbl.op = [] ∧ s.tbl.learn = [] ∧ s.tbl.soft = [] ∧ s.tbl.rows = [] → r.arrived < s.now ∧ 4 ≤ r.table ∧ r.table ≤ 6 → s.repairSource r.pipe = some q ∧ s.tbl.damage.contains (q, r.table, r.index) = true ∧ s.tbl.damage.contains (r.pipe, r.table, r.index) = true → 
    Completes (.tableWriteSlot) s (fun t => t.tbl.live = dropEntry s.tbl.live r.table r.index ∧ t.tbl.cur = dropEntry s.tbl.cur r.table r.index ∧
    t.tbl.damage = s.tbl.damage.filter (fun d => !(d.2.1 == r.table && d.2.2 == r.index)) ∧ t.tbl.repairs = [] ∧
    t.on F.TBL_INT_STATUS_ENTRY_LOST = true ∧ t.cntTick.get (cntKey 6 17 0) 0 = s.cntTick.get (cntKey 6 17 0) 0 + 1 ∧
    t.flt.held = s.flt.held ++ [⟨29, 3, 1, 0, r.table * 2 ^ 32 + r.index⟩] ∧ RegsBut s t [(F.TBL_INT_STATUS_ENTRY_LOST, 0)])) ∧
  (∀ (s : State) (table : Fin 2) (e : EmEntry) (place : Fin 262208) (hitError : Bool), s.live = true → s.rd F.TBL_AGE_CTRL_PERIOD_S ≠ 0 → s.tbl.candidates.all (fun x => decide (s.now < x.raw / 16 + 4096)) = true → s.tbl.visited.get (2 ^ 20 * table.val + place.val) 0 = 0 ∨ s.tbl.visited.get (2 ^ 20 * table.val + place.val) 0 - 1 + s.agePeriod ≤ s.now → s.tbl.em.filter (fun e => e.table == table.val && (match e.loc with | .slot h k _ => decide (place.val < 2 * emBuckets table.val) && h == place.val / emBuckets table.val && k == place.val % emBuckets table.val | .stash i => decide (2 * emBuckets table.val ≤ place.val) && i == place.val - 2 * emBuckets table.val)) = [e] → ∀ y ∈ s.tbl.em, y.table = table.val → y.key = e.key → y = e → (if table.val = 0 then !e.static else e.ageEn) = true ∧ e.moveCnt = 0 → s.tbl.learn.length < 4096 ∧ s.tbl.removing.contains (table.val, e.key) = false → 
    Completes (.ageSweeperVisit table ⟨place, hitError⟩) s (fun t => t.tbl.em = s.tbl.em.map (fun y => if y = e then { e with hit := false, stale := !(e.hit || hitError) } else y) ∧
    t.tbl.learn = (if (e.hit || hitError) = false ∧ e.stale = true then s.tbl.learn ++ [(s.now, .remove table.val e.key)] else s.tbl.learn) ∧
    t = { s with tbl := t.tbl })) ∧
  (∀ (s : State) (pipe table : Fin 17) (index : BitVec 24), s.live = true → s.on F.TBL_SCRUB_CTRL_ENABLE = true → s.tbl.repairs.any (fun r => r.pipe == pipe.val && r.table == table.val && r.index == index.toNat) = false → 
    let flag := if table.val = 16 then F.CLS_INT_STATUS_ECC_CORR else F.TBL_INT_STATUS_ECC_CORR
    Completes (.tableScrub pipe table index 1) s (fun t => t.tbl = { s.tbl with repairs := s.tbl.repairs ++ [⟨pipe.val, table.val, index.toNat, s.now⟩] } ∧ t.on flag = true ∧
    t.flt.held = s.flt.held ++ [if table.val = 16 then ⟨28, 1, 0, pipe.val, index.toNat⟩ else ⟨29, 1, 0, pipe.val, table.val * 2 ^ 32 + index.toNat⟩] ∧
    RegsBut s t [(flag, 0)])) ∧
  (∀ (s : State) (pipe table : Fin 17) (index : BitVec 24), s.live = true → s.on F.TBL_SCRUB_CTRL_ENABLE = true → 
    Completes (.tableScrub pipe table index 2) s (fun t => t.tbl.damage.contains (pipe.val, table.val, index.toNat) = true ∧
    t.tbl.repairs.any (fun r => r.pipe == pipe.val && r.table == table.val && r.index == index.toNat) = true ∧
    t.flt.held = s.flt.held ++ [if table.val = 16 then ⟨28, 2, 1, pipe.val, index.toNat⟩ else ⟨29, 2, 1, pipe.val, table.val * 2 ^ 32 + index.toNat⟩] ∧
    t.tbl.live = s.tbl.live ∧ t.tbl.em = s.tbl.em ∧ t = { s with tbl := t.tbl, flt := t.flt })) ∧
  (∀ (s : State), s.Free (F.TBL_PIN_LOG_CTRL_POP.addr 0) → 
    Completes (.pinLogPop 0) s (fun t => t.resp = some ⟨.ok, []⟩ ∧ t.tbl.pinLog = s.tbl.pinLog.drop 1 ∧
    t.rd F.TBL_PIN_LOG_CTRL_COUNT = (s.tbl.pinLog.length - 1) % 2 ^ F.TBL_PIN_LOG_CTRL_COUNT.width ∧
    t.rd F.TBL_PIN_LOG_KEY_LO_MAC_LO = (s.tbl.pinLog.drop 1).headD 0 % 2 ^ 32 ∧
    t.rd F.TBL_PIN_LOG_KEY_HI_MAC_HI = (s.tbl.pinLog.drop 1).headD 0 / 2 ^ 32 % 2 ^ 16 ∧
    t.rd F.TBL_PIN_LOG_KEY_HI_VID = (s.tbl.pinLog.drop 1).headD 0 / 2 ^ 48 % 2 ^ F.TBL_PIN_LOG_KEY_HI_VID.width ∧
    RegsBut s t ((F.TBL_PIN_LOG_CTRL_COUNT, 0) :: (F.TBL_PIN_LOG_KEY_LO_MAC_LO, 0) :: (F.TBL_PIN_LOG_KEY_HI_MAC_HI, 0) ::
      (F.TBL_PIN_LOG_KEY_HI_VID, 0) :: digestFields)))

/-- FORCE asks for the sparing of a bank in service. The first bank that waits takes the first spare as its shadow, and is retired
with a fault when there is none. When every live cell is copied the map points to the shadow, with a count, a SPARED fault and a
record. A corrected cell is counted against its logical bank, and the uncorrectable cell of a frame is marked and its bank
spared; a physical bank that serves none is counted and reported by itself, and the buffer of the control memory in which an
uncorrectable unit lies is told of it. The bank test spares each bank it found failing, with a count and a SPARED fault, while
spares are left, and sets INIT_DONE as it ends. It also rests on the model's own readings of log 28 and log 89. -/
def Obligations.BanksAreSparedAndTheBufferStarts : Prop :=
  (∀ (s : State) (bank : BitVec 6), s.Free (F.BUF_SPARE_CTRL_FORCE.addr 0) → bank.toNat < 60 ∧ s.buf.retired.contains bank.toNat = false ∧ s.buf.spareReq = [] ∧ s.buf.sparing = none → 
    Completes (.spareForce 0 bank) s (fun t => t.resp = some ⟨.ok, []⟩ ∧ t.buf = { s.buf with spareReq := [bank.toNat] } ∧
    RegsBut s t ((F.BUF_SPARE_CTRL_FORCE_BANK, 0) :: digestFields))) ∧
  (∀ (s : State) (bank sp : Nat) (rest more : List Nat), s.live = true → s.buf.sparing = none ∧ s.buf.spareReq = bank :: rest ∧ s.buf.spares = sp :: more → 
    Completes (.bankSparingStart) s (fun t => t.buf = { s.buf with spareReq := rest, spares := more, sparing := some ⟨bank, sp, s.now⟩ } ∧
    t.on F.BUF_SPARE_STATUS_MIGRATING = true ∧ t.rd F.BUF_SPARE_STATUS_BANK = bank % 2 ^ F.BUF_SPARE_STATUS_BANK.width ∧
    t.rd F.BUF_SPARE_STATUS_SPARES_LEFT = more.length % 2 ^ F.BUF_SPARE_STATUS_SPARES_LEFT.width ∧ t = { s with regs := t.regs, buf := t.buf })) ∧
  (∀ (s : State) (bank : Nat) (rest : List Nat), s.live = true → s.buf.sparing = none ∧ s.buf.spareReq = bank :: rest ∧ s.buf.spares = [] → 
    Completes (.bankSparingStart) s (fun t => t.buf.retired = s.buf.retired ++ [bank] ∧ t.on F.BUF_INT_STATUS_SPARE_NONE = true ∧ t.buf.spareReq = rest ∧ t.buf.sparing = none ∧
    t.flt.held = s.flt.held ++ [⟨30, 5, 1, bank, 0⟩])) ∧
  (∀ (s : State) (x : Sparing), s.live = true → s.buf.sparing = some x → x.start + 2 * (s.usedCells.filter (fun c => c / 16384 == x.bank)).length ≤ s.now → 
    Completes (.bankSparingDone) s (fun t => t.buf.sparing = none ∧ t.buf.bankMap = s.buf.bankMap.put x.bank x.spare x.bank ∧ t.on F.BUF_SPARE_STATUS_MIGRATING = false ∧
    t.on F.BUF_INT_STATUS_SPARE_USED = true ∧ t.flt.held = s.flt.held ++ [⟨30, 4, 2, x.bank, 0⟩] ∧
    t.cntTick.get (cntKey 7 9 0) 0 = s.cntTick.get (cntKey 7 9 0) 0 + 1 ∧ t.buf.stored = s.buf.stored)) ∧
  (∀ (s : State) (cell : Fin 1048576) (bank c : Nat), s.live = true → s.on F.BUF_SCRUB_CTRL_ENABLE = true → s.rd F.BUF_SPARE_CTRL_CE_LIMIT = 0 → s.logicalBank (cell.val / 16384) = some bank ∧ c = 16384 * bank + cell.val % 16384 → 
    Completes (.bufferScrub (.cell cell) 1) s (fun t => t.flt.held = s.flt.held ++ [⟨30, 1, 0, bank, c⟩] ∧
    t.cntTick.get (cntKey 7 7 bank) 0 = s.cntTick.get (cntKey 7 7 bank) 0 + 1 ∧
    t.buf.stored = s.buf.stored ∧ t.buf.spareReq = s.buf.spareReq ∧ t.on F.BUF_INT_STATUS_ECC_CORR = true ∧
    t.regs = (s.raiseBits F.BUF_INT_STATUS_ECC_CORR 0 1).regs)) ∧
  (∀ (s : State) (cell : Fin 1048576) (bank c : Nat), s.live = true → s.on F.BUF_SCRUB_CTRL_ENABLE = true → s.logicalBank (cell.val / 16384) = some bank ∧ c = 16384 * bank + cell.val % 16384 → s.usedCells.contains c = true ∧ s.buf.marked.contains c = false → s.buf.retired.contains bank = false ∧ s.buf.spareReq.contains bank = false ∧ s.buf.sparing = none → 
    Completes (.bufferScrub (.cell cell) 2) s (fun t => t.buf = { s.buf with marked := s.buf.marked ++ [c], spareReq := s.buf.spareReq ++ [bank] } ∧ t.on F.BUF_INT_STATUS_ECC_UNCORR = true ∧
    t.cntTick.get (cntKey 7 8 bank) 0 = s.cntTick.get (cntKey 7 8 bank) 0 + 1 ∧
    t.flt.held = s.flt.held ++ [⟨30, 2, 1, bank, c⟩] ∧ RegsBut s t [(F.BUF_INT_STATUS_ECC_UNCORR, 0)])) ∧
  (∀ (s : State) (cell : Fin 1048576) (finding : Fin 4), s.live = true → s.on F.BUF_SCRUB_CTRL_ENABLE = true → s.logicalBank (cell.val / 16384) = none → finding.val = 1 ∨ finding.val = 2 → 
    let flag := if finding.val = 1 then F.BUF_INT_STATUS_ECC_CORR else F.BUF_INT_STATUS_ECC_UNCORR
    let k := cntKey 7 (if finding.val = 1 then 7 else 8) (cell.val / 16384)
    Completes (.bufferScrub (.cell cell) finding) s (fun t => t.buf = s.buf ∧ t.on flag = true ∧ t.cntTick.get k 0 = s.cntTick.get k 0 + 1 ∧ RegsBut s t [(flag, 0)] ∧
    t.flt.held = s.flt.held ++ [⟨30, finding.val, finding.val - 1, cell.val / 16384, cell.val⟩])) ∧
  (∀ (s : State) (cell : Fin 1048576), s.live = true → s.on F.BUF_SCRUB_CTRL_ENABLE = true → 
    Completes (.bufferScrub (.control cell) 2) s (fun t => t.buf = { s.buf with ctl := s.buf.ctl.map (fun b => if s.ctlPlace cell.val = some (b.pool, b.place) then { b with bad := true } else b) } ∧
    t.on F.BUF_INT_STATUS_ECC_UNCORR = true ∧ t.flt.held = s.flt.held ++ [⟨30, 2, 1, 255, cell.val⟩] ∧
    RegsBut s t [(F.BUF_INT_STATUS_ECC_UNCORR, 0)])) ∧
  (∀ (s : State), s.live = true → s.on F.TIM_STATUS_RUN = true ∧ s.on F.BUF_STATUS_INIT_DONE = false → 
    Completes (.initDone []) s (fun t => t.on F.BUF_STATUS_INIT_DONE = true ∧ t.on F.SYS_BOOT_STATUS_BUF_INIT = true ∧ t.buf.bankMap = s.buf.bankMap ∧ t.buf.retired = s.buf.retired)) ∧
  (∀ (s : State) (bank : Fin 64) (sp : Nat) (more : List Nat), s.live = true → s.on F.TIM_STATUS_RUN = true ∧ s.on F.BUF_STATUS_INIT_DONE = false ∧ s.on F.SYS_BOOT_STATUS_BUF_INIT = false → bank.val < 60 ∧ s.buf.spares.filter (fun x => x != bank.val) = sp :: more → 
    Completes (.initDone [bank]) s (fun t => t.on F.BUF_STATUS_INIT_DONE = true ∧ t.on F.SYS_BOOT_STATUS_BUF_INIT = true ∧ t.buf.bankMap = s.buf.bankMap.put bank.val sp bank.val ∧
    t.buf.spares = more ∧ t.buf.retired = s.buf.retired ∧ t.on F.BUF_INT_STATUS_SPARE_USED = true ∧
    t.cntTick.get (cntKey 7 9 0) 0 = s.cntTick.get (cntKey 7 9 0) 0 + 1 ∧ t.flt.held.contains ⟨30, 4, 2, bank.val, 0⟩ = true))

/-- A seat's write of TX_TAIL or RX_TAIL of its own rings sets the tail within the ring, and a write of another seat's is refused as
NOT_OWNER with nothing changed but the answer. The oldest whole copy of a deep queue's backlog moves to its segment in Reserve
Memory when it is written, and gives its cells back. The copy at the head of that segment comes back on die, with cells of its
own, when the segment on die has room. It also rests on the model's own readings of log 29 and log 65. -/
def Obligations.RingsAndDeepQueuesMove : Prop :=
  (∀ (s : State) (seat : Fin 4) (value : BitVec 14), s.Free (F.BUF_SEAT_RING_TX_TAIL_VALUE.addr seat.val) → 
    Completes (.txTailWrite seat seat value) s (fun t => t.resp = some ⟨.ok, []⟩ ∧
    t.rd F.BUF_SEAT_RING_TX_TAIL_VALUE seat.val = value.toNat % 2 ^ s.rd F.BUF_SEAT_RING_CTRL_TX_LOG_SIZE seat.val % 2 ^ F.BUF_SEAT_RING_TX_TAIL_VALUE.width ∧
    RegsBut s t ((F.BUF_SEAT_RING_TX_TAIL_VALUE, seat.val) :: digestFields))) ∧
  (∀ (s : State) (seat : Fin 4) (value : BitVec 14), s.Free (F.BUF_SEAT_RING_RX_TAIL_VALUE.addr seat.val) → 
    Completes (.rxTailWrite seat seat value) s (fun t => t.resp = some ⟨.ok, []⟩ ∧
    t.rd F.BUF_SEAT_RING_RX_TAIL_VALUE seat.val = value.toNat % 2 ^ s.rd F.BUF_SEAT_RING_CTRL_RX_LOG_SIZE seat.val % 2 ^ F.BUF_SEAT_RING_RX_TAIL_VALUE.width ∧
    RegsBut s t ((F.BUF_SEAT_RING_RX_TAIL_VALUE, seat.val) :: digestFields))) ∧
  (∀ (s : State) (seat ring : Fin 4) (value : BitVec 14), s.live = true ∧ s.Settled → seat ≠ ring → 
    Completes (.txTailWrite seat ring value) s (fun t => t = { s with resp := some ⟨.notOwner, []⟩ })) ∧
  (∀ (s : State) (seat ring : Fin 4) (value : BitVec 14), s.live = true ∧ s.Settled → seat ≠ ring → 
    Completes (.rxTailWrite seat ring value) s (fun t => t = { s with resp := some ⟨.notOwner, []⟩ })) ∧
  (∀ (s : State) (d : Fin 64) (c : Copy), s.live = true → s.qsg.queue.find? (fun c => c.q == s.deepQueue d.val && c.seg == .backlog) = some c ∧ c.ready = true → s.rd F.MEM_STATUS_STATE ≠ 3 → 
    Completes (.spillWriteDone d) s (fun t => t.qsg.queue = s.qsg.queue.map (fun y => if y = c then { y with seg := .reserve, cells := 0, buf := none } else y) ∧
    t.cntTick.get (cntKey 7 10 0) 0 = s.cntTick.get (cntKey 7 10 0) 0 + 1 ∧
    (t.buf.leaving.map (fun x => x.cells)).take (s.buf.leaving.length + 1) = s.buf.leaving.map (fun x => x.cells) ++ [c.cells])) ∧
  (∀ (s : State) (d : Fin 64) (c : Copy) (cells : List Nat) (u : State), s.live = true → s.qsg.queue.find? (fun c => c.q == s.deepQueue d.val && c.seg == .reserve) = some c → s.rd F.MEM_STATUS_STATE ≠ 3 → sumOf (s.qsg.queue.filter (fun x => x.q == s.deepQueue d.val && x.seg == .onDie)) (fun x => x.cells) < s.rd F.BUF_DEEP_REFILL_REFILL d.val → s.queueTakes (s.deepQueue d.val) (ceilDiv c.frame.bytes.length 256) = true → s.buf.stored.any (fun b => b.id == s.fwd.nextFrame) = false → s.alloc (ceilDiv c.frame.bytes.length 256) = some (cells, u) → 
    Completes (.refillReadDone d) s (fun t => t.qsg.queue = s.qsg.queue.map (fun y => if y = c then { y with seg := .onDie, cells := ceilDiv c.frame.bytes.length 256, buf := some s.fwd.nextFrame } else y) ∧
    t.buf.stored.getLast? = some ⟨s.fwd.nextFrame, cells, 1, 0, 8, 0, 0⟩ ∧ t.fwd.nextFrame = s.fwd.nextFrame + 1 ∧
    t.cntTick.get (cntKey 7 11 0) 0 = s.cntTick.get (cntKey 7 11 0) 0 + 1))

/-- Any register that takes a write at once (class L, or class Q and stopped) and that the seat may write takes it, under any mask
and with any value in range: where the register sets nothing going its fields hold what was written, each by its access, and
nothing else changes but CFG_DIGEST; where it sets something going that has come too. It answers OK. A write of class S becomes
one implicit transaction and changes no register yet; a value out of range answers BAD_ADDRESS and changes nothing. A read of a
pair's lo half captures the hi half for the seat, and the read of the hi half that follows returns what was captured. A write of
any lo half is staged, merged under its mask, and the write of the hi half writes both. A read of any read-to-clear register
returns it, leaves its read-to-clear fields at their reset values and no other field changed; a register whose read takes
something more does so. A write in BAR0 sets any word of the seat's MSI-X table, and one that unmasks a vector sends what it
holds pending. It also rests on the model's own readings of log 10 and log 11 and log 12 and log 13. -/
def Obligations.SeatsReadAndWriteRegisters : Prop :=
  (∀ (s : State) (value : Word), s.Free (F.TIM_STEP_NS_VALUE.addr 0) → value.toNat < 1000000000 → 
    Completes (.registerWrite 0 false (BitVec.ofNat 32 (F.TIM_STEP_NS_VALUE.addr 0)) value 0xFFFFFFFF) s (fun t => t.resp = some ⟨.ok, []⟩ ∧ t.rd F.TIM_STEP_NS_VALUE = value.toNat ∧ t.tim = s.tim ∧ RegsBut s t ((F.TIM_STEP_NS_VALUE, 0) :: digestFields))) ∧
  (∀ (s : State) (value : Word), s.Free (F.TIM_STEP_NS_VALUE.addr 0) → 1000000000 ≤ value.toNat ∧ value.toNat < 2 ^ 30 → 
    Completes (.registerWrite 0 false (BitVec.ofNat 32 (F.TIM_STEP_NS_VALUE.addr 0)) value 0xFFFFFFFF) s (fun t => t = { s with resp := some ⟨.badAddress, []⟩ })) ∧
  (∀ (s : State) (seat : Fin 4) (addr value mask : Word), s.WritesAtOnce seat.val addr.toNat value.toNat mask.toNat → (s.applyWord seat.val ⟨addr.toNat, mask.toNat, value.toNat⟩).toOption = some (s.poke (regOf addr.toNat) (copyNo addr.toNat) mask.toNat value.toNat) → 
    let n := copyNo addr.toNat
    let r := regOf addr.toNat
    Completes (.registerWrite seat false addr value mask) s (fun t => t.resp = some ⟨.ok, []⟩ ∧ (∀ d ∈ s.fieldsOf r n, d.acc = .rw ∨ d.acc = .w1c → t.rd d.fld n = s.written d n mask.toNat value.toNat % 2 ^ d.fld.width) ∧
    RegsBut s t (r.fields.map (fun d => (d.fld, n)) ++ digestFields) ∧
    t = { s with regs := t.regs, rwSet := t.rwSet, idn := t.idn, resp := t.resp })) ∧
  (∀ (s : State) (seat : Fin 4) (addr value mask : Word) (u : State), s.WritesAtOnce seat.val addr.toNat value.toNat mask.toNat → (s.applyWord seat.val ⟨addr.toNat, mask.toNat, value.toNat⟩).toOption = some u → 
    Completes (.registerWrite seat false addr value mask) s (fun t => t.resp = some ⟨.ok, []⟩ ∧ RegsBut u t digestFields ∧
    t = { u with regs := t.regs, idn := t.idn, cmd := t.cmd, resp := t.resp, pins := t.pins, pending := s.pending } ∧
    t.cmd = (u.setSeat seat.val (fun e => { e with staging := (s.seat seat.val).staging })).cmd)) ∧
  (∀ (s : State) (seat : Fin 4) (addr value mask : Word), s.Free addr.toNat → (findReg addr.toNat).isSome = true ∧ (regOf addr.toNat).half = .whole → ((s.tryWord s seat.val 0 (pure ()) ⟨addr.toNat, mask.toNat, value.toNat⟩).toOption).map (fun x => x.1) = some .s → resetWrite ⟨addr.toNat, mask.toNat, value.toNat⟩ = false → 
    Completes (.registerWrite seat false addr value mask) s (fun t => t.resp = some ⟨.ok, []⟩ ∧ t.cmd.txns.map (fun x => x.id) = s.cmd.txns.map (fun x => x.id) ++ [4096 + s.syn.nextAction] ∧
    (t.cmd.txns.getLast?).map (fun x => (x.seat, x.implicit, x.words, x.entries)) = some (seat.val, true, [⟨addr.toNat, mask.toNat, value.toNat⟩], []) ∧
    t = { s with cmd := t.cmd, syn := t.syn, resp := t.resp })) ∧
  (∀ (s : State) (seat : Fin 4) (i : Fin 16) (value mask : Word), s.pins.porst = false ∧ s.cmd.seats.length = 4 → 
    let v := masked ((s.seat seat.val).vectors.get i.val (msixReset i.val)) mask.toNat value.toNat % 2 ^ 32
    Completes (.registerWrite seat true (BitVec.ofNat 32 (0x800 + 4 * i.val)) value mask) s (fun t => (t.seat seat.val).vectors.get i.val (msixReset i.val) = v ∧
    (t.seat seat.val).msix = (if i.val % 4 = 3 ∧ bit v 0 = false ∧ bit (s.seat seat.val).msix (i.val / 4) = true then (s.seat seat.val).msix - 2 ^ (i.val / 4) else (s.seat seat.val).msix) ∧
    t.cmd.flights = s.cmd.flights ∧ t = { s with cmd := t.cmd })) ∧
  (∀ (s : State) (seat v : Fin 4), s.pins.porst = false ∧ s.cmd.seats.length = 4 → bit (s.seat seat.val).msix v.val = true → 
    Completes (.registerWrite seat true (BitVec.ofNat 32 (0x80C + 16 * v.val)) 0 0xFFFFFFFF) s (fun t => (t.seat seat.val).vectors.get (4 * v.val + 3) 1 = 0 ∧ (t.seat seat.val).msix = (s.seat seat.val).msix - 2 ^ v.val ∧ t = { s with cmd := t.cmd })) ∧
  (∀ (s : State) (seat : Fin 4), s.live = true ∧ s.cmd.seats.length = 4 ∧ s.caughtUp = s → 
    Completes (.pairLoRead seat (BitVec.ofNat 32 (F.TIM_CANOPY_LO_VALUE.addr 0))) s (fun t => t.resp = some ⟨.ok, [s.rd F.TIM_CANOPY_LO_VALUE]⟩ ∧
    (t.seat seat.val).capture = some (F.TIM_CANOPY_LO_VALUE.addr 0, s.rd F.TIM_CANOPY_HI_VALUE) ∧ t = { s with resp := t.resp, cmd := t.cmd })) ∧
  (∀ (s : State) (seat : Fin 4) (h : Nat), s.live = true ∧ s.caughtUp = s → (s.seat seat.val).capture = some (F.TIM_CANOPY_LO_VALUE.addr 0, h) → 
    Completes (.pairHiRead seat (BitVec.ofNat 32 (F.TIM_CANOPY_HI_VALUE.addr 0))) s (fun t => t = { s with resp := some ⟨.ok, [h]⟩ })) ∧
  (∀ (s : State) (seat : Fin 4) (addr value mask : Word), s.Free addr.toNat ∧ s.cmd.seats.length = 4 → (findReg addr.toNat).isSome = true ∧ (regOf addr.toNat).half = .lo → (s.tryWord s seat.val 0 (pure ()) ⟨addr.toNat, 0, value.toNat⟩).toBool = true → 
    Completes (.pairLoWrite seat addr value mask) s (fun t => (t.seat seat.val).staging = some (addr.toNat, masked (s.wordAt addr.toNat) mask.toNat value.toNat) ∧
    t = { s.setSeat seat.val (fun e => { e with staging := some (addr.toNat, masked (s.wordAt addr.toNat) mask.toNat value.toNat) }) with resp := some ⟨.ok, []⟩ })) ∧
  (∀ (s : State) (seat : Fin 4) (addr value mask : Word) (lo : Nat) (c d : Cls) (u : State), s.Free addr.toNat ∧ s.wordHeld 0 (addr.toNat - 4) = false ∧ s.cmd.seats.length = 4 → (findReg (addr.toNat - 4)).isSome = true ∧ (regOf (addr.toNat - 4)).half = .lo ∧ (findReg addr.toNat).isSome = true ∧ (regOf addr.toNat).half = .hi ∧ copyNo (addr.toNat - 4) = copyNo addr.toNat → c ≠ .s ∧ d ≠ .s → lo = (match (s.seat seat.val).staging with | some (x, v) => if x + 4 = addr.toNat then v else 0 | none => 0) → (s.tryWord s seat.val 0 (pure ()) ⟨addr.toNat - 4, 0xFFFFFFFF, lo⟩).toOption = some (c, s.poke (regOf (addr.toNat - 4)) (copyNo addr.toNat) 0xFFFFFFFF lo) → u = (s.poke (regOf (addr.toNat - 4)) (copyNo addr.toNat) 0xFFFFFFFF lo).extendD 0 seat.val 0 (addr.toNat - 4) 0xFFFFFFFF [lo] → (u.tryWord u seat.val 0 (pure ()) ⟨addr.toNat, mask.toNat, value.toNat⟩).toOption = some (d, u.poke (regOf addr.toNat) (copyNo addr.toNat) mask.toNat value.toNat) → 
    let n := copyNo addr.toNat
    let lower := regOf (addr.toNat - 4)
    let r := regOf addr.toNat
    Completes (.pairHiWrite seat addr value mask) s (fun t => t.resp = some ⟨.ok, []⟩ ∧ (t.seat seat.val).staging = none ∧
    (∀ d ∈ s.fieldsOf lower n, d.acc = .rw → t.rd d.fld n = s.written d n 0xFFFFFFFF lo % 2 ^ d.fld.width) ∧
    (∀ d ∈ s.fieldsOf r n, d.acc = .rw → t.rd d.fld n = s.written d n mask.toNat value.toNat % 2 ^ d.fld.width) ∧
    RegsBut s t (lower.fields.map (fun d => (d.fld, n)) ++ r.fields.map (fun d => (d.fld, n)) ++ digestFields) ∧
    t = { s with regs := t.regs, rwSet := t.rwSet, idn := t.idn, cmd := t.cmd, resp := t.resp })) ∧
  (∀ (s : State) (seat : Fin 4) (p : Fin 518) (value : Word), s.Free (F.MAC_PORT_SA_LO_VALUE.addr p.val) → s.ownsPort seat.val p.val = true ∧ s.cmd.seats.length = 4 → 
    Completes (.pairLoWrite seat (BitVec.ofNat 32 (F.MAC_PORT_SA_LO_VALUE.addr p.val)) value 0xFFFFFFFF) s (fun t => t.resp = some ⟨.ok, []⟩ ∧ (t.seat seat.val).staging = some (F.MAC_PORT_SA_LO_VALUE.addr p.val, value.toNat) ∧
    t.rd F.MAC_PORT_SA_LO_VALUE p.val = s.rd F.MAC_PORT_SA_LO_VALUE p.val ∧ RegsBut s t [])) ∧
  (∀ (s : State) (seat : Fin 4) (p : Fin 518) (lo : Nat) (value : Word), s.Free (F.MAC_PORT_SA_HI_VALUE.addr p.val) ∧ s.wordHeld 0 (F.MAC_PORT_SA_LO_VALUE.addr p.val) = false → s.ownsPort seat.val p.val = true ∧ s.cmd.seats.length = 4 → (s.seat seat.val).staging = some (F.MAC_PORT_SA_LO_VALUE.addr p.val, lo) → 
    Completes (.pairHiWrite seat (BitVec.ofNat 32 (F.MAC_PORT_SA_HI_VALUE.addr p.val)) value 0xFFFFFFFF) s (fun t => t.resp = some ⟨.ok, []⟩ ∧ t.rd F.MAC_PORT_SA_LO_VALUE p.val = lo % 2 ^ 32 ∧ t.rd F.MAC_PORT_SA_HI_VALUE p.val = value.toNat % 2 ^ 16 ∧
    (t.seat seat.val).staging = none ∧
    RegsBut s t ((F.MAC_PORT_SA_LO_VALUE, p.val) :: (F.MAC_PORT_SA_HI_VALUE, p.val) :: digestFields))) ∧
  (∀ (s : State) (seat : Fin 4) (n : Fin 32), s.live = true ∧ s.caughtUp = s → 
    Completes (.rcRead seat (BitVec.ofNat 32 (F.MSQ_AGE_MAX_AGE_NS.addr n.val))) s (fun t => t.resp = some ⟨.ok, [s.rd F.MSQ_AGE_MAX_AGE_NS n.val]⟩ ∧ t.rd F.MSQ_AGE_MAX_AGE_NS n.val = 0 ∧
    RegsBut s t [(F.MSQ_AGE_MAX_AGE_NS, n.val)] ∧ t = { s with regs := t.regs, resp := t.resp })) ∧
  (∀ (s : State) (seat : Fin 4) (addr : Word), s.live = true ∧ s.caughtUp = s ∧ addr.toNat < 0x800000 → (findReg addr.toNat).isSome = true ∧ (regOf addr.toNat).half = .whole ∧ (regOf addr.toNat).fields.any (fun d => d.acc == .rc) = true → (regOf addr.toNat).base ≠ A.CHK_OUT → 
    let u := s.showFor addr.toNat
    let n := copyNo addr.toNat
    let r := regOf addr.toNat
    Completes (.rcRead seat addr) s (fun t => t.resp = some ⟨.ok, [u.wordOf r n]⟩ ∧ (∀ d ∈ r.fields, d.acc = .rc → t.rd d.fld n = d.fld.reset n % 2 ^ d.fld.width) ∧
    RegsBut u t ((r.fields.filter (fun d => d.acc == .rc)).map (fun d => (d.fld, n))) ∧ t = { s with regs := t.regs, resp := t.resp })) ∧
  (∀ (s : State) (seat : Fin 4) (addr : Word), s.live = true ∧ s.caughtUp = s ∧ addr.toNat < 0x800000 → (findReg addr.toNat).isSome = true ∧ (regOf addr.toNat).half = .whole ∧ (regOf addr.toNat).base = A.CHK_OUT → 
    let n := copyNo addr.toNat
    Completes (.rcRead seat addr) s (fun t => t = { (s.chkOutRead n).2 with resp := some ⟨.ok, [(s.chkOutRead n).1]⟩, pins := s.pins, pending := s.pending }))

/-- A 32-bit write of the Command Window adds its word to the Command FIFO; a first word whose LENGTH is out of range sets FRAMING,
and a word to a full FIFO sets OVERFLOW and is dropped. The write that completes a packet hands it to Drafen, which holds it in
flight. A 64-bit read of the Reply Window takes two words, and a word that is missing reads 0 and sets UNDERFLOW. A read of ISW
0 captures the others, and each of these reads takes its capture. A good in-band frame of a permitted port brings its packet in
flight, with its reply bound for that port, and one that comes while Drafen is not ready is dropped with reason 8. It also rests
on the model's own readings of log 22 and log 23. -/
def Obligations.WindowsCarryWordsAndStatus : Prop :=
  (∀ (s : State) (seat : Fin 4) (value : DWord), s.live = true ∧ s.cmd.seats.length = 4 → s.on F.CMD_SEAT_STATUS_LINK_UP seat.val = true ∧ s.on F.CMD_SEAT_STATUS_FRAMING seat.val = false ∧ s.on F.CMD_SEAT_STATUS_OVERFLOW seat.val = false → (s.seat seat.val).cmdFifo.length < 1024 → 5 ≤ ((s.seat seat.val).cmdFifo ++ [value.toNat % 2 ^ 32]).headD 0 % 65536 ∧ ((s.seat seat.val).cmdFifo ++ [value.toNat % 2 ^ 32]).headD 0 % 65536 ≤ 1024 → s.ready = false ∨ (s.seat seat.val).cmdFifo.length + 1 < ((s.seat seat.val).cmdFifo ++ [value.toNat % 2 ^ 32]).headD 0 % 65536 → 
    Completes (.commandWindowWrite seat false value) s (fun t => (t.seat seat.val).cmdFifo = (s.seat seat.val).cmdFifo ++ [value.toNat % 2 ^ 32] ∧ (t.seat seat.val).replyFifo = (s.seat seat.val).replyFifo ∧
    t.cmd.flights = s.cmd.flights ∧ t = { s with regs := t.regs, cmd := t.cmd } ∧ RegsBut s t (seatFields seat.val))) ∧
  (∀ (s : State) (seat : Fin 4) (value : DWord), s.live = true ∧ s.cmd.seats.length = 4 → s.on F.CMD_SEAT_STATUS_LINK_UP seat.val = true ∧ s.on F.CMD_SEAT_STATUS_FRAMING seat.val = false ∧ s.on F.CMD_SEAT_STATUS_OVERFLOW seat.val = false → (s.seat seat.val).cmdFifo = [] → value.toNat % 65536 < 5 ∨ 1024 < value.toNat % 65536 → 
    Completes (.commandWindowWrite seat false value) s (fun t => (t.seat seat.val).cmdFifo = [value.toNat % 2 ^ 32] ∧ t.on F.CMD_SEAT_STATUS_FRAMING seat.val = true ∧ t.cmd.flights = s.cmd.flights ∧
    t.cntTick.get (cntKey 16 3 0) 0 = s.cntTick.get (cntKey 16 3 0) 0 + 1 ∧ RegsBut s t ((F.CMD_SEAT_STATUS_FRAMING, seat.val) :: seatFields seat.val))) ∧
  (∀ (s : State) (seat : Fin 4) (value : DWord), s.live = true ∧ s.ready = false ∧ s.cmd.seats.length = 4 → s.on F.CMD_SEAT_STATUS_LINK_UP seat.val = true ∧ s.on F.CMD_SEAT_STATUS_FRAMING seat.val = false ∧ s.on F.CMD_SEAT_STATUS_OVERFLOW seat.val = false → (s.seat seat.val).cmdFifo.length = 1024 → 5 ≤ (s.seat seat.val).cmdFifo.headD 0 % 65536 ∧ (s.seat seat.val).cmdFifo.headD 0 % 65536 ≤ 1024 → 
    Completes (.commandWindowWrite seat false value) s (fun t => t.cmd = s.cmd ∧ t.on F.CMD_SEAT_STATUS_OVERFLOW seat.val = true ∧
    t.cntTick.get (cntKey 16 4 0) 0 = s.cntTick.get (cntKey 16 4 0) 0 + 1 ∧ RegsBut s t ((F.CMD_SEAT_STATUS_OVERFLOW, seat.val) :: seatFields seat.val))) ∧
  (∀ (s : State) (p : Packet) (value : DWord), s.Takes p → s.on F.CMD_SEAT_STATUS_LINK_UP p.sender.val = true ∧ s.on F.CMD_SEAT_STATUS_FRAMING p.sender.val = false ∧ s.on F.CMD_SEAT_STATUS_OVERFLOW p.sender.val = false → (s.seat p.sender.val).cmdFifo ≠ [] → (s.seat p.sender.val).cmdFifo ++ [value.toNat % 2 ^ 32, value.toNat / 2 ^ 32] = packetWords p → 
    Completes (.commandWindowWrite p.sender true value) s (fun t => (t.seat p.sender.val).cmdFifo = [] ∧ t.cmd.flights = s.cmd.flights ++ [⟨p, .window, s.cmd.nextSeqNo, false⟩] ∧
    (t.seat p.sender.val).replyFifo = (s.seat p.sender.val).replyFifo ∧ RegsBut s t (seatFields p.sender.val))) ∧
  (∀ (s : State) (seat : Fin 4) (a b : Nat) (rest : List Nat), s.live = true ∧ s.on F.CMD_SEAT_STATUS_LINK_UP seat.val = true ∧ s.cmd.seats.length = 4 → (s.seat seat.val).replyFifo = a :: b :: rest → 
    Completes (.replyWindowRead seat true) s (fun t => t.resp = some ⟨.ok, [a, b]⟩ ∧ (t.seat seat.val).replyFifo = rest ∧ RegsBut s t (seatFields seat.val))) ∧
  (∀ (s : State) (seat : Fin 4), s.live = true ∧ s.on F.CMD_SEAT_STATUS_LINK_UP seat.val = true ∧ s.cmd.seats.length = 4 → (s.seat seat.val).replyFifo = [] → 
    Completes (.replyWindowRead seat false) s (fun t => t.resp = some ⟨.ok, [0]⟩ ∧ t.on F.CMD_SEAT_STATUS_UNDERFLOW seat.val = true ∧ RegsBut s t ((F.CMD_SEAT_STATUS_UNDERFLOW, seat.val) :: seatFields seat.val))) ∧
  (∀ (s : State) (seat : Fin 4) (l : List Nat), s.pins.porst = false ∧ s.pins.tripped = false ∧ s.on F.CMD_SEAT_STATUS_LINK_UP seat.val = true ∧ s.cmd.seats.length = 4 → (s.seat seat.val).mirror = l ∧ l ≠ [] → 
    Completes (.iswRead seat 0) s (fun t => t.resp = some ⟨.ok, [l.getD 0 0]⟩ ∧ (t.seat seat.val).isw = (List.range 7).map (fun k => (k + 1, l.getD (k + 1) 0)) ∧ t.regs = s.regs)) ∧
  (∀ (s : State) (seat : Fin 4) (i : Fin 16) (v : Nat), s.pins.porst = false ∧ s.pins.tripped = false ∧ s.on F.CMD_SEAT_STATUS_LINK_UP seat.val = true ∧ s.cmd.seats.length = 4 → i ≠ 0 ∧ (s.seat seat.val).isw.find? (fun x => x.1 == i.val) = some (i.val, v) → 
    Completes (.iswRead seat i) s (fun t => t.resp = some ⟨.ok, [v]⟩ ∧ (t.seat seat.val).isw = (s.seat seat.val).isw.filter (fun z => z.1 != i.val) ∧ t.regs = s.regs)) ∧
  (∀ (s : State) (port : Fin 512) (bytes b : Bytes) (detect var : Nat) (p : Packet), s.ready = true ∧ s.Settled ∧ b = (bodyOf bytes).drop 14 → beAt bytes 0 6 = s.rd2 F.CMD_INBAND_MAC_LO_VALUE F.CMD_INBAND_MAC_HI_VALUE ∧ beAt bytes 12 2 = 0x88B6 → beAt b 2 2 = p.data.length + 5 ∧ 4 * (p.data.length + 5) ≤ b.length ∧ wordsOf (p.data.length + 5) b = packetWords p → s.on F.CMD_SEAT_CTRL_INBAND_EN p.sender.val = true ∧ bit (s.rd F.CMD_SEAT_INBAND_PORTS (p.sender.val * 16 + port.val / 32)) (port.val % 32) = true → packetForm p = true ∧ p.seat = p.sender ∧ s.cmd.flights.all (fun f => f.packet.sender != p.sender) = true ∧ 0 < s.rd F.CMD_SEAT_TAGS_TAG_QUOTA p.sender.val → 
    Completes (.inbandCommand port bytes ⟨detect, var⟩) s (fun t => t.cmd.flights = s.cmd.flights ++ [⟨p, .inband port.val (beAt bytes 6 6) none, s.cmd.nextSeqNo, false⟩] ∧ t.qsg = s.qsg ∧
    t.fwd = s.fwd ∧ RegsBut s t (seatFields p.sender.val))) ∧
  (∀ (s : State) (port : Fin 512) (bytes : Bytes) (detect var : Nat), s.live = true ∧ s.ready = false ∧ s.Settled → beAt bytes 0 6 = s.rd2 F.CMD_INBAND_MAC_LO_VALUE F.CMD_INBAND_MAC_HI_VALUE ∧ beAt bytes 12 2 = 0x88B6 → 
    Completes (.inbandCommand port bytes ⟨detect, var⟩) s (fun t => t.cmd = s.cmd ∧ t.cntTick.get (cntKey 2 8 port.val) 0 = s.cntTick.get (cntKey 2 8 port.val) 0 + 1 ∧ t.qsg = s.qsg ∧
    t.fwd.nextFrame = s.fwd.nextFrame + 1 ∧ t.tbl = s.tbl ∧ t.buf = s.buf ∧ t.tim = s.tim))

/-- CMD_FLUSH empties the Command FIFO of its seat, with the words of a packet that is not whole, and clears FRAMING, OVERFLOW and
UNDERFLOW. REPLY_FLUSH empties the Reply FIFO. Neither changes what is in flight: every accepted command stays, with the way its
reply takes. -/
def Obligations.FlushesLeaveAcceptedCommands : Prop :=
  (∀ (s : State) (seat : Fin 4), s.live = true ∧ s.on F.CMD_SEAT_STATUS_LINK_UP seat.val = true ∧ s.cmd.seats.length = 4 → 
    Completes (.cmdFlush seat) s (fun t => (t.seat seat.val).cmdFifo = [] ∧ (t.seat seat.val).replyFifo = (s.seat seat.val).replyFifo ∧ t.cmd.flights = s.cmd.flights ∧
    t.on F.CMD_SEAT_STATUS_FRAMING seat.val = false ∧ t.on F.CMD_SEAT_STATUS_OVERFLOW seat.val = false ∧ t.on F.CMD_SEAT_STATUS_UNDERFLOW seat.val = false ∧
    RegsBut s t ((F.CMD_SEAT_STATUS_FRAMING, seat.val) :: (F.CMD_SEAT_STATUS_OVERFLOW, seat.val) :: (F.CMD_SEAT_STATUS_UNDERFLOW, seat.val) :: seatFields seat.val))) ∧
  (∀ (s : State) (seat : Fin 4), s.live = true ∧ s.on F.CMD_SEAT_STATUS_LINK_UP seat.val = true ∧ s.cmd.seats.length = 4 → 
    Completes (.replyFlush seat) s (fun t => (t.seat seat.val).replyFifo = [] ∧ (t.seat seat.val).cmdFifo = (s.seat seat.val).cmdFifo ∧ t.cmd.flights = s.cmd.flights ∧ RegsBut s t (seatFields seat.val)))

/-- Drafen takes each packet at once and places its reply with the status, the tag and the tick. READ answers with the register's
value. READ_BLOCK of a pair answers with both halves of one value. So does READ with any other plain register, and READ_BLOCK
with the words of any addresses that can be read. WRITE and WRITE_BLOCK of a register without a TXN_ID apply it under the mask
where it takes its value at once, and begin an implicit transaction, the command staying in flight, where it is of class S.
WRITE_BLOCK with a TXN_ID only stages its words, and no register shows them. ECHO answers with its own words. It also rests on
the model's own readings of log 14 and log 22. -/
def Obligations.PacketsReadWriteAndEcho : Prop :=
  (∀ (s : State) (p : Packet), s.Takes p → p.opcode = 0x01 ∧ p.address.toNat = F.TIM_STEP_NS_VALUE.addr 0 → (s.taken p).caughtUp = s.taken p → 
    Completes (.read p) s (fun t => Replied s t p .ok [s.rd F.TIM_STEP_NS_VALUE] ∧ t.cmd.txns = s.cmd.txns ∧ t.tim = s.tim ∧ RegsBut s t (seatFields p.sender.val))) ∧
  (∀ (s : State) (p : Packet), s.Takes p → p.opcode = 0x01 ∧ p.address.toNat < 0x800000 → (findReg p.address.toNat).isSome = true ∧ (regOf p.address.toNat).half = .whole ∧ (regOf p.address.toNat).fields.all (fun d => d.acc != .rc) = true → (regOf p.address.toNat).base ≠ A.CHK_OUT ∧ (regOf p.address.toNat).base ≠ A.IDN_CERT_DATA → (s.taken p).caughtUp = s.taken p → 
    let u := (s.taken p).showFor p.address.toNat
    Completes (.read p) s (fun t => Replied s t p .ok [u.wordOf (regOf p.address.toNat) (copyNo p.address.toNat)] ∧ t.cmd.txns = s.cmd.txns ∧ t.tim = s.tim ∧
    RegsBut u t (seatFields p.sender.val))) ∧
  (∀ (s : State) (p : Packet), s.Takes p → p.opcode = 0x02 ∧ p.txn = 0 ∧ p.sender = 0 ∧ p.address.toNat = F.TIM_STEP_NS_VALUE.addr 0 → (p.data.getD 0 0).toNat < 1000000000 ∧ p.parameter = 0xFFFFFFFF → s.wordHeld 0 (F.TIM_STEP_NS_VALUE.addr 0) = false → 
    Completes (.write p) s (fun t => Replied s t p .ok [] ∧ t.rd F.TIM_STEP_NS_VALUE = (p.data.getD 0 0).toNat ∧ t.cmd.txns = s.cmd.txns ∧ t.tim = s.tim ∧
    RegsBut s t ((F.TIM_STEP_NS_VALUE, 0) :: digestFields ++ seatFields 0))) ∧
  (∀ (s : State) (p : Packet) (v : Word), s.Takes p → p.opcode = 0x02 ∧ p.txn = 0 ∧ p.data = [v] → (s.taken p).WritesAtOnce p.sender.val p.address.toNat v.toNat p.parameter.toNat → ((s.taken p).applyWord p.sender.val ⟨p.address.toNat, p.parameter.toNat, v.toNat⟩).toOption = some ((s.taken p).poke (regOf p.address.toNat) (copyNo p.address.toNat) p.parameter.toNat v.toNat) → 
    let n := copyNo p.address.toNat
    let r := regOf p.address.toNat
    Completes (.write p) s (fun t => Replied s t p .ok [] ∧ t.cmd.txns = s.cmd.txns ∧ t.tim = s.tim ∧ t.qsg = s.qsg ∧
    (∀ d ∈ s.fieldsOf r n, d.acc = .rw ∨ d.acc = .w1c → t.rd d.fld n = s.written d n p.parameter.toNat v.toNat % 2 ^ d.fld.width) ∧
    RegsBut s t (r.fields.map (fun d => (d.fld, n)) ++ digestFields ++ seatFields p.sender.val))) ∧
  (∀ (s : State) (p : Packet) (v : Word), s.Takes p → p.opcode = 0x02 ∧ p.txn = 0 ∧ p.data = [v] → (findReg p.address.toNat).isSome = true ∧ (regOf p.address.toNat).half = .whole → (((s.taken p).tryWord (s.taken p) p.sender.val 0 (pure ()) ⟨p.address.toNat, p.parameter.toNat, v.toNat⟩).toOption).map (fun x => x.1) = some .s → 
    Completes (.write p) s (fun t => t.cmd.flights = s.cmd.flights ++ [⟨p, .window, s.cmd.nextSeqNo, true⟩] ∧ t.resp = s.resp ∧
    t.cmd.txns.map (fun x => x.id) = s.cmd.txns.map (fun x => x.id) ++ [4096 + s.syn.nextAction] ∧
    (t.cmd.txns.getLast?).map (fun x => (x.seat, x.implicit, x.words, x.waiting)) =
      some (p.sender.val, true, [⟨p.address.toNat, p.parameter.toNat, v.toNat⟩], some p) ∧ RegsBut s t (seatFields p.sender.val))) ∧
  (∀ (s : State) (p : Packet), s.Takes p → p.opcode = 0x03 ∧ p.parameter = 2 ∧ p.address.toNat = F.TIM_CANOPY_LO_VALUE.addr 0 → (s.taken p).caughtUp = s.taken p → 
    Completes (.readBlock p) s (fun t => Replied s t p .ok [s.rd F.TIM_CANOPY_LO_VALUE, s.rd F.TIM_CANOPY_HI_VALUE] ∧ t.tim = s.tim ∧ RegsBut s t (seatFields p.sender.val))) ∧
  (∀ (s : State) (p : Packet) (l : List Nat) (u : State), s.Takes p → p.opcode = 0x03 ∧ 1 ≤ p.parameter.toNat ∧ p.parameter.toNat ≤ 1019 → (s.taken p).caughtUp = s.taken p → ((s.taken p).readWords p.sender.val p.address.toNat p.parameter.toNat).toOption = some (l, u) → 
    Completes (.readBlock p) s (fun t => Replied s t p .ok l ∧ t.tim = s.tim ∧ RegsBut u t (seatFields p.sender.val))) ∧
  (∀ (s : State) (p : Packet) (x : Txn) (v : Word), s.Takes p → p.opcode = 0x04 ∧ p.sender = 0 ∧ p.address.toNat = F.TIM_STEP_NS_VALUE.addr 0 ∧ p.data = [v] ∧ v.toNat < 1000000000 → s.cmd.txns = [x] ∧ x.implicit = false ∧ x.id = p.txn.toNat ∧ x.id ≠ 0 ∧ x.seat = 0 ∧ x.phase = .staging ∧ x.words = [] → 
    Completes (.writeBlock p) s (fun t => Replied s t p .ok [] ∧
    t.cmd.txns = [{ x with words := [⟨F.TIM_STEP_NS_VALUE.addr 0, 0xFFFFFFFF, v.toNat⟩], order := x.order ++ [false], lastCmd := s.now }] ∧
    RegsBut s t (seatFields 0) ∧ t.tim = s.tim)) ∧
  (∀ (s : State) (p : Packet) (v : Word), s.Takes p → p.opcode = 0x04 ∧ p.txn = 0 ∧ p.data = [v] → (s.taken p).WritesAtOnce p.sender.val p.address.toNat v.toNat 0xFFFFFFFF → ((s.taken p).applyWord p.sender.val ⟨p.address.toNat, 0xFFFFFFFF, v.toNat⟩).toOption = some ((s.taken p).poke (regOf p.address.toNat) (copyNo p.address.toNat) 0xFFFFFFFF v.toNat) → 
    let n := copyNo p.address.toNat
    let r := regOf p.address.toNat
    Completes (.writeBlock p) s (fun t => Replied s t p .ok [] ∧ t.cmd.txns = s.cmd.txns ∧ t.tim = s.tim ∧ t.qsg = s.qsg ∧
    (∀ d ∈ s.fieldsOf r n, d.acc = .rw ∨ d.acc = .w1c → t.rd d.fld n = s.written d n 0xFFFFFFFF v.toNat % 2 ^ d.fld.width) ∧
    RegsBut s t (r.fields.map (fun d => (d.fld, n)) ++ digestFields ++ seatFields p.sender.val))) ∧
  (∀ (s : State) (p : Packet), s.Takes p → p.opcode = 0x70 → 
    Completes (.echo p) s (fun t => Replied s t p .ok (p.data.map (fun w => w.toNat)) ∧ t.cmd.txns = s.cmd.txns ∧ t.tim = s.tim ∧ RegsBut s t (seatFields p.sender.val)))

/-- An insertion of Seat 0 into the replication lists, unmarked and in range, or into a keyed table, with its form and room in the
table's queue, waits for the table's write slot, and its command stays in flight; so does a deletion from a keyed table. A
deletion of an unmarked schedule header is done at once. A lookup of a MAC or host key in a table that is enabled answers its
result, flags and place, or all ones; one of an indexed table answers the words of its entry, and one of the classifier the row
that its key hits. A dump of an indexed table answers the words of each entry. It also rests on the model's own readings of log
24. -/
def Obligations.TableCommandsWriteAndFindEntries : Prop :=
  (∀ (s : State) (p : Packet) (v : Word), s.Takes p → p.opcode = 0x20 ∧ p.sender = 0 ∧ p.txn = 0 ∧ tabOf p = 5 ∧ indexOf p < 262144 ∧ p.data = [v] ∧ bits v.toNat 9 0 ≤ 517 → s.cmd.txns = [] ∧ s.listMarked 0 (indexOf p) = false ∧ s.tbl.soft.length < 64 → 
    Completes (.tableInsert p) s (fun t => t.tbl.soft = s.tbl.soft ++ [⟨5, p, s.now⟩] ∧ t.cmd.flights = s.cmd.flights ++ [⟨p, .window, s.cmd.nextSeqNo, true⟩] ∧
    (t.seat 0).replyFifo = (s.seat 0).replyFifo ∧ t.resp = s.resp ∧ t.tbl.live = s.tbl.live ∧ RegsBut s t (seatFields 0))) ∧
  (∀ (s : State) (p : Packet), s.Takes p → p.opcode = 0x20 ∧ p.sender = 0 ∧ p.txn = 0 ∧ keyed (tabOf p) = true ∧ keyedForm p false = true → (s.tbl.soft.filter (fun o => o.table == tabOf p)).length < 64 → 
    Completes (.tableInsert p) s (fun t => t.tbl = { s.tbl with soft := s.tbl.soft ++ [⟨tabOf p, p, s.now⟩] } ∧ t.cmd.flights = s.cmd.flights ++ [⟨p, .window, s.cmd.nextSeqNo, true⟩] ∧
    (t.seat 0).replyFifo = (s.seat 0).replyFifo ∧ t.resp = s.resp ∧ RegsBut s t (seatFields 0))) ∧
  (∀ (s : State) (p : Packet), s.Takes p → p.opcode = 0x21 ∧ p.sender = 0 ∧ p.txn = 0 ∧ keyed (tabOf p) = true ∧ keyedForm p true = true → (s.tbl.soft.filter (fun o => o.table == tabOf p)).length < 64 → 
    Completes (.tableDelete p) s (fun t => t.tbl = { s.tbl with soft := s.tbl.soft ++ [⟨tabOf p, p, s.now⟩] } ∧ t.cmd.flights = s.cmd.flights ++ [⟨p, .window, s.cmd.nextSeqNo, true⟩] ∧
    (t.seat 0).replyFifo = (s.seat 0).replyFifo ∧ t.resp = s.resp ∧ RegsBut s t (seatFields 0))) ∧
  (∀ (s : State) (p : Packet), s.Takes p → p.opcode = 0x21 ∧ p.sender = 0 ∧ p.txn = 0 ∧ tabOf p = 0x20 ∧ indexOf p < 1024 → s.cmd.txns = [] ∧ (s.markedHeaders 0).contains (indexOf p) = false → 
    Completes (.tableDelete p) s (fun t => Replied s t p .ok [] ∧ t.tbl.live = dropEntry s.tbl.live 0x20 (indexOf p) ∧ t.tbl.cur = s.tbl.cur ∧ t.qsg = s.qsg ∧
    RegsBut s t (digestFields ++ seatFields 0))) ∧
  (∀ (s : State) (p : Packet) (e : EmEntry), s.Takes p → p.opcode = 0x22 ∧ (tabOf p = 1 ∨ (tabOf p = 2 ∧ keyedForm p true = true)) → (s.taken p).caughtUp = s.taken p → s.on F.TBL_EM_CTRL_ENABLE (tabOf p - 1) = true ∧ s.emKey (tabOf p - 1) (emOf (tabOf p - 1) (dataOf p)).key = some e → 
    Completes (.tableLookup p) s (fun t => Replied s t p .ok [e.result, e.flags, e.placeWord] ∧ t.tbl = s.tbl ∧ RegsBut s t (seatFields p.sender.val))) ∧
  (∀ (s : State) (p : Packet), s.Takes p → p.opcode = 0x22 ∧ (tabOf p = 1 ∨ (tabOf p = 2 ∧ keyedForm p true = true)) → (s.taken p).caughtUp = s.taken p → s.on F.TBL_EM_CTRL_ENABLE (tabOf p - 1) = false ∨ s.emKey (tabOf p - 1) (emOf (tabOf p - 1) (dataOf p)).key = none → 
    Completes (.tableLookup p) s (fun t => Replied s t p .ok [0xFFFFFFFF, 0xFFFFFFFF, 0xFFFFFFFF] ∧ t.tbl = s.tbl ∧ RegsBut s t (seatFields p.sender.val))) ∧
  (∀ (s : State) (p : Packet) (size : Nat), s.Takes p → p.opcode = 0x22 ∧ keyed (tabOf p) = false ∧ tabSize (tabOf p) = some size ∧ tabOf p ≠ 0x10 ∧ tabOf p ≠ 0x24 ∧ indexOf p < size → (s.taken p).caughtUp = s.taken p → 
    Completes (.tableLookup p) s (fun t => Replied s t p .ok (s.entryWords (tabOf p) (indexOf p)) ∧ t.tbl = s.tbl ∧ RegsBut s t (seatFields p.sender.val))) ∧
  (∀ (s : State) (p : Packet), s.Takes p → p.opcode = 0x22 ∧ tabOf p = 0x10 ∧ p.parameter.toNat ≤ 16 → (s.taken p).caughtUp = s.taken p → 
    Completes (.tableLookup p) s (fun t => Replied s t p .ok [((rowFind (s.tbl.cur.filter (fun e => e.table == 0x10)) (wordsNat (dataOf p)) p.parameter.toNat).map (fun e => e.index)).getD 0xFFFFFFFF] ∧
    t.tbl = s.tbl ∧ RegsBut s t (seatFields p.sender.val))) ∧
  (∀ (s : State) (p : Packet) (size : Nat), s.Takes p → p.opcode = 0x23 ∧ keyed (tabOf p) = false ∧ tabSize (tabOf p) = some size → 1 ≤ p.parameter.toNat ∧ p.parameter.toNat ≤ 1019 ∧ indexOf p + p.parameter.toNat ≤ size → (s.taken p).caughtUp = s.taken p → ((List.range p.parameter.toNat).flatMap (fun i => s.entryWords (tabOf p) (indexOf p + i))).length ≤ 1019 → 
    Completes (.tableDump p) s (fun t => Replied s t p .ok ((List.range p.parameter.toNat).flatMap (fun i => s.entryWords (tabOf p) (indexOf p + i))) ∧ t.tbl = s.tbl ∧ RegsBut s t (seatFields p.sender.val)))

/-- A REG_WRITE action of a seat for class L fields of a register that it may write, with values in range, and a PHASE action of
Seat 0, at a tick or at an instant of the view that has not come, are accepted, take the next identifier and are answered with
it. Its seat cancels an action before it fires. In the first tick in which its time has come a PHASE action fires once, after
class 3 of that tick: the phase changes, the action leaves the schedule, and SCHED_LAST tells its identifier and tick; a
REG_WRITE action writes its register. In a tick in which nothing is due nothing fires. It also rests on the model's own readings
of log 19. -/
def Obligations.ActionsAreScheduledCancelledAndFired : Prop :=
  (∀ (s : State) (p : Packet) (d v : Word), s.Takes p → p.opcode = 0x30 ∧ p.sender = 0 → p.data = [0x201, d, 0, 0, BitVec.ofNat 32 (F.TIM_STEP_NS_VALUE.addr 0), v, 0xFFFFFFFF] → s.now < d.toNat ∧ v.toNat < 1000000000 ∧ s.syn.actions.length < 256 → 
    Completes (.schedAction p) s (fun t => Replied s t p .ok [s.syn.nextAction] ∧
    t.syn.actions = s.syn.actions ++ [⟨s.syn.nextAction, 0, .regWrite (F.TIM_STEP_NS_VALUE.addr 0) v.toNat 0xFFFFFFFF, false, true, d.toNat, s.now, none⟩] ∧
    t.syn.nextAction = nextActionId s.syn.nextAction ∧ t.rd F.SYN_SCHED_STATUS_PENDING = s.syn.actions.length + 1 ∧
    RegsBut s t ((F.SYN_SCHED_STATUS_PENDING, 0) :: seatFields 0))) ∧
  (∀ (s : State) (p : Packet) (raw : Bool) (lo hi ns addr v m : Word), s.Takes p → p.opcode = 0x30 → p.data = [if raw then 0x201 else 1, lo, hi, ns, addr, v, m] → dueNsOk raw ns.toNat = true ∧ (raw = true ∨ s.epoch ≠ 0) ∧ s.syn.actions.length < 256 → (s.taken p).reached raw (dueOf raw lo.toNat hi.toNat ns.toNat) = false → (findReg addr.toNat).isSome = true ∧ (s.taken p).mayWrite p.sender.val (regOf addr.toNat) (copyNo addr.toNat) m.toNat v.toNat = true → s.allClassL (regOf addr.toNat) (copyNo addr.toNat) m.toNat = true → ((s.taken p).fieldsOf (regOf addr.toNat) (copyNo addr.toNat)).all (fun d => !(s.taken p).outOfRange d (copyNo addr.toNat) m.toNat v.toNat) = true → 
    Completes (.schedAction p) s (fun t => Replied s t p .ok [s.syn.nextAction] ∧
    t.syn.actions = s.syn.actions ++ [⟨s.syn.nextAction, p.sender.val, .regWrite addr.toNat v.toNat m.toNat, false, raw, dueOf raw lo.toNat hi.toNat ns.toNat, s.now, none⟩] ∧
    t.syn.nextAction = nextActionId s.syn.nextAction ∧ RegsBut s t ((F.SYN_SCHED_STATUS_PENDING, 0) :: seatFields p.sender.val))) ∧
  (∀ (s : State) (p : Packet) (raw : Bool) (lo hi ns code v m : Word), s.Takes p → p.opcode = 0x30 ∧ p.sender = 0 → p.data = [if raw then 0x202 else 2, lo, hi, ns, code, v, m] ∧ code.toNat ≤ 4 → dueNsOk raw ns.toNat = true ∧ (raw = true ∨ s.epoch ≠ 0) ∧ s.syn.actions.length < 256 → (s.taken p).reached raw (dueOf raw lo.toNat hi.toNat ns.toNat) = false → 
    Completes (.schedAction p) s (fun t => Replied s t p .ok [s.syn.nextAction] ∧
    t.syn.actions = s.syn.actions ++ [⟨s.syn.nextAction, 0, .phase code.toNat, false, raw, dueOf raw lo.toNat hi.toNat ns.toNat, s.now, none⟩] ∧
    t.syn.nextAction = nextActionId s.syn.nextAction ∧ t.phase = s.phase ∧ RegsBut s t ((F.SYN_SCHED_STATUS_PENDING, 0) :: seatFields 0))) ∧
  (∀ (s : State) (p : Packet) (a : Action), s.Takes p → p.opcode = 0x31 ∧ s.syn.actions.find? (fun x => x.id == p.parameter.toNat) = some a → (p.sender = 0 ∨ a.seat = p.sender.val) ∧ (s.taken p).firesNow a = false → (match a.kind with | .commit _ => false | .lift _ _ _ => false | _ => true) = true → 
    Completes (.schedCancel p) s (fun t => Replied s t p .ok [] ∧ t.syn.actions = s.syn.actions.filter (fun x => x.id != p.parameter.toNat) ∧
    t.syn.fired = s.syn.fired ∧ t.syn.nextAction = s.syn.nextAction ∧ RegsBut s t ((F.SYN_SCHED_STATUS_PENDING, 0) :: seatFields p.sender.val))) ∧
  (∀ (s : State) (a : Action) (code : Nat), s.live = true ∧ s.takeDue.classThree = s → s.cmd.txns = [] ∧ s.syn.actions = [a] → a.kind = .phase code ∧ code ≤ 4 ∧ s.firesNow a = true → 
    Completes (.actionFire) s (fun t => t.rd F.SYN_SESSION_PHASE = code ∧ (s.isLead = false → t.syn.actions = [] ∧ t.rd F.SYN_SCHED_STATUS_PENDING = 0) ∧
    t.syn.fired = ⟨a.id, a.seat, s.now⟩ :: s.syn.fired ∧ t.rd F.SYN_SCHED_LAST_ID_VALUE = a.id % 2 ^ 32 ∧ t.tbl = s.tbl)) ∧
  (∀ (s : State) (a : Action) (v m : Nat), s.live = true ∧ s.takeDue.classThree = s → s.cmd.txns = [] ∧ s.syn.actions = [a] ∧ s.firesNow a = true → a.kind = .regWrite (F.TIM_STEP_NS_VALUE.addr 0) v m ∧ masked (s.rd F.TIM_STEP_NS_VALUE) (m % 2 ^ 30) v < 1000000000 → 
    Completes (.actionFire) s (fun t => t.rd F.TIM_STEP_NS_VALUE = masked (s.rd F.TIM_STEP_NS_VALUE) (m % 2 ^ 30) v % 2 ^ 30 ∧ t.syn.actions = [] ∧
    t.rd F.SYN_SCHED_LAST_ID_VALUE = a.id % 2 ^ 32 ∧ t.syn.fired = ⟨a.id, a.seat, s.now⟩ :: s.syn.fired ∧ t.tbl = s.tbl ∧ t.tim = s.tim)) ∧
  (∀ (s : State), s.live = true ∧ s.takeDue.classThree = s → s.commitsDue = [] ∧ s.actionsDue = [] → 
    Completes (.actionFire) s (fun t => t = s))

/-- TXN_BEGIN, with fewer than 64 transactions open and fewer than 16 of its seat, takes the first free identifier from NEXT_ID on
and answers with it in the reply's TXN_ID. TXN_COMMIT of a seat's own open transaction starts its prepare with its deadline, and
the reply waits. TXN_COMMIT_AT does the same for a due time, at a tick or of the view, that has not come or may be late, and
takes one scheduled-action entry. TXN_ROLLBACK by its seat or Seat 0 before the commit tick discards the transaction, and its ID
answers ROLLED_BACK from then on. Other open transactions stay as they are. It also rests on the model's own readings of log 14
and log 20. -/
def Obligations.TransactionsOpenPrepareAndEnd : Prop :=
  (∀ (s : State) (p : Packet), s.Takes p → p.opcode = 0x10 ∧ bit p.flags.toNat 0 = false → (s.cmd.txns.filter (fun t => !t.implicit)).length < 64 ∧ (s.cmd.txns.filter (fun t => !t.implicit && t.seat == p.sender.val)).length < 16 → 
    let id := s.freeId 64 (s.rd F.CMD_TXN_STATUS_NEXT_ID)
    Completes (.txnBegin p) s (fun t => t.cmd.txns.map (fun x => (x.id, x.seat, x.phase, x.words)) = s.cmd.txns.map (fun x => (x.id, x.seat, x.phase, x.words)) ++ [(id, p.sender.val, .staging, [])] ∧
    t.cmd.flights = s.cmd.flights ∧ t.resp = some ⟨.ok, []⟩ ∧
    (t.seat p.sender.val).replyFifo = (s.seat p.sender.val).replyFifo ++ replyWords 0x10 0 p.tag.toNat p.seat.val id false false s.now [] ∧
    RegsBut s t ((F.CMD_TXN_STATUS_NEXT_ID, 0) :: seatFields p.sender.val))) ∧
  (∀ (s : State) (p : Packet), s.Takes p → p.opcode = 0x10 ∧ s.cmd.txns = [] ∧ bit p.flags.toNat 0 = false → 
    Completes (.txnBegin p) s (fun t => t.cmd.txns.map (fun x => (x.id, x.seat, x.phase, x.words)) = [(s.rd F.CMD_TXN_STATUS_NEXT_ID, p.sender.val, .staging, [])] ∧
    t.rd F.CMD_TXN_STATUS_NEXT_ID = idAfter (s.rd F.CMD_TXN_STATUS_NEXT_ID) ∧ t.cmd.flights = s.cmd.flights ∧ t.resp = some ⟨.ok, []⟩ ∧
    (t.seat p.sender.val).replyFifo = (s.seat p.sender.val).replyFifo ++ replyWords 0x10 0 p.tag.toNat p.seat.val (s.rd F.CMD_TXN_STATUS_NEXT_ID) false false s.now [])) ∧
  (∀ (s : State) (p : Packet) (x : Txn), s.Takes p → p.opcode = 0x11 ∧ s.cmd.txns.find? (fun t => !t.implicit && t.id == p.txn.toNat) = some x → x.seat = p.sender.val ∧ x.phase = .staging → 
    Completes (.txnCommit p) s (fun t => t.cmd.txns = s.cmd.txns.map (fun y => if y.id = x.id then { x with phase := .preparing (s.now + x.prepUs * 800) (prepUnits x.words x.entries) [] s.now, action := s.syn.nextAction, timed := none, waiting := some p, lastCmd := s.now } else y) ∧
    t.syn.nextAction = nextActionId s.syn.nextAction ∧ t.cmd.flights = s.cmd.flights ++ [⟨p, .window, s.cmd.nextSeqNo, true⟩] ∧
    (t.seat p.sender.val).replyFifo = (s.seat p.sender.val).replyFifo ∧ t.syn.actions = s.syn.actions ∧ t.resp = s.resp ∧
    t.tbl = s.tbl.stageRows x.id s.now x.entries ∧ RegsBut s t (seatFields p.sender.val))) ∧
  (∀ (s : State) (p : Packet) (x : Txn) (lo hi ns : Word) (raw : Bool), s.Takes p → p.opcode = 0x13 ∧ s.cmd.txns.find? (fun t => !t.implicit && t.id == p.txn.toNat) = some x → x.seat = p.sender.val ∧ x.phase = .staging → p.data = [lo, hi, ns] ∧ bit p.parameter.toNat 0 = raw ∧ dueNsOk raw ns.toNat = true ∧ (raw = true ∨ s.epoch ≠ 0) ∧ s.syn.actions.length < 256 → (s.taken p).reached raw (dueOf raw lo.toNat hi.toNat ns.toNat) = false ∨ bit p.flags.toNat 1 = true → 
    let units := prepUnits x.words x.entries
    Completes (.txnCommitAt p) s (fun t => t.cmd.txns.map (fun y => (y.id, y.phase, y.action)) =
      s.cmd.txns.map (fun y => if y.id = x.id then (x.id, .preparing (s.now + x.prepUs * 800) units [] s.now, s.syn.nextAction) else (y.id, y.phase, y.action)) ∧
    t.syn.actions = s.syn.actions ++ [⟨s.syn.nextAction, p.sender.val, .commit x.id, bit p.flags.toNat 1, raw, dueOf raw lo.toNat hi.toNat ns.toNat, s.now, none⟩] ∧
    t.cmd.flights = s.cmd.flights ++ [⟨p, .window, s.cmd.nextSeqNo, true⟩] ∧ t.rd F.SYN_SCHED_STATUS_PENDING = (s.syn.actions.length + 1) % 2 ^ F.SYN_SCHED_STATUS_PENDING.width ∧
    RegsBut s t ((F.SYN_SCHED_STATUS_PENDING, 0) :: seatFields p.sender.val))) ∧
  (∀ (s : State) (p : Packet) (x : Txn), s.Takes p → p.opcode = 0x12 ∧ s.cmd.txns.find? (fun t => !t.implicit && t.id == p.txn.toNat) = some x → (x.seat = p.sender.val ∨ p.sender = 0) ∧ (s.taken p).commitsNow x = false → x.waiting = none ∧ x.timed = none → 
    Completes (.txnRollback p) s (fun t => Replied s t p .ok [] ∧ t.cmd.txns = s.cmd.txns.filter (fun y => y.id != x.id) ∧ t.cmd.rolledBack = (x.id, x.seat) :: s.cmd.rolledBack ∧
    t.cntTick.get (cntKey 16 9 0) 0 = s.cntTick.get (cntKey 16 9 0) 0 + 1 ∧ t.syn = s.syn ∧
    RegsBut s t ((F.EVR_INT_STATUS_GAP, 0) :: (seatFields p.sender.val ++ seatFields x.seat))))

/-- An acknowledgement of a prepare, in time and from a unit that still owes it, is noted with that unit's judgement of the staged
writes, the classifier's once no row is on its way; the last one of a prepare that every unit accepts fixes the earliest commit
tick, 16 ticks later, and the last one of a prepare that some unit refuses rolls the transaction back, with the units that
refused in its reply. A prepare past its deadline rolls its transaction back, with the units that failed in its reply. In its
commit tick a transaction's staged words and entries are applied together: the generation counts on, the values before stand as
the previous generation, and the transaction ends. An open transaction without a command for IDLE_S is rolled back. It also
rests on the model's own readings of log 14 and log 20 and log 21. -/
def Obligations.CommitsApplyWholeTransactionsOrNone : Prop :=
  (∀ (s : State) (x : Txn) (u : Fin 32) (dl last : Nat) (waiting refused : List Nat), s.ready = true → s.cmd.txns.find? (fun t => t.id == x.id) = some x ∧ x.phase = .preparing dl waiting refused last ∧ s.now ≤ dl → waiting.contains u.val = true ∧ waiting.erase u.val ≠ [] → u.val = 5 → s.tbl.rows.all (fun r => r.txn != x.id) = true → 
    Completes (.prepareAck x.id u) s (fun t => t.cmd.txns = s.cmd.txns.map (fun y => if y.id = x.id then { x with phase := .preparing dl (waiting.erase u.val) (if s.recheck x u.val = true then refused else refused ++ [u.val]) s.now } else y) ∧
    t = { s with cmd := t.cmd })) ∧
  (∀ (s : State) (x : Txn) (u : Fin 32) (dl last : Nat), s.ready = true → s.cmd.txns.find? (fun t => t.id == x.id) = some x ∧ x.timed = none ∧ x.phase = .preparing dl [u.val] [] last ∧ s.now ≤ dl → u.val = 5 → s.tbl.rows.all (fun r => r.txn != x.id) = true → s.recheck x u.val = true → 
    Completes (.prepareAck x.id u) s (fun t => t.cmd.txns = s.cmd.txns.map (fun y => if y.id = x.id then { x with phase := .fixed (s.now + 16) } else y) ∧ t = { s with cmd := t.cmd })) ∧
  (∀ (s : State) (x : Txn) (p : Packet) (u : Fin 32) (dl last : Nat) (refused : List Nat), s.ready = true → s.cmd.txns.find? (fun t => t.id == x.id) = some x ∧ x.timed = none ∧ x.implicit = false ∧ x.waiting = some p ∧ x.phase = .preparing dl [u.val] refused last ∧ s.now ≤ dl → u.val = 5 → s.tbl.rows.all (fun r => r.txn != x.id) = true → s.recheck x u.val = false → 
    Completes (.prepareAck x.id u) s (fun t => t.cmd.txns = s.cmd.txns.filter (fun y => y.id != x.id) ∧ t.resp = some ⟨.rolledBack, [unitMask (refused ++ [u.val])]⟩ ∧
    t.cmd.rolledBack = (x.id, x.seat) :: s.cmd.rolledBack ∧ t.cmd.flights = s.cmd.flights.filter (fun f => f.packet != p) ∧
    t.rd F.SYS_CFG_GEN_CURRENT = s.rd F.SYS_CFG_GEN_CURRENT ∧ t.tbl = { s.tbl with rows := s.tbl.rows.filter (fun r => r.txn != x.id) })) ∧
  (∀ (s : State) (x : Txn) (p : Packet) (dl last : Nat) (waiting refused : List Nat), s.ready = true → s.cmd.txns.filter (fun t => (s.overdue t).isSome) = [x] → x.implicit = false ∧ x.timed = none ∧ x.waiting = some p ∧ x.phase = .preparing dl waiting refused last → 
    Completes (.prepareDeadline) s (fun t => t.cmd.txns = s.cmd.txns.filter (fun y => y.id != x.id) ∧ t.resp = some ⟨.rolledBack, [unitMask (waiting ++ refused)]⟩ ∧ t.cmd.rolledBack = (x.id, x.seat) :: s.cmd.rolledBack ∧
    t.cmd.flights = s.cmd.flights.filter (fun f => f.packet != p) ∧ t.rd F.SYS_CFG_GEN_CURRENT = s.rd F.SYS_CFG_GEN_CURRENT ∧
    t.tbl = { s.tbl with rows := s.tbl.rows.filter (fun r => r.txn != x.id) })) ∧
  (∀ (s : State) (x : Txn) (c v : Nat) (e : StagedEntry), s.live = true ∧ s.takeDue.classThree = s → s.cmd.txns = [x] ∧ x.implicit = false ∧ x.timed = none ∧ x.waiting = none ∧ x.phase = .fixed c ∧ c ≤ s.now ∧ s.spaced = true → x.seat = 0 ∧ x.words = [⟨F.TIM_STEP_NS_VALUE.addr 0, 0xFFFFFFFF, v⟩] ∧ x.entries = [e] ∧ x.order = [false, true] ∧ v < 1000000000 → s.syn.actions = [] ∧ (e.table = 4 ∨ e.table = 6) → 
    Completes (.commitTick false) s (fun t => t.rd F.TIM_STEP_NS_VALUE = v ∧ t.rd F.SYS_CFG_GEN_CURRENT = (s.rd F.SYS_CFG_GEN_CURRENT + 1) % 16 ∧
    t.tbl.cur = (if e.insert then putEntry s.tbl.cur ⟨e.table, e.index, e.words⟩ else dropEntry s.tbl.cur e.table e.index) ∧ t.tbl.prev = s.tbl.cur ∧
    t.rd F.SYS_CFG_GEN_PREVIOUS = s.rd F.SYS_CFG_GEN_CURRENT ∧ t.prevRegs = s.regs ∧ t.cmd.txns = [] ∧
    t.cmd.committed = (x.id, 0, s.now) :: s.cmd.committed ∧ t.cmd.lastCommit = some s.now ∧ t.tim = s.tim)) ∧
  (∀ (s : State), s.live = true ∧ s.takeDue.classThree = s → s.commitsDue = [] → 
    Completes (.commitTick false) s (fun t => t = s)) ∧
  (∀ (s : State) (x : Txn), s.ready = true → s.cmd.txns.filter (fun t => t.phase == .staging && s.rd F.CMD_TXN_CFG_IDLE_S != 0 && decide (t.lastCmd + s.rd F.CMD_TXN_CFG_IDLE_S * 800000000 ≤ s.now)) = [x] → x.implicit = false ∧ x.waiting = none ∧ x.timed = none → 
    Completes (.txnIdleTimeout) s (fun t => t.cmd.txns = s.cmd.txns.filter (fun y => y.id != x.id) ∧ t.cmd.rolledBack = (x.id, x.seat) :: s.cmd.rolledBack ∧
    t.cntTick.get (cntKey 16 9 1) 0 = s.cntTick.get (cntKey 16 9 1) 0 + 1 ∧ t.syn = s.syn ∧ t.qsg = s.qsg ∧
    RegsBut s t ((F.EVR_INT_STATUS_GAP, 0) :: seatFields x.seat)))

/-- Turning ENABLE on loads every base from the latency in force, sets the lift to 0 and begins in JOINING; turning it off leaves
the state DISABLED; writing the value that it holds changes nothing. At a HELLO boundary at which no member has fallen silent a
member is JOINING, FOLLOWER or LEAD as its time, its intervals and the election in its live set say, and sends a HELLO; one
alone, joined long enough and with valid time, is its own Lead. A HELLO from another member makes it live with what it reports.
A frame that fails the checks, or is not later than the last of its sender, is dropped and counted. An OK ACK of the latest
order is noted, by the Lead too. It also rests on the model's own readings of log 41. -/
def Obligations.TroupeMembersJoinElectAndHear : Prop :=
  (∀ (s : State), s.Free (F.TRP_CTRL_ENABLE.addr 0) → s.on F.TRP_CTRL_ENABLE = false → 
    Completes (.troupeEnable 0 true) s (fun t => t.resp = some ⟨.ok, []⟩ ∧ t.on F.TRP_CTRL_ENABLE = true ∧ t.rd F.TRP_STATUS_STATE = 1 ∧ t.rd F.TRP_LIFT_LIFT_NS = 0 ∧
    (List.range 8).all (fun k => t.rd F.TRP_BASE_BASE_L_NS k == s.rd F.CLR_PROF_L_L_NS k % 2 ^ F.TRP_BASE_BASE_L_NS.width) = true ∧
    t.trp = { seq := s.trp.seq } ∧ t.syn.actions = s.syn.actions.filter (fun a => !a.kind.isLift) ∧ t.qsg = s.qsg)) ∧
  (∀ (s : State), s.Free (F.TRP_CTRL_ENABLE.addr 0) → s.on F.TRP_CTRL_ENABLE = true → 
    Completes (.troupeEnable 0 false) s (fun t => t.resp = some ⟨.ok, []⟩ ∧ t.on F.TRP_CTRL_ENABLE = false ∧ t.rd F.TRP_STATUS_STATE = 0 ∧ t.trp = { seq := s.trp.seq } ∧
    t.rd F.TRP_LIFT_LIFT_NS = s.rd F.TRP_LIFT_LIFT_NS ∧ (List.range 8).all (fun k => t.rd F.CLR_PROF_L_L_NS k == s.rd F.CLR_PROF_L_L_NS k) = true)) ∧
  (∀ (s : State) (on : Bool), s.Free (F.TRP_CTRL_ENABLE.addr 0) → s.on F.TRP_CTRL_ENABLE = on → 
    Completes (.troupeEnable 0 on) s (fun t => t.resp = some ⟨.ok, []⟩ ∧ t.on F.TRP_CTRL_ENABLE = on ∧ RegsBut s t ((F.TRP_CTRL_ENABLE, 0) :: digestFields) ∧ t = { s with regs := t.regs, rwSet := t.rwSet, idn := t.idn, resp := t.resp })) ∧
  (∀ (s : State) (u : State), s.live = true ∧ s.Settled ∧ s.on F.TRP_CTRL_ENABLE = true ∧ s.now % s.helloTicks = 0 ∧ s.ran.contains 9 = false → s.liveOthers.filter s.silent = [] → u = s.setTrp (fun x => { x with hellos := x.hellos + 1, clash := (match x.clash with | some c => if c + s.lossTicks < s.now then none else some c | none => none) }) → 
    let lead := (u.wr F.TRP_STATUS_STATE 0 (if u.joining then 1 else 2)).elect
    Completes (.helloInterval) s (fun t => t.rd F.TRP_STATUS_STATE = (if u.joining then 1 else if lead = some s.member then 3 else 2) ∧ t.rd F.TRP_STATUS_LEAD_ID = lead.getD 0 % 8 ∧
    t.trp.lead = lead ∧ t.trp.hellos = s.trp.hellos + 1 ∧ t.trp.peers = s.trp.peers ∧
    t.cntTick.get (cntKey 11 1 1) 0 = s.cntTick.get (cntKey 11 1 1) 0 + 1 ∧ t.tim = s.tim)) ∧
  (∀ (s : State), s.live = true ∧ s.Settled ∧ s.on F.TRP_CTRL_ENABLE = true ∧ s.now % s.helloTicks = 0 ∧ s.ran.contains 9 = false → s.on F.TIM_STATUS_TIME_VALID = true ∧ s.trp.clash = none ∧ s.rd F.TRP_TIMING_LOSS_COUNT ≤ s.trp.hellos + 1 → (List.range 8).all (fun n => !s.on F.TRP_PEER_LIVE n) = true → 
    Completes (.helloInterval) s (fun t => t.rd F.TRP_STATUS_STATE = 3 ∧ t.rd F.TRP_STATUS_LEAD_ID = s.member ∧ t.rd F.TRP_STATUS_LIVE = 2 ^ s.member ∧
    t.trp.hellos = s.trp.hellos + 1 ∧ t.trp.lead = some s.member ∧
    t.cntTick.get (cntKey 11 1 1) 0 = s.cntTick.get (cntKey 11 1 1) 0 + 1 ∧ t.tim = s.tim)) ∧
  (∀ (s : State) (port : Fin 512) (b : Bytes), s.Hears 1 port.val b → 
    Completes (.hello port b) s (fun t => t.on F.TRP_PEER_LIVE (byteAt b 16) = true ∧ (t.peer (byteAt b 16)).heard = some s.now ∧ (t.peer (byteAt b 16)).seq = some (beAt b 22 4) ∧
    (t.peer (byteAt b 16)).prio = byteAt b 38 ∧ (t.peer (byteAt b 16)).demand = beAt b 42 2 ∧
    t.cntTick.get (cntKey 11 2 1) 0 = s.cntTick.get (cntKey 11 2 1) 0 + 1 ∧
    (s.isLead = false → t = { s with regs := t.regs, trp := t.trp, cntTick := t.cntTick }))) ∧
  (∀ (s : State) (port : Fin 512) (b : Bytes), s.live = true ∧ s.Settled ∧ beAt b 12 2 = 0x88B5 ∧ byteAt b 15 = 1 → s.on F.TRP_CTRL_ENABLE = false ∨ s.ctlOk port.val b = false → 
    Completes (.hello port b) s (fun t => t.cntTick.get (cntKey 11 3 0) 0 = s.cntTick.get (cntKey 11 3 0) 0 + 1 ∧ t = { s with cntTick := t.cntTick })) ∧
  (∀ (s : State) (port : Fin 512) (b : Bytes) (q : Nat), s.live = true ∧ s.Settled ∧ beAt b 12 2 = 0x88B5 ∧ byteAt b 15 = 1 → s.on F.TRP_CTRL_ENABLE = true ∧ s.ctlOk port.val b = true ∧ byteAt b 16 ≠ s.member → (s.peer (byteAt b 16)).seq = some q ∧ serialLater (beAt b 22 4) q = false → 
    Completes (.hello port b) s (fun t => t.cntTick.get (cntKey 11 4 0) 0 = s.cntTick.get (cntKey 11 4 0) 0 + 1 ∧ t = { s with cntTick := t.cntTick })) ∧
  (∀ (s : State) (port : Fin 512) (b : Bytes) (o : LiftOrder), s.Hears 5 port.val b → s.isLead = false ∧ s.trp.order = some o ∧ byteAt b 38 = 4 ∧ beAt b 39 4 = o.number ∧ byteAt b 43 = 0 → 
    Completes (.ack port b) s (fun t => t.trp.acked.contains (byteAt b 16) = true ∧ t.on F.TRP_PEER_ACKED (byteAt b 16) = true ∧ t.trp.order = some o ∧
    t.on F.TRP_PEER_LIVE (byteAt b 16) = true ∧ t.syn = s.syn ∧ t.qsg = s.qsg)) ∧
  (∀ (s : State) (port : Fin 512) (b : Bytes) (o : LiftOrder), s.Hears 5 port.val b → s.isLead = true ∧ s.on F.TRP_PEER_LIVE (byteAt b 16) = true ∧ s.trp.order = some o ∧ byteAt b 38 = 4 ∧ beAt b 39 4 = o.number ∧ byteAt b 43 = 0 → s.maxReq ≤ o.lift ∧ beAt b 34 4 ≤ o.lift ∧ bit (s.rd F.TRP_LIFT_CFG_UNLIFT_PHASES) s.phase = false → 
    Completes (.ack port b) s (fun t => t.trp.acked.contains (byteAt b 16) = true ∧ t.on F.TRP_PEER_ACKED (byteAt b 16) = true ∧ t.trp.order = some o ∧ t.syn = s.syn ∧ t.qsg = s.qsg))

/-- A PROFILE whose bases this member's kinds take waits for its instant; one that they do not take is refused with an ACK, a count
and BASE_REFUSED. At the instant each base that it gives is set and L_NS is the base plus the lift, at most 1,000,000. A shared
base written on the Lead goes out as a PROFILE, and BASE keeps its value; a write of BASE while the engine is disabled begins an
implicit transaction. A lift that a member requires above the latest order makes the Lead order it, for the lead instant, and
commit it too; another member only notes it. A member that takes a higher order schedules its commit and acknowledges; an order
that is not higher changes nothing but what is known of its sender. UNLIFT on the Lead orders the greatest lift required at
once, and elsewhere is ignored. It also rests on the model's own readings of log 41. -/
def Obligations.TroupeSharesBasesAndLifts : Prop :=
  (∀ (s : State) (port : Fin 512) (b : Bytes) (bases : List (Bool × Nat)), s.Hears 2 port.val b → bases = (List.range 8).map (fun k => (byteAt b (48 + 5 * k) != 0, beAt b (49 + 5 * k) 4)) → bases.zipIdx.all (fun x => !x.1.1 || s.baseFits x.2 x.1.2) = true → 
    Completes (.profile port b) s (fun t => t.trp.bases = s.trp.bases ++ [⟨viewOf (beAt b 38 6) (beAt b 44 4) 0, bases⟩] ∧
    t.trp.shared = some (sumOf (bases.zipIdx.filter (fun x => x.1.1)) (fun x => 2 ^ x.2)) ∧
    (s.isLead = false → t = { s with regs := t.regs, trp := t.trp, cntTick := t.cntTick }))) ∧
  (∀ (s : State) (port : Fin 512) (b : Bytes), s.Hears 2 port.val b → (List.range 8).any (fun k => byteAt b (48 + 5 * k) != 0 && !s.baseFits k (beAt b (49 + 5 * k) 4)) = true → 
    Completes (.profile port b) s (fun t => t.on F.TRP_INT_STATUS_BASE_REFUSED = true ∧ t.cntTick.get (cntKey 11 7 0) 0 = s.cntTick.get (cntKey 11 7 0) 0 + 1 ∧
    t.cntTick.get (cntKey 11 1 5) 0 = s.cntTick.get (cntKey 11 1 5) 0 + 1 ∧ (t.flt.held.take (s.flt.held.length + 1)) = s.flt.held ++ [⟨7, 4, 1, s.member, 0⟩])) ∧
  (∀ (s : State) (c : BaseChange), s.live = true ∧ s.Settled ∧ s.on F.TRP_CTRL_ENABLE = true → s.trp.bases.filter (fun c => decide (c.due ≤ s.viewAt s.now 0)) = [c] ∧ c.bases.length = 8 → 
    let taken := fun (k : Fin 8) => (c.bases.getD k.val (false, 0)).1 && s.baseFits k.val (c.bases.getD k.val (false, 0)).2
    let given := fun (k : Fin 8) => (c.bases.getD k.val (false, 0)).2
    Completes (.profileApply) s (fun t => t.trp.bases = s.trp.bases.filter (fun c => decide (s.viewAt s.now 0 < c.due)) ∧
    (∀ k : Fin 8, t.rd F.TRP_BASE_BASE_L_NS k.val = (if taken k then given k else s.rd F.TRP_BASE_BASE_L_NS k.val)) ∧
    (∀ k : Fin 8, t.rd F.CLR_PROF_L_L_NS k.val = (if taken k then min (given k + s.rd F.TRP_LIFT_LIFT_NS) 1000000 else s.rd F.CLR_PROF_L_L_NS k.val)) ∧
    RegsBut s t ((F.TRP_INT_STATUS_L_CLAMPED, 0) :: (List.range 8).map (fun k => (F.TRP_BASE_BASE_L_NS, k)) ++ (List.range 8).map (fun k => (F.CLR_PROF_L_L_NS, k))) ∧
    t = { s with regs := t.regs, hwSet := t.hwSet, trp := t.trp })) ∧
  (∀ (s : State) (k : Fin 8) (value : BitVec 20), s.Free (F.TRP_BASE_BASE_L_NS.addr k.val) → s.on F.TRP_CTRL_ENABLE = true ∧ s.isLead = true ∧ bit (s.rd F.TRP_SHARE_MASK_PROFILES) k.val = true → s.baseFits k.val value.toNat = true → 
    Completes (.baseWrite 0 k value) s (fun t => t.resp = some ⟨.ok, []⟩ ∧
    (t.trp.bases.getLast?).map (fun c => (c.due, c.bases[k.val]?)) = some (s.leadInstant, some (true, value.toNat)) ∧
    t.rd F.TRP_BASE_BASE_L_NS k.val = s.rd F.TRP_BASE_BASE_L_NS k.val ∧ t.cntTick.get (cntKey 11 1 2) 0 = s.cntTick.get (cntKey 11 1 2) 0 + 1)) ∧
  (∀ (s : State) (k : Fin 8) (value : BitVec 20), s.Free (F.TRP_BASE_BASE_L_NS.addr k.val) → s.on F.TRP_CTRL_ENABLE = false ∧ value.toNat ≠ s.rd F.TRP_BASE_BASE_L_NS k.val ∧ s.baseFits k.val value.toNat = true → 
    Completes (.baseWrite 0 k value) s (fun t => t.resp = some ⟨.ok, []⟩ ∧ (t.cmd.txns.getLast?).map (fun x => (x.seat, x.implicit, x.words.map (fun w => (w.addr, w.value)))) =
      some (0, true, [(F.TRP_BASE_BASE_L_NS.addr k.val, value.toNat)]) ∧ t.cmd.txns.length = s.cmd.txns.length + 1 ∧ t.regs = s.regs ∧ t.trp = s.trp)) ∧
  (∀ (s : State) (port : Fin 512) (b : Bytes), s.Hears 3 port.val b → s.isLead = true ∧ s.trp.order = none ∧ s.rd F.TRP_LIFT_LIFT_NS = 0 ∧ s.reqNs = 0 → (List.range 8).all (fun n => !s.on F.TRP_PEER_LIVE n) = true ∧ 0 < beAt b 34 4 → s.epoch ≠ 0 ∧ s.syn.actions = [] → 
    Completes (.liftReq port b) s (fun t => t.trp.order.map (fun o => (o.lift, o.due, o.issued)) = some (beAt b 34 4, s.leadInstant, s.now) ∧ t.trp.mine = true ∧
    t.syn.actions.map (fun a => (a.id, a.due, a.lateOk, a.kind.isLift)) = [(s.syn.nextAction, s.leadInstant, true, true)] ∧
    t.trp.acked = [s.member] ∧ t.cntTick.get (cntKey 11 1 4) 0 = s.cntTick.get (cntKey 11 1 4) 0 + 1)) ∧
  (∀ (s : State) (port : Fin 512) (b : Bytes) (u : State), s.Hears 3 port.val b → u = s.notePeer (b.drop 14) → s.isLead = true ∧ s.on F.TRP_PEER_LIVE (byteAt b 16) = true ∧ s.orderedLift < u.maxReq → s.trp.mine = false ∨ s.trp.order.all (fun o => o.issued != s.now) = true → s.epoch ≠ 0 ∧ (s.syn.actions.filter (fun a => !s.superseded (u.lastNumber + 1) a)).length < 256 → 
    Completes (.liftReq port b) s (fun t => t.trp.order.map (fun o => (o.number, o.lift, o.due, o.issued)) = some (u.lastNumber + 1, u.maxReq, s.leadInstant, s.now) ∧ t.trp.mine = true ∧
    t.syn.actions.map (fun a => (a.id, a.due, a.lateOk, a.kind.isLift)) =
      (s.syn.actions.filter (fun a => !s.superseded (u.lastNumber + 1) a)).map (fun a => (a.id, a.due, a.lateOk, a.kind.isLift)) ++ [(s.syn.nextAction, s.leadInstant, true, true)] ∧
    t.trp.acked = [s.member] ∧ t.cntTick.get (cntKey 11 1 4) 0 = s.cntTick.get (cntKey 11 1 4) 0 + 1 ∧
    (t.peer (byteAt b 16)).reqNs = beAt b 34 4)) ∧
  (∀ (s : State) (port : Fin 512) (b : Bytes), s.Hears 3 port.val b → s.isLead = false → 
    Completes (.liftReq port b) s (fun t => (t.peer (byteAt b 16)).reqNs = beAt b 34 4 ∧ t.on F.TRP_PEER_LIVE (byteAt b 16) = true ∧ t.trp.order = s.trp.order ∧
    t.cntTick.get (cntKey 11 2 3) 0 = s.cntTick.get (cntKey 11 2 3) 0 + 1 ∧ t = { s with regs := t.regs, trp := t.trp, cntTick := t.cntTick })) ∧
  (∀ (s : State) (port : Fin 512) (b : Bytes), s.Hears 4 port.val b → s.isLead = false ∧ (match s.trp.order with | some x => x.number | none => s.rd F.TRP_LIFT_SEQ_VALUE) < beAt b 38 4 → s.epoch ≠ 0 ∧ (s.syn.actions.filter (fun a => !s.superseded (beAt b 38 4) a)).length < 256 → 
    Completes (.liftOrder port b) s (fun t => t.trp.order = some ⟨beAt b 38 4, beAt b 42 4, viewOf (beAt b 46 6) (beAt b 52 4) 0, s.now, 0⟩ ∧ t.trp.mine = false ∧
    t.syn.actions.map (fun a => (a.id, a.kind, a.due, a.lateOk, a.raw)) =
      (s.syn.actions.filter (fun a => !s.superseded (beAt b 38 4) a)).map (fun a => (a.id, a.kind, a.due, a.lateOk, a.raw)) ++ [(s.syn.nextAction, .lift (beAt b 38 4) (beAt b 42 4) 0, viewOf (beAt b 46 6) (beAt b 52 4) 0, true, false)] ∧
    t.cntTick.get (cntKey 11 1 5) 0 = s.cntTick.get (cntKey 11 1 5) 0 + 1 ∧ t.rd F.TRP_LIFT_LIFT_NS = s.rd F.TRP_LIFT_LIFT_NS)) ∧
  (∀ (s : State) (port : Fin 512) (b : Bytes), s.Hears 4 port.val b → s.isLead = false ∧ beAt b 38 4 ≤ (match s.trp.order with | some x => x.number | none => s.rd F.TRP_LIFT_SEQ_VALUE) → 
    Completes (.liftOrder port b) s (fun t => t.trp.order = s.trp.order ∧ t.syn = s.syn ∧ t.on F.TRP_PEER_LIVE (byteAt b 16) = true ∧
    t = { s with regs := t.regs, trp := t.trp, cntTick := t.cntTick })) ∧
  (∀ (s : State), s.Free (F.TRP_LIFT_CFG_UNLIFT.addr 0) → s.on F.TRP_CTRL_ENABLE = true ∧ s.isLead = true ∧ s.trp.mine = false → s.epoch ≠ 0 ∧ s.syn.actions.length < 256 → 
    Completes (.unlift 0) s (fun t => t.resp = some ⟨.ok, []⟩ ∧ t.trp.order.map (fun o => (o.number, o.lift, o.due)) = some (s.lastNumber + 1, s.maxReq, s.leadInstant) ∧ t.trp.mine = true ∧
    t.cntTick.get (cntKey 11 5 0) 0 = s.cntTick.get (cntKey 11 5 0) 0 + 1 ∧ t.rd F.TRP_LIFT_LIFT_NS = s.rd F.TRP_LIFT_LIFT_NS)) ∧
  (∀ (s : State), s.Free (F.TRP_LIFT_CFG_UNLIFT.addr 0) → s.on F.TRP_CTRL_ENABLE = false ∨ s.isLead = false → 
    Completes (.unlift 0) s (fun t => t.resp = some ⟨.ok, []⟩ ∧ RegsBut s t digestFields ∧ t = { s with regs := t.regs, rwSet := t.rwSet, idn := t.idn, resp := t.resp }))

/-- A GRANT frame's grants wait for their instant, and PEER shows them. At each period the Lead computes the grants, waits with them
for the instant 200 µs away and sends them. A grant that is not above the one in force takes effect at its instant; a higher one
waits 100 µs longer. It also rests on the model's own readings of log 41. -/
def Obligations.TroupeGrantsPower : Prop :=
  (∀ (s : State) (port : Fin 512) (b : Bytes), s.Hears 6 port.val b → 
    Completes (.grant port b) s (fun t => t.trp.grants = s.trp.grants ++ [⟨viewOf (beAt b 38 6) (beAt b 44 4) 0, (List.range 8).map (fun n => beAt b (48 + 2 * n) 2)⟩] ∧
    (List.range 8).all (fun n => t.rd F.TRP_PEER_GRANT_W n == beAt b (48 + 2 * n) 2) = true ∧ (s.isLead = false → t.rd F.TRP_GRANT_GRANT_W = s.rd F.TRP_GRANT_GRANT_W ∧
      t = { s with regs := t.regs, trp := t.trp, cntTick := t.cntTick }))) ∧
  (∀ (s : State), s.live = true ∧ s.Settled ∧ s.on F.TRP_CTRL_ENABLE = true ∧ s.isLead = true ∧ s.now % s.periodTicks = 0 ∧ s.ran.contains 10 = false → 
    Completes (.grantPeriod) s (fun t => t.trp.grants = s.trp.grants ++ [⟨viewWrap ((s.viewAt s.now 0 + 200 * 65536000 : Nat) : Int), s.computeGrants.1⟩] ∧
    t.cntTick.get (cntKey 11 1 6) 0 = s.cntTick.get (cntKey 11 1 6) 0 + 1 ∧ t.rd F.TRP_GRANT_GRANT_W = s.rd F.TRP_GRANT_GRANT_W ∧
    (s.computeGrants.2 = true → t.on F.TRP_INT_STATUS_BUDGET_SHORT = true))) ∧
  (∀ (s : State) (due g : Nat) (gs : List Nat), s.live = true ∧ s.Settled ∧ s.on F.TRP_CTRL_ENABLE = true → s.trp.grants = [⟨due, gs⟩] ∧ due ≤ s.viewAt s.now 0 ∧ nth gs s.member 0 = g ∧ 0 < g ∧ g < 65536 → g ≤ (if s.rd F.TRP_GRANT_GRANT_W = 0 then s.rd F.TRP_POWER_SOLO_W else s.rd F.TRP_GRANT_GRANT_W) → 
    Completes (.grantApply) s (fun t => t.rd F.TRP_GRANT_GRANT_W = g ∧ t.trp = { s.trp with grants := [] } ∧ RegsBut s t [(F.TRP_GRANT_GRANT_W, 0)] ∧
    t = { s with regs := t.regs, trp := t.trp })) ∧
  (∀ (s : State) (due g : Nat) (gs : List Nat), s.live = true ∧ s.Settled ∧ s.on F.TRP_CTRL_ENABLE = true → s.trp.grants = [⟨due, gs⟩] ∧ due ≤ s.viewAt s.now 0 ∧ s.viewAt s.now 0 < due + 100 * 65536000 ∧ nth gs s.member 0 = g → (if s.rd F.TRP_GRANT_GRANT_W = 0 then s.rd F.TRP_POWER_SOLO_W else s.rd F.TRP_GRANT_GRANT_W) < g → 
    Completes (.grantApply) s (fun t => t = s))

/-- A record that must be written and that staging has room for leaves its tap, joins the open block, and is counted and paid for.
An optional record that comes while the bucket is below 0 is not written, and its loss is kept for a GAP record of cause 2.
Whatever waits at the taps is judged in the tick, as long as the tick's 16 KiB last. At every 16th tick the bucket takes two
bytes for every unit of the cap in force, up to 256 KiB, once in that tick. It also rests on the model's own readings of log 42. -/
def Obligations.EvidenceIsAcceptedOrItsLossTold : Prop :=
  (∀ (s : State) (r first : Record) (rest : List Record) (b : OpenBlock), s.live = true ∧ s.evr.held = false ∧ s.evr.gaps = [] ∧ s.evr.own = [] ∧ s.evr.agg = [] ∧ s.evr.taps = [r] ∧ s.sealCause = none → s.evr.opened = some b ∧ b.records = first :: rest ∧ r.kind ≠ 0x10 ∧ r.kind ≠ 0x18 ∧ r.kind ≠ 0x20 ∧ r.drop = none → r.optional = false ∨ 0 ≤ s.evr.bucket → s.evr.acceptedBytes + r.bytes ≤ 16384 → s.on F.EVR_STATUS_AGGREGATING = false ∧ s.evr.staging < stagingSize * s.rd F.EVR_STAGING_CFG_AGG_ON_PCT / 100 → s.evr.staging + r.bytes ≤ stagingSize - 65536 → 
    Completes (.recordAccept) s (fun t => t.evr.opened = some { b with records := b.records ++ [{ r with handed := s.now }] } ∧ t.evr.taps = [] ∧ t.evr.staging = s.evr.staging + r.bytes ∧
    t.evr.bucket = s.evr.bucket - (r.bytes : Int) ∧ t.evr.gaps = [] ∧
    t.cntTick.get (cntKey 12 1 r.kind) 0 = s.cntTick.get (cntKey 12 1 r.kind) 0 + 1 ∧ t.evr.blocks = s.evr.blocks ∧
    RegsBut s t [(F.EVR_STAGING_USED_KIB, 0), (F.EVR_STAGING_HWM_KIB, 0)] ∧
    t = { s with regs := t.regs, evr := t.evr, cntTick := t.cntTick, hwSet := t.hwSet, rcTick := t.rcTick })) ∧
  (∀ (s : State) (r : Record), s.live = true ∧ s.evr.held = false ∧ s.evr.gaps = [] ∧ s.evr.own = [] ∧ s.evr.agg = [] ∧ s.evr.taps = [r] ∧ s.sealCause = none → r.kind ≠ 0x18 ∧ r.kind ≠ 0x20 ∧ r.drop = none ∧ r.optional = true ∧ s.evr.bucket < 0 ∧ s.evr.acceptedBytes + r.bytes ≤ 16384 → s.on F.EVR_STATUS_AGGREGATING = false ∧ s.evr.staging < stagingSize * s.rd F.EVR_STAGING_CFG_AGG_ON_PCT / 100 → 
    Completes (.recordAccept) s (fun t => t.evr.gaps = [⟨2, s.now, s.now, b2n r.isFrame, 1 - b2n r.isFrame, r.bytes, 0, 0⟩] ∧ t.evr.taps = [] ∧ t.evr.opened = s.evr.opened ∧
    t.evr.staging = s.evr.staging ∧ t.evr.bucket = s.evr.bucket ∧ t.cntTick.get (cntKey 12 2 2) 0 = s.cntTick.get (cntKey 12 2 2) 0 + 1)) ∧
  (∀ (s : State), s.live = true ∧ s.evr.held = false ∧ s.evr.gaps = [] ∧ s.evr.agg = [] ∧ s.sealCause = none → s.evr.acceptedBytes + sumOf (s.evr.taps ++ s.evr.own) Record.bytes ≤ 16384 → 
    Completes (.recordAccept) s (fun t => t.evr.taps = [] ∧ t.evr.own = [] ∧ t.evr.held = false ∧ t.evr.blocks = s.evr.blocks ∧ t.evr.prevHash = s.evr.prevHash ∧
    t.tim = s.tim ∧ t.fwd = s.fwd ∧ t.qsg = s.qsg ∧ t.buf = s.buf ∧ t.cmd = s.cmd ∧ t.mem = s.mem ∧ t.pins = s.pins ∧ t.resp = s.resp)) ∧
  (∀ (s : State), s.live = true ∧ s.now % 16 = 0 ∧ s.ran.contains 11 = false → 
    Completes (.evrCapRefill) s (fun t => t.evr = { s.evr with bucket := min 262144 (s.evr.bucket + 2 * (s.capEff : Int)) } ∧ t.rd F.EVR_CAP_CAP_EFF = s.capEff % 2 ^ F.EVR_CAP_CAP_EFF.width ∧
    RegsBut s t [(F.EVR_CAP_CAP_EFF, 0)] ∧ t = { s with regs := t.regs, evr := t.evr, ran := 11 :: s.ran }))

/-- A block that is due to seal leaves with its header over its body, its chain value is the hash of that header, and the next block
opens in the same tick with a TIME_STATE record; no block that is pinned or being exported leaves the ring for it. A signing
core, which takes a control buffer for it and gives it back, gives the oldest unsigned block a trailer of 144 bytes, whose R and
S are free values. The genesis block opens block 0 at the first 1 ms grid tick at which memory and key are ready. A signing core
that fails leaves service, with a SPARED fault, or a CRITICAL one when it was the last. It also rests on the model's own
readings of log 7 and log 42. -/
def Obligations.BlocksSealSignAndChain : Prop :=
  (∀ (s : State) (c : Nat) (b : OpenBlock), s.live = true ∧ s.evr.held = false ∧ s.Settled ∧ s.sealCause = some c ∧ s.evr.opened = some b → s.evr.gaps = [] ∧ s.evr.own.all (fun r => r.kind != 0x20) = true ∧ s.evr.blocks.length < 8388608 → 
    let body := b.records.flatMap Record.encode
    Completes (.blockSeal) s (fun t => t.evr.blocks.getLast?.map (fun x => (x.no, x.sealTick, x.header, x.body)) = some (b.no, s.now, s.blockHeader b c false body, body) ∧
    t.evr.blocks.dropLast.all (fun x => s.evr.blocks.contains x) = true ∧ (s.evr.blocks.filter s.heldBlock).all (fun x => t.evr.blocks.contains x) = true ∧
    t.evr.prevHash = sha512 (s.blockHeader b c false body) ∧ t.evr.nextNo = b.no + 1 ∧ t.evr.sealReq = [] ∧ t.evr.sealReply = [] ∧ t.tim = s.tim ∧
    t.evr.opened.map (fun x => (x.no, x.firstRec, x.openTick, x.records.map (fun r => (r.kind, r.tick)))) =
      some (b.no + 1, b.firstRec + b.records.length, s.now, [(0x10, s.now)]) ∧
    t.cntTick.get (cntKey 12 5 c) 0 = s.cntTick.get (cntKey 12 5 c) 0 + 1)) ∧
  (∀ (s : State) (b : SealedBlock), s.live = true ∧ s.rd F.EVR_SIGN_STATUS_CORES_OK ≠ 0 ∧ s.on F.IDN_STATUS_RNG_OK = true → s.unsigned.head? = some b ∧ (List.range 4).all (fun c => (s.poolPlace c).isSome) = true → 
    let bare : Evr → List SealedBlock := fun e => e.blocks.map (fun x => { x with trailer := none })
    Completes (.blockSign) s (fun t => bare t.evr = bare s.evr ∧ t.evr.blocks.filter (fun x => x.no != b.no) = s.evr.blocks.filter (fun x => x.no != b.no) ∧
    (t.evr.blocks.filter (fun x => x.no == b.no)).map (fun x => x.trailer.map (fun y => (y.take 8, y.length))) =
      (s.evr.blocks.filter (fun x => x.no == b.no)).map (fun _ => some (be 4 0x4B455653 ++ zeros 4, 144)) ∧
    t.freeCount = s.freeCount + 3 ∧ t.rd F.EVR_SIGN_STATUS_BACKLOG = t.unsigned.length % 2 ^ F.EVR_SIGN_STATUS_BACKLOG.width ∧ t.buf = s.buf ∧ t.cntTick.get (cntKey 12 6 0) 0 = s.cntTick.get (cntKey 12 6 0) 0 + 1 ∧
    t.evr.prevHash = s.evr.prevHash ∧ t.evr.opened = s.evr.opened)) ∧
  (∀ (s : State), s.live = true ∧ s.Settled ∧ s.now % 800000 = 0 ∧ s.on F.MEM_STATUS_TRAINED = true ∧ s.on F.IDN_STATUS_EVK_READY = true ∧ s.on F.EVR_STATUS_READY = false → s.evr.gaps.all (fun g => g.cause != 6) = true ∧ s.evr.own.all (fun r => r.kind != 0x20) = true → 
    Completes (.genesisBlockOpen) s (fun t => t.on F.EVR_STATUS_READY = true ∧ t.on F.SYS_BOOT_STATUS_EVR_READY = true ∧ t.evr.prevHash = zeros 64 ∧
    t.evr.opened.map (fun x => (x.no, x.firstRec, x.openTick, x.genesis)) = some (0, 0, s.now, true) ∧
    t.evr.opened.map (fun x => x.records.map (fun r => (r.kind, r.tick))) = some ((0x10, s.now) :: s.evr.early.map (fun r => (r.kind, r.tick))) ∧
    t.evr.early = [] ∧ t.freeCount = s.freeCount + 1 ∧ t.evr.nextNo = 0 ∧ t.tim = s.tim)) ∧
  (∀ (s : State) (core : Fin 12), s.live = true ∧ bit (s.rd F.EVR_SIGN_STATUS_CORES_OK) core.val = true → 
    Completes (.signerFault core) s (fun t => t.rd F.EVR_SIGN_STATUS_CORES_OK = s.rd F.EVR_SIGN_STATUS_CORES_OK - 2 ^ core.val ∧ t.on F.EVR_INT_STATUS_SIGNER_FAULT = true ∧
    t.flt.held = s.flt.held ++ [if s.rd F.EVR_SIGN_STATUS_CORES_OK = 2 ^ core.val then ⟨32, 5, 3, core.val, 0⟩ else ⟨32, 3, 2, core.val, 0⟩] ∧
    t.evr = s.evr ∧ RegsBut s t [(F.EVR_SIGN_STATUS_CORES_OK, 0), (F.EVR_STATUS_SIGNERS, 0), (F.EVR_INT_STATUS_SIGNER_FAULT, 0)]))

/-- EVR_SEAL asks for a seal of cause 3 at the next boundary, and its reply waits. EVR_PIN pins or unpins a range of blocks that are
all present, within the limit. EVR_EXPORT of blocks that are present starts an export, with a limit of bytes if one is given.
The seats are those of SEAT_EN. A frame of an export carries the next bytes of the signed block, at most CHUNK_KIB of them, and
the export goes on behind them; the frame that ends it ends it with EXPORT_DONE and a reply that tells blocks and bytes. Each
takes a control buffer and gives it back. It also rests on the model's own readings of log 25 and log 42. -/
def Obligations.EvidenceIsSealedPinnedAndExported : Prop :=
  (∀ (s : State) (p : Packet), s.Takes p → p.opcode = 0x40 ∧ p.data = [] ∧ s.evrSeat p = true ∧ s.on F.EVR_STATUS_READY = true → 
    Completes (.evrSeal p) s (fun t => t.evr = { s.evr with sealReq := s.evr.sealReq ++ [(3, s.now + 1)], sealReply := s.evr.sealReply ++ [p] } ∧
    t.cmd.flights = s.cmd.flights ++ [⟨p, .window, s.cmd.nextSeqNo, true⟩] ∧ t.resp = s.resp ∧ RegsBut s t (seatFields p.sender.val))) ∧
  (∀ (s : State) (p : Packet) (a b : Nat) (pin : Bool), s.Takes p → p.opcode = 0x41 ∧ s.evrSeat p = true ∧ p.data.length = 5 ∧ pin = bit (p.data.getD 0 0).toNat 0 ∧ a = dataPair p 1 ∧ b = dataPair p 3 → s.rd F.MEM_STATUS_STATE ≠ 3 ∧ s.rangePresent a b = true → pin = true → sumOf (s.evr.blocks.filter (fun x => x.pinned || (decide (a ≤ x.no) && decide (x.no ≤ b)))) (fun x => x.length) ≤ s.rd F.EVR_RING_PIN_LIMIT_GIB * 2 ^ 30 ∧ (s.evr.blocks.filter (fun x => x.pinned || (decide (a ≤ x.no) && decide (x.no ≤ b)))).length ≤ 4194304 → 
    Completes (.evrPin p) s (fun t => t.evr.blocks = s.evr.blocks.map (fun x => if a ≤ x.no ∧ x.no ≤ b then { x with pinned := pin } else x) ∧
    Replied s t p .ok [] ∧ t.cntTick.get (cntKey 12 8 0) 0 = s.cntTick.get (cntKey 12 8 0) 0 + 1)) ∧
  (∀ (s : State) (p : Packet) (a b n : Nat), s.Takes p → p.opcode = 0x42 ∧ s.evrSeat p = true ∧ p.data.length = 7 ∧ bit (p.data.getD 0 0).toNat 0 = false ∧ a = dataPair p 1 ∧ b = dataPair p 3 → n = (p.data.getD 6 0).toNat ∧ s.rd F.MEM_STATUS_STATE ≠ 3 → s.evr.exporting = none ∧ s.evr.opened.isSome = true ∧ b < s.evr.nextNo ∧ s.rangePresent a b = true → exportFrameLen (1024 * s.rd F.EVR_EXPORT_CTRL_CHUNK_KIB) ≤ s.rd F.MAC_PORT_CFG_MAX_LEN (s.rd F.EVR_EXPORT_CTRL_PORT) → 
    Completes (.evrExport p) s (fun t => t.evr = { s.evr with exporting := some ⟨a, (p.data.getD 5 0).toNat, b, a, if n = 0 then none else some n, 0, 0, s.now, p⟩, exportId := (s.evr.exportId + 1) % 256 } ∧
    t.on F.EVR_EXPORT_STATUS_BUSY = true ∧ t.cmd.flights = s.cmd.flights ++ [⟨p, .window, s.cmd.nextSeqNo, true⟩] ∧ t.resp = s.resp)) ∧
  (∀ (s : State) (x : ExportRun) (b : SealedBlock) (tr all chunk : Bytes) (whole : Bool), s.live = true ∧ s.evr.exporting = some x ∧ s.evr.blocks.find? (fun b => b.no == x.block) = some b ∧ b.trailer = some tr → (s.batching && s.blockStaged b) = false ∧ (List.range 4).all (fun c => (s.poolPlace c).isSome) = true ∧ x.nextAt ≤ s.now → all = b.header ++ b.body ++ tr ∧ chunk = (all.drop x.offset).take ((x.limit.map (fun n => min n (1024 * s.rd F.EVR_EXPORT_CTRL_CHUNK_KIB))).getD (1024 * s.rd F.EVR_EXPORT_CTRL_CHUNK_KIB)) ∧ whole = decide (all.length ≤ x.offset + chunk.length) → (whole = true ∧ x.block = x.last) ∨ x.limit = some chunk.length → s.queueTakes (16 * s.rd F.EVR_EXPORT_CTRL_PORT + s.rd F.EVR_EXPORT_CTRL_QUEUE % 16) (ceilDiv (s.exportFrame x.block x.offset all.length chunk whole true).length 256) = true → 
    Completes (.exportFrame) s (fun t => t.evr.exporting = none ∧ t.on F.EVR_EXPORT_STATUS_BUSY = false ∧ t.on F.EVR_INT_STATUS_EXPORT_DONE = true ∧
    t.resp = some ⟨.ok, [(x.sentBlocks + b2n whole) % 2 ^ 32, (x.sentBlocks + b2n whole) / 2 ^ 32, (x.sentBytes + chunk.length) % 2 ^ 32, (x.sentBytes + chunk.length) / 2 ^ 32]⟩ ∧
    t.cntTick.get (cntKey 12 9 0) 0 = s.cntTick.get (cntKey 12 9 0) 0 + 1 ∧ t.evr.blocks = s.evr.blocks ∧ t.buf.ctl = s.buf.ctl ∧ t.freeCount = s.freeCount + 1 ∧
    t.cmd.flights = s.cmd.flights.filter (fun f => f.packet != x.packet))) ∧
  (∀ (s : State) (x : ExportRun) (b : SealedBlock) (tr all chunk : Bytes) (whole : Bool), s.live = true ∧ s.evr.exporting = some x ∧ s.evr.blocks.find? (fun b => b.no == x.block) = some b ∧ b.trailer = some tr → (s.batching && s.blockStaged b) = false ∧ (List.range 4).all (fun c => (s.poolPlace c).isSome) = true ∧ x.nextAt ≤ s.now → all = b.header ++ b.body ++ tr ∧ chunk = (all.drop x.offset).take (1024 * s.rd F.EVR_EXPORT_CTRL_CHUNK_KIB) ∧ whole = decide (all.length ≤ x.offset + chunk.length) → x.limit = none ∧ ¬ (whole = true ∧ x.block = x.last) → s.queueTakes (16 * s.rd F.EVR_EXPORT_CTRL_PORT + s.rd F.EVR_EXPORT_CTRL_QUEUE % 16) (ceilDiv (s.exportFrame x.block x.offset all.length chunk whole false).length 256) = true → 
    let n := (s.exportFrame x.block x.offset all.length chunk whole false).length
    Completes (.exportFrame) s (fun t => t.evr = { s.evr with taps := t.evr.taps, exporting := some { x with block := x.block + b2n whole, offset := (if whole then 0 else x.offset + chunk.length), sentBlocks := x.sentBlocks + b2n whole, sentBytes := x.sentBytes + chunk.length, nextAt := s.now + gapTicksOf n (1000 * s.rd F.EVR_EXPORT_CTRL_RATE_GBPS) } } ∧
    t.cntTick.get (cntKey 12 9 0) 0 = s.cntTick.get (cntKey 12 9 0) 0 + 1 ∧ t.fwd.nextFrame = s.fwd.nextFrame + 1 ∧ t.buf.ctl = s.buf.ctl ∧
    t.freeCount = s.freeCount + 1 ∧ t.resp = s.resp))

/-- The first waiting request of a free channel in an awake stack is served, and a corrected word in it is told; a neighbour refresh
that the channel owes comes before it, and a stack that is asleep holds it. A write of a whole row asks all eight channels of
its stripe, and as the Recorder's writes are made its staging is given back. An expiry of a channel's timer adds 1 to its debt,
and forces a refresh at 4. An owed refresh is issued only while no request waits. A stack above 85 degrees halves its interval
until 82. An idle stack enters self-refresh in an allowed phase, is in it 160 ticks later, begins exit after 400 ticks for a
held request, and wakes 264 ticks later without debt. In such a phase the Recorder begins to write all it has staged once enough
is staged, its oldest record has waited long enough, or an export waits for it. It also rests on the model's own readings of log
43. -/
def Obligations.MemoryServesRefreshesAndSleeps : Prop :=
  (∀ (s : State) (chan : Fin 32) (client unit : Nat) (draw : Bool), s.clocked = true ∧ s.on F.MEM_STATUS_TRAINED = true ∧ s.rd F.MEM_STATUS_STATE ≠ 3 ∧ s.pumpOps = s ∧ s.stackRoom chan.val = true ∧ s.memReqs chan.val = [] → s.srState (chanStack chan.val) = 0 ∧ s.memBusy chan.val ≤ s.now ∧ s.chState chan.val = 0 ∧ s.mem.owed.contains chan.val = false → 3 ≤ client ∧ client ≤ 7 ∧ client ≠ 6 ∧ (memPlace (256 * unit)).1 = chan.val → 
    Completes (.memAccess chan [(client, unit, 0)] 0 draw) s (fun t => t.mem = { s.mem with lastReq := s.mem.lastReq.put (chanStack chan.val) s.now 0, owed := s.mem.owed ++ (if draw ∧ s.rd F.MEM_REFRESH_CFG_NR_K ≠ 0 then [chan.val] else []) } ∧
    t.evr = s.evr ∧ t.qsg = s.qsg ∧ t.flt = s.flt ∧ t.rd F.MEM_STACK_QUEUE_DEPTH (chanStack chan.val) = (s.stackReqs (chanStack chan.val)).length ∧
    RegsBut s t [(F.MEM_STACK_QUEUE_DEPTH, chanStack chan.val)])) ∧
  (∀ (s : State) (chan : Fin 32) (r : MemReq), s.clocked = true ∧ s.on F.MEM_STATUS_TRAINED = true ∧ s.rd F.MEM_STATUS_STATE ≠ 3 ∧ s.pumpOps = s ∧ (s.memReqs chan.val).head? = some r → s.srState (chanStack chan.val) = 0 ∧ s.memBusy chan.val ≤ s.now ∧ s.chState chan.val = 0 ∧ s.mem.owed.contains chan.val = false ∧ r.op = none → 
    Completes (.memAccess chan [] 1 false) s (fun t => t.mem = { s.mem with reqs := s.mem.reqs.erase r } ∧ t.cntTick.get (cntKey 13 1 chan.val) 0 = s.cntTick.get (cntKey 13 1 chan.val) 0 + 1 ∧
    t.flt.held = s.flt.held ++ [⟨33 + chanStack chan.val, 1, 0, chan.val, 256 * r.unit⟩] ∧ t.evr = s.evr ∧ RegsBut s t [(F.MEM_STACK_QUEUE_DEPTH, chanStack chan.val)])) ∧
  (∀ (s : State) (chan : Fin 32), s.clocked = true ∧ s.on F.MEM_STATUS_TRAINED = true ∧ s.rd F.MEM_STATUS_STATE ≠ 3 ∧ s.pumpOps = s → s.srState (chanStack chan.val) = 0 ∧ s.memBusy chan.val ≤ s.now ∧ s.mem.owed.contains chan.val = true → 
    Completes (.memAccess chan [] 0 false) s (fun t => t.memBusy chan.val = s.now + 72 ∧ t.mem = { s.mem with owed := s.mem.owed.filter (fun x => x != chan.val), busy := t.mem.busy } ∧
    t.cntTick.get (cntKey 13 6 0) 0 = s.cntTick.get (cntKey 13 6 0) 0 + 1 ∧ t = { s with mem := t.mem, cntTick := t.cntTick })) ∧
  (∀ (s : State) (chan : Fin 32) (client unit : Nat) (err : Fin 4) (draw : Bool), s.clocked = true ∧ s.on F.MEM_STATUS_TRAINED = true ∧ s.rd F.MEM_STATUS_STATE ≠ 3 ∧ s.pumpOps = s ∧ s.stackRoom chan.val = true → s.srState (chanStack chan.val) ≠ 0 ∧ 3 ≤ client ∧ client ≤ 7 ∧ (client = 6 ∨ (memPlace (256 * unit)).1 = chan.val) → 
    Completes (.memAccess chan [(client, unit, 0)] err draw) s (fun t => t.mem = { s.mem with reqs := s.mem.reqs ++ [⟨client, unit, chan.val, s.now, none⟩], lastReq := t.mem.lastReq } ∧ t.evr = s.evr ∧
    t.rd F.MEM_STACK_QUEUE_DEPTH (chanStack chan.val) = ((s.stackReqs (chanStack chan.val)).length + 1) % 2 ^ F.MEM_STACK_QUEUE_DEPTH.width)) ∧
  (∀ (s : State) (chan : Fin 32) (client unit : Nat) (err : Fin 4) (draw : Bool), s.clocked = true ∧ s.on F.MEM_STATUS_TRAINED = true ∧ s.rd F.MEM_STATUS_STATE ≠ 3 ∧ s.mem.ops = [] ∧ s.now < s.memBusy chan.val → client = 4 ∨ (client = 3 ∧ (s.batching = true → s.mem.flush ≠ 0)) → (memPlace (256 * unit)).1 = chan.val ∧ (List.range 4).all (fun k => decide ((s.stackReqs k).length ≤ 62)) = true ∧ s.mem.reqs.all (fun r => r.op != some s.mem.nextOp) = true → 
    Completes (.memAccess chan [(client, unit, 2)] err draw) s (fun t => t.mem.ops = [⟨s.mem.nextOp, client, unit % 4, unit / 28, [], (List.range 8).map (memberChan (unit % 4))⟩] ∧ t.mem.nextOp = s.mem.nextOp + 1 ∧
    t.mem.reqs.map (fun r => (r.client, r.chan, r.arrived, r.op)) = s.mem.reqs.map (fun r => (r.client, r.chan, r.arrived, r.op)) ++
      ((List.range 8).map (memberChan (unit % 4))).map (fun c => (client, c, s.now, some s.mem.nextOp)) ∧ t.evr = s.evr ∧ t.mem.owed = s.mem.owed)) ∧
  (∀ (s : State) (chan : Fin 32) (r : MemReq) (o : MemOp), s.clocked = true ∧ s.on F.MEM_STATUS_TRAINED = true ∧ s.rd F.MEM_STATUS_STATE ≠ 3 ∧ s.pumpOps = s ∧ (s.memReqs chan.val).head? = some r → s.srState (chanStack chan.val) = 0 ∧ s.memBusy chan.val ≤ s.now ∧ s.mem.owed.contains chan.val = false ∧ s.chState chan.val = 0 → r.op = some o.id ∧ s.mem.ops = [o] ∧ o.reads = [] ∧ o.writes = [chan.val] ∧ o.client = 3 ∧ chan.val ≠ parityChan o.stripe o.row → 
    Completes (.memAccess chan [] 0 false) s (fun t => t.mem = { s.mem with reqs := s.mem.reqs.erase r, ops := [], flush := s.mem.flush - 256 } ∧ t.evr.staging = s.evr.staging - 256 ∧
    t.evr = { s.evr with staging := t.evr.staging, stagedAt := drained 256 s.evr.stagedAt } ∧ t.qsg = s.qsg ∧ t.flt = s.flt)) ∧
  (∀ (s : State) (chan : Fin 32), s.clocked = true ∧ s.on F.MEM_STATUS_TRAINED = true ∧ s.srState (chanStack chan.val) = 0 ∧ s.mem.due.get chan.val 0 ≤ s.now → s.rd F.MEM_CH_STATUS_DEBT chan.val < 3 → 
    Completes (.refreshTimer chan) s (fun t => t.rd F.MEM_CH_STATUS_DEBT chan.val = s.rd F.MEM_CH_STATUS_DEBT chan.val + 1 ∧ t.mem.due.get chan.val 0 = s.now + s.trefi chan.val ∧
    t.mem.busy = s.mem.busy ∧ RegsBut s t [(F.MEM_CH_STATUS_DEBT, chan.val)] ∧ t = { s with regs := t.regs, mem := t.mem })) ∧
  (∀ (s : State) (chan : Fin 32), s.clocked = true ∧ s.on F.MEM_STATUS_TRAINED = true ∧ s.srState (chanStack chan.val) = 0 ∧ s.mem.due.get chan.val 0 ≤ s.now → s.rd F.MEM_CH_STATUS_DEBT chan.val = 3 → 
    Completes (.refreshTimer chan) s (fun t => t.rd F.MEM_CH_STATUS_DEBT chan.val = 3 ∧ t.memBusy chan.val = max s.now (s.memBusy chan.val) + 224 ∧ t.on F.MEM_INT_STATUS_FORCED = true ∧
    t.cntTick.get (cntKey 13 4 0) 0 = s.cntTick.get (cntKey 13 4 0) 0 + 1 ∧ t.mem.due.get chan.val 0 = s.now + s.trefi chan.val)) ∧
  (∀ (s : State) (chan : Fin 32), s.clocked = true ∧ s.on F.MEM_STATUS_TRAINED = true ∧ s.srState (chanStack chan.val) = 0 → s.memBusy chan.val ≤ s.now ∧ s.rd F.MEM_CH_STATUS_DEBT chan.val ≠ 0 ∧ s.memReqs chan.val = [] → 
    Completes (.refreshIssue chan) s (fun t => t.rd F.MEM_CH_STATUS_DEBT chan.val = s.rd F.MEM_CH_STATUS_DEBT chan.val - 1 ∧ t.memBusy chan.val = s.now + 224 ∧
    t.cntTick.get (cntKey 13 5 0) 0 = s.cntTick.get (cntKey 13 5 0) 0 + 1 ∧ RegsBut s t [(F.MEM_CH_STATUS_DEBT, chan.val)] ∧
    t = { s with regs := t.regs, mem := t.mem, cntTick := t.cntTick })) ∧
  (∀ (s : State) (k : Fin 4) (temp : BitVec 8), s.clocked = true ∧ s.now % 800000 = 0 ∧ s.ran.contains (16 + k.val) = false → 
    Completes (.stackTempRead k temp) s (fun t => t.rd F.MEM_STACK_STATUS_TEMP_C k.val = temp.toNat ∧
    t.on F.MEM_STACK_STATUS_HOT k.val = (if 85 < temp.toInt then true else if temp.toInt ≤ 82 then false else s.on F.MEM_STACK_STATUS_HOT k.val) ∧
    t.on F.MEM_INT_STATUS_HOT = (s.on F.MEM_INT_STATUS_HOT || (!s.on F.MEM_STACK_STATUS_HOT k.val && decide (85 < temp.toInt))) ∧
    t.mem = s.mem ∧ t.ran = (16 + k.val) :: s.ran ∧
    RegsBut s t [(F.MEM_STACK_STATUS_TEMP_C, k.val), (F.MEM_STACK_STATUS_HOT, k.val), (F.MEM_INT_STATUS_HOT, 0), (F.PWR_INT_STATUS_THROTTLE, 0)])) ∧
  (∀ (s : State) (k : Fin 4), s.clocked = true ∧ s.live = true ∧ s.srState k.val = 0 ∧ s.mayEnter k.val = true → 
    Completes (.selfRefreshEntry k) s (fun t => t.srState k.val = 1 ∧ t.mem = { s.mem with since := s.mem.since.put k.val s.now 0 } ∧
    t.cntTick.get (cntKey 13 7 k.val) 0 = s.cntTick.get (cntKey 13 7 k.val) 0 + 1 ∧ RegsBut s t [(F.MEM_STACK_STATUS_SR_STATE, k.val)])) ∧
  (∀ (s : State) (k : Fin 4), s.clocked = true ∧ s.srState k.val = 1 ∧ s.mem.since.get k.val 0 + 160 ≤ s.now → 
    Completes (.selfRefreshEntry k) s (fun t => t.srState k.val = 2 ∧ t.mem.since.get k.val 0 = s.mem.since.get k.val 0 + 160 ∧ t.cntTick = s.cntTick ∧ RegsBut s t [(F.MEM_STACK_STATUS_SR_STATE, k.val)])) ∧
  (∀ (s : State) (k : Fin 4), s.clocked = true ∧ s.srState k.val = 2 ∧ s.mem.since.get k.val 0 + 400 ≤ s.now ∧ s.stackReqs k.val ≠ [] → 
    Completes (.selfRefreshExit k) s (fun t => t.srState k.val = 3 ∧ t.mem = { s.mem with since := s.mem.since.put k.val s.now 0 } ∧ RegsBut s t [(F.MEM_STACK_STATUS_SR_STATE, k.val)])) ∧
  (∀ (s : State) (k : Fin 4), s.clocked = true ∧ s.srState k.val = 3 ∧ s.mem.since.get k.val 0 + 264 ≤ s.now → 
    Completes (.selfRefreshExit k) s (fun t => t.srState k.val = 0 ∧ (List.range 8).all (fun i => t.rd F.MEM_CH_STATUS_DEBT (8 * k.val + i) == 0) = true ∧
    (List.range 8).all (fun i => t.mem.due.get (8 * k.val + i) 0 == s.now + s.trefi (8 * k.val + i)) = true ∧ t.mem.reqs = s.mem.reqs ∧
    t.cntTick.get (cntKey 13 8 k.val) 0 = s.cntTick.get (cntKey 13 8 k.val) 0 + 1)) ∧
  (∀ (s : State), s.live = true ∧ s.batching = true ∧ s.mem.flush = 0 ∧ s.rd F.MEM_STATUS_STATE ≠ 3 → 1024 * s.rd F.MEM_SR_BATCH_BATCH_KIB ≤ s.evr.staging ∨ s.evr.stagedAt.head?.any (fun x => decide (x.1 + 800 * s.rd F.MEM_SR_BATCH_BATCH_US ≤ s.now)) = true ∨ s.exportWaits = true → 
    Completes (.evrFlush) s (fun t => t = { s with mem := { s.mem with flush := s.evr.staging, tail := s.writeGroup } }))

/-- FORCE_FAIL fails a channel in service: it is retrained at once, with CH_FAIL and a SPARED fault, and with a CRITICAL one when
its stripe then misses two; a channel that has failed stays as it is. A channel fails on its count of uncorrectable words too.
RETRY retrains a failed channel. A retraining that succeeds begins the rebuild, and one that fails leaves the channel FAILED.
The end of the rebuild returns it to OK. Two or more units lost in a row mark what cannot be rebuilt, with the lowest address,
and the spilled copies that lie in them are lost. The scrubber counts what it finds. Training sets TRAINED, notes the spare
lanes in use, and a channel that fails it begins to retrain. It also rests on the model's own readings of log 43. -/
def Obligations.MemoryChannelsFailAndRecover : Prop :=
  (∀ (s : State) (c : Fin 32), s.Free (F.MEM_CH_CTRL_FORCE_FAIL.addr c.val) → s.chState c.val ≠ 1 ∧ s.chState c.val ≠ 3 → 
    let more := decide (2 ≤ s.stripeLost (chanStripe c.val) + b2n (s.chState c.val == 0))
    Completes (.forceFail 0 c) s (fun t => t.resp = some ⟨.ok, []⟩ ∧ t.chState c.val = 3 ∧ t.rd F.MEM_CH_REBUILD_REBUILD_ROW c.val = 0 ∧ t.on F.MEM_INT_STATUS_CH_FAIL = true ∧
    t.flt.held = s.flt.held ++ ⟨33 + chanStack c.val, 3, 2, c.val, 0⟩ :: (if more then [⟨33 + chanStack c.val, 5, 3, c.val, 0⟩] else []) ∧ t.cntTick.get (cntKey 13 12 0) 0 = s.cntTick.get (cntKey 13 12 0) 0 + 1 ∧
    RegsBut s t ((F.MEM_CH_STATUS_STATE, c.val) :: (F.MEM_CH_REBUILD_REBUILD_ROW, c.val) :: (F.MEM_INT_STATUS_CH_FAIL, 0) :: (F.MEM_STATUS_STATE, 0) :: digestFields))) ∧
  (∀ (s : State) (c : Fin 32), s.Free (F.MEM_CH_CTRL_FORCE_FAIL.addr c.val) → s.chState c.val = 1 ∨ s.chState c.val = 3 → 
    Completes (.forceFail 0 c) s (fun t => t.resp = some ⟨.ok, []⟩ ∧ RegsBut s t digestFields ∧ t = { s with regs := t.regs, rwSet := t.rwSet, idn := t.idn, resp := t.resp })) ∧
  (∀ (s : State) (c : Fin 32), s.clocked = true ∧ (s.ueReached c.val = true ∨ (s.memReqs c.val).any (fun r => decide (r.arrived + 8000 ≤ s.now)) = true) → s.chState c.val ≠ 1 ∧ s.chState c.val ≠ 3 → 
    let more := decide (2 ≤ s.stripeLost (chanStripe c.val) + b2n (s.chState c.val == 0))
    Completes (.channelFail c) s (fun t => t.chState c.val = 3 ∧ (more = true → t.rd F.MEM_STATUS_STATE = 3) ∧ t.on F.MEM_INT_STATUS_CH_FAIL = true ∧
    t.flt.held = s.flt.held ++ ⟨33 + chanStack c.val, 3, 2, c.val, 0⟩ :: (if more then [⟨33 + chanStack c.val, 5, 3, c.val, 0⟩] else []) ∧ t.mem = s.mem ∧
    RegsBut s t [(F.MEM_CH_STATUS_STATE, c.val), (F.MEM_CH_REBUILD_REBUILD_ROW, c.val), (F.MEM_INT_STATUS_CH_FAIL, 0), (F.MEM_STATUS_STATE, 0)])) ∧
  (∀ (s : State) (c : Fin 32), s.Free (F.MEM_CH_CTRL_RETRY.addr c.val) → 
    Completes (.retry 0 c) s (fun t => t.resp = some ⟨.ok, []⟩ ∧ t.chState c.val = (if s.chState c.val = 1 then 3 else s.chState c.val) ∧ t.mem = s.mem ∧ t.flt = s.flt ∧
    RegsBut s t ((F.MEM_CH_STATUS_STATE, c.val) :: (F.MEM_STATUS_STATE, 0) :: digestFields))) ∧
  (∀ (s : State) (c : Fin 32) (ok : Bool), s.clocked = true ∧ s.chState c.val = 3 → 
    Completes (.retrainDone c ok) s (fun t => t.chState c.val = (if ok then 2 else 1) ∧ t.mem = s.mem ∧ t.flt = s.flt ∧
    RegsBut s t [(F.MEM_CH_STATUS_STATE, c.val), (F.MEM_CH_REBUILD_REBUILD_ROW, c.val), (F.MEM_STATUS_STATE, 0)])) ∧
  (∀ (s : State) (c : Fin 32), s.clocked = true ∧ s.chState c.val = 2 → 
    Completes (.rebuildDone c) s (fun t => t.chState c.val = 0 ∧ t.on F.MEM_INT_STATUS_REBUILT = true ∧ t.mem = s.mem ∧ t.flt = s.flt ∧
    RegsBut s t [(F.MEM_CH_STATUS_STATE, c.val), (F.MEM_INT_STATUS_REBUILT, 0), (F.MEM_STATUS_STATE, 0)])) ∧
  (∀ (s : State) (j : Fin 4) (row : BitVec 24) (members : List (Fin 8)) (spilled : List Nat) (units : List Nat) (c : Nat), s.clocked = true ∧ 2 ≤ (members.map Fin.val).dedup.length → units = (members.map Fin.val).dedup.filterMap (fun m => memUnit j.val row.toNat m) ∧ c = memberChan j.val ((members.head?.map Fin.val).getD 0) → units.all (fun u => decide (s.ringLost (u * 256) 256 = s)) = true → 
    let low := (units.foldl (fun (x : Option Nat) u => some (min (x.getD u) u)) none).getD 0 * 256
    let gone := spilled.dedup.filterMap (fun i => s.qsg.queue[i]?.filter (fun x => x.seg == .reserve))
    Completes (.memRowsLost j row members spilled) s (fun t => t.mem = { s.mem with lost := (s.mem.lost ++ units).dedup } ∧ t.on F.MEM_INT_STATUS_LOST = true ∧ t.on F.MEM_LOST_ADDR_HI_VALID = true ∧
    (s.on F.MEM_LOST_ADDR_HI_VALID = false → t.rd F.MEM_LOST_ADDR_LO_VALUE = low % 2 ^ 32 ∧ t.rd F.MEM_LOST_ADDR_HI_VALUE = low / 2 ^ 32 % 2 ^ F.MEM_LOST_ADDR_HI_VALUE.width) ∧
    (s.on F.MEM_LOST_ADDR_HI_VALID = true → t.rd F.MEM_LOST_ADDR_LO_VALUE = s.rd F.MEM_LOST_ADDR_LO_VALUE ∧ t.rd F.MEM_LOST_ADDR_HI_VALUE = s.rd F.MEM_LOST_ADDR_HI_VALUE) ∧
    t.flt.held = s.flt.held ++ [⟨33 + chanStack c, 4, 1, c, low⟩] ∧ t.qsg.queue = s.qsg.queue.filter (fun x => !gone.contains x) ∧
    t.cntTick.get (cntKey 13 11 0) 0 = s.cntTick.get (cntKey 13 11 0) 0 + gone.length ∧ t.tim = s.tim)) ∧
  (∀ (s : State) (c : Fin 32) (row : BitVec 24) (finding : Fin 4), s.clocked = true ∧ s.on F.MEM_STATUS_TRAINED = true ∧ s.on F.MEM_SCRUB_CTRL_ENABLE = true ∧ s.rd F.MEM_STATUS_STATE ≠ 3 → (List.range 4).all (fun k => s.srState k == 0) = true ∧ s.chState c.val = 0 ∧ finding ≠ 2 → 
    let addr := 256 * (memUnit (chanStripe c.val) row.toNat (chanMember c.val)).getD 0
    Completes (.patrolScrub c row finding) s (fun t => t.cntTick.get (cntKey 13 10 0) 0 = s.cntTick.get (cntKey 13 10 0) 0 + (if finding = 3 then 1 else 0) ∧ t.mem = { s.mem with lastReq := t.mem.lastReq } ∧ t.regs = s.regs ∧
    (List.range 4).all (fun k => t.mem.lastReq.get k 0 == s.now) = true ∧
    t.cntTick.get (cntKey 13 1 c.val) 0 = s.cntTick.get (cntKey 13 1 c.val) 0 + (if finding = 1 then 1 else 0) ∧
    t.flt.held = s.flt.held ++ (if finding = 1 then [⟨33 + chanStack c.val, 1, 0, c.val, addr⟩] else if finding = 3 then [⟨33 + chanStack c.val, 6, 0, c.val, addr⟩] else []))) ∧
  (∀ (s : State) (c : Fin 32) (row : BitVec 24), s.clocked = true ∧ s.on F.MEM_STATUS_TRAINED = true ∧ s.on F.MEM_SCRUB_CTRL_ENABLE = true ∧ s.rd F.MEM_STATUS_STATE ≠ 3 → (List.range 4).all (fun k => s.srState k == 0) = true ∧ s.chState c.val = 0 ∧ (s.rd F.MEM_FAIL_CFG_UE_LIMIT = 0 ∨ s.ueCount c.val + 1 < s.rd F.MEM_FAIL_CFG_UE_LIMIT) → 
    let addr := 256 * (memUnit (chanStripe c.val) row.toNat (chanMember c.val)).getD 0
    Completes (.patrolScrub c row 2) s (fun t => t.cntTick.get (cntKey 13 2 c.val) 0 = s.cntTick.get (cntKey 13 2 c.val) 0 + 1 ∧ t.cntTick.get (cntKey 13 3 0) 0 = s.cntTick.get (cntKey 13 3 0) 0 + 1 ∧
    t.flt.held = s.flt.held ++ [⟨33 + chanStack c.val, 2, 2, c.val, addr⟩] ∧ t.ueCount c.val = s.ueCount c.val + 1 ∧ t.regs = s.regs)) ∧
  (∀ (s : State) (failing : List (Fin 32)) (lanes : List (Nat × Nat)), s.clocked = true ∧ s.on F.MEM_STATUS_TRAINED = false ∧ s.rd F.MEM_STATUS_STATE ≠ 3 → (List.range 32).all (fun c => s.chState c == 0) = true ∧ failing.Nodup ∧ (failing.map (fun c => chanStripe c.val)).Nodup → lanes.all (fun x => decide (x.1 < 32) && decide (x.2 ≤ 3)) = true ∧ (lanes.map Prod.fst).Nodup → 
    Completes (.memTrainingDone failing lanes) s (fun t => t.on F.MEM_STATUS_TRAINED = true ∧ t.on F.SYS_BOOT_STATUS_MEM_TRAINED = true ∧ t.rd F.MEM_STATUS_STATE = (if failing = [] then 1 else 2) ∧
    (List.range 32).all (fun c => t.chState c == if failing.any (fun f => f.val == c) then 3 else 0) = true ∧
    t.flt.held = s.flt.held ++ failing.map (fun f => ⟨33 + chanStack f.val, 3, 2, f.val, 0⟩) ∧
    lanes.all (fun x => t.rd F.MEM_CH_STATUS_LANES_REPAIRED x.1 == x.2) = true ∧
    (List.range 32).all (fun c => t.mem.due.get c 0 == s.now + s.trefi c + c * s.trefi c / 32) = true ∧
    RegsBut s t ([(F.MEM_STATUS_TRAINED, 0), (F.SYS_BOOT_STATUS_MEM_TRAINED, 0), (F.MEM_STATUS_STATE, 0), (F.MEM_INT_STATUS_CH_FAIL, 0)] ++
      failing.flatMap (fun c => [(F.MEM_CH_STATUS_STATE, c.val), (F.MEM_CH_REBUILD_REBUILD_ROW, c.val)]) ++ lanes.map (fun x => (F.MEM_CH_STATUS_LANES_REPAIRED, x.1)))))

/-- START of a stopped port that exists begins DETECT at once, or 200 µs later where a lane was DOWN. START = 0 stops it, with cause
5 from ACTIVE; a START that is as it was changes nothing. DETECT ends when every lane sees a termination in a measurement, one
every millisecond, TRAIN with each lane's coefficients and first snapshot, LOCK with as many markers as LOCK_GOOD asks, the
lanes' polarity, the place of PCS lane 0 and the deskew depth unless the skew exceeds 80 ticks, and EXCHANGE when it has held
for STABLE_US, with the port in ACTIVE. A stage past its limit is counted and goes back to DETECT. A break of EXCHANGE restarts
its timer. It also rests on the model's own readings of log 45. -/
def Obligations.LinksComeUpStageByStage : Prop :=
  (∀ (s : State) (seat : Fin 4) (p : Fin 512), s.Free (F.LAN_PORT_CTRL_START.addr p.val) → s.ownsPort seat.val p.val = true ∧ s.on F.LAN_PORT_CFG_EN p.val = true ∧ s.tsu.cal.all (fun r => r.port != p.val) = true ∧ s.on F.LAN_PORT_CTRL_START p.val = false → 
    Completes (.portStart seat p) s (fun t => t.resp = some ⟨.ok, []⟩ ∧ t.on F.LAN_PORT_CTRL_START p.val = true ∧ t.portState p.val = 1 ∧ t.on F.LAN_PORT_STATUS_TX_EI p.val = true ∧
    t.lan.since.get p.val 0 = (if (s.lanesOf p.val).any (fun n => s.rd F.LAN_LANE_STATUS_POWER n == 2) then s.now + 160000 else s.now) ∧
    t.cntTick.get (cntKey 14 1 1) 0 = s.cntTick.get (cntKey 14 1 1) 0 + 1 ∧ t.qsg = s.qsg)) ∧
  (∀ (s : State) (seat : Fin 4) (p : Fin 512), s.Free (F.LAN_PORT_CTRL_START.addr p.val) → s.ownsPort seat.val p.val = true ∧ s.on F.LAN_PORT_CFG_EN p.val = true ∧ s.tsu.cal.all (fun r => r.port != p.val) = true ∧ s.on F.LAN_PORT_CTRL_START p.val = true → 
    Completes (.portStart seat p) s (fun t => t.resp = some ⟨.ok, []⟩ ∧ t.on F.LAN_PORT_CTRL_START p.val = true ∧ RegsBut s t ((F.LAN_PORT_CTRL_START, p.val) :: digestFields) ∧
    t = { s with regs := t.regs, rwSet := t.rwSet, idn := t.idn, resp := t.resp })) ∧
  (∀ (s : State) (seat : Fin 4) (p : Fin 512), s.Free (F.LAN_PORT_CTRL_START.addr p.val) → s.ownsPort seat.val p.val = true ∧ s.on F.LAN_PORT_CTRL_START p.val = false → 
    Completes (.portStop seat p) s (fun t => t.resp = some ⟨.ok, []⟩ ∧ t.on F.LAN_PORT_CTRL_START p.val = false ∧ RegsBut s t ((F.LAN_PORT_CTRL_START, p.val) :: digestFields) ∧
    t = { s with regs := t.regs, rwSet := t.rwSet, idn := t.idn, resp := t.resp })) ∧
  (∀ (s : State) (seat : Fin 4) (p : Fin 512), s.Free (F.LAN_PORT_CTRL_START.addr p.val) → s.ownsPort seat.val p.val = true ∧ s.on F.LAN_PORT_CTRL_START p.val = true ∧ s.portState p.val = 5 → 
    Completes (.portStop seat p) s (fun t => t.resp = some ⟨.ok, []⟩ ∧ t.on F.LAN_PORT_CTRL_START p.val = false ∧ t.portState p.val = 0 ∧ t.rd F.LAN_PORT_STATUS_LAST_DOWN p.val = 5 ∧
    t.on F.LAN_PORT_STATUS_TX_EI p.val = true ∧ t.on F.LAN_GRP_INT_STATUS_LINK_DOWN (p.val / 32) = true ∧
    t.cntTick.get (cntKey 14 4 5) 0 = s.cntTick.get (cntKey 14 4 5) 0 + 1 ∧ t.tim = s.tim)) ∧
  (∀ (s : State) (seat : Fin 4) (p : Fin 512), s.Free (F.LAN_PORT_CTRL_START.addr p.val) → s.ownsPort seat.val p.val = true ∧ s.on F.LAN_PORT_CTRL_START p.val = true ∧ s.portState p.val ≠ 5 → 
    Completes (.portStop seat p) s (fun t => t.resp = some ⟨.ok, []⟩ ∧ t.on F.LAN_PORT_CTRL_START p.val = false ∧ t.portState p.val = 0 ∧ t.on F.LAN_PORT_STATUS_TX_EI p.val = true ∧
    (s.lanesOf p.val).all (fun n => t.rd F.LAN_LANE_STATUS_POWER n == if 3 ≤ s.rd F.PWR_STATUS_STEP then 2 else 1) = true ∧ t.qsg = s.qsg ∧ t.buf = s.buf)) ∧
  (∀ (s : State) (p : Fin 512) (seen : BitVec 8), s.inStage p.val 1 = true ∧ s.lan.since.get p.val 0 ≤ s.now ∧ (s.now - s.lan.since.get p.val 0) % 800000 = 0 → (List.range (modeLanes (s.rd F.LAN_PORT_CFG_MODE p.val))).all (fun i => bit seen.toNat i) = true → 
    Completes (.detect p seen) s (fun t => t.portState p.val = 2 ∧ t.on F.LAN_PORT_STATUS_TX_EI p.val = false ∧ t.lan.since.get p.val 0 = s.now ∧
    t.cntTick.get (cntKey 14 1 2) 0 = s.cntTick.get (cntKey 14 1 2) 0 + 1 ∧
    RegsBut s t [(F.LAN_PORT_STATUS_STATE, p.val), (F.LAN_PORT_STATUS_TX_EI, p.val)])) ∧
  (∀ (s : State) (p : Fin 512) (seen : BitVec 8), s.now < s.lan.since.get p.val 0 ∨ (s.now - s.lan.since.get p.val 0) % 800000 ≠ 0 ∨ (List.range (modeLanes (s.rd F.LAN_PORT_CFG_MODE p.val))).all (fun i => bit seen.toNat i) = false → 
    Completes (.detect p seen) s (fun t => t = s)) ∧
  (∀ (s : State) (p : Fin 512) (l : List Trained) (chip : Bool), s.inStage p.val 2 = true ∧ l.length = modeLanes (s.rd F.LAN_PORT_CFG_MODE p.val) ∧ chip = decide (s.rd F.LAN_PORT_CFG_REACH p.val = 2) → chip = true → s.lan.since.get p.val 0 + 1600000 ≤ s.now → 
    Completes (.trainDone p l) s (fun t => t.portState p.val = 3 ∧ t.lan.since.get p.val 0 = s.now ∧
    l.zipIdx.all (fun x => t.lan.coef.get (p.val + x.2) 0 == x.1.rx && t.lan.snap.get (p.val + x.2) 0 == x.1.rx + 1 && t.on F.LAN_LANE_STATUS_SIGNAL (p.val + x.2)) = true ∧
    l.zipIdx.all (fun x => t.rd F.LAN_LANE_TX_COEF_C_0 (p.val + x.2) == if chip then s.rd F.LAN_LANE_TX_COEF_C_0 (p.val + x.2) else x.1.taps.toNat / 2 ^ 16 % 2 ^ F.LAN_LANE_TX_COEF_C_0.width) = true ∧
    l.zipIdx.all (fun x => t.rd F.LAN_LANE_STATUS_PRECODE_RX (p.val + x.2) == precode (s.rd F.LAN_PORT_CFG_PRECODE p.val) (x.1.precodeRx && !chip)) = true ∧ t.tsu = s.tsu ∧ t.qsg = s.qsg)) ∧
  (∀ (s : State) (p : Fin 512) (markers : Nat) (pcs0 : Fin 8) (skew deskew : Nat) (inverted : BitVec 8), s.inStage p.val 3 = true ∧ s.lan.since.get p.val 0 ≤ s.now ∧ s.bitLock p.val = true ∧ s.rd F.LAN_LOCK_CFG_LOCK_GOOD (p.val / 32) ≤ markers ∧ skew ≤ 80 → (s.lanesOf p.val).all (fun n => s.on F.LAN_LANE_CTRL_POL_AUTO n || (bit inverted.toNat (n - p.val) == s.on F.LAN_LANE_CTRL_RX_INVERT n)) = true → 
    Completes (.blockLock p ⟨markers, pcs0⟩ skew deskew inverted) s (fun t => t.portState p.val = 4 ∧ t.rd F.LAN_PORT_STATUS_PCS0_LANE p.val = pcs0.val ∧
    t.rd F.TSU_VAR_DESKEW_VALUE p.val = deskew % 2 ^ F.TSU_VAR_DESKEW_VALUE.width ∧ t.lan.stable.get p.val 0 = s.now ∧
    (s.lanesOf p.val).all (fun n => t.on F.LAN_LANE_STATUS_BLOCK_LOCK n && t.on F.LAN_LANE_STATUS_BIT_LOCK n) = true ∧
    (s.lanesOf p.val).all (fun n => t.on F.LAN_LANE_STATUS_RX_INVERTED n == bit inverted.toNat (n - p.val)) = true ∧ t.tsu = s.tsu ∧ t.qsg = s.qsg)) ∧
  (∀ (s : State) (p : Fin 512) (markers : Nat) (pcs0 : Fin 8) (skew deskew : Nat) (inverted : BitVec 8), s.inStage p.val 3 = true ∧ s.lan.since.get p.val 0 ≤ s.now ∧ s.bitLock p.val = true ∧ s.rd F.LAN_LOCK_CFG_LOCK_GOOD (p.val / 32) ≤ markers ∧ 80 < skew → (s.lanesOf p.val).all (fun n => s.on F.LAN_LANE_CTRL_POL_AUTO n || (bit inverted.toNat (n - p.val) == s.on F.LAN_LANE_CTRL_RX_INVERT n)) = true → 
    Completes (.blockLock p ⟨markers, pcs0⟩ skew deskew inverted) s (fun t => t.cntTick.get (cntKey 14 3 0) 0 = s.cntTick.get (cntKey 14 3 0) 0 + 1 ∧ t = { s with cntTick := t.cntTick })) ∧
  (∀ (s : State) (p : Fin 512) (markers : Nat) (pcs0 : Fin 8) (skew deskew : Nat) (inverted : BitVec 8), s.inStage p.val 3 = false ∨ s.bitLock p.val = false ∨ markers < s.rd F.LAN_LOCK_CFG_LOCK_GOOD (p.val / 32) → 
    Completes (.blockLock p ⟨markers, pcs0⟩ skew deskew inverted) s (fun t => t = s)) ∧
  (∀ (s : State) (p : Fin 512) (n : Nat), s.live = true ∧ s.stageLimit p.val (s.portState p.val) = some n ∧ s.lan.since.get p.val 0 + n ≤ s.now → 
    Completes (.stageTimeout p) s (fun t => t.portState p.val = 1 ∧ t.lan.since.get p.val 0 = s.now ∧ t.on F.LAN_GRP_INT_STATUS_BRINGUP_FAIL (p.val / 32) = true ∧
    t.cntTick.get (cntKey 14 2 (s.portState p.val)) 0 = s.cntTick.get (cntKey 14 2 (s.portState p.val)) 0 + 1 ∧
    (s.lanesOf p.val).all (fun n => t.lan.snap.get n 0 == 0) = true ∧ t.qsg = s.qsg)) ∧
  (∀ (s : State) (p : Fin 512), s.live = true ∧ s.portState p.val = 4 → 
    Completes (.exchangeBreak p) s (fun t => t = { s with lan := { s.lan with stable := s.lan.stable.put p.val s.now 0 } })) ∧
  (∀ (s : State) (p : Fin 512), s.inStage p.val 4 = true ∧ s.lan.stable.get p.val 0 + 800 * s.rd F.LAN_TIMER1_STABLE_US (p.val / 32) ≤ s.now → 
    Completes (.linkUp p) s (fun t => t.portState p.val = 5 ∧ t.on F.LAN_GRP_INT_STATUS_LINK_UP (p.val / 32) = true ∧ t.qsg = { s.qsg with flap := s.qsg.flap.erase p.val, upPorts := s.qsg.upPorts ++ [p.val] } ∧
    t.on F.LAN_PORT_STATUS_QUICK p.val = (s.lan.quick.get p.val 0 != 0) ∧ t.cntTick.get (cntKey 14 4 0) 0 = s.cntTick.get (cntKey 14 4 0) 0 + 1 ∧ t.tsu = s.tsu))

/-- What a port's receiver shows is judged by the causes 1 to 4. A port that leaves ACTIVE shows the lowest cause and sets
LINK_DOWN, and a lower cause in the same tick takes its place; with QUICK_EN it enters LOCK in the next tick, without it DETECT
at once. A quick relock past its limit restarts at DETECT. FORCE_RETRAIN restarts a started port and ignores another. A group
that loses its clock takes its ACTIVE ports out with cause 7, with REF_LOST and a DEGRADED fault; 1 ms after its PLL is locked
again its started ports restart. It also rests on the model's own readings of log 45. -/
def Obligations.LinksGoDownAndRelock : Prop :=
  (∀ (s : State) (p : Fin 512) (c bad fault : Nat) (lost hi : Bool), s.live = true ∧ s.portState p.val = 5 ∧ s.downCause p.val bad lost fault hi = some c ∧ s.on F.LAN_PORT_CTRL_QUICK_EN p.val = false → 
    Completes (.linkDown p ⟨bad, lost, fault, hi⟩) s (fun t => t.portState p.val = 1 ∧ t.rd F.LAN_PORT_STATUS_LAST_DOWN p.val = c ∧ t.on F.LAN_GRP_INT_STATUS_LINK_DOWN (p.val / 32) = true ∧
    t.lan.since.get p.val 0 = s.now ∧ t.cntTick.get (cntKey 14 4 c) 0 = s.cntTick.get (cntKey 14 4 c) 0 + 1 ∧ t.tim = s.tim)) ∧
  (∀ (s : State) (p : Fin 512) (c bad fault : Nat) (lost hi : Bool), s.live = true ∧ s.portState p.val = 5 ∧ s.downCause p.val bad lost fault hi = some c ∧ s.on F.LAN_PORT_CTRL_QUICK_EN p.val = true → 
    Completes (.linkDown p ⟨bad, lost, fault, hi⟩) s (fun t => t.portState p.val = 3 ∧ t.rd F.LAN_PORT_STATUS_LAST_DOWN p.val = c ∧ t.lan.since.get p.val 0 = s.now + 1 ∧ t.lan.quick.get p.val 0 = s.now + 1 ∧
    t.on F.LAN_GRP_INT_STATUS_LINK_DOWN (p.val / 32) = true ∧ t.cntTick.get (cntKey 14 4 c) 0 = s.cntTick.get (cntKey 14 4 c) 0 + 1)) ∧
  (∀ (s : State) (p : Fin 512) (c bad fault : Nat) (lost hi : Bool), s.live = true ∧ s.portState p.val ≠ 5 ∧ s.downCause p.val bad lost fault hi = some c → 
    Completes (.linkDown p ⟨bad, lost, fault, hi⟩) s (fun t => t.rd F.LAN_PORT_STATUS_LAST_DOWN p.val = (if s.lan.downAt.get p.val 0 = s.now + 1 ∧ c < s.rd F.LAN_PORT_STATUS_LAST_DOWN p.val then c else s.rd F.LAN_PORT_STATUS_LAST_DOWN p.val) ∧
    RegsBut s t [(F.LAN_PORT_STATUS_LAST_DOWN, p.val)] ∧ t = { s with regs := t.regs })) ∧
  (∀ (s : State) (p : Fin 512) (bad fault : Nat) (lost hi : Bool), s.downCause p.val bad lost fault hi = none → 
    Completes (.linkDown p ⟨bad, lost, fault, hi⟩) s (fun t => t = s)) ∧
  (∀ (s : State) (p : Fin 512), s.live = true ∧ s.lan.quick.get p.val 0 ≠ 0 ∧ s.lan.quick.get p.val 0 - 1 + 800 * s.rd F.LAN_TIMER1_QUICK_US (p.val / 32) ≤ s.now → 
    Completes (.quickTimeout p) s (fun t => t.portState p.val = 1 ∧ t.lan.quick.get p.val 0 = 0 ∧ t.lan.since.get p.val 0 = s.now ∧ t.qsg = s.qsg)) ∧
  (∀ (s : State) (seat : Fin 4) (p : Fin 512), s.Free (F.LAN_PORT_CTRL_START.addr p.val) → s.ownsPort seat.val p.val = true ∧ s.on F.LAN_PORT_CTRL_START p.val = true → 
    Completes (.forceRetrain seat p) s (fun t => t.resp = some ⟨.ok, []⟩ ∧ t.portState p.val = 1 ∧ t.lan.since.get p.val 0 = s.now ∧
    (s.portState p.val = 5 → t.rd F.LAN_PORT_STATUS_LAST_DOWN p.val = 1) ∧ t.on F.LAN_PORT_CTRL_START p.val = true)) ∧
  (∀ (s : State) (seat : Fin 4) (p : Fin 512), s.Free (F.LAN_PORT_CTRL_START.addr p.val) → s.ownsPort seat.val p.val = true ∧ s.on F.LAN_PORT_CTRL_START p.val = false → 
    Completes (.forceRetrain seat p) s (fun t => t.resp = some ⟨.ok, []⟩ ∧ t.lan = s.lan ∧ RegsBut s t digestFields)) ∧
  (∀ (s : State) (g : Fin 16) (clock : Bool), s.live = true → 
    Completes (.groupRefLoss g clock) s (fun t => t.on F.LAN_GRP_STATUS_PLL_LOCK g.val = false ∧ (clock = true → t.on F.LAN_GRP_STATUS_REF_OK g.val = false) ∧ t.on F.LAN_GRP_INT_STATUS_REF_LOST g.val = true ∧
    t.flt.held.take (s.flt.held.length + 1) = s.flt.held ++ [⟨37, 1, 1, g.val, 0⟩] ∧ t.lan.refWait.contains g.val = true ∧ t.lan.pllSince.get g.val 0 = 0 ∧
    (List.range 32).all (fun i => s.portState (32 * g.val + i) != 5 || (t.portState (32 * g.val + i) == 1 && t.rd F.LAN_PORT_STATUS_LAST_DOWN (32 * g.val + i) == 7)) = true)) ∧
  (∀ (s : State) (g : Fin 16), s.pins.porst = false ∧ s.pins.tripped = false → 
    Completes (.groupPllLock g) s (fun t => t.groupOk g.val = true ∧ t.lan.pllSince.get g.val 0 = s.now + 1 ∧ RegsBut s t [(F.LAN_GRP_STATUS_REF_OK, g.val), (F.LAN_GRP_STATUS_PLL_LOCK, g.val)])) ∧
  (∀ (s : State) (g : Fin 16), s.live = true ∧ s.groupOk g.val = true ∧ s.lan.pllSince.get g.val 0 ≠ 0 ∧ s.lan.pllSince.get g.val 0 - 1 + 800000 ≤ s.now → 
    Completes (.groupRefRestore g) s (fun t => (List.range 32).all (fun i => !s.on F.LAN_PORT_CTRL_START (32 * g.val + i) || t.portState (32 * g.val + i) == 1) = true ∧
    (List.range 32).all (fun i => s.on F.LAN_PORT_CTRL_START (32 * g.val + i) || t.portState (32 * g.val + i) == s.portState (32 * g.val + i)) = true ∧
    t.lan.pllSince.get g.val 0 = 0 ∧ t.lan.refWait.contains g.val = false ∧ t.qsg = s.qsg))

/-- A measurement shows the figure of merit of its window, from LOCK on tells bit lock by FOM_MIN, and a good one on an ACTIVE port
ends the run of low ones. The ROLLBACK_N-th low one in a row on an ACTIVE port loads the snapshot, with a count and the group's
ROLLBACK. SNAPSHOT takes the receive coefficients and ROLLBACK loads them back, if there are any. An ACTIVE port idle for
IDLE_US announces its rest, rests 800 ticks later, and after work comes starts its first frame 2,400 ticks later. A resting
receiver sets RX_EI; its port stays ACTIVE when lock returns and leaves with cause 6 when it does not. It also rests on the
model's own readings of log 45. -/
def Obligations.LanesMeasureSnapshotAndRest : Prop :=
  (∀ (s : State) (n : Fin 512) (p : Nat) (w : Window), s.live = true ∧ s.now % 800000 = 0 ∧ s.ran.contains (1024 + n.val) = false ∧ (s.on F.LAN_LANE_STATUS_SIGNAL n.val = true ∨ s.portState p = 3) → s.lanePort n.val = some p ∧ s.on F.LAN_PORT_STATUS_RX_EI p = false ∧ s.portState p ≠ 5 → 
    Completes (.fomMeasure n w) s (fun t => t.rd F.LAN_LANE_FOM_VALUE n.val = windowFom w ∧ t.rd F.LAN_PORT_STATUS_PPM p = w.ppm.toNat ∧ t.on F.LAN_LANE_STATUS_SIGNAL n.val = true ∧
    t.lan = s.lan ∧ t.cntTick.get (cntKey 14 12 p) 0 = s.cntTick.get (cntKey 14 12 p) 0 + w.corrected ∧ t.ran = (1024 + n.val) :: s.ran ∧
    t.on F.LAN_LANE_STATUS_BIT_LOCK n.val = (if 3 ≤ s.portState p ∧ s.portState p ≤ 5 then decide (s.rd F.LAN_FOM_CFG_FOM_MIN (n.val / 32) ≤ windowFom w) else s.on F.LAN_LANE_STATUS_BIT_LOCK n.val) ∧
    RegsBut s t [(F.LAN_LANE_FOM_VALUE, n.val), (F.LAN_PORT_STATUS_PPM, p), (F.LAN_LANE_STATUS_SIGNAL, n.val), (F.LAN_LANE_STATUS_BIT_LOCK, n.val)])) ∧
  (∀ (s : State) (n : Fin 512) (p : Nat) (w : Window) (take : Bool), s.live = true ∧ s.now % 800000 = 0 ∧ s.ran.contains (1024 + n.val) = false ∧ s.on F.LAN_LANE_STATUS_SIGNAL n.val = true → s.lanePort n.val = some p ∧ s.on F.LAN_PORT_STATUS_RX_EI p = false ∧ s.portState p = 5 ∧ s.rd F.LAN_FOM_CFG_FOM_MIN (n.val / 32) ≤ windowFom w → take = decide (s.rd F.LAN_FOM_CFG_FOM_MIN (n.val / 32) + s.rd F.LAN_FOM_CFG_SNAP_MARGIN (n.val / 32) ≤ windowFom w ∧ s.lan.snapSec.get n.val 0 ≠ s.now / 800000000 + 1) → 
    Completes (.fomMeasure n w) s (fun t => t.rd F.LAN_LANE_FOM_VALUE n.val = windowFom w ∧ t.on F.LAN_LANE_STATUS_FOM_LOW n.val = false ∧ t.lan.low.get n.val 0 = 0 ∧
    t.lan.rolled = s.lan.rolled.filter (fun x => x != n.val) ∧ t.lan.coef.get n.val 0 = (if s.on F.LAN_LANE_CTRL_ADAPT_EN n.val then w.rx else s.lan.coef.get n.val 0) ∧
    t.lan.snap.get n.val 0 = (if take then t.lan.coef.get n.val 0 + 1 else s.lan.snap.get n.val 0) ∧ (take = true → t.lan.snapTick.get n.val 0 = s.now) ∧ t.portState p = 5)) ∧
  (∀ (s : State) (n : Fin 512) (p : Nat) (w : Window), s.live = true ∧ s.now % 800000 = 0 ∧ s.ran.contains (1024 + n.val) = false ∧ s.on F.LAN_LANE_STATUS_SIGNAL n.val = true → s.lanePort n.val = some p ∧ s.on F.LAN_PORT_STATUS_RX_EI p = false ∧ s.portState p = 5 ∧ s.lan.snap.get n.val 0 ≠ 0 → windowFom w < s.rd F.LAN_FOM_CFG_FOM_MIN (n.val / 32) ∧ s.rd F.LAN_FOM_CFG_ROLLBACK_N (n.val / 32) ≤ s.lan.low.get n.val 0 + 1 ∧ s.lan.rolled.contains n.val = false → 
    Completes (.fomMeasure n w) s (fun t => t.lan.coef.get n.val 0 = s.lan.snap.get n.val 0 - 1 ∧ t.lan.rolled = s.lan.rolled ++ [n.val] ∧ t.lan.low.get n.val 0 = 0 ∧
    t.on F.LAN_GRP_INT_STATUS_ROLLBACK (n.val / 32) = true ∧ t.cntTick.get (cntKey 14 6 0) 0 = s.cntTick.get (cntKey 14 6 0) 0 + 1 ∧ t.portState p = 5)) ∧
  (∀ (s : State) (seat : Fin 4) (n : Fin 512), s.Free (F.LAN_LANE_CTRL_SNAPSHOT.addr n.val) → s.ownsLane seat.val n.val = true → 
    Completes (.snapshotWrite seat n) s (fun t => t.resp = some ⟨.ok, []⟩ ∧ t.lan.snap.get n.val 0 = s.lan.coef.get n.val 0 + 1 ∧ t.lan.snapTick.get n.val 0 = s.now ∧
    t.rd F.LAN_LANE_SNAP_SNAP_FOM n.val = s.rd F.LAN_LANE_FOM_VALUE n.val ∧ t.lan.coef = s.lan.coef ∧
    RegsBut s t ((F.LAN_LANE_SNAP_SNAP_FOM, n.val) :: (F.LAN_LANE_SNAP_SNAP_AGE_S, n.val) :: digestFields))) ∧
  (∀ (s : State) (seat : Fin 4) (n : Fin 512), s.Free (F.LAN_LANE_CTRL_SNAPSHOT.addr n.val) → s.ownsLane seat.val n.val = true → 
    Completes (.rollbackWrite seat n) s (fun t => t.resp = some ⟨.ok, []⟩ ∧ t.lan = { s.lan with coef := if s.lan.snap.get n.val 0 = 0 then s.lan.coef else s.lan.coef.put n.val (s.lan.snap.get n.val 0 - 1) 0 } ∧ RegsBut s t digestFields)) ∧
  (∀ (s : State) (p : Fin 512), s.live = true ∧ s.portState p.val = 5 ∧ s.lan.ei.get p.val 0 = 0 ∧ s.on F.LAN_PORT_CTRL_EI_EN p.val = true → s.portWants p.val = false ∧ s.qsg.txs.all (fun x => x.port != p.val) = true ∧ s.lan.used.get p.val 0 + 800 * s.rd F.LAN_PORT_EI_IDLE_US p.val ≤ s.now → 
    Completes (.eiEntry p) s (fun t => t.lan = { s.lan with ei := s.lan.ei.put p.val (s.now + 1) 0 } ∧ t.cntTick.get (cntKey 14 7 0) 0 = s.cntTick.get (cntKey 14 7 0) 0 + 1 ∧
    t = { s with lan := t.lan, cntTick := t.cntTick })) ∧
  (∀ (s : State) (p : Fin 512), s.live = true ∧ s.portState p.val = 5 ∧ s.lan.ei.get p.val 0 ≠ 0 ∧ s.lan.ei.get p.val 0 - 1 + 800 ≤ s.now → 
    Completes (.eiEntry p) s (fun t => t.on F.LAN_PORT_STATUS_TX_EI p.val = true ∧ t.portState p.val = 5 ∧ RegsBut s t [(F.LAN_PORT_STATUS_TX_EI, p.val)] ∧ t = { s with regs := t.regs })) ∧
  (∀ (s : State) (p : Fin 512) (var : Nat), s.live = true ∧ s.resting p.val = true ∧ (s.portCalled p.val = true ∨ s.portEligible p.val var = true) → 
    Completes (.eiExit ⟨p, var⟩) s (fun t => t.lan.wake.get p.val 0 = s.now + 2400 ∧ t.lan.ei.get p.val 0 = 0 ∧ t.on F.LAN_PORT_STATUS_TX_EI p.val = false ∧
    t.cntTick.get (cntKey 14 8 0) 0 = s.cntTick.get (cntKey 14 8 0) 0 + 1 ∧ t.qsg = s.qsg)) ∧
  (∀ (s : State) (p : Fin 512), s.live = true ∧ s.portState p.val = 5 → 
    Completes (.rxEi p) s (fun t => t.on F.LAN_PORT_STATUS_RX_EI p.val = true ∧ t.portState p.val = 5 ∧ (s.lanesOf p.val).all (fun n => !t.on F.LAN_LANE_STATUS_SIGNAL n) = true ∧
    t = { s with regs := t.regs })) ∧
  (∀ (s : State) (p : Fin 512) (foms : List (Fin 1024)) (deskew : Nat), s.live = true ∧ s.portState p.val = 5 ∧ s.on F.LAN_PORT_STATUS_RX_EI p.val = true → 
    Completes (.rxSignalReturn p true foms deskew) s (fun t => t.on F.LAN_PORT_STATUS_RX_EI p.val = false ∧ t.portState p.val = 5 ∧ t.rd F.TSU_VAR_DESKEW_VALUE p.val = deskew % 2 ^ F.TSU_VAR_DESKEW_VALUE.width ∧
    (s.lanesOf p.val).all (fun n => t.on F.LAN_LANE_STATUS_SIGNAL n) = true ∧ t.qsg = s.qsg ∧
    ((s.lanesOf p.val).zip foms).all (fun x => t.rd F.LAN_LANE_FOM_VALUE x.1 == x.2.val && t.lan.coef.get x.1 0 ==
      if x.2.val < s.rd F.LAN_FOM_CFG_FOM_MIN (x.1 / 32) ∧ s.lan.snap.get x.1 0 ≠ 0 then s.lan.snap.get x.1 0 - 1 else s.lan.coef.get x.1 0) = true)) ∧
  (∀ (s : State) (p : Fin 512) (foms : List (Fin 1024)) (deskew : Nat), s.live = true ∧ s.portState p.val = 5 ∧ s.on F.LAN_PORT_STATUS_RX_EI p.val = true → 
    Completes (.rxSignalReturn p false foms deskew) s (fun t => t.portState p.val = 1 ∧ t.rd F.LAN_PORT_STATUS_LAST_DOWN p.val = 6 ∧ t.on F.LAN_GRP_INT_STATUS_LINK_DOWN (p.val / 32) = true))


/-! ### The management port and the Check Engines -/

/-- The management port is up with the speed and duplex that its PHY, or its configuration, gives; half duplex at 1,000 Mb/s keeps
it down. A lost link empties its queues, and what the PHY reports of a port that is down changes nothing else. A collision
within 512 bit times keeps the frame for another try after a back-off drawn below 2^min(n, 10) slot times; the 16th and a late
one drop it. MDIO_GO starts one operation, and its end clears BUSY with the reply of a read, unless a seat wrote the data in the
same tick. It also rests on the model's own readings of log 46. -/
def Obligations.ManagementPortLinksAndBacksOff : Prop :=
  (∀ (s : State) (speed : Fin 3) (duplex : Bool) (sp du : Nat), s.live = true ∧ s.on F.MAC_MGMT_CFG_EN = true ∧ ¬ (sp = 2 ∧ du = 0) → sp = (if s.on F.MAC_MGMT_CFG_AUTO then speed.val else s.rd F.MAC_MGMT_CFG_SPEED) ∧ du = (if s.on F.MAC_MGMT_CFG_AUTO then b2n duplex else s.rd F.MAC_MGMT_CFG_DUPLEX) → 
    Completes (.mgmtLinkChange true speed duplex) s (fun t => t.on F.MAC_MGMT_STATUS_LINK = true ∧ t.rd F.MAC_MGMT_STATUS_SPEED = sp % 4 ∧ t.rd F.MAC_MGMT_STATUS_DUPLEX = du % 2 ∧
    t.on F.MAC_INT_STATUS_MGMT_LINK = (s.on F.MAC_INT_STATUS_MGMT_LINK || !s.on F.MAC_MGMT_STATUS_LINK) ∧
    t.csma = { s.csma with phyLink := true, phySpeed := speed.val, phyFull := duplex } ∧ t = { s with regs := t.regs, hwSet := t.hwSet, csma := t.csma } ∧
    RegsBut s t [(F.MAC_MGMT_STATUS_LINK, 0), (F.MAC_MGMT_STATUS_SPEED, 0), (F.MAC_MGMT_STATUS_DUPLEX, 0), (F.MAC_INT_STATUS_MGMT_LINK, 0)])) ∧
  (∀ (s : State) (speed : Fin 3) (duplex : Bool) (sp du : Nat), s.live = true ∧ s.on F.MAC_MGMT_CFG_EN = true ∧ s.on F.MAC_MGMT_STATUS_LINK = false ∧ sp = 2 ∧ du = 0 → sp = (if s.on F.MAC_MGMT_CFG_AUTO then speed.val else s.rd F.MAC_MGMT_CFG_SPEED) ∧ du = (if s.on F.MAC_MGMT_CFG_AUTO then b2n duplex else s.rd F.MAC_MGMT_CFG_DUPLEX) → 
    Completes (.mgmtLinkChange true speed duplex) s (fun t => t.on F.MAC_MGMT_STATUS_LINK = false ∧ t.on F.MAC_INT_STATUS_MGMT_BAD_MODE = true ∧ t.qsg = s.qsg ∧
    t.csma = { s.csma with phyLink := true, phySpeed := speed.val, phyFull := duplex })) ∧
  (∀ (s : State) (speed : Fin 3) (duplex : Bool), s.live = true ∧ s.on F.MAC_MGMT_STATUS_LINK = true → 
    Completes (.mgmtLinkChange false speed duplex) s (fun t => t.on F.MAC_MGMT_STATUS_LINK = false ∧ t.on F.MAC_INT_STATUS_MGMT_LINK = true ∧ t.csma = { phyLink := false, phySpeed := speed.val, phyFull := duplex } ∧
    t.qsg.queue = s.qsg.queue.filter (fun c => c.egr != 517) ∧ t.tim = s.tim)) ∧
  (∀ (s : State) (link : Bool) (speed : Fin 3) (duplex : Bool), s.live = true ∧ s.on F.MAC_MGMT_STATUS_LINK = false ∧ (s.on F.MAC_MGMT_CFG_EN = false ∨ link = false) → 
    Completes (.mgmtLinkChange link speed duplex) s (fun t => t = { s with csma := { s.csma with phyLink := link, phySpeed := speed.val, phyFull := duplex } })) ∧
  (∀ (s : State) (x : Tx) (c : Copy) (r : Nat), s.live = true ∧ s.portUp 517 = true ∧ s.halfDuplex = true → s.qsg.txs.find? (fun t => t.port == 517) = some x ∧ x.copy = some c → s.now ≤ x.ball + 512 * s.bitTicks ∧ s.csma.collisions ≠ 15 → 
    Completes (.collision r) s (fun t => t.qsg = { s.qsg with txs := s.qsg.txs.erase x } ∧ t.cntTick.get (cntKey 15 5 0) 0 = s.cntTick.get (cntKey 15 5 0) 0 + 1 ∧
    t.csma = { s.csma with collisions := s.csma.collisions + 1, retry := some c, carrier := s.now + 32 * s.bitTicks, backoff := some (s.now + 32 * s.bitTicks + r % 2 ^ min (s.csma.collisions + 1) 10 * 512 * s.bitTicks) } ∧
    t = { s with qsg := t.qsg, csma := t.csma, cntTick := t.cntTick })) ∧
  (∀ (s : State) (x : Tx) (c : Copy) (r : Nat), s.live = true ∧ s.portUp 517 = true ∧ s.halfDuplex = true → s.qsg.txs.find? (fun t => t.port == 517) = some x ∧ x.copy = some c → s.now ≤ x.ball + 512 * s.bitTicks → s.csma.collisions = 15 → 
    let reason := if s.now ≤ x.ball + 512 * s.bitTicks then 56 else 57
    Completes (.collision r) s (fun t => t.qsg.txs = s.qsg.txs.erase x ∧ t.csma = { s.csma with collisions := 0, carrier := s.now + 32 * s.bitTicks } ∧
    t.cntTick.get (cntKey 2 reason c.egr) 0 = s.cntTick.get (cntKey 2 reason c.egr) 0 + 1 ∧ t.tim = s.tim)) ∧
  (∀ (s : State) (u : Nat), s.live = true ∧ s.csma.backoff = some u ∧ u ≤ s.now → 
    Completes (.backoffExpire) s (fun t => t = { s with csma := { s.csma with backoff := none } })) ∧
  (∀ (s : State) (phy reg : BitVec 5) (isWrite : Bool), s.Free (F.MAC_MDIO_CTRL_GO.addr 0) ∧ s.on F.MAC_MDIO_CTRL_BUSY = false → 
    Completes (.mdioGo 0 phy reg isWrite) s (fun t => t.resp = some ⟨.ok, []⟩ ∧ t.on F.MAC_MDIO_CTRL_BUSY = true ∧ t.rd F.MAC_MDIO_CTRL_PHY_ADDR = phy.toNat ∧ t.rd F.MAC_MDIO_CTRL_REG = reg.toNat ∧
    t.on F.MAC_MDIO_CTRL_OP = isWrite ∧ t.cntTick.get (cntKey 15 8 0) 0 = s.cntTick.get (cntKey 15 8 0) 0 + 1 ∧
    RegsBut s t ([(F.MAC_MDIO_CTRL_BUSY, 0), (F.MAC_MDIO_CTRL_PHY_ADDR, 0), (F.MAC_MDIO_CTRL_REG, 0), (F.MAC_MDIO_CTRL_OP, 0)] ++ digestFields))) ∧
  (∀ (s : State) (phy reg : BitVec 5) (isWrite : Bool), s.Free (F.MAC_MDIO_CTRL_GO.addr 0) ∧ s.on F.MAC_MDIO_CTRL_BUSY = true → 
    Completes (.mdioGo 0 phy reg isWrite) s (fun t => t = { s with resp := some ⟨.busy, []⟩ })) ∧
  (∀ (s : State) (data : Option (BitVec 16)), s.live = true ∧ s.on F.MAC_MDIO_CTRL_BUSY = true ∧ s.on F.MAC_MDIO_CTRL_OP = false → 
    Completes (.mdioDone data) s (fun t => t.on F.MAC_MDIO_CTRL_BUSY = false ∧ t.rd F.MAC_MDIO_DATA_VALUE = (if s.rwSet.contains (F.MAC_MDIO_DATA_VALUE.key 0) then s.rd F.MAC_MDIO_DATA_VALUE else (data.getD 0xFFFF).toNat) ∧
    (data.isNone = true → t.on F.MAC_INT_STATUS_MDIO_NOACK = true) ∧
    RegsBut s t ([(F.MAC_MDIO_CTRL_BUSY, 0), (F.MAC_MDIO_DATA_VALUE, 0)] ++ if data.isNone then [(F.MAC_INT_STATUS_MDIO_NOACK, 0)] else []) ∧
    t = { s with regs := t.regs, hwSet := t.hwSet })) ∧
  (∀ (s : State) (data : Option (BitVec 16)), s.live = true ∧ s.on F.MAC_MDIO_CTRL_BUSY = true ∧ s.on F.MAC_MDIO_CTRL_OP = true → 
    Completes (.mdioDone data) s (fun t => t.on F.MAC_MDIO_CTRL_BUSY = false ∧ RegsBut s t [(F.MAC_MDIO_CTRL_BUSY, 0)] ∧ t = { s with regs := t.regs }))

/-- START by the engine's seat, and by no other, begins a flow from the initial value of its algorithm, or from VALUE with RESUME. A
word of DATA feeds four bytes; the last ends the flow with its result. A flow with output takes a control-pool buffer or waits
for one, holds its bytes with the result behind them, or checks the result at their end; OUT gives its bytes and the read that
empties it frees the buffer, as ABORT does. The nine bytes "123456789" give the four check values of the table. It also rests on
the model's own readings of log 47. -/
def Obligations.CheckEnginesRunFlows : Prop :=
  (∀ (s : State) (seat : Fin 4) (e : Fin 16) (ctrl : BitVec 6), s.Free (F.CHK_CTRL_START.addr e.val) ∧ s.ownsEngine seat.val e.val = true ∧ s.on F.CHK_STATUS_ACTIVE e.val = false → (bits ctrl.toNat 3 2 = 0 ∨ bits ctrl.toNat 3 2 = 3) ∧ s.rd F.CHK_LEN_BYTES e.val ≠ 0 → 
    let alg := bits ctrl.toNat 1 0
    let v := if bit ctrl.toNat 5 = true then s.rd2 F.CHK_VALUE_LO_VALUE F.CHK_VALUE_HI_VALUE e.val % 2 ^ crcWidth alg else crcInit alg
    Completes (.chkStart seat e ctrl) s (fun t => t.resp = some ⟨.ok, []⟩ ∧ t.flow e.val = some ⟨e.val, v, [], [], none⟩ ∧ t.rd2 F.CHK_VALUE_LO_VALUE F.CHK_VALUE_HI_VALUE e.val = v ∧
    t.rd F.CHK_CTRL_ALG e.val = alg ∧ t.rd F.CHK_CTRL_MODE e.val = 0 ∧
    t.on F.CHK_STATUS_ACTIVE e.val = true ∧ t.on F.CHK_STATUS_DONE e.val = false ∧ t.rd F.CHK_STATUS_FED e.val = 0 ∧
    t.cntTick.get (cntKey 15 9 e.val) 0 = s.cntTick.get (cntKey 15 9 e.val) 0 + 1 ∧ (s.flow e.val = none → t.buf = s.buf) ∧
    (s.flow e.val = none → RegsBut s t (([F.CHK_CTRL_ALG, F.CHK_CTRL_MODE, F.CHK_CTRL_BYTE_ORDER, F.CHK_CTRL_RESUME, F.CHK_VALUE_LO_VALUE, F.CHK_VALUE_HI_VALUE,
      F.CHK_STATUS_ACTIVE, F.CHK_STATUS_DONE, F.CHK_STATUS_CHECK_OK, F.CHK_STATUS_CHECK_FAIL, F.CHK_STATUS_FED].map (fun f => (f, e.val))) ++ digestFields)))) ∧
  (∀ (s : State) (seat : Fin 4) (e : Fin 16) (ctrl : BitVec 6) (x : CtlBuf), s.Free (F.CHK_CTRL_START.addr e.val) ∧ s.ownsEngine seat.val e.val = true ∧ s.on F.CHK_STATUS_ACTIVE e.val = false ∧ s.flow e.val = none → (bits ctrl.toNat 3 2 = 1 ∧ s.rd F.CHK_LEN_BYTES e.val ≠ 0) ∨ (bits ctrl.toNat 3 2 = 2 ∧ crcBytes (bits ctrl.toNat 1 0) < s.rd F.CHK_LEN_BYTES e.val) → (s.ctlAlloc (s.rd F.CHK_LEN_BYTES e.val + 8) (16 + e.val)).2 = some x → 
    let alg := bits ctrl.toNat 1 0
    let v := if bit ctrl.toNat 5 = true then s.rd2 F.CHK_VALUE_LO_VALUE F.CHK_VALUE_HI_VALUE e.val % 2 ^ crcWidth alg else crcInit alg
    Completes (.chkStart seat e ctrl) s (fun t => t.resp = some ⟨.ok, []⟩ ∧ t.flow e.val = some ⟨e.val, v, [], [], some x⟩ ∧ t.rd2 F.CHK_VALUE_LO_VALUE F.CHK_VALUE_HI_VALUE e.val = v ∧
    t.rd F.CHK_CTRL_ALG e.val = alg ∧ t.rd F.CHK_CTRL_MODE e.val = bits ctrl.toNat 3 2 ∧ t.on F.CHK_STATUS_ACTIVE e.val = true ∧
    t.on F.CHK_STATUS_WAIT_BUF e.val = false ∧ t.buf.ctl = s.buf.ctl ++ [x])) ∧
  (∀ (s : State) (seat : Fin 4) (e : Fin 16) (ctrl : BitVec 6), s.Free (F.CHK_CTRL_START.addr e.val) ∧ s.ownsEngine seat.val e.val = true ∧ s.on F.CHK_STATUS_ACTIVE e.val = false ∧ s.flow e.val = none → (bits ctrl.toNat 3 2 = 1 ∧ s.rd F.CHK_LEN_BYTES e.val ≠ 0) ∨ (bits ctrl.toNat 3 2 = 2 ∧ crcBytes (bits ctrl.toNat 1 0) < s.rd F.CHK_LEN_BYTES e.val) → (s.ctlAlloc (s.rd F.CHK_LEN_BYTES e.val + 8) (16 + e.val)).2 = none → 
    Completes (.chkStart seat e ctrl) s (fun t => t.resp = some ⟨.ok, []⟩ ∧ (t.flow e.val).map (fun f => (f.input, f.out, f.buf)) = some ([], [], none) ∧
    t.on F.CHK_STATUS_ACTIVE e.val = true ∧ t.on F.CHK_STATUS_WAIT_BUF e.val = true ∧ t.buf.ctl = s.buf.ctl)) ∧
  (∀ (s : State) (seat : Fin 4) (e : Fin 16) (ctrl : BitVec 6), s.Free (F.CHK_CTRL_START.addr e.val) ∧ (s.on F.CHK_OWNER_DRAFEN e.val = true ∨ s.rd F.CHK_OWNER_SEAT e.val ≠ seat.val) → 
    Completes (.chkStart seat e ctrl) s (fun t => t = { s with resp := some ⟨.notOwner, []⟩ })) ∧
  (∀ (s : State) (e : Fin 16) (f : Flow) (x : CtlBuf), s.live = true ∧ s.on F.CHK_STATUS_WAIT_BUF e.val = true ∧ s.flow e.val = some f ∧ f.engine = e.val → (s.ctlAlloc (s.rd F.CHK_LEN_BYTES e.val + 8) (16 + e.val)).2 = some x → 
    Completes (.chkBufGranted e) s (fun t => t.on F.CHK_STATUS_WAIT_BUF e.val = false ∧ t.flow e.val = some { f with buf := some x } ∧
    t.buf = { s.buf with ctl := s.buf.ctl ++ [x] } ∧ RegsBut s t [(F.CHK_STATUS_WAIT_BUF, e.val), (F.BUF_POOL_FREE_FREE, x.pool)])) ∧
  (∀ (s : State) (e : Fin 16) (f : Flow), s.live = true ∧ s.on F.CHK_STATUS_WAIT_BUF e.val = true ∧ s.flow e.val = some f → (s.ctlAlloc (s.rd F.CHK_LEN_BYTES e.val + 8) (16 + e.val)).2 = none → 
    Completes (.chkBufGranted e) s (fun t => t.on F.CHK_STATUS_WAIT_BUF e.val = true ∧ t.chk = s.chk ∧ t.buf = s.buf ∧ t.on F.BUF_INT_STATUS_POOL_FAIL = true ∧
    t.cntTick.get (cntKey 7 6 0) 0 = s.cntTick.get (cntKey 7 6 0) 0 + 1)) ∧
  (∀ (s : State) (seat : Fin 4) (e : Fin 16) (word : Word) (f : Flow), s.Free (F.CHK_DATA_WORD.addr e.val) ∧ s.ownsEngine seat.val e.val = true ∧ s.on F.CHK_STATUS_ACTIVE e.val = true ∧ s.on F.CHK_STATUS_WAIT_BUF e.val = false → s.flow e.val = some f ∧ f.engine = e.val ∧ f.input.length + 4 < s.rd F.CHK_LEN_BYTES e.val → 
    let v := crcStep (s.rd F.CHK_CTRL_ALG e.val) (s.rd2 F.CHK_VALUE_LO_VALUE F.CHK_VALUE_HI_VALUE e.val) (be 4 word.toNat)
    Completes (.chkData seat e word) s (fun t => t.resp = some ⟨.ok, []⟩ ∧ t.rd2 F.CHK_VALUE_LO_VALUE F.CHK_VALUE_HI_VALUE e.val = v % 2 ^ 64 ∧ t.rd F.CHK_STATUS_FED e.val = f.input.length + 4 ∧
    t.flow e.val = some { f with input := f.input ++ be 4 word.toNat } ∧
    RegsBut s t (([F.CHK_VALUE_LO_VALUE, F.CHK_VALUE_HI_VALUE, F.CHK_STATUS_FED, F.CHK_DATA_WORD].map (fun f => (f, e.val))) ++ digestFields))) ∧
  (∀ (s : State) (seat : Fin 4) (e : Fin 16) (word : Word) (f : Flow), s.Free (F.CHK_DATA_WORD.addr e.val) ∧ s.ownsEngine seat.val e.val = true ∧ s.on F.CHK_STATUS_ACTIVE e.val = true ∧ s.on F.CHK_STATUS_WAIT_BUF e.val = false → s.flow e.val = some f ∧ f.engine = e.val ∧ f.input.length < s.rd F.CHK_LEN_BYTES e.val ∧ s.rd F.CHK_LEN_BYTES e.val ≤ f.input.length + 4 ∧
    s.rd F.CHK_CTRL_MODE e.val = 0 → 
    let alg := s.rd F.CHK_CTRL_ALG e.val
    let v := crcStep alg (s.rd2 F.CHK_VALUE_LO_VALUE F.CHK_VALUE_HI_VALUE e.val) ((be 4 word.toNat).take (s.rd F.CHK_LEN_BYTES e.val - f.input.length))
    Completes (.chkData seat e word) s (fun t => t.resp = some ⟨.ok, []⟩ ∧ t.rd2 F.CHK_VALUE_LO_VALUE F.CHK_VALUE_HI_VALUE e.val = v % 2 ^ 64 ∧
    t.rd2 F.CHK_RESULT_LO_VALUE F.CHK_RESULT_HI_VALUE e.val = crcFinal alg (v % 2 ^ 64) % 2 ^ 64 ∧ t.flow e.val = none ∧
    t.on F.CHK_STATUS_DONE e.val = true ∧ t.on F.CHK_STATUS_ACTIVE e.val = false ∧ bit (t.rd F.CHK_INT_STATUS_DONE) e.val = true)) ∧
  (∀ (s : State) (seat : Fin 4) (e : Fin 16) (word : Word) (f : Flow), s.Free (F.CHK_DATA_WORD.addr e.val) ∧ s.ownsEngine seat.val e.val = true ∧ s.on F.CHK_STATUS_ACTIVE e.val = true ∧ s.on F.CHK_STATUS_WAIT_BUF e.val = false → s.flow e.val = some f ∧ f.engine = e.val ∧ f.input.length < s.rd F.CHK_LEN_BYTES e.val ∧ s.rd F.CHK_LEN_BYTES e.val ≤ f.input.length + 4 ∧
    (s.rd F.CHK_CTRL_MODE e.val = 1 ∨ s.rd F.CHK_CTRL_MODE e.val = 3) → 
    let alg := s.rd F.CHK_CTRL_ALG e.val
    let b := (be 4 word.toNat).take (s.rd F.CHK_LEN_BYTES e.val - f.input.length)
    let v := crcFinal alg (crcStep alg (s.rd2 F.CHK_VALUE_LO_VALUE F.CHK_VALUE_HI_VALUE e.val) b % 2 ^ 64)
    let out := f.input ++ b ++ crcPlaced alg (s.rd F.CHK_CTRL_BYTE_ORDER e.val) v
    Completes (.chkData seat e word) s (fun t => t.resp = some ⟨.ok, []⟩ ∧ t.rd2 F.CHK_RESULT_LO_VALUE F.CHK_RESULT_HI_VALUE e.val = v % 2 ^ 64 ∧
    t.flow e.val = some { f with input := f.input ++ b, out := out } ∧ t.rd F.CHK_OUT_LEFT_BYTES e.val = (s.rd F.CHK_LEN_BYTES e.val + crcBytes alg) % 2 ^ F.CHK_OUT_LEFT_BYTES.width ∧
    t.on F.CHK_STATUS_DONE e.val = true ∧ t.on F.CHK_STATUS_ACTIVE e.val = false ∧ bit (t.rd F.CHK_INT_STATUS_DONE) e.val = true ∧ t.buf = s.buf)) ∧
  (∀ (s : State) (seat : Fin 4) (e : Fin 16) (word : Word) (f : Flow), s.Free (F.CHK_DATA_WORD.addr e.val) ∧ s.ownsEngine seat.val e.val = true ∧ s.on F.CHK_STATUS_ACTIVE e.val = true ∧ s.on F.CHK_STATUS_WAIT_BUF e.val = false → s.flow e.val = some f ∧ f.engine = e.val ∧ f.input.length < s.rd F.CHK_LEN_BYTES e.val ∧ s.rd F.CHK_LEN_BYTES e.val ≤ f.input.length + 4 ∧ s.rd F.CHK_CTRL_MODE e.val = 2 → 
    let alg := s.rd F.CHK_CTRL_ALG e.val
    let all := f.input ++ (be 4 word.toNat).take (s.rd F.CHK_LEN_BYTES e.val - f.input.length)
    let n := all.length - crcBytes alg
    let good := decide (crcPlaced alg (s.rd F.CHK_CTRL_BYTE_ORDER e.val) (crcFinal alg (crcStep alg f.start (all.take n))) = all.drop n)
    Completes (.chkData seat e word) s (fun t => t.resp = some ⟨.ok, []⟩ ∧ t.flow e.val = some { f with input := all, out := all.take n } ∧ (good = true → t.on F.CHK_STATUS_CHECK_OK e.val = true) ∧
    (good = false → t.on F.CHK_STATUS_CHECK_FAIL e.val = true ∧ bit (t.rd F.CHK_INT_STATUS_CHECK_FAIL) e.val = true) ∧
    t.cntTick.get (cntKey 15 10 0) 0 = s.cntTick.get (cntKey 15 10 0) 0 + b2n (!good) ∧ t.on F.CHK_STATUS_ACTIVE e.val = false ∧ t.on F.CHK_STATUS_DONE e.val = true)) ∧
  (∀ (s : State) (seat : Fin 4) (e : Fin 16) (f : Flow) (x : CtlBuf), s.Free (F.CHK_CTRL_ABORT.addr e.val) ∧ s.ownsEngine seat.val e.val = true ∧ s.flow e.val = some f ∧ f.buf = some x → s.buf.ctl.find? (fun b => b.pool == x.pool && b.place == x.place) = some x ∧ x.owner = 16 + e.val → 
    Completes (.chkAbort seat e) s (fun t => t.resp = some ⟨.ok, []⟩ ∧ t.on F.CHK_STATUS_ACTIVE e.val = false ∧ t.on F.CHK_STATUS_WAIT_BUF e.val = false ∧ t.flow e.val = none ∧
    t.buf = { s.buf with ctl := s.buf.ctl.erase x } ∧
    RegsBut s t ([(F.CHK_STATUS_ACTIVE, e.val), (F.CHK_STATUS_WAIT_BUF, e.val), (F.CHK_OUT_LEFT_BYTES, e.val), (F.BUF_POOL_FREE_FREE, x.pool)] ++ digestFields))) ∧
  (∀ (s : State) (seat : Fin 4) (e : Fin 16), s.Free (F.CHK_CTRL_ABORT.addr e.val) ∧ s.ownsEngine seat.val e.val = true ∧ (s.flow e.val).all (fun f => f.buf.isNone) = true → 
    Completes (.chkAbort seat e) s (fun t => t.resp = some ⟨.ok, []⟩ ∧ t.on F.CHK_STATUS_ACTIVE e.val = false ∧ t.on F.CHK_STATUS_WAIT_BUF e.val = false ∧ t.flow e.val = none ∧ t.buf = s.buf ∧
    RegsBut s t ([(F.CHK_STATUS_ACTIVE, e.val), (F.CHK_STATUS_WAIT_BUF, e.val), (F.CHK_OUT_LEFT_BYTES, e.val)] ++ digestFields))) ∧
  (∀ (s : State) (seat : Fin 4) (e : Fin 16) (f : Flow), s.live = true ∧ s.on F.CHK_STATUS_ACTIVE e.val = false ∧ s.flow e.val = some f ∧ f.engine = e.val ∧ 4 < f.out.length ∧ f.out.length ≤ 4104 → 
    Completes (.chkOutRead seat e) s (fun t => t.resp = some ⟨.ok, [beNat (f.out.take 4)]⟩ ∧ t.flow e.val = some { f with out := f.out.drop 4 } ∧ t.rd F.CHK_OUT_LEFT_BYTES e.val = f.out.length - 4 ∧
    t.buf = s.buf ∧ RegsBut s t [(F.CHK_OUT_LEFT_BYTES, e.val)])) ∧
  (∀ (s : State) (seat : Fin 4) (e : Fin 16) (f : Flow) (x : CtlBuf), s.live = true ∧ s.on F.CHK_STATUS_ACTIVE e.val = false ∧ s.flow e.val = some f ∧ f.buf = some x ∧ 0 < f.out.length ∧ f.out.length ≤ 4 → s.buf.ctl.find? (fun b => b.pool == x.pool && b.place == x.place) = some x ∧ x.owner = 16 + e.val → 
    Completes (.chkOutRead seat e) s (fun t => t.resp = some ⟨.ok, [beNat (f.out ++ zeros (4 - f.out.length))]⟩ ∧ t.flow e.val = none ∧ t.rd F.CHK_OUT_LEFT_BYTES e.val = 0 ∧
    t.buf = { s.buf with ctl := s.buf.ctl.erase x } ∧ RegsBut s t [(F.CHK_OUT_LEFT_BYTES, e.val), (F.BUF_POOL_FREE_FREE, x.pool)])) ∧
  (∀ (s : State) (seat : Fin 4) (e : Fin 16), s.live = true ∧ (s.on F.CHK_STATUS_ACTIVE e.val = true ∨ (s.flow e.val).all (fun f => f.out.isEmpty) = true) → 
    Completes (.chkOutRead seat e) s (fun t => t = { s with resp := some ⟨.ok, [0]⟩ })) ∧
  (
    [0, 1, 2, 3].map (fun a => crcFinal a (crcStep a (crcInit a) [0x31, 0x32, 0x33, 0x34, 0x35, 0x36, 0x37, 0x38, 0x39])) =
    [0xCBF43926, 0xE3069283, 0x6C40DF5F0B497347, 0x29B1])


/-! ### The Drafen command processor -/

/-- A microword that asks for no bus operation writes its ALU result to DST and goes to NEXT XOR the condition, which codes 2 to 6
take from the flags; a CALL pushes that address and goes to CALL_TARGET, a RETURN whose condition holds pops. The compare of
code 9 sets Z and N and writes no register; the carry of a code other than A + B is a free value. A stall changes nothing but
the cycle count. The commit point releases the effects entered so far. A bus operation that reads waits on the bus, and an
effect enters the journal. A reserved ALU code before the commit point restarts the routine once and fills LAST_FAULT if it is
empty. It also rests on the model's own readings of log 48. -/
def Obligations.MicrowordsComputeAndBranch : Prop :=
  (∀ (s : State) (k mw nw v : Nat) (r : Routine) (data : DWord), s.ready = true ∧ s.activeCore = some k ∧ k < s.drafen.cores.length ∧ s.drafen.bus = none ∧ s.drafen.routine = some r ∧ r.replay = none → (s.core k).micro.get (s.core k).pc 0 = mw ∧ (s.core k).nano.get (mwNano mw) 0 = nw → mwSeq mw = 0 ∧ mwCond mw ≤ 1 ∧ mwCommit mw = false ∧ nwBusOp nw = 0 ∧ nwFlagsEn nw = false ∧ nwLoopLd nw = false ∧ nwDstEn nw = true → nwAlu nw ≠ 9 ∧ nwAlu nw ≠ 63 ∧
    aluResult (nwAlu nw) ((s.core k).g.get (nwSrcA nw) 0) (if nwBImm nw = true then nwImm nw else (s.core k).g.get (nwSrcB nw) 0) = some v → 
    Completes (.microwordIssue false data false false) s (fun t => t = { s with drafen := { s.drafen with
      routine := some { r with cycles := r.cycles + 1 },
      cores := s.drafen.cores.set k { (s.core k) with g := (s.core k).g.put (nwDst nw) v 0, pc := (mwNext mw ^^^ mwCond mw) % 8192 } } })) ∧
  (∀ (s : State) (k mw nw : Nat) (r : Routine) (data : DWord), s.ready = true ∧ s.activeCore = some k ∧ k < s.drafen.cores.length ∧ s.drafen.bus = none ∧ s.drafen.routine = some r ∧ r.replay = none → (s.core k).micro.get (s.core k).pc 0 = mw ∧ (s.core k).nano.get (mwNano mw) 0 = nw → mwSeq mw = 0 ∧ mwCond mw = 0 ∧ mwCommit mw = false ∧ nwBusOp nw = 0 ∧ nwFlagsEn nw = true ∧ nwLoopLd nw = false ∧ nwAlu nw = 9 → 
    let x := (s.core k).g.get (nwSrcA nw) 0
    let y := if nwBImm nw = true then nwImm nw else (s.core k).g.get (nwSrcB nw) 0
    Completes (.microwordIssue false data false false) s (fun t => (t.core k).g = (s.core k).g ∧ (t.core k).z = ((x + 2 ^ 64 - y) % 2 ^ 64 == 0) ∧ (t.core k).n = bit ((x + 2 ^ 64 - y) % 2 ^ 64) 63 ∧
    (t.core k).pc = mwNext mw % 8192 ∧ t.drafen.released = s.drafen.released ∧ t = { s with drafen := t.drafen, freeCount := s.freeCount + 1 })) ∧
  (∀ (s : State) (k mw nw : Nat) (c : Bool) (r : Routine) (data : DWord), s.ready = true ∧ s.activeCore = some k ∧ k < s.drafen.cores.length ∧ s.drafen.bus = none ∧ s.drafen.routine = some r ∧ r.replay = none → (s.core k).micro.get (s.core k).pc 0 = mw ∧ (s.core k).nano.get (mwNano mw) 0 = nw → mwSeq mw = 0 ∧ mwCommit mw = false ∧ nwBusOp nw = 0 ∧ nwAlu nw = 63 ∧ nwLoopLd nw = false → (mwCond mw = 2 ∧ c = (s.core k).z) ∨ (mwCond mw = 3 ∧ c = !(s.core k).z) ∨ (mwCond mw = 4 ∧ c = (s.core k).c) ∨ (mwCond mw = 5 ∧ c = !(s.core k).c) ∨ (mwCond mw = 6 ∧ c = (s.core k).n) → 
    Completes (.microwordIssue false data false false) s (fun t => t = { s with drafen := { s.drafen with
      routine := some { r with cycles := r.cycles + 1 },
      cores := s.drafen.cores.set k { (s.core k) with pc := (mwNext mw ^^^ b2n c) % 8192 } } })) ∧
  (∀ (s : State) (k mw nw : Nat) (r : Routine) (data : DWord), s.ready = true ∧ s.activeCore = some k ∧ k < s.drafen.cores.length ∧ s.drafen.bus = none ∧ s.drafen.routine = some r ∧ r.replay = none → (s.core k).micro.get (s.core k).pc 0 = mw ∧ (s.core k).nano.get (mwNano mw) 0 = nw → mwCommit mw = false ∧ nwAlu nw = 63 ∧ nwLoopLd nw = false ∧ nwWait nw = true → nwBusOp nw = 1 ∨ nwBusOp nw = 3 ∨ nwBusOp nw = 5 ∨ nwBusOp nw = 12 → 
    Completes (.microwordIssue false data false false) s (fun t => t = { s with drafen := { s.drafen with
      routine := some { r with cycles := r.cycles + 1, busDone := false, busErr := none },
      bus := some (nwBusOp nw, (s.core k).g.get (nwBusAddr nw) 0, nwBusDst nw, true) } })) ∧
  (∀ (s : State) (k mw nw : Nat) (r : Routine) (data : DWord), s.ready = true ∧ s.activeCore = some k ∧ k < s.drafen.cores.length ∧ s.drafen.bus = none ∧ s.drafen.routine = some r ∧ r.replay = none ∧ r.past = false → (s.core k).micro.get (s.core k).pc 0 = mw ∧ (s.core k).nano.get (mwNano mw) 0 = nw ∧ r.effects.length < 256 → mwSeq mw = 0 ∧ mwCond mw = 0 ∧ mwCommit mw = false ∧ nwAlu nw = 63 ∧ nwLoopLd nw = false ∧ nwBusOp nw = 2 → 
    Completes (.microwordIssue false data false false) s (fun t => t = { s with drafen := { s.drafen with
      routine := some { r with cycles := r.cycles + 1, busDone := true, busErr := none,
                               effects := r.effects ++ [.regWrite ((s.core k).g.get (nwBusAddr nw) 0 % 2 ^ 32) ((s.core k).g.get (nwBusData nw) 0 % 2 ^ 32) (nwImm nw % 2 ^ 32)] },
      cores := s.drafen.cores.set k { (s.core k) with pc := mwNext mw % 8192 } } })) ∧
  (∀ (s : State) (k mw nw : Nat) (r : Routine) (data : DWord), s.ready = true ∧ s.activeCore = some k ∧ k < s.drafen.cores.length ∧ s.drafen.bus = none ∧ s.drafen.routine = some r ∧ r.replay = none → (s.core k).micro.get (s.core k).pc 0 = mw ∧ (s.core k).nano.get (mwNano mw) 0 = nw → mwSeq mw = 1 ∧ mwCond mw = 0 ∧ mwCommit mw = false ∧ nwBusOp nw = 0 ∧ nwAlu nw = 63 ∧ nwLoopLd nw = false ∧ (s.core k).stack.length < 8 → 
    Completes (.microwordIssue false data false false) s (fun t => t = { s with drafen := { s.drafen with
      routine := some { r with cycles := r.cycles + 1 },
      cores := s.drafen.cores.set k { (s.core k) with pc := nwCall nw, stack := mwNext mw :: (s.core k).stack } } })) ∧
  (∀ (s : State) (k mw nw top : Nat) (rest : List Nat) (r : Routine) (data : DWord), s.ready = true ∧ s.activeCore = some k ∧ k < s.drafen.cores.length ∧ s.drafen.bus = none ∧ s.drafen.routine = some r ∧ r.replay = none → (s.core k).micro.get (s.core k).pc 0 = mw ∧ (s.core k).nano.get (mwNano mw) 0 = nw → mwSeq mw = 2 ∧ mwCond mw = 1 ∧ mwCommit mw = false ∧ nwBusOp nw = 0 ∧ nwAlu nw = 63 ∧ nwLoopLd nw = false ∧ (s.core k).stack = top :: rest → 
    Completes (.microwordIssue false data false false) s (fun t => t = { s with drafen := { s.drafen with
      routine := some { r with cycles := r.cycles + 1 },
      cores := s.drafen.cores.set k { (s.core k) with pc := top % 8192, stack := rest } } })) ∧
  (∀ (s : State) (k op a dst : Nat) (r : Routine) (data : DWord) (idle : Bool), s.ready = true ∧ s.activeCore = some k ∧ s.drafen.bus = some (op, a, dst, true) ∧ s.drafen.routine = some r → 
    Completes (.microwordIssue false data false idle) s (fun t => t = { s with drafen := { s.drafen with routine := some { r with cycles := r.cycles + 1 } }, cntTick := t.cntTick } ∧
    t.cntTick.get (cntKey 16 14 0) 0 = s.cntTick.get (cntKey 16 14 0) 0 + 1)) ∧
  (∀ (s : State) (k mw nw : Nat) (r : Routine) (data : DWord), s.ready = true ∧ s.activeCore = some k ∧ k < s.drafen.cores.length ∧ s.drafen.bus = none ∧ s.drafen.routine = some r ∧ r.replay = none ∧ r.past = false → (s.core k).micro.get (s.core k).pc 0 = mw ∧ (s.core k).nano.get (mwNano mw) 0 = nw → mwSeq mw = 0 ∧ mwCond mw = 0 ∧ mwCommit mw = true ∧ nwBusOp nw = 0 ∧ nwAlu nw = 63 ∧ nwLoopLd nw = false → 
    Completes (.microwordIssue false data false false) s (fun t => t = { s with drafen := { s.drafen with
      routine := some { r with cycles := r.cycles + 1, past := true, received := r.effects.length },
      released := s.drafen.released ++ r.effects.map (fun e => (e, r.req.packet)),
      cores := s.drafen.cores.set k { (s.core k) with pc := mwNext mw } } })) ∧
  (∀ (s : State) (k mw nw : Nat) (r : Routine) (data : DWord), s.ready = true ∧ s.activeCore = some k ∧ k < s.drafen.cores.length ∧ s.drafen.bus = none ∧ s.drafen.routine = some r → r.past = false ∧ r.ucodeFaults = 0 → (s.core k).micro.get (s.core k).pc 0 = mw ∧ (s.core k).nano.get (mwNano mw) 0 = nw → 14 ≤ nwAlu nw ∧ nwAlu nw ≤ 62 → 
    Completes (.microwordIssue false data false false) s (fun t => (t.core k).pc = r.start ∧ (s.on F.CMD_LAST_FAULT_VALID = false → t.rd F.CMD_LAST_FAULT_ADDR = (s.core k).pc % 2 ^ F.CMD_LAST_FAULT_ADDR.width ∧ t.rd F.CMD_LAST_FAULT_CAUSE = 1) ∧
    (s.on F.CMD_LAST_FAULT_VALID = true → t.rd F.CMD_LAST_FAULT_ADDR = s.rd F.CMD_LAST_FAULT_ADDR ∧ t.rd F.CMD_LAST_FAULT_CAUSE = s.rd F.CMD_LAST_FAULT_CAUSE) ∧
    t.on F.CMD_LAST_FAULT_VALID = true ∧ t.on F.CMD_INT_STATUS_UCODE_FAULT = true ∧
    t.drafen.routine.map (fun r => (r.ucodeFaults, r.effects, r.cycles, r.abandons)) = some (1, [], 0, min 15 (r.abandons + 1)) ∧
    t.cntTick.get (cntKey 16 16 0) 0 = s.cntTick.get (cntKey 16 16 0) 0 + 1 ∧ t.drafen.released = s.drafen.released ∧ (r.allocs = [] → t.flt = s.flt) ∧
    (r.allocs = [] → RegsBut s t [(F.CMD_LAST_FAULT_ADDR, 0), (F.CMD_LAST_FAULT_CAUSE, 0), (F.CMD_LAST_FAULT_VALID, 0), (F.CMD_INT_STATUS_UCODE_FAULT, 0), (F.CMD_INT_STATUS_PROTECTED, 0)])))

/-- An idle Drafen takes the waiting request of the lowest level at its entry. One of a lower level abandons a routine that is
before its commit point, which waits again, and leaves one that is past it. The routine of a fourth abandonment is PROTECTED. A
routine that has run 64,000 cycles is restarted once; the second time its command is answered NOT_PERMITTED, and past its commit
point it raises a CRITICAL fault. The effect engine applies the oldest released effect: a write, which its seat must be allowed,
a clear of a read-to-clear register, a word of a reply, which is placed when it is whole, a free of a buffer, and an operation
of a unit. It also rests on the model's own readings of log 48. -/
def Obligations.RoutinesRunByLevelAndEffectsApply : Prop :=
  (∀ (s : State) (k : Nat) (q : Request) (entry : BitVec 13) (asks : Option (Fin 3)) (u : State), s.ready = true ∧ s.activeCore = some k ∧ k < s.drafen.cores.length ∧ s.drafen.routine = none → u = (match asks with | some l => s.askDrafen l.val | none => s) → u.nextRequest = some q → 
    Completes (.routineDispatch entry asks) s (fun t => t.drafen.routine.map (fun r => (r.req, r.start, r.past, r.effects)) = some (q, entry.toNat, false, []) ∧ (t.core k).pc = entry.toNat ∧
    (t.core k).stack = [] ∧ t.cntTick.get (cntKey 16 12 q.level) 0 = s.cntTick.get (cntKey 16 12 q.level) 0 + 1 ∧ t.drafen.requests = u.drafen.requests.erase q ∧
    t = { s with drafen := t.drafen, cntTick := t.cntTick })) ∧
  (∀ (s : State) (k : Nat) (q : Request) (r : Routine) (entry : BitVec 13) (asks : Option (Fin 3)) (u : State), s.ready = true ∧ s.activeCore = some k ∧ k < s.drafen.cores.length ∧ s.drafen.routine = some r → u = (match asks with | some l => s.askDrafen l.val | none => s) → u.nextRequest = some q → q.level < r.req.level ∧ r.past = false ∧ (r.abandons < 4 ∨ q.level = 0) → 
    Completes (.routineDispatch entry asks) s (fun t => t.drafen.routine.map (fun r => (r.req, r.start, r.past, r.effects)) = some (q, entry.toNat, false, []) ∧ (t.core k).pc = entry.toNat ∧
    t.drafen.abandoned.find? (fun x => x.1 == r.req) = some (r.req, min 15 (r.abandons + 1)) ∧ t.drafen.released = s.drafen.released ∧
    t.cntTick.get (cntKey 16 13 0) 0 = s.cntTick.get (cntKey 16 13 0) 0 + 1 ∧ (r.abandons = 3 → t.on F.CMD_INT_STATUS_PROTECTED = true) ∧
    (r.abandons ≠ 3 → r.allocs = [] → t.regs = s.regs))) ∧
  (∀ (s : State) (r : Routine) (entry : BitVec 13) (asks : Option (Fin 3)) (u : State), s.ready = true ∧ s.drafen.routine = some r → u = (match asks with | some l => s.askDrafen l.val | none => s) → r.past = true ∨ u.nextRequest.all (fun q => decide (r.req.level ≤ q.level) || (decide (4 ≤ r.abandons) && q.level != 0)) = true → 
    Completes (.routineDispatch entry asks) s (fun t => t = u)) ∧
  (∀ (s : State) (k : Nat) (r : Routine), s.ready = true ∧ s.activeCore = some k ∧ k < s.drafen.cores.length ∧ s.drafen.routine = some r ∧ 64000 ≤ r.cycles → r.past = false ∧ r.ucodeFaults = 0 → 
    Completes (.routineWatchdog) s (fun t => (t.core k).pc = r.start ∧ (s.on F.CMD_LAST_FAULT_VALID = false → t.rd F.CMD_LAST_FAULT_CAUSE = 4 ∧ t.rd F.CMD_LAST_FAULT_ADDR = (s.core k).pc % 2 ^ F.CMD_LAST_FAULT_ADDR.width) ∧
    t.drafen.routine.map (fun r => (r.ucodeFaults, r.effects, r.cycles)) = some (1, [], 0) ∧
    t.drafen.released = s.drafen.released ∧ (r.allocs = [] → t.flt = s.flt))) ∧
  (∀ (s : State) (k : Nat) (r : Routine), s.ready = true ∧ s.activeCore = some k ∧ k < s.drafen.cores.length ∧ s.drafen.routine = some r ∧ 64000 ≤ r.cycles → r.past = false ∧ r.ucodeFaults ≠ 0 ∧ r.allocs = [] → 
    Completes (.routineWatchdog) s (fun t => t.drafen.routine = none ∧ (t.core k).pc = 0 ∧ (t.core k).stack = [] ∧ t.drafen.released = s.drafen.released ∧
    t.flt.held = s.flt.held ++ [⟨5, 2, 1, k, (s.core k).pc⟩] ∧
    (r.req.packet.isSome = true → t.resp = some ⟨.notPermitted, [0xDF000000 ||| (s.core k).pc]⟩ ∧ t.cmd.flights = s.cmd.flights.filter (fun f => some f.packet != r.req.packet)))) ∧
  (∀ (s : State) (k : Nat) (r : Routine), s.ready = true ∧ s.activeCore = some k ∧ k < s.drafen.cores.length ∧ s.drafen.routine = some r ∧ 64000 ≤ r.cycles ∧ r.past = true → 
    Completes (.routineWatchdog) s (fun t => t.drafen.routine = none ∧ (t.core k).pc = 0 ∧ t.drafen.released = s.drafen.released ∧ t.flt.held = s.flt.held ++ [⟨5, 3, 3, k, (s.core k).pc⟩] ∧
    t.cmd.flights.map (fun f => f.packet) = s.cmd.flights.map (fun f => f.packet))) ∧
  (∀ (s : State), s.drafen.routine.all (fun r => decide (r.cycles < 64000)) = true → 
    Completes (.routineWatchdog) s (fun t => t = s)) ∧
  (∀ (s : State) (value : Nat) (p : Option Packet) (rest : List (Effect × Option Packet)), s.Free (F.TIM_STEP_NS_VALUE.addr 0) ∧ p.all (fun p => p.sender.val == 0) = true → s.drafen.released = (.regWrite (F.TIM_STEP_NS_VALUE.addr 0) value 0xFFFFFFFF, p) :: rest ∧ value < 1000000000 → 
    Completes (.effectApply) s (fun t => t.rd F.TIM_STEP_NS_VALUE = value ∧ t.drafen = { s.drafen with released := rest } ∧ RegsBut s t ((F.TIM_STEP_NS_VALUE, 0) :: digestFields))) ∧
  (∀ (s : State) (n : Fin 32) (v : Nat) (p : Option Packet) (rest : List (Effect × Option Packet)), s.live = true ∧ s.drafen.released = (.rcClear (F.MSQ_AGE_MAX_AGE_NS.addr n.val) v, p) :: rest ∧ v ≤ s.rd F.MSQ_AGE_MAX_AGE_NS n.val → 
    Completes (.effectApply) s (fun t => t.rd F.MSQ_AGE_MAX_AGE_NS n.val = s.rd F.MSQ_AGE_MAX_AGE_NS n.val - v ∧ RegsBut s t [(F.MSQ_AGE_MAX_AGE_NS, n.val)] ∧
    t = { s with regs := t.regs, drafen := { s.drafen with released := rest } })) ∧
  (∀ (s : State) (addr value mask : Nat) (p : Option Packet) (rest : List (Effect × Option Packet)), s.live = true ∧ s.drafen.released = (.regWrite addr value mask, p) :: rest → ({ s with drafen := { s.drafen with released := rest } } : State).writeDirect ((p.map (fun p => p.sender.val)).getD 0) [⟨addr, mask, value⟩] none = .error .notOwner → 
    Completes (.effectApply) s (fun t => t = { s with drafen := { s.drafen with released := rest } })) ∧
  (∀ (s : State) (word : Nat) (p : Option Packet) (rest : List (Effect × Option Packet)) (g : List Nat), s.live = true ∧ s.drafen.released = (.replyWord word, p) :: rest → g = (if s.drafen.gatherFor = p then s.drafen.gathering else []) ++ [word] ∧ g.length < g.getD 0 0 % 65536 → 
    Completes (.effectApply) s (fun t => t = { s with drafen := { s.drafen with released := rest, gathering := g, gatherFor := p } })) ∧
  (∀ (s : State) (word : Nat) (p : Packet) (rest : List (Effect × Option Packet)) (g : List Nat), s.live = true ∧ s.drafen.released = (.replyWord word, some p) :: rest ∧ (s.flightOf p).all (fun f => f.origin == .window) = true → g = (if s.drafen.gatherFor = some p then s.drafen.gathering else []) ++ [word] ∧ g.getD 0 0 % 65536 ≤ g.length → s.fifoRoom p.sender.val g.length = true ∧ s.cmd.seats.length = 4 → 
    Completes (.effectApply) s (fun t => (t.seat p.sender.val).replyFifo = (s.seat p.sender.val).replyFifo ++ g ∧ t.cmd.flights = s.cmd.flights.filter (fun f => f.packet != p) ∧
    t.drafen = { s.drafen with released := rest, gathering := [], gatherFor := none } ∧ RegsBut s t (seatFields p.sender.val))) ∧
  (∀ (s : State) (un pool place d : Nat) (x : CtlBuf) (p : Option Packet) (rest : List (Effect × Option Packet)), s.live = true ∧ s.drafen.released = (.unit 13 un (pool * 65536 + place) d, p) :: rest ∧ place < 65536 → s.buf.ctl.find? (fun b => b.pool == pool && b.place == place) = some x ∧ x.owner = 2 → 
    Completes (.effectApply) s (fun t => t.drafen = { s.drafen with released := rest, delivered := s.drafen.delivered ++ [(13, un, pool * 65536 + place, d)] } ∧
    t.buf = { s.buf with ctl := s.buf.ctl.erase x } ∧ RegsBut s t [(F.BUF_POOL_FREE_FREE, pool)] ∧ t = { s with regs := t.regs, drafen := t.drafen, buf := t.buf })) ∧
  (∀ (s : State) (op u a d : Nat) (p : Option Packet) (rest : List (Effect × Option Packet)), s.live = true ∧ s.drafen.released = (.unit op u a d, p) :: rest ∧ op ≠ 13 → 
    Completes (.effectApply) s (fun t => t = { s with drafen := { s.drafen with released := rest, delivered := s.drafen.delivered ++ [(op, u, a, d)] } }))

/-- A fault of the active core sends it to its self-test, or retires it at the second within a second, makes the standby active in
that tick and raises SPARED; the routine starts again from its first microword, in replay where it is past its commit point.
Without a standby a CRITICAL fault is raised. A planned take-over waits for a routine's end. A core that passes its self-test
takes its stores from the active core and is standby. REJOIN and SWAP ask for both. An image that is verified, and of which the
stores' two copies agree, starts the cores; any other shows why it fails, and READY stays 0. A certificate whose key is not the
part's raises a CRITICAL fault. It also rests on the model's own readings of log 49. -/
def Obligations.CoresTakeOverRejoinAndLoad : Prop :=
  (∀ (s : State) (k : Nat) (r : Routine), s.ready = true ∧ s.activeCore = some k ∧ s.drafen.cores.length = 2 ∧ s.rd (coreFld (1 - k)) = 1 → s.drafen.routine = some r ∧ r.past = true → 
    Completes (.coreTakeOver false) s (fun t => s.rd (coreFld k) = 0 ∧ t.rd (coreFld k) = (if (s.core k).failures.any (fun x => decide (s.now < x + 800000000)) then 3 else 2) ∧ t.rd (coreFld (1 - k)) = 0 ∧ t.rd F.CMD_CORE_STATUS_ACTIVE_CORE = 1 - k ∧
    t.on F.CMD_INT_STATUS_TAKEOVER = true ∧ t.rd2 F.CMD_TAKEOVER_TICK_LO_VALUE F.CMD_TAKEOVER_TICK_HI_VALUE 0 = s.now % 2 ^ 64 ∧
    t.drafen.routine.map (fun x => (x.req, x.replay, x.effects, x.reads, x.received)) = some (r.req, some (0, 0), r.effects, r.reads, r.received) ∧
    (t.core (1 - k)).pc = r.start ∧ t.drafen.released = s.drafen.released ∧ t.cmd = s.cmd ∧
    t.flt.held = s.flt.held ++ [⟨5, 4, 2, k, (s.core k).pc⟩, ⟨5, 5, 1, 0, 0⟩] ∧
    t.cntTick.get (cntKey 16 18 0) 0 = s.cntTick.get (cntKey 16 18 0) 0 + 1)) ∧
  (∀ (s : State) (k : Nat) (r : Routine), s.ready = true ∧ s.activeCore = some k ∧ s.drafen.cores.length = 2 ∧ s.rd (coreFld (1 - k)) = 1 → s.drafen.routine = some r ∧ r.past = false → 
    Completes (.coreTakeOver false) s (fun t => t.rd (coreFld (1 - k)) = 0 ∧ t.drafen.routine.map (fun x => (x.req, x.replay, x.effects, x.reads)) = some (r.req, r.replay, [], []) ∧
    (t.core (1 - k)).pc = r.start ∧ t.drafen.released = s.drafen.released ∧ t.cmd = s.cmd ∧ (r.allocs = [] → t.buf = s.buf))) ∧
  (∀ (s : State) (k : Nat), s.ready = true ∧ s.activeCore = some k ∧ s.drafen.cores.length = 2 ∧ s.rd (coreFld (1 - k)) ≠ 1 → 
    Completes (.coreTakeOver false) s (fun t => t.rd (coreFld k) = (if (s.core k).failures.any (fun x => decide (s.now < x + 800000000)) then 3 else 2) ∧ t.flt.held = s.flt.held ++ [⟨5, 6, 3, k, (s.core k).pc⟩] ∧ RegsBut s t [(coreFld k, 0)] ∧ t.cmd = s.cmd)) ∧
  (∀ (s : State) (k : Nat), s.ready = true ∧ s.activeCore = some k ∧ s.drafen.cores.length = 2 ∧ s.rd (coreFld (1 - k)) = 1 ∧ s.drafen.swapAsked = true → 
    Completes (.coreTakeOver true) s (fun t => (if s.drafen.routine.isSome = true then t = s else
      t.rd (coreFld k) = 1 ∧ t.rd (coreFld (1 - k)) = 0 ∧ t.drafen.swapAsked = false ∧ t.flt = s.flt ∧ (t.core (1 - k)).pc = 0))) ∧
  (∀ (s : State) (core : Fin 2) (a : Nat), s.ready = true ∧ s.rd (coreFld core.val) = 2 ∧ s.activeCore = some a ∧ s.drafen.cores.length = 2 → 
    Completes (.coreSelfTestDone core true) s (fun t => t.rd (coreFld core.val) = 1 ∧ (t.core core.val).micro = (s.core a).micro ∧ (t.core core.val).nano = (s.core a).nano ∧
    t.flt.main.latches = s.flt.main.latches.filter (fun l => !(l.src == 5 && l.cause == 5)) ∧ t.drafen.routine = s.drafen.routine ∧ t.cmd = s.cmd)) ∧
  (∀ (s : State) (core : Fin 2), s.ready = true ∧ s.rd (coreFld core.val) = 2 → 
    Completes (.coreSelfTestDone core false) s (fun t => t.rd (coreFld core.val) = 3 ∧ RegsBut s t [(coreFld core.val, 0)] ∧ t = { s with regs := t.regs })) ∧
  (∀ (s : State) (mask : BitVec 2), s.Free (F.CMD_CORE_CTRL_REJOIN0.addr 0) → 
    let rejoins := fun k : Nat => bit mask.toNat k && s.rd (coreFld k) == 3
    Completes (.rejoinCore 0 mask) s (fun t => t.resp = some ⟨.ok, []⟩ ∧ t.rd (coreFld 0) = (if rejoins 0 = true then 2 else s.rd (coreFld 0)) ∧
    t.rd (coreFld 1) = (if rejoins 1 = true then 2 else s.rd (coreFld 1)) ∧ t.drafen = s.drafen ∧
    RegsBut s t ([(coreFld 0, 0), (coreFld 1, 0)] ++ digestFields))) ∧
  (∀ (s : State), s.Free (F.CMD_CORE_CTRL_SWAP.addr 0) → 
    Completes (.swap 0) s (fun t => (if s.rd (coreFld 0) = 1 ∨ s.rd (coreFld 1) = 1 then t.resp = some ⟨.ok, []⟩ ∧ t.drafen = { s.drafen with swapAsked := true } ∧ RegsBut s t digestFields
      else t = { s with resp := some ⟨.notPermitted, []⟩ }))) ∧
  (∀ (s : State) (seat : Fin 4) (mask : BitVec 2), s.Free (F.CMD_CORE_CTRL_REJOIN0.addr 0) ∧ seat ≠ 0 → 
    Completes (.rejoinCore seat mask) s (fun t => t = { s with resp := some ⟨.notOwner, []⟩ })) ∧
  (∀ (s : State) (image : Bytes) (certs : List Bytes) (keyMatches copiesAgree test0 test1 : Bool), s.loaderDue = true ∧ s.idn.certs.length = 8 → s.rd F.CMD_CORE_STATUS_READY = 0 ∧ s.rd (coreFld 0) ≠ 3 ∧ s.rd (coreFld 1) ≠ 3 → 
    let k : List FaultEvent := if keyMatches then [] else [⟨10, 1, 3, 0, 0⟩]
    Completes (.imageLoad image certs keyMatches copiesAgree test0 test1) s (fun t => (if s.imageFail image ≠ 0 then
        t.rd F.IDN_STATUS_IMAGE_FAIL = s.imageFail image ∧ t.on F.SYS_BOOT_STATUS_IMAGE_FAILED = true ∧ t.rd F.CMD_CORE_STATUS_READY = 0 ∧
          t.drafen = s.drafen ∧ t.flt.held = s.flt.held ++ k ++ [⟨5, 7, 3, 0, 0⟩]
      else if nanoFormed (nanoStore image) = false ∨ copiesAgree = false then
        t.rd F.CMD_CORE_STATUS_READY = 0 ∧ t.drafen = s.drafen ∧ t.flt.held = s.flt.held ++ k ++ [⟨5, 7, 3, 0, 0⟩]
      else
        t.on F.SYS_BOOT_STATUS_IMAGE_OK = true ∧ t.rd F.CMD_IMAGE_STATUS_VERSION = beAt image 6 2 ∧
          t.drafen.cores.all (fun c => c.micro == microStore image && c.nano == nanoStore image && c.pc == 0) = true ∧
          t.on F.CMD_CORE_STATUS_READY = (test0 || test1) ∧ t.rd (coreFld 0) = (if test0 = true then 0 else 3) ∧
          t.rd (coreFld 1) = (if test1 = false then 3 else if test0 = true then 1 else 0)) ∧
    nth t.idn.certs 0 [] = (certList 6 certs).getD 0 []))


/-! ### Faults and take-over of pipelines -/

/-- A fault taken alone is raised at its own severity, or one level above its class's latch; the class latches that level, its
source's FSW bit, count and last cause show it, and the history and the counters get their entry. A fault raised at CRITICAL
asserts FAULT_N as R485 says, and the first tick with one at FREEZE_LEVEL freezes the history. The faults of one tick are
entered in the order of R481, the first carrying FIRST. With nothing held nothing is raised, but a copy of the Collector whose
own check fails is retired, and copies that differ are told. The automatic acknowledgement of a fault raised at NOTE clears its
latch alone. RELEASE drops the frozen copy. FAULT_ACK of a source that the seat may acknowledge is parked until the boundary
that opens the next tick. There every latch of the source is cleared with its count, and the reply tells the highest level,
whether anything was latched and the count; with nothing latched only the reply is given. A reserved source answers BAD_ADDRESS,
one of a seat without a grant NOT_OWNER. It also rests on the model's own readings of log 50. -/
def Obligations.FaultsAreRaisedAndAcknowledged : Prop :=
  (∀ (s : State) (e : FaultEvent), s.live = true ∧ s.collecting = true ∧ s.flt.takenTick ≠ some s.now ∧ s.applyAcks.autoAcks = s → s.flt.held = [e] ∧ e.src < 39 ∧ e.cause < 8 ∧ e.sev ≤ 3 ∧ s.on F.CMD_CORE_STATUS_READY = true ∧ s.on F.FLT_CTRL_FAULT_N_FIRST = false → s.flt.main.levelOf e.src e.cause ≠ some 3 → 
    let level := match s.flt.main.levelOf e.src e.cause with | none => e.sev | some k => min 3 (max e.sev (k + 1))
    Completes (.faultTake false false false) s (fun t => t.flt.main.levelOf e.src e.cause = some level ∧ bit t.flt.main.fsw e.src = true ∧ t.flt.held = [] ∧ t.flt.takenTick = some s.now ∧
    t.rd F.FLT_SRC_STATUS_COUNT e.src = min 255 (s.rd F.FLT_SRC_STATUS_COUNT e.src + 1) ∧ t.rd F.FLT_SRC_STATUS_LAST_CAUSE e.src = e.cause ∧
    t.on F.FLT_SRC_STATUS_LATCHED e.src = true ∧ t.on F.FLT_INT_STATUS_NEW_FAULT = true ∧
    t.flt.main.live.head? = some { tick := s.now, src := e.src, level := level, escalated := decide (e.sev < level), first := true, ack := false, faultN := false, cause := e.cause, inst := e.inst % 256, val := e.val % 2 ^ 64 } ∧
    t.flt.main.asserting = s.flt.main.asserting ∧ t.flt.pipes = s.flt.pipes ∧ t.fwd = s.fwd ∧ t.qsg = s.qsg ∧ t.tbl = s.tbl ∧
    t.cntTick.get (cntKey 17 1 (level * 2 ^ 14 + e.cause * 64 + e.src)) 0 = s.cntTick.get (cntKey 17 1 (level * 2 ^ 14 + e.cause * 64 + e.src)) 0 + 1)) ∧
  (∀ (s : State) (e : FaultEvent), s.live = true ∧ s.collecting = true ∧ s.flt.takenTick ≠ some s.now ∧ s.applyAcks.autoAcks = s → s.flt.held = [e] ∧ e.src < 39 ∧ e.cause < 8 ∧ e.sev ≤ 3 ∧ raisedLevel (s.flt.main.levelOf e.src e.cause) e.sev = 3 → s.flt.main.levelOf e.src e.cause = some 3 ∨ s.on F.FLT_CTRL_FAULT_N_FIRST = true ∨ s.on F.CMD_CORE_STATUS_READY = false → 
    Completes (.faultTake false false false) s (fun t => t.flt.main.levelOf e.src e.cause = some 3 ∧ t.flt.main.asserting.contains e.src = true ∧ t.rd F.FLT_STATUS_FAULT_N = 1 ∧
    (s.flt.main.asserting = [] → t.on F.FLT_INT_STATUS_FAULT_N = true ∧ t.cntTick.get (cntKey 17 4 0) 0 = s.cntTick.get (cntKey 17 4 0) 0 + 1) ∧
    t.flt.main.live.head?.map (fun h => (h.src, h.level, h.faultN, h.first)) = some (e.src, 3, true, true) ∧
    (s.flt.main.frozen = none → t.flt.main.frozen = some t.flt.main.live ∧ t.on F.FLT_STATUS_FROZEN = true ∧ t.rd F.FLT_STATUS_FIRST_SRC = e.src) ∧
    (s.flt.main.frozen ≠ none → t.flt.main.frozen = s.flt.main.frozen))) ∧
  (∀ (s : State) (l : List FaultEvent), s.live = true ∧ s.collecting = true ∧ s.flt.takenTick ≠ some s.now ∧ s.applyAcks.autoAcks = s → l = sortBy FaultEvent.before s.flt.held ∧ l ≠ [] ∧ l.length ≤ 32 → 
    Completes (.faultTake false false false) s (fun t => (t.flt.main.live.take l.length).map (fun h => (h.src, h.cause, h.first, h.tick)) = (l.zipIdx.map (fun x => (x.1.src, x.1.cause, x.2 == 0, s.now))).reverse ∧
    t.flt.held = [] ∧ t.flt.takenTick = some s.now)) ∧
  (∀ (s : State) (checkA checkB differ : Bool), s.live = true ∧ s.on F.FLT_STATUS_A_OK = true ∧ s.on F.FLT_STATUS_B_OK = true ∧ s.flt.takenTick ≠ some s.now ∧ s.applyAcks.autoAcks = s ∧ s.flt.held = [] → 
    Completes (.faultTake checkA checkB differ) s (fun t => t.on F.FLT_STATUS_A_OK = !checkA ∧ t.on F.FLT_STATUS_B_OK = !checkB ∧ t.flt.main = s.flt.main ∧ t.flt.takenTick = some s.now ∧
    t.flt.held = (if checkA then [⟨0, 2, 1, 0, 0⟩] else []) ++ (if checkB then [⟨0, 2, 1, 1, 0⟩] else []) ++
      (if differ = true ∧ checkA = false ∧ checkB = false then [⟨0, 1, 2, 1, 0⟩] else []) ∧
    RegsBut s t [(F.FLT_STATUS_A_OK, 0), (F.FLT_STATUS_B_OK, 0)] ∧ t = { s with regs := t.regs, flt := t.flt })) ∧
  (∀ (s : State) (src cause u : Nat), s.live = true ∧ s.collecting = true ∧ s.flt.main.autoAck = [(src, cause, u)] ∧ u < s.now ∧ s.flt.main.levelOf src cause = some 0 ∧ src < 39 → 
    Completes (.noteAutoAck) s (fun t => t.flt.main.latches = s.flt.main.latches.filter (fun l => !(l.src == src && l.cause == cause)) ∧ t.flt.main.autoAck = [] ∧
    t.flt.main.live = s.flt.main.live ∧ t.rd F.FLT_SRC_STATUS_COUNT src = s.rd F.FLT_SRC_STATUS_COUNT src ∧
    t.on F.FLT_SRC_STATUS_LATCHED src = bit t.flt.main.fsw src ∧ t.evr = s.evr ∧ t.cntTick = s.cntTick ∧
    RegsBut s t [(F.FLT_SRC_STATUS_LEVEL, src), (F.FLT_SRC_STATUS_LATCHED, src), (F.FLT_FSW_LO_VALUE, 0), (F.FLT_FSW_HI_VALUE, 0), (F.FLT_STATUS_FAULT_N, 0),
      (F.FLT_STATUS_ALERT_N, 0)])) ∧
  (∀ (s : State), s.Free (F.FLT_FREEZE_CTRL_RELEASE.addr 0) → 
    Completes (.freezeRelease 0) s (fun t => t.resp = some ⟨.ok, []⟩ ∧ t.flt = { s.flt with main := { s.flt.main with frozen := none } } ∧ t.on F.FLT_STATUS_FROZEN = false ∧ t.rd F.FLT_STATUS_FIRST_SRC = 0 ∧
    RegsBut s t ([(F.FLT_STATUS_FROZEN, 0), (F.FLT_STATUS_FIRST_SRC, 0)] ++ digestFields))) ∧
  (∀ (s : State) (p : Packet), s.Takes p ∧ p.opcode = 0x60 ∧ (s.mayAck p.sender.val p.parameter.toNat).toBool = true → 
    Completes (.faultAck p) s (fun t => t.flt = { s.flt with acks := s.flt.acks ++ [⟨p.parameter.toNat, p, s.now⟩] } ∧ t.cmd.flights = s.cmd.flights ++ [⟨p, .window, s.cmd.nextSeqNo, true⟩] ∧
    (t.seat p.sender.val).replyFifo = (s.seat p.sender.val).replyFifo ∧ t.resp = s.resp ∧ RegsBut s t (seatFields p.sender.val))) ∧
  (∀ (s : State) (p : Packet), s.Takes p ∧ p.opcode = 0x60 ∧ (p.sender = 0 ∨ bit (s.rd F.CMD_SEAT_INT_GRANT_UNITS p.sender.val) 18 = true) ∧ 39 ≤ p.parameter.toNat → 
    Completes (.faultAck p) s (fun t => Replied s t p .badAddress [] ∧ t.flt = s.flt ∧ RegsBut s t (seatFields p.sender.val))) ∧
  (∀ (s : State) (p : Packet), s.Takes p ∧ p.opcode = 0x60 ∧ p.sender ≠ 0 → bit (s.rd F.CMD_SEAT_INT_GRANT_UNITS p.sender.val) 18 = false ∨ (p.parameter.toNat < 39 ∧ bit (s.rd F.CMD_SEAT_INT_GRANT_UNITS p.sender.val) (sourceUnit p.parameter.toNat) = false) → 
    Completes (.faultAck p) s (fun t => Replied s t p .notOwner [] ∧ t.flt = s.flt ∧ RegsBut s t (seatFields p.sender.val))) ∧
  (∀ (s : State) (src u : Nat) (p : Packet) (f : Flight), s.live = true ∧ s.collecting = true ∧ s.flt.acks = [⟨src, p, u⟩] ∧ u < s.now ∧ src < 39 ∧ s.cmd.seats.length = 4 → s.flightOf p = some f ∧ f.origin = .window ∧ bit p.flags.toNat 0 = false ∧ s.flt.main.ofSrc src ≠ [] → s.fifoRoom p.sender.val 6 = true → 
    let data := s.flt.main.topLevel src + 4 + 256 * s.rd F.FLT_SRC_STATUS_COUNT src
    Completes (.ackApply) s (fun t => t.flt.main.latches = s.flt.main.latches.filter (fun l => l.src != src) ∧ t.flt.acks = [] ∧ bit t.flt.main.fsw src = false ∧
    t.rd F.FLT_SRC_STATUS_COUNT src = 0 ∧ t.on F.FLT_SRC_STATUS_LATCHED src = false ∧ t.flt.held = s.flt.held ∧
    t.flt.main.live.head?.map (fun h => (h.src, h.ack, h.level, h.tick)) = some (src, true, s.flt.main.topLevel src, s.now) ∧
    t.cntTick.get (cntKey 17 3 0) 0 = s.cntTick.get (cntKey 17 3 0) 0 + 1 ∧ t.resp = some ⟨.ok, [data]⟩ ∧
    t.cmd.flights = s.cmd.flights.filter (fun f => f.packet != p) ∧
    (t.seat p.sender.val).replyFifo = (s.seat p.sender.val).replyFifo ++
      replyWords p.opcode.toNat 0 p.tag.toNat p.seat.val p.txn.toNat false false s.now [data])) ∧
  (∀ (s : State) (src u : Nat) (p : Packet), s.live = true ∧ s.collecting = true ∧ s.flt.acks = [⟨src, p, u⟩] ∧ u < s.now ∧ s.flt.main.ofSrc src = [] → 
    Completes (.ackApply) s (fun t => t.flt.main.latches = s.flt.main.latches ∧ t.flt.main.live = s.flt.main.live ∧ t.flt.acks = [] ∧ t.resp = some ⟨.ok, [256 * s.rd F.FLT_SRC_STATUS_COUNT src]⟩ ∧
    t.cmd.flights = s.cmd.flights.filter (fun f => f.packet != p) ∧ t.evr.taps = s.evr.taps))

/-- A fault of a pipeline while the spare is idle and sound starts a take-over: the headers it holds stand for replay in hand-off
order and SPARED is raised; its egress, its slots and the end of the replay follow. With no spare the group stops, its frames
are dropped and counted, and CRITICAL is raised; so when the spare fails while it serves. A pipeline that does not serve raises
nothing more. FORCE does the same as a fault with value 0. A pipeline that passes its self-test may take its group back from a
tick that is a multiple of 16; one that fails is retired. A failed self-check of the idle spare takes it out of service until it
passes. It also rests on the model's own readings of log 51. -/
def Obligations.PipelinesFailOverAndReturn : Prop :=
  (∀ (s : State) (g : Fin 17), s.live = true ∧ g.val < 16 ∧ nth s.flt.pipes g.val .down = .serving ∧ s.spareReady = true → 
    Completes (.pipelineFault g) s (fun t => t.flt = { s.flt with pipes := s.flt.pipes.set g.val .failed, takeOver := some (g.val, s.now), egressTaken := false, slotsTaken := false, held := s.flt.held ++ [⟨11 + g.val, 1, 2, g.val, s.now⟩] } ∧
    t.fwd.pipe = s.fwd.pipe.filter (fun x => x.pipe != g.val) ∧
    t.fwd.replay = (s.fwd.pipe.filter (fun x => x.pipe == g.val)).map (fun x => { x.frame with replayed := true, seen := true }) ++ s.fwd.replay ∧
    t.rd F.FLT_PIPE_STATUS_SPARE_FOR = g.val ∧ t.on F.FLT_PIPE_STATUS_REPLAYING = true ∧ t.on F.FLT_INT_STATUS_TAKEOVER = true ∧
    t.drafen = { s.drafen with requests := s.drafen.requests ++ [⟨0, 3, none⟩] } ∧ t.qsg = s.qsg ∧ t.buf = s.buf ∧
    t.cntTick.get (cntKey 17 5 0) 0 = s.cntTick.get (cntKey 17 5 0) 0 + 1 ∧
    RegsBut s t [(F.FLT_PIPE_STATUS_SPARE_FOR, 0), (F.FLT_PIPE_STATUS_REPLAYING, 0), (F.FLT_INT_STATUS_TAKEOVER, 0)])) ∧
  (∀ (s : State) (g : Fin 17), s.live = true ∧ g.val < 16 ∧ nth s.flt.pipes g.val .down = .serving ∧ s.spareReady = false → 
    Completes (.pipelineFault g) s (fun t => t.flt = { s.flt with pipes := s.flt.pipes.set g.val .down, held := s.flt.held ++ [⟨11 + g.val, 2, 3, g.val, s.now⟩] } ∧
    t.fwd.pipe = s.fwd.pipe.filter (fun x => x.frame.group != g.val) ∧ t.fwd.replay = s.fwd.replay.filter (fun f => f.group != g.val) ∧
    t.fwd.fifo = s.fwd.fifo.filter (fun f => f.group != g.val) ∧ t.qsg = s.qsg ∧ t.tim = s.tim)) ∧
  (∀ (s : State) (g : Fin 17), g.val < 16 ∧ nth s.flt.pipes g.val .down ≠ .serving → 
    Completes (.pipelineFault g) s (fun t => t = s)) ∧
  (∀ (s : State) (x u : Nat), s.live = true ∧ s.flt.takeOver = some (x, u) → 
    Completes (.pipelineFault 16) s (fun t => t.flt = { s.flt with pipes := s.flt.pipes.set x .down, takeOver := none, egressTaken := false, slotsTaken := false, held := s.flt.held ++ [⟨27, 2, 3, x, s.now⟩] } ∧
    t.on F.FLT_PIPE_STATUS_SPARE_OK = false ∧ t.rd F.FLT_PIPE_STATUS_SPARE_FOR = 31 ∧ t.on F.FLT_PIPE_STATUS_REPLAYING = false ∧
    t.fwd.replay = s.fwd.replay.filter (fun f => f.group != x) ∧ t.fwd.fifo = s.fwd.fifo.filter (fun f => f.group != x))) ∧
  (∀ (s : State), s.live = true ∧ s.flt.takeOver = none ∧ s.on F.FLT_PIPE_STATUS_SPARE_OK = true → 
    Completes (.pipelineFault 16) s (fun t => t.on F.FLT_PIPE_STATUS_SPARE_OK = false ∧ t.flt = { s.flt with held := s.flt.held ++ [⟨27, 4, 1, 31, s.now⟩] } ∧ RegsBut s t [(F.FLT_PIPE_STATUS_SPARE_OK, 0)] ∧
    t = { s with regs := t.regs, flt := t.flt })) ∧
  (∀ (s : State) (g : Fin 17) (f : Frame), s.live = true ∧ g.val < 16 ∧ nth s.flt.pipes g.val .down = .serving ∧ s.spareReady = false → s.fwd.pipe = [] ∧ s.fwd.replay = [] ∧ s.fwd.fifo = [f] ∧ f.group = g.val ∧ f.ing < 512 ∧ f.port = f.ing → 
    Completes (.pipelineFault g) s (fun t => t.fwd.fifo = [] ∧ nth t.flt.pipes g.val .serving = .down ∧ t.cntTick.get (cntKey 2 14 f.ing) 0 = s.cntTick.get (cntKey 2 14 f.ing) 0 + 1 ∧ t.qsg = s.qsg)) ∧
  (∀ (s : State), s.live = true ∧ s.flt.takeOver.isSome = true ∧ s.flt.egressTaken = false → 
    Completes (.takeOverEgress) s (fun t => t = { s with flt := { s.flt with egressTaken := true } })) ∧
  (∀ (s : State), s.live = true ∧ s.flt.takeOver.isSome = true ∧ s.flt.slotsTaken = false → 
    Completes (.takeOverSlots) s (fun t => t = { s with flt := { s.flt with slotsTaken := true } })) ∧
  (∀ (s : State), s.live = true ∧ s.flt.slotsTaken = true → 
    Completes (.replayDone) s (fun t => (if s.fwd.replay = [] then t.on F.FLT_PIPE_STATUS_REPLAYING = false ∧ RegsBut s t [(F.FLT_PIPE_STATUS_REPLAYING, 0)] ∧ t = { s with regs := t.regs } else t = s))) ∧
  (∀ (s : State) (g : Fin 16), s.Free (F.FLT_PIPE_CTRL_FORCE.addr 0) ∧ nth s.flt.pipes g.val .down = .serving ∧ s.spareReady = true → 
    Completes (.pipeForce 0 g) s (fun t => t.resp = some ⟨.ok, []⟩ ∧ t.flt.takeOver = some (g.val, s.now) ∧ t.flt.pipes = s.flt.pipes.set g.val .failed ∧
    t.flt.held = s.flt.held ++ [⟨11 + g.val, 1, 2, g.val, 0⟩] ∧ t.rd F.FLT_PIPE_STATUS_SPARE_FOR = g.val ∧ t.rd F.FLT_PIPE_CTRL_FORCE_PIPE = g.val)) ∧
  (∀ (s : State) (g : Fin 16), s.Free (F.FLT_PIPE_CTRL_FORCE.addr 0) ∧ (s.spareReady = false ∨ nth s.flt.pipes g.val .down ≠ .serving) → 
    Completes (.pipeForce 0 g) s (fun t => t = { s with resp := some ⟨.notPermitted, []⟩ })) ∧
  (∀ (s : State) (g : Fin 16), s.live = true ∧ nth s.flt.pipes g.val .down ≠ .serving ∧ s.flt.ready.contains g.val = false ∧ bit (s.rd F.FLT_PIPE_STATUS_RETIRED) g.val = false → 
    let u : State := { s with flt := { s.flt with ready := s.flt.ready ++ [g.val] } }
    Completes (.pipeSelfTestDone g true) s (fun t => t.flt = { u.flt with givingBack := if s.on F.FLT_PIPE_CTRL_AUTO_GIVE_BACK then s.flt.givingBack.or u.readyPipe else s.flt.givingBack } ∧ t.on F.FLT_PIPE_STATUS_GIVE_BACK_READY = true ∧ RegsBut s t [(F.FLT_PIPE_STATUS_GIVE_BACK_READY, 0)])) ∧
  (∀ (s : State) (g : Fin 16), s.live = true ∧ nth s.flt.pipes g.val .down ≠ .serving ∧ s.flt.ready.contains g.val = false ∧ bit (s.rd F.FLT_PIPE_STATUS_RETIRED) g.val = false → 
    Completes (.pipeSelfTestDone g false) s (fun t => bit (t.rd F.FLT_PIPE_STATUS_RETIRED) g.val = true ∧ RegsBut s t [(F.FLT_PIPE_STATUS_RETIRED, 0)] ∧ t = { s with regs := t.regs })) ∧
  (∀ (s : State) (g : Fin 16) (pass : Bool), nth s.flt.pipes g.val .down = .serving ∨ s.flt.ready.contains g.val = true ∨ bit (s.rd F.FLT_PIPE_STATUS_RETIRED) g.val = true → 
    Completes (.pipeSelfTestDone g pass) s (fun t => t = s)) ∧
  (∀ (s : State), s.Free (F.FLT_PIPE_CTRL_GIVE_BACK.addr 0) → 
    Completes (.giveBack 0) s (fun t => (if s.on F.FLT_PIPE_STATUS_GIVE_BACK_READY = true then
      t.resp = some ⟨.ok, []⟩ ∧ t.flt.givingBack = s.flt.givingBack.or s.readyPipe ∧ RegsBut s t digestFields
    else t = { s with resp := some ⟨.notPermitted, []⟩ }))) ∧
  (∀ (s : State) (g : Nat) (mine : Bool), s.live = true ∧ s.now % 16 = 0 ∧ s.ran.contains 0 = false ∧ s.flt.givingBack = some g ∧ s.fwd.replay.all (fun f => f.group != g) = true → mine = ((s.flt.takeOver.map Prod.fst) == some g) ∧ s.on F.FLT_PIPE_CTRL_AUTO_GIVE_BACK = false → 
    Completes (.giveBackSwitch) s (fun t => t.flt = { s.flt with pipes := s.flt.pipes.set g .serving, givingBack := none, ready := s.flt.ready.filter (fun x => x != g), takeOver := if mine then none else s.flt.takeOver, egressTaken := s.flt.egressTaken && !mine, slotsTaken := s.flt.slotsTaken && !mine } ∧
    (mine = true → t.rd F.FLT_PIPE_STATUS_SPARE_FOR = 31) ∧ t.on F.FLT_PIPE_STATUS_GIVE_BACK_READY = !t.flt.ready.isEmpty ∧ t.ran = 0 :: s.ran ∧ t.cntTick.get (cntKey 17 7 0) 0 = s.cntTick.get (cntKey 17 7 0) 0 + 1 ∧ t.fwd = s.fwd)) ∧
  (∀ (s : State), s.live = true ∧ s.flt.takeOver = none ∧ s.on F.FLT_PIPE_STATUS_SPARE_OK = true → 
    Completes (.spareSelfCheckFail) s (fun t => t.on F.FLT_PIPE_STATUS_SPARE_OK = false ∧ t.flt = { s.flt with held := s.flt.held ++ [⟨27, 4, 1, 31, s.now⟩] } ∧ RegsBut s t [(F.FLT_PIPE_STATUS_SPARE_OK, 0)] ∧
    t = { s with regs := t.regs, flt := t.flt })) ∧
  (∀ (s : State), s.live = true ∧ s.flt.takeOver = none → 
    Completes (.spareOk) s (fun t => t.on F.FLT_PIPE_STATUS_SPARE_OK = true ∧ RegsBut s t [(F.FLT_PIPE_STATUS_SPARE_OK, 0)] ∧ t = { s with regs := t.regs }))


/-! ### Power and temperature -/

/-- Every microsecond the corrected sample of the seven rails joins the last 1,000, and MEAS_W is the mean power of the window. A
regulator's reading moves its rail's gain by at most 2 %; one that misses its third reading in a row raises source 8 cause 4 and
keeps its gain. Every regulator that reports a fault raises cause 5. MODEL_RESUME clears DIVERGED. Forty-eight readings set
their registers and the hottest sensor. A reading at or above WARN_C sets WARN and raises source 9 cause 1 once; one outside the
sensor's range is excluded and raises cause 3 once; a crossing of a throttle threshold raises cause 2 once. At 125 °C every
transmitter goes to electrical idle, source 9 cause 4 is raised and the part stops. It also rests on the model's own readings of
log 32 and log 52. -/
def Obligations.PowerAndTemperatureAreMeasured : Prop :=
  (∀ (s : State) (rails : List (Nat × Nat)) (r : Fin 7), s.live = true ∧ s.now % 800 = 0 ∧ s.ran.contains 4 = false ∧ rails.length = 7 → 
    let x := rails.zipIdx.map (fun (v, r) => (v.1, ((v.2 : Int) * (1000 + s.rdS F.PWR_RAIL_CFG_GAIN_ADJ r) / 1000).toNat))
    let w := ((x :: s.pwr.samples).take 1000).take (s.rd F.PWR_CTRL_WINDOW_US)
    Completes (.railSample rails) s (fun t => t.pwr.samples = (x :: s.pwr.samples).take 1000 ∧ t.rd F.PWR_MEAS_MEAS_W = sumOf w samplePower / max 1 w.length / 1000000 % 2048 ∧
    t.rd F.PWR_RAIL_STATUS_MV r.val = railMean t.pwr.samples 10 r.val Prod.fst % 65536 ∧
    t.rd F.PWR_RAIL_STATUS_AMPS_X4 r.val = railMean t.pwr.samples 10 r.val Prod.snd * 4 / 1000 % 65536 ∧ t.flt = s.flt ∧
    RegsBut s t ((F.PWR_MEAS_MEAS_W, 0) :: (List.range 7).flatMap (fun r => [(F.PWR_RAIL_STATUS_MV, r), (F.PWR_RAIL_STATUS_AMPS_X4, r)])) ∧
    t = { s with regs := t.regs, pwr := t.pwr, ran := 4 :: s.ran })) ∧
  (∀ (s : State) (replies : List (Option (Nat × Nat))) (faults : BitVec 7), s.live = true ∧ s.now % 800000 = 0 ∧ s.ran.contains 5 = false ∧ s.on F.CMD_CORE_STATUS_READY = true ∧ replies.length = 7 → 
    let miss := (List.range 7).filter (fun r => (replies.getD r none).isNone)
    let mean : Nat → Int := fun r => ((nth s.pwr.sums r (0, 0)).2 / max 1 s.pwr.sumCount : Nat)
    let gain : Nat → Nat × Nat → Int := fun r x => if mean r = 0 then s.rdS F.PWR_RAIL_CFG_GAIN_ADJ r else
      max (-128) (min 127 (s.rdS F.PWR_RAIL_CFG_GAIN_ADJ r + max (-20) (min 20 (Int.fdiv (((x.2 : Int) - mean r) * 1000) (mean r)))))
    Completes (.pmbusRead replies faults) s (fun t => (List.range 7).all (fun r => match replies.getD r none with
      | some x => t.rdS F.PWR_RAIL_CFG_GAIN_ADJ r == gain r x && t.pwr.missed.get r 0 == 0
      | none => t.rd F.PWR_RAIL_CFG_GAIN_ADJ r == s.rd F.PWR_RAIL_CFG_GAIN_ADJ r && t.pwr.missed.get r 0 == s.pwr.missed.get r 0 + 1) = true ∧
    t.flt.held = s.flt.held ++ (miss.filter (fun r => s.pwr.missed.get r 0 == 2)).map (fun r => ⟨8, 4, 1, r, s.rd F.PWR_MEAS_MEAS_W⟩) ++
      ((List.range 7).filter (fun r => bit faults.toNat r)).map (fun r => ⟨8, 5, 3, r, s.rd F.PWR_MEAS_MEAS_W⟩) ∧
    t.cntTick.get (cntKey 18 7 0) 0 = s.cntTick.get (cntKey 18 7 0) 0 + miss.length ∧ t.pwr = { s.pwr with missed := t.pwr.missed, sums := List.replicate 7 (0, 0), sumCount := 0 } ∧
    t.ran = 5 :: s.ran ∧ RegsBut s t ((List.range 7).map (fun r => (F.PWR_RAIL_CFG_GAIN_ADJ, r))))) ∧
  (∀ (s : State) (faults : BitVec 7), s.live = true ∧ s.on F.CMD_CORE_STATUS_READY = true → 
    Completes (.pmbAlert faults) s (fun t => t = { s with flt := { s.flt with held := s.flt.held ++ ((List.range 7).filter (fun r => bit faults.toNat r)).map (fun r => ⟨8, 5, 3, r, s.rd F.PWR_MEAS_MEAS_W⟩) } })) ∧
  (∀ (s : State), s.Free (F.PWR_CTRL_MODEL_RESUME.addr 0) ∧ s.floorStep ≤ s.rd F.PWR_STATUS_STEP → 300 ≤ s.rd F.PWR_CTRL_PKG_LIMIT_W ∧ s.rd F.PWR_CTRL_PKG_LIMIT_W ≤ 1000 ∧ 10 ≤ s.rd F.PWR_CTRL_WINDOW_US ∧ s.rd F.PWR_CTRL_WINDOW_US ≤ 1000 → 
    Completes (.modelResume 0) s (fun t => t.resp = some ⟨.ok, []⟩ ∧ t.on F.PWR_STATUS_DIVERGED = false ∧ t.pwr = { s.pwr with divRun := 0 } ∧
    RegsBut s t ([(F.PWR_STATUS_DIVERGED, 0), (F.PWR_DEMAND_LIMIT_EFF_W, 0)] ++ digestFields))) ∧
  (∀ (s : State) (temps : List Int), s.live = true ∧ s.now % 80000 = 0 ∧ s.ran.contains 8 = false ∧ s.on F.CMD_CORE_STATUS_READY = true ∧ temps.length = 48 ∧ s.pwr.target = none → (List.range 48).all (fun k => decide (s.now < s.pwr.changed.get k 0 + 8000000000)) = true ∧ temps.all (fun v => decide (-128 ≤ v) && (decide (v < 128) || decide (150 < v))) = true → 
    let bad : Int → Bool := fun v => decide (v < -40) || decide (150 < v)
    let warm : Int → Bool := fun v => !bad v && decide ((s.rd F.PWR_THERM_CFG_WARN_C : Int) ≤ v)
    Completes (.thermalRead temps) s (fun t => temps.zipIdx.all (fun x => t.rd F.PWR_TEMP_TEMP_C x.2 == ofS 8 x.1 && t.on F.PWR_TEMP_VALID x.2 == !bad x.1) = true ∧
    temps.zipIdx.all (fun x => t.pwr.excluded.contains x.2 == bad x.1 && t.pwr.warned.contains x.2 == warm x.1) = true ∧
    temps.zipIdx.all (fun x => t.cntTick.get (cntKey 18 8 x.2) 0 == s.cntTick.get (cntKey 18 8 x.2) 0 + b2n (warm x.1 && !s.pwr.warned.contains x.2)) = true ∧
    t.on F.PWR_STATUS_WARN = !t.pwr.warned.isEmpty ∧ t.rd F.PWR_THERM_STATUS_EXCLUDED = t.pwr.excluded.length % 2 ^ F.PWR_THERM_STATUS_EXCLUDED.width ∧
    temps.all (fun v => bad v || decide (v ≤ t.rdS F.PWR_THERM_STATUS_TJ_MAX)) = true ∧
    (temps.any (fun v => !bad v) = true → temps.getD (t.rd F.PWR_THERM_STATUS_MAX_SENSOR) 0 = t.rdS F.PWR_THERM_STATUS_TJ_MAX) ∧
    t.pwr.throttled = (decide ((s.rd F.PWR_THERM_CFG_THROTTLE_C : Int) ≤ t.tjMax) || decide ((s.rd F.PWR_THERM_CFG_STACK_THROTTLE_C : Int) ≤ s.stackMax)) ∧
    t.flt.held = s.flt.held ++ temps.zipIdx.flatMap (fun x => (if bad x.1 ∧ s.pwr.excluded.contains x.2 = false then [⟨9, 3, 1, x.2, ofS 64 x.1⟩] else []) ++
        (if warm x.1 ∧ s.pwr.warned.contains x.2 = false then [⟨9, 1, 0, x.2, ofS 64 x.1⟩] else [])) ++
      (if t.pwr.throttled = true ∧ s.pwr.throttled = false then [⟨9, 2, 1, t.rd F.PWR_THERM_STATUS_MAX_SENSOR, ofS 64 t.tjMax⟩] else []) ∧ t.ran = 8 :: s.ran ∧ t.qsg = s.qsg)) ∧
  (∀ (s : State) (sensor : Fin 48) (temp : Int) (p : Fin 512), s.pins.porst = false ∧ s.pins.tripped = false ∧ 125 ≤ temp → 
    Completes (.thermtrip sensor temp) s (fun t => t.pins = { s.pins with tripped := true } ∧ t.live = false ∧ t.on F.LAN_PORT_STATUS_TX_EI p.val = true ∧
    t.flt = { s.flt with held := s.flt.held ++ [⟨9, 4, 3, sensor.val, ofS 64 temp⟩] } ∧
    RegsBut s t ((List.range 512).map (fun p => (F.LAN_PORT_STATUS_TX_EI, p))) ∧ t = { s with regs := t.regs, flt := t.flt, pins := t.pins }))

/-- On the state after class 4 of the tick, a part that is hot or draws too much on a rail goes, below step 3, one step deeper, and
step 2 puts its cap on evidence; from step 3 on it goes to step 4 and chooses the next lower frequency, which in a Troupe waits
for its lift. A cool, calm part that draws little goes one step back. In an emergency the clock is lowered at once. The chosen
frequency takes effect at a later control period, in a Troupe not before a later tick than its lift. It also rests on the
model's own readings of log 7 and log 52. -/
def Obligations.PowerStepsFollowTheDecision : Prop :=
  (∀ (s : State), s.live = true ∧ s.now % 8000 = 0 ∧ s.ran.contains 6 = false ∧ s.caughtUp = s → (s.rd F.PWR_THERM_CFG_THROTTLE_C : Int) ≤ s.tjMax ∨ (s.rd F.PWR_THERM_CFG_STACK_THROTTLE_C : Int) ≤ s.stackMax ∨ (List.range 7).any s.railOver = true → s.rd F.PWR_STATUS_STEP < 3 ∧ s.floorStep ≤ s.rd F.PWR_STATUS_STEP ∧ s.pwr.target = none → 
    Completes (.powerDecision) s (fun t => t.rd F.PWR_STATUS_STEP = s.rd F.PWR_STATUS_STEP + 1 ∧ t.pwr.calm = 0 ∧ t.on F.PWR_INT_STATUS_STEP_CHANGE = true ∧
    t.rd F.PWR_STATUS_CORE_MHZ = s.rd F.PWR_STATUS_CORE_MHZ ∧ t.pwr.target = none ∧
    (s.rd F.PWR_STATUS_STEP = 1 → t.rd F.EVR_CAP_POWER_CAP = s.rd F.PWR_STEP2_EVR_CAP) ∧
    (s.rd F.PWR_STATUS_STEP ≠ 1 → t.rd F.EVR_CAP_POWER_CAP = s.rd F.EVR_CAP_POWER_CAP) ∧
    t.cntTick.get (cntKey 18 1 0) 0 = s.cntTick.get (cntKey 18 1 0) 0 + 1 ∧ t.qsg = s.qsg)) ∧
  (∀ (s : State) (f : Nat), s.live = true ∧ s.now % 8000 = 0 ∧ s.ran.contains 6 = false ∧ s.caughtUp = s → (s.rd F.PWR_THERM_CFG_THROTTLE_C : Int) ≤ s.tjMax ∨ (s.rd F.PWR_THERM_CFG_STACK_THROTTLE_C : Int) ≤ s.stackMax ∨ (List.range 7).any s.railOver = true → (s.rd F.PWR_STATUS_STEP = 3 ∨ s.rd F.PWR_STATUS_STEP = 4) ∧ s.floorStep ≤ s.rd F.PWR_STATUS_STEP ∧ s.pwr.target = none → freqBelow (s.rd F.PWR_STATUS_CORE_MHZ) = some f ∧ s.rd F.PWR_STEP4_MIN_MHZ ≤ f → 
    Completes (.powerDecision) s (fun t => t.rd F.PWR_STATUS_STEP = 4 ∧ t.pwr.target = some (f, s.now) ∧ t.rd F.PWR_STATUS_CORE_MHZ = s.rd F.PWR_STATUS_CORE_MHZ ∧
    t.on F.PWR_STATUS_WAIT_LIFT = (s.on F.TRP_CTRL_ENABLE || s.on F.PWR_STATUS_WAIT_LIFT))) ∧
  (∀ (s : State), s.live = true ∧ s.now % 8000 = 0 ∧ s.ran.contains 6 = false ∧ s.caughtUp = s ∧ s.on F.PWR_STATUS_DIVERGED = true ∧ (List.range 7).any s.railOver = false ∧ s.pwr.target = none → (s.rd F.PWR_MEAS_MEAS_W : Int) < (s.limitEff : Int) - s.rd F.PWR_MARGIN_DIV_MARGIN_W - s.rd F.PWR_MARGIN_HYST_W → s.tjMax ≤ (s.rd F.PWR_THERM_CFG_THROTTLE_C : Int) - 5 ∧ s.stackMax ≤ (s.rd F.PWR_THERM_CFG_STACK_THROTTLE_C : Int) - 5 → s.floorStep < s.rd F.PWR_STATUS_STEP ∧ s.rd F.PWR_STATUS_STEP < 4 → 
    let due := decide (s.rd F.PWR_TIMING_RESTORE_MS * 1000 ≤ (s.pwr.calm + 1) * 10)
    Completes (.powerDecision) s (fun t => t.rd F.PWR_STATUS_STEP = s.rd F.PWR_STATUS_STEP - (if due = true then 1 else 0) ∧ t.pwr.calm = (if due = true then 0 else s.pwr.calm + 1) ∧
    t.cntTick.get (cntKey 18 2 0) 0 = s.cntTick.get (cntKey 18 2 0) 0 + (if due = true then 1 else 0) ∧ t.flt = s.flt)) ∧
  (∀ (s : State) (f u : Nat), s.live = true ∧ s.now % 8000 = 0 ∧ s.ran.contains 6 = false ∧ s.caughtUp = s ∧ s.on F.PWR_STATUS_DIVERGED = true ∧ (List.range 7).any s.railOver = false ∧ s.floorStep ≤ 4 → s.pwr.target = some (f, u) ∧ s.on F.PWR_STATUS_WAIT_LIFT = true ∧ s.rd F.PWR_STATUS_STEP = 4 ∧ s.rd F.PWR_STATUS_CORE_MHZ ≠ f ∧ f < 2048 → 120 ≤ s.tjMax ∧ (s.rd F.PWR_THERM_CFG_THROTTLE_C : Int) ≤ s.tjMax → 
    Completes (.powerDecision) s (fun t => t.rd F.PWR_STATUS_CORE_MHZ = f ∧ t.on F.PWR_STATUS_EMERGENCY = true ∧ t.on F.PWR_STATUS_WAIT_LIFT = true ∧
    t.flt.held = s.flt.held ++ [⟨8, 3, 1, 0, s.rd F.PWR_MEAS_MEAS_W⟩] ∧ t.cntTick.get (cntKey 18 4 0) 0 = s.cntTick.get (cntKey 18 4 0) 0 + 1)) ∧
  (∀ (s : State) (f u : Nat), s.live = true ∧ s.now % 8000 = 0 ∧ s.ran.contains 7 = false ∧ s.pwr.target = some (f, u) ∧ f < 2048 → 
    let waits := decide (s.now ≤ u) || (s.on F.PWR_STATUS_WAIT_LIFT && s.on F.TRP_CTRL_ENABLE &&
      (decide (s.rd F.TRP_LIFT_LIFT_NS < s.liftFor f) || s.trp.liftAt.any (fun x => decide (s.now ≤ x))))
    let same := s.rd F.PWR_STATUS_CORE_MHZ == f
    Completes (.clockChange) s (fun t => (if waits = true then t = { s with ran := 7 :: s.ran } else t.rd F.PWR_STATUS_CORE_MHZ = f ∧ t.pwr = { s.pwr with target := none } ∧ t.on F.PWR_STATUS_WAIT_LIFT = false ∧
      t.on F.PWR_STATUS_EMERGENCY = false ∧ t.on F.PWR_INT_STATUS_CLOCK_CHANGE = (s.on F.PWR_INT_STATUS_CLOCK_CHANGE || !same) ∧
      t.cntTick.get (cntKey 18 3 0) 0 = s.cntTick.get (cntKey 18 3 0) 0 + b2n (!same) ∧ t.ran = 7 :: s.ran ∧
      RegsBut s t [(F.PWR_STATUS_CORE_MHZ, 0), (F.PWR_STATUS_WAIT_LIFT, 0), (F.PWR_STATUS_EMERGENCY, 0), (F.PWR_INT_STATUS_CLOCK_CHANGE, 0)])))


/-! ### Identity and counters -/

/-- The public evidence key and the certificate are free values; the KEY_ID is the key's hash, cut short. Making the key sets
EVK_READY, and a failure raises source 10 cause 2. ROTATE is refused before a key is there and while a rotation runs. Its end
makes the old certificate certificate 2 and the new one certificate 1, after a rotation record and the seal of the block under
the old key, and the rotation goes on while a block of the old key is unsigned. CERT_SEL restarts the read of a certificate, and
each read of CERT_DATA takes four bytes. A random source that fails its test raises cause 3 and comes back when it passes. It
also rests on the model's own readings of log 7 and log 53. -/
def Obligations.KeysAreMadeAndRotated : Prop :=
  (∀ (s : State), s.live = true ∧ s.on F.SYS_BOOT_STATUS_IMAGE_OK = true ∧ s.on F.IDN_STATUS_RNG_OK = true ∧ s.on F.IDN_STATUS_EVK_READY = false ∧ s.idn.certs.length = 8 → 
    let pub := be 1 4 ++ padTo 132 ((Config.freeBytes s.freeCount).take 132)
    let cert := Config.evidenceCert ((List.range 4).map (fun i => s.rd F.IDN_UID_VALUE i)) (if s.epoch = 0 then none else some (viewSec (s.viewAt s.now 0))) pub
    Completes (.evkGenerated true) s (fun t => t.on F.IDN_STATUS_EVK_READY = true ∧ t.on F.SYS_BOOT_STATUS_EVK_READY = true ∧
    t.rd2 F.IDN_KEY_ID_LO_VALUE F.IDN_KEY_ID_HI_VALUE = beAt (sha512 pub) 0 8 ∧ t.freeCount = s.freeCount + 1 ∧
    t.idn = { s.idn with certs := s.idn.certs.set 1 cert } ∧ t.evr = s.evr ∧
    RegsBut s t [(F.IDN_STATUS_EVK_READY, 0), (F.SYS_BOOT_STATUS_EVK_READY, 0), (F.IDN_KEY_ID_LO_VALUE, 0), (F.IDN_KEY_ID_HI_VALUE, 0), (F.IDN_CERT_SEL_LENGTH, 0)])) ∧
  (∀ (s : State), s.live = true ∧ s.on F.SYS_BOOT_STATUS_IMAGE_OK = true ∧ s.on F.IDN_STATUS_RNG_OK = true ∧ s.on F.IDN_STATUS_EVK_READY = false → 
    Completes (.evkGenerated false) s (fun t => t = { s with flt := { s.flt with held := s.flt.held ++ [⟨10, 2, 1, 0, 0⟩] } })) ∧
  (∀ (s : State), s.Free (F.IDN_EVK_CTRL_ROTATE.addr 0) → 
    Completes (.rotate 0) s (fun t => (if s.on F.IDN_STATUS_EVK_READY = false then t = { s with resp := some ⟨.notPermitted, []⟩ }
    else if s.on F.IDN_STATUS_ROTATING = true then t = { s with resp := some ⟨.busy, []⟩ }
    else t.resp = some ⟨.ok, []⟩ ∧ t.on F.IDN_STATUS_ROTATING = true ∧ t.idn.keyGen = s.idn.keyGen ∧ t.idn.certs = s.idn.certs ∧
      RegsBut s t ((F.IDN_STATUS_ROTATING, 0) :: digestFields)))) ∧
  (∀ (s : State) (seat : Fin 4), s.Free (F.IDN_EVK_CTRL_ROTATE.addr 0) ∧ seat ≠ 0 → 
    Completes (.rotate seat) s (fun t => t = { s with resp := some ⟨.notOwner, []⟩ })) ∧
  (∀ (s : State), s.live = true ∧ s.on F.IDN_STATUS_ROTATING = true ∧ s.on F.IDN_STATUS_RNG_OK = true ∧ s.idn.oldKey = false ∧ s.idn.certs.length = 8 → s.on F.EVR_STATUS_READY = false ∨ s.evr.held = true → 
    let pub := be 1 4 ++ padTo 132 ((Config.freeBytes s.freeCount).take 132)
    let cert := Config.evidenceCert ((List.range 4).map (fun i => s.rd F.IDN_UID_VALUE i)) (if s.epoch = 0 then none else some (viewSec (s.viewAt s.now 0))) pub
    let waits := s.unsigned.any (fun b => decide (b.keyGen ≤ s.idn.keyGen))
    Completes (.rotationComplete true) s (fun t => t.idn = { s.idn with keyGen := s.idn.keyGen + 1, oldKey := waits, certs := (s.idn.certs.set 2 (nth s.idn.certs 1 [])).set 1 cert } ∧
    t.rd2 F.IDN_KEY_ID_LO_VALUE F.IDN_KEY_ID_HI_VALUE = beAt (sha512 pub) 0 8 ∧ t.on F.IDN_STATUS_ROTATING = waits ∧
    t.on F.IDN_INT_STATUS_ROTATED = true ∧ t.cntTick.get (cntKey 19 2 0) 0 = s.cntTick.get (cntKey 19 2 0) 0 + 1 ∧ t.evr = s.evr ∧
    RegsBut s t [(F.IDN_STATUS_ROTATING, 0), (F.IDN_INT_STATUS_ROTATED, 0), (F.IDN_KEY_ID_LO_VALUE, 0), (F.IDN_KEY_ID_HI_VALUE, 0), (F.IDN_CERT_SEL_LENGTH, 0)])) ∧
  (∀ (s : State) (b : OpenBlock), s.live = true ∧ s.on F.IDN_STATUS_ROTATING = true ∧ s.on F.IDN_STATUS_RNG_OK = true ∧ s.idn.oldKey = false ∧ s.idn.certs.length = 8 → s.on F.EVR_STATUS_READY = true ∧ s.evr.held = false ∧ s.evr.opened = some b ∧ s.evr.blocks.length < 8388608 → 
    Completes (.rotationComplete true) s (fun t => t.evr.opened.map (fun x => x.no) = some (b.no + 1) ∧ t.idn.keyGen = s.idn.keyGen + 1 ∧
    t.evr.blocks.getLast?.map (fun x => (x.no, x.sealTick, x.keyGen, x.trailer)) = some (b.no, s.now, s.idn.keyGen, none) ∧
    t.idn.oldKey = true ∧ t.on F.IDN_STATUS_ROTATING = true ∧ t.on F.IDN_INT_STATUS_ROTATED = true ∧
    t.cntTick.get (cntKey 12 5 1) 0 = s.cntTick.get (cntKey 12 5 1) 0 + 1 ∧ t.cntTick.get (cntKey 12 1 0x16) 0 = s.cntTick.get (cntKey 12 1 0x16) 0 + 1)) ∧
  (∀ (s : State), s.live = true ∧ s.on F.IDN_STATUS_ROTATING = true ∧ s.on F.IDN_STATUS_RNG_OK = true ∧ s.idn.oldKey = false → 
    Completes (.rotationComplete false) s (fun t => t.on F.IDN_STATUS_ROTATING = false ∧ t.flt.held = s.flt.held ++ [⟨10, 2, 1, 0, 0⟩] ∧ t.idn = s.idn ∧ RegsBut s t [(F.IDN_STATUS_ROTATING, 0)])) ∧
  (∀ (s : State) (cert : Fin 8), s.Free (F.IDN_CERT_SEL_CERT.addr 0) → 
    Completes (.certSelWrite 0 cert) s (fun t => t.resp = some ⟨.ok, []⟩ ∧ t.rd F.IDN_CERT_SEL_CERT = cert.val ∧ t.idn.certPos = 0 ∧
    t.rd F.IDN_CERT_SEL_LENGTH = (nth s.idn.certs cert.val []).length % 65536 ∧ t.idn.certs = s.idn.certs ∧
    RegsBut s t ([(F.IDN_CERT_SEL_CERT, 0), (F.IDN_CERT_SEL_LENGTH, 0)] ++ digestFields))) ∧
  (∀ (s : State) (seat : Fin 4), s.live = true → 
    let rest := (nth s.idn.certs (s.rd F.IDN_CERT_SEL_CERT) []).drop s.idn.certPos
    Completes (.certDataRead seat) s (fun t => t = { s with idn := { s.idn with certPos := s.idn.certPos + 4 }, resp := some ⟨.ok, [beNat (rest.take 4 ++ zeros (4 - rest.length))]⟩ })) ∧
  (∀ (s : State), s.live = true ∧ s.on F.IDN_STATUS_RNG_OK = true → 
    Completes (.rngHealthFail) s (fun t => t.on F.IDN_STATUS_RNG_OK = false ∧ t.on F.IDN_INT_STATUS_RNG_FAIL = true ∧ t.flt.held = s.flt.held ++ [⟨10, 3, 1, 0, 0⟩] ∧
    t.cntTick.get (cntKey 19 4 0) 0 = s.cntTick.get (cntKey 19 4 0) 0 + 1 ∧ RegsBut s t [(F.IDN_STATUS_RNG_OK, 0), (F.IDN_INT_STATUS_RNG_FAIL, 0)])) ∧
  (∀ (s : State), s.live = true → 
    Completes (.rngOk) s (fun t => t.on F.IDN_STATUS_RNG_OK = true ∧ RegsBut s t [(F.IDN_STATUS_RNG_OK, 0)] ∧ t = { s with regs := t.regs }))

/-- A fuse operation that the running image allows sets BUSY and its end programs the owner hash or the rollback count; any other is
refused. Programming that fails raises source 10 cause 4. ATTEST_QUOTE is parked with its nonce, a fifth is refused with BUSY;
the signed quote answers with its 98 words, whose signature is a free value. While the random source fails nothing is signed. It
also rests on the model's own readings of log 7 and log 53. -/
def Obligations.FusesAndQuotes : Prop :=
  (∀ (s : State), s.Free (F.IDN_FUSE_CTRL_OP.addr 0) ∧ s.on F.IDN_FUSE_CTRL_BUSY = false → 
    let may := !s.on F.IDN_STATUS_OWNER_EN && s.idn.ownerHash.isNone && (s.idn.image.bind (fun i => i.ownerKey)).isSome
    Completes (.fuseOwnerHash 0) s (fun t => (if may = true then t.resp = some ⟨.ok, []⟩ ∧ t.on F.IDN_FUSE_CTRL_BUSY = true ∧ t.idn.fuseOp = 1 ∧ t.idn.ownerHash = s.idn.ownerHash ∧
      RegsBut s t ((F.IDN_FUSE_CTRL_BUSY, 0) :: digestFields)
    else t = { s with resp := some ⟨.notPermitted, []⟩ }))) ∧
  (∀ (s : State), s.Free (F.IDN_FUSE_CTRL_OP.addr 0) ∧ s.on F.IDN_FUSE_CTRL_BUSY = false → 
    let may := decide (s.idn.rollback.getD (s.rd F.IDN_STATUS_ROLLBACK) < (s.idn.image.map (fun i => i.svn)).getD 0)
    Completes (.fuseRollback 0) s (fun t => (if may = true then t.resp = some ⟨.ok, []⟩ ∧ t.on F.IDN_FUSE_CTRL_BUSY = true ∧ t.idn.fuseOp = 2 ∧ t.idn.rollback = s.idn.rollback ∧
      RegsBut s t ((F.IDN_FUSE_CTRL_BUSY, 0) :: digestFields)
    else t = { s with resp := some ⟨.notPermitted, []⟩ }))) ∧
  (∀ (s : State) (c : Instr), s.Free (F.IDN_FUSE_CTRL_OP.addr 0) ∧ s.on F.IDN_FUSE_CTRL_BUSY = true ∧ (c = .fuseOwnerHash 0 ∨ c = .fuseRollback 0) → 
    Completes (c) s (fun t => t = { s with resp := some ⟨.busy, []⟩ })) ∧
  (∀ (s : State), s.live = true ∧ s.on F.IDN_FUSE_CTRL_BUSY = true → 
    Completes (.fuseProgrammingDone true) s (fun t => t.on F.IDN_FUSE_CTRL_BUSY = false ∧
    t.idn = (if s.idn.fuseOp = 1 then { s.idn with ownerHash := (s.idn.image.bind (fun i => i.ownerKey)).map sha512 }
      else { s.idn with rollback := s.idn.image.map (fun i => i.svn) }) ∧ t.flt = s.flt ∧
    t.cntTick.get (cntKey 19 3 0) 0 = s.cntTick.get (cntKey 19 3 0) 0 + 1 ∧ RegsBut s t [(F.IDN_FUSE_CTRL_BUSY, 0)])) ∧
  (∀ (s : State), s.live = true ∧ s.on F.IDN_FUSE_CTRL_BUSY = true → 
    Completes (.fuseProgrammingDone false) s (fun t => t.on F.IDN_FUSE_CTRL_BUSY = false ∧ t.idn = s.idn ∧ t.flt.held = s.flt.held ++ [⟨10, 4, 1, 0, 0⟩] ∧ RegsBut s t [(F.IDN_FUSE_CTRL_BUSY, 0)])) ∧
  (∀ (s : State) (p : Packet), s.Takes p ∧ p.opcode = 0x50 ∧ p.data.length = 8 ∧ s.idn.quotes.length < 4 → 
    Completes (.attestQuote p) s (fun t => t.idn = { s.idn with quotes := s.idn.quotes ++ [⟨p, s.now, none⟩] } ∧ t.cmd.flights = s.cmd.flights ++ [⟨p, .window, s.cmd.nextSeqNo, true⟩] ∧
    (t.seat p.sender.val).replyFifo = (s.seat p.sender.val).replyFifo ∧ RegsBut s t (seatFields p.sender.val))) ∧
  (∀ (s : State) (p : Packet), s.Takes p ∧ p.opcode = 0x50 ∧ p.data.length = 8 ∧ 4 ≤ s.idn.quotes.length → 
    Completes (.attestQuote p) s (fun t => Replied s t p .busy [] ∧ t.idn = s.idn)) ∧
  (∀ (s : State) (p : Packet) (f : Flight) (u : Nat) (body : Bytes) (rest : List Quote), s.live = true ∧ s.on F.IDN_STATUS_RNG_OK = true ∧ s.idn.quotes = ⟨p, u, some body⟩ :: rest ∧ body.length = 256 → s.flightOf p = some f ∧ f.origin = .window ∧ bit p.flags.toNat 0 = false ∧ s.cmd.seats.length = 4 → s.fifoRoom p.sender.val 103 = true → 
    let words := bytesToWords 98 (body ++ be 66 (Config.freeNat s.freeCount % 2 ^ 521) ++ be 66 (Config.freeNat (s.freeCount + 1) % 2 ^ 521) ++ zeros 4)
    Completes (.quoteSigned) s (fun t => t.resp = some ⟨.ok, words⟩ ∧ t.idn = { s.idn with quotes := rest } ∧ t.cmd.flights = s.cmd.flights.filter (fun f => f.packet != p) ∧
    (t.seat p.sender.val).replyFifo = (s.seat p.sender.val).replyFifo ++
      replyWords p.opcode.toNat 0 p.tag.toNat p.seat.val p.txn.toNat false false s.now words ∧
    t.cntTick.get (cntKey 19 1 0) 0 = s.cntTick.get (cntKey 19 1 0) 0 + 1)) ∧
  (∀ (s : State), s.live = true ∧ s.on F.IDN_STATUS_RNG_OK = false → 
    Completes (.quoteSigned) s (fun t => t = s))

/-- TAKE with a seat's own group and counters that it may read starts a snapshot; another seat's group, or a counter that the seat
may not read, is refused with NOT_OWNER and nothing is taken. At the next boundary every counter of the request, from BASE on,
stands in SNAP_DATA with the tick, and DONE is set. It also rests on the model's own readings of log 17 and log 30. -/
def Obligations.CountersAreSnapped : Prop :=
  (∀ (s : State) (group : Fin 4) (countM1 : BitVec 8), s.Free (F.CNT_SNAP_CTRL_TAKE.addr group.val) ∧ s.cntReq.length = 4 → (List.range (countM1.toNat + 1)).all (fun i => s.mayCount group.val (s.rd F.CNT_SNAP_BASE_BASE group.val * 8 + 8 * i)) = true → 
    Completes (.cntSnapTake group group countM1) s (fun t => t.resp = some ⟨.ok, []⟩ ∧ t.cntReq = s.cntReq.set group.val (some (s.now, s.rd F.CNT_SNAP_BASE_BASE group.val * 8, countM1.toNat + 1)) ∧ t.on F.CNT_SNAP_CTRL_DONE group.val = false ∧
    t.rd F.CNT_SNAP_CTRL_COUNT_M1 group.val = countM1.toNat ∧
    RegsBut s t ([(F.CNT_SNAP_CTRL_DONE, group.val), (F.CNT_SNAP_CTRL_COUNT_M1, group.val)] ++ digestFields))) ∧
  (∀ (s : State) (group : Fin 4) (countM1 : BitVec 8), s.Free (F.CNT_SNAP_CTRL_TAKE.addr group.val) → (List.range (countM1.toNat + 1)).all (fun i => s.mayCount group.val (s.rd F.CNT_SNAP_BASE_BASE group.val * 8 + 8 * i)) = false → 
    Completes (.cntSnapTake group group countM1) s (fun t => t = { s with resp := some ⟨.notOwner, []⟩ })) ∧
  (∀ (s : State) (seat group : Fin 4) (countM1 : BitVec 8), s.Free (F.CNT_SNAP_CTRL_TAKE.addr group.val) ∧ seat ≠ group → 
    Completes (.cntSnapTake seat group countM1) s (fun t => t = { s with resp := some ⟨.notOwner, []⟩ })) ∧
  (∀ (s : State) (group : Fin 4) (u base n i : Nat), s.live = true ∧ s.cntReq.length = 4 ∧ nth s.cntReq group.val none = some (u, base, n) ∧ u < s.now ∧ i < n ∧ n ≤ 256 → 
    Completes (.cntSnapCapture group) s (fun t => t.rd2 F.CNT_SNAP_DATA_LO_VALUE F.CNT_SNAP_DATA_HI_VALUE (256 * group.val + i) = s.cntValue (base + 8 * i) ∧
    t.rd2 F.CNT_SNAP_TICK_LO_VALUE F.CNT_SNAP_TICK_HI_VALUE group.val = s.now % 2 ^ 64 ∧ t.on F.CNT_SNAP_CTRL_DONE group.val = true ∧
    t.cntReq = s.cntReq.set group.val none ∧ t.cnt = s.cnt ∧ t = { s with regs := t.regs, cntReq := t.cntReq }))


/-! ### Reset, links and board pins -/

/-- PORST_N and a trip of a supply monitor give every unit its reset state, whatever it was doing, and keep the VAUX domain and the
fuses; RESET_CAUSE gains the bit of the cause, and that of a thermal trip. A trip of VAUX leaves RESET_CAUSE at 0, and a power-
up of VAUX every register at reset with the fused code on the VID pins, which no reset moves. The release latches the straps and
gives COUNT, GIB and the fuse fields the values that wait for them. The answer of the latest access, the free values drawn and
the queue are the model's own and no part of the hardware. It also rests on the model's own readings of log 5 and log 54. -/
def Obligations.PorstResetsTheWholePart : Prop :=
  (∀ (s : State), 
    Completes (.porstNAssert) s (fun t => t = { State.reset with regs := t.regs, idn := { ownerHash := s.idn.ownerHash, rollback := s.idn.rollback }, pins := { porst := true, tripped := s.pins.tripped, perst := s.pins.perst, ir := s.pins.ir, boundary := s.pins.boundary, vid := s.pins.vid, drive := s.pins.drive }, freeCount := s.freeCount, pending := s.pending } ∧
    t.on F.SYS_RESET_CAUSE_PORST_PIN = true ∧ t.on F.SYS_RESET_CAUSE_THERMTRIP = (s.pins.tripped || s.on F.SYS_RESET_CAUSE_THERMTRIP) ∧
    RegsIf State.reset t (fun k => !inVaux k) ∧
    RegsIf s t (fun k => inVaux k && k != F.SYS_RESET_CAUSE_PORST_PIN.key 0 && k != F.SYS_RESET_CAUSE_THERMTRIP.key 0))) ∧
  (∀ (s : State) (rail : Fin 7), 
    Completes (.supplyMonitorTrip rail) s (fun t => t = { State.reset with regs := t.regs, idn := { ownerHash := s.idn.ownerHash, rollback := s.idn.rollback }, pins := { porst := true, tripped := s.pins.tripped, perst := s.pins.perst, ir := s.pins.ir, boundary := s.pins.boundary, vid := s.pins.vid, drive := s.pins.drive }, freeCount := s.freeCount, pending := s.pending } ∧
    t.on F.SYS_RESET_CAUSE_SUPPLY = (rail.val != 6) ∧ t.rd F.SYS_RESET_CAUSE_SUPPLY_RAIL = rail.val % 6 ∧
    RegsIf State.reset t (fun k => !inVaux k))) ∧
  (∀ (s : State), 
    Completes (.vauxPowerUp) s (fun t => t = { State.reset with regs := [], idn := { ownerHash := s.idn.ownerHash, rollback := s.idn.rollback }, pins := { porst := true, perst := s.pins.perst, vid := Config.fusedVid % 21 }, freeCount := s.freeCount, pending := s.pending })) ∧
  (∀ (s : State) (straps : BitVec 8) (cool : Bool) (c : Fin 4), s.pins.porst = true → 
    let next := fun n : Nat => s.rd F.BUF_POOL_COUNT_NEXT_COUNT_NEXT n
    let exceeds := decide (16777216 < 64 * next 0 + 256 * next 1 + 1024 * next 2 + 4096 * next 3)
    let count := if exceeds = true then F.BUF_POOL_COUNT_COUNT.reset c.val else next c.val
    Completes (.porstNRelease straps cool) s (fun t => t.pins = { s.pins with porst := false, sysrst := false, tripped := s.pins.tripped && !cool, drive := .functional } ∧
    t.rd F.SYS_STRAP_VALUE = straps.toNat ∧ t.rd F.BUF_POOL_COUNT_COUNT c.val = count ∧ t.rd F.BUF_POOL_FREE_FREE c.val = count ∧
    t.rd F.EVR_RING_GIB = s.rd F.EVR_RING_NEXT_GIB ∧ t.rd F.EVR_RING_PIN_LIMIT_GIB = min (s.rd F.EVR_RING_PIN_LIMIT_GIB) (s.rd F.EVR_RING_NEXT_GIB - 8) ∧
    t.on F.IDN_STATUS_OWNER_EN = (s.idn.ownerHash.isSome || s.on F.IDN_STATUS_OWNER_EN) ∧
    t.flt.held = s.flt.held ++ (if exceeds = true then [⟨30, 6, 0, 0, 0⟩] else []) ∧ t.pending = s.pending ∧
    RegsBut s t ((List.range 4).flatMap (fun c => [(F.BUF_POOL_COUNT_COUNT, c), (F.BUF_POOL_FREE_FREE, c)]) ++
      [(F.SYS_STRAP_VALUE, 0), (F.EVR_RING_GIB, 0), (F.EVR_RING_PIN_LIMIT_GIB, 0), (F.IDN_STATUS_OWNER_EN, 0), (F.IDN_STATUS_ROLLBACK, 0)])))

/-- A recognised SYSRST_N empties queues, tables, engines and command state, and keeps the time base, drops the Rate and the steps
that wait, ends a calibration run with RESULT 3, keeps the latched faults, the counters and the stores of Drafen; RESET_SEEN
shows it to every seat. SW_RESET with its key asks for the same in the next tick and sends no reply. A second cause during the
reset adds its bit alone. The reset ends at the later of the releases; the cores then run again on the image that is loaded. It
also rests on the model's own readings of log 54 and log 55. -/
def Obligations.SysrstKeepsWhatTheTableKeeps : Prop :=
  (∀ (s : State) (e : Fin 4), s.pins.porst = false ∧ s.pins.sysrst = false ∧ s.on F.TIM_STATUS_RUN = true ∧ s.pins.swAt = none ∧ s.cmd.seats.length = 4 → 
    Completes (.sysrstNAssert true) s (fun t => t.pins = { s.pins with sysrst := true, sysPin := true } ∧ t.live = false ∧ t.on F.SYS_RESET_CAUSE_SYSRST_PIN = true ∧ t.tim.canopy = s.tim.canopy ∧
    t.tim.params = s.tim.params ∧ t.tim.armedRate = none ∧ t.tim.armedStep = none ∧ t.tim.servoStep = none ∧ t.on F.TIM_STEP_CTRL_PENDING = false ∧
    (s.tsu.cal.isSome = true → t.rd F.TSU_CAL_STATUS_RESULT = 3 ∧ t.on F.TSU_CAL_STATUS_DONE = true ∧ t.on F.TSU_INT_STATUS_CAL_FAIL = true) ∧ t.cnt = s.cnt ∧ t.flt.main = s.flt.main ∧ t.flt.pipes = s.flt.pipes ∧ t.qsg = {} ∧ t.tbl = {} ∧ t.chk = [] ∧
    t.fwd.pipe = [] ∧ t.cmd.txns = [] ∧ t.cmd.flights = [] ∧ (t.seat e.val).cmdFifo = [] ∧ (t.seat e.val).replyFifo = [] ∧
    t.on F.CMD_SEAT_STATUS_RESET_SEEN e.val = true ∧ t.drafen.routine = none ∧
    t.drafen.cores.map (fun c => (c.micro, c.nano, c.pc)) = s.drafen.cores.map (fun c => (c.micro, c.nano, 0)) ∧ t.pending = s.pending)) ∧
  (∀ (s : State), s.pins.porst = false ∧ s.pins.sysrst = true ∧ s.on F.TIM_STATUS_RUN = true ∧ s.pins.swAt = none → 
    Completes (.sysrstNAssert true) s (fun t => t.pins = { s.pins with sysPin := true } ∧ t.on F.SYS_RESET_CAUSE_SYSRST_PIN = true ∧ RegsBut s t [(F.SYS_RESET_CAUSE_SYSRST_PIN, 0)] ∧
    t = { s with regs := t.regs, pins := t.pins })) ∧
  (∀ (s : State) (u : Nat), s.pins.porst = false ∧ s.pins.sysrst = false ∧ s.on F.TIM_STATUS_RUN = true ∧ s.pins.swAt = some u ∧ u < s.now → 
    Completes (.sysrstNAssert false) s (fun t => t.pins = { s.pins with sysrst := true, swAt := none, swUntil := some (u + 801) } ∧ t.on F.SYS_RESET_CAUSE_SW_RESET = true ∧
    t.on F.SYS_RESET_CAUSE_SYSRST_PIN = s.on F.SYS_RESET_CAUSE_SYSRST_PIN ∧ t.qsg = {} ∧ t.tim.canopy = s.tim.canopy)) ∧
  (∀ (s : State), s.pins.porst = true ∨ (s.pins.sysrst = false ∧ s.pins.swAt = none) → 
    Completes (.sysrstNAssert false) s (fun t => t = s)) ∧
  (∀ (s : State), s.pins.porst = false ∧ s.pins.sysrst = true → 
    let sw := s.pins.swUntil.filter (fun u => decide (s.now < u))
    Completes (.sysrstNRelease true) s (fun t => t.pins = { s.pins with sysPin := false, swUntil := sw, sysrst := sw.isSome } ∧ (sw.isSome = true → t = { s with pins := t.pins }) ∧
    (sw.isSome = false ∧ s.evr.opened.isNone = true ∧ s.idn.image.isNone = true → t = { s with pins := t.pins, evr := { s.evr with held := false } }))) ∧
  (∀ (s : State), s.pins.porst = false ∧ s.pins.sysrst = true ∧ s.pins.swUntil = none ∧ s.idn.image.isSome = true → s.rd (coreFld 0) ≠ 3 ∧ s.rd (coreFld 1) ≠ 3 → 
    Completes (.sysrstNRelease true) s (fun t => t.pins = { s.pins with sysPin := false, sysrst := false } ∧ t.on F.CMD_CORE_STATUS_READY = true ∧ t.rd (coreFld 0) = 0 ∧ t.rd (coreFld 1) = 1 ∧
    t.drafen.cores.map (fun c => (c.micro, c.nano, c.pc)) = s.drafen.cores.map (fun c => (c.micro, c.nano, 0)) ∧ t.evr.held = false ∧ t.flt = s.flt)) ∧
  (∀ (s : State) (key : BitVec 8), s.Free (F.SYS_SW_RESET_GO.addr 0) ∧ key = 0xA5 → 
    Completes (.swReset 0 key) s (fun t => t.pins = { s.pins with swAt := some s.now } ∧ t.resp = s.resp ∧ t.qsg = s.qsg ∧ RegsBut s t digestFields)) ∧
  (∀ (s : State) (key : BitVec 8), s.Free (F.SYS_SW_RESET_GO.addr 0) ∧ key ≠ 0xA5 → 
    Completes (.swReset 0 key) s (fun t => t.pins = s.pins ∧ t.resp = some ⟨.ok, []⟩ ∧ RegsBut s t digestFields))

/-- PERSTe_N and a lost link empty the FIFOs of their seats, clear LINK_UP and raise source 38; accepted commands go on and lose
their replies. Training sets LINK_UP of an endpoint's seats. The SMBus target gives the seven contents of its table and NACKs
any other command, and everything while PORST_N is asserted. An instruction that drives the boundary is taken only while PORST_N
is asserted and every rail is in range, else it is BYPASS; IDCODE reads 0x10102A6B. It also rests on the model's own readings of
log 56 and log 57 and log 58. -/
def Obligations.LinksBoardBusAndTap : Prop :=
  (∀ (s : State) (endpoint : Fin 2), s.pins.porst = false ∧ nth s.pins.perst endpoint.val false = false ∧ s.pins.perst.length = 2 ∧ s.cmd.seats.length = 4 → 
    Completes (.perst endpoint true) s (fun t => t.pins = { s.pins with perst := s.pins.perst.set endpoint.val true } ∧
    (s.endpointSeats endpoint.val).all (fun e => !t.on F.CMD_SEAT_STATUS_LINK_UP e && (t.seat e).cmdFifo == [] && (t.seat e).replyFifo == []) = true ∧
    t.flt = { s.flt with held := s.flt.held ++ (s.endpointSeats endpoint.val).map (fun e => ⟨38, 1, 0, e, 0⟩) } ∧ t.cmd.txns = s.cmd.txns ∧
    t.cmd.flights.map (fun f => (f.packet, f.parked)) = s.cmd.flights.map (fun f => (f.packet, f.parked)) ∧
    RegsBut s t ((s.endpointSeats endpoint.val).flatMap (fun e => (F.CMD_SEAT_STATUS_LINK_UP, e) :: seatFields e)))) ∧
  (∀ (s : State) (endpoint : Fin 2), 
    Completes (.perst endpoint false) s (fun t => t = { s with pins := { s.pins with perst := s.pins.perst.set endpoint.val false } })) ∧
  (∀ (s : State) (endpoint : Fin 2), s.pins.porst = false ∧ s.pins.tripped = false ∧ nth s.pins.perst endpoint.val true = false → 
    Completes (.pcieLinkUp endpoint) s (fun t => (s.endpointSeats endpoint.val).all (fun e => t.on F.CMD_SEAT_STATUS_LINK_UP e) = true ∧
    RegsBut s t ((s.endpointSeats endpoint.val).map (fun e => (F.CMD_SEAT_STATUS_LINK_UP, e))) ∧ t = { s with regs := t.regs })) ∧
  (∀ (s : State) (seat : Fin 4), s.pins.porst = false ∧ s.on F.CMD_SEAT_STATUS_LINK_UP seat.val = true ∧ s.cmd.seats.length = 4 → 
    Completes (.pcieLinkLost seat) s (fun t => t.on F.CMD_SEAT_STATUS_LINK_UP seat.val = false ∧ (t.seat seat.val).cmdFifo = [] ∧ (t.seat seat.val).replyFifo = [] ∧
    t.flt = { s.flt with held := s.flt.held ++ [⟨38, 1, 0, seat.val, 0⟩] } ∧ t.cmd.txns = s.cmd.txns ∧
    RegsBut s t ((F.CMD_SEAT_STATUS_LINK_UP, seat.val) :: seatFields seat.val))) ∧
  (∀ (s : State) (cmd : BitVec 8), s.pins.porst = false ∧ s.caughtUp = s ∧ cmd.toNat < 7 → 
    Completes (.smbusRead cmd) s (fun t => t = { s with resp := some ⟨.ok, match cmd.toNat with
      | 0 => [s.wordAt A.SYS_DEVICE_ID]
      | 1 => [s.wordAt A.SYS_BOOT_STATUS]
      | 2 => [s.wordAt A.SYS_RESET_CAUSE]
      | 3 => [s.rd F.FLT_FSW_LO_VALUE, s.rd F.FLT_FSW_HI_VALUE]
      | 4 => [ofS 16 (s.rdS F.PWR_THERM_STATUS_TJ_MAX)]
      | 5 => [s.rd F.PWR_MEAS_MEAS_W]
      | _ => (List.range 4).map (fun i => s.rd F.IDN_UID_VALUE i)⟩ })) ∧
  (∀ (s : State) (cmd : BitVec 8), s.pins.porst = true ∨ (s.caughtUp = s ∧ 7 ≤ cmd.toNat) → 
    Completes (.smbusRead cmd) s (fun t => t = { s with resp := some ⟨.notPermitted, []⟩ })) ∧
  (∀ (s : State) (rails : Bool), 
    let may := s.pins.porst && rails
    Completes (.extest rails) s (fun t => t = { s with pins := { s.pins with ir := if may = true then 0 else 0xFF, drive := if may = true then .extest else .functional } })) ∧
  (∀ (s : State) (rails : Bool), 
    let may := s.pins.porst && rails
    Completes (.highz rails) s (fun t => t = { s with pins := { s.pins with ir := if may = true then 3 else 0xFF, drive := if may = true then .highz else .functional } })) ∧
  (∀ (s : State) (rails : Bool), 
    let may := s.pins.porst && rails
    Completes (.clamp rails) s (fun t => t = { s with pins := { s.pins with ir := if may = true then 4 else 0xFF, drive := if may = true then .clamp else .functional } })) ∧
  (∀ (s : State) (rails : Bool), 
    let may := s.pins.porst && rails
    Completes (.extestPulse rails) s (fun t => t = { s with pins := { s.pins with ir := if may = true then 5 else 0xFF, drive := if may = true then .pulse else .functional } })) ∧
  (∀ (s : State) (rails : Bool), 
    let may := s.pins.porst && rails
    Completes (.extestTrain rails) s (fun t => t = { s with pins := { s.pins with ir := if may = true then 6 else 0xFF, drive := if may = true then .train else .functional } })) ∧
  (∀ (s : State), 
    Completes (.idcode) s (fun t => t = { s with pins := { s.pins with ir := 1, drive := .functional }, resp := some ⟨.ok, [0x10102A6B]⟩ })) ∧
  (∀ (s : State) (bits : Nat), 
    Completes (.samplePreload bits) s (fun t => t = { s with pins := { s.pins with ir := 2, boundary := bits, drive := .functional }, resp := some ⟨.ok, [Config.freeNat s.freeCount]⟩, freeCount := s.freeCount + 1 })) ∧
  (∀ (s : State), 
    Completes (.bypass) s (fun t => t = { s with pins := { s.pins with ir := 0xFF, drive := .functional } })) ∧
  (∀ (s : State), 
    Completes (.tapReset) s (fun t => t = { s with pins := { s.pins with ir := 1, drive := .functional } }))


/-! ### Rules of the whole machine -/

/-- A read of either half of a counter answers OK where the seat is Seat 0, or holds the group's bit of CNT_PERM and, for groups 0
to 3, the port or the queue's port lies in its partition or bit 31 is 1; any other read of a counter answers NOT_OWNER and
changes nothing. The read comes after classes 1 to 6 of its tick. What it answers is the counter's value after class 7 of the
tick before. -/
def Obligations.CountersAreReadByPermission : Prop :=
  ∀ (s : State) (seat : Fin 4) (off : Nat) (c : Counter), 
    s.live = true → s.caughtUp = s → off % 8 = 0 → off < 0x3F0000 → cntAt off = some c →
    let perm := s.rd F.CMD_SEAT_CNT_PERM_GROUPS seat.val
    let port := if c.group = 3 then c.inst / 16 else c.inst
    let may := seat = 0 ∨ (bit perm c.group = true ∧ (c.group ≤ 3 → s.ownsPort seat.val port = true ∨ bit perm 31 = true))
    (may → Completes (.pairLoRead seat (BitVec.ofNat 32 (0x800000 + off))) s (fun t =>
      t.resp = some ⟨.ok, [s.count c.group c.event c.inst % 2 ^ 32]⟩)) ∧
    (may → (s.seat seat.val).capture = none → Completes (.pairHiRead seat (BitVec.ofNat 32 (0x800004 + off))) s (fun t =>
      t.resp = some ⟨.ok, [s.count c.group c.event c.inst % 2 ^ 64 / 2 ^ 32]⟩)) ∧
    (¬may → Completes (.pairLoRead seat (BitVec.ofNat 32 (0x800000 + off))) s (fun t => t = { s with resp := some ⟨.notOwner, []⟩ }) ∧
      Completes (.pairHiRead seat (BitVec.ofNat 32 (0x800004 + off))) s (fun t => t = { s with resp := some ⟨.notOwner, []⟩ }))

/-- A step of a state whose queue is not empty is exec of the command at its front on the state with the rest of the queue. On an
empty queue the part idles. The queue is the model's own (DESIGN CHOICE, log 1). -/
def Obligations.StepRunsTheFrontCommand : Prop :=
  (∀ (s : State) (c : Instr) (rest : List Instr), 
    s.pending = c :: rest → step s = exec c { s with pending := rest }) ∧
  (∀ (s : State), 
    s.pending = [] → step s = .next s)

/-- Whatever the state, no command ends in a fault or a refusal: what goes wrong in the part is a status, a drop, an error line or a
reset, all of them next states. So every state is safe. It also rests on the model's own readings of log 3. -/
def Obligations.NoCommandStopsThePart : Prop :=
  (∀ (c : Instr) (s : State), 
    ∃ t, exec c s = .next t) ∧
  (∀ (s : State), 
    s.Safe)

/-- No command touches the queue. Only the rows of chapter 22 move a pin, but for the thermal trip and the tick that a write of
SW_RESET leaves. Beside the power resets, only the tick and the start of the time base set the Canopy, only the tick changes a
counter, and only the end of a fuse operation programs a fuse. Latched faults come and go only by the Collector, an
acknowledgement, a core that comes back, a power reset, and the commands that commit, fire, decide or read, which first take the
faults of the tick. -/
def Obligations.CommandsKeepToTheirParts : Prop :=
  (∀ (c : Instr) (s t : State), 
    exec c s = .next t → t.pending = s.pending) ∧
  (∀ (c : Instr) (s t : State), 
    exec c s = .next t → movesPins c = false → t.pins = { s.pins with swAt := t.pins.swAt }) ∧
  (∀ (c : Instr) (s t : State), 
    exec c s = .next t → powerReset c = false → (∀ a b d, c ≠ .canopyTick a b d) → c ≠ .timeBaseStart → t.tim.canopy = s.tim.canopy) ∧
  (∀ (c : Instr) (s t : State), 
    exec c s = .next t → powerReset c = false → (∀ a b d, c ≠ .canopyTick a b d) → t.cnt = s.cnt) ∧
  (∀ (c : Instr) (s t : State), 
    exec c s = .next t → (∀ ok, c ≠ .fuseProgrammingDone ok) → t.idn.ownerHash = s.idn.ownerHash ∧ t.idn.rollback = s.idn.rollback) ∧
  (∀ (c : Instr) (s t : State), 
    exec c s = .next t → powerReset c = false → movesLatches c = false → t.flt.main.latches = s.flt.main.latches)

/-- A register write of a seat that ends with any status but OK leaves the part as class 3 of the tick leaves it: only its answer,
and the count of conflicts, tell of it. It also rests on the model's own readings of log 13. -/
def Obligations.RefusedWritesChangeNothing : Prop :=
  ∀ (s t : State) (seat : Fin 4) (addr value mask : Word) (e : Status), 
    s.resp = none → exec (.registerWrite seat false addr value mask) s = .next t → t.resp = some ⟨e, []⟩ → e ≠ .ok →
    t = { s.classThree with resp := t.resp, cntTick := t.cntTick } ∧ (e ≠ .txnConflict → t.cntTick = s.classThree.cntTick)

/-- The words of a packet are LENGTH 32-bit numbers that carry their CRC-32C, and spell that packet again with every field at every
value: opcode, flags, tag, seat, transaction, address, parameter and up to 1,019 data words. -/
def Obligations.PacketsSurviveTheirWords : Prop :=
  ∀ (p : Packet), 
    p.data.length ≤ 1019 → packetOf p.sender (packetWords p) = p ∧ crcHolds (packetWords p) = true ∧
    (packetWords p).length = p.data.length + 5 ∧ (packetWords p).getD 0 0 % 65536 = (packetWords p).length ∧
    (packetWords p).all (fun w => decide (w < 2 ^ 32)) = true

/-- At State.reset: every unit is in its reset state while PORST_N is asserted, and the TAP drives the boundary only then. No
command waits. It also rests on the model's own readings of log 57. -/
def Obligations.ResetKeepsTheRulesOfPowerAndTap : Prop :=
  
    State.reset.Inv ∧ State.reset.pending = []

/-- Where every unit is in its reset state while PORST_N is asserted, and the TAP drives the boundary only then, so it is after any
step: no command, tick, event or fault changes a unit under PORST_N, and the release takes the boundary back. It also rests on
the model's own readings of log 57. -/
def Obligations.EveryStepKeepsTheRulesOfPowerAndTap : Prop :=
  ∀ (s t : State), 
    s.Inv → step s = .next t → t.Inv
end

