-- ==== Sys2Proof/Laws/State.lean ====
section
/-! SUPPORT. What each named update of the state leaves in each field: the lemmas that later proofs cite in place of unfolding
a record update. -/

namespace Sys2Proof.Machine

set_option Elab.async false

variable (s : State)

/-! ### wr -/

@[simp] theorem State.wr_regs (f : Fld) (n v : Nat) : (s.wr f n v).regs = s.regs.put (f.key n) (v % 2 ^ f.width) (f.reset n) := rfl
@[simp] theorem State.wr_prevRegs (f : Fld) (n v : Nat) : (s.wr f n v).prevRegs = s.prevRegs := rfl
@[simp] theorem State.wr_hwSet (f : Fld) (n v : Nat) : (s.wr f n v).hwSet = s.hwSet := rfl
@[simp] theorem State.wr_rcTick (f : Fld) (n v : Nat) : (s.wr f n v).rcTick = s.rcTick := rfl
@[simp] theorem State.wr_cnt (f : Fld) (n v : Nat) : (s.wr f n v).cnt = s.cnt := rfl
@[simp] theorem State.wr_cntTick (f : Fld) (n v : Nat) : (s.wr f n v).cntTick = s.cntTick := rfl
@[simp] theorem State.wr_cntReq (f : Fld) (n v : Nat) : (s.wr f n v).cntReq = s.cntReq := rfl
@[simp] theorem State.wr_tim (f : Fld) (n v : Nat) : (s.wr f n v).tim = s.tim := rfl
@[simp] theorem State.wr_rwSet (f : Fld) (n v : Nat) : (s.wr f n v).rwSet = s.rwSet := rfl
@[simp] theorem State.wr_ran (f : Fld) (n v : Nat) : (s.wr f n v).ran = s.ran := rfl
@[simp] theorem State.wr_tsu (f : Fld) (n v : Nat) : (s.wr f n v).tsu = s.tsu := rfl
@[simp] theorem State.wr_syn (f : Fld) (n v : Nat) : (s.wr f n v).syn = s.syn := rfl
@[simp] theorem State.wr_evr (f : Fld) (n v : Nat) : (s.wr f n v).evr = s.evr := rfl
@[simp] theorem State.wr_flt (f : Fld) (n v : Nat) : (s.wr f n v).flt = s.flt := rfl
@[simp] theorem State.wr_cmd (f : Fld) (n v : Nat) : (s.wr f n v).cmd = s.cmd := rfl
@[simp] theorem State.wr_drafen (f : Fld) (n v : Nat) : (s.wr f n v).drafen = s.drafen := rfl
@[simp] theorem State.wr_fwd (f : Fld) (n v : Nat) : (s.wr f n v).fwd = s.fwd := rfl
@[simp] theorem State.wr_buf (f : Fld) (n v : Nat) : (s.wr f n v).buf = s.buf := rfl
@[simp] theorem State.wr_qsg (f : Fld) (n v : Nat) : (s.wr f n v).qsg = s.qsg := rfl
@[simp] theorem State.wr_tbl (f : Fld) (n v : Nat) : (s.wr f n v).tbl = s.tbl := rfl
@[simp] theorem State.wr_mem (f : Fld) (n v : Nat) : (s.wr f n v).mem = s.mem := rfl
@[simp] theorem State.wr_lan (f : Fld) (n v : Nat) : (s.wr f n v).lan = s.lan := rfl
@[simp] theorem State.wr_csma (f : Fld) (n v : Nat) : (s.wr f n v).csma = s.csma := rfl
@[simp] theorem State.wr_chk (f : Fld) (n v : Nat) : (s.wr f n v).chk = s.chk := rfl
@[simp] theorem State.wr_trp (f : Fld) (n v : Nat) : (s.wr f n v).trp = s.trp := rfl
@[simp] theorem State.wr_pwr (f : Fld) (n v : Nat) : (s.wr f n v).pwr = s.pwr := rfl
@[simp] theorem State.wr_idn (f : Fld) (n v : Nat) : (s.wr f n v).idn = s.idn := rfl
@[simp] theorem State.wr_pins (f : Fld) (n v : Nat) : (s.wr f n v).pins = s.pins := rfl
@[simp] theorem State.wr_resp (f : Fld) (n v : Nat) : (s.wr f n v).resp = s.resp := rfl
@[simp] theorem State.wr_freeCount (f : Fld) (n v : Nat) : (s.wr f n v).freeCount = s.freeCount := rfl
@[simp] theorem State.wr_pending (f : Fld) (n v : Nat) : (s.wr f n v).pending = s.pending := rfl

/-! ### rst -/

@[simp] theorem State.rst_regs (f : Fld) (n : Nat) : (s.rst f n).regs = s.regs.put (f.key n) (f.reset n % 2 ^ f.width) (f.reset n) := rfl
@[simp] theorem State.rst_prevRegs (f : Fld) (n : Nat) : (s.rst f n).prevRegs = s.prevRegs := rfl
@[simp] theorem State.rst_hwSet (f : Fld) (n : Nat) : (s.rst f n).hwSet = s.hwSet := rfl
@[simp] theorem State.rst_rcTick (f : Fld) (n : Nat) : (s.rst f n).rcTick = s.rcTick := rfl
@[simp] theorem State.rst_cnt (f : Fld) (n : Nat) : (s.rst f n).cnt = s.cnt := rfl
@[simp] theorem State.rst_cntTick (f : Fld) (n : Nat) : (s.rst f n).cntTick = s.cntTick := rfl
@[simp] theorem State.rst_cntReq (f : Fld) (n : Nat) : (s.rst f n).cntReq = s.cntReq := rfl
@[simp] theorem State.rst_tim (f : Fld) (n : Nat) : (s.rst f n).tim = s.tim := rfl
@[simp] theorem State.rst_rwSet (f : Fld) (n : Nat) : (s.rst f n).rwSet = s.rwSet := rfl
@[simp] theorem State.rst_ran (f : Fld) (n : Nat) : (s.rst f n).ran = s.ran := rfl
@[simp] theorem State.rst_tsu (f : Fld) (n : Nat) : (s.rst f n).tsu = s.tsu := rfl
@[simp] theorem State.rst_syn (f : Fld) (n : Nat) : (s.rst f n).syn = s.syn := rfl
@[simp] theorem State.rst_evr (f : Fld) (n : Nat) : (s.rst f n).evr = s.evr := rfl
@[simp] theorem State.rst_flt (f : Fld) (n : Nat) : (s.rst f n).flt = s.flt := rfl
@[simp] theorem State.rst_cmd (f : Fld) (n : Nat) : (s.rst f n).cmd = s.cmd := rfl
@[simp] theorem State.rst_drafen (f : Fld) (n : Nat) : (s.rst f n).drafen = s.drafen := rfl
@[simp] theorem State.rst_fwd (f : Fld) (n : Nat) : (s.rst f n).fwd = s.fwd := rfl
@[simp] theorem State.rst_buf (f : Fld) (n : Nat) : (s.rst f n).buf = s.buf := rfl
@[simp] theorem State.rst_qsg (f : Fld) (n : Nat) : (s.rst f n).qsg = s.qsg := rfl
@[simp] theorem State.rst_tbl (f : Fld) (n : Nat) : (s.rst f n).tbl = s.tbl := rfl
@[simp] theorem State.rst_mem (f : Fld) (n : Nat) : (s.rst f n).mem = s.mem := rfl
@[simp] theorem State.rst_lan (f : Fld) (n : Nat) : (s.rst f n).lan = s.lan := rfl
@[simp] theorem State.rst_csma (f : Fld) (n : Nat) : (s.rst f n).csma = s.csma := rfl
@[simp] theorem State.rst_chk (f : Fld) (n : Nat) : (s.rst f n).chk = s.chk := rfl
@[simp] theorem State.rst_trp (f : Fld) (n : Nat) : (s.rst f n).trp = s.trp := rfl
@[simp] theorem State.rst_pwr (f : Fld) (n : Nat) : (s.rst f n).pwr = s.pwr := rfl
@[simp] theorem State.rst_idn (f : Fld) (n : Nat) : (s.rst f n).idn = s.idn := rfl
@[simp] theorem State.rst_pins (f : Fld) (n : Nat) : (s.rst f n).pins = s.pins := rfl
@[simp] theorem State.rst_resp (f : Fld) (n : Nat) : (s.rst f n).resp = s.resp := rfl
@[simp] theorem State.rst_freeCount (f : Fld) (n : Nat) : (s.rst f n).freeCount = s.freeCount := rfl
@[simp] theorem State.rst_pending (f : Fld) (n : Nat) : (s.rst f n).pending = s.pending := rfl

/-! ### wr2 -/

@[simp] theorem State.wr2_prevRegs (lo hi : Fld) (n v : Nat) : (s.wr2 lo hi n v).prevRegs = s.prevRegs := rfl
@[simp] theorem State.wr2_hwSet (lo hi : Fld) (n v : Nat) : (s.wr2 lo hi n v).hwSet = s.hwSet := rfl
@[simp] theorem State.wr2_rcTick (lo hi : Fld) (n v : Nat) : (s.wr2 lo hi n v).rcTick = s.rcTick := rfl
@[simp] theorem State.wr2_cnt (lo hi : Fld) (n v : Nat) : (s.wr2 lo hi n v).cnt = s.cnt := rfl
@[simp] theorem State.wr2_cntTick (lo hi : Fld) (n v : Nat) : (s.wr2 lo hi n v).cntTick = s.cntTick := rfl
@[simp] theorem State.wr2_cntReq (lo hi : Fld) (n v : Nat) : (s.wr2 lo hi n v).cntReq = s.cntReq := rfl
@[simp] theorem State.wr2_tim (lo hi : Fld) (n v : Nat) : (s.wr2 lo hi n v).tim = s.tim := rfl
@[simp] theorem State.wr2_rwSet (lo hi : Fld) (n v : Nat) : (s.wr2 lo hi n v).rwSet = s.rwSet := rfl
@[simp] theorem State.wr2_ran (lo hi : Fld) (n v : Nat) : (s.wr2 lo hi n v).ran = s.ran := rfl
@[simp] theorem State.wr2_tsu (lo hi : Fld) (n v : Nat) : (s.wr2 lo hi n v).tsu = s.tsu := rfl
@[simp] theorem State.wr2_syn (lo hi : Fld) (n v : Nat) : (s.wr2 lo hi n v).syn = s.syn := rfl
@[simp] theorem State.wr2_evr (lo hi : Fld) (n v : Nat) : (s.wr2 lo hi n v).evr = s.evr := rfl
@[simp] theorem State.wr2_flt (lo hi : Fld) (n v : Nat) : (s.wr2 lo hi n v).flt = s.flt := rfl
@[simp] theorem State.wr2_cmd (lo hi : Fld) (n v : Nat) : (s.wr2 lo hi n v).cmd = s.cmd := rfl
@[simp] theorem State.wr2_drafen (lo hi : Fld) (n v : Nat) : (s.wr2 lo hi n v).drafen = s.drafen := rfl
@[simp] theorem State.wr2_fwd (lo hi : Fld) (n v : Nat) : (s.wr2 lo hi n v).fwd = s.fwd := rfl
@[simp] theorem State.wr2_buf (lo hi : Fld) (n v : Nat) : (s.wr2 lo hi n v).buf = s.buf := rfl
@[simp] theorem State.wr2_qsg (lo hi : Fld) (n v : Nat) : (s.wr2 lo hi n v).qsg = s.qsg := rfl
@[simp] theorem State.wr2_tbl (lo hi : Fld) (n v : Nat) : (s.wr2 lo hi n v).tbl = s.tbl := rfl
@[simp] theorem State.wr2_mem (lo hi : Fld) (n v : Nat) : (s.wr2 lo hi n v).mem = s.mem := rfl
@[simp] theorem State.wr2_lan (lo hi : Fld) (n v : Nat) : (s.wr2 lo hi n v).lan = s.lan := rfl
@[simp] theorem State.wr2_csma (lo hi : Fld) (n v : Nat) : (s.wr2 lo hi n v).csma = s.csma := rfl
@[simp] theorem State.wr2_chk (lo hi : Fld) (n v : Nat) : (s.wr2 lo hi n v).chk = s.chk := rfl
@[simp] theorem State.wr2_trp (lo hi : Fld) (n v : Nat) : (s.wr2 lo hi n v).trp = s.trp := rfl
@[simp] theorem State.wr2_pwr (lo hi : Fld) (n v : Nat) : (s.wr2 lo hi n v).pwr = s.pwr := rfl
@[simp] theorem State.wr2_idn (lo hi : Fld) (n v : Nat) : (s.wr2 lo hi n v).idn = s.idn := rfl
@[simp] theorem State.wr2_pins (lo hi : Fld) (n v : Nat) : (s.wr2 lo hi n v).pins = s.pins := rfl
@[simp] theorem State.wr2_resp (lo hi : Fld) (n v : Nat) : (s.wr2 lo hi n v).resp = s.resp := rfl
@[simp] theorem State.wr2_freeCount (lo hi : Fld) (n v : Nat) : (s.wr2 lo hi n v).freeCount = s.freeCount := rfl
@[simp] theorem State.wr2_pending (lo hi : Fld) (n v : Nat) : (s.wr2 lo hi n v).pending = s.pending := rfl

/-! ### raiseBits -/

@[simp] theorem State.raiseBits_regs (f : Fld) (n v : Nat) : (s.raiseBits f n v).regs = s.regs.put (f.key n) ((s.rd f n ||| v) % 2 ^ f.width) (f.reset n) := rfl
@[simp] theorem State.raiseBits_prevRegs (f : Fld) (n v : Nat) : (s.raiseBits f n v).prevRegs = s.prevRegs := rfl
@[simp] theorem State.raiseBits_rcTick (f : Fld) (n v : Nat) : (s.raiseBits f n v).rcTick = s.rcTick := rfl
@[simp] theorem State.raiseBits_cnt (f : Fld) (n v : Nat) : (s.raiseBits f n v).cnt = s.cnt := rfl
@[simp] theorem State.raiseBits_cntTick (f : Fld) (n v : Nat) : (s.raiseBits f n v).cntTick = s.cntTick := rfl
@[simp] theorem State.raiseBits_cntReq (f : Fld) (n v : Nat) : (s.raiseBits f n v).cntReq = s.cntReq := rfl
@[simp] theorem State.raiseBits_tim (f : Fld) (n v : Nat) : (s.raiseBits f n v).tim = s.tim := rfl
@[simp] theorem State.raiseBits_rwSet (f : Fld) (n v : Nat) : (s.raiseBits f n v).rwSet = s.rwSet := rfl
@[simp] theorem State.raiseBits_ran (f : Fld) (n v : Nat) : (s.raiseBits f n v).ran = s.ran := rfl
@[simp] theorem State.raiseBits_tsu (f : Fld) (n v : Nat) : (s.raiseBits f n v).tsu = s.tsu := rfl
@[simp] theorem State.raiseBits_syn (f : Fld) (n v : Nat) : (s.raiseBits f n v).syn = s.syn := rfl
@[simp] theorem State.raiseBits_evr (f : Fld) (n v : Nat) : (s.raiseBits f n v).evr = s.evr := rfl
@[simp] theorem State.raiseBits_flt (f : Fld) (n v : Nat) : (s.raiseBits f n v).flt = s.flt := rfl
@[simp] theorem State.raiseBits_cmd (f : Fld) (n v : Nat) : (s.raiseBits f n v).cmd = s.cmd := rfl
@[simp] theorem State.raiseBits_drafen (f : Fld) (n v : Nat) : (s.raiseBits f n v).drafen = s.drafen := rfl
@[simp] theorem State.raiseBits_fwd (f : Fld) (n v : Nat) : (s.raiseBits f n v).fwd = s.fwd := rfl
@[simp] theorem State.raiseBits_buf (f : Fld) (n v : Nat) : (s.raiseBits f n v).buf = s.buf := rfl
@[simp] theorem State.raiseBits_qsg (f : Fld) (n v : Nat) : (s.raiseBits f n v).qsg = s.qsg := rfl
@[simp] theorem State.raiseBits_tbl (f : Fld) (n v : Nat) : (s.raiseBits f n v).tbl = s.tbl := rfl
@[simp] theorem State.raiseBits_mem (f : Fld) (n v : Nat) : (s.raiseBits f n v).mem = s.mem := rfl
@[simp] theorem State.raiseBits_lan (f : Fld) (n v : Nat) : (s.raiseBits f n v).lan = s.lan := rfl
@[simp] theorem State.raiseBits_csma (f : Fld) (n v : Nat) : (s.raiseBits f n v).csma = s.csma := rfl
@[simp] theorem State.raiseBits_chk (f : Fld) (n v : Nat) : (s.raiseBits f n v).chk = s.chk := rfl
@[simp] theorem State.raiseBits_trp (f : Fld) (n v : Nat) : (s.raiseBits f n v).trp = s.trp := rfl
@[simp] theorem State.raiseBits_pwr (f : Fld) (n v : Nat) : (s.raiseBits f n v).pwr = s.pwr := rfl
@[simp] theorem State.raiseBits_idn (f : Fld) (n v : Nat) : (s.raiseBits f n v).idn = s.idn := rfl
@[simp] theorem State.raiseBits_pins (f : Fld) (n v : Nat) : (s.raiseBits f n v).pins = s.pins := rfl
@[simp] theorem State.raiseBits_resp (f : Fld) (n v : Nat) : (s.raiseBits f n v).resp = s.resp := rfl
@[simp] theorem State.raiseBits_freeCount (f : Fld) (n v : Nat) : (s.raiseBits f n v).freeCount = s.freeCount := rfl
@[simp] theorem State.raiseBits_pending (f : Fld) (n v : Nat) : (s.raiseBits f n v).pending = s.pending := rfl

/-! ### rcNote -/

@[simp] theorem State.rcNote_regs (f : Fld) (n v : Nat) (low : Bool) : (s.rcNote f n v low).regs = s.regs := rfl
@[simp] theorem State.rcNote_prevRegs (f : Fld) (n v : Nat) (low : Bool) : (s.rcNote f n v low).prevRegs = s.prevRegs := rfl
@[simp] theorem State.rcNote_hwSet (f : Fld) (n v : Nat) (low : Bool) : (s.rcNote f n v low).hwSet = s.hwSet := rfl
@[simp] theorem State.rcNote_cnt (f : Fld) (n v : Nat) (low : Bool) : (s.rcNote f n v low).cnt = s.cnt := rfl
@[simp] theorem State.rcNote_cntTick (f : Fld) (n v : Nat) (low : Bool) : (s.rcNote f n v low).cntTick = s.cntTick := rfl
@[simp] theorem State.rcNote_cntReq (f : Fld) (n v : Nat) (low : Bool) : (s.rcNote f n v low).cntReq = s.cntReq := rfl
@[simp] theorem State.rcNote_tim (f : Fld) (n v : Nat) (low : Bool) : (s.rcNote f n v low).tim = s.tim := rfl
@[simp] theorem State.rcNote_rwSet (f : Fld) (n v : Nat) (low : Bool) : (s.rcNote f n v low).rwSet = s.rwSet := rfl
@[simp] theorem State.rcNote_ran (f : Fld) (n v : Nat) (low : Bool) : (s.rcNote f n v low).ran = s.ran := rfl
@[simp] theorem State.rcNote_tsu (f : Fld) (n v : Nat) (low : Bool) : (s.rcNote f n v low).tsu = s.tsu := rfl
@[simp] theorem State.rcNote_syn (f : Fld) (n v : Nat) (low : Bool) : (s.rcNote f n v low).syn = s.syn := rfl
@[simp] theorem State.rcNote_evr (f : Fld) (n v : Nat) (low : Bool) : (s.rcNote f n v low).evr = s.evr := rfl
@[simp] theorem State.rcNote_flt (f : Fld) (n v : Nat) (low : Bool) : (s.rcNote f n v low).flt = s.flt := rfl
@[simp] theorem State.rcNote_cmd (f : Fld) (n v : Nat) (low : Bool) : (s.rcNote f n v low).cmd = s.cmd := rfl
@[simp] theorem State.rcNote_drafen (f : Fld) (n v : Nat) (low : Bool) : (s.rcNote f n v low).drafen = s.drafen := rfl
@[simp] theorem State.rcNote_fwd (f : Fld) (n v : Nat) (low : Bool) : (s.rcNote f n v low).fwd = s.fwd := rfl
@[simp] theorem State.rcNote_buf (f : Fld) (n v : Nat) (low : Bool) : (s.rcNote f n v low).buf = s.buf := rfl
@[simp] theorem State.rcNote_qsg (f : Fld) (n v : Nat) (low : Bool) : (s.rcNote f n v low).qsg = s.qsg := rfl
@[simp] theorem State.rcNote_tbl (f : Fld) (n v : Nat) (low : Bool) : (s.rcNote f n v low).tbl = s.tbl := rfl
@[simp] theorem State.rcNote_mem (f : Fld) (n v : Nat) (low : Bool) : (s.rcNote f n v low).mem = s.mem := rfl
@[simp] theorem State.rcNote_lan (f : Fld) (n v : Nat) (low : Bool) : (s.rcNote f n v low).lan = s.lan := rfl
@[simp] theorem State.rcNote_csma (f : Fld) (n v : Nat) (low : Bool) : (s.rcNote f n v low).csma = s.csma := rfl
@[simp] theorem State.rcNote_chk (f : Fld) (n v : Nat) (low : Bool) : (s.rcNote f n v low).chk = s.chk := rfl
@[simp] theorem State.rcNote_trp (f : Fld) (n v : Nat) (low : Bool) : (s.rcNote f n v low).trp = s.trp := rfl
@[simp] theorem State.rcNote_pwr (f : Fld) (n v : Nat) (low : Bool) : (s.rcNote f n v low).pwr = s.pwr := rfl
@[simp] theorem State.rcNote_idn (f : Fld) (n v : Nat) (low : Bool) : (s.rcNote f n v low).idn = s.idn := rfl
@[simp] theorem State.rcNote_pins (f : Fld) (n v : Nat) (low : Bool) : (s.rcNote f n v low).pins = s.pins := rfl
@[simp] theorem State.rcNote_resp (f : Fld) (n v : Nat) (low : Bool) : (s.rcNote f n v low).resp = s.resp := rfl
@[simp] theorem State.rcNote_freeCount (f : Fld) (n v : Nat) (low : Bool) : (s.rcNote f n v low).freeCount = s.freeCount := rfl
@[simp] theorem State.rcNote_pending (f : Fld) (n v : Nat) (low : Bool) : (s.rcNote f n v low).pending = s.pending := rfl

/-! ### rcMerge -/

@[simp] theorem State.rcMerge_prevRegs : s.rcMerge.prevRegs = s.prevRegs := rfl
@[simp] theorem State.rcMerge_hwSet : s.rcMerge.hwSet = s.hwSet := rfl
@[simp] theorem State.rcMerge_rcTick : s.rcMerge.rcTick = [] := rfl
@[simp] theorem State.rcMerge_cnt : s.rcMerge.cnt = s.cnt := rfl
@[simp] theorem State.rcMerge_cntTick : s.rcMerge.cntTick = s.cntTick := rfl
@[simp] theorem State.rcMerge_cntReq : s.rcMerge.cntReq = s.cntReq := rfl
@[simp] theorem State.rcMerge_tim : s.rcMerge.tim = s.tim := rfl
@[simp] theorem State.rcMerge_rwSet : s.rcMerge.rwSet = s.rwSet := rfl
@[simp] theorem State.rcMerge_ran : s.rcMerge.ran = s.ran := rfl
@[simp] theorem State.rcMerge_tsu : s.rcMerge.tsu = s.tsu := rfl
@[simp] theorem State.rcMerge_syn : s.rcMerge.syn = s.syn := rfl
@[simp] theorem State.rcMerge_evr : s.rcMerge.evr = s.evr := rfl
@[simp] theorem State.rcMerge_flt : s.rcMerge.flt = s.flt := rfl
@[simp] theorem State.rcMerge_cmd : s.rcMerge.cmd = s.cmd := rfl
@[simp] theorem State.rcMerge_drafen : s.rcMerge.drafen = s.drafen := rfl
@[simp] theorem State.rcMerge_fwd : s.rcMerge.fwd = s.fwd := rfl
@[simp] theorem State.rcMerge_buf : s.rcMerge.buf = s.buf := rfl
@[simp] theorem State.rcMerge_qsg : s.rcMerge.qsg = s.qsg := rfl
@[simp] theorem State.rcMerge_tbl : s.rcMerge.tbl = s.tbl := rfl
@[simp] theorem State.rcMerge_mem : s.rcMerge.mem = s.mem := rfl
@[simp] theorem State.rcMerge_lan : s.rcMerge.lan = s.lan := rfl
@[simp] theorem State.rcMerge_csma : s.rcMerge.csma = s.csma := rfl
@[simp] theorem State.rcMerge_chk : s.rcMerge.chk = s.chk := rfl
@[simp] theorem State.rcMerge_trp : s.rcMerge.trp = s.trp := rfl
@[simp] theorem State.rcMerge_pwr : s.rcMerge.pwr = s.pwr := rfl
@[simp] theorem State.rcMerge_idn : s.rcMerge.idn = s.idn := rfl
@[simp] theorem State.rcMerge_pins : s.rcMerge.pins = s.pins := rfl
@[simp] theorem State.rcMerge_resp : s.rcMerge.resp = s.resp := rfl
@[simp] theorem State.rcMerge_freeCount : s.rcMerge.freeCount = s.freeCount := rfl
@[simp] theorem State.rcMerge_pending : s.rcMerge.pending = s.pending := rfl

/-! ### bump -/

@[simp] theorem State.bump_regs (g ev n k : Nat) : (s.bump g ev n k).regs = s.regs := rfl
@[simp] theorem State.bump_prevRegs (g ev n k : Nat) : (s.bump g ev n k).prevRegs = s.prevRegs := rfl
@[simp] theorem State.bump_hwSet (g ev n k : Nat) : (s.bump g ev n k).hwSet = s.hwSet := rfl
@[simp] theorem State.bump_rcTick (g ev n k : Nat) : (s.bump g ev n k).rcTick = s.rcTick := rfl
@[simp] theorem State.bump_cnt (g ev n k : Nat) : (s.bump g ev n k).cnt = s.cnt := rfl
@[simp] theorem State.bump_cntTick (g ev n k : Nat) : (s.bump g ev n k).cntTick = s.cntTick.put (cntKey g ev n) (s.cntTick.get (cntKey g ev n) 0 + k) 0 := rfl
@[simp] theorem State.bump_cntReq (g ev n k : Nat) : (s.bump g ev n k).cntReq = s.cntReq := rfl
@[simp] theorem State.bump_tim (g ev n k : Nat) : (s.bump g ev n k).tim = s.tim := rfl
@[simp] theorem State.bump_rwSet (g ev n k : Nat) : (s.bump g ev n k).rwSet = s.rwSet := rfl
@[simp] theorem State.bump_ran (g ev n k : Nat) : (s.bump g ev n k).ran = s.ran := rfl
@[simp] theorem State.bump_tsu (g ev n k : Nat) : (s.bump g ev n k).tsu = s.tsu := rfl
@[simp] theorem State.bump_syn (g ev n k : Nat) : (s.bump g ev n k).syn = s.syn := rfl
@[simp] theorem State.bump_evr (g ev n k : Nat) : (s.bump g ev n k).evr = s.evr := rfl
@[simp] theorem State.bump_flt (g ev n k : Nat) : (s.bump g ev n k).flt = s.flt := rfl
@[simp] theorem State.bump_cmd (g ev n k : Nat) : (s.bump g ev n k).cmd = s.cmd := rfl
@[simp] theorem State.bump_drafen (g ev n k : Nat) : (s.bump g ev n k).drafen = s.drafen := rfl
@[simp] theorem State.bump_fwd (g ev n k : Nat) : (s.bump g ev n k).fwd = s.fwd := rfl
@[simp] theorem State.bump_buf (g ev n k : Nat) : (s.bump g ev n k).buf = s.buf := rfl
@[simp] theorem State.bump_qsg (g ev n k : Nat) : (s.bump g ev n k).qsg = s.qsg := rfl
@[simp] theorem State.bump_tbl (g ev n k : Nat) : (s.bump g ev n k).tbl = s.tbl := rfl
@[simp] theorem State.bump_mem (g ev n k : Nat) : (s.bump g ev n k).mem = s.mem := rfl
@[simp] theorem State.bump_lan (g ev n k : Nat) : (s.bump g ev n k).lan = s.lan := rfl
@[simp] theorem State.bump_csma (g ev n k : Nat) : (s.bump g ev n k).csma = s.csma := rfl
@[simp] theorem State.bump_chk (g ev n k : Nat) : (s.bump g ev n k).chk = s.chk := rfl
@[simp] theorem State.bump_trp (g ev n k : Nat) : (s.bump g ev n k).trp = s.trp := rfl
@[simp] theorem State.bump_pwr (g ev n k : Nat) : (s.bump g ev n k).pwr = s.pwr := rfl
@[simp] theorem State.bump_idn (g ev n k : Nat) : (s.bump g ev n k).idn = s.idn := rfl
@[simp] theorem State.bump_pins (g ev n k : Nat) : (s.bump g ev n k).pins = s.pins := rfl
@[simp] theorem State.bump_resp (g ev n k : Nat) : (s.bump g ev n k).resp = s.resp := rfl
@[simp] theorem State.bump_freeCount (g ev n k : Nat) : (s.bump g ev n k).freeCount = s.freeCount := rfl
@[simp] theorem State.bump_pending (g ev n k : Nat) : (s.bump g ev n k).pending = s.pending := rfl

/-! ### raiseFault -/

@[simp] theorem State.raiseFault_regs (src cause sev inst val : Nat) : (s.raiseFault src cause sev inst val).regs = s.regs := rfl
@[simp] theorem State.raiseFault_prevRegs (src cause sev inst val : Nat) : (s.raiseFault src cause sev inst val).prevRegs = s.prevRegs := rfl
@[simp] theorem State.raiseFault_hwSet (src cause sev inst val : Nat) : (s.raiseFault src cause sev inst val).hwSet = s.hwSet := rfl
@[simp] theorem State.raiseFault_rcTick (src cause sev inst val : Nat) : (s.raiseFault src cause sev inst val).rcTick = s.rcTick := rfl
@[simp] theorem State.raiseFault_cnt (src cause sev inst val : Nat) : (s.raiseFault src cause sev inst val).cnt = s.cnt := rfl
@[simp] theorem State.raiseFault_cntTick (src cause sev inst val : Nat) : (s.raiseFault src cause sev inst val).cntTick = s.cntTick := rfl
@[simp] theorem State.raiseFault_cntReq (src cause sev inst val : Nat) : (s.raiseFault src cause sev inst val).cntReq = s.cntReq := rfl
@[simp] theorem State.raiseFault_tim (src cause sev inst val : Nat) : (s.raiseFault src cause sev inst val).tim = s.tim := rfl
@[simp] theorem State.raiseFault_rwSet (src cause sev inst val : Nat) : (s.raiseFault src cause sev inst val).rwSet = s.rwSet := rfl
@[simp] theorem State.raiseFault_ran (src cause sev inst val : Nat) : (s.raiseFault src cause sev inst val).ran = s.ran := rfl
@[simp] theorem State.raiseFault_tsu (src cause sev inst val : Nat) : (s.raiseFault src cause sev inst val).tsu = s.tsu := rfl
@[simp] theorem State.raiseFault_syn (src cause sev inst val : Nat) : (s.raiseFault src cause sev inst val).syn = s.syn := rfl
@[simp] theorem State.raiseFault_evr (src cause sev inst val : Nat) : (s.raiseFault src cause sev inst val).evr = s.evr := rfl
@[simp] theorem State.raiseFault_flt (src cause sev inst val : Nat) : (s.raiseFault src cause sev inst val).flt = { s.flt with held := s.flt.held ++ [⟨src, cause, sev, inst, val⟩] } := rfl
@[simp] theorem State.raiseFault_cmd (src cause sev inst val : Nat) : (s.raiseFault src cause sev inst val).cmd = s.cmd := rfl
@[simp] theorem State.raiseFault_drafen (src cause sev inst val : Nat) : (s.raiseFault src cause sev inst val).drafen = s.drafen := rfl
@[simp] theorem State.raiseFault_fwd (src cause sev inst val : Nat) : (s.raiseFault src cause sev inst val).fwd = s.fwd := rfl
@[simp] theorem State.raiseFault_buf (src cause sev inst val : Nat) : (s.raiseFault src cause sev inst val).buf = s.buf := rfl
@[simp] theorem State.raiseFault_qsg (src cause sev inst val : Nat) : (s.raiseFault src cause sev inst val).qsg = s.qsg := rfl
@[simp] theorem State.raiseFault_tbl (src cause sev inst val : Nat) : (s.raiseFault src cause sev inst val).tbl = s.tbl := rfl
@[simp] theorem State.raiseFault_mem (src cause sev inst val : Nat) : (s.raiseFault src cause sev inst val).mem = s.mem := rfl
@[simp] theorem State.raiseFault_lan (src cause sev inst val : Nat) : (s.raiseFault src cause sev inst val).lan = s.lan := rfl
@[simp] theorem State.raiseFault_csma (src cause sev inst val : Nat) : (s.raiseFault src cause sev inst val).csma = s.csma := rfl
@[simp] theorem State.raiseFault_chk (src cause sev inst val : Nat) : (s.raiseFault src cause sev inst val).chk = s.chk := rfl
@[simp] theorem State.raiseFault_trp (src cause sev inst val : Nat) : (s.raiseFault src cause sev inst val).trp = s.trp := rfl
@[simp] theorem State.raiseFault_pwr (src cause sev inst val : Nat) : (s.raiseFault src cause sev inst val).pwr = s.pwr := rfl
@[simp] theorem State.raiseFault_idn (src cause sev inst val : Nat) : (s.raiseFault src cause sev inst val).idn = s.idn := rfl
@[simp] theorem State.raiseFault_pins (src cause sev inst val : Nat) : (s.raiseFault src cause sev inst val).pins = s.pins := rfl
@[simp] theorem State.raiseFault_resp (src cause sev inst val : Nat) : (s.raiseFault src cause sev inst val).resp = s.resp := rfl
@[simp] theorem State.raiseFault_freeCount (src cause sev inst val : Nat) : (s.raiseFault src cause sev inst val).freeCount = s.freeCount := rfl
@[simp] theorem State.raiseFault_pending (src cause sev inst val : Nat) : (s.raiseFault src cause sev inst val).pending = s.pending := rfl

/-! ### answer -/

@[simp] theorem State.answer_regs (st : Status) (data : List Nat) : (s.answer st data).regs = s.regs := rfl
@[simp] theorem State.answer_prevRegs (st : Status) (data : List Nat) : (s.answer st data).prevRegs = s.prevRegs := rfl
@[simp] theorem State.answer_hwSet (st : Status) (data : List Nat) : (s.answer st data).hwSet = s.hwSet := rfl
@[simp] theorem State.answer_rcTick (st : Status) (data : List Nat) : (s.answer st data).rcTick = s.rcTick := rfl
@[simp] theorem State.answer_cnt (st : Status) (data : List Nat) : (s.answer st data).cnt = s.cnt := rfl
@[simp] theorem State.answer_cntTick (st : Status) (data : List Nat) : (s.answer st data).cntTick = s.cntTick := rfl
@[simp] theorem State.answer_cntReq (st : Status) (data : List Nat) : (s.answer st data).cntReq = s.cntReq := rfl
@[simp] theorem State.answer_tim (st : Status) (data : List Nat) : (s.answer st data).tim = s.tim := rfl
@[simp] theorem State.answer_rwSet (st : Status) (data : List Nat) : (s.answer st data).rwSet = s.rwSet := rfl
@[simp] theorem State.answer_ran (st : Status) (data : List Nat) : (s.answer st data).ran = s.ran := rfl
@[simp] theorem State.answer_tsu (st : Status) (data : List Nat) : (s.answer st data).tsu = s.tsu := rfl
@[simp] theorem State.answer_syn (st : Status) (data : List Nat) : (s.answer st data).syn = s.syn := rfl
@[simp] theorem State.answer_evr (st : Status) (data : List Nat) : (s.answer st data).evr = s.evr := rfl
@[simp] theorem State.answer_flt (st : Status) (data : List Nat) : (s.answer st data).flt = s.flt := rfl
@[simp] theorem State.answer_cmd (st : Status) (data : List Nat) : (s.answer st data).cmd = s.cmd := rfl
@[simp] theorem State.answer_drafen (st : Status) (data : List Nat) : (s.answer st data).drafen = s.drafen := rfl
@[simp] theorem State.answer_fwd (st : Status) (data : List Nat) : (s.answer st data).fwd = s.fwd := rfl
@[simp] theorem State.answer_buf (st : Status) (data : List Nat) : (s.answer st data).buf = s.buf := rfl
@[simp] theorem State.answer_qsg (st : Status) (data : List Nat) : (s.answer st data).qsg = s.qsg := rfl
@[simp] theorem State.answer_tbl (st : Status) (data : List Nat) : (s.answer st data).tbl = s.tbl := rfl
@[simp] theorem State.answer_mem (st : Status) (data : List Nat) : (s.answer st data).mem = s.mem := rfl
@[simp] theorem State.answer_lan (st : Status) (data : List Nat) : (s.answer st data).lan = s.lan := rfl
@[simp] theorem State.answer_csma (st : Status) (data : List Nat) : (s.answer st data).csma = s.csma := rfl
@[simp] theorem State.answer_chk (st : Status) (data : List Nat) : (s.answer st data).chk = s.chk := rfl
@[simp] theorem State.answer_trp (st : Status) (data : List Nat) : (s.answer st data).trp = s.trp := rfl
@[simp] theorem State.answer_pwr (st : Status) (data : List Nat) : (s.answer st data).pwr = s.pwr := rfl
@[simp] theorem State.answer_idn (st : Status) (data : List Nat) : (s.answer st data).idn = s.idn := rfl
@[simp] theorem State.answer_pins (st : Status) (data : List Nat) : (s.answer st data).pins = s.pins := rfl
@[simp] theorem State.answer_resp (st : Status) (data : List Nat) : (s.answer st data).resp = some ⟨st, data⟩ := rfl
@[simp] theorem State.answer_freeCount (st : Status) (data : List Nat) : (s.answer st data).freeCount = s.freeCount := rfl
@[simp] theorem State.answer_pending (st : Status) (data : List Nat) : (s.answer st data).pending = s.pending := rfl

/-! ### refreshQuotes -/

@[simp] theorem State.refreshQuotes_regs : s.refreshQuotes.regs = s.regs := rfl
@[simp] theorem State.refreshQuotes_prevRegs : s.refreshQuotes.prevRegs = s.prevRegs := rfl
@[simp] theorem State.refreshQuotes_hwSet : s.refreshQuotes.hwSet = s.hwSet := rfl
@[simp] theorem State.refreshQuotes_rcTick : s.refreshQuotes.rcTick = s.rcTick := rfl
@[simp] theorem State.refreshQuotes_cnt : s.refreshQuotes.cnt = s.cnt := rfl
@[simp] theorem State.refreshQuotes_cntTick : s.refreshQuotes.cntTick = s.cntTick := rfl
@[simp] theorem State.refreshQuotes_cntReq : s.refreshQuotes.cntReq = s.cntReq := rfl
@[simp] theorem State.refreshQuotes_tim : s.refreshQuotes.tim = s.tim := rfl
@[simp] theorem State.refreshQuotes_rwSet : s.refreshQuotes.rwSet = s.rwSet := rfl
@[simp] theorem State.refreshQuotes_ran : s.refreshQuotes.ran = s.ran := rfl
@[simp] theorem State.refreshQuotes_tsu : s.refreshQuotes.tsu = s.tsu := rfl
@[simp] theorem State.refreshQuotes_syn : s.refreshQuotes.syn = s.syn := rfl
@[simp] theorem State.refreshQuotes_evr : s.refreshQuotes.evr = s.evr := rfl
@[simp] theorem State.refreshQuotes_flt : s.refreshQuotes.flt = s.flt := rfl
@[simp] theorem State.refreshQuotes_cmd : s.refreshQuotes.cmd = s.cmd := rfl
@[simp] theorem State.refreshQuotes_drafen : s.refreshQuotes.drafen = s.drafen := rfl
@[simp] theorem State.refreshQuotes_fwd : s.refreshQuotes.fwd = s.fwd := rfl
@[simp] theorem State.refreshQuotes_buf : s.refreshQuotes.buf = s.buf := rfl
@[simp] theorem State.refreshQuotes_qsg : s.refreshQuotes.qsg = s.qsg := rfl
@[simp] theorem State.refreshQuotes_tbl : s.refreshQuotes.tbl = s.tbl := rfl
@[simp] theorem State.refreshQuotes_mem : s.refreshQuotes.mem = s.mem := rfl
@[simp] theorem State.refreshQuotes_lan : s.refreshQuotes.lan = s.lan := rfl
@[simp] theorem State.refreshQuotes_csma : s.refreshQuotes.csma = s.csma := rfl
@[simp] theorem State.refreshQuotes_chk : s.refreshQuotes.chk = s.chk := rfl
@[simp] theorem State.refreshQuotes_trp : s.refreshQuotes.trp = s.trp := rfl
@[simp] theorem State.refreshQuotes_pwr : s.refreshQuotes.pwr = s.pwr := rfl
@[simp] theorem State.refreshQuotes_pins : s.refreshQuotes.pins = s.pins := rfl
@[simp] theorem State.refreshQuotes_resp : s.refreshQuotes.resp = s.resp := rfl
@[simp] theorem State.refreshQuotes_freeCount : s.refreshQuotes.freeCount = s.freeCount := rfl
@[simp] theorem State.refreshQuotes_pending : s.refreshQuotes.pending = s.pending := rfl

/-! ### implicitTxn -/

@[simp] theorem State.implicitTxn_regs (seat : Nat) (w : List StagedWord) (e : List StagedEntry) (p : Option Packet) : (s.implicitTxn seat w e p).regs = s.regs := rfl
@[simp] theorem State.implicitTxn_prevRegs (seat : Nat) (w : List StagedWord) (e : List StagedEntry) (p : Option Packet) : (s.implicitTxn seat w e p).prevRegs = s.prevRegs := rfl
@[simp] theorem State.implicitTxn_hwSet (seat : Nat) (w : List StagedWord) (e : List StagedEntry) (p : Option Packet) : (s.implicitTxn seat w e p).hwSet = s.hwSet := rfl
@[simp] theorem State.implicitTxn_rcTick (seat : Nat) (w : List StagedWord) (e : List StagedEntry) (p : Option Packet) : (s.implicitTxn seat w e p).rcTick = s.rcTick := rfl
@[simp] theorem State.implicitTxn_cnt (seat : Nat) (w : List StagedWord) (e : List StagedEntry) (p : Option Packet) : (s.implicitTxn seat w e p).cnt = s.cnt := rfl
@[simp] theorem State.implicitTxn_cntTick (seat : Nat) (w : List StagedWord) (e : List StagedEntry) (p : Option Packet) : (s.implicitTxn seat w e p).cntTick = s.cntTick := rfl
@[simp] theorem State.implicitTxn_cntReq (seat : Nat) (w : List StagedWord) (e : List StagedEntry) (p : Option Packet) : (s.implicitTxn seat w e p).cntReq = s.cntReq := rfl
@[simp] theorem State.implicitTxn_tim (seat : Nat) (w : List StagedWord) (e : List StagedEntry) (p : Option Packet) : (s.implicitTxn seat w e p).tim = s.tim := rfl
@[simp] theorem State.implicitTxn_rwSet (seat : Nat) (w : List StagedWord) (e : List StagedEntry) (p : Option Packet) : (s.implicitTxn seat w e p).rwSet = s.rwSet := rfl
@[simp] theorem State.implicitTxn_ran (seat : Nat) (w : List StagedWord) (e : List StagedEntry) (p : Option Packet) : (s.implicitTxn seat w e p).ran = s.ran := rfl
@[simp] theorem State.implicitTxn_tsu (seat : Nat) (w : List StagedWord) (e : List StagedEntry) (p : Option Packet) : (s.implicitTxn seat w e p).tsu = s.tsu := rfl
@[simp] theorem State.implicitTxn_syn (seat : Nat) (w : List StagedWord) (e : List StagedEntry) (p : Option Packet) : (s.implicitTxn seat w e p).syn = s.syn.takeId := rfl
@[simp] theorem State.implicitTxn_evr (seat : Nat) (w : List StagedWord) (e : List StagedEntry) (p : Option Packet) : (s.implicitTxn seat w e p).evr = s.evr := rfl
@[simp] theorem State.implicitTxn_flt (seat : Nat) (w : List StagedWord) (e : List StagedEntry) (p : Option Packet) : (s.implicitTxn seat w e p).flt = s.flt := rfl
@[simp] theorem State.implicitTxn_drafen (seat : Nat) (w : List StagedWord) (e : List StagedEntry) (p : Option Packet) : (s.implicitTxn seat w e p).drafen = s.drafen := rfl
@[simp] theorem State.implicitTxn_fwd (seat : Nat) (w : List StagedWord) (e : List StagedEntry) (p : Option Packet) : (s.implicitTxn seat w e p).fwd = s.fwd := rfl
@[simp] theorem State.implicitTxn_buf (seat : Nat) (w : List StagedWord) (e : List StagedEntry) (p : Option Packet) : (s.implicitTxn seat w e p).buf = s.buf := rfl
@[simp] theorem State.implicitTxn_qsg (seat : Nat) (w : List StagedWord) (e : List StagedEntry) (p : Option Packet) : (s.implicitTxn seat w e p).qsg = s.qsg := rfl
@[simp] theorem State.implicitTxn_tbl (seat : Nat) (w : List StagedWord) (e : List StagedEntry) (p : Option Packet) : (s.implicitTxn seat w e p).tbl = s.tbl.stageRows (4096 + s.syn.nextAction) s.now e := rfl
@[simp] theorem State.implicitTxn_mem (seat : Nat) (w : List StagedWord) (e : List StagedEntry) (p : Option Packet) : (s.implicitTxn seat w e p).mem = s.mem := rfl
@[simp] theorem State.implicitTxn_lan (seat : Nat) (w : List StagedWord) (e : List StagedEntry) (p : Option Packet) : (s.implicitTxn seat w e p).lan = s.lan := rfl
@[simp] theorem State.implicitTxn_csma (seat : Nat) (w : List StagedWord) (e : List StagedEntry) (p : Option Packet) : (s.implicitTxn seat w e p).csma = s.csma := rfl
@[simp] theorem State.implicitTxn_chk (seat : Nat) (w : List StagedWord) (e : List StagedEntry) (p : Option Packet) : (s.implicitTxn seat w e p).chk = s.chk := rfl
@[simp] theorem State.implicitTxn_trp (seat : Nat) (w : List StagedWord) (e : List StagedEntry) (p : Option Packet) : (s.implicitTxn seat w e p).trp = s.trp := rfl
@[simp] theorem State.implicitTxn_pwr (seat : Nat) (w : List StagedWord) (e : List StagedEntry) (p : Option Packet) : (s.implicitTxn seat w e p).pwr = s.pwr := rfl
@[simp] theorem State.implicitTxn_idn (seat : Nat) (w : List StagedWord) (e : List StagedEntry) (p : Option Packet) : (s.implicitTxn seat w e p).idn = s.idn := rfl
@[simp] theorem State.implicitTxn_pins (seat : Nat) (w : List StagedWord) (e : List StagedEntry) (p : Option Packet) : (s.implicitTxn seat w e p).pins = s.pins := rfl
@[simp] theorem State.implicitTxn_resp (seat : Nat) (w : List StagedWord) (e : List StagedEntry) (p : Option Packet) : (s.implicitTxn seat w e p).resp = s.resp := rfl
@[simp] theorem State.implicitTxn_freeCount (seat : Nat) (w : List StagedWord) (e : List StagedEntry) (p : Option Packet) : (s.implicitTxn seat w e p).freeCount = s.freeCount := rfl
@[simp] theorem State.implicitTxn_pending (seat : Nat) (w : List StagedWord) (e : List StagedEntry) (p : Option Packet) : (s.implicitTxn seat w e p).pending = s.pending := rfl

/-! ### inside -/

@[simp] theorem State.inside_regs (t : State) : (s.inside t).regs = t.regs := rfl
@[simp] theorem State.inside_prevRegs (t : State) : (s.inside t).prevRegs = t.prevRegs := rfl
@[simp] theorem State.inside_hwSet (t : State) : (s.inside t).hwSet = t.hwSet := rfl
@[simp] theorem State.inside_rcTick (t : State) : (s.inside t).rcTick = t.rcTick := rfl
@[simp] theorem State.inside_cnt (t : State) : (s.inside t).cnt = t.cnt := rfl
@[simp] theorem State.inside_cntTick (t : State) : (s.inside t).cntTick = t.cntTick := rfl
@[simp] theorem State.inside_cntReq (t : State) : (s.inside t).cntReq = t.cntReq := rfl
@[simp] theorem State.inside_tim (t : State) : (s.inside t).tim = t.tim := rfl
@[simp] theorem State.inside_rwSet (t : State) : (s.inside t).rwSet = t.rwSet := rfl
@[simp] theorem State.inside_ran (t : State) : (s.inside t).ran = t.ran := rfl
@[simp] theorem State.inside_tsu (t : State) : (s.inside t).tsu = t.tsu := rfl
@[simp] theorem State.inside_syn (t : State) : (s.inside t).syn = t.syn := rfl
@[simp] theorem State.inside_evr (t : State) : (s.inside t).evr = t.evr := rfl
@[simp] theorem State.inside_flt (t : State) : (s.inside t).flt = t.flt := rfl
@[simp] theorem State.inside_cmd (t : State) : (s.inside t).cmd = t.cmd := rfl
@[simp] theorem State.inside_drafen (t : State) : (s.inside t).drafen = t.drafen := rfl
@[simp] theorem State.inside_fwd (t : State) : (s.inside t).fwd = t.fwd := rfl
@[simp] theorem State.inside_buf (t : State) : (s.inside t).buf = t.buf := rfl
@[simp] theorem State.inside_qsg (t : State) : (s.inside t).qsg = t.qsg := rfl
@[simp] theorem State.inside_tbl (t : State) : (s.inside t).tbl = t.tbl := rfl
@[simp] theorem State.inside_mem (t : State) : (s.inside t).mem = t.mem := rfl
@[simp] theorem State.inside_lan (t : State) : (s.inside t).lan = t.lan := rfl
@[simp] theorem State.inside_csma (t : State) : (s.inside t).csma = t.csma := rfl
@[simp] theorem State.inside_chk (t : State) : (s.inside t).chk = t.chk := rfl
@[simp] theorem State.inside_trp (t : State) : (s.inside t).trp = t.trp := rfl
@[simp] theorem State.inside_pwr (t : State) : (s.inside t).pwr = t.pwr := rfl
@[simp] theorem State.inside_idn (t : State) : (s.inside t).idn = t.idn := rfl
@[simp] theorem State.inside_pins (t : State) : (s.inside t).pins = { s.pins with swAt := t.pins.swAt } := rfl
@[simp] theorem State.inside_resp (t : State) : (s.inside t).resp = t.resp := rfl
@[simp] theorem State.inside_freeCount (t : State) : (s.inside t).freeCount = t.freeCount := rfl
@[simp] theorem State.inside_pending (t : State) : (s.inside t).pending = s.pending := rfl

/-! ### fresh -/

@[simp] theorem State.fresh_regs : s.fresh.2.regs = s.regs := rfl
@[simp] theorem State.fresh_prevRegs : s.fresh.2.prevRegs = s.prevRegs := rfl
@[simp] theorem State.fresh_hwSet : s.fresh.2.hwSet = s.hwSet := rfl
@[simp] theorem State.fresh_rcTick : s.fresh.2.rcTick = s.rcTick := rfl
@[simp] theorem State.fresh_cnt : s.fresh.2.cnt = s.cnt := rfl
@[simp] theorem State.fresh_cntTick : s.fresh.2.cntTick = s.cntTick := rfl
@[simp] theorem State.fresh_cntReq : s.fresh.2.cntReq = s.cntReq := rfl
@[simp] theorem State.fresh_tim : s.fresh.2.tim = s.tim := rfl
@[simp] theorem State.fresh_rwSet : s.fresh.2.rwSet = s.rwSet := rfl
@[simp] theorem State.fresh_ran : s.fresh.2.ran = s.ran := rfl
@[simp] theorem State.fresh_tsu : s.fresh.2.tsu = s.tsu := rfl
@[simp] theorem State.fresh_syn : s.fresh.2.syn = s.syn := rfl
@[simp] theorem State.fresh_evr : s.fresh.2.evr = s.evr := rfl
@[simp] theorem State.fresh_flt : s.fresh.2.flt = s.flt := rfl
@[simp] theorem State.fresh_cmd : s.fresh.2.cmd = s.cmd := rfl
@[simp] theorem State.fresh_drafen : s.fresh.2.drafen = s.drafen := rfl
@[simp] theorem State.fresh_fwd : s.fresh.2.fwd = s.fwd := rfl
@[simp] theorem State.fresh_buf : s.fresh.2.buf = s.buf := rfl
@[simp] theorem State.fresh_qsg : s.fresh.2.qsg = s.qsg := rfl
@[simp] theorem State.fresh_tbl : s.fresh.2.tbl = s.tbl := rfl
@[simp] theorem State.fresh_mem : s.fresh.2.mem = s.mem := rfl
@[simp] theorem State.fresh_lan : s.fresh.2.lan = s.lan := rfl
@[simp] theorem State.fresh_csma : s.fresh.2.csma = s.csma := rfl
@[simp] theorem State.fresh_chk : s.fresh.2.chk = s.chk := rfl
@[simp] theorem State.fresh_trp : s.fresh.2.trp = s.trp := rfl
@[simp] theorem State.fresh_pwr : s.fresh.2.pwr = s.pwr := rfl
@[simp] theorem State.fresh_idn : s.fresh.2.idn = s.idn := rfl
@[simp] theorem State.fresh_pins : s.fresh.2.pins = s.pins := rfl
@[simp] theorem State.fresh_resp : s.fresh.2.resp = s.resp := rfl
@[simp] theorem State.fresh_freeCount : s.fresh.2.freeCount = s.freeCount + 1 := rfl
@[simp] theorem State.fresh_pending : s.fresh.2.pending = s.pending := rfl

end Sys2Proof.Machine
end

