-- ==== Sys2Proof/Laws/Store.lean ====
section
/-! SUPPORT. The laws of the sparse stores and of the registers over them: a read after a write, other places left alone, and the
canonical form kept. -/

namespace Sys2Proof.Machine

set_option Elab.async false

/-! ### Sparse stores -/

theorem SMap.get_erase_same (m : SMap) (k d : Nat) : SMap.get (SMap.erase m k) k d = d := by
  induction m with
  | nil => rfl
  | cons p rest ih =>
    obtain ⟨k', v⟩ := p
    by_cases h : k' = k
    · simp [SMap.erase, h, ih]
    · simp [SMap.erase, SMap.get, h, ih]

theorem SMap.get_erase_other (m : SMap) {k j : Nat} (h : k ≠ j) (d : Nat) :
    SMap.get (SMap.erase m k) j d = SMap.get m j d := by
  induction m with
  | nil => rfl
  | cons p rest ih =>
    obtain ⟨k', v⟩ := p
    by_cases hk : k' = k
    · subst hk; simp [SMap.erase, SMap.get, h, ih]
    · simp [SMap.erase, SMap.get, hk, ih]

theorem SMap.get_ins_other (m : SMap) {k j : Nat} (h : k ≠ j) (v d : Nat) :
    SMap.get (SMap.ins m k v) j d = SMap.get m j d := by
  induction m with
  | nil => simp [SMap.ins, SMap.get, h]
  | cons p rest ih =>
    obtain ⟨k', v'⟩ := p
    by_cases hk : k < k'
    · simp [SMap.ins, SMap.get, hk, h]
    · simp [SMap.ins, SMap.get, hk, ih]

theorem SMap.get_ins_erase_same (m : SMap) (k v d : Nat) :
    SMap.get (SMap.ins (SMap.erase m k) k v) k d = v := by
  induction m with
  | nil => simp [SMap.erase, SMap.ins, SMap.get]
  | cons p rest ih =>
    obtain ⟨k', v'⟩ := p
    by_cases hk : k' = k
    · simp [SMap.erase, hk, ih]
    · by_cases hlt : k < k'
      · simp [SMap.erase, SMap.ins, SMap.get, hk, hlt]
      · simp [SMap.erase, SMap.ins, SMap.get, hk, hlt, ih]

/-- A read after a write to the same place gives the value written. -/
@[simp] theorem SMap.get_put_same (m : SMap) (k v d : Nat) : SMap.get (SMap.put m k v d) k d = v := by
  unfold SMap.put
  split
  · next h => subst h; exact SMap.get_erase_same m k v
  · exact SMap.get_ins_erase_same m k v d

/-- A write leaves every other place alone. -/
theorem SMap.get_put_other (m : SMap) {k j : Nat} (h : k ≠ j) (v d e : Nat) :
    SMap.get (SMap.put m k v d) j e = SMap.get m j e := by
  unfold SMap.put
  split
  · exact SMap.get_erase_other m h e
  · rw [SMap.get_ins_other _ h, SMap.get_erase_other m h e]

/-- A lower bound on the keys may be lowered. -/
theorem SMap.rising_mono {m : SMap} {b c : Nat} (h : SMap.rising (some c) m = true) (hb : b ≤ c) :
    SMap.rising (some b) m = true := by
  cases m with
  | nil => rfl
  | cons p rest =>
    simp only [SMap.rising, Bool.and_eq_true, decide_eq_true_eq] at h ⊢
    exact ⟨by omega, h.2⟩

theorem SMap.rising_erase_some (m : SMap) (k b : Nat) (h : SMap.rising (some b) m = true) :
    SMap.rising (some b) (SMap.erase m k) = true := by
  induction m generalizing b with
  | nil => rfl
  | cons p rest ih =>
    obtain ⟨k', v⟩ := p
    simp only [SMap.rising, Bool.and_eq_true, decide_eq_true_eq] at h
    by_cases hk : k' = k
    · simp only [SMap.erase, hk, if_true]
      exact ih b (SMap.rising_mono h.2 (by omega))
    · simp only [SMap.erase, hk, if_false, SMap.rising, Bool.and_eq_true, decide_eq_true_eq]
      exact ⟨h.1, ih k' h.2⟩

theorem SMap.rising_ins_some (m : SMap) (k v b : Nat) (h : SMap.rising (some b) m = true) (hb : b < k)
    (hk : ∀ w, (k, w) ∉ m) : SMap.rising (some b) (SMap.ins m k v) = true := by
  induction m generalizing b with
  | nil => simp [SMap.ins, SMap.rising, hb]
  | cons p rest ih =>
    obtain ⟨k', v'⟩ := p
    simp only [SMap.rising, Bool.and_eq_true, decide_eq_true_eq] at h
    by_cases hlt : k < k'
    · simp [SMap.ins, SMap.rising, hlt, hb, h.2]
    · have hne : k' ≠ k := fun e => hk v' (by simp [e])
      simp only [SMap.ins, hlt, if_false, SMap.rising, Bool.and_eq_true, decide_eq_true_eq]
      exact ⟨h.1, ih k' h.2 (by omega) (fun w hw => hk w (by simp [hw]))⟩

theorem SMap.not_mem_erase (m : SMap) (k w : Nat) : (k, w) ∉ SMap.erase m k := by
  induction m with
  | nil => simp [SMap.erase]
  | cons p rest ih =>
    obtain ⟨k', v⟩ := p
    by_cases hk : k' = k
    · simp [SMap.erase, hk, ih]
    · simp only [SMap.erase, hk, if_false, List.mem_cons, Prod.mk.injEq, not_or, not_and]
      exact ⟨fun e => absurd e.symm hk, ih⟩

theorem SMap.wf_iff_cons (k v : Nat) (rest : SMap) :
    SMap.wf ((k, v) :: rest) = SMap.rising (some k) rest := rfl

/-- A write keeps the canonical form. -/
theorem SMap.wf_put (m : SMap) (k v d : Nat) (h : m.wf = true) : (SMap.put m k v d).wf = true := by
  have he : (SMap.erase m k).wf = true := by
    cases m with
    | nil => rfl
    | cons p rest =>
      obtain ⟨k', v'⟩ := p
      by_cases hk : k' = k
      · simp only [SMap.erase, hk, if_true]
        have := SMap.rising_erase_some rest k k' h
        cases hr : SMap.erase rest k with
        | nil => rfl
        | cons q r => rw [hr] at this; simp only [SMap.rising, Bool.and_eq_true] at this; exact this.2
      · simp only [SMap.erase, hk, if_false]
        exact SMap.rising_erase_some rest k k' h
  unfold SMap.put
  split
  · exact he
  · cases hm : SMap.erase m k with
    | nil => rfl
    | cons p rest =>
      obtain ⟨k', v'⟩ := p
      have hne := SMap.not_mem_erase m k
      rw [hm] at he hne
      by_cases hlt : k < k'
      · simpa [SMap.ins, SMap.wf, SMap.rising, hlt] using he
      · have hk' : k' ≠ k := fun e => hne v' (by simp [e])
        simp only [SMap.ins, hlt, if_false]
        exact SMap.rising_ins_some rest k v k' he (by omega) (fun w hw => hne w (by simp [hw]))

/-! ### Registers -/

/-- A field reads back what was written, to its width (R7). -/
@[simp] theorem State.rd_wr_same (s : State) (f : Fld) (n v : Nat) : (s.wr f n v).rd f n = v % 2 ^ f.width := by
  simp [State.rd, State.wr]

/-- Writing a field leaves every field at another place as it was. -/
theorem State.rd_wr_other (s : State) (f g : Fld) {n m : Nat} (h : f.key n ≠ g.key m) (v : Nat) :
    (s.wr f n v).rd g m = s.rd g m := by
  simp [State.rd, State.wr, SMap.get_put_other _ h]

@[simp] theorem State.on_wr_same (s : State) (f : Fld) (n v : Nat) : (s.wr f n v).on f n = (v % 2 ^ f.width == 1) := by
  simp [State.on]

theorem State.on_wr_other (s : State) (f g : Fld) {n m : Nat} (h : f.key n ≠ g.key m) (v : Nat) :
    (s.wr f n v).on g m = s.on g m := by
  simp [State.on, State.rd_wr_other s f g h]

/-- A read looks at nothing but the register store. -/
theorem State.rd_congr {s t : State} (h : s.regs = t.regs) (f : Fld) (n : Nat) : s.rd f n = t.rd f n := by
  simp [State.rd, h]

theorem State.on_congr {s t : State} (h : s.regs = t.regs) (f : Fld) (n : Nat) : s.on f n = t.on f n := by
  simp [State.on, State.rd_congr h]

theorem State.rd_raiseBits_same (s : State) (f : Fld) (n v : Nat) :
    (s.raiseBits f n v).rd f n = (s.rd f n ||| v) % 2 ^ f.width := by
  simp [State.rd]

theorem State.rd_raiseBits_other (s : State) (f g : Fld) {n m : Nat} (h : f.key n ≠ g.key m) (v : Nat) :
    (s.raiseBits f n v).rd g m = s.rd g m := by
  simp [State.rd, SMap.get_put_other _ h]

/-- Every field of the store reads within its width. -/
theorem State.rd_lt (s : State) (f : Fld) (n : Nat) : s.rd f n < 2 ^ f.width :=
  Nat.mod_lt _ (Nat.two_pow_pos _)

/-- The register store keeps its canonical form under every named write. -/
theorem State.wr_wf (s : State) (f : Fld) (n v : Nat) (h : s.regs.wf = true) : (s.wr f n v).regs.wf = true :=
  SMap.wf_put _ _ _ _ h

theorem State.raiseBits_wf (s : State) (f : Fld) (n v : Nat) (h : s.regs.wf = true) :
    (s.raiseBits f n v).regs.wf = true := SMap.wf_put _ _ _ _ h

/-- Counting keeps the canonical form of the increments of the tick. -/
theorem State.bump_wf (s : State) (g ev n k : Nat) (h : s.cntTick.wf = true) : (s.bump g ev n k).cntTick.wf = true :=
  SMap.wf_put _ _ _ _ h

/-! ### Records and faults -/

/-- What handing a record to its tap may do: place it there, or account for it in the open gap (R319). -/
theorem State.hand_cases (s : State) (r : Record) :
    s.hand r = { s with evr := { s.evr with taps := s.evr.taps ++ [r] } } ∨
    s.hand r = (({ s with evr := { s.evr with gaps := addLoss 1 s.now r s.evr.gaps } } : State).bump 12 3 1).raiseBits
      F.EVR_INT_STATUS_GAP 0 1 := by
  unfold State.hand
  split
  · exact .inl rfl
  · exact .inr rfl

@[simp] theorem State.hand_pending (s : State) (r : Record) : (s.hand r).pending = s.pending := by
  obtain h | h := s.hand_cases r <;> simp [h]
@[simp] theorem State.hand_pins (s : State) (r : Record) : (s.hand r).pins = s.pins := by
  obtain h | h := s.hand_cases r <;> simp [h]
@[simp] theorem State.hand_tim (s : State) (r : Record) : (s.hand r).tim = s.tim := by
  obtain h | h := s.hand_cases r <;> simp [h]
@[simp] theorem State.hand_flt (s : State) (r : Record) : (s.hand r).flt = s.flt := by
  obtain h | h := s.hand_cases r <;> simp [h]
@[simp] theorem State.hand_fwd (s : State) (r : Record) : (s.hand r).fwd = s.fwd := by
  obtain h | h := s.hand_cases r <;> simp [h]
@[simp] theorem State.hand_buf (s : State) (r : Record) : (s.hand r).buf = s.buf := by
  obtain h | h := s.hand_cases r <;> simp [h]
@[simp] theorem State.hand_cmd (s : State) (r : Record) : (s.hand r).cmd = s.cmd := by
  obtain h | h := s.hand_cases r <;> simp [h]
@[simp] theorem State.hand_syn (s : State) (r : Record) : (s.hand r).syn = s.syn := by
  obtain h | h := s.hand_cases r <;> simp [h]

/-- Handing a record touches one register at most: the flag of the gap. -/
theorem State.rd_hand (s : State) (r : Record) (f : Fld) (n : Nat) (h : F.EVR_INT_STATUS_GAP.key 0 ≠ f.key n) :
    (s.hand r).rd f n = s.rd f n := by
  obtain e | e := s.hand_cases r
  · rw [e]; rfl
  · rw [e, State.rd_raiseBits_other _ _ _ h]; rfl

end Sys2Proof.Machine
end

