-- ==== Sys2Proof/Laws/Access.lean ====
section
/-! SUPPORT. The laws of register accesses: where the map finds a register, what the gates of the commands leave alone, and what
a seat's direct write of a live word comes to. -/

namespace Sys2Proof.Machine

set_option Elab.async false

/-! ### The map -/

/-- The register at an address is the i-th of its block's map, when the map's registers before it do not reach that address. -/
theorem findReg_at {addr k i n : Nat} {r : RegD} (h4 : addr % 4 = 0) (hu : unitOf addr = k)
    (hb : (blockMaps.getD k [])[i]? = some r)
    (hpre : ((blockMaps.getD k []).take i).all (fun r => (r.copyAt addr).isNone) = true)
    (hn : r.copyAt addr = some n) : findReg addr = some (r, n) := by
  subst hu
  generalize hl : blockMaps.getD (unitOf addr) [] = l at hb hpre
  unfold findReg
  rw [if_pos h4, hl]
  clear hl
  induction l generalizing i with
  | nil => simp at hb
  | cons a l ih =>
    cases i with
    | zero => simp at hb; subst hb; simp [hn]
    | succ i =>
      simp only [List.take_succ_cons, List.all_cons, Bool.and_eq_true] at hpre
      have := hpre.1
      simp only [List.getElem?_cons_succ] at hb
      cases hc : a.copyAt addr with
      | some _ => simp [hc] at this
      | none => simp [hc]; simpa using ih hb hpre.2

/-! ### Gates -/

@[simp] theorem State.when_pending (s : State) (b : Bool) (f : State → State) : (s.when b f).pending = s.pending := by
  unfold State.when; split <;> rfl
@[simp] theorem State.whenLive_pending (s : State) (f : State → State) : (s.whenLive f).pending = s.pending := by
  unfold State.whenLive; split <;> rfl
@[simp] theorem State.request_pending (s : State) (r : Except Status State) : (s.request r).pending = s.pending :=
  s.whenLive_pending _

/-- Behind a gate, no pin of chapter 22 moves; SW_RESET alone leaves its tick there (R551). -/
theorem State.when_pins (s : State) (b : Bool) (f : State → State) :
    (s.when b f).pins = s.pins ∨ (s.when b f).pins = { s.pins with swAt := (f s).pins.swAt } := by
  unfold State.when; split
  · exact .inr rfl
  · exact .inl rfl

/-- A gate that stands open lets the effect through; one that is shut changes nothing. -/
theorem State.when_true (s : State) {b : Bool} (h : b = true) (f : State → State) : s.when b f = s.inside (f s) := by
  simp [State.when, h]
theorem State.when_false (s : State) {b : Bool} (h : b = false) (f : State → State) : s.when b f = s := by
  simp [State.when, h]
theorem State.whenLive_true (s : State) (h : s.live = true) (f : State → State) : s.whenLive f = s.inside (f s) := by
  simp [State.whenLive, h]
theorem State.whenLive_false (s : State) (h : s.live = false) (f : State → State) : s.whenLive f = s := by
  simp [State.whenLive, h]

/-- An event of a fixed period whose tick it is and that has not come in it takes place, and is noted; one that has come changes nothing. -/
theorem State.once_true (s : State) {k : Nat} {b : Bool} (h : b = true) (hr : s.ran.contains k = false) (f : State → State) :
    s.once k b f = s.inside (f { s with ran := k :: s.ran }) := by
  simp only [State.once, State.when, h, hr, Bool.not_false, Bool.and_self, if_true]
theorem State.once_again (s : State) {k : Nat} (b : Bool) (hr : s.ran.contains k = true) (f : State → State) :
    s.once k b f = s := by
  simp only [State.once, State.when, hr, Bool.not_true, Bool.and_false, Bool.false_eq_true, if_false]

/-- Only under PORST_N, SYSRST_N or a trip does the part not work. -/
theorem State.live_iff (s : State) : s.live = true ↔ s.pins.porst = false ∧ s.pins.sysrst = false ∧ s.pins.tripped = false := by
  simp [State.live, and_assoc]

theorem State.clocked_of_live (s : State) (h : s.live = true) : s.clocked = s.on F.TIM_STATUS_RUN := by
  rw [State.live_iff] at h
  simp [State.clocked, h.1, h.2.2]

/-- A read by field looks at the register store alone: what a gate puts back does not matter to it. -/
@[simp] theorem State.rd_inside (s t : State) (f : Fld) (n : Nat) : (s.inside t).rd f n = t.rd f n := rfl
@[simp] theorem State.on_inside (s t : State) (f : Fld) (n : Nat) : (s.inside t).on f n = t.on f n := rfl

/-! ### Direct writes -/

/-- R523: an entry of D shows in IDN.CFG_DIGEST, and changes nothing else outside the identity block. -/
theorem State.setDigest_regs (s : State) (d : Bytes) : ∃ m, s.setDigest d = { s with regs := m, idn := { s.idn with digest := d } } := by
  have key : ∀ (l : List Nat) (s : State), ∃ m, l.foldl (fun s w => s.wr F.IDN_CFG_DIGEST_VALUE w (beAt d (4 * w) 4)) s
      = { s with regs := m } := by
    intro l
    induction l with
    | nil => exact fun s => ⟨s.regs, rfl⟩
    | cons w l ih =>
      intro s
      obtain ⟨m, hm⟩ := ih (s.wr F.IDN_CFG_DIGEST_VALUE w (beAt d (4 * w) 4))
      exact ⟨m, by simpa [State.wr] using hm⟩
  obtain ⟨m, hm⟩ := key (List.range 16) s
  exact ⟨m, by simp only [State.setDigest, hm]⟩

theorem State.extendD_eq (s : State) (kind seat txn addr mask : Nat) (data : List Nat) :
    ∃ m i, s.extendD kind seat txn addr mask data = { s with regs := m, idn := i } := by
  obtain ⟨m, hm⟩ := s.setDigest_regs (sha512 (s.idn.digest ++ (be 8 s.now ++ be 1 kind ++ be 1 seat ++ be 2 txn ++ be 4 addr
    ++ be 4 mask ++ sha512 (data.flatMap (fun w => be 4 w)))))
  have : s.extendD kind seat txn addr mask data = (s.setDigest (sha512 (s.idn.digest ++ (be 8 s.now ++ be 1 kind ++ be 1 seat
    ++ be 2 txn ++ be 4 addr ++ be 4 mask ++ sha512 (data.flatMap (fun w => be 4 w)))))).refreshQuotes := rfl
  rw [this, hm]
  exact ⟨m, _, rfl⟩

theorem State.rd_setDigest (s : State) (d : Bytes) (f : Fld) (n : Nat)
    (h : ∀ w, w < 16 → F.IDN_CFG_DIGEST_VALUE.key w ≠ f.key n) : (s.setDigest d).rd f n = s.rd f n := by
  have key : ∀ (l : List Nat) (s : State), (∀ w ∈ l, w < 16) →
      (l.foldl (fun s w => s.wr F.IDN_CFG_DIGEST_VALUE w (beAt d (4 * w) 4)) s).rd f n = s.rd f n := by
    intro l
    induction l with
    | nil => exact fun s _ => rfl
    | cons w l ih =>
      intro s hl
      rw [List.foldl_cons, ih _ (fun x hx => hl x (by simp [hx])), State.rd_wr_other _ _ _ (h w (hl w (by simp)))]
  have := key (List.range 16) s (fun w hw => by simpa using hw)
  simpa [State.setDigest, State.rd] using this

/-- A field outside IDN.CFG_DIGEST reads as before after an entry of D. -/
theorem State.rd_extendD (s : State) (kind seat txn addr mask : Nat) (data : List Nat) (f : Fld) (n : Nat)
    (h : ∀ w, w < 16 → F.IDN_CFG_DIGEST_VALUE.key w ≠ f.key n) :
    (s.extendD kind seat txn addr mask data).rd f n = s.rd f n := by
  have := State.rd_setDigest s (sha512 (s.idn.digest ++ (be 8 s.now ++ be 1 kind ++ be 1 seat ++ be 2 txn ++ be 4 addr
    ++ be 4 mask ++ sha512 (data.flatMap (fun w => be 4 w))))) f n h
  simpa [State.extendD, State.rd] using this

/-- R444: what a direct write of one word of class L, or of class Q with its instance stopped, comes to, when no check refuses it: the word's
own effect, its entry in D, the seat's staging register as it was, and OK. Class 3 of the tick is done. -/
theorem State.seatWrite_ok (s t : State) (seat addr value mask n : Nat) (r : RegD) (hl : s.live = true) (h3 : s.classThree = s)
    (hf : findReg addr = some (r, n)) (hw : r.half = .whole) (hm : s.mayWrite seat r n mask value = true)
    (hc : s.classOf r n mask value ≠ .s) (hq : s.classOf r n mask value = .q → s.stopped (s.poke r n mask value) r n = true)
    (hh : s.wordHeld 0 addr = false)
    (hr : (s.fieldsOf r n).all (fun d => !s.outOfRange d n mask value) = true)
    (hu : s.unitOk (s.poke r n mask value) r n mask = .ok ()) (ha : s.applyWord seat ⟨addr, mask, value⟩ = .ok t)
    (hs : resetWrite ⟨addr, mask, value⟩ = false) :
    s.seatWrite seat addr value mask =
      s.inside ((((t.extendD 0 seat 0 addr mask [value]).setSeat seat
        (fun e => { e with staging := (s.seat seat).staging })).answer .ok)) := by
  have hq' : (s.classOf r n mask value != .q || s.stopped (s.poke r n mask value) r n) = true := by
    cases h : s.classOf r n mask value <;> simp_all
  have ht : s.tryWord s seat 0 (.ok ()) ⟨addr, mask, value⟩ = .ok (s.classOf r n mask value, t) := by
    simp [State.tryWord, hf, hm, hq', hh, need, hr, hu, ha, bind, Except.bind, pure, Except.pure]
  have hp : s.pairWords seat ⟨addr, mask, value⟩ = ([⟨addr, mask, value⟩], (s.seat seat).staging) := by
    simp [State.pairWords, hf, hw]
  rw [State.seatWrite, State.whenLive_true s hl]
  simp [h3, State.writeDirect, Direct.word, hp, ht, hs, hc, bind, Except.bind, pure, Except.pure]

end Sys2Proof.Machine
end

