-- ==== Sys2Proof/Laws/Map.lean ====
section
/-! SUPPORT. Where the register map finds the registers that commands of their own write or read: each stands at its own address,
in every copy. -/

namespace Sys2Proof.Machine

set_option Elab.async false

theorem findReg_TIM_VOTE_CTRL : findReg (F.TIM_VOTE_CTRL_RETIRE_LIMIT.addr 0) = some (⟨"TIM.VOTE_CTRL", A.TIM_VOTE_CTRL, .seat0, .whole, [fd F.TIM_VOTE_CTRL_RETIRE_LIMIT .rw .l, fd F.TIM_VOTE_CTRL_REJOIN .wo .l]⟩, 0) :=
  findReg_at (k := 1) (i := 18) (by decide) (by decide) rfl (by decide +kernel) (by decide)

theorem findReg_TIM_RATE : findReg (F.TIM_RATE_VALUE.addr 0) = some (⟨"TIM.RATE", A.TIM_RATE, .seat0, .whole, [fd F.TIM_RATE_VALUE .rw .l]⟩, 0) :=
  findReg_at (k := 1) (i := 4) (by decide) (by decide) rfl (by decide +kernel) (by decide)

theorem findReg_TIM_STEP_CTRL : findReg (F.TIM_STEP_CTRL_GO.addr 0) = some (⟨"TIM.STEP_CTRL", A.TIM_STEP_CTRL, .seat0, .whole, [fd F.TIM_STEP_CTRL_GO .wo .l, fd F.TIM_STEP_CTRL_MODE .rw .l, fd F.TIM_STEP_CTRL_PENDING .ro .l]⟩, 0) :=
  findReg_at (k := 1) (i := 15) (by decide) (by decide) rfl (by decide +kernel) (by decide)

theorem findReg_TIM_SNAP_CTRL (n : Fin 4) : findReg (F.TIM_SNAP_CTRL_TAKE.addr n.val) = some (⟨"TIM.SNAP_CTRL", A.TIM_SNAP_CTRL, .group, .whole, [fd F.TIM_SNAP_CTRL_TAKE .wo .l, fd F.TIM_SNAP_CTRL_DONE .ro .l]⟩, n.val) := by
  have h : ∀ n : Fin 4, F.TIM_SNAP_CTRL_TAKE.addr n.val % 4 = 0 ∧ unitOf (F.TIM_SNAP_CTRL_TAKE.addr n.val) = 1 ∧
      ((blockMaps.getD 1 []).take 25).all (fun r => (r.copyAt (F.TIM_SNAP_CTRL_TAKE.addr n.val)).isNone) = true ∧
      F.TIM_SNAP_CTRL_TAKE.copy? (F.TIM_SNAP_CTRL_TAKE.addr n.val * 32 + F.TIM_SNAP_CTRL_TAKE.lsb) = some n.val := by decide +kernel
  exact findReg_at (h n).1 (h n).2.1 rfl (h n).2.2.1 (h n).2.2.2

theorem findReg_SYN_SERVO_SRC : findReg (F.SYN_SERVO_SRC_ORDER.addr 0) = some (⟨"SYN.SERVO_SRC", A.SYN_SERVO_SRC, .seat0, .whole, [fd F.SYN_SERVO_SRC_ORDER .rw .l]⟩, 0) :=
  findReg_at (k := 2) (i := 1) (by decide) (by decide) rfl (by decide +kernel) (by decide)

theorem findReg_SYN_SERVO_CTRL : findReg (F.SYN_SERVO_CTRL_ENABLE.addr 0) = some (⟨"SYN.SERVO_CTRL", A.SYN_SERVO_CTRL, .seat0, .whole, [fd F.SYN_SERVO_CTRL_ENABLE .rw .l, fd F.SYN_SERVO_CTRL_KP_SHIFT .rw .l, fd F.SYN_SERVO_CTRL_KI_SHIFT .rw .l, fdNorm F.SYN_SERVO_CTRL_STEP_CONFIRM .rw .l zeroOne, fdNorm F.SYN_SERVO_CTRL_LOSS_INTERVALS .rw .l zeroOne, fdNorm F.SYN_SERVO_CTRL_LOCK_COUNT .rw .l zeroOne]⟩, 0) :=
  findReg_at (k := 2) (i := 0) (by decide) (by decide) rfl (by decide +kernel) (by decide)

theorem findReg_SYN_EVTI_CTRL (n : Fin 8) : findReg (F.SYN_EVTI_CTRL_ENABLE.addr n.val) = some (⟨"SYN.EVTI_CTRL", A.SYN_EVTI_CTRL, .seat0, .whole, [fd F.SYN_EVTI_CTRL_ENABLE .rw .l, fd F.SYN_EVTI_CTRL_EDGE .rw .l, fd F.SYN_EVTI_CTRL_RECORD .rw .l, fd F.SYN_EVTI_CTRL_POP .wo .l]⟩, n.val) := by
  have h : ∀ n : Fin 8, F.SYN_EVTI_CTRL_ENABLE.addr n.val % 4 = 0 ∧ unitOf (F.SYN_EVTI_CTRL_ENABLE.addr n.val) = 2 ∧
      ((blockMaps.getD 2 []).take 48).all (fun r => (r.copyAt (F.SYN_EVTI_CTRL_ENABLE.addr n.val)).isNone) = true ∧
      F.SYN_EVTI_CTRL_ENABLE.copy? (F.SYN_EVTI_CTRL_ENABLE.addr n.val * 32 + F.SYN_EVTI_CTRL_ENABLE.lsb) = some n.val := by decide +kernel
  exact findReg_at (h n).1 (h n).2.1 rfl (h n).2.2.1 (h n).2.2.2

theorem findReg_TSU_CAL_CTRL : findReg (F.TSU_CAL_CTRL_PORT.addr 0) = some (⟨"TSU.CAL_CTRL", A.TSU_CAL_CTRL, .cal, .whole, [fd F.TSU_CAL_CTRL_PORT .rw .l, fd F.TSU_CAL_CTRL_GO .wo .l, fd F.TSU_CAL_CTRL_APPLY .rw .l, fdNorm F.TSU_CAL_CTRL_CAL_COUNT .rw .l (clampN 4 12)]⟩, 0) :=
  findReg_at (k := 3) (i := 0) (by decide) (by decide) rfl (by decide +kernel) (by decide)

theorem findReg_BUF_SEAT_RING_TX_TAIL (n : Fin 4) : findReg (F.BUF_SEAT_RING_TX_TAIL_VALUE.addr n.val) = some (⟨"BUF.SEAT_RING_TX_TAIL", A.BUF_SEAT_RING_TX_TAIL, .ring, .whole, [fd F.BUF_SEAT_RING_TX_TAIL_VALUE .rw .l]⟩, n.val) := by
  have h : ∀ n : Fin 4, F.BUF_SEAT_RING_TX_TAIL_VALUE.addr n.val % 4 = 0 ∧ unitOf (F.BUF_SEAT_RING_TX_TAIL_VALUE.addr n.val) = 7 ∧
      ((blockMaps.getD 7 []).take 46).all (fun r => (r.copyAt (F.BUF_SEAT_RING_TX_TAIL_VALUE.addr n.val)).isNone) = true ∧
      F.BUF_SEAT_RING_TX_TAIL_VALUE.copy? (F.BUF_SEAT_RING_TX_TAIL_VALUE.addr n.val * 32 + F.BUF_SEAT_RING_TX_TAIL_VALUE.lsb) = some n.val := by decide +kernel
  exact findReg_at (h n).1 (h n).2.1 rfl (h n).2.2.1 (h n).2.2.2

theorem findReg_BUF_SEAT_RING_RX_TAIL (n : Fin 4) : findReg (F.BUF_SEAT_RING_RX_TAIL_VALUE.addr n.val) = some (⟨"BUF.SEAT_RING_RX_TAIL", A.BUF_SEAT_RING_RX_TAIL, .ring, .whole, [fd F.BUF_SEAT_RING_RX_TAIL_VALUE .rw .l]⟩, n.val) := by
  have h : ∀ n : Fin 4, F.BUF_SEAT_RING_RX_TAIL_VALUE.addr n.val % 4 = 0 ∧ unitOf (F.BUF_SEAT_RING_RX_TAIL_VALUE.addr n.val) = 7 ∧
      ((blockMaps.getD 7 []).take 50).all (fun r => (r.copyAt (F.BUF_SEAT_RING_RX_TAIL_VALUE.addr n.val)).isNone) = true ∧
      F.BUF_SEAT_RING_RX_TAIL_VALUE.copy? (F.BUF_SEAT_RING_RX_TAIL_VALUE.addr n.val * 32 + F.BUF_SEAT_RING_RX_TAIL_VALUE.lsb) = some n.val := by decide +kernel
  exact findReg_at (h n).1 (h n).2.1 rfl (h n).2.2.1 (h n).2.2.2

theorem findReg_BUF_SPARE_CTRL : findReg (F.BUF_SPARE_CTRL_CE_LIMIT.addr 0) = some (⟨"BUF.SPARE_CTRL", A.BUF_SPARE_CTRL, .seat0, .whole, [fd F.BUF_SPARE_CTRL_CE_LIMIT .rw .l, fd F.BUF_SPARE_CTRL_FORCE_BANK .rw .l, fd F.BUF_SPARE_CTRL_FORCE .wo .l]⟩, 0) :=
  findReg_at (k := 7) (i := 10) (by decide) (by decide) rfl (by decide +kernel) (by decide)

theorem findReg_TBL_PIN_LOG_CTRL : findReg (F.TBL_PIN_LOG_CTRL_POP.addr 0) = some (⟨"TBL.PIN_LOG_CTRL", A.TBL_PIN_LOG_CTRL, .seat0, .whole, [fd F.TBL_PIN_LOG_CTRL_POP .wo .l, fd F.TBL_PIN_LOG_CTRL_COUNT .ro .l]⟩, 0) :=
  findReg_at (k := 6) (i := 8) (by decide) (by decide) rfl (by decide +kernel) (by decide)

theorem findReg_MEM_CH_CTRL (n : Fin 32) : findReg (F.MEM_CH_CTRL_FORCE_FAIL.addr n.val) = some (⟨"MEM.CH_CTRL", A.MEM_CH_CTRL, .seat0, .whole, [fd F.MEM_CH_CTRL_FORCE_FAIL .wo .l, fd F.MEM_CH_CTRL_RETRY .wo .l]⟩, n.val) := by
  have h : ∀ n : Fin 32, F.MEM_CH_CTRL_FORCE_FAIL.addr n.val % 4 = 0 ∧ unitOf (F.MEM_CH_CTRL_FORCE_FAIL.addr n.val) = 13 ∧
      ((blockMaps.getD 13 []).take 12).all (fun r => (r.copyAt (F.MEM_CH_CTRL_FORCE_FAIL.addr n.val)).isNone) = true ∧
      F.MEM_CH_CTRL_FORCE_FAIL.copy? (F.MEM_CH_CTRL_FORCE_FAIL.addr n.val * 32 + F.MEM_CH_CTRL_FORCE_FAIL.lsb) = some n.val := by decide +kernel
  exact findReg_at (h n).1 (h n).2.1 rfl (h n).2.2.1 (h n).2.2.2

theorem findReg_LAN_PORT_CTRL (n : Fin 512) : findReg (F.LAN_PORT_CTRL_START.addr n.val) = some (⟨"LAN.PORT_CTRL", A.LAN_PORT_CTRL, .port, .whole, [fd F.LAN_PORT_CTRL_START .rw .l, fd F.LAN_PORT_CTRL_EI_EN .rw .l, fd F.LAN_PORT_CTRL_QUICK_EN .rw .l, fd F.LAN_PORT_CTRL_HISER_DOWN .rw .l, fd F.LAN_PORT_CTRL_FORCE_RETRAIN .wo .l]⟩, n.val) := by
  have h : ∀ n : Fin 512, F.LAN_PORT_CTRL_START.addr n.val % 4 = 0 ∧ unitOf (F.LAN_PORT_CTRL_START.addr n.val) = 14 ∧
      ((blockMaps.getD 14 []).take 7).all (fun r => (r.copyAt (F.LAN_PORT_CTRL_START.addr n.val)).isNone) = true ∧
      F.LAN_PORT_CTRL_START.copy? (F.LAN_PORT_CTRL_START.addr n.val * 32 + F.LAN_PORT_CTRL_START.lsb) = some n.val := by decide +kernel
  exact findReg_at (h n).1 (h n).2.1 rfl (h n).2.2.1 (h n).2.2.2

theorem findReg_LAN_LANE_CTRL (n : Fin 512) : findReg (F.LAN_LANE_CTRL_POL_AUTO.addr n.val) = some (⟨"LAN.LANE_CTRL", A.LAN_LANE_CTRL, .lane, .whole, [fd F.LAN_LANE_CTRL_POL_AUTO .rw .l, fd F.LAN_LANE_CTRL_RX_INVERT .rw .l, fd F.LAN_LANE_CTRL_TX_INVERT .rw .q, fd F.LAN_LANE_CTRL_ADAPT_EN .rw .l, fd F.LAN_LANE_CTRL_SNAPSHOT .wo .l, fd F.LAN_LANE_CTRL_ROLLBACK .wo .l]⟩, n.val) := by
  have h : ∀ n : Fin 512, F.LAN_LANE_CTRL_POL_AUTO.addr n.val % 4 = 0 ∧ unitOf (F.LAN_LANE_CTRL_POL_AUTO.addr n.val) = 14 ∧
      ((blockMaps.getD 14 []).take 11).all (fun r => (r.copyAt (F.LAN_LANE_CTRL_POL_AUTO.addr n.val)).isNone) = true ∧
      F.LAN_LANE_CTRL_POL_AUTO.copy? (F.LAN_LANE_CTRL_POL_AUTO.addr n.val * 32 + F.LAN_LANE_CTRL_POL_AUTO.lsb) = some n.val := by decide +kernel
  exact findReg_at (h n).1 (h n).2.1 rfl (h n).2.2.1 (h n).2.2.2

theorem findReg_MAC_MDIO_CTRL : findReg (F.MAC_MDIO_CTRL_PHY_ADDR.addr 0) = some (⟨"MAC.MDIO_CTRL", A.MAC_MDIO_CTRL, .seat0, .whole, [fd F.MAC_MDIO_CTRL_PHY_ADDR .rw .l, fd F.MAC_MDIO_CTRL_REG .rw .l, fd F.MAC_MDIO_CTRL_OP .rw .l, fd F.MAC_MDIO_CTRL_GO .wo .l, fd F.MAC_MDIO_CTRL_BUSY .ro .l]⟩, 0) :=
  findReg_at (k := 15) (i := 5) (by decide) (by decide) rfl (by decide +kernel) (by decide)

theorem findReg_CHK_CTRL (n : Fin 16) : findReg (F.CHK_CTRL_ALG.addr n.val) = some (⟨"CHK.CTRL", A.CHK_CTRL, .engine, .whole, [fd F.CHK_CTRL_ALG .rw .l, fdNorm F.CHK_CTRL_MODE .rw .l (asZero 3), fd F.CHK_CTRL_BYTE_ORDER .rw .l, fd F.CHK_CTRL_RESUME .rw .l, fd F.CHK_CTRL_START .wo .l, fd F.CHK_CTRL_ABORT .wo .l]⟩, n.val) := by
  have h : ∀ n : Fin 16, F.CHK_CTRL_ALG.addr n.val % 4 = 0 ∧ unitOf (F.CHK_CTRL_ALG.addr n.val) = 16 ∧
      ((blockMaps.getD 16 []).take 2).all (fun r => (r.copyAt (F.CHK_CTRL_ALG.addr n.val)).isNone) = true ∧
      F.CHK_CTRL_ALG.copy? (F.CHK_CTRL_ALG.addr n.val * 32 + F.CHK_CTRL_ALG.lsb) = some n.val := by decide +kernel
  exact findReg_at (h n).1 (h n).2.1 rfl (h n).2.2.1 (h n).2.2.2

theorem findReg_CHK_DATA (n : Fin 16) : findReg (F.CHK_DATA_WORD.addr n.val) = some (⟨"CHK.DATA", A.CHK_DATA, .engine, .whole, [fd F.CHK_DATA_WORD .wo .l]⟩, n.val) := by
  have h : ∀ n : Fin 16, F.CHK_DATA_WORD.addr n.val % 4 = 0 ∧ unitOf (F.CHK_DATA_WORD.addr n.val) = 16 ∧
      ((blockMaps.getD 16 []).take 4).all (fun r => (r.copyAt (F.CHK_DATA_WORD.addr n.val)).isNone) = true ∧
      F.CHK_DATA_WORD.copy? (F.CHK_DATA_WORD.addr n.val * 32 + F.CHK_DATA_WORD.lsb) = some n.val := by decide +kernel
  exact findReg_at (h n).1 (h n).2.1 rfl (h n).2.2.1 (h n).2.2.2

theorem findReg_CHK_OUT (n : Fin 16) : findReg (F.CHK_OUT_WORD.addr n.val) = some (⟨"CHK.OUT", A.CHK_OUT, .engine, .whole, [fd F.CHK_OUT_WORD .rc .l]⟩, n.val) := by
  have h : ∀ n : Fin 16, F.CHK_OUT_WORD.addr n.val % 4 = 0 ∧ unitOf (F.CHK_OUT_WORD.addr n.val) = 16 ∧
      ((blockMaps.getD 16 []).take 5).all (fun r => (r.copyAt (F.CHK_OUT_WORD.addr n.val)).isNone) = true ∧
      F.CHK_OUT_WORD.copy? (F.CHK_OUT_WORD.addr n.val * 32 + F.CHK_OUT_WORD.lsb) = some n.val := by decide +kernel
  exact findReg_at (h n).1 (h n).2.1 rfl (h n).2.2.1 (h n).2.2.2

theorem findReg_PWR_CTRL : findReg (F.PWR_CTRL_PKG_LIMIT_W.addr 0) = some (⟨"PWR.CTRL", A.PWR_CTRL, .seat0, .whole, [fdNorm F.PWR_CTRL_PKG_LIMIT_W .rw .l (clampN 300 1000), fdNorm F.PWR_CTRL_WINDOW_US .rw .l (clampN 10 1000), fd F.PWR_CTRL_MODEL_RESUME .wo .l]⟩, 0) :=
  findReg_at (k := 19) (i := 1) (by decide) (by decide) rfl (by decide +kernel) (by decide)

theorem findReg_TRP_CTRL : findReg (F.TRP_CTRL_ENABLE.addr 0) = some (⟨"TRP.CTRL", A.TRP_CTRL, .seat0, .whole, [fd F.TRP_CTRL_ENABLE .rw .l, fd F.TRP_CTRL_MEMBER_ID .rw .q, fd F.TRP_CTRL_LEAD_PRIO .rw .l, fd F.TRP_CTRL_QUEUE .rw .l]⟩, 0) :=
  findReg_at (k := 11) (i := 0) (by decide) (by decide) rfl (by decide +kernel) (by decide)

theorem findReg_TRP_BASE (n : Fin 8) : findReg (F.TRP_BASE_BASE_L_NS.addr n.val) = some (⟨"TRP.BASE", A.TRP_BASE, .seat0, .whole, [fdOk F.TRP_BASE_BASE_L_NS .rw .s (within 0 1000000)]⟩, n.val) := by
  have h : ∀ n : Fin 8, F.TRP_BASE_BASE_L_NS.addr n.val % 4 = 0 ∧ unitOf (F.TRP_BASE_BASE_L_NS.addr n.val) = 11 ∧
      ((blockMaps.getD 11 []).take 16).all (fun r => (r.copyAt (F.TRP_BASE_BASE_L_NS.addr n.val)).isNone) = true ∧
      F.TRP_BASE_BASE_L_NS.copy? (F.TRP_BASE_BASE_L_NS.addr n.val * 32 + F.TRP_BASE_BASE_L_NS.lsb) = some n.val := by decide +kernel
  exact findReg_at (h n).1 (h n).2.1 rfl (h n).2.2.1 (h n).2.2.2

theorem findReg_TRP_LIFT_CFG : findReg (F.TRP_LIFT_CFG_MARGIN_NS.addr 0) = some (⟨"TRP.LIFT_CFG", A.TRP_LIFT_CFG, .seat0, .whole, [fd F.TRP_LIFT_CFG_MARGIN_NS .rw .l, fd F.TRP_LIFT_CFG_UNLIFT_PHASES .rw .l, fd F.TRP_LIFT_CFG_UNLIFT .wo .l]⟩, 0) :=
  findReg_at (k := 11) (i := 6) (by decide) (by decide) rfl (by decide +kernel) (by decide)

theorem findReg_FLT_FREEZE_CTRL : findReg (F.FLT_FREEZE_CTRL_FREEZE_LEVEL.addr 0) = some (⟨"FLT.FREEZE_CTRL", A.FLT_FREEZE_CTRL, .seat0, .whole, [fd F.FLT_FREEZE_CTRL_FREEZE_LEVEL .rw .l, fd F.FLT_FREEZE_CTRL_RELEASE .wo .l]⟩, 0) :=
  findReg_at (k := 18) (i := 8) (by decide) (by decide) rfl (by decide +kernel) (by decide)

theorem findReg_FLT_PIPE_CTRL : findReg (F.FLT_PIPE_CTRL_AUTO_GIVE_BACK.addr 0) = some (⟨"FLT.PIPE_CTRL", A.FLT_PIPE_CTRL, .seat0, .whole, [fd F.FLT_PIPE_CTRL_AUTO_GIVE_BACK .rw .l, fd F.FLT_PIPE_CTRL_GIVE_BACK .wo .l, fd F.FLT_PIPE_CTRL_FORCE_PIPE .rw .l, fd F.FLT_PIPE_CTRL_FORCE .wo .l]⟩, 0) :=
  findReg_at (k := 18) (i := 11) (by decide) (by decide) rfl (by decide +kernel) (by decide)

theorem findReg_IDN_EVK_CTRL : findReg (F.IDN_EVK_CTRL_ROTATE.addr 0) = some (⟨"IDN.EVK_CTRL", A.IDN_EVK_CTRL, .seat0, .whole, [fd F.IDN_EVK_CTRL_ROTATE .wo .l]⟩, 0) :=
  findReg_at (k := 20) (i := 3) (by decide) (by decide) rfl (by decide +kernel) (by decide)

theorem findReg_IDN_FUSE_CTRL : findReg (F.IDN_FUSE_CTRL_OP.addr 0) = some (⟨"IDN.FUSE_CTRL", A.IDN_FUSE_CTRL, .seat0, .whole, [fd F.IDN_FUSE_CTRL_OP .wo .l, fd F.IDN_FUSE_CTRL_BUSY .ro .l]⟩, 0) :=
  findReg_at (k := 20) (i := 4) (by decide) (by decide) rfl (by decide +kernel) (by decide)

theorem findReg_IDN_CERT_SEL : findReg (F.IDN_CERT_SEL_CERT.addr 0) = some (⟨"IDN.CERT_SEL", A.IDN_CERT_SEL, .seat0, .whole, [fd F.IDN_CERT_SEL_CERT .rw .l, fd F.IDN_CERT_SEL_LENGTH .ro .l]⟩, 0) :=
  findReg_at (k := 20) (i := 5) (by decide) (by decide) rfl (by decide +kernel) (by decide)

theorem findReg_IDN_CERT_DATA : findReg (F.IDN_CERT_DATA_WORD.addr 0) = some (⟨"IDN.CERT_DATA", A.IDN_CERT_DATA, .seat0, .whole, [fd F.IDN_CERT_DATA_WORD .ro .l]⟩, 0) :=
  findReg_at (k := 20) (i := 6) (by decide) (by decide) rfl (by decide +kernel) (by decide)

theorem findReg_CNT_SNAP_CTRL (n : Fin 4) : findReg (F.CNT_SNAP_CTRL_TAKE.addr n.val) = some (⟨"CNT.SNAP_CTRL", A.CNT_SNAP_CTRL, .group, .whole, [fd F.CNT_SNAP_CTRL_TAKE .wo .l, fd F.CNT_SNAP_CTRL_DONE .ro .l, fd F.CNT_SNAP_CTRL_COUNT_M1 .rw .l]⟩, n.val) := by
  have h : ∀ n : Fin 4, F.CNT_SNAP_CTRL_TAKE.addr n.val % 4 = 0 ∧ unitOf (F.CNT_SNAP_CTRL_TAKE.addr n.val) = 21 ∧
      ((blockMaps.getD 21 []).take 0).all (fun r => (r.copyAt (F.CNT_SNAP_CTRL_TAKE.addr n.val)).isNone) = true ∧
      F.CNT_SNAP_CTRL_TAKE.copy? (F.CNT_SNAP_CTRL_TAKE.addr n.val * 32 + F.CNT_SNAP_CTRL_TAKE.lsb) = some n.val := by decide +kernel
  exact findReg_at (h n).1 (h n).2.1 rfl (h n).2.2.1 (h n).2.2.2

theorem findReg_CMD_CORE_CTRL : findReg (F.CMD_CORE_CTRL_REJOIN0.addr 0) = some (⟨"CMD.CORE_CTRL", A.CMD_CORE_CTRL, .seat0, .whole, [fd F.CMD_CORE_CTRL_REJOIN0 .wo .l, fd F.CMD_CORE_CTRL_REJOIN1 .wo .l, fd F.CMD_CORE_CTRL_SWAP .wo .l, fd F.CMD_CORE_CTRL_RELOAD .rw .l]⟩, 0) :=
  findReg_at (k := 17) (i := 7) (by decide) (by decide) rfl (by decide +kernel) (by decide)

theorem findReg_SYS_SW_RESET : findReg (F.SYS_SW_RESET_KEY.addr 0) = some (⟨"SYS.SW_RESET", A.SYS_SW_RESET, .seat0, .whole, [fd F.SYS_SW_RESET_KEY .wo .l, fd F.SYS_SW_RESET_GO .wo .l]⟩, 0) :=
  findReg_at (k := 0) (i := 7) (by decide) (by decide) rfl (by decide +kernel) (by decide)

theorem findReg_TIM_CANOPY_LO : findReg (F.TIM_CANOPY_LO_VALUE.addr 0) = some (⟨"TIM.CANOPY_LO", A.TIM_CANOPY_LO, .seat0, .lo, [fd F.TIM_CANOPY_LO_VALUE .ro .l]⟩, 0) :=
  findReg_at (k := 1) (i := 1) (by decide) (by decide) rfl (by decide +kernel) (by decide)

theorem findReg_TIM_CANOPY_HI : findReg (F.TIM_CANOPY_HI_VALUE.addr 0) = some (⟨"TIM.CANOPY_HI", A.TIM_CANOPY_HI, .seat0, .hi, [fd F.TIM_CANOPY_HI_VALUE .ro .l]⟩, 0) :=
  findReg_at (k := 1) (i := 2) (by decide) (by decide) rfl (by decide +kernel) (by decide)

theorem findReg_MAC_PORT_SA_LO (n : Fin 518) : findReg (F.MAC_PORT_SA_LO_VALUE.addr n.val) = some (⟨"MAC.PORT_SA_LO", A.MAC_PORT_SA_LO, .port, .lo, [fd F.MAC_PORT_SA_LO_VALUE .rw .l]⟩, n.val) := by
  have h : ∀ n : Fin 518, F.MAC_PORT_SA_LO_VALUE.addr n.val % 4 = 0 ∧ unitOf (F.MAC_PORT_SA_LO_VALUE.addr n.val) = 15 ∧
      ((blockMaps.getD 15 []).take 9).all (fun r => (r.copyAt (F.MAC_PORT_SA_LO_VALUE.addr n.val)).isNone) = true ∧
      F.MAC_PORT_SA_LO_VALUE.copy? (F.MAC_PORT_SA_LO_VALUE.addr n.val * 32 + F.MAC_PORT_SA_LO_VALUE.lsb) = some n.val := by decide +kernel
  exact findReg_at (h n).1 (h n).2.1 rfl (h n).2.2.1 (h n).2.2.2

theorem findReg_MAC_PORT_SA_HI (n : Fin 518) : findReg (F.MAC_PORT_SA_HI_VALUE.addr n.val) = some (⟨"MAC.PORT_SA_HI", A.MAC_PORT_SA_HI, .port, .hi, [fd F.MAC_PORT_SA_HI_VALUE .rw .l]⟩, n.val) := by
  have h : ∀ n : Fin 518, F.MAC_PORT_SA_HI_VALUE.addr n.val % 4 = 0 ∧ unitOf (F.MAC_PORT_SA_HI_VALUE.addr n.val) = 15 ∧
      ((blockMaps.getD 15 []).take 10).all (fun r => (r.copyAt (F.MAC_PORT_SA_HI_VALUE.addr n.val)).isNone) = true ∧
      F.MAC_PORT_SA_HI_VALUE.copy? (F.MAC_PORT_SA_HI_VALUE.addr n.val * 32 + F.MAC_PORT_SA_HI_VALUE.lsb) = some n.val := by decide +kernel
  exact findReg_at (h n).1 (h n).2.1 rfl (h n).2.2.1 (h n).2.2.2

theorem findReg_TIM_STEP_NS : findReg (F.TIM_STEP_NS_VALUE.addr 0) = some (⟨"TIM.STEP_NS", A.TIM_STEP_NS, .seat0, .whole, [fdOk F.TIM_STEP_NS_VALUE .rw .l (within 0 999999999)]⟩, 0) :=
  findReg_at (k := 1) (i := 13) (by decide) (by decide) rfl (by decide +kernel) (by decide)

theorem findReg_MSQ_AGE (n : Fin 32) : findReg (F.MSQ_AGE_MAX_AGE_NS.addr n.val) = some (⟨"MSQ.AGE", A.MSQ_AGE, .seat0, .whole, [fd F.MSQ_AGE_MAX_AGE_NS .rc .l]⟩, n.val) := by
  have h : ∀ n : Fin 32, F.MSQ_AGE_MAX_AGE_NS.addr n.val % 4 = 0 ∧ unitOf (F.MSQ_AGE_MAX_AGE_NS.addr n.val) = 10 ∧
      ((blockMaps.getD 10 []).take 16).all (fun r => (r.copyAt (F.MSQ_AGE_MAX_AGE_NS.addr n.val)).isNone) = true ∧
      F.MSQ_AGE_MAX_AGE_NS.copy? (F.MSQ_AGE_MAX_AGE_NS.addr n.val * 32 + F.MSQ_AGE_MAX_AGE_NS.lsb) = some n.val := by decide +kernel
  exact findReg_at (h n).1 (h n).2.1 rfl (h n).2.2.1 (h n).2.2.2

end Sys2Proof.Machine
end

