-- ==== Sys2Proof/WellFormed.lean ====
section
/-! DEFINITION. Which commands could be put to the part at all: a packet whose LENGTH its first word can hold (R435), and
measurements with as many values as there are things measured. -/

namespace Sys2Proof

/-- R435: a packet is 5 to 1,024 words long, its header and CRC included. -/
def Packet.wf (p : Packet) : Bool := decide (p.data.length ≤ 1019)

/-- A command that the part could be given: 7 rails (R499), 48 sensors (R509), at most 8 lanes of a port (R380), channels and spare
lanes that exist (R374), clients of Reserve Memory (R364), at most 8 certificates (R519). -/
def Instr.wf : Instr → Bool
  | .schedAction p => p.wf
  | .schedCancel p => p.wf
  | .tableInsert p => p.wf
  | .tableDelete p => p.wf
  | .tableLookup p => p.wf
  | .tableDump p => p.wf
  | .evrSeal p => p.wf
  | .evrPin p => p.wf
  | .evrExport p => p.wf
  | .memAccess _ requests _ _ => requests.all (fun x => decide (3 ≤ x.1) && decide (x.1 ≤ 7))
  | .memTrainingDone _ lanes => lanes.all (fun x => decide (x.1 < 32) && decide (x.2 ≤ 3))
  | .trainDone _ lanes => decide (lanes.length ≤ 8)
  | .rxSignalReturn _ _ foms _ => decide (foms.length ≤ 8)
  | .read p => p.wf
  | .write p => p.wf
  | .readBlock p => p.wf
  | .writeBlock p => p.wf
  | .txnBegin p => p.wf
  | .txnCommit p => p.wf
  | .txnRollback p => p.wf
  | .txnCommitAt p => p.wf
  | .attestQuote p => p.wf
  | .faultAck p => p.wf
  | .echo p => p.wf
  | .imageLoad _ certs _ _ _ _ => decide (certs.length ≤ 8)
  | .railSample rails => decide (rails.length = 7)
  | .pmbusRead replies _ => decide (replies.length = 7)
  | .thermalRead temps => decide (temps.length = 48)
  | .registerWrite .. | .pairLoRead .. | .pairHiRead .. | .pairLoWrite .. | .pairHiWrite .. | .rcRead .. | .canopyTick ..
  | .followerCompare .. | .rejoin .. | .rejoinComplete .. | .rateWrite .. | .rateApply | .stepGo .. | .epochChange
  | .snapTake .. | .snapCapture .. | .timeBaseStart | .tpllUnlock | .ingressStart .. | .frameEnd .. | .calGo ..
  | .calLockTimeout | .calDone .. | .tempCompUpdate .. | .syncReceive .. | .delayReqSend .. | .delayRespReceive ..
  | .pdelayExchange .. | .masterSyncSend .. | .delayReqAnswer .. | .ptpGeneralDeliver .. | .servoUpdate | .sourceLoss
  | .servoSrcWrite .. | .servoEnable .. | .refInputLoss .. | .refRevert | .ppsInEdge .. | .todLineRx .. | .ppsOutPulse ..
  | .todTxLine | .evtInEdge .. | .evtiPop .. | .evtOutPulse .. | .actionFire | .slotIssue .. | .bufferAdmission ..
  | .schedulerSelect .. | .transmitDone .. | .tableWriteSlot | .txTailWrite .. | .seatTxFetch .. | .rxTailWrite ..
  | .seatRxDeliver .. | .recircReentry | .tableScrub .. | .learnDecision | .ageSweeperVisit .. | .pinLogPop .. | .pfcRefresh
  | .spillWriteDone .. | .refillReadDone .. | .spareForce .. | .bankSparingStart | .bankSparingDone | .bufferScrub ..
  | .pauseReceived | .pauseExpire | .shaperRefill | .gateEvent | .gclChange | .flapHoldExpire | .queueSample | .heldRelease ..
  | .seqVisible .. | .seqRelease .. | .troupeEnable .. | .helloInterval | .hello .. | .profile .. | .profileApply | .liftReq ..
  | .liftOrder .. | .ack .. | .grant .. | .grantPeriod | .grantApply | .baseWrite .. | .unlift .. | .recordAccept
  | .evrCapRefill | .blockSeal | .blockSign | .evrFlush | .exportFrame | .genesisBlockOpen | .refreshTimer ..
  | .refreshIssue .. | .stackTempRead .. | .selfRefreshEntry .. | .selfRefreshExit .. | .forceFail .. | .channelFail ..
  | .retry .. | .retrainDone .. | .rebuildDone .. | .memRowsLost .. | .patrolScrub .. | .portStart .. | .portStop ..
  | .detect .. | .blockLock .. | .stageTimeout .. | .linkUp .. | .linkDown .. | .quickTimeout .. | .forceRetrain ..
  | .fomMeasure .. | .snapshotWrite .. | .rollbackWrite .. | .eiEntry .. | .eiExit .. | .groupRefLoss .. | .groupRefRestore ..
  | .mgmtLinkChange .. | .collision .. | .backoffExpire | .mdioGo .. | .mdioDone .. | .chkStart .. | .chkBufGranted ..
  | .chkData .. | .chkAbort .. | .chkOutRead .. | .commandWindowWrite .. | .replyWindowRead .. | .cmdFlush .. | .replyFlush ..
  | .iswRead .. | .inbandCommand .. | .prepareAck .. | .prepareDeadline | .commitTick .. | .txnIdleTimeout | .quoteSigned
  | .ackApply | .microwordIssue .. | .routineDispatch .. | .routineWatchdog | .effectApply | .coreTakeOver ..
  | .coreSelfTestDone .. | .rejoinCore .. | .swap .. | .faultTake .. | .noteAutoAck | .freezeRelease .. | .pipelineFault ..
  | .takeOverEgress | .takeOverSlots | .replayDone | .pipeForce .. | .pipeSelfTestDone .. | .giveBack .. | .giveBackSwitch
  | .spareSelfCheckFail | .pmbAlert .. | .powerDecision | .clockChange | .modelResume .. | .thermtrip .. | .evkGenerated ..
  | .rotate .. | .rotationComplete .. | .fuseOwnerHash .. | .fuseRollback .. | .certSelWrite .. | .certDataRead ..
  | .rngHealthFail | .cntSnapTake .. | .cntSnapCapture .. | .porstNAssert | .porstNRelease .. | .sysrstNAssert ..
  | .sysrstNRelease .. | .swReset .. | .supplyMonitorTrip .. | .vauxPowerUp | .perst .. | .smbusRead .. | .extest .. | .idcode
  | .samplePreload .. | .highz .. | .clamp .. | .extestPulse .. | .extestTrain .. | .bypass | .tapReset | .tpllRelock ..
  | .refInputGood .. | .initDone .. | .groupPllLock .. | .pdelayReqSend .. | .rxEi .. | .exchangeBreak .. | .signerFault ..
  | .spareOk | .rngOk | .fuseProgrammingDone .. | .pcieLinkUp .. | .pcieLinkLost .. => true

end Sys2Proof
end

