-- ==== Sys2Proof/Tests/Slice0.lean ====
section
/-! SUPPORT. The model's own tests: a refused term for each check of WellFormed, one small step for the commands that a swapped operand
could spoil, and for each statement a state that meets its premises. -/

set_option Elab.async false

namespace Sys2Proof.Machine

/-- The part in tick n, its VCORE code 5: the time base runs, its counters in step. -/
def at_ (n : Nat) : State :=
  ({ State.reset with pins := { vid := 5 }, tim := { State.reset.tim with canopy := n, voter := { a := BitVec.ofNat 64 n, b := BitVec.ofNat 64 n, c := BitVec.ofNat 64 n } } } : State).wr
    F.TIM_STATUS_RUN 0 1
/-- A state with fields set. -/
def sets (s : State) (l : List (Fld × Nat × Nat)) : State := l.foldl (fun s x => s.wr x.1 x.2.1 x.2.2) s

/-- A good frame of port 5, classification row 0 that sends every frame to port 3, and an Announce message. -/
def wf : Frame := { id := 3, ing := 5, port := 5, raw := 15900, bytes := zeros 60 ++ fcsOf (zeros 60), ended := true }
def wrow : TabEntry := ⟨0x10, 0, List.replicate 20 0 ++ [0x1FFFF, 2 ^ 23 + 3 * 2 ^ 7, 0, 0]⟩
def wptp : Bytes := [1, 0x1B, 0x19, 0, 0, 0, 2, 2, 2, 2, 2, 2, 0x88, 0xF7, 0x0B, 2] ++ zeros 48

/-- A frame of port 512 on its way to port 3. -/
def wpf : PipeFrame := ⟨{ wf with port := 512, ing := 512 }, 0, 1000, { dest := .port 3 }, 0, []⟩

/-- A packet of Seat 0: opcode, address, parameter and data. -/
def wpk (op addr par : Nat) (data : List Nat) (seat : Fin 4 := 0) : Packet :=
  { sender := seat, opcode := BitVec.ofNat 8 op, flags := 0, tag := 7, seat := seat, txn := 0, address := BitVec.ofNat 32 addr,
    parameter := BitVec.ofNat 32 par, data := data.map (BitVec.ofNat 32) }

/-- Drafen is ready and its core 0 active, in tick n. -/
def rdy (n : Nat) : State := sets (at_ n) [(F.CMD_CORE_STATUS_READY, 0, 1), (F.CMD_CORE_STATUS_CORE0, 0, 0)]

/-- Transaction 9 of Seat 0, with nothing staged. -/
def wtx : Txn :=
  { id := 9, seat := 0, implicit := false, words := [], entries := [], order := [], prepUs := 100, lastCmd := 50, phase := .staging, action := 0,
    timed := none, waiting := none }

/-- A member of a Troupe, with one listed port that is up, in tick n of epoch 5. -/
def wtrp (n : Nat) : State :=
  sets (at_ n) [(F.TRP_CTRL_ENABLE, 0, 1), (F.TRP_CTRL_MEMBER_ID, 0, 1), (F.TRP_STATUS_STATE, 0, 2), (F.TRP_LINK_VALID, 0, 1), (F.TRP_LINK_PORT, 0, 4),
    (F.LAN_PORT_STATUS_STATE, 4, 5), (F.TIM_STATUS_TIME_VALID, 0, 1), (F.TIM_EPOCH_CURRENT, 0, 5)]
/-- A control frame: TYPE, sender, SEQ, REQ_NS and body. -/
def wctl (type sender seq req : Nat) (body : Bytes) : Bytes :=
  be 6 0x034B540F0001 ++ be 6 9 ++ be 2 0x88B5 ++ be 1 1 ++ be 1 type ++ be 1 sender ++ be 1 0 ++ be 4 0 ++ be 4 seq ++ be 4 0 ++ be 4 0 ++ be 4 req
    ++ body ++ zeros 40

/-- A record, an open block with one TIME_STATE record, and a sealed block without its signature. -/
def wrec : Record :=
  { kind := 0x16, flags := 0, unit := 6, inst := 2, sub := 0, epoch := 1, tick := 1500, body := zeros 32, optional := false, drop := none, handed := 1500 }
def wopen : OpenBlock :=
  { no := 4, firstRec := 20, openTick := 1000, records := [{ wrec with kind := 0x10 }], genesis := false, afterReset := false,
    aggregating := false, phase := 4, openView := 0, policy := [] }
def wblock : SealedBlock :=
  { no := 3, openTick := 500, sealTick := 1000, header := zeros 256, body := [1, 2, 3], trailer := none, place := 0, length := 4096, pinned := false,
    lost := false, keyGen := 0 }

/-- A request of Seat 0, its routine before the commit point with one effect entered, and Drafen in tick n with core 0 active at address
0, which holds the microword mw over the nanoword nw. -/
def wreq : Request := ⟨3, 0, some (wpk 0x01 0x10000 0 [])⟩
def wrout : Routine :=
  { req := wreq, start := 40, past := false, abandons := 0, ucodeFaults := 0, cycles := 10, effects := [.replyWord 7], reads := [], received := 0,
    replay := none, wordPos := 0, busDone := false, busErr := none, poolOk := false, poolFail := false, allocs := [] }
def wdr (n mw nw : Nat) : State :=
  { rdy n with drafen := { cores := [{ micro := [(0, mw)], nano := [(1, nw)], g := [(2, 5)] }, {}], routine := some wrout } }

end Sys2Proof.Machine
namespace Sys2Proof.Tests

open Sys2Proof.Machine


/-! ### Time (chapters 1 and 2) -/

theorem wit_CanopyCountsAndOutvotesOneCounter_1 : let s : State := at_ 100; (s.ticking = true) ∧ (s.now + 1 < 2 ^ 64) ∧ (s.tim.voter.a = BitVec.ofNat 64 s.now ∧ s.tim.voter.b = s.tim.voter.a ∧ s.tim.voter.c = s.tim.voter.a) := by decide +kernel
theorem wit_CanopyCountsAndOutvotesOneCounter_2 : let s : State := at_ 100; let u : DWord := 5; (s.ticking = true) ∧ (s.now + 1 < 2 ^ 64) ∧ (s.tim.voter.a = BitVec.ofNat 64 s.now ∧ s.tim.voter.b = s.tim.voter.a ∧ s.tim.voter.c = s.tim.voter.a) ∧ (s.rd F.TIM_VOTE_STATUS_ACTIVE = 7) ∧ (u ≠ 0) := by decide +kernel
theorem wit_RateChangesAndStepsOfTime_1 : let s : State := { at_ 100 with tim := { (at_ 100).tim with armedRate := some (99, 600000000) } }; let r : Int := 600000000; (s.clocked = true) ∧ (s.rateDue = some r) := by decide +kernel
theorem wit_RateChangesAndStepsOfTime_2 : let s : State := { at_ 100 with tim := { (at_ 100).tim with armedStep := some ⟨99, true, 5, false, false⟩ } }; let st : ArmedStep := ⟨99, true, 5, false, false⟩; (s.clocked = true) ∧ (s.now < 2 ^ 64) ∧ (s.tim.epochTick ≠ some s.now) ∧ (s.tim.armedStep = some st) ∧ (st.tick < s.now) ∧ (s.tim.servoStep = none) ∧ (s.stepAllowed = true) := by decide +kernel
theorem wit_RateChangesAndStepsOfTime_3 : let s : State := sets { at_ 100 with tim := { (at_ 100).tim with armedStep := some ⟨99, false, 5, false, false⟩ } } [(F.TIM_EPOCH_CURRENT, 0, 1), (F.SYN_SESSION_PHASE, 0, 3), (F.SYN_PHASE_STEP_ALLOWED, 3, 0)]; let st : ArmedStep := ⟨99, false, 5, false, false⟩; (s.clocked = true) ∧ (s.tim.epochTick ≠ some s.now) ∧ (s.tim.armedStep = some st) ∧ (st.tick < s.now) ∧ (s.tim.servoStep = none) ∧ (s.stepAllowed = false) := by decide +kernel
theorem wit_TimeBaseStartsComparesAndCaptures_1 : let s : State := { at_ 100 with tim := { (at_ 100).tim with snapReq := [none, none, some 99, none] } }; let g : Fin 4 := 2; let t0 : Nat := 99; (s.live = true) ∧ (nth s.tim.snapReq g.val none = some t0) ∧ (t0 < s.now) ∧ (s.now < 2 ^ 64) ∧ (s.Settled) := by decide +kernel
theorem wit_TimeBaseStartsComparesAndCaptures_2 : let s : State := State.reset; (s.pins.porst = false) ∧ (s.pins.tripped = false) ∧ (s.on F.TIM_STATUS_RUN = false) := by decide +kernel
theorem wit_TimeBaseStartsComparesAndCaptures_3 : let s : State := (at_ 100).wr F.TIM_STATUS_TPLL_LOCK 0 1; (s.clocked = true) ∧ (s.on F.TIM_STATUS_TPLL_LOCK = true) := by decide +kernel
theorem wit_TimeBaseStartsComparesAndCaptures_4 : let s : State := sets (at_ 100) [(F.SYN_REF_STATUS_GOOD, 0, 2), (F.SYN_REF_STATUS_CURRENT, 0, 0), (F.SYN_REF_CTRL_ORDER, 0, 1)]; let i : Fin 3 := 1; (s.clocked = true) ∧ (s.on F.TIM_STATUS_TPLL_LOCK = false) ∧ (s.refOrder.find? (fun c => bit (s.rd F.SYN_REF_STATUS_GOOD) c) = some i.val) := by decide +kernel
theorem wit_TimeBaseStartsComparesAndCaptures_5 : let s : State := at_ 128; (s.clocked = true) ∧ (s.now % 64 = 0 ∧ s.ran.contains 3 = false) ∧ (s.tim.followerGood.length = 16) := by decide +kernel
theorem wit_TimeBaseStartsComparesAndCaptures_6 : let s : State := sets { at_ 128 with tim := { (at_ 128).tim with voter := { (at_ 128).tim.voter with agreeC := 1024 } } } [(F.TIM_VOTE_STATUS_REJOINING, 0, 4), (F.TIM_VOTE_STATUS_ACTIVE, 0, 3)]; let i : Fin 3 := 2; (s.clocked = true) ∧ (bit (s.rd F.TIM_VOTE_STATUS_REJOINING) i.val = true) ∧ (bit (s.rd F.TIM_VOTE_STATUS_ACTIVE) i.val = false) ∧ (1024 ≤ (if i = 0 then s.tim.voter.agreeA else if i = 1 then s.tim.voter.agreeB else s.tim.voter.agreeC)) := by decide +kernel
theorem wit_CalibrationEndsAndTemperatureCorrects_1 : let s : State := { at_ 8000001 with tsu := { (at_ 1).tsu with cal := some ⟨7, true, 8, 0, 1⟩ } }; let r : CalRun := ⟨7, true, 8, 0, 1⟩; (s.live = true) ∧ (s.tsu.cal = some r) ∧ (r.start + 8000000 ≤ s.now) := by decide +kernel
theorem wit_CalibrationEndsAndTemperatureCorrects_2 : let s : State := sets { at_ 5000 with tsu := { (at_ 1).tsu with cal := some ⟨137, true, 8, 0, 1⟩ } } [(F.TSU_NOM_ING_VALUE, 0, 36224), (F.TSU_NOM_EGR_VALUE, 0, 24640), (F.TSU_LB_DELAY_VALUE, 4, 216)]; let r : CalRun := ⟨137, true, 8, 0, 1⟩; (s.live = true) ∧ (s.tsu.cal = some r) ∧ (r.port < 512) := by decide +kernel
theorem wit_CalibrationEndsAndTemperatureCorrects_3 : let s : State := sets (at_ 800000) [(F.TSU_PORT_CFG_TEMP_COMP, 9, 1)]; let p : Fin 512 := 9; (s.live = true) ∧ (s.on F.TSU_PORT_CFG_TEMP_COMP p.val = true) ∧ (s.now % 800000 = 0 ∧ s.ran.contains (2048 + p.val) = false) := by decide +kernel
theorem wit_TimeAndSyncWritesOfASeat_1 : let s : State := sets (at_ 100) [(F.TIM_VOTE_STATUS_ACTIVE, 0, 3)]; (s.Free (F.TIM_VOTE_CTRL_REJOIN.addr 0)) := by decide +kernel
theorem wit_TimeAndSyncWritesOfASeat_2 : let s : State := at_ 100; (s.Free (F.TIM_RATE_VALUE.addr 0)) ∧ (s.on F.SYN_SERVO_CTRL_ENABLE = false) := by decide +kernel
theorem wit_TimeAndSyncWritesOfASeat_3 : let s : State := sets (at_ 100) [(F.TIM_STEP_NS_VALUE, 0, 77)]; (s.Free (F.TIM_STEP_CTRL_GO.addr 0)) ∧ (s.on F.TIM_STEP_CTRL_PENDING = false) ∧ (s.stepAllowed = true) := by decide +kernel
theorem wit_TimeAndSyncWritesOfASeat_4 : let s : State := sets (at_ 100) [(F.TIM_SNAP_CTRL_DONE, 2, 1)]; let g : Fin 4 := 2; (s.Free (F.TIM_SNAP_CTRL_TAKE.addr g.val)) ∧ (s.tim.snapReq.length = 4) := by decide +kernel
theorem wit_TimeAndSyncWritesOfASeat_5 : let s : State := sets (at_ 100) [(F.SYN_SERVO_CTRL_ENABLE, 0, 1)]; (s.Free (F.SYN_SERVO_SRC_ORDER.addr 0)) ∧ (s.on F.SYN_SERVO_CTRL_ENABLE = true) := by decide +kernel
theorem wit_TimeAndSyncWritesOfASeat_6 : let s : State := sets (at_ 100) [(F.TIM_RATE_VALUE, 0, 4096)]; let value : Word := 0x11111; (s.Free (F.SYN_SERVO_CTRL_ENABLE.addr 0)) ∧ (s.on F.SYN_SERVO_CTRL_ENABLE = false) ∧ (bit value.toNat 0 = true) := by decide +kernel
theorem wit_TimeAndSyncWritesOfASeat_7 : let s : State := { at_ 100 with syn := { (at_ 100).syn with evti := [[], [⟨5, 6, true⟩, ⟨7, 8, false⟩], [], [], [], [], [], []] } }; let pin : Fin 8 := 1; (s.Free (F.SYN_EVTI_CTRL_POP.addr pin.val)) ∧ (s.syn.evti.length = 8) := by decide +kernel
theorem wit_TimeAndSyncWritesOfASeat_8 : let s : State := at_ 100; let seat : Fin 4 := 0; let port : Fin 512 := 137; (s.Free (F.TSU_CAL_CTRL_GO.addr 0)) ∧ (s.ownsPort seat.val port.val = true) ∧ (s.on F.TSU_CAL_STATUS_BUSY = false) ∧ (s.portStopped port.val = true) := by decide +kernel
theorem wit_PtpMessagesMeasureOffsetAndPath_1 : let s : State := sets { at_ 800 with syn := { (at_ 1).syn with assocs := [{}, { hasPath := true }, {}, {}] } } [(F.SYN_ASSOC_CTRL_ENABLE, 1, 1), (F.SYN_ASSOC_CTRL_PORT, 1, 7), (F.SYN_SERVO_CTRL_ENABLE, 0, 1), (F.SYN_SERVO_SRC_ORDER, 0, 0xFFF1), (F.SYN_SERVO_STATUS_SOURCE, 0, 1)]; let a : Fin 4 := 1; let m : PtpMsg := ⟨7, 0, 0, 0, 0, 9, 3, 500, 65536, 2, 256000, 40⟩; (s.live = true) ∧ (s.Settled) ∧ (∀ b : Fin 4, s.assocTakes b.val m = decide (b = a)) ∧ (s.syn.assocs.length = 4 ∧ s.syn.servo.lastValid.length = 6 ∧ s.syn.servo.goodRun.length = 6) ∧ ((nth s.syn.assocs a.val {}).pend = none ∧ (nth s.syn.assocs a.val {}).hasPath = true) ∧ ((paramsAt s.tim.params (s.ptpRaw m / 16)).2 = false ∧ s.stampEpoch (s.ptpRaw m) = s.epoch) ∧ (s.on F.SYN_ASSOC_CTRL_DELAY_MECH a.val = false) ∧ (s.on F.SYN_SERVO_CTRL_ENABLE = true ∧ s.srcOrder.contains a.val = true ∧ s.rd F.SYN_SERVO_STATUS_SOURCE = a.val) := by decide +kernel
theorem wit_PtpMessagesMeasureOffsetAndPath_2 : let s : State := sets { at_ 800 with syn := { (at_ 1).syn with assocs := [{}, { hasPath := true, pend := some ⟨9, 70, 5000, 0⟩ }, {}, {}] } } [(F.SYN_ASSOC_CTRL_ENABLE, 1, 1), (F.SYN_ASSOC_CTRL_PORT, 1, 7), (F.SYN_SERVO_CTRL_ENABLE, 0, 1), (F.SYN_SERVO_SRC_ORDER, 0, 0xFFF1), (F.SYN_SERVO_STATUS_SOURCE, 0, 1)]; let a : Fin 4 := 1; let m : PtpMsg := ⟨7, 0, 0, 0, 0, 9, 3, 500, 65536, 2, 256000, 40⟩; let q : SyncPend := ⟨9, 70, 5000, 0⟩; (s.live = true) ∧ (s.Settled) ∧ (∀ b : Fin 4, s.assocTakes b.val m = decide (b = a)) ∧ (s.syn.assocs.length = 4 ∧ s.syn.servo.lastValid.length = 6 ∧ s.syn.servo.goodRun.length = 6) ∧ ((nth s.syn.assocs a.val {}).pend = some q ∧ q.seq = m.seq.toNat ∧ q.t2Epoch = s.epoch ∧ (nth s.syn.assocs a.val {}).hasPath = true) ∧ ((paramsAt s.tim.params (s.ptpRaw m / 16)).2 = false) ∧ (s.on F.SYN_ASSOC_CTRL_DELAY_MECH a.val = false) ∧ (s.on F.SYN_SERVO_CTRL_ENABLE = true ∧ s.srcOrder.contains a.val = true ∧ s.rd F.SYN_SERVO_STATUS_SOURCE = a.val) := by decide +kernel
theorem wit_PtpMessagesMeasureOffsetAndPath_3 : let s : State := sets (at_ 800) [(F.SYN_ASSOC_CTRL_ENABLE, 1, 1), (F.SYN_ASSOC_CTRL_PORT, 1, 7)]; let a : Fin 4 := 1; let m : PtpMsg := ⟨7, 0, 0, 0, 0, 9, 3, 500, 65536, 2, 256000, 40⟩; let twoStep : Bool := true; (s.live = true) ∧ (s.Settled) ∧ (∀ b : Fin 4, s.assocTakes b.val m = decide (b = a)) ∧ (s.syn.assocs.length = 4 ∧ s.syn.servo.goodRun.length = 6) ∧ ((nth s.syn.assocs a.val {}).pend = none) ∧ ((paramsAt s.tim.params (s.ptpRaw m / 16)).2 = false) ∧ (twoStep = true ∨ s.stampEpoch (s.ptpRaw m) ≠ s.epoch) := by decide +kernel
theorem wit_PtpMessagesMeasureOffsetAndPath_4 : let s : State := sets (at_ 800) [(F.SYN_ASSOC_CTRL_ENABLE, 2, 1)]; let a : Fin 4 := 2; (s.live = true) ∧ (s.Settled) ∧ (s.syn.assocs.length = 4) ∧ (s.on F.SYN_ASSOC_CTRL_ENABLE a.val = true) ∧ (s.on F.SYN_ASSOC_CTRL_DELAY_MECH a.val = false) ∧ (s.intervalOver (nth s.syn.assocs a.val {}).lastReq (s.rd F.SYN_ASSOC_VLAN_LOG_DELAY_REQ a.val) = true) := by decide +kernel
theorem wit_PtpMessagesMeasureOffsetAndPath_5 : let s : State := sets { at_ 800 with syn := { (at_ 1).syn with assocs := [{}, { dreq := some ⟨9, 70, 0, 0⟩, sample := some ⟨5, 0, 40, 0⟩ }, {}, {}] } } [(F.SYN_ASSOC_CTRL_ENABLE, 1, 1), (F.SYN_ASSOC_CTRL_PORT, 1, 7)]; let a : Fin 4 := 1; let m : PtpMsg := ⟨7, 0, 0, 0, 0, 9, 0, 500, 65536, 2, 256000, 0⟩; let d : DelayReqSent := ⟨9, 70, 0, 0⟩; let q : SyncSample := ⟨5, 0, 40, 0⟩; (s.live = true) ∧ (s.syn.assocs.length = 4) ∧ (∀ b : Fin 4, s.assocTakes b.val m = decide (b = a)) ∧ (s.on F.SYN_ASSOC_CTRL_DELAY_MECH a.val = false) ∧ ((nth s.syn.assocs a.val {}).dreq = some d ∧ (nth s.syn.assocs a.val {}).sample = some q) ∧ (d.seq = m.seq.toNat ∧ d.t3Epoch = q.t2Epoch) := by decide +kernel
theorem wit_PtpMessagesMeasureOffsetAndPath_6 : let s : State := sets (at_ 800) [(F.SYN_MPORT_CTRL_ROLE, 5, 2)]; let port : Fin 512 := 5; (s.live = true) ∧ (s.Settled) ∧ (s.runsPdelay port.val = true) ∧ (s.maySend port.val = true) := by decide +kernel
theorem wit_PtpMessagesMeasureOffsetAndPath_7 : let s : State := sets { at_ 800 with syn := { (at_ 1).syn with mports := [⟨5, none, 0, 4, some 100, false, 0⟩] } } [(F.SYN_MPORT_CTRL_ROLE, 5, 2)]; let port : Fin 512 := 5; let version : BitVec 8 := 2; let seq : BitVec 16 := 3; let detect : Nat := 256000; let var : Nat := 40; let t1 : Int := 100; (s.live = true) ∧ (s.Settled) ∧ (version.toNat = 0x02 ∨ version.toNat = 0x12) ∧ (s.runsPdelay port.val = true) ∧ ((paramsAt s.tim.params (s.ingressRaw port.val detect var / 16)).2 = false) ∧ ((s.syn.mport port.val).pdT1 = some t1) ∧ ((seq.toNat + 1) % 65536 = (s.syn.mport port.val).pdSeq) := by decide +kernel
theorem wit_PtpMessagesMeasureOffsetAndPath_8 : let s : State := sets (at_ 800) [(F.SYN_MPORT_CTRL_ROLE, 5, 2)]; let port : Fin 512 := 5; let version : BitVec 8 := 0x12; let detect : Nat := 256000; let var : Nat := 40; (s.live = true) ∧ (s.Settled) ∧ (version.toNat = 0x02 ∨ version.toNat = 0x12) ∧ (s.runsPdelay port.val = true) ∧ (s.maySend port.val = true) ∧ ((paramsAt s.tim.params (s.ingressRaw port.val detect var / 16)).2 = false) := by decide +kernel
theorem wit_PtpMessagesMeasureOffsetAndPath_9 : let s : State := sets (at_ 800) [(F.SYN_MPORT_CTRL_ROLE, 5, 1), (F.TIM_STATUS_TIME_VALID, 0, 1)]; let port : Fin 512 := 5; (s.live = true) ∧ (s.Settled) ∧ (s.rd F.SYN_MPORT_CTRL_ROLE port.val = 1) ∧ (s.on F.TIM_STATUS_TIME_VALID = true) ∧ (s.intervalOver (s.syn.mport port.val).lastSync (s.rd F.SYN_MPORT_CTRL_LOG_SYNC port.val) = true) := by decide +kernel
theorem wit_PtpMessagesMeasureOffsetAndPath_10 : let s : State := sets (at_ 800) [(F.SYN_MPORT_CTRL_ROLE, 5, 1), (F.TIM_STATUS_TIME_VALID, 0, 1)]; let m : PtpMsg := ⟨5, 0, 0, 0, 0, 9, 0, 500, 65536, 2, 256003, 1⟩; (s.live = true) ∧ (s.Settled) ∧ (m.version.toNat = 0x02 ∨ m.version.toNat = 0x12) ∧ (s.rd F.SYN_MPORT_CTRL_ROLE m.port.val = 1) ∧ (s.on F.TIM_STATUS_TIME_VALID = true) ∧ (s.rd F.SYN_MPORT_CTRL_DOMAIN m.port.val = m.domain.toNat) ∧ ((paramsAt s.tim.params (s.ptpRaw m / 16)).2 = false) := by decide +kernel
theorem wit_ServoFollowsMeasurementsAndLosesSources_1 : let s : State := sets { at_ 800 with syn := { (at_ 1).syn with servo := { (at_ 1).syn.servo with meas := some ⟨640, 4, true, 799⟩ } } } [(F.SYN_SERVO_CTRL_ENABLE, 0, 1), (F.TIM_EPOCH_CURRENT, 0, 1), (F.SYN_SERVO_STATUS_STATE, 0, 3)]; let m : Meas := ⟨640, 4, true, 799⟩; (s.live = true) ∧ (s.on F.SYN_SERVO_CTRL_ENABLE = true) ∧ (s.syn.servo.meas = some m) ∧ (m.tick < s.now) ∧ (s.epoch ≠ 0) ∧ (s.rd F.SYN_SERVO_STATUS_STATE ≠ 4) ∧ (m.theta.natAbs ≤ s.rd F.SYN_PHASE_THRESH_NS s.phase * 65536) ∧ (s.epochDue = s ∧ s.rateDue = none) ∧ (((Int.fdiv (Int.fdiv (m.theta * 2 ^ 24) (s.srcInterval m.src)) (2 ^ s.rd F.SYN_SERVO_CTRL_KP_SHIFT)).natAbs : Int) ≤
      (s.rd F.SYN_PHASE_SLEW_PPB s.phase * 2 ^ 40 / 1000000000 : Nat)) := by decide +kernel
theorem wit_ServoFollowsMeasurementsAndLosesSources_2 : let s : State := sets { at_ 800 with syn := { (at_ 1).syn with servo := { (at_ 1).syn.servo with meas := some ⟨640, 4, true, 799⟩ } } } [(F.SYN_SERVO_CTRL_ENABLE, 0, 1)]; let m : Meas := ⟨640, 4, true, 799⟩; (s.live = true) ∧ (s.on F.SYN_SERVO_CTRL_ENABLE = true) ∧ (s.syn.servo.meas = some m) ∧ (m.tick < s.now) ∧ (s.epoch = 0) ∧ (m.seconds = true) ∧ (s.epochDue = s ∧ s.rateDue = none ∧ s.tim.epochTick ≠ some s.now) := by decide +kernel
theorem wit_ServoFollowsMeasurementsAndLosesSources_3 : let s : State := sets (at_ 800) [(F.SYN_SERVO_CTRL_ENABLE, 0, 1), (F.SYN_SERVO_STATUS_SOURCE, 0, 1), (F.SYN_SERVO_STATUS_STATE, 0, 3)]; (s.live = true) ∧ (s.Settled) ∧ (s.on F.SYN_SERVO_CTRL_ENABLE = true) ∧ (s.rd F.SYN_SERVO_STATUS_SOURCE < 6) ∧ (s.srcValid (s.rd F.SYN_SERVO_STATUS_SOURCE) = false ∧ s.srcOrder.all (fun c => !s.srcValid c) = true) := by decide +kernel
theorem wit_ReferencesMoveWithoutAPhaseStep_1 : let s : State := sets (at_ 800) [(F.SYN_REF_STATUS_GOOD, 0, 7), (F.SYN_REF_STATUS_CURRENT, 0, 1), (F.TIM_STATUS_TPLL_LOCK, 0, 1), (F.SYN_REF_CTRL_ORDER, 0, 0x09)]; let i : Fin 3 := 1; let j : Nat := 2; let freq : Option Nat := some 10100000000; (s.clocked = true) ∧ (freq.all (fun f => !s.refInTol i.val f) = true) ∧ (bit (s.rd F.SYN_REF_STATUS_GOOD) i.val = true) ∧ (s.rd F.SYN_REF_STATUS_CURRENT = i.val ∧ s.on F.TIM_STATUS_TPLL_LOCK = true) ∧ (s.refOrder.find? (fun c => c != i.val && bit (s.rd F.SYN_REF_STATUS_GOOD) c) = some j) := by decide +kernel
theorem wit_ReferencesMoveWithoutAPhaseStep_2 : let s : State := sets (at_ 800) [(F.SYN_REF_STATUS_GOOD, 0, 2), (F.SYN_REF_STATUS_CURRENT, 0, 1), (F.TIM_STATUS_TPLL_LOCK, 0, 1)]; let i : Fin 3 := 1; let freq : Option Nat := none; (s.clocked = true) ∧ (freq.all (fun f => !s.refInTol i.val f) = true) ∧ (bit (s.rd F.SYN_REF_STATUS_GOOD) i.val = true) ∧ (s.rd F.SYN_REF_STATUS_CURRENT = i.val ∧ s.on F.TIM_STATUS_TPLL_LOCK = true) ∧ (s.refOrder.find? (fun c => c != i.val && bit (s.rd F.SYN_REF_STATUS_GOOD) c) = none) := by decide +kernel
theorem wit_ReferencesMoveWithoutAPhaseStep_3 : let s : State := sets (at_ 800) [(F.SYN_REF_STATUS_GOOD, 0, 2)]; let i : Fin 3 := 0; let freq : Nat := 156250000001; (s.clocked = true) ∧ (s.refInTol i.val freq = true) ∧ (s.syn.refGoodSince.length = 3) ∧ (bit (s.rd F.SYN_REF_STATUS_GOOD) i.val = false) := by decide +kernel
theorem wit_ReferencesMoveWithoutAPhaseStep_4 : let s : State := sets { at_ 8000000100 with syn := { (at_ 1).syn with refGoodSince := [some 100, some 7, none] } } [(F.SYN_REF_CTRL_ORDER, 0, 0x34), (F.SYN_REF_CTRL_REVERT, 0, 1), (F.SYN_REF_STATUS_CURRENT, 0, 1), (F.TIM_STATUS_TPLL_LOCK, 0, 1)]; let i : Nat := 0; let j : Nat := 1; let since : Nat := 100; (s.clocked = true) ∧ (s.on F.SYN_REF_CTRL_REVERT = true ∧ s.on F.TIM_STATUS_TPLL_LOCK = true) ∧ (s.refOrder = [i, j] ∧ i ≠ j ∧ s.rd F.SYN_REF_STATUS_CURRENT = j) ∧ (nth s.syn.refGoodSince i none = some since) ∧ (since + 8000000000 ≤ s.now) := by decide +kernel
theorem wit_TimedInputsAndOutputs_1 : let s : State := sets { at_ 800001000 with syn := { (at_ 1).syn with pps := [{}, { last := some 1000 }] } } [(F.SYN_PPS_IN_CTRL_ENABLE, 1, 1), (F.TIM_EPOCH_CURRENT, 0, 1)]; let i : Fin 2 := 1; let rise : Bool := true; let raw : Nat := 12800016003; let x : PpsIn := { last := some 1000 }; let l : Nat := 1000; (s.live = true) ∧ (s.Settled) ∧ (s.on F.SYN_PPS_IN_CTRL_ENABLE i.val = true ∧ s.on F.SYN_PPS_IN_CTRL_EDGE i.val = !rise) ∧ (s.syn.pps.length = 2 ∧ nth s.syn.pps i.val {} = x ∧ x.last = some l ∧ x.label = none) ∧ (l ≤ raw / 16 ∧ 720000000 ≤ raw / 16 - l ∧ raw / 16 - l ≤ 880000000 ∧ raw < 2 ^ 64) ∧ (s.epoch ≠ 0) := by decide +kernel
theorem wit_TimedInputsAndOutputs_2 : let s : State := sets { at_ 10000000 with syn := { (at_ 1).syn with pps := [{ edge := some 1000 }, {}] } } [(F.SYN_TOD_CTRL_RX_EN, 0, 1), (F.SYN_TOD_CTRL_RX_SRC, 0, 0)]; let line : Bytes := todLine 1749974400 true; let e : Nat := 1000; let n : Nat := 1749974400; (s.live = true) ∧ (s.on F.SYN_TOD_CTRL_RX_EN = true) ∧ (s.syn.pps.length = 2) ∧ ((nth s.syn.pps (s.rd F.SYN_TOD_CTRL_RX_SRC) {}).edge = some e) ∧ (todParse line = some n) := by decide +kernel
theorem wit_TimedInputsAndOutputs_3 : let s : State := sets { at_ 799999996 with tim := { (at_ 799999996).tim with params := [{ epoch := 1 }] } } [(F.SYN_PPS_OUT_CTRL_ENABLE, 0, 1), (F.TIM_EPOCH_CURRENT, 0, 1)]; let j : Fin 2 := 0; let v : Nat := 65536000000000; (s.live = true) ∧ (s.Settled) ∧ (s.on F.SYN_PPS_OUT_CTRL_ENABLE j.val = true) ∧ (s.epoch ≠ 0) ∧ (s.syn.ppsOut.length = 2 ∧ s.syn.ppsOutLast.length = 2 ∧ (nth s.syn.ppsOutLast j.val none).all (fun l => l + 400000000 ≤ s.now) = true) ∧ (s.trainIn (s.now + 4) (s.rdS F.SYN_PPS_OUT_OFS_OFFSET_NS j.val * 65536 % (unitsPerSec : Nat)).toNat unitsPerSec = some v) := by decide +kernel
theorem wit_TimedInputsAndOutputs_4 : let s : State := sets { at_ 90000000 with syn := { (at_ 1).syn with ppsOutLast := [some 5, none] } } [(F.SYN_TOD_CTRL_TX_EN, 0, 1)]; let t0 : Nat := 5; (s.live = true) ∧ (s.Settled) ∧ (s.on F.SYN_TOD_CTRL_TX_EN = true) ∧ (nth s.syn.ppsOutLast 0 none = some t0) ∧ (t0 + 80000000 ≤ s.now) ∧ ((s.syn.todTx.map Prod.fst) ≠ some t0) := by decide +kernel
theorem wit_TimedInputsAndOutputs_5 : let s : State := sets (at_ 800) [(F.SYN_EVTI_CTRL_ENABLE, 3, 1)]; let pin : Fin 8 := 3; let rise : Bool := true; (s.live = true) ∧ (s.Settled) ∧ (s.evtSelects pin.val rise = true) ∧ (s.syn.evti.length = 8 ∧ s.syn.evtiLast.length = 8 ∧ s.syn.evtiDrops.length = 8) ∧ (s.on F.SYN_EVTI_CTRL_RECORD pin.val = false) := by decide +kernel
theorem wit_TimedInputsAndOutputs_6 : let s : State := sets (at_ 76) [(F.SYN_EVTO_CTRL_MODE, 2, 2), (F.SYN_EVTO_PERIOD_NS, 2, 100), (F.SYN_EVTO_WIDTH_NS, 2, 20), (F.SYN_EVTO_START_NS_NS, 2, 0)]; let pin : Fin 8 := 2; let v : Nat := 6553600; (s.live = true) ∧ (s.Settled) ∧ (s.rd F.SYN_EVTO_CTRL_MODE pin.val = 2) ∧ (s.syn.evto.length = 8) ∧ (s.trainIn (s.now + 4) (viewOf (s.rd2 F.SYN_EVTO_START_SEC_LO_VALUE F.SYN_EVTO_START_SEC_HI_VALUE pin.val) (s.rd F.SYN_EVTO_START_NS_NS pin.val) 0)
      (s.rd F.SYN_EVTO_PERIOD_NS pin.val * 65536) = some v) := by decide +kernel

/-! ### The forwarding path, the buffer and the queues (chapters 4 to 10) -/

theorem wit_FramesAreStampedAndWaitForTheirSlot_1 : let s : State := sets (at_ 1000) [(F.LAN_PORT_CFG_EN, 5, 1), (F.LAN_PORT_STATUS_STATE, 5, 5), (F.BUF_STATUS_INIT_DONE, 0, 1)]; let p : Fin 512 := 5; let detect : Nat := 320007; let bytes : Bytes := List.replicate 70 1; (s.live = true) ∧ (s.portUp p.val = true ∧ s.on F.BUF_STATUS_INIT_DONE = true) ∧ (s.Settled) ∧ (detect / 320 = s.now) ∧ (s.fwd.rx.all (fun f => f.ing != p.val) = true) ∧ ((s.fwd.fifo.filter (fun x => x.port == p.val)).length < 32 * modeLanes (s.rd F.LAN_PORT_CFG_MODE p.val)) ∧ (nth s.flt.pipes (p.val / 32) .down ≠ .down) ∧ (beAt bytes 12 2 ≠ 0x8808) := by decide +kernel
theorem wit_FramesAreStampedAndWaitForTheirSlot_2 : let s : State := sets { at_ 1000 with fwd := { (at_ 1).fwd with fifo := List.replicate 256 { port := 5 } } } [(F.LAN_PORT_CFG_EN, 5, 1), (F.LAN_PORT_STATUS_STATE, 5, 5), (F.BUF_STATUS_INIT_DONE, 0, 1)]; let p : Fin 512 := 5; let detect : Nat := 320007; (s.live = true) ∧ (s.portUp p.val = true ∧ s.on F.BUF_STATUS_INIT_DONE = true) ∧ (s.Settled) ∧ (detect / 320 = s.now) ∧ (s.fwd.rx.all (fun f => f.ing != p.val) = true) ∧ (32 * modeLanes (s.rd F.LAN_PORT_CFG_MODE p.val) ≤ (s.fwd.fifo.filter (fun x => x.port == p.val)).length) := by decide +kernel
theorem wit_FramesAreStampedAndWaitForTheirSlot_3 : let s : State := { at_ 1000 with fwd := { (at_ 1).fwd with rx := [{ id := 3, ing := 5, port := 5 }], fifo := [{ id := 3, ing := 5, port := 5 }] } }; let p : Fin 512 := 5; let f : Frame := { id := 3, ing := 5, port := 5 }; (s.live = true) ∧ (s.fwd.rx.find? (fun x => x.ing == p.val) = some f) := by decide +kernel
theorem wit_FramesAreStampedAndWaitForTheirSlot_4 : let s : State := { at_ 1000 with fwd := { (at_ 1).fwd with rx := [{ id := 3, ing := 5, port := 5, bytes := zeros 60 ++ fcsOf (zeros 60) }], fifo := [{ id := 3, ing := 5, port := 5 }] } }; let p : Fin 512 := 5; let f : Frame := { id := 3, ing := 5, port := 5, bytes := zeros 60 ++ fcsOf (zeros 60) }; (s.live = true) ∧ (s.fwd.rx.find? (fun x => x.ing == p.val) = some f) ∧ (64 ≤ f.bytes.length ∧ f.bytes.length ≤ s.rd F.MAC_PORT_CFG_MAX_LEN p.val) ∧ (fcsGood f.bytes = true ∧ fcsStomped f.bytes = false) ∧ (beAt f.bytes 12 2 ≠ 0x8808) ∧ (s.rdG f.gen F.MAC_PORT_CFG_ACCEPT p.val = 0 ∧ s.cutTx f.id = none) := by decide +kernel
theorem wit_SlotsClassifyAndSeatsSendFrames_1 : let s : State := sets { at_ 1008 with fwd := { (at_ 1).fwd with fifo := [wf] }, tbl := { (at_ 1).tbl with cur := [wrow] } } []; let u : State := (s.takeSlot 0 0 1).2; let pipe : Fin 16 := 0; let slot : Fin 128 := 1; let f : Frame := wf; let r : TabEntry := wrow; let err : LookupErr := {}; (s.live = true) ∧ (s.slotFree pipe.val slot.val = true) ∧ (nth s.flt.pipes pipe.val .down = .serving) ∧ (s.takeSlot pipe.val pipe.val slot.val = (some f, u)) ∧ (f.gen = u.rd F.SYS_CFG_GEN_CURRENT ∧ u.consumed f = false) ∧ (u.rd F.BUF_FWD_PORT_SAMPLE_SAMPLE_N f.port = 0) ∧ (fragState (u.parse f.gen f.port f.payload).roles = 0) ∧ (rowFind (u.genTables f.gen) (u.keyOf f.gen f.port (u.parse f.gen f.port f.payload)) (if f.port < 512 then f.port / 32 else 16) = some r) ∧ (actFwd (rowAction r.words) = 1) ∧ (err.rowLost = none ∧ s.tbl.damage.contains (pipe.val, 0x10, r.index) = false) := by decide +kernel
theorem wit_SlotsClassifyAndSeatsSendFrames_2 : let s : State := { at_ 1008 with fwd := { (at_ 1).fwd with fifo := [wf] }, flt := { (at_ 1).flt with pipes := .failed :: List.replicate 15 .serving, takeOver := some (0, 1000) } }; let u : State := (s.takeSlot 0 0 1).2; let pipe : Fin 16 := 0; let slot : Fin 128 := 1; let f : Frame := wf; let tick : Nat := 1000; (s.live = true) ∧ (s.slotFree pipe.val slot.val = true) ∧ (nth s.flt.pipes pipe.val .down = .failed ∧ s.flt.takeOver = some (pipe.val, tick) ∧ s.flt.slotsTaken = false) ∧ (s.takeSlot pipe.val pipe.val slot.val = (some f, u)) := by decide +kernel
theorem wit_SlotsClassifyAndSeatsSendFrames_3 : let s : State := sets (at_ 1000) [(F.CMD_SEAT_STATUS_LINK_UP, 1, 1), (F.BUF_SEAT_RING_CTRL_TX_EN, 1, 1), (F.BUF_STATUS_INIT_DONE, 0, 1), (F.BUF_SEAT_RING_TX_TAIL_VALUE, 1, 3)]; let seat : Fin 4 := 1; let length : BitVec 16 := 60; let bytes : Bytes := zeros 60; (s.live = true) ∧ (s.Settled) ∧ (s.on F.CMD_SEAT_STATUS_LINK_UP seat.val = true ∧ s.on F.BUF_SEAT_RING_CTRL_TX_EN seat.val = true ∧ s.on F.BUF_STATUS_INIT_DONE = true) ∧ (s.rd F.BUF_SEAT_RING_TX_HEAD_VALUE seat.val ≠ s.rd F.BUF_SEAT_RING_TX_TAIL_VALUE seat.val) ∧ (60 ≤ length.toNat ∧ length.toNat ≤ s.rd F.MAC_PORT_CFG_MAX_LEN (512 + seat.val) - 4 ∧ bytes.length = length.toNat) ∧ (nth s.flt.pipes ({ ing := 512 + seat.val, port := 512 + seat.val : Frame }).group .down ≠ .down) := by decide +kernel
theorem wit_SlotsClassifyAndSeatsSendFrames_4 : let s : State := sets (at_ 1000) [(F.CMD_SEAT_STATUS_LINK_UP, 1, 1), (F.BUF_SEAT_RING_CTRL_TX_EN, 1, 1), (F.BUF_STATUS_INIT_DONE, 0, 1), (F.BUF_SEAT_RING_TX_TAIL_VALUE, 1, 3)]; let seat : Fin 4 := 1; let readable : Bool := true; let length : BitVec 16 := 59; (s.live = true) ∧ (s.Settled) ∧ (s.on F.CMD_SEAT_STATUS_LINK_UP seat.val = true ∧ s.on F.BUF_SEAT_RING_CTRL_TX_EN seat.val = true ∧ s.on F.BUF_STATUS_INIT_DONE = true) ∧ (s.rd F.BUF_SEAT_RING_TX_HEAD_VALUE seat.val ≠ s.rd F.BUF_SEAT_RING_TX_TAIL_VALUE seat.val) ∧ (length.toNat < 60 ∨ s.rd F.MAC_PORT_CFG_MAX_LEN (512 + seat.val) - 4 < length.toNat ∨ readable = false) := by decide +kernel
theorem wit_SlotsClassifyAndSeatsSendFrames_5 : let s : State := sets (at_ 1000) [(F.BUF_STATUS_INIT_DONE, 0, 1), (F.SYN_ASSOC_CTRL_ENABLE, 0, 1), (F.SYN_ASSOC_CTRL_PORT, 0, 7), (F.BUF_THR_PROF_ALPHA_ALPHA_K, 0, 0)]; let p : Fin 512 := 7; let bytes : Bytes := wptp; let k : Nat := 58; (s.live = true) ∧ (s.Settled) ∧ (s.on F.BUF_STATUS_INIT_DONE = true) ∧ (ptpProfile bytes = some k) ∧ (byteAt bytes (ptpOffset k) % 16 = 11 ∨ byteAt bytes (ptpOffset k) % 16 = 12 ∨ byteAt bytes (ptpOffset k) % 16 = 13) ∧ (s.ptpTerminates p.val (byteAt bytes (ptpOffset k + 4)) = true) := by decide +kernel
theorem wit_FramesAreAdmittedSelectedAndSent_1 : let s : State := sets { at_ 1000 with fwd := { (at_ 1).fwd with pipe := [wpf] } } [(F.LAN_PORT_CFG_EN, 3, 1), (F.LAN_PORT_STATUS_STATE, 3, 5)]; let u : State := s.setFwd (fun w => { w with pipe := w.pipe.filter (fun x => x.frame.id != wpf.frame.id) }); let pf : PipeFrame := wpf; let e : Fin 512 := 3; let l : Option Nat := none; (s.live = true) ∧ (s.admitDue = [pf] ∧ s.fwd.samples = []) ∧ (s.wholeIn pf.frame = true) ∧ (u = s.setFwd (fun w => { w with pipe := w.pipe.filter (fun x => x.frame.id != pf.frame.id) })) ∧ (pf.frame.ended = true ∧ pf.frame.bad = 0 ∧ pf.frame.gen = u.rd F.SYS_CFG_GEN_CURRENT) ∧ ((u.losslessRule pf.frame (ceilDiv pf.frame.bytes.length 256)).2 = some .no ∧ (u.cutTx pf.frame.id).map (fun x => x.endReason) ≠ some 54) ∧ (pf.dec.dest = .port e.val ∧ actPoliceEn pf.dec.action = false ∧ actCopyEn pf.dec.action = false) ∧ (u.pathFor pf ⟨e.val, none, none, 0, 0⟩ = some 0 ∧ u.portUp e.val = true) ∧ (u.rd F.PWR_STATUS_STEP = 0) ∧ (u.launchOf pf (u.mkCopy pf ⟨e.val, none, none, 0, 0⟩ 0 none) = .ok l) ∧ (u.cutsThrough { u.mkCopy pf ⟨e.val, none, none, 0, 0⟩ 0 none with launch := l } = false) ∧ (u.deepOf (16 * e.val + u.queueFor pf ⟨e.val, none, none, 0, 0⟩ none) = none) ∧ (u.queueTakes (16 * e.val + u.queueFor pf ⟨e.val, none, none, 0, 0⟩ none) (ceilDiv pf.frame.bytes.length 256) = true) ∧ ((u.alloc (ceilDiv pf.frame.bytes.length 256)).isSome = true) := by decide +kernel
theorem wit_FramesAreAdmittedSelectedAndSent_2 : let s : State := sets { at_ 1000 with qsg := { (at_ 1).qsg with queue := [{ frame := wf, egr := 3, queue := 2, admitted := 900 }] } } [(F.LAN_PORT_CFG_EN, 3, 1), (F.LAN_PORT_STATUS_STATE, 3, 5)]; let p : Fin 512 := 3; let n : Fin 16 := 2; let c : Copy := { frame := wf, egr := 3, queue := 2, admitted := 900 }; let var : Nat := 0; let met : Option Nat := none; let d : List (Nat × Int) := [(2, 64)]; (s.live = true) ∧ (s.portUp p.val = true ∧ s.resting p.val = false ∧ s.editReady c.group = true ∧ s.editDown c.group = false) ∧ (s.portFreeAt p.val ≤ s.selectEntry) ∧ (s.heldOf p.val = [] ∧ (s.startDet p.val var met).isNone = true ∧ (s.flowNext p.val var).isNone = true) ∧ (s.qsg.queue = [c] ∧ c.egr = p.val ∧ c.queue = n.val ∧ c.launch = none) ∧ (s.headOf p.val n.val = some c ∧ ∀ k : Fin 16, k ≠ n → s.headOf p.val k.val = none) ∧ (s.headDrop p.val n.val (s.ballTick p.val var s.selectEntry) c = none) ∧ (s.eligible p.val n.val var s.selectEntry c = true) ∧ (dwrr (fun n => s.rd F.QSG_SCHED_PROF_CTRL_WEIGHT (s.schedProf p.val n) * 64) [n.val] 8192
      (s.qsg.place.get (8 * p.val + s.rd F.QSG_SCHED_PROF_CTRL_PRIO (s.schedProf p.val n.val)) 0)
      ((s.qsg.deficit.filter (fun d => d.1 / 16 == p.val)).map (fun d => (d.1 % 16, d.2))) = some (n.val, d)) ∧ (s.badCellOf c met = none ∧ (s.edit c 0).tooLong = false) := by decide +kernel
theorem wit_FramesAreAdmittedSelectedAndSent_3 : let s : State := sets { at_ 1000 with buf := { (at_ 1).buf with flow := [⟨3, zeros 64⟩] } } [(F.LAN_PORT_CFG_EN, 3, 1), (F.LAN_PORT_STATUS_STATE, 3, 5)]; let p : Fin 512 := 3; let var : Nat := 0; let met : Option Nat := none; let x : FlowFrame := ⟨3, zeros 64⟩; (s.live = true) ∧ (s.portUp p.val = true ∧ s.resting p.val = false) ∧ (s.portFreeAt p.val ≤ s.selectEntry) ∧ (s.heldOf p.val = [] ∧ (s.startDet p.val var met).isNone = true) ∧ (s.buf.flow.find? (fun x => x.port == p.val) = some x ∧ s.detFits p.val x.bytes.length s.selectEntry = true) := by decide +kernel
theorem wit_FramesAreAdmittedSelectedAndSent_4 : let s : State := { at_ 1000 with qsg := { (at_ 1).qsg with txs := [⟨3, some { frame := wf, egr := 3, queue := 2 }, zeros 64, 900, 910, 3, 5, 15000, 0, false, 0, none, false, none⟩] } }; let p : Fin 512 := 3; let x : Tx := ⟨3, some { frame := wf, egr := 3, queue := 2 }, zeros 64, 900, 910, 3, 5, 15000, 0, false, 0, none, false, none⟩; let c : Copy := { frame := wf, egr := 3, queue := 2 }; let met : Option Nat := none; (s.live = true) ∧ (s.badCellOf c met = none) ∧ (s.endedTx p.val = some x ∧ x.port = p.val ∧ x.copy = some c ∧ x.endReason = 0 ∧ c.late = false) := by decide +kernel
theorem wit_FramesAreAdmittedSelectedAndSent_5 : let s : State := { at_ 1000 with qsg := { (at_ 1).qsg with txs := [⟨3, none, zeros 64, 900, 910, 3, 5, 15000, 0, false, 0, none, false, none⟩] } }; let p : Fin 512 := 3; let x : Tx := ⟨3, none, zeros 64, 900, 910, 3, 5, 15000, 0, false, 0, none, false, none⟩; (s.live = true) ∧ (s.endedTx p.val = some x ∧ x.copy = none) := by decide +kernel
theorem wit_InternalHeldAndSequencedCopies_1 : let s : State := sets { at_ 1000 with qsg := { (at_ 1).qsg with txs := [⟨513, some { frame := wf, egr := 513, queue := 2 }, zeros 64, 900, 910, 3, 5, 15000, 0, false, 0, none, false, none⟩] } } [(F.CMD_SEAT_STATUS_LINK_UP, 1, 1), (F.BUF_SEAT_RING_CTRL_RX_EN, 1, 1), (F.BUF_SEAT_RING_RX_BUF_SIZE_VALUE, 1, 256), (F.BUF_SEAT_RING_RX_TAIL_VALUE, 1, 8)]; let seat : Fin 4 := 1; let x : Tx := ⟨513, some { frame := wf, egr := 513, queue := 2 }, zeros 64, 900, 910, 3, 5, 15000, 0, false, 0, none, false, none⟩; let c : Copy := { frame := wf, egr := 513, queue := 2 }; (s.live = true) ∧ (s.on F.CMD_SEAT_STATUS_LINK_UP seat.val = true ∧ s.on F.BUF_SEAT_RING_CTRL_RX_EN seat.val = true) ∧ (s.badCellOf c none = none) ∧ (s.endedTx (512 + seat.val) = some x ∧ x.port = 512 + seat.val ∧ x.copy = some c) ∧ ((chunks (max 1 (s.rd F.BUF_SEAT_RING_RX_BUF_SIZE_VALUE seat.val)) (x.out.length + 33) (rxMeta c ++ x.out)).length ≤
      (s.rd F.BUF_SEAT_RING_RX_TAIL_VALUE seat.val + 2 ^ s.rd F.BUF_SEAT_RING_CTRL_RX_LOG_SIZE seat.val -
        s.rd F.BUF_SEAT_RING_RX_HEAD_VALUE seat.val % 2 ^ s.rd F.BUF_SEAT_RING_CTRL_RX_LOG_SIZE seat.val) %
        2 ^ s.rd F.BUF_SEAT_RING_CTRL_RX_LOG_SIZE seat.val) := by decide +kernel
theorem wit_InternalHeldAndSequencedCopies_2 : let s : State := { at_ 1000 with qsg := { (at_ 1).qsg with txs := [⟨516, some { frame := wf, egr := 516, queue := 2 }, zeros 64, 900, 910, 3, 5, 15000, 0, false, 0, none, false, none⟩] } }; let x : Tx := ⟨516, some { frame := wf, egr := 516, queue := 2 }, zeros 64, 900, 910, 3, 5, 15000, 0, false, 0, none, false, none⟩; let c : Copy := { frame := wf, egr := 516, queue := 2 }; (s.live = true) ∧ (s.badCellOf c none = none) ∧ (s.endedTx 516 = some x ∧ x.port = 516 ∧ x.copy = some c) ∧ (c.frame.passes < s.rd F.BUF_RECIRC_CTRL_MAX_PASSES) := by decide +kernel
theorem wit_InternalHeldAndSequencedCopies_3 : let s : State := { at_ 1000 with qsg := { (at_ 1).qsg with txs := [⟨516, some { frame := { wf with passes := 7 }, egr := 516, queue := 2 }, zeros 64, 900, 910, 3, 5, 15000, 0, false, 0, none, false, none⟩] } }; let x : Tx := ⟨516, some { frame := { wf with passes := 7 }, egr := 516, queue := 2 }, zeros 64, 900, 910, 3, 5, 15000, 0, false, 0, none, false, none⟩; let c : Copy := { frame := { wf with passes := 7 }, egr := 516, queue := 2 }; (s.live = true) ∧ (s.badCellOf c none = none) ∧ (s.endedTx 516 = some x ∧ x.port = 516 ∧ x.copy = some c ∧ c.egr = 516 ∧ c.sample = false) ∧ (s.rd F.BUF_RECIRC_CTRL_MAX_PASSES ≤ c.frame.passes) := by decide +kernel
theorem wit_InternalHeldAndSequencedCopies_4 : let s : State := sets { at_ 1000 with qsg := { (at_ 1).qsg with held := [⟨{ frame := wf, egr := 3, queue := 2, path := 1 }, 350200, 325130, 25070, false⟩] } } [(F.LAN_PORT_CFG_EN, 3, 1), (F.LAN_PORT_STATUS_STATE, 3, 5)]; let p : Fin 512 := 3; let h : Held := ⟨{ frame := wf, egr := 3, queue := 2, path := 1 }, 350200, 325130, 25070, false⟩; let met : Option Nat := none; (s.live = true) ∧ (s.portUp p.val = true ∧ s.resting p.val = false ∧ s.editDown h.copy.group = false ∧ s.badCellOf h.copy met = none) ∧ (s.qsg.held = [h] ∧ h.copy.egr = p.val ∧ s.instanceOf p.val = none) ∧ ((Int.fdiv h.entry 320).toNat - 16 = s.now ∧ (320 * (s.now + 16) : Nat) ≤ h.entry) ∧ (h.copy.admitted + s.pathTicks 40 ≤ s.now + 16 ∧ s.portFreeAt p.val ≤ s.now) ∧ (h.copy.frame.ended = true ∧ s.storedEntry h.copy.frame ≤ s.now + 16) ∧ (h.target = h.entry + h.toBall) := by decide +kernel
theorem wit_InternalHeldAndSequencedCopies_5 : let s : State := { at_ 1000 with qsg := { (at_ 1).qsg with seq := [⟨{ frame := wf, egr := 3, queue := 2, path := 2, admitted := 999 }, 4, 2000, false, false, false, 0, 0, false⟩] } }; (s.live = true) := by decide +kernel
theorem wit_InternalHeldAndSequencedCopies_6 : let s : State := sets { at_ 2000 with qsg := { (at_ 1).qsg with seq := [⟨{ frame := wf, egr := 3, queue := 2, path := 2, pathId := 4, admitted := 999, seqEn := true }, 4, 1990, true, false, false, 0, 0, false⟩] } } [(F.LAN_PORT_CFG_EN, 3, 1), (F.LAN_PORT_STATUS_STATE, 3, 5), (F.MSQ_SEQ_NEXT_LO_VALUE, 4, 77)]; let m : Fin 32 := 4; let met : Option Nat := none; let x : SeqCopy := ⟨{ frame := wf, egr := 3, queue := 2, path := 2, pathId := 4, admitted := 999, seqEn := true }, 4, 1990, true, false, false, 0, 0, false⟩; (s.live = true) ∧ (s.qsg.seq.all (fun y => y.visible) = true) ∧ (s.seqHead m.val = some x ∧ s.instanceOf x.copy.egr = some m.val ∧ s.heldHead x.copy.egr = none) ∧ (s.portUp x.copy.egr = true ∧ s.resting x.copy.egr = false ∧ s.editReady x.copy.group = true ∧ s.editDown x.copy.group = false) ∧ (s.badCellOf x.copy met = none) ∧ (s.portFreeAt x.copy.egr ≤ s.selectEntry) ∧ (s.stored x.copy.frame = true) := by decide +kernel
theorem wit_PausesFlowControlAndShapers_1 : let s : State := sets { at_ 1000 with fwd := { (at_ 1).fwd with macCtrl := [(3, 990, zeros 15 ++ [1, 0, 5])] } } [(F.QSG_PORT_CTRL_RX_PAUSE_EN, 3, 1)]; let p : Nat := 3; let tk : Nat := 990; let b : Bytes := zeros 15 ++ [1, 0, 5]; let rest : List (Nat × Nat × Bytes) := []; (s.live = true) ∧ (s.fwd.macCtrl = (p, tk, b) :: rest) ∧ (beAt b 14 2 = 1 ∧ s.on F.QSG_PORT_CTRL_RX_PAUSE_EN p = true) := by decide +kernel
theorem wit_PausesFlowControlAndShapers_2 : let s : State := sets { at_ 1000 with fwd := { (at_ 1).fwd with macCtrl := [(3, 990, zeros 14 ++ [1, 1, 0, 4, 0, 0, 0, 0, 0, 9])] } } [(F.QSG_PORT_CTRL_RX_PFC_EN, 3, 1)]; let p : Nat := 3; let tk : Nat := 990; let b : Bytes := zeros 14 ++ [1, 1, 0, 4, 0, 0, 0, 0, 0, 9]; let rest : List (Nat × Nat × Bytes) := []; let c : Fin 8 := 2; (s.live = true) ∧ (s.fwd.macCtrl = (p, tk, b) :: rest) ∧ (beAt b 14 2 = 0x0101 ∧ s.on F.QSG_PORT_CTRL_RX_PFC_EN p = true) ∧ (bit (beAt b 16 2) c.val = true) := by decide +kernel
theorem wit_PausesFlowControlAndShapers_3 : let s : State := { at_ 1000 with qsg := { (at_ 1).qsg with paused := [(35, 900), (44, 1100)] } }; (s.live = true) := by decide +kernel
theorem wit_PausesFlowControlAndShapers_4 : let s : State := sets { at_ 100000 with buf := { (at_ 1).buf with stored := [⟨1, [1, 2, 3], 1, 3, 2, 500000, 0⟩] } } [(F.LAN_PORT_STATUS_STATE, 3, 5), (F.BUF_ING_PORT_STATE_XOFF_STATE, 3, 4), (F.BUF_ING_PORT_CFG_MODE, 3, 2), (F.BUF_ING_PORT_CFG_PFC_EN, 3, 4)]; let p : Fin 512 := 3; let c : Fin 8 := 2; (s.live = true) ∧ (s.listed F.BUF_ING_PORT_STATE_XOFF_STATE = [p.val] ∧ s.portUp p.val = true) ∧ (bit (s.rd F.BUF_ING_PORT_STATE_XOFF_STATE p.val) c.val = true ∧ (s.losslessClasses p.val).contains c.val = true) ∧ (s.ingProf F.BUF_ING_PROF_XON_XON p.val c.val < s.classUse p.val c.val) ∧ (s.buf.flowTick.get p.val 0 + 800 * s.rd F.BUF_ING_PORT_FC_REFRESH_US p.val ≤ s.now) := by decide +kernel
theorem wit_PausesFlowControlAndShapers_5 : let s : State := sets (at_ 1600) [(F.QSG_SHAPER_CTRL_MODE, 7, 1), (F.QSG_SHAPER_RATE_RATE_KBPS, 7, 1000000), (F.QSG_SHAPER_BURST_BURST_BYTES, 7, 3000)]; let m : Nat := 7; (s.live = true) ∧ (s.now % 16 = 0 ∧ s.ran.contains 1 = false) ∧ (s.rd F.QSG_SHAPER_CTRL_MODE m = 1 ∧ (s.listed F.QSG_SHAPER_CTRL_MODE).contains m = true) ∧ ((s.bindShapers.portsOf m).all (fun p => !s.qsg.upPorts.contains p) = true) := by decide +kernel
theorem wit_GateListsFlapHoldsAndQueueSamples_1 : let s : State := { at_ 1600 with qsg := { (at_ 1).qsg with running := [⟨4, 6, 0⟩, ⟨3, 5, 0⟩] } }; let l : GateList := ⟨3, 5, 0⟩; (s.live = true) ∧ (s.Settled) ∧ (l ∈ s.qsg.running ∧ (s.qsg.running.map (fun x => x.port)).Nodup) := by decide +kernel
theorem wit_GateListsFlapHoldsAndQueueSamples_2 : let s : State := { at_ 1600 with qsg := { (at_ 1).qsg with waiting := [⟨3, 5, 7⟩] } }; let l : GateList := ⟨3, 5, 7⟩; (s.live = true) ∧ (s.Settled) ∧ (s.qsg.waiting = [l]) ∧ (l.x ≤ s.viewAt s.now 0) := by decide +kernel
theorem wit_GateListsFlapHoldsAndQueueSamples_3 : let s : State := { at_ 1600 with qsg := { (at_ 1).qsg with flap := [(3, 1500)], queue := [{ frame := wf, egr := 3, queue := 2 }, { frame := wf, egr := 4, queue := 2 }] } }; let p : Fin 512 := 3; let at0 : Nat := 1500; (s.live = true) ∧ (s.qsg.flap = [(p.val, at0)] ∧ at0 ≤ s.now) ∧ (s.portUp p.val = false) := by decide +kernel
theorem wit_GateListsFlapHoldsAndQueueSamples_4 : let s : State := sets (at_ 16000) [(F.QSG_SAMPLE_CTRL_PERIOD_US, 0, 20), (F.QSG_PORT_CTRL_SAMPLE_EN, 3, 1), (F.QSG_PORT_CTRL_SAMPLE_EN, 9, 1)]; (s.live = true) ∧ (s.rd F.QSG_SAMPLE_CTRL_PERIOD_US ≠ 0 ∧ s.now % (800 * s.rd F.QSG_SAMPLE_CTRL_PERIOD_US) = 0) ∧ (s.ran.contains 2 = false ∧ (s.listed F.QSG_PORT_CTRL_SAMPLE_EN).Nodup) ∧ ((s.listed F.QSG_PORT_CTRL_SAMPLE_EN).all (fun p => decide ((s.evr.taps.filter (fun x => x.unit == 8 && x.inst == p)).length < 64)) = true) := by decide +kernel
theorem wit_AddressesAreLearnedAgedAndScrubbed_1 : let s : State := sets { at_ 5000 with tbl := { (at_ 1).tbl with candidates := [⟨4, true, 11, 0x020000000002, 5, 160000, [], none⟩, ⟨3, true, 10, 0x020000000001, 5, 160, [(0, 88)], some true⟩], em := [{ learned 88 5 with loc := .slot 0 9 2, hit := false }] } } [(F.TBL_LEARN_CTRL_ENABLE, 0, 1), (F.TBL_PORT_CFG_LEARN_EN, 5, 1), (F.TBL_EM_CTRL_ENABLE, 0, 1)]; let c : Candidate := ⟨3, true, 10, 0x020000000001, 5, 160, [(0, 88)], some true⟩; (s.live = true) ∧ (s.tbl.candidates.filter (fun x => decide (x.raw / 16 + 4096 ≤ s.now)) = [c]) ∧ (c.good = some true ∧ c.learn = true) ∧ (s.on F.TBL_LEARN_CTRL_ENABLE = true ∧ s.on F.TBL_PORT_CFG_LEARN_EN c.port = true ∧ s.on F.TBL_EM_CTRL_ENABLE 0 = true) ∧ (s.emKey 0 (macKey c.vid c.smac) = none) ∧ (s.tbl.learn.length < 4096 ∧ s.tbl.learn.all (fun o => match o.2 with | .learn k _ => k != macKey c.vid c.smac | _ => true) = true) := by decide +kernel
theorem wit_AddressesAreLearnedAgedAndScrubbed_2 : let s : State := sets { at_ 5000 with tbl := { (at_ 1).tbl with candidates := [⟨3, true, 10, 0x020000000001, 5, 160, [], some true⟩], em := [{ learned (macKey 10 0x020000000001) 6 with loc := .slot 0 9 2, hit := false }] } } [(F.TBL_LEARN_CTRL_ENABLE, 0, 1), (F.TBL_PORT_CFG_LEARN_EN, 5, 1), (F.TBL_EM_CTRL_ENABLE, 0, 1)]; let c : Candidate := ⟨3, true, 10, 0x020000000001, 5, 160, [], some true⟩; let e : EmEntry := { learned (macKey 10 0x020000000001) 6 with loc := .slot 0 9 2, hit := false }; (s.live = true) ∧ (s.tbl.candidates.filter (fun x => decide (x.raw / 16 + 4096 ≤ s.now)) = [c]) ∧ (c.good = some true ∧ c.learn = true ∧ c.hits = []) ∧ (s.on F.TBL_LEARN_CTRL_ENABLE = true ∧ s.on F.TBL_PORT_CFG_LEARN_EN c.port = true ∧ s.on F.TBL_EM_CTRL_ENABLE 0 = true) ∧ (s.emKey 0 (macKey c.vid c.smac) = some e) ∧ (s.tbl.learn.length < 4096 ∧ s.tbl.learn.all (fun o => match o.2 with | .learn k _ => k != macKey c.vid c.smac | _ => true) = true) := by decide +kernel
theorem wit_AddressesAreLearnedAgedAndScrubbed_3 : let s : State := sets { at_ 1600 with tbl := { (at_ 1).tbl with learn := [(1599, .learn 77 [(5, 1500)])] } } [(F.TBL_EM_CTRL_ENABLE, 0, 1)]; let key : Nat := 77; let port : Nat := 5; let d : Nat := 1500; let a : Nat := 1599; let l : Loc := .slot 0 ((sets (at_ 1600) []).bucketOf 0 0 77) 0; (s.live = true) ∧ (s.slotNow 0 = true ∧ s.fwd.slotsUsed.contains writeSlotMark = false) ∧ (s.tbl.repairs = [] ∧ s.tbl.op = [] ∧ s.tbl.soft = [] ∧ s.tbl.moveBack = []) ∧ (s.tbl.learn = [(a, .learn key [(port, d)])] ∧ a < s.now) ∧ (s.on F.TBL_EM_CTRL_ENABLE 0 = true ∧ s.emKey 0 key = none) ∧ (s.freeSlot 0 0 (s.bucketOf 0 0 key) = some l) := by decide +kernel
theorem wit_AddressesAreLearnedAgedAndScrubbed_4 : let s : State := { at_ 1600 with tbl := { (at_ 1).tbl with soft := [⟨5, wpk 0x20 0x05000007 0 [1, 2, 3], 1500⟩] } }; let p : Packet := wpk 0x20 0x05000007 0 [1, 2, 3]; let a : Nat := 1500; (s.live = true) ∧ (s.slotNow 0 = true ∧ s.fwd.slotsUsed.contains writeSlotMark = false) ∧ (s.tbl.repairs = [] ∧ s.tbl.op = [] ∧ s.tbl.learn = [] ∧ s.tbl.soft = [⟨5, p, a⟩]) ∧ (a < s.now ∧ p.opcode = 0x20) := by decide +kernel
theorem wit_AddressesAreLearnedAgedAndScrubbed_5 : let s : State := { at_ 1600 with tbl := { (at_ 1).tbl with repairs := [⟨4, 5, 99, 1500⟩], damage := [(4, 5, 99), (4, 5, 98)] } }; let r : Repair := ⟨4, 5, 99, 1500⟩; let q : Nat := ((at_ 1).repairSource 4).getD 0; (s.live = true) ∧ (s.slotNow 0 = true ∧ s.fwd.slotsUsed.contains writeSlotMark = false) ∧ (s.tbl.repairs = [r] ∧ s.tbl.op = [] ∧ s.tbl.learn = [] ∧ s.tbl.soft = [] ∧ s.tbl.rows = []) ∧ (r.arrived < s.now ∧ 1 ≤ r.table ∧ r.table ≤ 6) ∧ (s.repairSource r.pipe = some q ∧ s.tbl.damage.contains (q, r.table, r.index) = false) := by decide +kernel
theorem wit_AddressesAreLearnedAgedAndScrubbed_6 : let s : State := { at_ 1600 with tbl := { (at_ 1).tbl with live := [⟨5, 99, [1]⟩], repairs := [⟨4, 5, 99, 1500⟩], damage := [(4, 5, 99), (((at_ 1).repairSource 4).getD 0, 5, 99), (4, 5, 98)] } }; let r : Repair := ⟨4, 5, 99, 1500⟩; let q : Nat := ((at_ 1).repairSource 4).getD 0; (s.live = true) ∧ (s.slotNow 0 = true ∧ s.fwd.slotsUsed.contains writeSlotMark = false) ∧ (s.tbl.repairs = [r] ∧ s.tbl.op = [] ∧ s.tbl.learn = [] ∧ s.tbl.soft = [] ∧ s.tbl.rows = []) ∧ (r.arrived < s.now ∧ 4 ≤ r.table ∧ r.table ≤ 6) ∧ (s.repairSource r.pipe = some q ∧ s.tbl.damage.contains (q, r.table, r.index) = true ∧ s.tbl.damage.contains (r.pipe, r.table, r.index) = true) := by decide +kernel
theorem wit_AddressesAreLearnedAgedAndScrubbed_7 : let s : State := sets { at_ 1600 with tbl := { (at_ 1).tbl with em := [{ learned 76 5 with loc := .slot 1 8 2 }, { learned 77 5 with loc := .slot 1 9 2, hit := false, stale := true }] } } [(F.TBL_AGE_CTRL_PERIOD_S, 0, 300)]; let table : Fin 2 := 0; let e : EmEntry := { learned 77 5 with loc := .slot 1 9 2, hit := false, stale := true }; let place : Fin 262208 := 65545; (s.live = true) ∧ (s.rd F.TBL_AGE_CTRL_PERIOD_S ≠ 0) ∧ (s.tbl.candidates.all (fun x => decide (s.now < x.raw / 16 + 4096)) = true) ∧ (s.tbl.visited.get (2 ^ 20 * table.val + place.val) 0 = 0 ∨ s.tbl.visited.get (2 ^ 20 * table.val + place.val) 0 - 1 + s.agePeriod ≤ s.now) ∧ (s.tbl.em.filter (fun e => e.table == table.val && (match e.loc with | .slot h k _ => decide (place.val < 2 * emBuckets table.val) && h == place.val / emBuckets table.val && k == place.val % emBuckets table.val | .stash i => decide (2 * emBuckets table.val ≤ place.val) && i == place.val - 2 * emBuckets table.val)) = [e]) ∧ (∀ y ∈ s.tbl.em, y.table = table.val → y.key = e.key → y = e) ∧ ((if table.val = 0 then !e.static else e.ageEn) = true ∧ e.moveCnt = 0) ∧ (s.tbl.learn.length < 4096 ∧ s.tbl.removing.contains (table.val, e.key) = false) := by decide +kernel
theorem wit_AddressesAreLearnedAgedAndScrubbed_8 : let s : State := sets (at_ 1600) [(F.TBL_SCRUB_CTRL_ENABLE, 0, 1)]; let pipe : Fin 17 := 4; let table : Fin 17 := 5; let index : BitVec 24 := 99; (s.live = true) ∧ (s.on F.TBL_SCRUB_CTRL_ENABLE = true) ∧ (s.tbl.repairs.any (fun r => r.pipe == pipe.val && r.table == table.val && r.index == index.toNat) = false) := by decide +kernel
theorem wit_AddressesAreLearnedAgedAndScrubbed_9 : let s : State := sets (at_ 1600) [(F.TBL_SCRUB_CTRL_ENABLE, 0, 1)]; (s.live = true) ∧ (s.on F.TBL_SCRUB_CTRL_ENABLE = true) := by decide +kernel
theorem wit_AddressesAreLearnedAgedAndScrubbed_10 : let s : State := { at_ 1600 with tbl := { (at_ 1).tbl with pinLog := [5, 6, 7] } }; (s.Free (F.TBL_PIN_LOG_CTRL_POP.addr 0)) := by decide +kernel
theorem wit_BanksAreSparedAndTheBufferStarts_1 : let s : State := at_ 1600; let bank : BitVec 6 := 9; (s.Free (F.BUF_SPARE_CTRL_FORCE.addr 0)) ∧ (bank.toNat < 60 ∧ s.buf.retired.contains bank.toNat = false ∧ s.buf.spareReq = [] ∧ s.buf.sparing = none) := by decide +kernel
theorem wit_BanksAreSparedAndTheBufferStarts_2 : let s : State := { at_ 1600 with buf := { (at_ 1).buf with spareReq := [9], spares := [61, 62] } }; let bank : Nat := 9; let sp : Nat := 61; let rest : List Nat := []; let more : List Nat := [62]; (s.live = true) ∧ (s.buf.sparing = none ∧ s.buf.spareReq = bank :: rest ∧ s.buf.spares = sp :: more) := by decide +kernel
theorem wit_BanksAreSparedAndTheBufferStarts_3 : let s : State := { at_ 1600 with buf := { (at_ 1).buf with spareReq := [9], spares := [] } }; let bank : Nat := 9; let rest : List Nat := []; (s.live = true) ∧ (s.buf.sparing = none ∧ s.buf.spareReq = bank :: rest ∧ s.buf.spares = []) := by decide +kernel
theorem wit_BanksAreSparedAndTheBufferStarts_4 : let s : State := sets { at_ 1600 with buf := { (at_ 1).buf with sparing := some ⟨9, 61, 1000⟩ } } [(F.BUF_SPARE_STATUS_MIGRATING, 0, 1)]; let x : Sparing := ⟨9, 61, 1000⟩; (s.live = true) ∧ (s.buf.sparing = some x) ∧ (x.start + 2 * (s.usedCells.filter (fun c => c / 16384 == x.bank)).length ≤ s.now) := by decide +kernel
theorem wit_BanksAreSparedAndTheBufferStarts_5 : let s : State := sets (at_ 1600) [(F.BUF_SCRUB_CTRL_ENABLE, 0, 1), (F.BUF_SPARE_CTRL_CE_LIMIT, 0, 0)]; let cell : Fin 1048576 := 163850; let bank : Nat := 10; let c : Nat := 163850; (s.live = true) ∧ (s.on F.BUF_SCRUB_CTRL_ENABLE = true) ∧ (s.rd F.BUF_SPARE_CTRL_CE_LIMIT = 0) ∧ (s.logicalBank (cell.val / 16384) = some bank ∧ c = 16384 * bank + cell.val % 16384) := by decide +kernel
theorem wit_BanksAreSparedAndTheBufferStarts_6 : let s : State := sets { at_ 1600 with buf := { (at_ 1).buf with stored := [⟨1, [7, 8], 1, 3, 8, 0, 0⟩] } } [(F.BUF_SCRUB_CTRL_ENABLE, 0, 1)]; let cell : Fin 1048576 := 8; let bank : Nat := 0; let c : Nat := 8; (s.live = true) ∧ (s.on F.BUF_SCRUB_CTRL_ENABLE = true) ∧ (s.logicalBank (cell.val / 16384) = some bank ∧ c = 16384 * bank + cell.val % 16384) ∧ (s.usedCells.contains c = true ∧ s.buf.marked.contains c = false) ∧ (s.buf.retired.contains bank = false ∧ s.buf.spareReq.contains bank = false ∧ s.buf.sparing = none) := by decide +kernel
theorem wit_BanksAreSparedAndTheBufferStarts_7 : let s : State := sets (at_ 1600) [(F.BUF_SCRUB_CTRL_ENABLE, 0, 1)]; let cell : Fin 1048576 := 1000000; let finding : Fin 4 := 2; (s.live = true) ∧ (s.on F.BUF_SCRUB_CTRL_ENABLE = true) ∧ (s.logicalBank (cell.val / 16384) = none) ∧ (finding.val = 1 ∨ finding.val = 2) := by decide +kernel
theorem wit_BanksAreSparedAndTheBufferStarts_8 : let s : State := sets (at_ 1600) [(F.BUF_SCRUB_CTRL_ENABLE, 0, 1)]; (s.live = true) ∧ (s.on F.BUF_SCRUB_CTRL_ENABLE = true) := by decide +kernel
theorem wit_BanksAreSparedAndTheBufferStarts_9 : let s : State := at_ 1600; (s.live = true) ∧ (s.on F.TIM_STATUS_RUN = true ∧ s.on F.BUF_STATUS_INIT_DONE = false) := by decide +kernel
theorem wit_BanksAreSparedAndTheBufferStarts_10 : let s : State := { at_ 1600 with buf := { (at_ 1).buf with spares := [61, 62] } }; let bank : Fin 64 := 9; let sp : Nat := 61; let more : List Nat := [62]; (s.live = true) ∧ (s.on F.TIM_STATUS_RUN = true ∧ s.on F.BUF_STATUS_INIT_DONE = false ∧ s.on F.SYS_BOOT_STATUS_BUF_INIT = false) ∧ (bank.val < 60 ∧ s.buf.spares.filter (fun x => x != bank.val) = sp :: more) := by decide +kernel
theorem wit_RingsAndDeepQueuesMove_1 : let s : State := sets (at_ 1600) [(F.BUF_SEAT_RING_CTRL_TX_LOG_SIZE, 2, 8)]; let seat : Fin 4 := 2; (s.Free (F.BUF_SEAT_RING_TX_TAIL_VALUE.addr seat.val)) := by decide +kernel
theorem wit_RingsAndDeepQueuesMove_2 : let s : State := sets (at_ 1600) [(F.BUF_SEAT_RING_CTRL_RX_LOG_SIZE, 2, 8)]; let seat : Fin 4 := 2; (s.Free (F.BUF_SEAT_RING_RX_TAIL_VALUE.addr seat.val)) := by decide +kernel
theorem wit_RingsAndDeepQueuesMove_3 : let s : State := at_ 1600; let seat : Fin 4 := 2; let ring : Fin 4 := 1; (s.live = true ∧ s.Settled) ∧ (seat ≠ ring) := by decide +kernel
theorem wit_RingsAndDeepQueuesMove_4 : let s : State := at_ 1600; let seat : Fin 4 := 2; let ring : Fin 4 := 1; (s.live = true ∧ s.Settled) ∧ (seat ≠ ring) := by decide +kernel
theorem wit_RingsAndDeepQueuesMove_5 : let s : State := { at_ 1600 with qsg := { (at_ 1).qsg with queue := [{ frame := wf, egr := 0, queue := 0, seg := .backlog, cells := 3 }] } }; let d : Fin 64 := 0; let c : Copy := { frame := wf, egr := 0, queue := 0, seg := .backlog, cells := 3 }; (s.live = true) ∧ (s.qsg.queue.find? (fun c => c.q == s.deepQueue d.val && c.seg == .backlog) = some c ∧ c.ready = true) ∧ (s.rd F.MEM_STATUS_STATE ≠ 3) := by decide +kernel
theorem wit_RingsAndDeepQueuesMove_6 : let s : State := sets { at_ 1600 with qsg := { (at_ 1).qsg with queue := [{ frame := wf, egr := 0, queue := 0, seg := .reserve }] } } [(F.BUF_DEEP_REFILL_REFILL, 0, 100)]; let d : Fin 64 := 0; let c : Copy := { frame := wf, egr := 0, queue := 0, seg := .reserve }; let cells : List Nat := ((s.alloc 1).map (fun x => x.1)).getD []; let u : State := ((s.alloc 1).map (fun x => x.2)).getD s; (s.live = true) ∧ (s.qsg.queue.find? (fun c => c.q == s.deepQueue d.val && c.seg == .reserve) = some c) ∧ (s.rd F.MEM_STATUS_STATE ≠ 3) ∧ (sumOf (s.qsg.queue.filter (fun x => x.q == s.deepQueue d.val && x.seg == .onDie)) (fun x => x.cells) < s.rd F.BUF_DEEP_REFILL_REFILL d.val) ∧ (s.queueTakes (s.deepQueue d.val) (ceilDiv c.frame.bytes.length 256) = true) ∧ (s.buf.stored.any (fun b => b.id == s.fwd.nextFrame) = false) ∧ (s.alloc (ceilDiv c.frame.bytes.length 256) = some (cells, u)) := by decide +kernel
theorem wit_SeatsReadAndWriteRegisters_1 : let s : State := at_ 100; let value : Word := 999999999; (s.Free (F.TIM_STEP_NS_VALUE.addr 0)) ∧ (value.toNat < 1000000000) := by decide +kernel
theorem wit_SeatsReadAndWriteRegisters_2 : let s : State := at_ 100; let value : Word := 1000000000; (s.Free (F.TIM_STEP_NS_VALUE.addr 0)) ∧ (1000000000 ≤ value.toNat ∧ value.toNat < 2 ^ 30) := by decide +kernel
theorem wit_SeatsReadAndWriteRegisters_3 : let s : State := at_ 100; let seat : Fin 4 := 0; let addr : Word := BitVec.ofNat 32 (F.TIM_STEP_NS_VALUE.addr 0); let value : Word := 0xFFFF1234; let mask : Word := 0xFFFF; (s.WritesAtOnce seat.val addr.toNat value.toNat mask.toNat) ∧ ((s.applyWord seat.val ⟨addr.toNat, mask.toNat, value.toNat⟩).toOption = some (s.poke (regOf addr.toNat) (copyNo addr.toNat) mask.toNat value.toNat)) := by decide +kernel
theorem wit_SeatsReadAndWriteRegisters_4 : let s : State := { at_ 100 with tbl := { (at_ 1).tbl with pinLog := [5, 6] } }; let seat : Fin 4 := 0; let addr : Word := BitVec.ofNat 32 (F.TBL_PIN_LOG_CTRL_POP.addr 0); let value : Word := BitVec.ofNat 32 (F.TBL_PIN_LOG_CTRL_POP.place 1); let mask : Word := 0xFFFFFFFF; let u : State := ((s.applyWord 0 ⟨F.TBL_PIN_LOG_CTRL_POP.addr 0, 0xFFFFFFFF, F.TBL_PIN_LOG_CTRL_POP.place 1⟩).toOption).getD s; (s.WritesAtOnce seat.val addr.toNat value.toNat mask.toNat) ∧ ((s.applyWord seat.val ⟨addr.toNat, mask.toNat, value.toNat⟩).toOption = some u) := by decide +kernel
theorem wit_SeatsReadAndWriteRegisters_5 : let s : State := sets (at_ 100) [(F.LAN_PORT_CFG_EN, 3, 1)]; let seat : Fin 4 := 0; let addr : Word := BitVec.ofNat 32 (F.QSG_Q_SCHED_SHAPER.addr 5); let value : Word := BitVec.ofNat 32 (F.QSG_Q_SCHED_SHAPER.place 9); let mask : Word := 0xFFFFFFFF; (s.Free addr.toNat) ∧ ((findReg addr.toNat).isSome = true ∧ (regOf addr.toNat).half = .whole) ∧ (((s.tryWord s seat.val 0 (pure ()) ⟨addr.toNat, mask.toNat, value.toNat⟩).toOption).map (fun x => x.1) = some .s) ∧ (resetWrite ⟨addr.toNat, mask.toNat, value.toNat⟩ = false) := by decide +kernel
theorem wit_SeatsReadAndWriteRegisters_6 : let s : State := { at_ 100 with cmd := { (at_ 1).cmd with seats := [{}, { msix := 4 }, {}, {}] } }; (s.pins.porst = false ∧ s.cmd.seats.length = 4) := by decide +kernel
theorem wit_SeatsReadAndWriteRegisters_7 : let s : State := { at_ 100 with cmd := { (at_ 1).cmd with seats := [{}, { msix := 4 }, {}, {}] } }; let seat : Fin 4 := 1; let v : Fin 4 := 2; (s.pins.porst = false ∧ s.cmd.seats.length = 4) ∧ (bit (s.seat seat.val).msix v.val = true) := by decide +kernel
theorem wit_SeatsReadAndWriteRegisters_8 : let s : State := sets (at_ 100) [(F.TIM_CANOPY_LO_VALUE, 0, 100), (F.TIM_CANOPY_HI_VALUE, 0, 7)]; (s.live = true ∧ s.cmd.seats.length = 4 ∧ s.caughtUp = s) := by decide +kernel
theorem wit_SeatsReadAndWriteRegisters_9 : let s : State := { at_ 100 with cmd := { (at_ 1).cmd with seats := [{}, {}, { capture := some (0x10008, 7) }, {}] } }; let seat : Fin 4 := 2; let h : Nat := 7; (s.live = true ∧ s.caughtUp = s) ∧ ((s.seat seat.val).capture = some (F.TIM_CANOPY_LO_VALUE.addr 0, h)) := by decide +kernel
theorem wit_SeatsReadAndWriteRegisters_10 : let s : State := sets (at_ 100) [(F.SYN_MASTER_ID_LO_VALUE, 1, 0xAABBCCDD)]; let seat : Fin 4 := 0; let addr : Word := BitVec.ofNat 32 (F.SYN_MASTER_ID_LO_VALUE.addr 1); let value : Word := 0x12345678; (s.Free addr.toNat ∧ s.cmd.seats.length = 4) ∧ ((findReg addr.toNat).isSome = true ∧ (regOf addr.toNat).half = .lo) ∧ ((s.tryWord s seat.val 0 (pure ()) ⟨addr.toNat, 0, value.toNat⟩).toBool = true) := by decide +kernel
theorem wit_SeatsReadAndWriteRegisters_11 : let s : State := { at_ 100 with cmd := { (at_ 1).cmd with seats := [{ staging := some (F.SYN_MASTER_ID_LO_VALUE.addr 1, 77) }, {}, {}, {}] } }; let seat : Fin 4 := 0; let addr : Word := BitVec.ofNat 32 (F.SYN_MASTER_ID_HI_VALUE.addr 1); let value : Word := 0x12345678; let mask : Word := 0xFFFF; let lo : Nat := 77; let c : Cls := .q; let d : Cls := .q; let u : State := (s.poke (regOf (addr.toNat - 4)) (copyNo addr.toNat) 0xFFFFFFFF lo).extendD 0 seat.val 0 (addr.toNat - 4) 0xFFFFFFFF [lo]; (s.Free addr.toNat ∧ s.wordHeld 0 (addr.toNat - 4) = false ∧ s.cmd.seats.length = 4) ∧ ((findReg (addr.toNat - 4)).isSome = true ∧ (regOf (addr.toNat - 4)).half = .lo ∧ (findReg addr.toNat).isSome = true ∧ (regOf addr.toNat).half = .hi ∧ copyNo (addr.toNat - 4) = copyNo addr.toNat) ∧ (c ≠ .s ∧ d ≠ .s) ∧ (lo = (match (s.seat seat.val).staging with | some (x, v) => if x + 4 = addr.toNat then v else 0 | none => 0)) ∧ ((s.tryWord s seat.val 0 (pure ()) ⟨addr.toNat - 4, 0xFFFFFFFF, lo⟩).toOption = some (c, s.poke (regOf (addr.toNat - 4)) (copyNo addr.toNat) 0xFFFFFFFF lo)) ∧ (u = (s.poke (regOf (addr.toNat - 4)) (copyNo addr.toNat) 0xFFFFFFFF lo).extendD 0 seat.val 0 (addr.toNat - 4) 0xFFFFFFFF [lo]) ∧ ((u.tryWord u seat.val 0 (pure ()) ⟨addr.toNat, mask.toNat, value.toNat⟩).toOption = some (d, u.poke (regOf addr.toNat) (copyNo addr.toNat) mask.toNat value.toNat)) := by decide +kernel
theorem wit_SeatsReadAndWriteRegisters_12 : let s : State := at_ 100; let seat : Fin 4 := 0; let p : Fin 518 := 5; (s.Free (F.MAC_PORT_SA_LO_VALUE.addr p.val)) ∧ (s.ownsPort seat.val p.val = true ∧ s.cmd.seats.length = 4) := by decide +kernel
theorem wit_SeatsReadAndWriteRegisters_13 : let s : State := { at_ 100 with cmd := { (at_ 1).cmd with seats := [{ staging := some (0x341058, 77) }, {}, {}, {}] } }; let seat : Fin 4 := 0; let p : Fin 518 := 5; let lo : Nat := 77; (s.Free (F.MAC_PORT_SA_HI_VALUE.addr p.val) ∧ s.wordHeld 0 (F.MAC_PORT_SA_LO_VALUE.addr p.val) = false) ∧ (s.ownsPort seat.val p.val = true ∧ s.cmd.seats.length = 4) ∧ ((s.seat seat.val).staging = some (F.MAC_PORT_SA_LO_VALUE.addr p.val, lo)) := by decide +kernel
theorem wit_SeatsReadAndWriteRegisters_14 : let s : State := sets (at_ 100) [(F.MSQ_AGE_MAX_AGE_NS, 4, 900)]; (s.live = true ∧ s.caughtUp = s) := by decide +kernel
theorem wit_SeatsReadAndWriteRegisters_15 : let s : State := sets (at_ 100) [(F.LAN_LANE_FOM_MIN_SEEN, 7, 11)]; let addr : Word := BitVec.ofNat 32 (F.LAN_LANE_FOM_MIN_SEEN.addr 7); (s.live = true ∧ s.caughtUp = s ∧ addr.toNat < 0x800000) ∧ ((findReg addr.toNat).isSome = true ∧ (regOf addr.toNat).half = .whole ∧ (regOf addr.toNat).fields.any (fun d => d.acc == .rc) = true) ∧ ((regOf addr.toNat).base ≠ A.CHK_OUT) := by decide +kernel
theorem wit_SeatsReadAndWriteRegisters_16 : let s : State := at_ 100; let addr : Word := BitVec.ofNat 32 (F.CHK_OUT_WORD.addr 7); (s.live = true ∧ s.caughtUp = s ∧ addr.toNat < 0x800000) ∧ ((findReg addr.toNat).isSome = true ∧ (regOf addr.toNat).half = .whole ∧ (regOf addr.toNat).base = A.CHK_OUT) := by decide +kernel
theorem wit_WindowsCarryWordsAndStatus_1 : let s : State := sets (at_ 100) [(F.CMD_SEAT_STATUS_LINK_UP, 2, 1)]; let seat : Fin 4 := 2; let value : DWord := 0x1111111122220006; (s.live = true ∧ s.cmd.seats.length = 4) ∧ (s.on F.CMD_SEAT_STATUS_LINK_UP seat.val = true ∧ s.on F.CMD_SEAT_STATUS_FRAMING seat.val = false ∧ s.on F.CMD_SEAT_STATUS_OVERFLOW seat.val = false) ∧ ((s.seat seat.val).cmdFifo.length < 1024) ∧ (5 ≤ ((s.seat seat.val).cmdFifo ++ [value.toNat % 2 ^ 32]).headD 0 % 65536 ∧ ((s.seat seat.val).cmdFifo ++ [value.toNat % 2 ^ 32]).headD 0 % 65536 ≤ 1024) ∧ (s.ready = false ∨ (s.seat seat.val).cmdFifo.length + 1 < ((s.seat seat.val).cmdFifo ++ [value.toNat % 2 ^ 32]).headD 0 % 65536) := by decide +kernel
theorem wit_WindowsCarryWordsAndStatus_2 : let s : State := sets (at_ 100) [(F.CMD_SEAT_STATUS_LINK_UP, 2, 1)]; let seat : Fin 4 := 2; let value : DWord := 0x1111111122220003; (s.live = true ∧ s.cmd.seats.length = 4) ∧ (s.on F.CMD_SEAT_STATUS_LINK_UP seat.val = true ∧ s.on F.CMD_SEAT_STATUS_FRAMING seat.val = false ∧ s.on F.CMD_SEAT_STATUS_OVERFLOW seat.val = false) ∧ ((s.seat seat.val).cmdFifo = []) ∧ (value.toNat % 65536 < 5 ∨ 1024 < value.toNat % 65536) := by decide +kernel
theorem wit_WindowsCarryWordsAndStatus_3 : let s : State := sets { at_ 100 with cmd := { (at_ 1).cmd with seats := [{}, { cmdFifo := List.replicate 1024 9 }, {}, {}] } } [(F.CMD_SEAT_STATUS_LINK_UP, 1, 1)]; let seat : Fin 4 := 1; (s.live = true ∧ s.ready = false ∧ s.cmd.seats.length = 4) ∧ (s.on F.CMD_SEAT_STATUS_LINK_UP seat.val = true ∧ s.on F.CMD_SEAT_STATUS_FRAMING seat.val = false ∧ s.on F.CMD_SEAT_STATUS_OVERFLOW seat.val = false) ∧ ((s.seat seat.val).cmdFifo.length = 1024) ∧ (5 ≤ (s.seat seat.val).cmdFifo.headD 0 % 65536 ∧ (s.seat seat.val).cmdFifo.headD 0 % 65536 ≤ 1024) := by decide +kernel
theorem wit_WindowsCarryWordsAndStatus_4 : let s : State := sets { rdy 100 with cmd := { (rdy 1).cmd with seats := [{ cmdFifo := (packetWords (wpk 0x70 0 0 [5])).take 4 }, {}, {}, {}] } } [(F.CMD_SEAT_STATUS_LINK_UP, 0, 1)]; let p : Packet := wpk 0x70 0 0 [5]; let value : DWord := BitVec.ofNat 64 ((packetWords (wpk 0x70 0 0 [5])).getD 5 0 * 2 ^ 32 + 5); (s.Takes p) ∧ (s.on F.CMD_SEAT_STATUS_LINK_UP p.sender.val = true ∧ s.on F.CMD_SEAT_STATUS_FRAMING p.sender.val = false ∧ s.on F.CMD_SEAT_STATUS_OVERFLOW p.sender.val = false) ∧ ((s.seat p.sender.val).cmdFifo ≠ []) ∧ ((s.seat p.sender.val).cmdFifo ++ [value.toNat % 2 ^ 32, value.toNat / 2 ^ 32] = packetWords p) := by decide +kernel
theorem wit_WindowsCarryWordsAndStatus_5 : let s : State := sets { at_ 100 with cmd := { (at_ 1).cmd with seats := [{}, { replyFifo := [5, 6, 7] }, {}, {}] } } [(F.CMD_SEAT_STATUS_LINK_UP, 1, 1)]; let seat : Fin 4 := 1; let a : Nat := 5; let b : Nat := 6; let rest : List Nat := [7]; (s.live = true ∧ s.on F.CMD_SEAT_STATUS_LINK_UP seat.val = true ∧ s.cmd.seats.length = 4) ∧ ((s.seat seat.val).replyFifo = a :: b :: rest) := by decide +kernel
theorem wit_WindowsCarryWordsAndStatus_6 : let s : State := sets (at_ 100) [(F.CMD_SEAT_STATUS_LINK_UP, 1, 1)]; let seat : Fin 4 := 1; (s.live = true ∧ s.on F.CMD_SEAT_STATUS_LINK_UP seat.val = true ∧ s.cmd.seats.length = 4) ∧ ((s.seat seat.val).replyFifo = []) := by decide +kernel
theorem wit_WindowsCarryWordsAndStatus_7 : let s : State := sets { at_ 100 with cmd := { (at_ 1).cmd with seats := [{}, { mirror := [1, 2, 3, 4, 5, 6, 7, 8] }, {}, {}] } } [(F.CMD_SEAT_STATUS_LINK_UP, 1, 1)]; let seat : Fin 4 := 1; let l : List Nat := [1, 2, 3, 4, 5, 6, 7, 8]; (s.pins.porst = false ∧ s.pins.tripped = false ∧ s.on F.CMD_SEAT_STATUS_LINK_UP seat.val = true ∧ s.cmd.seats.length = 4) ∧ ((s.seat seat.val).mirror = l ∧ l ≠ []) := by decide +kernel
theorem wit_WindowsCarryWordsAndStatus_8 : let s : State := sets { at_ 100 with cmd := { (at_ 1).cmd with seats := [{}, { isw := [(1, 2), (2, 3)] }, {}, {}] } } [(F.CMD_SEAT_STATUS_LINK_UP, 1, 1)]; let seat : Fin 4 := 1; let i : Fin 16 := 2; let v : Nat := 3; (s.pins.porst = false ∧ s.pins.tripped = false ∧ s.on F.CMD_SEAT_STATUS_LINK_UP seat.val = true ∧ s.cmd.seats.length = 4) ∧ (i ≠ 0 ∧ (s.seat seat.val).isw.find? (fun x => x.1 == i.val) = some (i.val, v)) := by decide +kernel
theorem wit_WindowsCarryWordsAndStatus_9 : let s : State := sets (rdy 100) [(F.CMD_SEAT_CTRL_INBAND_EN, 0, 1), (F.CMD_SEAT_INBAND_PORTS, 0, 32), (F.CMD_INBAND_MAC_LO_VALUE, 0, 9)]; let port : Fin 512 := 5; let bytes : Bytes := be 6 9 ++ be 6 0x123456 ++ be 2 0x88B6 ++ wordBytes (packetWords (wpk 0x70 0 0 [5])) ++ zeros 24 ++ zeros 4; let b : Bytes := wordBytes (packetWords (wpk 0x70 0 0 [5])) ++ zeros 24; let p : Packet := wpk 0x70 0 0 [5]; (s.ready = true ∧ s.Settled ∧ b = (bodyOf bytes).drop 14) ∧ (beAt bytes 0 6 = s.rd2 F.CMD_INBAND_MAC_LO_VALUE F.CMD_INBAND_MAC_HI_VALUE ∧ beAt bytes 12 2 = 0x88B6) ∧ (beAt b 2 2 = p.data.length + 5 ∧ 4 * (p.data.length + 5) ≤ b.length ∧ wordsOf (p.data.length + 5) b = packetWords p) ∧ (s.on F.CMD_SEAT_CTRL_INBAND_EN p.sender.val = true ∧ bit (s.rd F.CMD_SEAT_INBAND_PORTS (p.sender.val * 16 + port.val / 32)) (port.val % 32) = true) ∧ (packetForm p = true ∧ p.seat = p.sender ∧ s.cmd.flights.all (fun f => f.packet.sender != p.sender) = true ∧ 0 < s.rd F.CMD_SEAT_TAGS_TAG_QUOTA p.sender.val) := by decide +kernel
theorem wit_WindowsCarryWordsAndStatus_10 : let s : State := sets (at_ 100) [(F.CMD_INBAND_MAC_LO_VALUE, 0, 9)]; let bytes : Bytes := be 6 9 ++ be 6 0x123456 ++ be 2 0x88B6 ++ wordBytes (packetWords (wpk 0x70 0 0 [5])) ++ zeros 24 ++ zeros 4; (s.live = true ∧ s.ready = false ∧ s.Settled) ∧ (beAt bytes 0 6 = s.rd2 F.CMD_INBAND_MAC_LO_VALUE F.CMD_INBAND_MAC_HI_VALUE ∧ beAt bytes 12 2 = 0x88B6) := by decide +kernel
theorem wit_FlushesLeaveAcceptedCommands_1 : let s : State := sets { at_ 100 with cmd := { (at_ 1).cmd with seats := [{}, { cmdFifo := [5, 6, 7] }, {}, {}] } } [(F.CMD_SEAT_STATUS_LINK_UP, 1, 1), (F.CMD_SEAT_STATUS_FRAMING, 1, 1)]; let seat : Fin 4 := 1; (s.live = true ∧ s.on F.CMD_SEAT_STATUS_LINK_UP seat.val = true ∧ s.cmd.seats.length = 4) := by decide +kernel
theorem wit_FlushesLeaveAcceptedCommands_2 : let s : State := sets { at_ 100 with cmd := { (at_ 1).cmd with seats := [{}, { replyFifo := [5, 6, 7] }, {}, {}] } } [(F.CMD_SEAT_STATUS_LINK_UP, 1, 1)]; let seat : Fin 4 := 1; (s.live = true ∧ s.on F.CMD_SEAT_STATUS_LINK_UP seat.val = true ∧ s.cmd.seats.length = 4) := by decide +kernel
theorem wit_PacketsReadWriteAndEcho_1 : let s : State := sets (rdy 100) [(F.TIM_STEP_NS_VALUE, 0, 77)]; let p : Packet := wpk 0x01 (F.TIM_STEP_NS_VALUE.addr 0) 0 []; (s.Takes p) ∧ (p.opcode = 0x01 ∧ p.address.toNat = F.TIM_STEP_NS_VALUE.addr 0) ∧ ((s.taken p).caughtUp = s.taken p) := by decide +kernel
theorem wit_PacketsReadWriteAndEcho_2 : let s : State := sets (rdy 100) [(F.QSG_PORT_CTRL_RX_PAUSE_EN, 7, 1)]; let p : Packet := wpk 0x01 (F.QSG_PORT_CTRL_RX_PAUSE_EN.addr 7) 0 []; (s.Takes p) ∧ (p.opcode = 0x01 ∧ p.address.toNat < 0x800000) ∧ ((findReg p.address.toNat).isSome = true ∧ (regOf p.address.toNat).half = .whole ∧ (regOf p.address.toNat).fields.all (fun d => d.acc != .rc) = true) ∧ ((regOf p.address.toNat).base ≠ A.CHK_OUT ∧ (regOf p.address.toNat).base ≠ A.IDN_CERT_DATA) ∧ ((s.taken p).caughtUp = s.taken p) := by decide +kernel
theorem wit_PacketsReadWriteAndEcho_3 : let s : State := rdy 100; let p : Packet := wpk 0x02 (F.TIM_STEP_NS_VALUE.addr 0) 0xFFFFFFFF [123]; (s.Takes p) ∧ (p.opcode = 0x02 ∧ p.txn = 0 ∧ p.sender = 0 ∧ p.address.toNat = F.TIM_STEP_NS_VALUE.addr 0) ∧ ((p.data.getD 0 0).toNat < 1000000000 ∧ p.parameter = 0xFFFFFFFF) ∧ (s.wordHeld 0 (F.TIM_STEP_NS_VALUE.addr 0) = false) := by decide +kernel
theorem wit_PacketsReadWriteAndEcho_4 : let s : State := sets (rdy 100) [(F.TIM_STEP_NS_VALUE, 0, 0x10000)]; let p : Packet := wpk 0x02 (F.TIM_STEP_NS_VALUE.addr 0) 0xFFFF [123]; let v : Word := 123; (s.Takes p) ∧ (p.opcode = 0x02 ∧ p.txn = 0 ∧ p.data = [v]) ∧ ((s.taken p).WritesAtOnce p.sender.val p.address.toNat v.toNat p.parameter.toNat) ∧ (((s.taken p).applyWord p.sender.val ⟨p.address.toNat, p.parameter.toNat, v.toNat⟩).toOption = some ((s.taken p).poke (regOf p.address.toNat) (copyNo p.address.toNat) p.parameter.toNat v.toNat)) := by decide +kernel
theorem wit_PacketsReadWriteAndEcho_5 : let s : State := rdy 100; let p : Packet := wpk 0x02 (F.QSG_Q_SCHED_SHAPER.addr 5) 0xFFFFFFFF [F.QSG_Q_SCHED_SHAPER.place 9]; let v : Word := BitVec.ofNat 32 (F.QSG_Q_SCHED_SHAPER.place 9); (s.Takes p) ∧ (p.opcode = 0x02 ∧ p.txn = 0 ∧ p.data = [v]) ∧ ((findReg p.address.toNat).isSome = true ∧ (regOf p.address.toNat).half = .whole) ∧ ((((s.taken p).tryWord (s.taken p) p.sender.val 0 (pure ()) ⟨p.address.toNat, p.parameter.toNat, v.toNat⟩).toOption).map (fun x => x.1) = some .s) := by decide +kernel
theorem wit_PacketsReadWriteAndEcho_6 : let s : State := sets (rdy 100) [(F.TIM_CANOPY_LO_VALUE, 0, 77), (F.TIM_CANOPY_HI_VALUE, 0, 3)]; let p : Packet := wpk 0x03 (F.TIM_CANOPY_LO_VALUE.addr 0) 2 []; (s.Takes p) ∧ (p.opcode = 0x03 ∧ p.parameter = 2 ∧ p.address.toNat = F.TIM_CANOPY_LO_VALUE.addr 0) ∧ ((s.taken p).caughtUp = s.taken p) := by decide +kernel
theorem wit_PacketsReadWriteAndEcho_7 : let s : State := sets (rdy 100) [(F.TIM_CANOPY_LO_VALUE, 0, 77), (F.TIM_CANOPY_HI_VALUE, 0, 3)]; let p : Packet := wpk 0x03 (F.TIM_CANOPY_LO_VALUE.addr 0) 2 []; let l : List Nat := [77, 3]; let u : State := ((((s.taken p).readWords p.sender.val p.address.toNat p.parameter.toNat).toOption).map (fun x => x.2)).getD s; (s.Takes p) ∧ (p.opcode = 0x03 ∧ 1 ≤ p.parameter.toNat ∧ p.parameter.toNat ≤ 1019) ∧ ((s.taken p).caughtUp = s.taken p) ∧ (((s.taken p).readWords p.sender.val p.address.toNat p.parameter.toNat).toOption = some (l, u)) := by decide +kernel
theorem wit_PacketsReadWriteAndEcho_8 : let s : State := { rdy 100 with cmd := { (rdy 1).cmd with txns := [wtx] } }; let p : Packet := { wpk 0x04 (F.TIM_STEP_NS_VALUE.addr 0) 0 [123] with txn := 9 }; let x : Txn := wtx; let v : Word := 123; (s.Takes p) ∧ (p.opcode = 0x04 ∧ p.sender = 0 ∧ p.address.toNat = F.TIM_STEP_NS_VALUE.addr 0 ∧ p.data = [v] ∧ v.toNat < 1000000000) ∧ (s.cmd.txns = [x] ∧ x.implicit = false ∧ x.id = p.txn.toNat ∧ x.id ≠ 0 ∧ x.seat = 0 ∧ x.phase = .staging ∧ x.words = []) := by decide +kernel
theorem wit_PacketsReadWriteAndEcho_9 : let s : State := rdy 100; let p : Packet := wpk 0x04 (F.TIM_STEP_NS_VALUE.addr 0) 0 [123]; let v : Word := 123; (s.Takes p) ∧ (p.opcode = 0x04 ∧ p.txn = 0 ∧ p.data = [v]) ∧ ((s.taken p).WritesAtOnce p.sender.val p.address.toNat v.toNat 0xFFFFFFFF) ∧ (((s.taken p).applyWord p.sender.val ⟨p.address.toNat, 0xFFFFFFFF, v.toNat⟩).toOption = some ((s.taken p).poke (regOf p.address.toNat) (copyNo p.address.toNat) 0xFFFFFFFF v.toNat)) := by decide +kernel
theorem wit_PacketsReadWriteAndEcho_10 : let s : State := rdy 100; let p : Packet := wpk 0x70 0 0 [1, 2, 3]; (s.Takes p) ∧ (p.opcode = 0x70) := by decide +kernel
theorem wit_TableCommandsWriteAndFindEntries_1 : let s : State := rdy 100; let p : Packet := wpk 0x20 0x05000007 0 [12]; let v : Word := 12; (s.Takes p) ∧ (p.opcode = 0x20 ∧ p.sender = 0 ∧ p.txn = 0 ∧ tabOf p = 5 ∧ indexOf p < 262144 ∧ p.data = [v] ∧ bits v.toNat 9 0 ≤ 517) ∧ (s.cmd.txns = [] ∧ s.listMarked 0 (indexOf p) = false ∧ s.tbl.soft.length < 64) := by decide +kernel
theorem wit_TableCommandsWriteAndFindEntries_2 : let s : State := rdy 100; let p : Packet := wpk 0x20 0x01000000 0 [10, 0, 77, 5]; (s.Takes p) ∧ (p.opcode = 0x20 ∧ p.sender = 0 ∧ p.txn = 0 ∧ keyed (tabOf p) = true ∧ keyedForm p false = true) ∧ ((s.tbl.soft.filter (fun o => o.table == tabOf p)).length < 64) := by decide +kernel
theorem wit_TableCommandsWriteAndFindEntries_3 : let s : State := rdy 100; let p : Packet := wpk 0x21 0x01000000 0 [10, 0, 77]; (s.Takes p) ∧ (p.opcode = 0x21 ∧ p.sender = 0 ∧ p.txn = 0 ∧ keyed (tabOf p) = true ∧ keyedForm p true = true) ∧ ((s.tbl.soft.filter (fun o => o.table == tabOf p)).length < 64) := by decide +kernel
theorem wit_TableCommandsWriteAndFindEntries_4 : let s : State := { rdy 100 with tbl := { (rdy 1).tbl with live := [⟨0x20, 7, [0, 0, 0, 1000, 65536]⟩, ⟨0x20, 8, [0, 0, 0, 1000, 65536]⟩] } }; let p : Packet := wpk 0x21 0x20000007 0 []; (s.Takes p) ∧ (p.opcode = 0x21 ∧ p.sender = 0 ∧ p.txn = 0 ∧ tabOf p = 0x20 ∧ indexOf p < 1024) ∧ (s.cmd.txns = [] ∧ (s.markedHeaders 0).contains (indexOf p) = false) := by decide +kernel
theorem wit_TableCommandsWriteAndFindEntries_5 : let s : State := sets { rdy 100 with tbl := { (rdy 1).tbl with em := [{ learned (macKey 10 77) 5 with loc := .slot 1 9 2 }] } } [(F.TBL_EM_CTRL_ENABLE, 0, 1)]; let p : Packet := wpk 0x22 0x01000000 0 [10, 0, 77]; let e : EmEntry := { learned (macKey 10 77) 5 with loc := .slot 1 9 2 }; (s.Takes p) ∧ (p.opcode = 0x22 ∧ (tabOf p = 1 ∨ (tabOf p = 2 ∧ keyedForm p true = true))) ∧ ((s.taken p).caughtUp = s.taken p) ∧ (s.on F.TBL_EM_CTRL_ENABLE (tabOf p - 1) = true ∧ s.emKey (tabOf p - 1) (emOf (tabOf p - 1) (dataOf p)).key = some e) := by decide +kernel
theorem wit_TableCommandsWriteAndFindEntries_6 : let s : State := rdy 100; let p : Packet := wpk 0x22 0x01000000 0 [10, 0, 77]; (s.Takes p) ∧ (p.opcode = 0x22 ∧ (tabOf p = 1 ∨ (tabOf p = 2 ∧ keyedForm p true = true))) ∧ ((s.taken p).caughtUp = s.taken p) ∧ (s.on F.TBL_EM_CTRL_ENABLE (tabOf p - 1) = false ∨ s.emKey (tabOf p - 1) (emOf (tabOf p - 1) (dataOf p)).key = none) := by decide +kernel
theorem wit_TableCommandsWriteAndFindEntries_7 : let s : State := { rdy 100 with tbl := { (rdy 1).tbl with cur := [⟨4, 7, [0x80100005]⟩] } }; let p : Packet := wpk 0x22 0x04000007 0 []; let size : Nat := 65536; (s.Takes p) ∧ (p.opcode = 0x22 ∧ keyed (tabOf p) = false ∧ tabSize (tabOf p) = some size ∧ tabOf p ≠ 0x10 ∧ tabOf p ≠ 0x24 ∧ indexOf p < size) ∧ ((s.taken p).caughtUp = s.taken p) := by decide +kernel
theorem wit_TableCommandsWriteAndFindEntries_8 : let s : State := { rdy 100 with tbl := { (rdy 1).tbl with cur := [wrow] } }; let p : Packet := wpk 0x22 0x10000000 5 (List.replicate 10 0); (s.Takes p) ∧ (p.opcode = 0x22 ∧ tabOf p = 0x10 ∧ p.parameter.toNat ≤ 16) ∧ ((s.taken p).caughtUp = s.taken p) := by decide +kernel
theorem wit_TableCommandsWriteAndFindEntries_9 : let s : State := { rdy 100 with tbl := { (rdy 1).tbl with live := [⟨0x21, 8, [5, 1000]⟩] } }; let p : Packet := wpk 0x23 0x21000007 2 []; let size : Nat := 32768; (s.Takes p) ∧ (p.opcode = 0x23 ∧ keyed (tabOf p) = false ∧ tabSize (tabOf p) = some size) ∧ (1 ≤ p.parameter.toNat ∧ p.parameter.toNat ≤ 1019 ∧ indexOf p + p.parameter.toNat ≤ size) ∧ ((s.taken p).caughtUp = s.taken p) ∧ (((List.range p.parameter.toNat).flatMap (fun i => s.entryWords (tabOf p) (indexOf p + i))).length ≤ 1019) := by decide +kernel
theorem wit_ActionsAreScheduledCancelledAndFired_1 : let s : State := rdy 100; let p : Packet := wpk 0x30 0 0 [0x201, 5000, 0, 0, F.TIM_STEP_NS_VALUE.addr 0, 123, 0xFFFFFFFF]; let d : Word := 5000; let v : Word := 123; (s.Takes p) ∧ (p.opcode = 0x30 ∧ p.sender = 0) ∧ (p.data = [0x201, d, 0, 0, BitVec.ofNat 32 (F.TIM_STEP_NS_VALUE.addr 0), v, 0xFFFFFFFF]) ∧ (s.now < d.toNat ∧ v.toNat < 1000000000 ∧ s.syn.actions.length < 256) := by decide +kernel
theorem wit_ActionsAreScheduledCancelledAndFired_2 : let s : State := sets (rdy 100) [(F.TIM_EPOCH_CURRENT, 0, 5)]; let p : Packet := wpk 0x30 0 0 [1, 5000, 0, 77, F.TIM_STEP_NS_VALUE.addr 0, 123, 0xFFFF]; let raw : Bool := false; let lo : Word := 5000; let hi : Word := 0; let ns : Word := 77; let addr : Word := BitVec.ofNat 32 (F.TIM_STEP_NS_VALUE.addr 0); let v : Word := 123; let m : Word := 0xFFFF; (s.Takes p) ∧ (p.opcode = 0x30) ∧ (p.data = [if raw then 0x201 else 1, lo, hi, ns, addr, v, m]) ∧ (dueNsOk raw ns.toNat = true ∧ (raw = true ∨ s.epoch ≠ 0) ∧ s.syn.actions.length < 256) ∧ ((s.taken p).reached raw (dueOf raw lo.toNat hi.toNat ns.toNat) = false) ∧ ((findReg addr.toNat).isSome = true ∧ (s.taken p).mayWrite p.sender.val (regOf addr.toNat) (copyNo addr.toNat) m.toNat v.toNat = true) ∧ (s.allClassL (regOf addr.toNat) (copyNo addr.toNat) m.toNat = true) ∧ (((s.taken p).fieldsOf (regOf addr.toNat) (copyNo addr.toNat)).all (fun d => !(s.taken p).outOfRange d (copyNo addr.toNat) m.toNat v.toNat) = true) := by decide +kernel
theorem wit_ActionsAreScheduledCancelledAndFired_3 : let s : State := rdy 100; let p : Packet := wpk 0x30 0 0 [0x202, 5000, 0, 0, 3, 0, 0]; let raw : Bool := true; let lo : Word := 5000; let hi : Word := 0; let ns : Word := 0; let code : Word := 3; let v : Word := 0; let m : Word := 0; (s.Takes p) ∧ (p.opcode = 0x30 ∧ p.sender = 0) ∧ (p.data = [if raw then 0x202 else 2, lo, hi, ns, code, v, m] ∧ code.toNat ≤ 4) ∧ (dueNsOk raw ns.toNat = true ∧ (raw = true ∨ s.epoch ≠ 0) ∧ s.syn.actions.length < 256) ∧ ((s.taken p).reached raw (dueOf raw lo.toNat hi.toNat ns.toNat) = false) := by decide +kernel
theorem wit_ActionsAreScheduledCancelledAndFired_4 : let s : State := { rdy 100 with syn := { (rdy 1).syn with actions := [⟨4, 0, .regWrite 0x10034 5 1, false, true, 5000, 50, none⟩] } }; let p : Packet := wpk 0x31 0 4 []; let a : Action := ⟨4, 0, .regWrite 0x10034 5 1, false, true, 5000, 50, none⟩; (s.Takes p) ∧ (p.opcode = 0x31 ∧ s.syn.actions.find? (fun x => x.id == p.parameter.toNat) = some a) ∧ ((p.sender = 0 ∨ a.seat = p.sender.val) ∧ (s.taken p).firesNow a = false) ∧ ((match a.kind with | .commit _ => false | .lift _ _ _ => false | _ => true) = true) := by decide +kernel
theorem wit_ActionsAreScheduledCancelledAndFired_5 : let s : State := { at_ 5000 with syn := { (at_ 1).syn with actions := [⟨4, 0, .phase 2, false, true, 5000, 50, none⟩] } }; let a : Action := ⟨4, 0, .phase 2, false, true, 5000, 50, none⟩; let code : Nat := 2; (s.live = true ∧ s.takeDue.classThree = s) ∧ (s.cmd.txns = [] ∧ s.syn.actions = [a]) ∧ (a.kind = .phase code ∧ code ≤ 4 ∧ s.firesNow a = true) := by decide +kernel
theorem wit_ActionsAreScheduledCancelledAndFired_6 : let s : State := { at_ 5000 with syn := { (at_ 1).syn with actions := [⟨4, 0, .regWrite (F.TIM_STEP_NS_VALUE.addr 0) 77 0xFF, false, true, 5000, 50, none⟩] } }; let a : Action := ⟨4, 0, .regWrite (F.TIM_STEP_NS_VALUE.addr 0) 77 0xFF, false, true, 5000, 50, none⟩; let v : Nat := 77; let m : Nat := 0xFF; (s.live = true ∧ s.takeDue.classThree = s) ∧ (s.cmd.txns = [] ∧ s.syn.actions = [a] ∧ s.firesNow a = true) ∧ (a.kind = .regWrite (F.TIM_STEP_NS_VALUE.addr 0) v m ∧ masked (s.rd F.TIM_STEP_NS_VALUE) (m % 2 ^ 30) v < 1000000000) := by decide +kernel
theorem wit_ActionsAreScheduledCancelledAndFired_7 : let s : State := { at_ 4999 with syn := { (at_ 1).syn with actions := [⟨4, 0, .phase 2, false, true, 5000, 50, none⟩] } }; (s.live = true ∧ s.takeDue.classThree = s) ∧ (s.commitsDue = [] ∧ s.actionsDue = []) := by decide +kernel
theorem wit_TransactionsOpenPrepareAndEnd_1 : let s : State := { rdy 100 with cmd := { (rdy 1).cmd with txns := [{ wtx with id := 1 }] } }; let p : Packet := wpk 0x10 0 0 []; (s.Takes p) ∧ (p.opcode = 0x10 ∧ bit p.flags.toNat 0 = false) ∧ ((s.cmd.txns.filter (fun t => !t.implicit)).length < 64 ∧ (s.cmd.txns.filter (fun t => !t.implicit && t.seat == p.sender.val)).length < 16) := by decide +kernel
theorem wit_TransactionsOpenPrepareAndEnd_2 : let s : State := rdy 100; let p : Packet := wpk 0x10 0 0 []; (s.Takes p) ∧ (p.opcode = 0x10 ∧ s.cmd.txns = [] ∧ bit p.flags.toNat 0 = false) := by decide +kernel
theorem wit_TransactionsOpenPrepareAndEnd_3 : let s : State := { rdy 100 with cmd := { (rdy 1).cmd with txns := [{ wtx with id := 8 }, wtx] } }; let p : Packet := { wpk 0x11 0 0 [] with txn := 9 }; let x : Txn := wtx; (s.Takes p) ∧ (p.opcode = 0x11 ∧ s.cmd.txns.find? (fun t => !t.implicit && t.id == p.txn.toNat) = some x) ∧ (x.seat = p.sender.val ∧ x.phase = .staging) := by decide +kernel
theorem wit_TransactionsOpenPrepareAndEnd_4 : let s : State := { rdy 100 with cmd := { (rdy 1).cmd with txns := [wtx] } }; let p : Packet := { wpk 0x13 0 1 [5000, 0, 0] with txn := 9 }; let x : Txn := wtx; let lo : Word := 5000; let hi : Word := 0; let ns : Word := 0; let raw : Bool := true; (s.Takes p) ∧ (p.opcode = 0x13 ∧ s.cmd.txns.find? (fun t => !t.implicit && t.id == p.txn.toNat) = some x) ∧ (x.seat = p.sender.val ∧ x.phase = .staging) ∧ (p.data = [lo, hi, ns] ∧ bit p.parameter.toNat 0 = raw ∧ dueNsOk raw ns.toNat = true ∧ (raw = true ∨ s.epoch ≠ 0) ∧ s.syn.actions.length < 256) ∧ ((s.taken p).reached raw (dueOf raw lo.toNat hi.toNat ns.toNat) = false ∨ bit p.flags.toNat 1 = true) := by decide +kernel
theorem wit_TransactionsOpenPrepareAndEnd_5 : let s : State := { rdy 100 with cmd := { (rdy 1).cmd with txns := [{ wtx with id := 8 }, { wtx with seat := 2 }] } }; let p : Packet := { wpk 0x12 0 0 [] with txn := 9 }; let x : Txn := { wtx with seat := 2 }; (s.Takes p) ∧ (p.opcode = 0x12 ∧ s.cmd.txns.find? (fun t => !t.implicit && t.id == p.txn.toNat) = some x) ∧ ((x.seat = p.sender.val ∨ p.sender = 0) ∧ (s.taken p).commitsNow x = false) ∧ (x.waiting = none ∧ x.timed = none) := by decide +kernel
theorem wit_CommitsApplyWholeTransactionsOrNone_1 : let s : State := { rdy 100 with cmd := { (rdy 1).cmd with txns := [{ wtx with phase := .preparing 800 [7, 31] [] 90 }] } }; let x : Txn := { wtx with phase := .preparing 800 [7, 31] [] 90 }; let u : Fin 32 := 7; let dl : Nat := 800; let last : Nat := 90; let waiting : List Nat := [7, 31]; let refused : List Nat := []; (s.ready = true) ∧ (s.cmd.txns.find? (fun t => t.id == x.id) = some x ∧ x.phase = .preparing dl waiting refused last ∧ s.now ≤ dl) ∧ (waiting.contains u.val = true ∧ waiting.erase u.val ≠ []) ∧ (u.val = 5 → s.tbl.rows.all (fun r => r.txn != x.id) = true) := by decide +kernel
theorem wit_CommitsApplyWholeTransactionsOrNone_2 : let s : State := { rdy 100 with cmd := { (rdy 1).cmd with txns := [{ wtx with phase := .preparing 800 [31] [] 90 }] } }; let x : Txn := { wtx with phase := .preparing 800 [31] [] 90 }; let u : Fin 32 := 31; let dl : Nat := 800; let last : Nat := 90; (s.ready = true) ∧ (s.cmd.txns.find? (fun t => t.id == x.id) = some x ∧ x.timed = none ∧ x.phase = .preparing dl [u.val] [] last ∧ s.now ≤ dl) ∧ (u.val = 5 → s.tbl.rows.all (fun r => r.txn != x.id) = true) ∧ (s.recheck x u.val = true) := by decide +kernel
theorem wit_CommitsApplyWholeTransactionsOrNone_3 : let s : State := { rdy 100 with cmd := { (rdy 1).cmd with txns := [{ wtx with phase := .preparing 800 [1] [] 90, waiting := some { wpk 0x11 0 0 [] with txn := 9 }, words := [⟨F.TIM_STEP_NS_VALUE.addr 0, 0xFFFFFFFF, 1000000000⟩], order := [false] }] } }; let x : Txn := { wtx with phase := .preparing 800 [1] [] 90, waiting := some { wpk 0x11 0 0 [] with txn := 9 }, words := [⟨F.TIM_STEP_NS_VALUE.addr 0, 0xFFFFFFFF, 1000000000⟩], order := [false] }; let p : Packet := { wpk 0x11 0 0 [] with txn := 9 }; let u : Fin 32 := 1; let dl : Nat := 800; let last : Nat := 90; let refused : List Nat := []; (s.ready = true) ∧ (s.cmd.txns.find? (fun t => t.id == x.id) = some x ∧ x.timed = none ∧ x.implicit = false ∧ x.waiting = some p ∧ x.phase = .preparing dl [u.val] refused last ∧ s.now ≤ dl) ∧ (u.val = 5 → s.tbl.rows.all (fun r => r.txn != x.id) = true) ∧ (s.recheck x u.val = false) := by decide +kernel
theorem wit_CommitsApplyWholeTransactionsOrNone_4 : let s : State := { rdy 900 with cmd := { (rdy 1).cmd with txns := [{ wtx with id := 8, phase := .preparing 1800 [31] [7] 90 }, { wtx with phase := .preparing 800 [31] [7] 90, waiting := some { wpk 0x11 0 0 [] with txn := 9 } }] } }; let x : Txn := { wtx with phase := .preparing 800 [31] [7] 90, waiting := some { wpk 0x11 0 0 [] with txn := 9 } }; let p : Packet := { wpk 0x11 0 0 [] with txn := 9 }; let dl : Nat := 800; let last : Nat := 90; let waiting : List Nat := [31]; let refused : List Nat := [7]; (s.ready = true) ∧ (s.cmd.txns.filter (fun t => (s.overdue t).isSome) = [x]) ∧ (x.implicit = false ∧ x.timed = none ∧ x.waiting = some p ∧ x.phase = .preparing dl waiting refused last) := by decide +kernel
theorem wit_CommitsApplyWholeTransactionsOrNone_5 : let s : State := { rdy 900 with cmd := { (rdy 1).cmd with txns := [{ wtx with phase := .fixed 850, words := [⟨F.TIM_STEP_NS_VALUE.addr 0, 0xFFFFFFFF, 77⟩], entries := [⟨4, 7, true, [0x80100005]⟩], order := [false, true] }] } }; let x : Txn := { wtx with phase := .fixed 850, words := [⟨F.TIM_STEP_NS_VALUE.addr 0, 0xFFFFFFFF, 77⟩], entries := [⟨4, 7, true, [0x80100005]⟩], order := [false, true] }; let c : Nat := 850; let v : Nat := 77; let e : StagedEntry := ⟨4, 7, true, [0x80100005]⟩; (s.live = true ∧ s.takeDue.classThree = s) ∧ (s.cmd.txns = [x] ∧ x.implicit = false ∧ x.timed = none ∧ x.waiting = none ∧ x.phase = .fixed c ∧ c ≤ s.now ∧ s.spaced = true) ∧ (x.seat = 0 ∧ x.words = [⟨F.TIM_STEP_NS_VALUE.addr 0, 0xFFFFFFFF, v⟩] ∧ x.entries = [e] ∧ x.order = [false, true] ∧ v < 1000000000) ∧ (s.syn.actions = [] ∧ (e.table = 4 ∨ e.table = 6)) := by decide +kernel
theorem wit_CommitsApplyWholeTransactionsOrNone_6 : let s : State := { rdy 900 with cmd := { (rdy 1).cmd with txns := [{ wtx with phase := .fixed 950 }] } }; (s.live = true ∧ s.takeDue.classThree = s) ∧ (s.commitsDue = []) := by decide +kernel
theorem wit_CommitsApplyWholeTransactionsOrNone_7 : let s : State := { rdy 80000000900 with cmd := { (rdy 1).cmd with txns := [wtx, { wtx with id := 8, lastCmd := 79000000000 }] } }; let x : Txn := wtx; (s.ready = true) ∧ (s.cmd.txns.filter (fun t => t.phase == .staging && s.rd F.CMD_TXN_CFG_IDLE_S != 0 && decide (t.lastCmd + s.rd F.CMD_TXN_CFG_IDLE_S * 800000000 ≤ s.now)) = [x]) ∧ (x.implicit = false ∧ x.waiting = none ∧ x.timed = none) := by decide +kernel
theorem wit_TroupeMembersJoinElectAndHear_1 : let s : State := sets (at_ 100) [(F.CLR_PROF_L_L_NS, 2, 1200)]; (s.Free (F.TRP_CTRL_ENABLE.addr 0)) ∧ (s.on F.TRP_CTRL_ENABLE = false) := by decide +kernel
theorem wit_TroupeMembersJoinElectAndHear_2 : let s : State := sets (wtrp 100) [(F.CLR_PROF_L_L_NS, 2, 1200)]; (s.Free (F.TRP_CTRL_ENABLE.addr 0)) ∧ (s.on F.TRP_CTRL_ENABLE = true) := by decide +kernel
theorem wit_TroupeMembersJoinElectAndHear_3 : let s : State := wtrp 100; let on : Bool := true; (s.Free (F.TRP_CTRL_ENABLE.addr 0)) ∧ (s.on F.TRP_CTRL_ENABLE = on) := by decide +kernel
theorem wit_TroupeMembersJoinElectAndHear_4 : let s : State := sets { wtrp 160000 with trp := { (wtrp 1).trp with hellos := 5, peers := [{ heard := some 159000, prio := 3 }] ++ List.replicate 7 {} } } [(F.TRP_PEER_LIVE, 0, 1), (F.TRP_CTRL_LEAD_PRIO, 0, 9)]; let u : State := s.setTrp (fun x => { x with hellos := x.hellos + 1 }); (s.live = true ∧ s.Settled ∧ s.on F.TRP_CTRL_ENABLE = true ∧ s.now % s.helloTicks = 0 ∧ s.ran.contains 9 = false) ∧ (s.liveOthers.filter s.silent = []) ∧ (u = s.setTrp (fun x => { x with hellos := x.hellos + 1, clash := (match x.clash with | some c => if c + s.lossTicks < s.now then none else some c | none => none) })) := by decide +kernel
theorem wit_TroupeMembersJoinElectAndHear_5 : let s : State := { wtrp 160000 with trp := { (wtrp 1).trp with hellos := 5 } }; (s.live = true ∧ s.Settled ∧ s.on F.TRP_CTRL_ENABLE = true ∧ s.now % s.helloTicks = 0 ∧ s.ran.contains 9 = false) ∧ (s.on F.TIM_STATUS_TIME_VALID = true ∧ s.trp.clash = none ∧ s.rd F.TRP_TIMING_LOSS_COUNT ≤ s.trp.hellos + 1) ∧ ((List.range 8).all (fun n => !s.on F.TRP_PEER_LIVE n) = true) := by decide +kernel
theorem wit_TroupeMembersJoinElectAndHear_6 : let s : State := wtrp 1600; let port : Fin 512 := 4; let b : Bytes := wctl 1 3 7 0 (be 1 20 ++ be 1 1 ++ be 2 500 ++ be 2 600 ++ be 2 900); (s.Hears 1 port.val b) := by decide +kernel
theorem wit_TroupeMembersJoinElectAndHear_7 : let s : State := wtrp 1600; let port : Fin 512 := 5; let b : Bytes := wctl 1 3 7 0 []; (s.live = true ∧ s.Settled ∧ beAt b 12 2 = 0x88B5 ∧ byteAt b 15 = 1) ∧ (s.on F.TRP_CTRL_ENABLE = false ∨ s.ctlOk port.val b = false) := by decide +kernel
theorem wit_TroupeMembersJoinElectAndHear_8 : let s : State := { wtrp 1600 with trp := { (wtrp 1).trp with peers := List.replicate 8 { seq := some 7 } } }; let port : Fin 512 := 4; let b : Bytes := wctl 1 3 7 0 []; let q : Nat := 7; (s.live = true ∧ s.Settled ∧ beAt b 12 2 = 0x88B5 ∧ byteAt b 15 = 1) ∧ (s.on F.TRP_CTRL_ENABLE = true ∧ s.ctlOk port.val b = true ∧ byteAt b 16 ≠ s.member) ∧ ((s.peer (byteAt b 16)).seq = some q ∧ serialLater (beAt b 22 4) q = false) := by decide +kernel
theorem wit_TroupeMembersJoinElectAndHear_9 : let s : State := { wtrp 1600 with trp := { (wtrp 1).trp with order := some ⟨7, 67, 5000, 1500, 3⟩ } }; let port : Fin 512 := 4; let b : Bytes := wctl 5 3 7 0 (be 1 4 ++ be 4 7 ++ be 1 0); let o : LiftOrder := ⟨7, 67, 5000, 1500, 3⟩; (s.Hears 5 port.val b) ∧ (s.isLead = false ∧ s.trp.order = some o ∧ byteAt b 38 = 4 ∧ beAt b 39 4 = o.number ∧ byteAt b 43 = 0) := by decide +kernel
theorem wit_TroupeMembersJoinElectAndHear_10 : let s : State := sets { wtrp 1600 with trp := { (wtrp 1).trp with order := some ⟨7, 67, 5000, 1500, 3⟩, mine := true } } [(F.TRP_STATUS_STATE, 0, 3), (F.TRP_PEER_LIVE, 3, 1), (F.TRP_LIFT_CFG_UNLIFT_PHASES, 0, 0)]; let port : Fin 512 := 4; let b : Bytes := wctl 5 3 7 0 (be 1 4 ++ be 4 7 ++ be 1 0); let o : LiftOrder := ⟨7, 67, 5000, 1500, 3⟩; (s.Hears 5 port.val b) ∧ (s.isLead = true ∧ s.on F.TRP_PEER_LIVE (byteAt b 16) = true ∧ s.trp.order = some o ∧ byteAt b 38 = 4 ∧ beAt b 39 4 = o.number ∧ byteAt b 43 = 0) ∧ (s.maxReq ≤ o.lift ∧ beAt b 34 4 ≤ o.lift ∧ bit (s.rd F.TRP_LIFT_CFG_UNLIFT_PHASES) s.phase = false) := by decide +kernel
theorem wit_TroupeSharesBasesAndLifts_1 : let s : State := wtrp 1600; let port : Fin 512 := 4; let b : Bytes := wctl 2 3 7 0 (be 6 100 ++ be 4 5000 ++ be 1 1 ++ be 4 1200 ++ zeros 35); let bases : List (Bool × Nat) := (true, 1200) :: List.replicate 7 (false, 0); (s.Hears 2 port.val b) ∧ (bases = (List.range 8).map (fun k => (byteAt b (48 + 5 * k) != 0, beAt b (49 + 5 * k) 4))) ∧ (bases.zipIdx.all (fun x => !x.1.1 || s.baseFits x.2 x.1.2) = true) := by decide +kernel
theorem wit_TroupeSharesBasesAndLifts_2 : let s : State := wtrp 1600; let port : Fin 512 := 4; let b : Bytes := wctl 2 3 7 0 (be 6 100 ++ be 4 5000 ++ be 1 1 ++ be 4 100 ++ zeros 35); (s.Hears 2 port.val b) ∧ ((List.range 8).any (fun k => byteAt b (48 + 5 * k) != 0 && !s.baseFits k (beAt b (49 + 5 * k) 4)) = true) := by decide +kernel
theorem wit_TroupeSharesBasesAndLifts_3 : let s : State := sets { wtrp 1600 with trp := { (wtrp 1).trp with bases := [⟨2 ^ 60, List.replicate 8 (true, 5000)⟩, ⟨0, (true, 999990) :: (true, 5) :: (true, 3000) :: List.replicate 5 (false, 0)⟩] } } [(F.TRP_LIFT_LIFT_NS, 0, 67)]; let c : BaseChange := ⟨0, (true, 999990) :: (true, 5) :: (true, 3000) :: List.replicate 5 (false, 0)⟩; (s.live = true ∧ s.Settled ∧ s.on F.TRP_CTRL_ENABLE = true) ∧ (s.trp.bases.filter (fun c => decide (c.due ≤ s.viewAt s.now 0)) = [c] ∧ c.bases.length = 8) := by decide +kernel
theorem wit_TroupeSharesBasesAndLifts_4 : let s : State := sets (wtrp 1600) [(F.TRP_STATUS_STATE, 0, 3)]; let k : Fin 8 := 2; let value : BitVec 20 := 1300; (s.Free (F.TRP_BASE_BASE_L_NS.addr k.val)) ∧ (s.on F.TRP_CTRL_ENABLE = true ∧ s.isLead = true ∧ bit (s.rd F.TRP_SHARE_MASK_PROFILES) k.val = true) ∧ (s.baseFits k.val value.toNat = true) := by decide +kernel
theorem wit_TroupeSharesBasesAndLifts_5 : let s : State := at_ 1600; let k : Fin 8 := 2; let value : BitVec 20 := 1300; (s.Free (F.TRP_BASE_BASE_L_NS.addr k.val)) ∧ (s.on F.TRP_CTRL_ENABLE = false ∧ value.toNat ≠ s.rd F.TRP_BASE_BASE_L_NS k.val ∧ s.baseFits k.val value.toNat = true) := by decide +kernel
theorem wit_TroupeSharesBasesAndLifts_6 : let s : State := sets (wtrp 1600) [(F.TRP_STATUS_STATE, 0, 3)]; let port : Fin 512 := 4; let b : Bytes := wctl 3 3 7 67 []; (s.Hears 3 port.val b) ∧ (s.isLead = true ∧ s.trp.order = none ∧ s.rd F.TRP_LIFT_LIFT_NS = 0 ∧ s.reqNs = 0) ∧ ((List.range 8).all (fun n => !s.on F.TRP_PEER_LIVE n) = true ∧ 0 < beAt b 34 4) ∧ (s.epoch ≠ 0 ∧ s.syn.actions = []) := by decide +kernel
theorem wit_TroupeSharesBasesAndLifts_7 : let s : State := sets (wtrp 1600) [(F.TRP_STATUS_STATE, 0, 3), (F.TRP_PEER_LIVE, 3, 1)]; let port : Fin 512 := 4; let b : Bytes := wctl 3 3 7 67 []; let u : State := s.notePeer (b.drop 14); (s.Hears 3 port.val b) ∧ (u = s.notePeer (b.drop 14)) ∧ (s.isLead = true ∧ s.on F.TRP_PEER_LIVE (byteAt b 16) = true ∧ s.orderedLift < u.maxReq) ∧ (s.trp.mine = false ∨ s.trp.order.all (fun o => o.issued != s.now) = true) ∧ (s.epoch ≠ 0 ∧ (s.syn.actions.filter (fun a => !s.superseded (u.lastNumber + 1) a)).length < 256) := by decide +kernel
theorem wit_TroupeSharesBasesAndLifts_8 : let s : State := wtrp 1600; let port : Fin 512 := 4; let b : Bytes := wctl 3 3 7 67 []; (s.Hears 3 port.val b) ∧ (s.isLead = false) := by decide +kernel
theorem wit_TroupeSharesBasesAndLifts_9 : let s : State := wtrp 1600; let port : Fin 512 := 4; let b : Bytes := wctl 4 3 7 0 (be 4 7 ++ be 4 67 ++ be 6 100 ++ be 4 5000); (s.Hears 4 port.val b) ∧ (s.isLead = false ∧ (match s.trp.order with | some x => x.number | none => s.rd F.TRP_LIFT_SEQ_VALUE) < beAt b 38 4) ∧ (s.epoch ≠ 0 ∧ (s.syn.actions.filter (fun a => !s.superseded (beAt b 38 4) a)).length < 256) := by decide +kernel
theorem wit_TroupeSharesBasesAndLifts_10 : let s : State := { wtrp 1600 with trp := { (wtrp 1).trp with order := some ⟨7, 67, 5000, 1500, 3⟩ } }; let port : Fin 512 := 4; let b : Bytes := wctl 4 3 7 0 (be 4 7 ++ be 4 67 ++ be 6 100 ++ be 4 5000); (s.Hears 4 port.val b) ∧ (s.isLead = false ∧ beAt b 38 4 ≤ (match s.trp.order with | some x => x.number | none => s.rd F.TRP_LIFT_SEQ_VALUE)) := by decide +kernel
theorem wit_TroupeSharesBasesAndLifts_11 : let s : State := sets (wtrp 1600) [(F.TRP_STATUS_STATE, 0, 3), (F.TRP_LIFT_LIFT_NS, 0, 67)]; (s.Free (F.TRP_LIFT_CFG_UNLIFT.addr 0)) ∧ (s.on F.TRP_CTRL_ENABLE = true ∧ s.isLead = true ∧ s.trp.mine = false) ∧ (s.epoch ≠ 0 ∧ s.syn.actions.length < 256) := by decide +kernel
theorem wit_TroupeSharesBasesAndLifts_12 : let s : State := wtrp 1600; (s.Free (F.TRP_LIFT_CFG_UNLIFT.addr 0)) ∧ (s.on F.TRP_CTRL_ENABLE = false ∨ s.isLead = false) := by decide +kernel
theorem wit_TroupeGrantsPower_1 : let s : State := wtrp 1600; let port : Fin 512 := 4; let b : Bytes := wctl 6 3 7 0 (be 6 100 ++ be 4 5000 ++ be 2 950 ++ be 2 900 ++ zeros 12); (s.Hears 6 port.val b) := by decide +kernel
theorem wit_TroupeGrantsPower_2 : let s : State := sets (wtrp 8000000) [(F.TRP_STATUS_STATE, 0, 3)]; (s.live = true ∧ s.Settled ∧ s.on F.TRP_CTRL_ENABLE = true ∧ s.isLead = true ∧ s.now % s.periodTicks = 0 ∧ s.ran.contains 10 = false) := by decide +kernel
theorem wit_TroupeGrantsPower_3 : let s : State := { wtrp 1600 with trp := { (wtrp 1).trp with grants := [⟨0, [950, 900]⟩] } }; let due : Nat := 0; let g : Nat := 900; let gs : List Nat := [950, 900]; (s.live = true ∧ s.Settled ∧ s.on F.TRP_CTRL_ENABLE = true) ∧ (s.trp.grants = [⟨due, gs⟩] ∧ due ≤ s.viewAt s.now 0 ∧ nth gs s.member 0 = g ∧ 0 < g ∧ g < 65536) ∧ (g ≤ (if s.rd F.TRP_GRANT_GRANT_W = 0 then s.rd F.TRP_POWER_SOLO_W else s.rd F.TRP_GRANT_GRANT_W)) := by decide +kernel
theorem wit_TroupeGrantsPower_4 : let s : State := { wtrp 1600 with trp := { (wtrp 1).trp with grants := [⟨0, [950, 1100]⟩] } }; let due : Nat := 0; let g : Nat := 1100; let gs : List Nat := [950, 1100]; (s.live = true ∧ s.Settled ∧ s.on F.TRP_CTRL_ENABLE = true) ∧ (s.trp.grants = [⟨due, gs⟩] ∧ due ≤ s.viewAt s.now 0 ∧ s.viewAt s.now 0 < due + 100 * 65536000 ∧ nth gs s.member 0 = g) ∧ ((if s.rd F.TRP_GRANT_GRANT_W = 0 then s.rd F.TRP_POWER_SOLO_W else s.rd F.TRP_GRANT_GRANT_W) < g) := by decide +kernel
theorem wit_EvidenceIsAcceptedOrItsLossTold_1 : let s : State := { at_ 1600 with evr := { (at_ 1).evr with taps := [wrec], opened := some wopen } }; let r : Record := wrec; let first : Record := { wrec with kind := 0x10 }; let rest : List Record := []; let b : OpenBlock := wopen; (s.live = true ∧ s.evr.held = false ∧ s.evr.gaps = [] ∧ s.evr.own = [] ∧ s.evr.agg = [] ∧ s.evr.taps = [r] ∧ s.sealCause = none) ∧ (s.evr.opened = some b ∧ b.records = first :: rest ∧ r.kind ≠ 0x10 ∧ r.kind ≠ 0x18 ∧ r.kind ≠ 0x20 ∧ r.drop = none) ∧ (r.optional = false ∨ 0 ≤ s.evr.bucket) ∧ (s.evr.acceptedBytes + r.bytes ≤ 16384) ∧ (s.on F.EVR_STATUS_AGGREGATING = false ∧ s.evr.staging < stagingSize * s.rd F.EVR_STAGING_CFG_AGG_ON_PCT / 100) ∧ (s.evr.staging + r.bytes ≤ stagingSize - 65536) := by decide +kernel
theorem wit_EvidenceIsAcceptedOrItsLossTold_2 : let s : State := { at_ 1600 with evr := { (at_ 1).evr with taps := [{ wrec with optional := true }], opened := some wopen, bucket := -5 } }; let r : Record := { wrec with optional := true }; (s.live = true ∧ s.evr.held = false ∧ s.evr.gaps = [] ∧ s.evr.own = [] ∧ s.evr.agg = [] ∧ s.evr.taps = [r] ∧ s.sealCause = none) ∧ (r.kind ≠ 0x18 ∧ r.kind ≠ 0x20 ∧ r.drop = none ∧ r.optional = true ∧ s.evr.bucket < 0 ∧ s.evr.acceptedBytes + r.bytes ≤ 16384) ∧ (s.on F.EVR_STATUS_AGGREGATING = false ∧ s.evr.staging < stagingSize * s.rd F.EVR_STAGING_CFG_AGG_ON_PCT / 100) := by decide +kernel
theorem wit_EvidenceIsAcceptedOrItsLossTold_3 : let s : State := { at_ 1600 with evr := { (at_ 1).evr with taps := [wrec, { wrec with inst := 1, optional := true }], own := [{ wrec with kind := 0x18 }], opened := some wopen, bucket := -1 } }; (s.live = true ∧ s.evr.held = false ∧ s.evr.gaps = [] ∧ s.evr.agg = [] ∧ s.sealCause = none) ∧ (s.evr.acceptedBytes + sumOf (s.evr.taps ++ s.evr.own) Record.bytes ≤ 16384) := by decide +kernel
theorem wit_EvidenceIsAcceptedOrItsLossTold_4 : let s : State := { at_ 1600 with evr := { (at_ 1).evr with bucket := -5 } }; (s.live = true ∧ s.now % 16 = 0 ∧ s.ran.contains 11 = false) := by decide +kernel
theorem wit_BlocksSealSignAndChain_1 : let s : State := { at_ 800000 with evr := { (at_ 1).evr with opened := some wopen, nextNo := 4, blocks := [{ wblock with pinned := true }] } }; let c : Nat := 4; let b : OpenBlock := wopen; (s.live = true ∧ s.evr.held = false ∧ s.Settled ∧ s.sealCause = some c ∧ s.evr.opened = some b) ∧ (s.evr.gaps = [] ∧ s.evr.own.all (fun r => r.kind != 0x20) = true ∧ s.evr.blocks.length < 8388608) := by decide +kernel
theorem wit_BlocksSealSignAndChain_2 : let s : State := sets { at_ 1600 with evr := { (at_ 1).evr with blocks := [wblock] } } [(F.EVR_SIGN_STATUS_CORES_OK, 0, 0xFFF), (F.IDN_STATUS_RNG_OK, 0, 1)]; let b : SealedBlock := wblock; (s.live = true ∧ s.rd F.EVR_SIGN_STATUS_CORES_OK ≠ 0 ∧ s.on F.IDN_STATUS_RNG_OK = true) ∧ (s.unsigned.head? = some b ∧ (List.range 4).all (fun c => (s.poolPlace c).isSome) = true) := by decide +kernel
theorem wit_BlocksSealSignAndChain_3 : let s : State := sets { at_ 800000 with evr := { (at_ 1).evr with early := [wrec] } } [(F.MEM_STATUS_TRAINED, 0, 1), (F.IDN_STATUS_EVK_READY, 0, 1)]; (s.live = true ∧ s.Settled ∧ s.now % 800000 = 0 ∧ s.on F.MEM_STATUS_TRAINED = true ∧ s.on F.IDN_STATUS_EVK_READY = true ∧ s.on F.EVR_STATUS_READY = false) ∧ (s.evr.gaps.all (fun g => g.cause != 6) = true ∧ s.evr.own.all (fun r => r.kind != 0x20) = true) := by decide +kernel
theorem wit_BlocksSealSignAndChain_4 : let s : State := sets (at_ 1600) [(F.EVR_SIGN_STATUS_CORES_OK, 0, 0xFFF)]; let core : Fin 12 := 5; (s.live = true ∧ bit (s.rd F.EVR_SIGN_STATUS_CORES_OK) core.val = true) := by decide +kernel
theorem wit_EvidenceIsSealedPinnedAndExported_1 : let s : State := sets (rdy 1600) [(F.EVR_STATUS_READY, 0, 1)]; let p : Packet := wpk 0x40 0 0 []; (s.Takes p) ∧ (p.opcode = 0x40 ∧ p.data = [] ∧ s.evrSeat p = true ∧ s.on F.EVR_STATUS_READY = true) := by decide +kernel
theorem wit_EvidenceIsSealedPinnedAndExported_2 : let s : State := sets { rdy 1600 with evr := { (rdy 1).evr with blocks := [wblock] } } [(F.EVR_RING_PIN_LIMIT_GIB, 0, 4)]; let p : Packet := wpk 0x41 0 0 [1, 3, 0, 3, 0]; let a : Nat := 3; let b : Nat := 3; let pin : Bool := true; (s.Takes p) ∧ (p.opcode = 0x41 ∧ s.evrSeat p = true ∧ p.data.length = 5 ∧ pin = bit (p.data.getD 0 0).toNat 0 ∧ a = dataPair p 1 ∧ b = dataPair p 3) ∧ (s.rd F.MEM_STATUS_STATE ≠ 3 ∧ s.rangePresent a b = true) ∧ (pin = true → sumOf (s.evr.blocks.filter (fun x => x.pinned || (decide (a ≤ x.no) && decide (x.no ≤ b)))) (fun x => x.length) ≤ s.rd F.EVR_RING_PIN_LIMIT_GIB * 2 ^ 30 ∧ (s.evr.blocks.filter (fun x => x.pinned || (decide (a ≤ x.no) && decide (x.no ≤ b)))).length ≤ 4194304) := by decide +kernel
theorem wit_EvidenceIsSealedPinnedAndExported_3 : let s : State := sets { rdy 1600 with evr := { (rdy 1).evr with blocks := [wblock], opened := some wopen, nextNo := 4 } } [(F.MAC_PORT_CFG_MAX_LEN, 0, 9000)]; let p : Packet := wpk 0x42 0 0 [0, 3, 0, 3, 0, 0, 0]; let a : Nat := 3; let b : Nat := 3; let n : Nat := 0; (s.Takes p) ∧ (p.opcode = 0x42 ∧ s.evrSeat p = true ∧ p.data.length = 7 ∧ bit (p.data.getD 0 0).toNat 0 = false ∧ a = dataPair p 1 ∧ b = dataPair p 3) ∧ (n = (p.data.getD 6 0).toNat ∧ s.rd F.MEM_STATUS_STATE ≠ 3) ∧ (s.evr.exporting = none ∧ s.evr.opened.isSome = true ∧ b < s.evr.nextNo ∧ s.rangePresent a b = true) ∧ (exportFrameLen (1024 * s.rd F.EVR_EXPORT_CTRL_CHUNK_KIB) ≤ s.rd F.MAC_PORT_CFG_MAX_LEN (s.rd F.EVR_EXPORT_CTRL_PORT)) := by decide +kernel
theorem wit_EvidenceIsSealedPinnedAndExported_4 : let s : State := sets { rdy 1600 with evr := { (rdy 1).evr with blocks := [{ wblock with trailer := some (zeros 144) }], exporting := some ⟨3, 5, 3, 3, none, 1, 70, 1600, wpk 0x42 0 0 [0, 3, 0, 3, 0, 0, 0]⟩ } } [(F.EVR_EXPORT_STATUS_BUSY, 0, 1), (F.LAN_PORT_STATUS_STATE, 0, 5)]; let x : ExportRun := ⟨3, 5, 3, 3, none, 1, 70, 1600, wpk 0x42 0 0 [0, 3, 0, 3, 0, 0, 0]⟩; let b : SealedBlock := { wblock with trailer := some (zeros 144) }; let tr : Bytes := zeros 144; let all : Bytes := zeros 256 ++ [1, 2, 3] ++ zeros 144; let chunk : Bytes := zeros 251 ++ [1, 2, 3] ++ zeros 144; let whole : Bool := true; (s.live = true ∧ s.evr.exporting = some x ∧ s.evr.blocks.find? (fun b => b.no == x.block) = some b ∧ b.trailer = some tr) ∧ ((s.batching && s.blockStaged b) = false ∧ (List.range 4).all (fun c => (s.poolPlace c).isSome) = true ∧ x.nextAt ≤ s.now) ∧ (all = b.header ++ b.body ++ tr ∧ chunk = (all.drop x.offset).take ((x.limit.map (fun n => min n (1024 * s.rd F.EVR_EXPORT_CTRL_CHUNK_KIB))).getD (1024 * s.rd F.EVR_EXPORT_CTRL_CHUNK_KIB)) ∧ whole = decide (all.length ≤ x.offset + chunk.length)) ∧ ((whole = true ∧ x.block = x.last) ∨ x.limit = some chunk.length) ∧ (s.queueTakes (16 * s.rd F.EVR_EXPORT_CTRL_PORT + s.rd F.EVR_EXPORT_CTRL_QUEUE % 16) (ceilDiv (s.exportFrame x.block x.offset all.length chunk whole true).length 256) = true) := by decide +kernel
theorem wit_EvidenceIsSealedPinnedAndExported_5 : let s : State := sets { rdy 1600 with evr := { (rdy 1).evr with blocks := [{ wblock with trailer := some (zeros 144) }], exporting := some ⟨3, 0, 4, 3, none, 0, 0, 1600, wpk 0x42 0 0 [0, 3, 0, 4, 0, 0, 0]⟩ } } [(F.EVR_EXPORT_STATUS_BUSY, 0, 1), (F.LAN_PORT_STATUS_STATE, 0, 5)]; let x : ExportRun := ⟨3, 0, 4, 3, none, 0, 0, 1600, wpk 0x42 0 0 [0, 3, 0, 4, 0, 0, 0]⟩; let b : SealedBlock := { wblock with trailer := some (zeros 144) }; let tr : Bytes := zeros 144; let all : Bytes := zeros 256 ++ [1, 2, 3] ++ zeros 144; let chunk : Bytes := zeros 256 ++ [1, 2, 3] ++ zeros 144; let whole : Bool := true; (s.live = true ∧ s.evr.exporting = some x ∧ s.evr.blocks.find? (fun b => b.no == x.block) = some b ∧ b.trailer = some tr) ∧ ((s.batching && s.blockStaged b) = false ∧ (List.range 4).all (fun c => (s.poolPlace c).isSome) = true ∧ x.nextAt ≤ s.now) ∧ (all = b.header ++ b.body ++ tr ∧ chunk = (all.drop x.offset).take (1024 * s.rd F.EVR_EXPORT_CTRL_CHUNK_KIB) ∧ whole = decide (all.length ≤ x.offset + chunk.length)) ∧ (x.limit = none ∧ ¬ (whole = true ∧ x.block = x.last)) ∧ (s.queueTakes (16 * s.rd F.EVR_EXPORT_CTRL_PORT + s.rd F.EVR_EXPORT_CTRL_QUEUE % 16) (ceilDiv (s.exportFrame x.block x.offset all.length chunk whole false).length 256) = true) := by decide +kernel
theorem wit_MemoryServesRefreshesAndSleeps_1 : let s : State := { sets (at_ 1600) [(F.MEM_STATUS_TRAINED, 0, 1), (F.MEM_STATUS_STATE, 0, 1)] with mem := { (at_ 1).mem with reqs := [⟨5, 78, 10, 1500, none⟩] } }; let chan : Fin 32 := 9; let client : Nat := 5; let unit : Nat := 36; (s.clocked = true ∧ s.on F.MEM_STATUS_TRAINED = true ∧ s.rd F.MEM_STATUS_STATE ≠ 3 ∧ s.pumpOps = s ∧ s.stackRoom chan.val = true ∧ s.memReqs chan.val = []) ∧ (s.srState (chanStack chan.val) = 0 ∧ s.memBusy chan.val ≤ s.now ∧ s.chState chan.val = 0 ∧ s.mem.owed.contains chan.val = false) ∧ (3 ≤ client ∧ client ≤ 7 ∧ client ≠ 6 ∧ (memPlace (256 * unit)).1 = chan.val) := by decide +kernel
theorem wit_MemoryServesRefreshesAndSleeps_2 : let s : State := { sets (at_ 1600) [(F.MEM_STATUS_TRAINED, 0, 1), (F.MEM_STATUS_STATE, 0, 1)] with mem := { (at_ 1).mem with reqs := [⟨5, 79, 9, 1500, none⟩, ⟨4, 78, 9, 1550, none⟩] } }; let chan : Fin 32 := 9; let r : MemReq := ⟨4, 78, 9, 1550, none⟩; (s.clocked = true ∧ s.on F.MEM_STATUS_TRAINED = true ∧ s.rd F.MEM_STATUS_STATE ≠ 3 ∧ s.pumpOps = s ∧ (s.memReqs chan.val).head? = some r) ∧ (s.srState (chanStack chan.val) = 0 ∧ s.memBusy chan.val ≤ s.now ∧ s.chState chan.val = 0 ∧ s.mem.owed.contains chan.val = false ∧ r.op = none) := by decide +kernel
theorem wit_MemoryServesRefreshesAndSleeps_3 : let s : State := { sets (at_ 1600) [(F.MEM_STATUS_TRAINED, 0, 1), (F.MEM_STATUS_STATE, 0, 1)] with mem := { (at_ 1).mem with owed := [3, 9], reqs := [⟨5, 79, 9, 1500, none⟩] } }; let chan : Fin 32 := 9; (s.clocked = true ∧ s.on F.MEM_STATUS_TRAINED = true ∧ s.rd F.MEM_STATUS_STATE ≠ 3 ∧ s.pumpOps = s) ∧ (s.srState (chanStack chan.val) = 0 ∧ s.memBusy chan.val ≤ s.now ∧ s.mem.owed.contains chan.val = true) := by decide +kernel
theorem wit_MemoryServesRefreshesAndSleeps_4 : let s : State := sets (at_ 1600) [(F.MEM_STATUS_TRAINED, 0, 1), (F.MEM_STATUS_STATE, 0, 1), (F.MEM_STACK_STATUS_SR_STATE, 1, 2)]; let chan : Fin 32 := 9; let client : Nat := 5; let unit : Nat := 36; (s.clocked = true ∧ s.on F.MEM_STATUS_TRAINED = true ∧ s.rd F.MEM_STATUS_STATE ≠ 3 ∧ s.pumpOps = s ∧ s.stackRoom chan.val = true) ∧ (s.srState (chanStack chan.val) ≠ 0 ∧ 3 ≤ client ∧ client ≤ 7 ∧ (client = 6 ∨ (memPlace (256 * unit)).1 = chan.val)) := by decide +kernel
theorem wit_MemoryServesRefreshesAndSleeps_5 : let s : State := { sets (at_ 1600) [(F.MEM_STATUS_TRAINED, 0, 1), (F.MEM_STATUS_STATE, 0, 1)] with mem := { (at_ 1).mem with busy := [(9, 1700)] } }; let chan : Fin 32 := 9; let client : Nat := 4; let unit : Nat := 36; (s.clocked = true ∧ s.on F.MEM_STATUS_TRAINED = true ∧ s.rd F.MEM_STATUS_STATE ≠ 3 ∧ s.mem.ops = [] ∧ s.now < s.memBusy chan.val) ∧ (client = 4 ∨ (client = 3 ∧ (s.batching = true → s.mem.flush ≠ 0))) ∧ ((memPlace (256 * unit)).1 = chan.val ∧ (List.range 4).all (fun k => decide ((s.stackReqs k).length ≤ 62)) = true ∧ s.mem.reqs.all (fun r => r.op != some s.mem.nextOp) = true) := by decide +kernel
theorem wit_MemoryServesRefreshesAndSleeps_6 : let s : State := { sets (at_ 1600) [(F.MEM_STATUS_TRAINED, 0, 1), (F.MEM_STATUS_STATE, 0, 1)] with mem := { (at_ 1).mem with reqs := [⟨3, 36, 9, 1500, some 6⟩], ops := [⟨6, 3, 0, 1, [], [9]⟩], flush := 512 }, evr := { (at_ 1).evr with staging := 700, stagedAt := [(1000, 300), (1100, 400)] } }; let chan : Fin 32 := 9; let r : MemReq := ⟨3, 36, 9, 1500, some 6⟩; let o : MemOp := ⟨6, 3, 0, 1, [], [9]⟩; (s.clocked = true ∧ s.on F.MEM_STATUS_TRAINED = true ∧ s.rd F.MEM_STATUS_STATE ≠ 3 ∧ s.pumpOps = s ∧ (s.memReqs chan.val).head? = some r) ∧ (s.srState (chanStack chan.val) = 0 ∧ s.memBusy chan.val ≤ s.now ∧ s.mem.owed.contains chan.val = false ∧ s.chState chan.val = 0) ∧ (r.op = some o.id ∧ s.mem.ops = [o] ∧ o.reads = [] ∧ o.writes = [chan.val] ∧ o.client = 3 ∧ chan.val ≠ parityChan o.stripe o.row) := by decide +kernel
theorem wit_MemoryServesRefreshesAndSleeps_7 : let s : State := sets (at_ 1600) [(F.MEM_STATUS_TRAINED, 0, 1)]; let chan : Fin 32 := 9; (s.clocked = true ∧ s.on F.MEM_STATUS_TRAINED = true ∧ s.srState (chanStack chan.val) = 0 ∧ s.mem.due.get chan.val 0 ≤ s.now) ∧ (s.rd F.MEM_CH_STATUS_DEBT chan.val < 3) := by decide +kernel
theorem wit_MemoryServesRefreshesAndSleeps_8 : let s : State := sets (at_ 1600) [(F.MEM_STATUS_TRAINED, 0, 1), (F.MEM_CH_STATUS_DEBT, 9, 3)]; let chan : Fin 32 := 9; (s.clocked = true ∧ s.on F.MEM_STATUS_TRAINED = true ∧ s.srState (chanStack chan.val) = 0 ∧ s.mem.due.get chan.val 0 ≤ s.now) ∧ (s.rd F.MEM_CH_STATUS_DEBT chan.val = 3) := by decide +kernel
theorem wit_MemoryServesRefreshesAndSleeps_9 : let s : State := sets (at_ 1600) [(F.MEM_STATUS_TRAINED, 0, 1), (F.MEM_CH_STATUS_DEBT, 9, 2)]; let chan : Fin 32 := 9; (s.clocked = true ∧ s.on F.MEM_STATUS_TRAINED = true ∧ s.srState (chanStack chan.val) = 0) ∧ (s.memBusy chan.val ≤ s.now ∧ s.rd F.MEM_CH_STATUS_DEBT chan.val ≠ 0 ∧ s.memReqs chan.val = []) := by decide +kernel
theorem wit_MemoryServesRefreshesAndSleeps_10 : let s : State := at_ 800000; let k : Fin 4 := 2; (s.clocked = true ∧ s.now % 800000 = 0 ∧ s.ran.contains (16 + k.val) = false) := by decide +kernel
theorem wit_MemoryServesRefreshesAndSleeps_11 : let s : State := sets (at_ 80000000) [(F.MEM_STATUS_TRAINED, 0, 1), (F.MEM_SR_CTRL_PHASES, 0, 16)]; let k : Fin 4 := 2; (s.clocked = true ∧ s.live = true ∧ s.srState k.val = 0 ∧ s.mayEnter k.val = true) := by decide +kernel
theorem wit_MemoryServesRefreshesAndSleeps_12 : let s : State := sets (at_ 1600) [(F.MEM_STACK_STATUS_SR_STATE, 2, 1)]; let k : Fin 4 := 2; (s.clocked = true ∧ s.srState k.val = 1 ∧ s.mem.since.get k.val 0 + 160 ≤ s.now) := by decide +kernel
theorem wit_MemoryServesRefreshesAndSleeps_13 : let s : State := sets { at_ 1600 with mem := { (at_ 1).mem with reqs := [⟨5, 77, 17, 1500, none⟩] } } [(F.MEM_STACK_STATUS_SR_STATE, 2, 2)]; let k : Fin 4 := 2; (s.clocked = true ∧ s.srState k.val = 2 ∧ s.mem.since.get k.val 0 + 400 ≤ s.now ∧ s.stackReqs k.val ≠ []) := by decide +kernel
theorem wit_MemoryServesRefreshesAndSleeps_14 : let s : State := sets { at_ 1600 with mem := { (at_ 1).mem with reqs := [⟨5, 77, 17, 1500, none⟩] } } [(F.MEM_STACK_STATUS_SR_STATE, 2, 3), (F.MEM_CH_STATUS_DEBT, 17, 3)]; let k : Fin 4 := 2; (s.clocked = true ∧ s.srState k.val = 3 ∧ s.mem.since.get k.val 0 + 264 ≤ s.now) := by decide +kernel
theorem wit_MemoryServesRefreshesAndSleeps_15 : let s : State := sets { at_ 1600 with evr := { (at_ 1).evr with staging := 5000000 } } [(F.MEM_SR_CTRL_PHASES, 0, 16), (F.MEM_SR_BATCH_BATCH_US, 0, 2000), (F.MEM_STATUS_STATE, 0, 1)]; (s.live = true ∧ s.batching = true ∧ s.mem.flush = 0 ∧ s.rd F.MEM_STATUS_STATE ≠ 3) ∧ (1024 * s.rd F.MEM_SR_BATCH_BATCH_KIB ≤ s.evr.staging ∨ s.evr.stagedAt.head?.any (fun x => decide (x.1 + 800 * s.rd F.MEM_SR_BATCH_BATCH_US ≤ s.now)) = true ∨ s.exportWaits = true) := by decide +kernel
theorem wit_MemoryChannelsFailAndRecover_1 : let s : State := sets (at_ 1600) [(F.MEM_STATUS_TRAINED, 0, 1)]; let c : Fin 32 := 9; (s.Free (F.MEM_CH_CTRL_FORCE_FAIL.addr c.val)) ∧ (s.chState c.val ≠ 1 ∧ s.chState c.val ≠ 3) := by decide +kernel
theorem wit_MemoryChannelsFailAndRecover_2 : let s : State := sets (at_ 1600) [(F.MEM_CH_STATUS_STATE, 9, 1)]; let c : Fin 32 := 9; (s.Free (F.MEM_CH_CTRL_FORCE_FAIL.addr c.val)) ∧ (s.chState c.val = 1 ∨ s.chState c.val = 3) := by decide +kernel
theorem wit_MemoryChannelsFailAndRecover_3 : let s : State := sets { at_ 1600 with mem := { (at_ 1).mem with ue := [(9, 1500)] } } [(F.MEM_FAIL_CFG_UE_LIMIT, 0, 1), (F.MEM_STATUS_TRAINED, 0, 1), (F.MEM_CH_STATUS_STATE, 8, 1)]; let c : Fin 32 := 9; (s.clocked = true ∧ (s.ueReached c.val = true ∨ (s.memReqs c.val).any (fun r => decide (r.arrived + 8000 ≤ s.now)) = true)) ∧ (s.chState c.val ≠ 1 ∧ s.chState c.val ≠ 3) := by decide +kernel
theorem wit_MemoryChannelsFailAndRecover_4 : let s : State := sets (at_ 1600) [(F.MEM_CH_STATUS_STATE, 9, 1)]; let c : Fin 32 := 9; (s.Free (F.MEM_CH_CTRL_RETRY.addr c.val)) := by decide +kernel
theorem wit_MemoryChannelsFailAndRecover_5 : let s : State := sets (at_ 1600) [(F.MEM_CH_STATUS_STATE, 9, 3)]; let c : Fin 32 := 9; (s.clocked = true ∧ s.chState c.val = 3) := by decide +kernel
theorem wit_MemoryChannelsFailAndRecover_6 : let s : State := sets (at_ 1600) [(F.MEM_CH_STATUS_STATE, 9, 2)]; let c : Fin 32 := 9; (s.clocked = true ∧ s.chState c.val = 2) := by decide +kernel
theorem wit_MemoryChannelsFailAndRecover_7 : let s : State := { at_ 1600 with qsg := { (at_ 1).qsg with queue := [{ frame := wf, egr := 3, queue := 1, cells := 1 }, { frame := wf, egr := 3, queue := 2, cells := 1, seg := .reserve }] } }; let j : Fin 4 := 2; let row : BitVec 24 := 1003; let members : List (Fin 8) := [6, 3, 6]; let units : List Nat := [28106]; let c : Nat := 28; (s.clocked = true ∧ 2 ≤ (members.map Fin.val).dedup.length) ∧ (units = (members.map Fin.val).dedup.filterMap (fun m => memUnit j.val row.toNat m) ∧ c = memberChan j.val ((members.head?.map Fin.val).getD 0)) ∧ (units.all (fun u => decide (s.ringLost (u * 256) 256 = s)) = true) := by decide +kernel
theorem wit_MemoryChannelsFailAndRecover_8 : let s : State := sets (at_ 1600) [(F.MEM_STATUS_TRAINED, 0, 1), (F.MEM_STATUS_STATE, 0, 1)]; let c : Fin 32 := 9; let finding : Fin 4 := 3; (s.clocked = true ∧ s.on F.MEM_STATUS_TRAINED = true ∧ s.on F.MEM_SCRUB_CTRL_ENABLE = true ∧ s.rd F.MEM_STATUS_STATE ≠ 3) ∧ ((List.range 4).all (fun k => s.srState k == 0) = true ∧ s.chState c.val = 0 ∧ finding ≠ 2) := by decide +kernel
theorem wit_MemoryChannelsFailAndRecover_9 : let s : State := sets (at_ 1600) [(F.MEM_STATUS_TRAINED, 0, 1), (F.MEM_STATUS_STATE, 0, 1)]; let c : Fin 32 := 9; (s.clocked = true ∧ s.on F.MEM_STATUS_TRAINED = true ∧ s.on F.MEM_SCRUB_CTRL_ENABLE = true ∧ s.rd F.MEM_STATUS_STATE ≠ 3) ∧ ((List.range 4).all (fun k => s.srState k == 0) = true ∧ s.chState c.val = 0 ∧ (s.rd F.MEM_FAIL_CFG_UE_LIMIT = 0 ∨ s.ueCount c.val + 1 < s.rd F.MEM_FAIL_CFG_UE_LIMIT)) := by decide +kernel
theorem wit_MemoryChannelsFailAndRecover_10 : let s : State := at_ 1600; let failing : List (Fin 32) := [9, 3]; let lanes : List (Nat × Nat) := [(4, 2), (9, 1)]; (s.clocked = true ∧ s.on F.MEM_STATUS_TRAINED = false ∧ s.rd F.MEM_STATUS_STATE ≠ 3) ∧ ((List.range 32).all (fun c => s.chState c == 0) = true ∧ failing.Nodup ∧ (failing.map (fun c => chanStripe c.val)).Nodup) ∧ (lanes.all (fun x => decide (x.1 < 32) && decide (x.2 ≤ 3)) = true ∧ (lanes.map Prod.fst).Nodup) := by decide +kernel
theorem wit_LinksComeUpStageByStage_1 : let s : State := sets (at_ 1600) [(F.LAN_LANE_STATUS_POWER, 7, 2)]; let seat : Fin 4 := 0; let p : Fin 512 := 7; (s.Free (F.LAN_PORT_CTRL_START.addr p.val)) ∧ (s.ownsPort seat.val p.val = true ∧ s.on F.LAN_PORT_CFG_EN p.val = true ∧ s.tsu.cal.all (fun r => r.port != p.val) = true ∧ s.on F.LAN_PORT_CTRL_START p.val = false) := by decide +kernel
theorem wit_LinksComeUpStageByStage_2 : let s : State := sets (at_ 1600) [(F.LAN_PORT_CTRL_START, 7, 1), (F.LAN_PORT_STATUS_STATE, 7, 4)]; let seat : Fin 4 := 0; let p : Fin 512 := 7; (s.Free (F.LAN_PORT_CTRL_START.addr p.val)) ∧ (s.ownsPort seat.val p.val = true ∧ s.on F.LAN_PORT_CFG_EN p.val = true ∧ s.tsu.cal.all (fun r => r.port != p.val) = true ∧ s.on F.LAN_PORT_CTRL_START p.val = true) := by decide +kernel
theorem wit_LinksComeUpStageByStage_3 : let s : State := at_ 1600; let seat : Fin 4 := 0; let p : Fin 512 := 7; (s.Free (F.LAN_PORT_CTRL_START.addr p.val)) ∧ (s.ownsPort seat.val p.val = true ∧ s.on F.LAN_PORT_CTRL_START p.val = false) := by decide +kernel
theorem wit_LinksComeUpStageByStage_4 : let s : State := sets (at_ 1600) [(F.LAN_PORT_CTRL_START, 7, 1), (F.LAN_PORT_STATUS_STATE, 7, 5)]; let seat : Fin 4 := 0; let p : Fin 512 := 7; (s.Free (F.LAN_PORT_CTRL_START.addr p.val)) ∧ (s.ownsPort seat.val p.val = true ∧ s.on F.LAN_PORT_CTRL_START p.val = true ∧ s.portState p.val = 5) := by decide +kernel
theorem wit_LinksComeUpStageByStage_5 : let s : State := sets (at_ 1600) [(F.LAN_PORT_CTRL_START, 7, 1), (F.LAN_PORT_STATUS_STATE, 7, 2)]; let seat : Fin 4 := 0; let p : Fin 512 := 7; (s.Free (F.LAN_PORT_CTRL_START.addr p.val)) ∧ (s.ownsPort seat.val p.val = true ∧ s.on F.LAN_PORT_CTRL_START p.val = true ∧ s.portState p.val ≠ 5) := by decide +kernel
theorem wit_LinksComeUpStageByStage_6 : let s : State := sets { at_ 801600 with lan := { (at_ 1).lan with since := [(7, 1600)] } } [(F.LAN_PORT_STATUS_STATE, 7, 1), (F.LAN_GRP_STATUS_REF_OK, 0, 1), (F.LAN_GRP_STATUS_PLL_LOCK, 0, 1)]; let p : Fin 512 := 7; let seen : BitVec 8 := 1; (s.inStage p.val 1 = true ∧ s.lan.since.get p.val 0 ≤ s.now ∧ (s.now - s.lan.since.get p.val 0) % 800000 = 0) ∧ ((List.range (modeLanes (s.rd F.LAN_PORT_CFG_MODE p.val))).all (fun i => bit seen.toNat i) = true) := by decide +kernel
theorem wit_LinksComeUpStageByStage_7 : let s : State := sets (at_ 1600) [(F.LAN_PORT_STATUS_STATE, 7, 1), (F.LAN_GRP_STATUS_REF_OK, 0, 1), (F.LAN_GRP_STATUS_PLL_LOCK, 0, 1)]; let p : Fin 512 := 7; let seen : BitVec 8 := 2; (s.now < s.lan.since.get p.val 0 ∨ (s.now - s.lan.since.get p.val 0) % 800000 ≠ 0 ∨ (List.range (modeLanes (s.rd F.LAN_PORT_CFG_MODE p.val))).all (fun i => bit seen.toNat i) = false) := by decide +kernel
theorem wit_LinksComeUpStageByStage_8 : let s : State := sets (at_ 1600) [(F.LAN_PORT_STATUS_STATE, 8, 2), (F.LAN_PORT_CFG_MODE, 8, 1), (F.LAN_GRP_STATUS_REF_OK, 0, 1), (F.LAN_GRP_STATUS_PLL_LOCK, 0, 1)]; let p : Fin 512 := 8; let l : List Trained := (List.range (modeLanes 1)).map (fun i => ⟨0x01020304, true, false, 900 + i⟩); let chip : Bool := false; (s.inStage p.val 2 = true ∧ l.length = modeLanes (s.rd F.LAN_PORT_CFG_MODE p.val) ∧ chip = decide (s.rd F.LAN_PORT_CFG_REACH p.val = 2)) ∧ (chip = true → s.lan.since.get p.val 0 + 1600000 ≤ s.now) := by decide +kernel
theorem wit_LinksComeUpStageByStage_9 : let s : State := sets (at_ 1600) [(F.LAN_PORT_STATUS_STATE, 7, 3), (F.LAN_GRP_STATUS_REF_OK, 0, 1), (F.LAN_GRP_STATUS_PLL_LOCK, 0, 1), (F.LAN_LANE_FOM_VALUE, 7, 300)]; let p : Fin 512 := 7; let markers : Nat := 40; let skew : Nat := 80; let inverted : BitVec 8 := 1; (s.inStage p.val 3 = true ∧ s.lan.since.get p.val 0 ≤ s.now ∧ s.bitLock p.val = true ∧ s.rd F.LAN_LOCK_CFG_LOCK_GOOD (p.val / 32) ≤ markers ∧ skew ≤ 80) ∧ ((s.lanesOf p.val).all (fun n => s.on F.LAN_LANE_CTRL_POL_AUTO n || (bit inverted.toNat (n - p.val) == s.on F.LAN_LANE_CTRL_RX_INVERT n)) = true) := by decide +kernel
theorem wit_LinksComeUpStageByStage_10 : let s : State := sets (at_ 1600) [(F.LAN_PORT_STATUS_STATE, 7, 3), (F.LAN_GRP_STATUS_REF_OK, 0, 1), (F.LAN_GRP_STATUS_PLL_LOCK, 0, 1), (F.LAN_LANE_FOM_VALUE, 7, 300)]; let p : Fin 512 := 7; let markers : Nat := 40; let skew : Nat := 81; let inverted : BitVec 8 := 1; (s.inStage p.val 3 = true ∧ s.lan.since.get p.val 0 ≤ s.now ∧ s.bitLock p.val = true ∧ s.rd F.LAN_LOCK_CFG_LOCK_GOOD (p.val / 32) ≤ markers ∧ 80 < skew) ∧ ((s.lanesOf p.val).all (fun n => s.on F.LAN_LANE_CTRL_POL_AUTO n || (bit inverted.toNat (n - p.val) == s.on F.LAN_LANE_CTRL_RX_INVERT n)) = true) := by decide +kernel
theorem wit_LinksComeUpStageByStage_11 : let s : State := sets (at_ 1600) [(F.LAN_PORT_STATUS_STATE, 7, 3)]; let p : Fin 512 := 7; let markers : Nat := 0; (s.inStage p.val 3 = false ∨ s.bitLock p.val = false ∨ markers < s.rd F.LAN_LOCK_CFG_LOCK_GOOD (p.val / 32)) := by decide +kernel
theorem wit_LinksComeUpStageByStage_12 : let s : State := sets (at_ 2400001600) [(F.LAN_PORT_STATUS_STATE, 7, 2)]; let p : Fin 512 := 7; let n : Nat := 2400000000; (s.live = true ∧ s.stageLimit p.val (s.portState p.val) = some n ∧ s.lan.since.get p.val 0 + n ≤ s.now) := by decide +kernel
theorem wit_LinksComeUpStageByStage_13 : let s : State := sets (at_ 1600) [(F.LAN_PORT_STATUS_STATE, 7, 4)]; let p : Fin 512 := 7; (s.live = true ∧ s.portState p.val = 4) := by decide +kernel
theorem wit_LinksComeUpStageByStage_14 : let s : State := sets (at_ 160000) [(F.LAN_PORT_STATUS_STATE, 7, 4), (F.LAN_GRP_STATUS_REF_OK, 0, 1), (F.LAN_GRP_STATUS_PLL_LOCK, 0, 1)]; let p : Fin 512 := 7; (s.inStage p.val 4 = true ∧ s.lan.stable.get p.val 0 + 800 * s.rd F.LAN_TIMER1_STABLE_US (p.val / 32) ≤ s.now) := by decide +kernel
theorem wit_LinksGoDownAndRelock_1 : let s : State := sets (at_ 1600) [(F.LAN_PORT_STATUS_STATE, 7, 5), (F.LAN_PORT_CTRL_QUICK_EN, 7, 0)]; let p : Fin 512 := 7; let c : Nat := 2; let bad : Nat := 0; let fault : Nat := 900; let lost : Bool := true; let hi : Bool := false; (s.live = true ∧ s.portState p.val = 5 ∧ s.downCause p.val bad lost fault hi = some c ∧ s.on F.LAN_PORT_CTRL_QUICK_EN p.val = false) := by decide +kernel
theorem wit_LinksGoDownAndRelock_2 : let s : State := sets (at_ 1600) [(F.LAN_PORT_STATUS_STATE, 7, 5), (F.LAN_PORT_CTRL_QUICK_EN, 7, 1)]; let p : Fin 512 := 7; let c : Nat := 3; let bad : Nat := 0; let fault : Nat := 800; let lost : Bool := false; let hi : Bool := true; (s.live = true ∧ s.portState p.val = 5 ∧ s.downCause p.val bad lost fault hi = some c ∧ s.on F.LAN_PORT_CTRL_QUICK_EN p.val = true) := by decide +kernel
theorem wit_LinksGoDownAndRelock_3 : let s : State := sets { at_ 1600 with lan := { (at_ 1).lan with downAt := [(7, 1601)] } } [(F.LAN_PORT_STATUS_STATE, 7, 1), (F.LAN_PORT_STATUS_LAST_DOWN, 7, 4)]; let p : Fin 512 := 7; let c : Nat := 1; let bad : Nat := 200; let fault : Nat := 0; let lost : Bool := true; let hi : Bool := true; (s.live = true ∧ s.portState p.val ≠ 5 ∧ s.downCause p.val bad lost fault hi = some c) := by decide +kernel
theorem wit_LinksGoDownAndRelock_4 : let s : State := sets (at_ 1600) [(F.LAN_PORT_STATUS_STATE, 7, 5)]; let p : Fin 512 := 7; let bad : Nat := 0; let fault : Nat := 799; let lost : Bool := false; let hi : Bool := false; (s.downCause p.val bad lost fault hi = none) := by decide +kernel
theorem wit_LinksGoDownAndRelock_5 : let s : State := sets { at_ 800000000 with lan := { (at_ 1).lan with quick := [(7, 100)] } } [(F.LAN_PORT_STATUS_STATE, 7, 3)]; let p : Fin 512 := 7; (s.live = true ∧ s.lan.quick.get p.val 0 ≠ 0 ∧ s.lan.quick.get p.val 0 - 1 + 800 * s.rd F.LAN_TIMER1_QUICK_US (p.val / 32) ≤ s.now) := by decide +kernel
theorem wit_LinksGoDownAndRelock_6 : let s : State := sets (at_ 1600) [(F.LAN_PORT_STATUS_STATE, 7, 5), (F.LAN_PORT_CTRL_START, 7, 1)]; let seat : Fin 4 := 0; let p : Fin 512 := 7; (s.Free (F.LAN_PORT_CTRL_START.addr p.val)) ∧ (s.ownsPort seat.val p.val = true ∧ s.on F.LAN_PORT_CTRL_START p.val = true) := by decide +kernel
theorem wit_LinksGoDownAndRelock_7 : let s : State := at_ 1600; let seat : Fin 4 := 0; let p : Fin 512 := 7; (s.Free (F.LAN_PORT_CTRL_START.addr p.val)) ∧ (s.ownsPort seat.val p.val = true ∧ s.on F.LAN_PORT_CTRL_START p.val = false) := by decide +kernel
theorem wit_LinksGoDownAndRelock_8 : let s : State := sets (at_ 1600) [(F.LAN_PORT_STATUS_STATE, 37, 5), (F.LAN_PORT_STATUS_STATE, 40, 5), (F.LAN_PORT_STATUS_STATE, 41, 2), (F.LAN_GRP_STATUS_REF_OK, 1, 1), (F.LAN_GRP_STATUS_PLL_LOCK, 1, 1)]; (s.live = true) := by decide +kernel
theorem wit_LinksGoDownAndRelock_9 : let s : State := at_ 1600; (s.pins.porst = false ∧ s.pins.tripped = false) := by decide +kernel
theorem wit_LinksGoDownAndRelock_10 : let s : State := sets { at_ 800100 with lan := { (at_ 1).lan with pllSince := [(1, 100)] } } [(F.LAN_PORT_CTRL_START, 37, 1), (F.LAN_PORT_STATUS_STATE, 37, 3), (F.LAN_GRP_STATUS_REF_OK, 1, 1), (F.LAN_GRP_STATUS_PLL_LOCK, 1, 1)]; let g : Fin 16 := 1; (s.live = true ∧ s.groupOk g.val = true ∧ s.lan.pllSince.get g.val 0 ≠ 0 ∧ s.lan.pllSince.get g.val 0 - 1 + 800000 ≤ s.now) := by decide +kernel
theorem wit_LanesMeasureSnapshotAndRest_1 : let s : State := sets (at_ 800000) [(F.LAN_LANE_STATUS_SIGNAL, 7, 1)]; let n : Fin 512 := 7; let p : Nat := 7; (s.live = true ∧ s.now % 800000 = 0 ∧ s.ran.contains (1024 + n.val) = false ∧ (s.on F.LAN_LANE_STATUS_SIGNAL n.val = true ∨ s.portState p = 3)) ∧ (s.lanePort n.val = some p ∧ s.on F.LAN_PORT_STATUS_RX_EI p = false ∧ s.portState p ≠ 5) := by decide +kernel
theorem wit_LanesMeasureSnapshotAndRest_2 : let s : State := sets { at_ 800000 with lan := { (at_ 1).lan with snap := [(7, 43)], low := [(7, 9)], rolled := [7, 9] } } [(F.LAN_LANE_STATUS_SIGNAL, 7, 1), (F.LAN_PORT_STATUS_STATE, 7, 5), (F.LAN_FOM_CFG_ROLLBACK_N, 0, 10)]; let n : Fin 512 := 7; let p : Nat := 7; let w : Window := { mu0 := -300, mu1 := -105, mu2 := 95, mu3 := 300, variance := 14, rx := 5, corrected := 3 }; let take : Bool := true; (s.live = true ∧ s.now % 800000 = 0 ∧ s.ran.contains (1024 + n.val) = false ∧ s.on F.LAN_LANE_STATUS_SIGNAL n.val = true) ∧ (s.lanePort n.val = some p ∧ s.on F.LAN_PORT_STATUS_RX_EI p = false ∧ s.portState p = 5 ∧ s.rd F.LAN_FOM_CFG_FOM_MIN (n.val / 32) ≤ windowFom w) ∧ (take = decide (s.rd F.LAN_FOM_CFG_FOM_MIN (n.val / 32) + s.rd F.LAN_FOM_CFG_SNAP_MARGIN (n.val / 32) ≤ windowFom w ∧ s.lan.snapSec.get n.val 0 ≠ s.now / 800000000 + 1)) := by decide +kernel
theorem wit_LanesMeasureSnapshotAndRest_3 : let s : State := sets { at_ 800000 with lan := { (at_ 1).lan with snap := [(7, 43)], low := [(7, 9)] } } [(F.LAN_LANE_STATUS_SIGNAL, 7, 1), (F.LAN_PORT_STATUS_STATE, 7, 5), (F.LAN_FOM_CFG_ROLLBACK_N, 0, 10)]; let n : Fin 512 := 7; let p : Nat := 7; let w : Window := { mu0 := -300, mu1 := -105, mu2 := 95, mu3 := 300, variance := 1440, rx := 5, corrected := 3 }; (s.live = true ∧ s.now % 800000 = 0 ∧ s.ran.contains (1024 + n.val) = false ∧ s.on F.LAN_LANE_STATUS_SIGNAL n.val = true) ∧ (s.lanePort n.val = some p ∧ s.on F.LAN_PORT_STATUS_RX_EI p = false ∧ s.portState p = 5 ∧ s.lan.snap.get n.val 0 ≠ 0) ∧ (windowFom w < s.rd F.LAN_FOM_CFG_FOM_MIN (n.val / 32) ∧ s.rd F.LAN_FOM_CFG_ROLLBACK_N (n.val / 32) ≤ s.lan.low.get n.val 0 + 1 ∧ s.lan.rolled.contains n.val = false) := by decide +kernel
theorem wit_LanesMeasureSnapshotAndRest_4 : let s : State := sets { at_ 1600 with lan := { (at_ 1).lan with coef := [(7, 43)] } } [(F.LAN_LANE_FOM_VALUE, 7, 300)]; let seat : Fin 4 := 0; let n : Fin 512 := 7; (s.Free (F.LAN_LANE_CTRL_SNAPSHOT.addr n.val)) ∧ (s.ownsLane seat.val n.val = true) := by decide +kernel
theorem wit_LanesMeasureSnapshotAndRest_5 : let s : State := { at_ 1600 with lan := { (at_ 1).lan with snap := [(7, 43)] } }; let seat : Fin 4 := 0; let n : Fin 512 := 7; (s.Free (F.LAN_LANE_CTRL_SNAPSHOT.addr n.val)) ∧ (s.ownsLane seat.val n.val = true) := by decide +kernel
theorem wit_LanesMeasureSnapshotAndRest_6 : let s : State := sets (at_ 80000000) [(F.LAN_PORT_STATUS_STATE, 7, 5), (F.LAN_PORT_CTRL_EI_EN, 7, 1)]; let p : Fin 512 := 7; (s.live = true ∧ s.portState p.val = 5 ∧ s.lan.ei.get p.val 0 = 0 ∧ s.on F.LAN_PORT_CTRL_EI_EN p.val = true) ∧ (s.portWants p.val = false ∧ s.qsg.txs.all (fun x => x.port != p.val) = true ∧ s.lan.used.get p.val 0 + 800 * s.rd F.LAN_PORT_EI_IDLE_US p.val ≤ s.now) := by decide +kernel
theorem wit_LanesMeasureSnapshotAndRest_7 : let s : State := sets { at_ 80000000 with lan := { (at_ 1).lan with ei := [(7, 1000)] } } [(F.LAN_PORT_STATUS_STATE, 7, 5), (F.LAN_PORT_CTRL_EI_EN, 7, 1)]; let p : Fin 512 := 7; (s.live = true ∧ s.portState p.val = 5 ∧ s.lan.ei.get p.val 0 ≠ 0 ∧ s.lan.ei.get p.val 0 - 1 + 800 ≤ s.now) := by decide +kernel
theorem wit_LanesMeasureSnapshotAndRest_8 : let s : State := sets { at_ 80000000 with lan := { (at_ 1).lan with ei := [(7, 1000)] }, qsg := { (at_ 1).qsg with queue := [{ frame := wf, egr := 7, queue := 1, cells := 1, buf := some 3 }] } } [(F.LAN_PORT_STATUS_STATE, 7, 5), (F.LAN_PORT_CTRL_EI_EN, 7, 1), (F.LAN_PORT_STATUS_TX_EI, 7, 1)]; let p : Fin 512 := 7; let var : Nat := 10; (s.live = true ∧ s.resting p.val = true ∧ (s.portCalled p.val = true ∨ s.portEligible p.val var = true)) := by decide +kernel
theorem wit_LanesMeasureSnapshotAndRest_9 : let s : State := sets (at_ 1600) [(F.LAN_PORT_STATUS_STATE, 7, 5), (F.LAN_LANE_STATUS_SIGNAL, 7, 1)]; let p : Fin 512 := 7; (s.live = true ∧ s.portState p.val = 5) := by decide +kernel
theorem wit_LanesMeasureSnapshotAndRest_10 : let s : State := sets (at_ 1600) [(F.LAN_PORT_STATUS_STATE, 7, 5), (F.LAN_PORT_STATUS_RX_EI, 7, 1)]; let p : Fin 512 := 7; (s.live = true ∧ s.portState p.val = 5 ∧ s.on F.LAN_PORT_STATUS_RX_EI p.val = true) := by decide +kernel
theorem wit_LanesMeasureSnapshotAndRest_11 : let s : State := sets (at_ 1600) [(F.LAN_PORT_STATUS_STATE, 7, 5), (F.LAN_PORT_STATUS_RX_EI, 7, 1)]; let p : Fin 512 := 7; (s.live = true ∧ s.portState p.val = 5 ∧ s.on F.LAN_PORT_STATUS_RX_EI p.val = true) := by decide +kernel

/-! ### The management port and the Check Engines -/

theorem wit_ManagementPortLinksAndBacksOff_1 : let s : State := sets (at_ 1600) [(F.MAC_MGMT_CFG_EN, 0, 1), (F.MAC_MGMT_CFG_AUTO, 0, 1)]; let speed : Fin 3 := 1; let duplex : Bool := false; let sp : Nat := 1; let du : Nat := 0; (s.live = true ∧ s.on F.MAC_MGMT_CFG_EN = true ∧ ¬ (sp = 2 ∧ du = 0)) ∧ (sp = (if s.on F.MAC_MGMT_CFG_AUTO then speed.val else s.rd F.MAC_MGMT_CFG_SPEED) ∧ du = (if s.on F.MAC_MGMT_CFG_AUTO then b2n duplex else s.rd F.MAC_MGMT_CFG_DUPLEX)) := by decide +kernel
theorem wit_ManagementPortLinksAndBacksOff_2 : let s : State := sets (at_ 1600) [(F.MAC_MGMT_CFG_EN, 0, 1), (F.MAC_MGMT_CFG_AUTO, 0, 0), (F.MAC_MGMT_CFG_SPEED, 0, 2), (F.MAC_MGMT_CFG_DUPLEX, 0, 0)]; let speed : Fin 3 := 1; let duplex : Bool := true; let sp : Nat := 2; let du : Nat := 0; (s.live = true ∧ s.on F.MAC_MGMT_CFG_EN = true ∧ s.on F.MAC_MGMT_STATUS_LINK = false ∧ sp = 2 ∧ du = 0) ∧ (sp = (if s.on F.MAC_MGMT_CFG_AUTO then speed.val else s.rd F.MAC_MGMT_CFG_SPEED) ∧ du = (if s.on F.MAC_MGMT_CFG_AUTO then b2n duplex else s.rd F.MAC_MGMT_CFG_DUPLEX)) := by decide +kernel
theorem wit_ManagementPortLinksAndBacksOff_3 : let s : State := sets { at_ 1600 with qsg := { (at_ 1).qsg with queue := [{ frame := wf, egr := 517, queue := 1 }] } } [(F.MAC_MGMT_CFG_EN, 0, 1), (F.MAC_MGMT_STATUS_LINK, 0, 1)]; (s.live = true ∧ s.on F.MAC_MGMT_STATUS_LINK = true) := by decide +kernel
theorem wit_ManagementPortLinksAndBacksOff_4 : let s : State := at_ 1600; let link : Bool := true; (s.live = true ∧ s.on F.MAC_MGMT_STATUS_LINK = false ∧ (s.on F.MAC_MGMT_CFG_EN = false ∨ link = false)) := by decide +kernel
theorem wit_ManagementPortLinksAndBacksOff_5 : let s : State := sets { at_ 1600 with qsg := { (at_ 1).qsg with txs := [{ port := 517, copy := some { frame := wf, egr := 517, queue := 1 }, out := [], start := 1500, ball := 1510, txTicks := 600, gapTicks := 8, raw := 15000, endReason := 0, skip := false }] }, csma := { (at_ 1).csma with collisions := 2 } } [(F.MAC_MGMT_STATUS_LINK, 0, 1), (F.MAC_MGMT_STATUS_DUPLEX, 0, 0)]; let x : Tx := { port := 517, copy := some { frame := wf, egr := 517, queue := 1 }, out := [], start := 1500, ball := 1510, txTicks := 600, gapTicks := 8, raw := 15000, endReason := 0, skip := false }; let c : Copy := { frame := wf, egr := 517, queue := 1 }; (s.live = true ∧ s.portUp 517 = true ∧ s.halfDuplex = true) ∧ (s.qsg.txs.find? (fun t => t.port == 517) = some x ∧ x.copy = some c) ∧ (s.now ≤ x.ball + 512 * s.bitTicks ∧ s.csma.collisions ≠ 15) := by decide +kernel
theorem wit_ManagementPortLinksAndBacksOff_6 : let s : State := sets { at_ 1600 with qsg := { (at_ 1).qsg with txs := [{ port := 517, copy := some { frame := wf, egr := 517, queue := 1 }, out := [], start := 1500, ball := 1510, txTicks := 600, gapTicks := 8, raw := 15000, endReason := 0, skip := false }] }, csma := { (at_ 1).csma with collisions := 15 } } [(F.MAC_MGMT_STATUS_LINK, 0, 1), (F.MAC_MGMT_STATUS_DUPLEX, 0, 0)]; let x : Tx := { port := 517, copy := some { frame := wf, egr := 517, queue := 1 }, out := [], start := 1500, ball := 1510, txTicks := 600, gapTicks := 8, raw := 15000, endReason := 0, skip := false }; let c : Copy := { frame := wf, egr := 517, queue := 1 }; (s.live = true ∧ s.portUp 517 = true ∧ s.halfDuplex = true) ∧ (s.qsg.txs.find? (fun t => t.port == 517) = some x ∧ x.copy = some c) ∧ (s.now ≤ x.ball + 512 * s.bitTicks → s.csma.collisions = 15) := by decide +kernel
theorem wit_ManagementPortLinksAndBacksOff_7 : let s : State := { at_ 1600 with csma := { (at_ 1).csma with backoff := some 1600 } }; let u : Nat := 1600; (s.live = true ∧ s.csma.backoff = some u ∧ u ≤ s.now) := by decide +kernel
theorem wit_ManagementPortLinksAndBacksOff_8 : let s : State := at_ 1600; (s.Free (F.MAC_MDIO_CTRL_GO.addr 0) ∧ s.on F.MAC_MDIO_CTRL_BUSY = false) := by decide +kernel
theorem wit_ManagementPortLinksAndBacksOff_9 : let s : State := sets (at_ 1600) [(F.MAC_MDIO_CTRL_BUSY, 0, 1)]; (s.Free (F.MAC_MDIO_CTRL_GO.addr 0) ∧ s.on F.MAC_MDIO_CTRL_BUSY = true) := by decide +kernel
theorem wit_ManagementPortLinksAndBacksOff_10 : let s : State := sets (at_ 1600) [(F.MAC_MDIO_CTRL_BUSY, 0, 1)]; (s.live = true ∧ s.on F.MAC_MDIO_CTRL_BUSY = true ∧ s.on F.MAC_MDIO_CTRL_OP = false) := by decide +kernel
theorem wit_ManagementPortLinksAndBacksOff_11 : let s : State := sets (at_ 1600) [(F.MAC_MDIO_CTRL_BUSY, 0, 1), (F.MAC_MDIO_CTRL_OP, 0, 1)]; (s.live = true ∧ s.on F.MAC_MDIO_CTRL_BUSY = true ∧ s.on F.MAC_MDIO_CTRL_OP = true) := by decide +kernel
theorem wit_CheckEnginesRunFlows_1 : let s : State := sets (at_ 1600) [(F.CHK_OWNER_SEAT, 5, 2), (F.CHK_OWNER_DRAFEN, 5, 0), (F.CHK_LEN_BYTES, 5, 9), (F.CHK_VALUE_LO_VALUE, 5, 77)]; let seat : Fin 4 := 2; let e : Fin 16 := 5; let ctrl : BitVec 6 := 0x20; (s.Free (F.CHK_CTRL_START.addr e.val) ∧ s.ownsEngine seat.val e.val = true ∧ s.on F.CHK_STATUS_ACTIVE e.val = false) ∧ ((bits ctrl.toNat 3 2 = 0 ∨ bits ctrl.toNat 3 2 = 3) ∧ s.rd F.CHK_LEN_BYTES e.val ≠ 0) := by decide +kernel
theorem wit_CheckEnginesRunFlows_2 : let s : State := sets (at_ 1600) [(F.CHK_OWNER_SEAT, 5, 2), (F.CHK_OWNER_DRAFEN, 5, 0), (F.CHK_LEN_BYTES, 5, 9)]; let seat : Fin 4 := 2; let e : Fin 16 := 5; let ctrl : BitVec 6 := 0x04; let x : CtlBuf := ⟨0, 0, 21, false⟩; (s.Free (F.CHK_CTRL_START.addr e.val) ∧ s.ownsEngine seat.val e.val = true ∧ s.on F.CHK_STATUS_ACTIVE e.val = false ∧ s.flow e.val = none) ∧ ((bits ctrl.toNat 3 2 = 1 ∧ s.rd F.CHK_LEN_BYTES e.val ≠ 0) ∨ (bits ctrl.toNat 3 2 = 2 ∧ crcBytes (bits ctrl.toNat 1 0) < s.rd F.CHK_LEN_BYTES e.val)) ∧ ((s.ctlAlloc (s.rd F.CHK_LEN_BYTES e.val + 8) (16 + e.val)).2 = some x) := by decide +kernel
theorem wit_CheckEnginesRunFlows_3 : let s : State := sets (at_ 1600) [(F.CHK_OWNER_SEAT, 5, 2), (F.CHK_OWNER_DRAFEN, 5, 0), (F.CHK_LEN_BYTES, 5, 4096)]; let seat : Fin 4 := 2; let e : Fin 16 := 5; let ctrl : BitVec 6 := 0x04; (s.Free (F.CHK_CTRL_START.addr e.val) ∧ s.ownsEngine seat.val e.val = true ∧ s.on F.CHK_STATUS_ACTIVE e.val = false ∧ s.flow e.val = none) ∧ ((bits ctrl.toNat 3 2 = 1 ∧ s.rd F.CHK_LEN_BYTES e.val ≠ 0) ∨ (bits ctrl.toNat 3 2 = 2 ∧ crcBytes (bits ctrl.toNat 1 0) < s.rd F.CHK_LEN_BYTES e.val)) ∧ ((s.ctlAlloc (s.rd F.CHK_LEN_BYTES e.val + 8) (16 + e.val)).2 = none) := by decide +kernel
theorem wit_CheckEnginesRunFlows_4 : let s : State := at_ 1600; let seat : Fin 4 := 2; let e : Fin 16 := 1; (s.Free (F.CHK_CTRL_START.addr e.val) ∧ (s.on F.CHK_OWNER_DRAFEN e.val = true ∨ s.rd F.CHK_OWNER_SEAT e.val ≠ seat.val)) := by decide +kernel
theorem wit_CheckEnginesRunFlows_5 : let s : State := sets { at_ 1600 with chk := [⟨5, 0xFFFFFFFF, [], [], none⟩] } [(F.CHK_LEN_BYTES, 5, 9), (F.CHK_STATUS_WAIT_BUF, 5, 1)]; let e : Fin 16 := 5; let f : Flow := ⟨5, 0xFFFFFFFF, [], [], none⟩; let x : CtlBuf := ⟨0, 0, 21, false⟩; (s.live = true ∧ s.on F.CHK_STATUS_WAIT_BUF e.val = true ∧ s.flow e.val = some f ∧ f.engine = e.val) ∧ ((s.ctlAlloc (s.rd F.CHK_LEN_BYTES e.val + 8) (16 + e.val)).2 = some x) := by decide +kernel
theorem wit_CheckEnginesRunFlows_6 : let s : State := sets { at_ 1600 with chk := [⟨5, 0xFFFFFFFF, [], [], none⟩] } [(F.CHK_LEN_BYTES, 5, 5000), (F.CHK_STATUS_WAIT_BUF, 5, 1)]; let e : Fin 16 := 5; let f : Flow := ⟨5, 0xFFFFFFFF, [], [], none⟩; (s.live = true ∧ s.on F.CHK_STATUS_WAIT_BUF e.val = true ∧ s.flow e.val = some f) ∧ ((s.ctlAlloc (s.rd F.CHK_LEN_BYTES e.val + 8) (16 + e.val)).2 = none) := by decide +kernel
theorem wit_CheckEnginesRunFlows_7 : let s : State := sets { at_ 1600 with chk := [⟨5, 0xFFFFFFFF, [], [], none⟩] } [(F.CHK_OWNER_SEAT, 5, 2), (F.CHK_OWNER_DRAFEN, 5, 0), (F.CHK_LEN_BYTES, 5, 9), (F.CHK_STATUS_ACTIVE, 5, 1), (F.CHK_VALUE_LO_VALUE, 5, 0xFFFFFFFF)]; let seat : Fin 4 := 2; let e : Fin 16 := 5; let f : Flow := ⟨5, 0xFFFFFFFF, [], [], none⟩; (s.Free (F.CHK_DATA_WORD.addr e.val) ∧ s.ownsEngine seat.val e.val = true ∧ s.on F.CHK_STATUS_ACTIVE e.val = true ∧ s.on F.CHK_STATUS_WAIT_BUF e.val = false) ∧ (s.flow e.val = some f ∧ f.engine = e.val ∧ f.input.length + 4 < s.rd F.CHK_LEN_BYTES e.val) := by decide +kernel
theorem wit_CheckEnginesRunFlows_8 : let s : State := sets { at_ 1600 with chk := [⟨5, 0xFFFFFFFF, [], [0x35], none⟩] } [(F.CHK_OWNER_SEAT, 5, 2), (F.CHK_OWNER_DRAFEN, 5, 0), (F.CHK_LEN_BYTES, 5, 2), (F.CHK_STATUS_ACTIVE, 5, 1), (F.CHK_VALUE_LO_VALUE, 5, 0xFFFFFFFF)]; let seat : Fin 4 := 2; let e : Fin 16 := 5; let f : Flow := ⟨5, 0xFFFFFFFF, [], [0x35], none⟩; (s.Free (F.CHK_DATA_WORD.addr e.val) ∧ s.ownsEngine seat.val e.val = true ∧ s.on F.CHK_STATUS_ACTIVE e.val = true ∧ s.on F.CHK_STATUS_WAIT_BUF e.val = false) ∧ (s.flow e.val = some f ∧ f.engine = e.val ∧ f.input.length < s.rd F.CHK_LEN_BYTES e.val ∧ s.rd F.CHK_LEN_BYTES e.val ≤ f.input.length + 4 ∧
    s.rd F.CHK_CTRL_MODE e.val = 0) := by decide +kernel
theorem wit_CheckEnginesRunFlows_9 : let s : State := sets { at_ 1600 with chk := [⟨5, 0xFFFFFFFF, [0x35], [], some ⟨0, 3, 21, false⟩⟩] } [(F.CHK_OWNER_SEAT, 5, 2), (F.CHK_OWNER_DRAFEN, 5, 0), (F.CHK_CTRL_MODE, 5, 1), (F.CHK_LEN_BYTES, 5, 3), (F.CHK_STATUS_ACTIVE, 5, 1), (F.CHK_VALUE_LO_VALUE, 5, 0xFFFFFFFF)]; let seat : Fin 4 := 2; let e : Fin 16 := 5; let f : Flow := ⟨5, 0xFFFFFFFF, [0x35], [], some ⟨0, 3, 21, false⟩⟩; (s.Free (F.CHK_DATA_WORD.addr e.val) ∧ s.ownsEngine seat.val e.val = true ∧ s.on F.CHK_STATUS_ACTIVE e.val = true ∧ s.on F.CHK_STATUS_WAIT_BUF e.val = false) ∧ (s.flow e.val = some f ∧ f.engine = e.val ∧ f.input.length < s.rd F.CHK_LEN_BYTES e.val ∧ s.rd F.CHK_LEN_BYTES e.val ≤ f.input.length + 4 ∧
    (s.rd F.CHK_CTRL_MODE e.val = 1 ∨ s.rd F.CHK_CTRL_MODE e.val = 3)) := by decide +kernel
theorem wit_CheckEnginesRunFlows_10 : let s : State := sets { at_ 1600 with chk := [⟨5, 0xFFFFFFFF, [0x31, 0x32], [], some ⟨0, 3, 21, false⟩⟩] } [(F.CHK_OWNER_SEAT, 5, 2), (F.CHK_OWNER_DRAFEN, 5, 0), (F.CHK_CTRL_MODE, 5, 2), (F.CHK_LEN_BYTES, 5, 6), (F.CHK_STATUS_ACTIVE, 5, 1), (F.CHK_VALUE_LO_VALUE, 5, 0xFFFFFFFF)]; let seat : Fin 4 := 2; let e : Fin 16 := 5; let f : Flow := ⟨5, 0xFFFFFFFF, [0x31, 0x32], [], some ⟨0, 3, 21, false⟩⟩; (s.Free (F.CHK_DATA_WORD.addr e.val) ∧ s.ownsEngine seat.val e.val = true ∧ s.on F.CHK_STATUS_ACTIVE e.val = true ∧ s.on F.CHK_STATUS_WAIT_BUF e.val = false) ∧ (s.flow e.val = some f ∧ f.engine = e.val ∧ f.input.length < s.rd F.CHK_LEN_BYTES e.val ∧ s.rd F.CHK_LEN_BYTES e.val ≤ f.input.length + 4 ∧ s.rd F.CHK_CTRL_MODE e.val = 2) := by decide +kernel
theorem wit_CheckEnginesRunFlows_11 : let s : State := sets { at_ 1600 with chk := [⟨5, 0xFFFFFFFF, [], [0x35], some ⟨0, 3, 21, false⟩⟩], buf := { (at_ 1).buf with ctl := [⟨0, 3, 21, false⟩] } } [(F.CHK_OWNER_SEAT, 5, 2), (F.CHK_OWNER_DRAFEN, 5, 0), (F.CHK_STATUS_ACTIVE, 5, 1)]; let seat : Fin 4 := 2; let e : Fin 16 := 5; let f : Flow := ⟨5, 0xFFFFFFFF, [], [0x35], some ⟨0, 3, 21, false⟩⟩; let x : CtlBuf := ⟨0, 3, 21, false⟩; (s.Free (F.CHK_CTRL_ABORT.addr e.val) ∧ s.ownsEngine seat.val e.val = true ∧ s.flow e.val = some f ∧ f.buf = some x) ∧ (s.buf.ctl.find? (fun b => b.pool == x.pool && b.place == x.place) = some x ∧ x.owner = 16 + e.val) := by decide +kernel
theorem wit_CheckEnginesRunFlows_12 : let s : State := sets { at_ 1600 with chk := [⟨5, 0xFFFFFFFF, [1], [], none⟩] } [(F.CHK_OWNER_SEAT, 5, 2), (F.CHK_OWNER_DRAFEN, 5, 0), (F.CHK_STATUS_ACTIVE, 5, 1)]; let seat : Fin 4 := 2; let e : Fin 16 := 5; (s.Free (F.CHK_CTRL_ABORT.addr e.val) ∧ s.ownsEngine seat.val e.val = true ∧ (s.flow e.val).all (fun f => f.buf.isNone) = true) := by decide +kernel
theorem wit_CheckEnginesRunFlows_13 : let s : State := { at_ 1600 with chk := [⟨5, 0, [], [1, 2, 3, 4, 5], some ⟨0, 3, 21, false⟩⟩] }; let e : Fin 16 := 5; let f : Flow := ⟨5, 0, [], [1, 2, 3, 4, 5], some ⟨0, 3, 21, false⟩⟩; (s.live = true ∧ s.on F.CHK_STATUS_ACTIVE e.val = false ∧ s.flow e.val = some f ∧ f.engine = e.val ∧ 4 < f.out.length ∧ f.out.length ≤ 4104) := by decide +kernel
theorem wit_CheckEnginesRunFlows_14 : let s : State := { at_ 1600 with chk := [⟨5, 0, [], [5], some ⟨0, 3, 21, false⟩⟩], buf := { (at_ 1).buf with ctl := [⟨0, 3, 21, false⟩] } }; let e : Fin 16 := 5; let f : Flow := ⟨5, 0, [], [5], some ⟨0, 3, 21, false⟩⟩; let x : CtlBuf := ⟨0, 3, 21, false⟩; (s.live = true ∧ s.on F.CHK_STATUS_ACTIVE e.val = false ∧ s.flow e.val = some f ∧ f.buf = some x ∧ 0 < f.out.length ∧ f.out.length ≤ 4) ∧ (s.buf.ctl.find? (fun b => b.pool == x.pool && b.place == x.place) = some x ∧ x.owner = 16 + e.val) := by decide +kernel
theorem wit_CheckEnginesRunFlows_15 : let s : State := { at_ 1600 with chk := [⟨5, 0, [3], [], none⟩] }; let e : Fin 16 := 5; (s.live = true ∧ (s.on F.CHK_STATUS_ACTIVE e.val = true ∨ (s.flow e.val).all (fun f => f.out.isEmpty) = true)) := by decide +kernel

/-! ### The Drafen command processor -/

theorem wit_MicrowordsComputeAndBranch_1 : let s : State := wdr 100 (2 ^ 21 + 33 * 2 ^ 8 + 8) (9 * 2 ^ 128 + 2 ^ 122 + 2 * 2 ^ 116 + 2 ^ 109 + 3 * 2 ^ 103 + 2 ^ 102); let k : Nat := 0; let mw : Nat := 2 ^ 21 + 33 * 2 ^ 8 + 8; let nw : Nat := 9 * 2 ^ 128 + 2 ^ 122 + 2 * 2 ^ 116 + 2 ^ 109 + 3 * 2 ^ 103 + 2 ^ 102; let v : Nat := 14; let r : Routine := wrout; (s.ready = true ∧ s.activeCore = some k ∧ k < s.drafen.cores.length ∧ s.drafen.bus = none ∧ s.drafen.routine = some r ∧ r.replay = none) ∧ ((s.core k).micro.get (s.core k).pc 0 = mw ∧ (s.core k).nano.get (mwNano mw) 0 = nw) ∧ (mwSeq mw = 0 ∧ mwCond mw ≤ 1 ∧ mwCommit mw = false ∧ nwBusOp nw = 0 ∧ nwFlagsEn nw = false ∧ nwLoopLd nw = false ∧ nwDstEn nw = true) ∧ (nwAlu nw ≠ 9 ∧ nwAlu nw ≠ 63 ∧
    aluResult (nwAlu nw) ((s.core k).g.get (nwSrcA nw) 0) (if nwBImm nw = true then nwImm nw else (s.core k).g.get (nwSrcB nw) 0) = some v) := by decide +kernel
theorem wit_MicrowordsComputeAndBranch_2 : let s : State := wdr 100 (2 ^ 21 + 33 * 2 ^ 8) (5 * 2 ^ 128 + 9 * 2 ^ 122 + 2 * 2 ^ 116 + 2 ^ 109 + 3 * 2 ^ 103 + 2 ^ 102 + 2 ^ 101); let k : Nat := 0; let mw : Nat := 2 ^ 21 + 33 * 2 ^ 8; let nw : Nat := 5 * 2 ^ 128 + 9 * 2 ^ 122 + 2 * 2 ^ 116 + 2 ^ 109 + 3 * 2 ^ 103 + 2 ^ 102 + 2 ^ 101; let r : Routine := wrout; (s.ready = true ∧ s.activeCore = some k ∧ k < s.drafen.cores.length ∧ s.drafen.bus = none ∧ s.drafen.routine = some r ∧ r.replay = none) ∧ ((s.core k).micro.get (s.core k).pc 0 = mw ∧ (s.core k).nano.get (mwNano mw) 0 = nw) ∧ (mwSeq mw = 0 ∧ mwCond mw = 0 ∧ mwCommit mw = false ∧ nwBusOp nw = 0 ∧ nwFlagsEn nw = true ∧ nwLoopLd nw = false ∧ nwAlu nw = 9) := by decide +kernel
theorem wit_MicrowordsComputeAndBranch_3 : let s : State := wdr 100 (2 ^ 21 + 33 * 2 ^ 8 + 3 * 8) (63 * 2 ^ 122); let k : Nat := 0; let mw : Nat := 2 ^ 21 + 33 * 2 ^ 8 + 3 * 8; let nw : Nat := 63 * 2 ^ 122; let c : Bool := true; let r : Routine := wrout; (s.ready = true ∧ s.activeCore = some k ∧ k < s.drafen.cores.length ∧ s.drafen.bus = none ∧ s.drafen.routine = some r ∧ r.replay = none) ∧ ((s.core k).micro.get (s.core k).pc 0 = mw ∧ (s.core k).nano.get (mwNano mw) 0 = nw) ∧ (mwSeq mw = 0 ∧ mwCommit mw = false ∧ nwBusOp nw = 0 ∧ nwAlu nw = 63 ∧ nwLoopLd nw = false) ∧ ((mwCond mw = 2 ∧ c = (s.core k).z) ∨ (mwCond mw = 3 ∧ c = !(s.core k).z) ∨ (mwCond mw = 4 ∧ c = (s.core k).c) ∨ (mwCond mw = 5 ∧ c = !(s.core k).c) ∨ (mwCond mw = 6 ∧ c = (s.core k).n)) := by decide +kernel
theorem wit_MicrowordsComputeAndBranch_4 : let s : State := wdr 100 (2 ^ 21 + 33 * 2 ^ 8) (63 * 2 ^ 122 + 1 * 2 ^ 88 + 2 * 2 ^ 82 + 7 * 2 ^ 70 + 2 ^ 64); let k : Nat := 0; let mw : Nat := 2 ^ 21 + 33 * 2 ^ 8; let nw : Nat := 63 * 2 ^ 122 + 1 * 2 ^ 88 + 2 * 2 ^ 82 + 7 * 2 ^ 70 + 2 ^ 64; let r : Routine := wrout; (s.ready = true ∧ s.activeCore = some k ∧ k < s.drafen.cores.length ∧ s.drafen.bus = none ∧ s.drafen.routine = some r ∧ r.replay = none) ∧ ((s.core k).micro.get (s.core k).pc 0 = mw ∧ (s.core k).nano.get (mwNano mw) 0 = nw) ∧ (mwCommit mw = false ∧ nwAlu nw = 63 ∧ nwLoopLd nw = false ∧ nwWait nw = true) ∧ (nwBusOp nw = 1 ∨ nwBusOp nw = 3 ∨ nwBusOp nw = 5 ∨ nwBusOp nw = 12) := by decide +kernel
theorem wit_MicrowordsComputeAndBranch_5 : let s : State := wdr 100 (2 ^ 21 + 33 * 2 ^ 8) (0xFFFF * 2 ^ 128 + 63 * 2 ^ 122 + 2 * 2 ^ 88 + 2 * 2 ^ 82 + 2 * 2 ^ 76); let k : Nat := 0; let mw : Nat := 2 ^ 21 + 33 * 2 ^ 8; let nw : Nat := 0xFFFF * 2 ^ 128 + 63 * 2 ^ 122 + 2 * 2 ^ 88 + 2 * 2 ^ 82 + 2 * 2 ^ 76; let r : Routine := wrout; (s.ready = true ∧ s.activeCore = some k ∧ k < s.drafen.cores.length ∧ s.drafen.bus = none ∧ s.drafen.routine = some r ∧ r.replay = none ∧ r.past = false) ∧ ((s.core k).micro.get (s.core k).pc 0 = mw ∧ (s.core k).nano.get (mwNano mw) 0 = nw ∧ r.effects.length < 256) ∧ (mwSeq mw = 0 ∧ mwCond mw = 0 ∧ mwCommit mw = false ∧ nwAlu nw = 63 ∧ nwLoopLd nw = false ∧ nwBusOp nw = 2) := by decide +kernel
theorem wit_MicrowordsComputeAndBranch_6 : let s : State := wdr 100 (2 ^ 21 + 33 * 2 ^ 8 + 1) (63 * 2 ^ 122 + 500 * 2 ^ 34); let k : Nat := 0; let mw : Nat := 2 ^ 21 + 33 * 2 ^ 8 + 1; let nw : Nat := 63 * 2 ^ 122 + 500 * 2 ^ 34; let r : Routine := wrout; (s.ready = true ∧ s.activeCore = some k ∧ k < s.drafen.cores.length ∧ s.drafen.bus = none ∧ s.drafen.routine = some r ∧ r.replay = none) ∧ ((s.core k).micro.get (s.core k).pc 0 = mw ∧ (s.core k).nano.get (mwNano mw) 0 = nw) ∧ (mwSeq mw = 1 ∧ mwCond mw = 0 ∧ mwCommit mw = false ∧ nwBusOp nw = 0 ∧ nwAlu nw = 63 ∧ nwLoopLd nw = false ∧ (s.core k).stack.length < 8) := by decide +kernel
theorem wit_MicrowordsComputeAndBranch_7 : let s : State := { wdr 100 1 1 with drafen := { cores := [{ micro := [(0, 2 ^ 21 + 33 * 2 ^ 8 + 8 + 2)], nano := [(1, 63 * 2 ^ 122)], stack := [77, 5] }, {}], routine := some wrout } }; let k : Nat := 0; let mw : Nat := 2 ^ 21 + 33 * 2 ^ 8 + 8 + 2; let nw : Nat := 63 * 2 ^ 122; let top : Nat := 77; let rest : List Nat := [5]; let r : Routine := wrout; (s.ready = true ∧ s.activeCore = some k ∧ k < s.drafen.cores.length ∧ s.drafen.bus = none ∧ s.drafen.routine = some r ∧ r.replay = none) ∧ ((s.core k).micro.get (s.core k).pc 0 = mw ∧ (s.core k).nano.get (mwNano mw) 0 = nw) ∧ (mwSeq mw = 2 ∧ mwCond mw = 1 ∧ mwCommit mw = false ∧ nwBusOp nw = 0 ∧ nwAlu nw = 63 ∧ nwLoopLd nw = false ∧ (s.core k).stack = top :: rest) := by decide +kernel
theorem wit_MicrowordsComputeAndBranch_8 : let s : State := { rdy 100 with drafen := { bus := some (1, 5, 2, true), routine := some wrout } }; let k : Nat := 0; let op : Nat := 1; let a : Nat := 5; let dst : Nat := 2; let r : Routine := wrout; (s.ready = true ∧ s.activeCore = some k ∧ s.drafen.bus = some (op, a, dst, true) ∧ s.drafen.routine = some r) := by decide +kernel
theorem wit_MicrowordsComputeAndBranch_9 : let s : State := wdr 100 (2 ^ 21 + 33 * 2 ^ 8 + 4) (63 * 2 ^ 122); let k : Nat := 0; let mw : Nat := 2 ^ 21 + 33 * 2 ^ 8 + 4; let nw : Nat := 63 * 2 ^ 122; let r : Routine := wrout; (s.ready = true ∧ s.activeCore = some k ∧ k < s.drafen.cores.length ∧ s.drafen.bus = none ∧ s.drafen.routine = some r ∧ r.replay = none ∧ r.past = false) ∧ ((s.core k).micro.get (s.core k).pc 0 = mw ∧ (s.core k).nano.get (mwNano mw) 0 = nw) ∧ (mwSeq mw = 0 ∧ mwCond mw = 0 ∧ mwCommit mw = true ∧ nwBusOp nw = 0 ∧ nwAlu nw = 63 ∧ nwLoopLd nw = false) := by decide +kernel
theorem wit_MicrowordsComputeAndBranch_10 : let s : State := wdr 100 (2 ^ 21 + 33 * 2 ^ 8 + 4) (20 * 2 ^ 122); let k : Nat := 0; let mw : Nat := 2 ^ 21 + 33 * 2 ^ 8 + 4; let nw : Nat := 20 * 2 ^ 122; let r : Routine := wrout; (s.ready = true ∧ s.activeCore = some k ∧ k < s.drafen.cores.length ∧ s.drafen.bus = none ∧ s.drafen.routine = some r) ∧ (r.past = false ∧ r.ucodeFaults = 0) ∧ ((s.core k).micro.get (s.core k).pc 0 = mw ∧ (s.core k).nano.get (mwNano mw) 0 = nw) ∧ (14 ≤ nwAlu nw ∧ nwAlu nw ≤ 62) := by decide +kernel
theorem wit_RoutinesRunByLevelAndEffectsApply_1 : let s : State := { rdy 100 with drafen := { requests := [⟨2, 3, none⟩] } }; let k : Nat := 0; let q : Request := ⟨1, 3, none⟩; let asks : Option (Fin 3) := some 1; let u : State := s.askDrafen 1; (s.ready = true ∧ s.activeCore = some k ∧ k < s.drafen.cores.length ∧ s.drafen.routine = none) ∧ (u = (match asks with | some l => s.askDrafen l.val | none => s)) ∧ (u.nextRequest = some q) := by decide +kernel
theorem wit_RoutinesRunByLevelAndEffectsApply_2 : let s : State := { rdy 100 with drafen := { requests := [⟨1, 3, none⟩], routine := some wrout } }; let k : Nat := 0; let q : Request := ⟨1, 3, none⟩; let r : Routine := wrout; let asks : Option (Fin 3) := none; let u : State := s; (s.ready = true ∧ s.activeCore = some k ∧ k < s.drafen.cores.length ∧ s.drafen.routine = some r) ∧ (u = (match asks with | some l => s.askDrafen l.val | none => s)) ∧ (u.nextRequest = some q) ∧ (q.level < r.req.level ∧ r.past = false ∧ (r.abandons < 4 ∨ q.level = 0)) := by decide +kernel
theorem wit_RoutinesRunByLevelAndEffectsApply_3 : let s : State := { rdy 100 with drafen := { requests := [⟨1, 3, none⟩], routine := some { wrout with past := true } } }; let r : Routine := { wrout with past := true }; let asks : Option (Fin 3) := some 2; let u : State := s.askDrafen 2; (s.ready = true ∧ s.drafen.routine = some r) ∧ (u = (match asks with | some l => s.askDrafen l.val | none => s)) ∧ (r.past = true ∨ u.nextRequest.all (fun q => decide (r.req.level ≤ q.level) || (decide (4 ≤ r.abandons) && q.level != 0)) = true) := by decide +kernel
theorem wit_RoutinesRunByLevelAndEffectsApply_4 : let s : State := { rdy 100 with drafen := { routine := some { wrout with cycles := 64000 } } }; let k : Nat := 0; let r : Routine := { wrout with cycles := 64000 }; (s.ready = true ∧ s.activeCore = some k ∧ k < s.drafen.cores.length ∧ s.drafen.routine = some r ∧ 64000 ≤ r.cycles) ∧ (r.past = false ∧ r.ucodeFaults = 0) := by decide +kernel
theorem wit_RoutinesRunByLevelAndEffectsApply_5 : let s : State := { rdy 100 with cmd := { (rdy 1).cmd with flights := [⟨wpk 0x01 0x10000 0 [], .window, 3, false⟩] }, drafen := { routine := some { wrout with cycles := 64000, ucodeFaults := 1 } } }; let k : Nat := 0; let r : Routine := { wrout with cycles := 64000, ucodeFaults := 1 }; (s.ready = true ∧ s.activeCore = some k ∧ k < s.drafen.cores.length ∧ s.drafen.routine = some r ∧ 64000 ≤ r.cycles) ∧ (r.past = false ∧ r.ucodeFaults ≠ 0 ∧ r.allocs = []) := by decide +kernel
theorem wit_RoutinesRunByLevelAndEffectsApply_6 : let s : State := { rdy 100 with drafen := { routine := some { wrout with cycles := 64000, past := true } } }; let k : Nat := 0; let r : Routine := { wrout with cycles := 64000, past := true }; (s.ready = true ∧ s.activeCore = some k ∧ k < s.drafen.cores.length ∧ s.drafen.routine = some r ∧ 64000 ≤ r.cycles ∧ r.past = true) := by decide +kernel
theorem wit_RoutinesRunByLevelAndEffectsApply_7 : let s : State := { rdy 100 with drafen := { routine := some { wrout with cycles := 63999 } } }; (s.drafen.routine.all (fun r => decide (r.cycles < 64000)) = true) := by decide +kernel
theorem wit_RoutinesRunByLevelAndEffectsApply_8 : let s : State := { rdy 100 with drafen := { released := [(.regWrite (F.TIM_STEP_NS_VALUE.addr 0) 77 0xFFFFFFFF, none), (.replyWord 6, none)] } }; let value : Nat := 77; let p : Option Packet := none; let rest : List (Effect × Option Packet) := [(.replyWord 6, none)]; (s.Free (F.TIM_STEP_NS_VALUE.addr 0) ∧ p.all (fun p => p.sender.val == 0) = true) ∧ (s.drafen.released = (.regWrite (F.TIM_STEP_NS_VALUE.addr 0) value 0xFFFFFFFF, p) :: rest ∧ value < 1000000000) := by decide +kernel
theorem wit_RoutinesRunByLevelAndEffectsApply_9 : let s : State := sets { rdy 100 with drafen := { released := [(.rcClear (F.MSQ_AGE_MAX_AGE_NS.addr 4) 900, none)] } } [(F.MSQ_AGE_MAX_AGE_NS, 4, 950)]; let n : Fin 32 := 4; let v : Nat := 900; let p : Option Packet := none; let rest : List (Effect × Option Packet) := []; (s.live = true ∧ s.drafen.released = (.rcClear (F.MSQ_AGE_MAX_AGE_NS.addr n.val) v, p) :: rest ∧ v ≤ s.rd F.MSQ_AGE_MAX_AGE_NS n.val) := by decide +kernel
theorem wit_RoutinesRunByLevelAndEffectsApply_10 : let s : State := { rdy 100 with drafen := { released := [(.regWrite (F.TIM_STEP_NS_VALUE.addr 0) 77 0xFFFFFFFF, some (wpk 0x02 5 5 [1] 2))] } }; let addr : Nat := F.TIM_STEP_NS_VALUE.addr 0; let value : Nat := 77; let mask : Nat := 0xFFFFFFFF; let p : Option Packet := some (wpk 0x02 5 5 [1] 2); let rest : List (Effect × Option Packet) := []; (s.live = true ∧ s.drafen.released = (.regWrite addr value mask, p) :: rest) ∧ (({ s with drafen := { s.drafen with released := rest } } : State).writeDirect ((p.map (fun p => p.sender.val)).getD 0) [⟨addr, mask, value⟩] none = .error .notOwner) := by decide +kernel
theorem wit_RoutinesRunByLevelAndEffectsApply_11 : let s : State := { rdy 100 with drafen := { released := [(.replyWord 6, none)], gathering := [5, 4] } }; let word : Nat := 6; let p : Option Packet := none; let rest : List (Effect × Option Packet) := []; let g : List Nat := [5, 4, 6]; (s.live = true ∧ s.drafen.released = (.replyWord word, p) :: rest) ∧ (g = (if s.drafen.gatherFor = p then s.drafen.gathering else []) ++ [word] ∧ g.length < g.getD 0 0 % 65536) := by decide +kernel
theorem wit_RoutinesRunByLevelAndEffectsApply_12 : let s : State := { rdy 100 with cmd := { (rdy 1).cmd with flights := [⟨wpk 0x01 0x10000 0 [], .window, 3, false⟩] }, drafen := { released := [(.replyWord 6, some (wpk 0x01 0x10000 0 []))], gathering := [0x01000003, 4], gatherFor := some (wpk 0x01 0x10000 0 []) } }; let word : Nat := 6; let p : Packet := wpk 0x01 0x10000 0 []; let rest : List (Effect × Option Packet) := []; let g : List Nat := [0x01000003, 4, 6]; (s.live = true ∧ s.drafen.released = (.replyWord word, some p) :: rest ∧ (s.flightOf p).all (fun f => f.origin == .window) = true) ∧ (g = (if s.drafen.gatherFor = some p then s.drafen.gathering else []) ++ [word] ∧ g.getD 0 0 % 65536 ≤ g.length) ∧ (s.fifoRoom p.sender.val g.length = true ∧ s.cmd.seats.length = 4) := by decide +kernel
theorem wit_RoutinesRunByLevelAndEffectsApply_13 : let s : State := { rdy 100 with buf := { (rdy 1).buf with ctl := [⟨1, 7, 2, false⟩] }, drafen := { released := [(.unit 13 7 (65536 + 7) 4, none)] } }; let un : Nat := 7; let pool : Nat := 1; let place : Nat := 7; let d : Nat := 4; let x : CtlBuf := ⟨1, 7, 2, false⟩; let p : Option Packet := none; let rest : List (Effect × Option Packet) := []; (s.live = true ∧ s.drafen.released = (.unit 13 un (pool * 65536 + place) d, p) :: rest ∧ place < 65536) ∧ (s.buf.ctl.find? (fun b => b.pool == pool && b.place == place) = some x ∧ x.owner = 2) := by decide +kernel
theorem wit_RoutinesRunByLevelAndEffectsApply_14 : let s : State := { rdy 100 with drafen := { released := [(.unit 10 7 5 4, none)] } }; let op : Nat := 10; let u : Nat := 7; let a : Nat := 5; let d : Nat := 4; let p : Option Packet := none; let rest : List (Effect × Option Packet) := []; (s.live = true ∧ s.drafen.released = (.unit op u a d, p) :: rest ∧ op ≠ 13) := by decide +kernel
theorem wit_CoresTakeOverRejoinAndLoad_1 : let s : State := sets { rdy 100 with drafen := { routine := some { wrout with past := true } } } [(F.CMD_CORE_STATUS_CORE1, 0, 1)]; let k : Nat := 0; let r : Routine := { wrout with past := true }; (s.ready = true ∧ s.activeCore = some k ∧ s.drafen.cores.length = 2 ∧ s.rd (coreFld (1 - k)) = 1) ∧ (s.drafen.routine = some r ∧ r.past = true) := by decide +kernel
theorem wit_CoresTakeOverRejoinAndLoad_2 : let s : State := sets { rdy 100 with drafen := { routine := some wrout } } [(F.CMD_CORE_STATUS_CORE1, 0, 1)]; let k : Nat := 0; let r : Routine := wrout; (s.ready = true ∧ s.activeCore = some k ∧ s.drafen.cores.length = 2 ∧ s.rd (coreFld (1 - k)) = 1) ∧ (s.drafen.routine = some r ∧ r.past = false) := by decide +kernel
theorem wit_CoresTakeOverRejoinAndLoad_3 : let s : State := rdy 100; let k : Nat := 0; (s.ready = true ∧ s.activeCore = some k ∧ s.drafen.cores.length = 2 ∧ s.rd (coreFld (1 - k)) ≠ 1) := by decide +kernel
theorem wit_CoresTakeOverRejoinAndLoad_4 : let s : State := sets { rdy 100 with drafen := { swapAsked := true } } [(F.CMD_CORE_STATUS_CORE1, 0, 1)]; let k : Nat := 0; (s.ready = true ∧ s.activeCore = some k ∧ s.drafen.cores.length = 2 ∧ s.rd (coreFld (1 - k)) = 1 ∧ s.drafen.swapAsked = true) := by decide +kernel
theorem wit_CoresTakeOverRejoinAndLoad_5 : let s : State := sets { rdy 100 with drafen := { cores := [{ micro := [(0, 5)] }, {}] } } [(F.CMD_CORE_STATUS_CORE1, 0, 2)]; let core : Fin 2 := 1; let a : Nat := 0; (s.ready = true ∧ s.rd (coreFld core.val) = 2 ∧ s.activeCore = some a ∧ s.drafen.cores.length = 2) := by decide +kernel
theorem wit_CoresTakeOverRejoinAndLoad_6 : let s : State := sets (rdy 100) [(F.CMD_CORE_STATUS_CORE1, 0, 2)]; let core : Fin 2 := 1; (s.ready = true ∧ s.rd (coreFld core.val) = 2) := by decide +kernel
theorem wit_CoresTakeOverRejoinAndLoad_7 : let s : State := sets (rdy 100) [(F.CMD_CORE_STATUS_CORE1, 0, 3)]; (s.Free (F.CMD_CORE_CTRL_REJOIN0.addr 0)) := by decide +kernel
theorem wit_CoresTakeOverRejoinAndLoad_8 : let s : State := sets (rdy 100) [(F.CMD_CORE_STATUS_CORE1, 0, 1)]; (s.Free (F.CMD_CORE_CTRL_SWAP.addr 0)) := by decide +kernel
theorem wit_CoresTakeOverRejoinAndLoad_9 : let s : State := rdy 100; let seat : Fin 4 := 2; (s.Free (F.CMD_CORE_CTRL_REJOIN0.addr 0) ∧ seat ≠ 0) := by decide +kernel
theorem wit_CoresTakeOverRejoinAndLoad_10 : let s : State := sets (at_ 1600) []; (s.loaderDue = true ∧ s.idn.certs.length = 8) ∧ (s.rd F.CMD_CORE_STATUS_READY = 0 ∧ s.rd (coreFld 0) ≠ 3 ∧ s.rd (coreFld 1) ≠ 3) := by decide +kernel

/-! ### Faults and take-over of pipelines -/

theorem wit_FaultsAreRaisedAndAcknowledged_1 : let s : State := { rdy 1600 with flt := { (rdy 1).flt with held := [⟨30, 2, 1, 4, 900⟩], main := { latches := [⟨30, 2, 1⟩] } } }; let e : FaultEvent := ⟨30, 2, 1, 4, 900⟩; (s.live = true ∧ s.collecting = true ∧ s.flt.takenTick ≠ some s.now ∧ s.applyAcks.autoAcks = s) ∧ (s.flt.held = [e] ∧ e.src < 39 ∧ e.cause < 8 ∧ e.sev ≤ 3 ∧ s.on F.CMD_CORE_STATUS_READY = true ∧ s.on F.FLT_CTRL_FAULT_N_FIRST = false) ∧ (s.flt.main.levelOf e.src e.cause ≠ some 3) := by decide +kernel
theorem wit_FaultsAreRaisedAndAcknowledged_2 : let s : State := sets { rdy 1600 with flt := { (rdy 1).flt with held := [⟨30, 2, 1, 4, 900⟩], main := { latches := [⟨30, 2, 3⟩] } } } [(F.FLT_FREEZE_CTRL_FREEZE_LEVEL, 0, 3)]; let e : FaultEvent := ⟨30, 2, 1, 4, 900⟩; (s.live = true ∧ s.collecting = true ∧ s.flt.takenTick ≠ some s.now ∧ s.applyAcks.autoAcks = s) ∧ (s.flt.held = [e] ∧ e.src < 39 ∧ e.cause < 8 ∧ e.sev ≤ 3 ∧ raisedLevel (s.flt.main.levelOf e.src e.cause) e.sev = 3) ∧ (s.flt.main.levelOf e.src e.cause = some 3 ∨ s.on F.FLT_CTRL_FAULT_N_FIRST = true ∨ s.on F.CMD_CORE_STATUS_READY = false) := by decide +kernel
theorem wit_FaultsAreRaisedAndAcknowledged_3 : let s : State := { rdy 1600 with flt := { (rdy 1).flt with held := [⟨5, 1, 0, 0, 0⟩, ⟨30, 2, 1, 4, 900⟩, ⟨7, 2, 1, 4, 900⟩] } }; let l : List FaultEvent := [⟨7, 2, 1, 4, 900⟩, ⟨30, 2, 1, 4, 900⟩, ⟨5, 1, 0, 0, 0⟩]; (s.live = true ∧ s.collecting = true ∧ s.flt.takenTick ≠ some s.now ∧ s.applyAcks.autoAcks = s) ∧ (l = sortBy FaultEvent.before s.flt.held ∧ l ≠ [] ∧ l.length ≤ 32) := by decide +kernel
theorem wit_FaultsAreRaisedAndAcknowledged_4 : let s : State := rdy 1600; (s.live = true ∧ s.on F.FLT_STATUS_A_OK = true ∧ s.on F.FLT_STATUS_B_OK = true ∧ s.flt.takenTick ≠ some s.now ∧ s.applyAcks.autoAcks = s ∧ s.flt.held = []) := by decide +kernel
theorem wit_FaultsAreRaisedAndAcknowledged_5 : let s : State := { rdy 1600 with flt := { (rdy 1).flt with main := { latches := [⟨30, 1, 0⟩, ⟨30, 2, 1⟩], autoAck := [(30, 1, 1599)] } } }; let src : Nat := 30; let cause : Nat := 1; let u : Nat := 1599; (s.live = true ∧ s.collecting = true ∧ s.flt.main.autoAck = [(src, cause, u)] ∧ u < s.now ∧ s.flt.main.levelOf src cause = some 0 ∧ src < 39) := by decide +kernel
theorem wit_FaultsAreRaisedAndAcknowledged_6 : let s : State := sets (rdy 1600) [(F.FLT_STATUS_FROZEN, 0, 1), (F.FLT_STATUS_FIRST_SRC, 0, 30)]; (s.Free (F.FLT_FREEZE_CTRL_RELEASE.addr 0)) := by decide +kernel
theorem wit_FaultsAreRaisedAndAcknowledged_7 : let s : State := rdy 1600; let p : Packet := wpk 0x60 0 30 []; (s.Takes p ∧ p.opcode = 0x60 ∧ (s.mayAck p.sender.val p.parameter.toNat).toBool = true) := by decide +kernel
theorem wit_FaultsAreRaisedAndAcknowledged_8 : let s : State := rdy 1600; let p : Packet := wpk 0x60 0 39 []; (s.Takes p ∧ p.opcode = 0x60 ∧ (p.sender = 0 ∨ bit (s.rd F.CMD_SEAT_INT_GRANT_UNITS p.sender.val) 18 = true) ∧ 39 ≤ p.parameter.toNat) := by decide +kernel
theorem wit_FaultsAreRaisedAndAcknowledged_9 : let s : State := sets (rdy 1600) [(F.CMD_SEAT_TAGS_TAG_QUOTA, 2, 4)]; let p : Packet := wpk 0x60 0 30 [] 2; (s.Takes p ∧ p.opcode = 0x60 ∧ p.sender ≠ 0) ∧ (bit (s.rd F.CMD_SEAT_INT_GRANT_UNITS p.sender.val) 18 = false ∨ (p.parameter.toNat < 39 ∧ bit (s.rd F.CMD_SEAT_INT_GRANT_UNITS p.sender.val) (sourceUnit p.parameter.toNat) = false)) := by decide +kernel
theorem wit_FaultsAreRaisedAndAcknowledged_10 : let s : State := sets { rdy 1600 with flt := { (rdy 1).flt with acks := [⟨30, wpk 0x60 0 30 [], 1599⟩], main := { latches := [⟨30, 1, 0⟩, ⟨30, 2, 1⟩, ⟨5, 1, 0⟩] } }, cmd := { (rdy 1).cmd with flights := [⟨wpk 0x60 0 30 [], .window, 1, true⟩] } } [(F.FLT_SRC_STATUS_COUNT, 30, 2), (F.FLT_SRC_STATUS_LATCHED, 30, 1)]; let src : Nat := 30; let u : Nat := 1599; let p : Packet := wpk 0x60 0 30 []; let f : Flight := ⟨wpk 0x60 0 30 [], .window, 1, true⟩; (s.live = true ∧ s.collecting = true ∧ s.flt.acks = [⟨src, p, u⟩] ∧ u < s.now ∧ src < 39 ∧ s.cmd.seats.length = 4) ∧ (s.flightOf p = some f ∧ f.origin = .window ∧ bit p.flags.toNat 0 = false ∧ s.flt.main.ofSrc src ≠ []) ∧ (s.fifoRoom p.sender.val 6 = true) := by decide +kernel
theorem wit_FaultsAreRaisedAndAcknowledged_11 : let s : State := { rdy 1600 with flt := { (rdy 1).flt with acks := [⟨30, wpk 0x60 0 30 [], 1599⟩], main := { latches := [⟨5, 1, 0⟩] } }, cmd := { (rdy 1).cmd with flights := [⟨wpk 0x60 0 30 [], .window, 1, true⟩] } }; let src : Nat := 30; let u : Nat := 1599; let p : Packet := wpk 0x60 0 30 []; (s.live = true ∧ s.collecting = true ∧ s.flt.acks = [⟨src, p, u⟩] ∧ u < s.now ∧ s.flt.main.ofSrc src = []) := by decide +kernel
theorem wit_PipelinesFailOverAndReturn_1 : let s : State := { at_ 1600 with fwd := { (at_ 1).fwd with pipe := [{ wpf with pipe := 5 }, wpf] } }; let g : Fin 17 := 5; (s.live = true ∧ g.val < 16 ∧ nth s.flt.pipes g.val .down = .serving ∧ s.spareReady = true) := by decide +kernel
theorem wit_PipelinesFailOverAndReturn_2 : let s : State := { at_ 1600 with flt := { (at_ 1).flt with takeOver := some (3, 100) }, fwd := { (at_ 1).fwd with pipe := [{ wpf with pipe := 5 }, wpf], fifo := [{ wf with ing := 165, port := 165 }, wf] } }; let g : Fin 17 := 5; (s.live = true ∧ g.val < 16 ∧ nth s.flt.pipes g.val .down = .serving ∧ s.spareReady = false) := by decide +kernel
theorem wit_PipelinesFailOverAndReturn_3 : let s : State := { at_ 1600 with flt := { (at_ 1).flt with pipes := (List.replicate 16 PipeState.serving).set 5 .failed } }; let g : Fin 17 := 5; (g.val < 16 ∧ nth s.flt.pipes g.val .down ≠ .serving) := by decide +kernel
theorem wit_PipelinesFailOverAndReturn_4 : let s : State := { at_ 1600 with flt := { (at_ 1).flt with takeOver := some (3, 100) } }; let x : Nat := 3; let u : Nat := 100; (s.live = true ∧ s.flt.takeOver = some (x, u)) := by decide +kernel
theorem wit_PipelinesFailOverAndReturn_5 : let s : State := at_ 1600; (s.live = true ∧ s.flt.takeOver = none ∧ s.on F.FLT_PIPE_STATUS_SPARE_OK = true) := by decide +kernel
theorem wit_PipelinesFailOverAndReturn_6 : let s : State := { at_ 1600 with flt := { (at_ 1).flt with takeOver := some (3, 100) }, fwd := { (at_ 1).fwd with fifo := [{ wf with ing := 165, port := 165 }] } }; let g : Fin 17 := 5; let f : Frame := { wf with ing := 165, port := 165 }; (s.live = true ∧ g.val < 16 ∧ nth s.flt.pipes g.val .down = .serving ∧ s.spareReady = false) ∧ (s.fwd.pipe = [] ∧ s.fwd.replay = [] ∧ s.fwd.fifo = [f] ∧ f.group = g.val ∧ f.ing < 512 ∧ f.port = f.ing) := by decide +kernel
theorem wit_PipelinesFailOverAndReturn_7 : let s : State := { at_ 1600 with flt := { (at_ 1).flt with takeOver := some (3, 100) } }; (s.live = true ∧ s.flt.takeOver.isSome = true ∧ s.flt.egressTaken = false) := by decide +kernel
theorem wit_PipelinesFailOverAndReturn_8 : let s : State := { at_ 1600 with flt := { (at_ 1).flt with takeOver := some (3, 100) } }; (s.live = true ∧ s.flt.takeOver.isSome = true ∧ s.flt.slotsTaken = false) := by decide +kernel
theorem wit_PipelinesFailOverAndReturn_9 : let s : State := { at_ 1600 with flt := { (at_ 1).flt with takeOver := some (3, 100), slotsTaken := true } }; (s.live = true ∧ s.flt.slotsTaken = true) := by decide +kernel
theorem wit_PipelinesFailOverAndReturn_10 : let s : State := at_ 1600; let g : Fin 16 := 5; (s.Free (F.FLT_PIPE_CTRL_FORCE.addr 0) ∧ nth s.flt.pipes g.val .down = .serving ∧ s.spareReady = true) := by decide +kernel
theorem wit_PipelinesFailOverAndReturn_11 : let s : State := { at_ 1600 with flt := { (at_ 1).flt with takeOver := some (3, 100) } }; let g : Fin 16 := 5; (s.Free (F.FLT_PIPE_CTRL_FORCE.addr 0) ∧ (s.spareReady = false ∨ nth s.flt.pipes g.val .down ≠ .serving)) := by decide +kernel
theorem wit_PipelinesFailOverAndReturn_12 : let s : State := { at_ 1600 with flt := { (at_ 1).flt with takeOver := some (5, 100), pipes := (List.replicate 16 PipeState.serving).set 5 .failed } }; let g : Fin 16 := 5; (s.live = true ∧ nth s.flt.pipes g.val .down ≠ .serving ∧ s.flt.ready.contains g.val = false ∧ bit (s.rd F.FLT_PIPE_STATUS_RETIRED) g.val = false) := by decide +kernel
theorem wit_PipelinesFailOverAndReturn_13 : let s : State := { at_ 1600 with flt := { (at_ 1).flt with takeOver := some (5, 100), pipes := (List.replicate 16 PipeState.serving).set 5 .failed } }; let g : Fin 16 := 5; (s.live = true ∧ nth s.flt.pipes g.val .down ≠ .serving ∧ s.flt.ready.contains g.val = false ∧ bit (s.rd F.FLT_PIPE_STATUS_RETIRED) g.val = false) := by decide +kernel
theorem wit_PipelinesFailOverAndReturn_14 : let s : State := at_ 1600; let g : Fin 16 := 5; (nth s.flt.pipes g.val .down = .serving ∨ s.flt.ready.contains g.val = true ∨ bit (s.rd F.FLT_PIPE_STATUS_RETIRED) g.val = true) := by decide +kernel
theorem wit_PipelinesFailOverAndReturn_15 : let s : State := sets { at_ 1600 with flt := { (at_ 1).flt with takeOver := some (5, 100), ready := [5], pipes := (List.replicate 16 PipeState.serving).set 5 .failed } } [(F.FLT_PIPE_STATUS_GIVE_BACK_READY, 0, 1)]; (s.Free (F.FLT_PIPE_CTRL_GIVE_BACK.addr 0)) := by decide +kernel
theorem wit_PipelinesFailOverAndReturn_16 : let s : State := { at_ 1600 with flt := { (at_ 1).flt with takeOver := some (5, 100), ready := [5], givingBack := some 5, pipes := (List.replicate 16 PipeState.serving).set 5 .failed } }; let g : Nat := 5; let mine : Bool := true; (s.live = true ∧ s.now % 16 = 0 ∧ s.ran.contains 0 = false ∧ s.flt.givingBack = some g ∧ s.fwd.replay.all (fun f => f.group != g) = true) ∧ (mine = ((s.flt.takeOver.map Prod.fst) == some g) ∧ s.on F.FLT_PIPE_CTRL_AUTO_GIVE_BACK = false) := by decide +kernel
theorem wit_PipelinesFailOverAndReturn_17 : let s : State := at_ 1600; (s.live = true ∧ s.flt.takeOver = none ∧ s.on F.FLT_PIPE_STATUS_SPARE_OK = true) := by decide +kernel
theorem wit_PipelinesFailOverAndReturn_18 : let s : State := sets (at_ 1600) [(F.FLT_PIPE_STATUS_SPARE_OK, 0, 0)]; (s.live = true ∧ s.flt.takeOver = none) := by decide +kernel

/-! ### Power and temperature -/

theorem wit_PowerAndTemperatureAreMeasured_1 : let s : State := { at_ 1600 with pwr := { (at_ 1).pwr with samples := [List.replicate 7 (800, 900000)] } }; let rails : List (Nat × Nat) := [(750, 600000), (900, 200000), (1200, 5000), (1100, 20000), (400, 20000), (1800, 1000), (3300, 500)]; (s.live = true ∧ s.now % 800 = 0 ∧ s.ran.contains 4 = false ∧ rails.length = 7) := by decide +kernel
theorem wit_PowerAndTemperatureAreMeasured_2 : let s : State := { rdy 800000 with pwr := { (at_ 1).pwr with sums := List.replicate 7 (80000, 60000000), sumCount := 100, missed := [(1, 2), (2, 1)] } }; let replies : List (Option (Nat × Nat)) := [none, none, some (800, 610000), none, none, none, none]; (s.live = true ∧ s.now % 800000 = 0 ∧ s.ran.contains 5 = false ∧ s.on F.CMD_CORE_STATUS_READY = true ∧ replies.length = 7) := by decide +kernel
theorem wit_PowerAndTemperatureAreMeasured_3 : let s : State := rdy 1600; (s.live = true ∧ s.on F.CMD_CORE_STATUS_READY = true) := by decide +kernel
theorem wit_PowerAndTemperatureAreMeasured_4 : let s : State := sets (rdy 1600) [(F.PWR_STATUS_DIVERGED, 0, 1), (F.PWR_STATUS_STEP, 0, 3)]; (s.Free (F.PWR_CTRL_MODEL_RESUME.addr 0) ∧ s.floorStep ≤ s.rd F.PWR_STATUS_STEP) ∧ (300 ≤ s.rd F.PWR_CTRL_PKG_LIMIT_W ∧ s.rd F.PWR_CTRL_PKG_LIMIT_W ≤ 1000 ∧ 10 ≤ s.rd F.PWR_CTRL_WINDOW_US ∧ s.rd F.PWR_CTRL_WINDOW_US ≤ 1000) := by decide +kernel
theorem wit_PowerAndTemperatureAreMeasured_5 : let s : State := { rdy 80000 with pwr := { (at_ 1).pwr with warned := [3, 9], excluded := [9] } }; let temps : List Int := (((List.replicate 48 40).set 7 (-12)).set 9 151).set 11 119; (s.live = true ∧ s.now % 80000 = 0 ∧ s.ran.contains 8 = false ∧ s.on F.CMD_CORE_STATUS_READY = true ∧ temps.length = 48 ∧ s.pwr.target = none) ∧ ((List.range 48).all (fun k => decide (s.now < s.pwr.changed.get k 0 + 8000000000)) = true ∧ temps.all (fun v => decide (-128 ≤ v) && (decide (v < 128) || decide (150 < v))) = true) := by decide +kernel
theorem wit_PowerAndTemperatureAreMeasured_6 : let s : State := rdy 80000; let temp : Int := 125; (s.pins.porst = false ∧ s.pins.tripped = false ∧ 125 ≤ temp) := by decide +kernel
theorem wit_PowerStepsFollowTheDecision_1 : let s : State := sets (rdy 8000) [(F.PWR_OP_FLOOR_STEP, 0, 0), (F.PWR_OP_FLOOR_STEP, 1, 0), (F.PWR_OP_FLOOR_STEP, 2, 0), (F.PWR_OP_FLOOR_STEP, 3, 0), (F.PWR_THERM_STATUS_TJ_MAX, 0, 118), (F.PWR_STATUS_STEP, 0, 1)]; (s.live = true ∧ s.now % 8000 = 0 ∧ s.ran.contains 6 = false ∧ s.caughtUp = s) ∧ ((s.rd F.PWR_THERM_CFG_THROTTLE_C : Int) ≤ s.tjMax ∨ (s.rd F.PWR_THERM_CFG_STACK_THROTTLE_C : Int) ≤ s.stackMax ∨ (List.range 7).any s.railOver = true) ∧ (s.rd F.PWR_STATUS_STEP < 3 ∧ s.floorStep ≤ s.rd F.PWR_STATUS_STEP ∧ s.pwr.target = none) := by decide +kernel
theorem wit_PowerStepsFollowTheDecision_2 : let s : State := sets (rdy 8000) [(F.PWR_THERM_STATUS_TJ_MAX, 0, 118), (F.PWR_STATUS_STEP, 0, 3)]; let f : Nat := 1400; (s.live = true ∧ s.now % 8000 = 0 ∧ s.ran.contains 6 = false ∧ s.caughtUp = s) ∧ ((s.rd F.PWR_THERM_CFG_THROTTLE_C : Int) ≤ s.tjMax ∨ (s.rd F.PWR_THERM_CFG_STACK_THROTTLE_C : Int) ≤ s.stackMax ∨ (List.range 7).any s.railOver = true) ∧ ((s.rd F.PWR_STATUS_STEP = 3 ∨ s.rd F.PWR_STATUS_STEP = 4) ∧ s.floorStep ≤ s.rd F.PWR_STATUS_STEP ∧ s.pwr.target = none) ∧ (freqBelow (s.rd F.PWR_STATUS_CORE_MHZ) = some f ∧ s.rd F.PWR_STEP4_MIN_MHZ ≤ f) := by decide +kernel
theorem wit_PowerStepsFollowTheDecision_3 : let s : State := sets { rdy 8000 with pwr := { (at_ 1).pwr with calm := 9999 } } [(F.PWR_OP_FLOOR_STEP, 0, 0), (F.PWR_OP_FLOOR_STEP, 1, 0), (F.PWR_OP_FLOOR_STEP, 2, 0), (F.PWR_OP_FLOOR_STEP, 3, 0), (F.PWR_STATUS_DIVERGED, 0, 1), (F.PWR_STATUS_STEP, 0, 2)]; (s.live = true ∧ s.now % 8000 = 0 ∧ s.ran.contains 6 = false ∧ s.caughtUp = s ∧ s.on F.PWR_STATUS_DIVERGED = true ∧ (List.range 7).any s.railOver = false ∧ s.pwr.target = none) ∧ ((s.rd F.PWR_MEAS_MEAS_W : Int) < (s.limitEff : Int) - s.rd F.PWR_MARGIN_DIV_MARGIN_W - s.rd F.PWR_MARGIN_HYST_W) ∧ (s.tjMax ≤ (s.rd F.PWR_THERM_CFG_THROTTLE_C : Int) - 5 ∧ s.stackMax ≤ (s.rd F.PWR_THERM_CFG_STACK_THROTTLE_C : Int) - 5) ∧ (s.floorStep < s.rd F.PWR_STATUS_STEP ∧ s.rd F.PWR_STATUS_STEP < 4) := by decide +kernel
theorem wit_PowerStepsFollowTheDecision_4 : let s : State := sets { rdy 8000 with pwr := { (at_ 1).pwr with target := some (1400, 100) } } [(F.PWR_STATUS_DIVERGED, 0, 1), (F.PWR_STATUS_STEP, 0, 4), (F.PWR_STATUS_WAIT_LIFT, 0, 1), (F.PWR_THERM_STATUS_TJ_MAX, 0, 121)]; let f : Nat := 1400; let u : Nat := 100; (s.live = true ∧ s.now % 8000 = 0 ∧ s.ran.contains 6 = false ∧ s.caughtUp = s ∧ s.on F.PWR_STATUS_DIVERGED = true ∧ (List.range 7).any s.railOver = false ∧ s.floorStep ≤ 4) ∧ (s.pwr.target = some (f, u) ∧ s.on F.PWR_STATUS_WAIT_LIFT = true ∧ s.rd F.PWR_STATUS_STEP = 4 ∧ s.rd F.PWR_STATUS_CORE_MHZ ≠ f ∧ f < 2048) ∧ (120 ≤ s.tjMax ∧ (s.rd F.PWR_THERM_CFG_THROTTLE_C : Int) ≤ s.tjMax) := by decide +kernel
theorem wit_PowerStepsFollowTheDecision_5 : let s : State := { rdy 8000 with pwr := { (at_ 1).pwr with target := some (1400, 100) } }; let f : Nat := 1400; let u : Nat := 100; (s.live = true ∧ s.now % 8000 = 0 ∧ s.ran.contains 7 = false ∧ s.pwr.target = some (f, u) ∧ f < 2048) := by decide +kernel

/-! ### Identity and counters -/

theorem wit_KeysAreMadeAndRotated_1 : let s : State := sets (rdy 1600) [(F.SYS_BOOT_STATUS_IMAGE_OK, 0, 1), (F.IDN_STATUS_RNG_OK, 0, 1)]; (s.live = true ∧ s.on F.SYS_BOOT_STATUS_IMAGE_OK = true ∧ s.on F.IDN_STATUS_RNG_OK = true ∧ s.on F.IDN_STATUS_EVK_READY = false ∧ s.idn.certs.length = 8) := by decide +kernel
theorem wit_KeysAreMadeAndRotated_2 : let s : State := sets (rdy 1600) [(F.SYS_BOOT_STATUS_IMAGE_OK, 0, 1), (F.IDN_STATUS_RNG_OK, 0, 1)]; (s.live = true ∧ s.on F.SYS_BOOT_STATUS_IMAGE_OK = true ∧ s.on F.IDN_STATUS_RNG_OK = true ∧ s.on F.IDN_STATUS_EVK_READY = false) := by decide +kernel
theorem wit_KeysAreMadeAndRotated_3 : let s : State := sets (rdy 1600) [(F.IDN_STATUS_EVK_READY, 0, 1)]; (s.Free (F.IDN_EVK_CTRL_ROTATE.addr 0)) := by decide +kernel
theorem wit_KeysAreMadeAndRotated_4 : let s : State := sets (rdy 1600) [(F.IDN_STATUS_EVK_READY, 0, 1)]; let seat : Fin 4 := 1; (s.Free (F.IDN_EVK_CTRL_ROTATE.addr 0) ∧ seat ≠ 0) := by decide +kernel
theorem wit_KeysAreMadeAndRotated_5 : let s : State := sets (rdy 1600) [(F.IDN_STATUS_ROTATING, 0, 1), (F.IDN_STATUS_RNG_OK, 0, 1), (F.IDN_STATUS_EVK_READY, 0, 1)]; (s.live = true ∧ s.on F.IDN_STATUS_ROTATING = true ∧ s.on F.IDN_STATUS_RNG_OK = true ∧ s.idn.oldKey = false ∧ s.idn.certs.length = 8) ∧ (s.on F.EVR_STATUS_READY = false ∨ s.evr.held = true) := by decide +kernel
theorem wit_KeysAreMadeAndRotated_6 : let s : State := sets { rdy 1600 with evr := { (rdy 1).evr with opened := some wopen } } [(F.IDN_STATUS_ROTATING, 0, 1), (F.IDN_STATUS_RNG_OK, 0, 1), (F.EVR_STATUS_READY, 0, 1)]; let b : OpenBlock := wopen; (s.live = true ∧ s.on F.IDN_STATUS_ROTATING = true ∧ s.on F.IDN_STATUS_RNG_OK = true ∧ s.idn.oldKey = false ∧ s.idn.certs.length = 8) ∧ (s.on F.EVR_STATUS_READY = true ∧ s.evr.held = false ∧ s.evr.opened = some b ∧ s.evr.blocks.length < 8388608) := by decide +kernel
theorem wit_KeysAreMadeAndRotated_7 : let s : State := sets (rdy 1600) [(F.IDN_STATUS_ROTATING, 0, 1), (F.IDN_STATUS_RNG_OK, 0, 1)]; (s.live = true ∧ s.on F.IDN_STATUS_ROTATING = true ∧ s.on F.IDN_STATUS_RNG_OK = true ∧ s.idn.oldKey = false) := by decide +kernel
theorem wit_KeysAreMadeAndRotated_8 : let s : State := { rdy 1600 with idn := { (rdy 1).idn with certs := [[], [1, 2, 3, 4, 5], [], [], [], [], [], []], certPos := 8 } }; (s.Free (F.IDN_CERT_SEL_CERT.addr 0)) := by decide +kernel
theorem wit_KeysAreMadeAndRotated_9 : let s : State := sets { rdy 1600 with idn := { (rdy 1).idn with certs := [[], [1, 2, 3, 4, 5], [], [], [], [], [], []], certPos := 4 } } [(F.IDN_CERT_SEL_CERT, 0, 1)]; (s.live = true) := by decide +kernel
theorem wit_KeysAreMadeAndRotated_10 : let s : State := sets (rdy 1600) [(F.IDN_STATUS_RNG_OK, 0, 1)]; (s.live = true ∧ s.on F.IDN_STATUS_RNG_OK = true) := by decide +kernel
theorem wit_KeysAreMadeAndRotated_11 : let s : State := rdy 1600; (s.live = true) := by decide +kernel
theorem wit_FusesAndQuotes_1 : let s : State := { rdy 1600 with idn := { (rdy 1).idn with image := some { digest := zeros 64, version := 3, svn := 2, ownerKey := some [4] } } }; (s.Free (F.IDN_FUSE_CTRL_OP.addr 0) ∧ s.on F.IDN_FUSE_CTRL_BUSY = false) := by decide +kernel
theorem wit_FusesAndQuotes_2 : let s : State := { rdy 1600 with idn := { (rdy 1).idn with image := some { digest := zeros 64, version := 3, svn := 2, ownerKey := none } } }; (s.Free (F.IDN_FUSE_CTRL_OP.addr 0) ∧ s.on F.IDN_FUSE_CTRL_BUSY = false) := by decide +kernel
theorem wit_FusesAndQuotes_3 : let s : State := sets (rdy 1600) [(F.IDN_FUSE_CTRL_BUSY, 0, 1)]; let c : Instr := .fuseOwnerHash 0; (s.Free (F.IDN_FUSE_CTRL_OP.addr 0) ∧ s.on F.IDN_FUSE_CTRL_BUSY = true ∧ (c = .fuseOwnerHash 0 ∨ c = .fuseRollback 0)) := by decide +kernel
theorem wit_FusesAndQuotes_4 : let s : State := sets { rdy 1600 with idn := { (rdy 1).idn with fuseOp := 2, image := some { digest := zeros 64, version := 3, svn := 2, ownerKey := none } } } [(F.IDN_FUSE_CTRL_BUSY, 0, 1)]; (s.live = true ∧ s.on F.IDN_FUSE_CTRL_BUSY = true) := by decide +kernel
theorem wit_FusesAndQuotes_5 : let s : State := sets (rdy 1600) [(F.IDN_FUSE_CTRL_BUSY, 0, 1)]; (s.live = true ∧ s.on F.IDN_FUSE_CTRL_BUSY = true) := by decide +kernel
theorem wit_FusesAndQuotes_6 : let s : State := rdy 1600; let p : Packet := wpk 0x50 0 0 [1, 2, 3, 4, 5, 6, 7, 8]; (s.Takes p ∧ p.opcode = 0x50 ∧ p.data.length = 8 ∧ s.idn.quotes.length < 4) := by decide +kernel
theorem wit_FusesAndQuotes_7 : let s : State := { rdy 1600 with idn := { (rdy 1).idn with quotes := List.replicate 4 ⟨wpk 0x50 0 0 [1], 100, none⟩ } }; let p : Packet := wpk 0x50 0 0 [1, 2, 3, 4, 5, 6, 7, 8]; (s.Takes p ∧ p.opcode = 0x50 ∧ p.data.length = 8 ∧ 4 ≤ s.idn.quotes.length) := by decide +kernel
theorem wit_FusesAndQuotes_8 : let s : State := sets { rdy 1600 with idn := { (rdy 1).idn with quotes := [⟨wpk 0x50 0 0 [1], 100, some (zeros 256)⟩] }, cmd := { (rdy 1).cmd with flights := [⟨wpk 0x50 0 0 [1], .window, 1, true⟩] } } [(F.IDN_STATUS_RNG_OK, 0, 1)]; let p : Packet := wpk 0x50 0 0 [1]; let f : Flight := ⟨wpk 0x50 0 0 [1], .window, 1, true⟩; let u : Nat := 100; let body : Bytes := zeros 256; let rest : List Quote := []; (s.live = true ∧ s.on F.IDN_STATUS_RNG_OK = true ∧ s.idn.quotes = ⟨p, u, some body⟩ :: rest ∧ body.length = 256) ∧ (s.flightOf p = some f ∧ f.origin = .window ∧ bit p.flags.toNat 0 = false ∧ s.cmd.seats.length = 4) ∧ (s.fifoRoom p.sender.val 103 = true) := by decide +kernel
theorem wit_FusesAndQuotes_9 : let s : State := { rdy 1600 with idn := { (rdy 1).idn with quotes := [⟨wpk 0x50 0 0 [1], 100, some (zeros 256)⟩] } }; (s.live = true ∧ s.on F.IDN_STATUS_RNG_OK = false) := by decide +kernel
theorem wit_CountersAreSnapped_1 : let s : State := sets (rdy 1600) [(F.CMD_SEAT_CNT_PERM_GROUPS, 2, 2 ^ 31 + 15), (F.CNT_SNAP_CTRL_DONE, 2, 1)]; let group : Fin 4 := 2; let countM1 : BitVec 8 := 3; (s.Free (F.CNT_SNAP_CTRL_TAKE.addr group.val) ∧ s.cntReq.length = 4) ∧ ((List.range (countM1.toNat + 1)).all (fun i => s.mayCount group.val (s.rd F.CNT_SNAP_BASE_BASE group.val * 8 + 8 * i)) = true) := by decide +kernel
theorem wit_CountersAreSnapped_2 : let s : State := rdy 1600; let group : Fin 4 := 2; let countM1 : BitVec 8 := 3; (s.Free (F.CNT_SNAP_CTRL_TAKE.addr group.val)) ∧ ((List.range (countM1.toNat + 1)).all (fun i => s.mayCount group.val (s.rd F.CNT_SNAP_BASE_BASE group.val * 8 + 8 * i)) = false) := by decide +kernel
theorem wit_CountersAreSnapped_3 : let s : State := rdy 1600; let seat : Fin 4 := 0; let group : Fin 4 := 2; (s.Free (F.CNT_SNAP_CTRL_TAKE.addr group.val) ∧ seat ≠ group) := by decide +kernel
theorem wit_CountersAreSnapped_4 : let s : State := sets { rdy 1600 with cntReq := [none, none, some (1599, 0, 4), none], cnt := [(cntKey 0 1 0, 77)] } [(F.CNT_SNAP_CTRL_COUNT_M1, 2, 3)]; let group : Fin 4 := 2; let u : Nat := 1599; let base : Nat := 0; let n : Nat := 4; let i : Nat := 1; (s.live = true ∧ s.cntReq.length = 4 ∧ nth s.cntReq group.val none = some (u, base, n) ∧ u < s.now ∧ i < n ∧ n ≤ 256) := by decide +kernel

/-! ### Reset, links and board pins -/

theorem wit_PorstResetsTheWholePart_4 : let s : State := sets { State.reset with pins := { State.reset.pins with porst := true } } [(F.BUF_POOL_COUNT_NEXT_COUNT_NEXT, 2, 5)]; (s.pins.porst = true) := by decide +kernel
theorem wit_SysrstKeepsWhatTheTableKeeps_1 : let s : State := { rdy 1600 with qsg := { (rdy 1).qsg with queue := [{ frame := wf, egr := 3, queue := 1 }] }, cmd := { (rdy 1).cmd with txns := [wtx] } }; (s.pins.porst = false ∧ s.pins.sysrst = false ∧ s.on F.TIM_STATUS_RUN = true ∧ s.pins.swAt = none ∧ s.cmd.seats.length = 4) := by decide +kernel
theorem wit_SysrstKeepsWhatTheTableKeeps_2 : let s : State := { rdy 1600 with pins := { (rdy 1).pins with sysrst := true, swUntil := some 2000 } }; (s.pins.porst = false ∧ s.pins.sysrst = true ∧ s.on F.TIM_STATUS_RUN = true ∧ s.pins.swAt = none) := by decide +kernel
theorem wit_SysrstKeepsWhatTheTableKeeps_3 : let s : State := { rdy 1600 with pins := { (rdy 1).pins with swAt := some 1599 } }; let u : Nat := 1599; (s.pins.porst = false ∧ s.pins.sysrst = false ∧ s.on F.TIM_STATUS_RUN = true ∧ s.pins.swAt = some u ∧ u < s.now) := by decide +kernel
theorem wit_SysrstKeepsWhatTheTableKeeps_4 : let s : State := { rdy 1600 with pins := { (rdy 1).pins with porst := true, swAt := some 1599 } }; (s.pins.porst = true ∨ (s.pins.sysrst = false ∧ s.pins.swAt = none)) := by decide +kernel
theorem wit_SysrstKeepsWhatTheTableKeeps_5 : let s : State := { rdy 1600 with pins := { (rdy 1).pins with sysrst := true, sysPin := true, swUntil := some 2000 } }; (s.pins.porst = false ∧ s.pins.sysrst = true) := by decide +kernel
theorem wit_SysrstKeepsWhatTheTableKeeps_6 : let s : State := { rdy 1600 with pins := { (rdy 1).pins with sysrst := true, sysPin := true }, idn := { (rdy 1).idn with image := some { digest := zeros 64, version := 3, svn := 2, ownerKey := none } } }; (s.pins.porst = false ∧ s.pins.sysrst = true ∧ s.pins.swUntil = none ∧ s.idn.image.isSome = true) ∧ (s.rd (coreFld 0) ≠ 3 ∧ s.rd (coreFld 1) ≠ 3) := by decide +kernel
theorem wit_SysrstKeepsWhatTheTableKeeps_7 : let s : State := rdy 1600; let key : BitVec 8 := 0xA5; (s.Free (F.SYS_SW_RESET_GO.addr 0) ∧ key = 0xA5) := by decide +kernel
theorem wit_SysrstKeepsWhatTheTableKeeps_8 : let s : State := rdy 1600; let key : BitVec 8 := 0xA4; (s.Free (F.SYS_SW_RESET_GO.addr 0) ∧ key ≠ 0xA5) := by decide +kernel
theorem wit_LinksBoardBusAndTap_1 : let s : State := { sets (rdy 1600) [(F.SYS_STRAP_VALUE, 0, 1), (F.CMD_SEAT_STATUS_LINK_UP, 1, 1)] with cmd := { (rdy 1).cmd with seats := [{}, { cmdFifo := [4, 5] }, {}, {}] } }; let endpoint : Fin 2 := 0; (s.pins.porst = false ∧ nth s.pins.perst endpoint.val false = false ∧ s.pins.perst.length = 2 ∧ s.cmd.seats.length = 4) := by decide +kernel
theorem wit_LinksBoardBusAndTap_3 : let s : State := sets (rdy 1600) [(F.SYS_STRAP_VALUE, 0, 1)]; let endpoint : Fin 2 := 0; (s.pins.porst = false ∧ s.pins.tripped = false ∧ nth s.pins.perst endpoint.val true = false) := by decide +kernel
theorem wit_LinksBoardBusAndTap_4 : let s : State := sets (rdy 1600) [(F.CMD_SEAT_STATUS_LINK_UP, 1, 1)]; let seat : Fin 4 := 1; (s.pins.porst = false ∧ s.on F.CMD_SEAT_STATUS_LINK_UP seat.val = true ∧ s.cmd.seats.length = 4) := by decide +kernel
theorem wit_LinksBoardBusAndTap_5 : let s : State := rdy 1600; let cmd : BitVec 8 := 6; (s.pins.porst = false ∧ s.caughtUp = s ∧ cmd.toNat < 7) := by decide +kernel
theorem wit_LinksBoardBusAndTap_6 : let s : State := rdy 1600; let cmd : BitVec 8 := 7; (s.pins.porst = true ∨ (s.caughtUp = s ∧ 7 ≤ cmd.toNat)) := by decide +kernel

/-! ### Rules of the whole machine -/


/-! ### The whole machine -/

theorem wit_CountersAreReadByPermission_may : let s := sets (at_ 1600) [(F.CMD_SEAT_CNT_PERM_GROUPS, 2, 2 ^ 31 + 4)]
    s.live = true ∧ cntAt 0x91360 = some ⟨2, 44, 137, 8, false⟩ ∧ bit (s.rd F.CMD_SEAT_CNT_PERM_GROUPS 2) 2 = true ∧
      bit (s.rd F.CMD_SEAT_CNT_PERM_GROUPS 2) 31 = true ∧ (s.seat 2).capture = none := by decide +kernel
theorem wit_CountersAreReadByPermission_not :
    (at_ 1600).live = true ∧ cntAt 0x91360 = some ⟨2, 44, 137, 8, false⟩ ∧ bit ((at_ 1600).rd F.CMD_SEAT_CNT_PERM_GROUPS 2) 2 = false := by
  decide +kernel
theorem wit_CountersAreReadByPermission_queue : cntAt 0x100898 = some ⟨3, 3, 68, 8, true⟩ ∧ cntAt 0x0 = some ⟨0, 0, 0, 15, false⟩ := by decide +kernel
theorem wit_StepRunsTheFrontCommand :
    ({ at_ 100 with pending := [.bypass, .idcode] } : State).pending = .bypass :: [.idcode] ∧ (at_ 100).pending = [] := by decide +kernel
theorem wit_CommandsKeepToTheirParts : exec .rngOk (at_ 100) = .next ((at_ 100).wr F.IDN_STATUS_RNG_OK 0 1) ∧ movesPins .rngOk = false ∧
    powerReset .rngOk = false ∧ movesLatches .rngOk = false := ⟨rfl, by decide⟩
theorem wit_RefusedWritesChangeNothing : (at_ 100).resp = none ∧
    exec (.registerWrite 0 false 2 0 0xFFFFFFFF) (at_ 100) = .next { at_ 100 with resp := some ⟨.badAddress, []⟩ } ∧ Status.badAddress ≠ .ok :=
  ⟨rfl, rfl, by decide⟩
theorem wit_PacketsSurviveTheirWords : (wpk 0x70 0 0 [1, 2, 3]).data.length ≤ 1019 := by decide
/-- PORST_N is asserted, and a command waits. -/
def wporst : State := { (at_ 100).coldReset with pending := [.idcode] }
theorem wit_EveryStepKeepsTheRulesOfPowerAndTap : wporst.pins.porst = true ∧ wporst.cold = true ∧ wporst.pins.drive = .functional ∧
    step wporst = .next { wporst with pending := [], resp := some ⟨.ok, [0x10102A6B]⟩ } := by
  refine ⟨by decide +kernel, by decide +kernel, by decide +kernel, rfl⟩

/-! ### Ill-formed commands -/

/-- A packet of 1,025 words. -/
theorem smoke_packet : (wpk 0x70 0 0 (List.replicate 1020 0)).wf = false := by decide +kernel
theorem smoke_packet_commands :
    let p := wpk 0x70 0 0 (List.replicate 1020 0)
    [Instr.schedAction p, .schedCancel p, .tableInsert p, .tableDelete p, .tableLookup p, .tableDump p, .evrSeal p, .evrPin p, .evrExport p,
      .read p, .write p, .readBlock p, .writeBlock p, .txnBegin p, .txnCommit p, .txnRollback p, .txnCommitAt p, .attestQuote p, .faultAck p,
      .echo p].all (fun c => !c.wf) = true := by decide +kernel
theorem smoke_clients : (Instr.memAccess 0 [(2, 0)] 0 false).wf = false := by decide
theorem smoke_training : (Instr.memTrainingDone [] [(32, 1)]).wf = false ∧ (Instr.memTrainingDone [] [(1, 4)]).wf = false := by decide
theorem smoke_lanes : (Instr.trainDone 0 (List.replicate 9 ⟨0, false, false, 0⟩)).wf = false := by decide
theorem smoke_foms : (Instr.rxSignalReturn 0 true (List.replicate 9 0) 0).wf = false := by decide
theorem smoke_certs : (Instr.imageLoad [] (List.replicate 9 []) true true true true).wf = false := by decide
theorem smoke_rails : (Instr.railSample [(750, 1000)]).wf = false := by decide
theorem smoke_replies : (Instr.pmbusRead [none] 0).wf = false := by decide
theorem smoke_temps : (Instr.thermalRead [40]).wf = false := by decide

/-! ### Values that the manual gives -/

/-- R416: the check values over "123456789". -/
theorem test_crc_check_values : [0, 1, 2, 3].map (fun a => crcFinal a (crcStep a (crcInit a) [0x31, 0x32, 0x33, 0x34, 0x35, 0x36, 0x37, 0x38, 0x39])) =
    [0xCBF43926, 0xE3069283, 0x6C40DF5F0B497347, 0x29B1] := by decide +kernel
/-- R537: LIFETIME drops of port 137. -/
theorem test_counter_of_the_example : cntDescriptor 0x91360 = 44 + 137 * 2 ^ 16 + 2 * 2 ^ 32 + 8 * 2 ^ 40 := by decide +kernel

end Sys2Proof.Tests
end

section
/-! The words of a packet (R435, R437): each field is read back from the bits where the words hold it, and the CRC-32C
that ends them is a word. -/

namespace Sys2Proof.Machine

/-! ### CRC-32C -/

theorem crcReflBits_lt {poly c w : Nat} (hp : poly < 2 ^ w) (n : Nat) (hc : c < 2 ^ w) : crcReflBits poly n c < 2 ^ w := by
  induction n generalizing c with
  | zero => exact hc
  | succ n ih =>
    have half : c / 2 < 2 ^ w := lt_of_le_of_lt (Nat.div_le_self c 2) hc
    rw [crcReflBits]
    split
    · exact ih (Nat.xor_lt_two_pow half hp)
    · exact ih half

theorem crcRefl_lt {poly c : Nat} (hp : poly < 2 ^ 32) (b : Bytes) (hc : c < 2 ^ 32) : crcRefl poly c b < 2 ^ 32 := by
  induction b generalizing c with
  | nil => exact hc
  | cons x b ih =>
    exact ih (crcReflBits_lt hp 8 (Nat.xor_lt_two_pow hc (x.isLt.trans (by decide))))

/-- The CRC-32C of any string is a 32-bit word (R416). -/
theorem crcOf_one_lt (b : Bytes) : crcOf 1 b < 2 ^ 32 :=
  Nat.xor_lt_two_pow (crcRefl_lt (by decide) b (by decide)) (by decide)

/-! ### Sealed words -/

theorem sealed_length (w : List Nat) : (sealed w).length = w.length + 1 := by simp [sealed]

/-- Words that end with their CRC are taken for whole (R437). -/
theorem crcHolds_sealed (w : List Nat) : crcHolds (sealed w) = true := by simp [crcHolds, sealed]

theorem sealed_all_lt {w : List Nat} (h : ∀ x ∈ w, x < 2 ^ 32) : (sealed w).all (fun x => decide (x < 2 ^ 32)) = true := by
  simp only [sealed, List.all_eq_true, List.mem_append, List.mem_singleton, decide_eq_true_eq]
  rintro x (hx | rfl)
  · exact h x hx
  · exact crcOf_one_lt _

/-! ### The two header words (R435) -/

/-- Opcode, flags and LENGTH stand beside each other in word 0. -/
theorem word0_fields {op fl len : Nat} (hf : fl < 2 ^ 8) (hl : len < 2 ^ 16) :
    (op * 2 ^ 24 + fl * 2 ^ 16 + len) / 2 ^ 24 = op ∧ (op * 2 ^ 24 + fl * 2 ^ 16 + len) / 2 ^ 16 % 2 ^ 8 = fl ∧
      (op * 2 ^ 24 + fl * 2 ^ 16 + len) % 65536 = len := by
  omega

/-- Tag, seat and TXN_ID stand beside each other in word 1. -/
theorem word1_fields {tag seat txn : Nat} (hs : seat < 4) (ht : txn < 2 ^ 12) :
    (tag * 2 ^ 22 + seat * 2 ^ 20 + txn * 2 ^ 8) / 2 ^ 22 = tag ∧ (tag * 2 ^ 22 + seat * 2 ^ 20 + txn * 2 ^ 8) / 2 ^ 20 % 4 = seat ∧
      (tag * 2 ^ 22 + seat * 2 ^ 20 + txn * 2 ^ 8) / 2 ^ 8 % 2 ^ 12 = txn := by
  omega

/-- The packet that the words of a packet spell is that packet: LENGTH fits its 16 bits. -/
theorem packetOf_packetWords (p : Packet) (h : p.data.length ≤ 1019) : packetOf p.sender (packetWords p) = p := by
  obtain ⟨sender, op, fl, tag, seat, txn, addr, par, data⟩ := p
  obtain ⟨hop, hfl, -⟩ := word0_fields (op := op.toNat) (len := data.length + 5) fl.isLt (by simp at h; omega)
  obtain ⟨htag, hseat, htxn⟩ := word1_fields (tag := tag.toNat) seat.isLt txn.isLt
  have hdata : (((data.map (fun w => w.toNat)) ++ [crcOf 1 (wordBytes ([op.toNat * 2 ^ 24 + fl.toNat * 2 ^ 16 + (data.length + 5),
      tag.toNat * 2 ^ 22 + seat.val * 2 ^ 20 + txn.toNat * 2 ^ 8, addr.toNat, par.toNat] ++ data.map (fun w => w.toNat)))]).take
      data.length).map (BitVec.ofNat 32) = data := by
    rw [List.take_append_of_le_length (by simp), List.take_of_length_le (by simp)]
    simp [Function.comp_def]
  simp only [packetOf, packetWords, sealed, List.cons_append, List.nil_append, List.getD_cons_zero, List.getD_cons_succ,
    List.drop_succ_cons, List.drop_zero, List.length_cons, List.length_append, List.length_map, List.length_nil, Packet.mk.injEq,
    true_and]
  refine ⟨?_, ?_, ?_, ?_, ?_, ?_, ?_, ?_⟩
  · rw [hop]; simp
  · exact BitVec.eq_of_toNat_eq (by simpa using hfl)
  · rw [htag]; simp
  · exact Fin.ext hseat
  · exact BitVec.eq_of_toNat_eq (by simpa using htxn)
  · simp
  · simp
  · simpa using hdata

/-- Every word of a packet is a 32-bit number. -/
theorem packetWords_lt (p : Packet) (h : p.data.length ≤ 1019) : (packetWords p).all (fun w => decide (w < 2 ^ 32)) = true := by
  refine sealed_all_lt (fun x hx => ?_)
  have hop := p.opcode.isLt
  have hfl := p.flags.isLt
  have htag := p.tag.isLt
  have hseat := p.seat.isLt
  have htxn := p.txn.isLt
  simp only [List.cons_append, List.nil_append, List.mem_cons, List.mem_map] at hx
  obtain rfl | rfl | rfl | rfl | ⟨w, -, rfl⟩ := hx
  · omega
  · omega
  · exact p.address.isLt
  · exact p.parameter.isLt
  · exact w.isLt

theorem packetWords_length (p : Packet) : (packetWords p).length = p.data.length + 5 := by
  simp [packetWords, sealed_length]

/-- LENGTH in word 0 is the number of words. -/
theorem packetWords_LENGTH (p : Packet) (h : p.data.length ≤ 1019) :
    (packetWords p).getD 0 0 % 65536 = (packetWords p).length := by
  rw [packetWords_length]
  exact (word0_fields (op := p.opcode.toNat) (len := p.data.length + 5) p.flags.isLt (by omega)).2.2

end Sys2Proof.Machine

namespace Sys2Proof.Proofs
open Sys2Proof.Machine

/-- Settles O58: word by word, the CRC apart. -/
theorem packetsSurviveTheirWords : Obligations.PacketsSurviveTheirWords := fun p h =>
  ⟨packetOf_packetWords p h, crcHolds_sealed _, packetWords_length p, packetWords_LENGTH p h, packetWords_lt p h⟩

end Sys2Proof.Proofs
end

section
/-! Registers and their fields: where the fields of a register that the map finds stand in the store, which fields no seat
writes, and the bookkeeping of "every field but these". -/

namespace Sys2Proof.Machine

/-! ### The map -/

/-- The fields of a register share its word: one layout, lowest bits below 32 and all different. -/
def RegD.inOneWord (r : RegD) : Bool :=
  match r.fields with
  | [] => true
  | d :: _ => r.fields.all (fun e => e.fld.base == d.fld.base && e.fld.outerStride == d.fld.outerStride && e.fld.inner == d.fld.inner
      && e.fld.innerStride == d.fld.innerStride && decide (e.fld.lsb < 32)) && decide ((r.fields.map (fun e => e.fld.lsb)).Nodup)

theorem blockMaps_inOneWord : blockMaps.all (fun l => l.all RegD.inOneWord) = true := by decide +kernel

/-- A copy that stands at a place has that place, and is one of those listed. -/
theorem Fld.copy?_eq_some {f : Fld} {k n : Nat} (h : f.copy? k = some n) : f.key n = k ∧ n < f.copies := by
  simp only [Fld.copy?, Option.ite_none_right_eq_some, Option.some.injEq] at h
  obtain ⟨⟨hn, hk⟩, rfl⟩ := h
  exact ⟨hk, hn⟩

section
variable {addr n : Nat} {r : RegD}

/-- What holds of every register of the map holds of the one that it finds, whose copy stands at the address. -/
theorem findReg_forall {p : RegD → Bool} (hp : blockMaps.all (fun l => l.all p) = true) (h : findReg addr = some (r, n)) :
    p r = true ∧ r.copyAt addr = some n := by
  unfold findReg at h
  split at h
  · obtain ⟨q, hq, hqr⟩ := List.exists_of_findSome?_eq_some h
    obtain ⟨m, hm, he⟩ := Option.map_eq_some_iff.mp hqr
    obtain ⟨rfl, rfl⟩ := Prod.mk.inj he
    refine ⟨?_, hm⟩
    rw [List.getD_eq_getElem?_getD] at hq
    cases hl : blockMaps[unitOf addr]? with
    | none => simp [hl] at hq
    | some l =>
      rw [hl, Option.getD_some] at hq
      exact List.all_eq_true.mp (List.all_eq_true.mp hp l (List.mem_of_getElem? hl)) q hq
  · cases h

/-- Each field of the register at an address stands at that address, at its own lowest bit. -/
theorem findReg_key (h : findReg addr = some (r, n)) {d : FieldD} (hd : d ∈ r.fields) :
    d.fld.key n = addr * 32 + d.fld.lsb ∧ d.fld.lsb < 32 := by
  obtain ⟨hw, hc⟩ := findReg_forall blockMaps_inOneWord h
  cases hf : r.fields with
  | nil => simp [hf] at hd
  | cons e l =>
    simp only [RegD.copyAt, hf] at hc
    simp only [RegD.inOneWord, hf, Bool.and_eq_true, List.all_eq_true, beq_iff_eq, decide_eq_true_eq] at hw
    rw [hf] at hd
    obtain ⟨⟨⟨⟨hb, ho⟩, hi⟩, hs⟩, hl⟩ := hw.1 d hd
    have he := (Fld.copy?_eq_some hc).1
    simp only [Fld.key, Fld.addr] at he ⊢
    rw [hb, ho, hi, hs]
    omega

/-- Two fields of one register at the same place are the same field. -/
theorem findReg_key_inj (h : findReg addr = some (r, n)) {d e : FieldD} (hd : d ∈ r.fields) (he : e ∈ r.fields)
    (hk : d.fld.key n = e.fld.key n) : d = e := by
  have hl : d.fld.lsb = e.fld.lsb := by
    have := (findReg_key h hd).1
    have := (findReg_key h he).1
    omega
  obtain ⟨hw, -⟩ := findReg_forall blockMaps_inOneWord h
  cases hf : r.fields with
  | nil => simp [hf] at hd
  | cons x l =>
    simp only [RegD.inOneWord, hf, Bool.and_eq_true, decide_eq_true_eq] at hw
    rw [hf] at hd he
    exact List.inj_on_of_nodup_map hw.2 hd he hl

/-- Fields of registers at different addresses stand at different places. -/
theorem findReg_key_ne {addr' n' : Nat} {r' : RegD} (h : findReg addr = some (r, n)) (h' : findReg addr' = some (r', n'))
    (ha : addr ≠ addr') {d e : FieldD} (hd : d ∈ r.fields) (he : e ∈ r'.fields) : d.fld.key n ≠ e.fld.key n' := by
  have := findReg_key h hd
  have := findReg_key h' he
  omega

theorem regOf_eq (h : findReg addr = some (r, n)) : regOf addr = r := by simp [regOf, h]
theorem copyNo_eq (h : findReg addr = some (r, n)) : copyNo addr = n := by simp [copyNo, h]

/-- Where the map has a register, it is the one named by regOf and copyNo. -/
theorem findReg_of_isSome (h : (findReg addr).isSome = true) : findReg addr = some (regOf addr, copyNo addr) := by
  obtain ⟨⟨r, n⟩, hx⟩ := Option.isSome_iff_exists.mp h
  rw [regOf_eq hx, copyNo_eq hx, hx]

end

/-- Copy n of a field is not for a seat to write: where the map finds it, it is read-only. -/
def Fld.readOnlyAt (f : Fld) (n : Nat) : Bool :=
  decide (f.lsb < 32) &&
    (match findReg (f.addr n) with
      | some (r, _) => r.fields.all (fun d => d.fld.lsb != f.lsb || d.acc == .ro)
      | none => true)

/-- No field that a seat writes or that a read clears stands at the place of a read-only one. -/
theorem Fld.readOnlyAt_key_ne {f : Fld} {m addr n : Nat} {r : RegD} {d : FieldD} (hf : f.readOnlyAt m = true)
    (h : findReg addr = some (r, n)) (hd : d ∈ r.fields) (ha : d.acc ≠ .ro) : f.key m ≠ d.fld.key n := by
  intro hk
  obtain ⟨he, hl⟩ := findReg_key h hd
  simp only [Fld.readOnlyAt, Bool.and_eq_true, decide_eq_true_eq] at hf
  obtain ⟨hfl, hro⟩ := hf
  rw [he] at hk
  simp only [Fld.key] at hk
  have haddr : f.addr m = addr := by omega
  rw [haddr, h] at hro
  have := List.all_eq_true.mp hro d hd
  simp only [Bool.or_eq_true, bne_iff_ne, beq_iff_eq] at this
  rcases this with hne | hro
  · omega
  · exact ha hro

theorem digestFields_readOnly : ∀ x ∈ digestFields, x.1.readOnlyAt x.2 = true := by decide +kernel

theorem seatFields_readOnly (e : Fin 4) : ∀ x ∈ seatFields e.val, x.1.readOnlyAt x.2 = true := by
  revert e; decide +kernel

theorem half_SW_RESET : (regOf (F.SYS_SW_RESET_KEY.addr 0)).half = .whole := by rw [regOf_eq findReg_SYS_SW_RESET]

/-- No register that is one half of a pair asks for a reset. -/
theorem resetWrite_of_half {w : StagedWord} (h : (regOf w.addr).half ≠ .whole) : resetWrite w = false := by
  have hne : w.addr ≠ A.SYS_SW_RESET := by
    intro ha
    rw [ha, show A.SYS_SW_RESET = F.SYS_SW_RESET_KEY.addr 0 from by decide] at h
    exact h half_SW_RESET
  unfold resetWrite
  rw [beq_eq_false_iff_ne.mpr hne, Bool.false_and, Bool.false_and]

/-! ### Every field but these -/

section
variable {s t u : State} {l l' : List (Fld × Nat)}

theorem RegsBut.of_regs (h : t.regs = s.regs) : RegsBut s t l := fun f n _ => State.rd_congr h f n

theorem RegsBut.refl : RegsBut s s l := RegsBut.of_regs rfl

theorem RegsBut.mono (h : RegsBut s t l) (hl : ∀ x ∈ l, x ∈ l') : RegsBut s t l' :=
  fun f n hf => h f n (fun x hx => hf x (hl x hx))

theorem RegsBut.trans (h : RegsBut s t l) (h' : RegsBut t u l) : RegsBut s u l :=
  fun f n hf => (h' f n hf).trans (h f n hf)

theorem RegsBut.append (h : RegsBut s t l) (h' : RegsBut t u l') : RegsBut s u (l ++ l') :=
  (h.mono (fun _ hx => List.mem_append_left _ hx)).trans (h'.mono (fun _ hx => List.mem_append_right _ hx))

theorem RegsBut.wr (h : RegsBut s t l) {f : Fld} {n : Nat} (v : Nat) (hf : (f, n) ∈ l) : RegsBut s (t.wr f n v) l :=
  fun g m hg => (State.rd_wr_other t f g (n := n) (m := m) (hg (f, n) hf) v).trans (h g m hg)

/-- A read looks at the register store alone. -/
theorem RegsBut.congr (h : RegsBut s t l) (hu : u.regs = t.regs) : RegsBut s u l := h.trans (RegsBut.of_regs hu)

/-- An entry of D changes no register but CFG_DIGEST (R523). -/
theorem RegsBut.extendD (s : State) (kind seat txn addr mask : Nat) (data : List Nat) :
    RegsBut s (s.extendD kind seat txn addr mask data) digestFields := fun f n hf =>
  s.rd_extendD kind seat txn addr mask data f n
    (fun w hw => hf (F.IDN_CFG_DIGEST_VALUE, w) (List.mem_map.mpr ⟨w, List.mem_range.mpr hw, rfl⟩))

/-- A field that a seat writes, or that a read clears, is none of those that are read-only. -/
theorem RegsBut.rd_field (h : RegsBut s t l) (hl : ∀ x ∈ l, x.1.readOnlyAt x.2 = true) {addr n : Nat} {r : RegD} {d : FieldD}
    (hf : findReg addr = some (r, n)) (hd : d ∈ r.fields) (ha : d.acc ≠ .ro) : t.rd d.fld n = s.rd d.fld n :=
  h d.fld n (fun x hx => Fld.readOnlyAt_key_ne (hl x hx) hf hd ha)

end

/-! ### A word written (R8, R10) -/

section
variable (s : State) (n mask value : Nat)

/-- The fields of a word set one after the other, each to what a write in `s` makes of it. -/
def State.setFields (t : State) (l : List FieldD) : State :=
  l.foldl (fun t d => if s.written d n mask value = s.rd d.fld n then t else t.wr d.fld n (s.written d n mask value)) t

theorem State.setFields_cons (t : State) (d : FieldD) (l : List FieldD) :
    s.setFields n mask value t (d :: l) = s.setFields n mask value
      (if s.written d n mask value = s.rd d.fld n then t else t.wr d.fld n (s.written d n mask value)) l := rfl

theorem State.poke_setFields (r : RegD) : ∃ k, s.poke r n mask value =
    { s.setFields n mask value s (s.fieldsOf r n) with rwSet := k } := ⟨_, rfl⟩

theorem State.setFields_eq (t : State) (l : List FieldD) : ∃ m, s.setFields n mask value t l = { t with regs := m } := by
  induction l generalizing t with
  | nil => exact ⟨t.regs, rfl⟩
  | cons d l ih =>
    obtain ⟨m, hm⟩ := ih (if s.written d n mask value = s.rd d.fld n then t else t.wr d.fld n (s.written d n mask value))
    rw [State.setFields_cons, hm]
    split
    · exact ⟨m, rfl⟩
    · exact ⟨m, rfl⟩

theorem State.setFields_rd_other (t : State) (l : List FieldD) (g : Fld) (k : Nat) (h : ∀ d ∈ l, d.fld.key n ≠ g.key k) :
    (s.setFields n mask value t l).rd g k = t.rd g k := by
  induction l generalizing t with
  | nil => rfl
  | cons d l ih =>
    rw [State.setFields_cons, ih _ (fun e he => h e (List.mem_cons_of_mem d he))]
    split
    · rfl
    · exact State.rd_wr_other t _ _ (h d List.mem_cons_self) _

theorem State.setFields_rd (t : State) (l : List FieldD) (hk : (l.map (fun d => d.fld.key n)).Nodup)
    (ht : ∀ d ∈ l, t.rd d.fld n = s.rd d.fld n) {d : FieldD} (hd : d ∈ l) :
    (s.setFields n mask value t l).rd d.fld n = s.written d n mask value % 2 ^ d.fld.width := by
  induction l generalizing t with
  | nil => cases hd
  | cons e l ih =>
    rw [List.map_cons, List.nodup_cons, List.mem_map] at hk
    obtain ⟨he, hk⟩ := hk
    rw [State.setFields_cons]
    rcases List.mem_cons.mp hd with rfl | hd
    · rw [State.setFields_rd_other _ _ _ _ _ _ _ _ (fun x hx hxd => he ⟨x, hx, hxd⟩)]
      split
      · next hw => rw [ht d List.mem_cons_self, hw, Nat.mod_eq_of_lt (s.rd_lt d.fld n)]
      · exact State.rd_wr_same t _ _ _
    · refine ih _ hk (fun x hx => ?_) hd
      have hne : e.fld.key n ≠ x.fld.key n := fun h => he ⟨x, hx, h.symm⟩
      split
      · exact ht x (List.mem_cons_of_mem e hx)
      · rw [State.rd_wr_other t _ _ hne, ht x (List.mem_cons_of_mem e hx)]

variable {s n mask value} {r : RegD}

/-- The fields that a write reaches are fields of the register. -/
theorem State.fieldsOf_sublist (s : State) (r : RegD) (n : Nat) : (s.fieldsOf r n).Sublist r.fields := by
  unfold State.fieldsOf
  split
  · split
    · split
      · exact List.Sublist.refl _
      · exact List.nil_sublist _
    · exact List.Sublist.refl _
  · exact List.Sublist.refl _

theorem State.mem_of_mem_fieldsOf {d : FieldD} (h : d ∈ s.fieldsOf r n) : d ∈ r.fields := (s.fieldsOf_sublist r n).subset h

/-- A write reaches every field of a register, the taps of a lane apart (R404). -/
theorem State.fieldsOf_eq (s : State) (n : Nat) (h : r.base ≠ A.LAN_LANE_TX_COEF) : s.fieldsOf r n = r.fields := by
  simp [State.fieldsOf, h]

/-- A word written moves its fields, and the note of the fields that a seat wrote in this tick. -/
theorem State.poke_eq (s : State) (r : RegD) (n mask value : Nat) :
    ∃ m k, s.poke r n mask value = { s with regs := m, rwSet := k } := by
  obtain ⟨k, hk⟩ := s.poke_setFields n mask value r
  obtain ⟨m, hm⟩ := s.setFields_eq n mask value s (s.fieldsOf r n)
  exact ⟨m, k, by rw [hk, hm]⟩

theorem RegsBut.poke (s : State) (r : RegD) (n mask value : Nat) :
    RegsBut s (s.poke r n mask value) (r.fields.map (fun d => (d.fld, n))) := by
  intro g k hg
  exact s.setFields_rd_other n mask value s (s.fieldsOf r n) g k
    (fun d hd => hg (d.fld, n) (List.mem_map.mpr ⟨d, State.mem_of_mem_fieldsOf hd, rfl⟩))

/-- The fields of the register at an address stand at different places. -/
theorem findReg_keys_nodup {addr : Nat} (h : findReg addr = some (r, n)) : (r.fields.map (fun d => d.fld.key n)).Nodup := by
  have hl : (r.fields.map (fun d => d.fld.lsb)).Nodup := by
    obtain ⟨hw, -⟩ := findReg_forall blockMaps_inOneWord h
    cases hf : r.fields with
    | nil => simp
    | cons d l =>
      simp only [RegD.inOneWord, hf, Bool.and_eq_true, decide_eq_true_eq] at hw
      exact hw.2
  refine List.Nodup.map_on (fun d hd e he hk => findReg_key_inj h hd he hk) (List.Nodup.of_map _ hl)

/-- A field reads back what the write makes of it, to its width. -/
theorem State.rd_poke {addr : Nat} (h : findReg addr = some (r, n)) {d : FieldD} (hd : d ∈ s.fieldsOf r n) :
    (s.poke r n mask value).rd d.fld n = s.written d n mask value % 2 ^ d.fld.width :=
  s.setFields_rd n mask value s _ ((findReg_keys_nodup h).sublist ((s.fieldsOf_sublist r n).map _)) (fun _ _ => rfl) hd

end

end Sys2Proof.Machine
end

section
/-! A seat's direct writes (R9, R440, R441, R444): the checks of one word, the two forms that a direct write takes, and what a
register or a pair holds after it. -/

namespace Sys2Proof.Machine

/-! ### Lists as small arrays, and the seats -/

theorem upd_eq_self {α : Type} {l : List α} {e : Nat} {f : α → α} {d : α} (h : f (nth l e d) = nth l e d) : upd l e f = l := by
  induction l generalizing e with
  | nil => rfl
  | cons x l ih =>
    cases e with
    | zero => simpa [upd, nth] using h
    | succ e =>
      have : upd l e f = l := ih (by simpa [nth] using h)
      simp [upd, this]

theorem upd_length {α : Type} (l : List α) (e : Nat) (f : α → α) : (upd l e f).length = l.length := by
  induction l generalizing e with
  | nil => rfl
  | cons x l ih => cases e <;> simp [upd, ih]

theorem nth_upd_same {α : Type} {l : List α} {e : Nat} (f : α → α) (d : α) (h : e < l.length) :
    nth (upd l e f) e d = f (nth l e d) := by
  induction l generalizing e with
  | nil => cases h
  | cons x l ih =>
    cases e with
    | zero => rfl
    | succ e => simpa [upd, nth] using ih (Nat.lt_of_succ_lt_succ h)

section
variable (s : State) (e : Nat) (f : Seat → Seat)

@[simp] theorem State.setSeat_regs : (s.setSeat e f).regs = s.regs := rfl
@[simp] theorem State.setSeat_tim : (s.setSeat e f).tim = s.tim := rfl
@[simp] theorem State.setSeat_qsg : (s.setSeat e f).qsg = s.qsg := rfl
@[simp] theorem State.setSeat_flights : (s.setSeat e f).cmd.flights = s.cmd.flights := rfl
@[simp] theorem State.setSeat_txns : (s.setSeat e f).cmd.txns = s.cmd.txns := rfl
@[simp] theorem State.setSeat_seats_length : (s.setSeat e f).cmd.seats.length = s.cmd.seats.length := upd_length _ _ _

theorem State.seat_setSeat_same (h : e < s.cmd.seats.length) : (s.setSeat e f).seat e = f (s.seat e) :=
  nth_upd_same f {} h

/-- A seat set to what it is. -/
theorem State.setSeat_eq_self (h : f (s.seat e) = s.seat e) : s.setSeat e f = s := by
  have : upd s.cmd.seats e f = s.cmd.seats := upd_eq_self h
  simp only [State.setSeat, State.setCmd, this]

end

/-- An implicit transaction without entries stages no rows. -/
theorem Tbl.stageRows_nil (b : Tbl) (txn now : Nat) : b.stageRows txn now [] = b := by simp [Tbl.stageRows]

theorem eq_ok_of_toOption {ε α : Type} {x : Except ε α} {a : α} (h : x.toOption = some a) : x = .ok a := by
  cases x with
  | ok v => rw [← Option.some.inj h]
  | error e => cases h

/-! ### The checks of one word (R441) -/

/-- A write passes where its seat may write the register, its transaction stands, what a quiesced field needs stopped is stopped, no other
transaction holds the word, its values are in range and its unit agrees. -/
theorem State.tryWord_ok {force s t : State} {seat txn n : Nat} {w : StagedWord} {r : RegD} (hf : findReg w.addr = some (r, n))
    (hm : force.mayWrite seat r n w.mask w.value = true)
    (hq : force.classOf r n w.mask w.value = .q → txn = 0 ∧ force.stopped (s.poke r n w.mask w.value) r n = true)
    (hh : force.wordHeld txn w.addr = false)
    (hr : (s.fieldsOf r n).all (fun d => !s.outOfRange d n w.mask w.value) = true)
    (hu : s.unitOk (s.poke r n w.mask w.value) r n w.mask = .ok ()) (ha : s.applyWord seat w = .ok t) :
    force.tryWord s seat txn (pure ()) w = .ok (force.classOf r n w.mask w.value, t) := by
  have hq1 : (force.classOf r n w.mask w.value != .q || txn == 0 || decide (4096 ≤ txn)) = true := by
    by_cases h : force.classOf r n w.mask w.value = .q
    · simp [hq h]
    · simp [h]
  have hq2 : (force.classOf r n w.mask w.value != .q || force.stopped (s.poke r n w.mask w.value) r n) = true := by
    by_cases h : force.classOf r n w.mask w.value = .q
    · simp [hq h]
    · simp [h]
  simp only [State.tryWord, hf, hm, hq1, hq2, hh, hr, hu, ha, need, pure, Except.pure, bind, Except.bind, Bool.or_true, Bool.not_false,
    if_true]

/-- A write that passes tells its class, and what it comes to. -/
theorem State.tryWord_of_class {force s : State} {seat txn : Nat} {st : Except Status Unit} {w : StagedWord} {c : Cls}
    (h : ((force.tryWord s seat txn st w).toOption).map (fun x => x.1) = some c) : ∃ t, force.tryWord s seat txn st w = .ok (c, t) := by
  cases hx : force.tryWord s seat txn st w with
  | ok v => rw [hx] at h; exact ⟨v.2, by rw [← Option.some.inj h]⟩
  | error e => rw [hx] at h; cases h

/-- A value out of range is refused, where the checks before it let the write through. -/
theorem State.tryWord_outOfRange {force s : State} {seat txn n : Nat} {w : StagedWord} {r : RegD} (hf : findReg w.addr = some (r, n))
    (hm : force.mayWrite seat r n w.mask w.value = true) (hq : force.classOf r n w.mask w.value ≠ .q)
    (hh : force.wordHeld txn w.addr = false)
    (hr : (s.fieldsOf r n).all (fun d => !s.outOfRange d n w.mask w.value) = false) :
    force.tryWord s seat txn (pure ()) w = .error .badAddress := by
  have hq' : (force.classOf r n w.mask w.value != .q) = true := by simpa using hq
  simp only [State.tryWord, hf, hm, hq', hh, hr, need, pure, Except.pure, bind, Except.bind, Bool.or_true, Bool.true_or, Bool.not_false,
    if_true, Bool.false_eq_true, if_false]

/-- A register all of whose fields are live is written in class L (R12). -/
theorem State.classOf_live (s : State) {r : RegD} (h : ∀ d ∈ r.fields, d.cls = .l) (n mask value : Nat) :
    s.classOf r n mask value = .l := by
  have hc : ∀ c ∈ ((s.fieldsOf r n).filter (fun d => s.changes d n mask value)).map (fun d => d.cls), c = .l := by
    intro c hc
    obtain ⟨d, hd, rfl⟩ := List.mem_map.mp hc
    exact h d (State.mem_of_mem_fieldsOf (List.mem_filter.mp hd).1)
  have hne : ∀ c : Cls, c ≠ .l →
      (((s.fieldsOf r n).filter (fun d => s.changes d n mask value)).map (fun d => d.cls)).contains c = false := by
    intro c hcl
    rw [List.contains_eq_mem]
    exact decide_eq_false (fun hm => hcl (hc c hm))
  simp only [State.classOf, hne .q (by decide), hne .s (by decide), Bool.false_and, Bool.false_eq_true, if_false]

section
variable {s t u : State} {seat addr value mask n : Nat} {r : RegD}

/-- A seat's write that comes at once passes its checks. -/
theorem State.WritesAtOnce.tryWord (h : s.WritesAtOnce seat addr value mask)
    (ha : (s.applyWord seat ⟨addr, mask, value⟩).toOption = some t) :
    ∃ c, c ≠ .s ∧ s.tryWord s seat 0 (pure ()) ⟨addr, mask, value⟩ = .ok (c, t) := by
  obtain ⟨⟨-, hh, -⟩, hsome, -, hm, hc, hq, hr, hu, -⟩ := h
  refine ⟨_, hc, State.tryWord_ok (w := ⟨addr, mask, value⟩) (findReg_of_isSome hsome) hm (fun h => ⟨rfl, hq h⟩) hh hr ?_ ?_⟩
  · cases hx : s.unitOk (s.poke (regOf addr) (copyNo addr) mask value) (regOf addr) (copyNo addr) mask with
    | ok _ => rfl
    | error e => rw [hx] at hu; cases hu
  · exact eq_ok_of_toOption ha

/-! ### A direct write (R444) -/

/-- A word of a direct write passes its checks: its effect, and its entry in D (R523). -/
def Direct.enter (x : Direct) (seat : Nat) (w : StagedWord) (c : Cls) (t : State) : Direct :=
  ⟨t.extendD 0 seat 0 w.addr w.mask [w.value], x.words ++ [w], x.anyS || c == .s⟩

/-- A write that is not held back for its pair: its words enter in order, and the staging register is left as told. -/
theorem Direct.word_one {x : Direct} {w v : StagedWord} {staging : Option (Nat × Nat)} {c : Cls}
    (hp : x.t.pairWords seat w = ([v], staging)) (ht : x.t.tryWord x.t seat 0 (pure ()) v = .ok (c, t)) :
    x.word seat w = .ok { x.enter seat v c t with t := (x.enter seat v c t).t.setSeat seat (fun e => { e with staging := staging }) } := by
  have ht : x.t.tryWord x.t seat 0 (.ok ()) v = .ok (c, t) := ht
  simp only [Direct.word, Direct.enter, hp, List.cons_ne_nil, if_false, List.foldlM_cons, List.foldlM_nil, ht, bind, Except.bind, pure,
    Except.pure]

theorem Direct.word_two {x : Direct} {w v v' : StagedWord} {staging : Option (Nat × Nat)} {c d : Cls}
    (hp : x.t.pairWords seat w = ([v, v'], staging)) (ht : x.t.tryWord x.t seat 0 (pure ()) v = .ok (c, t))
    (hu : (x.enter seat v c t).t.tryWord (x.enter seat v c t).t seat 0 (pure ()) v' = .ok (d, u)) :
    x.word seat w = .ok { (x.enter seat v c t).enter seat v' d u with
      t := ((x.enter seat v c t).enter seat v' d u).t.setSeat seat (fun e => { e with staging := staging }) } := by
  have ht : x.t.tryWord x.t seat 0 (.ok ()) v = .ok (c, t) := ht
  have hu : (t.extendD 0 seat 0 v.addr v.mask [v.value]).tryWord (t.extendD 0 seat 0 v.addr v.mask [v.value]) seat 0 (.ok ()) v'
    = .ok (d, u) := hu
  simp only [Direct.word, Direct.enter, hp, List.cons_ne_nil, if_false, List.foldlM_cons, List.foldlM_nil, ht, hu, bind, Except.bind,
    pure, Except.pure]

/-- A write of a lo half waits in the staging register, once its checks pass (R9). -/
theorem Direct.word_none {x : Direct} {w : StagedWord} {staging : Option (Nat × Nat)} {c : Cls} (hp : x.t.pairWords seat w = ([], staging))
    (ht : x.t.tryWord x.t seat 0 (pure ()) { w with mask := 0 } = .ok (c, t)) :
    x.word seat w = .ok { x with t := x.t.setSeat seat (fun e => { e with staging := staging }) } := by
  have ht : x.t.tryWord x.t seat 0 (.ok ()) { w with mask := 0 } = .ok (c, t) := ht
  simp only [Direct.word, hp, if_true, List.foldlM_nil, ht, bind, Except.bind, pure, Except.pure]

/-- The state that a direct write of one word at once comes to: the word's own effect, its entry in D, the staging register as it was. -/
def State.wroteWord (s : State) (seat addr value mask : Nat) (t : State) : State :=
  (t.extendD 0 seat 0 addr mask [value]).setSeat seat (fun e => { e with staging := (s.seat seat).staging })

theorem State.pairWords_whole (s : State) (seat mask value : Nat) (hf : findReg addr = some (r, n)) (hw : r.half = .whole) :
    s.pairWords seat ⟨addr, mask, value⟩ = ([⟨addr, mask, value⟩], (s.seat seat).staging) := by
  simp [State.pairWords, hf, hw]

/-- A direct write of one word of a whole register that is not of class S is applied at once. -/
theorem State.writeDirect_now {c : Cls} (hf : findReg addr = some (r, n)) (hw : r.half = .whole)
    (ht : s.tryWord s seat 0 (pure ()) ⟨addr, mask, value⟩ = .ok (c, t)) (hc : c ≠ .s) (waiting : Option Packet) :
    s.writeDirect seat [⟨addr, mask, value⟩] waiting = .ok (s.wroteWord seat addr value mask t, false) := by
  have hx := Direct.word_one (x := ⟨s, [], false⟩) (s.pairWords_whole seat mask value hf hw) ht
  simp [State.writeDirect, hx, Direct.enter, hc, State.wroteWord, bind, Except.bind, pure, Except.pure]

/-- One of class S becomes an implicit transaction of its word, and has no effect of its own yet (R444). -/
theorem State.writeDirect_shadowed (hf : findReg addr = some (r, n)) (hw : r.half = .whole)
    (ht : s.tryWord s seat 0 (pure ()) ⟨addr, mask, value⟩ = .ok (.s, t)) (waiting : Option Packet) :
    ∃ staging, s.writeDirect seat [⟨addr, mask, value⟩] waiting =
      .ok ((s.setSeat seat (fun e => { e with staging := staging })).implicitTxn seat [⟨addr, mask, value⟩] [] waiting, true) := by
  have hx := Direct.word_one (x := ⟨s, [], false⟩) (s.pairWords_whole seat mask value hf hw) ht
  refine ⟨((s.wroteWord seat addr value mask t).seat seat).staging, ?_⟩
  simp [State.writeDirect, hx, Direct.enter, State.wroteWord, bind, Except.bind, pure, Except.pure]

theorem State.writeDirect_error {c : Status} (hf : findReg addr = some (r, n)) (hw : r.half = .whole)
    (ht : s.tryWord s seat 0 (pure ()) ⟨addr, mask, value⟩ = .error c) (waiting : Option Packet) :
    s.writeDirect seat [⟨addr, mask, value⟩] waiting = .error c := by
  have ht : s.tryWord s seat 0 (.ok ()) ⟨addr, mask, value⟩ = .error c := ht
  simp [State.writeDirect, Direct.word, s.pairWords_whole seat mask value hf hw, ht, bind, Except.bind, pure, Except.pure]

/-! ### What a write at once leaves -/

/-- Beside the word's own effect a write at once moves CFG_DIGEST and the identity block, and sets the staging register to what it was. -/
theorem State.wroteWord_eq (s : State) (seat addr value mask : Nat) (t : State) :
    ∃ m i, s.wroteWord seat addr value mask t =
      { t.setSeat seat (fun e => { e with staging := (s.seat seat).staging }) with regs := m, idn := i } := by
  obtain ⟨m, i, h⟩ := t.extendD_eq 0 seat 0 addr mask [value]
  exact ⟨m, i, by rw [State.wroteWord, h]; rfl⟩

theorem RegsBut.wroteWord (s : State) (seat addr value mask : Nat) (t : State) :
    RegsBut t (s.wroteWord seat addr value mask t) digestFields :=
  (RegsBut.extendD t 0 seat 0 addr mask [value]).congr (by rw [State.wroteWord, State.setSeat_regs])

/-- Where a word only sets its fields, nothing else changes but the identity block. -/
theorem State.wroteWord_poke (s : State) (seat addr value mask : Nat) (r : RegD) (n : Nat) :
    ∃ m k i, s.wroteWord seat addr value mask (s.poke r n mask value) = { s with regs := m, rwSet := k, idn := i } := by
  obtain ⟨m, i, h⟩ := s.wroteWord_eq seat addr value mask (s.poke r n mask value)
  obtain ⟨m', k, hp⟩ := s.poke_eq r n mask value
  have hs : (s.poke r n mask value).setSeat seat (fun e => { e with staging := (s.seat seat).staging }) = s.poke r n mask value :=
    State.setSeat_eq_self _ _ _ (by rw [hp]; rfl)
  exact ⟨m, k, i, by rw [h, hs, hp]⟩

/-- The fields of a word that a seat writes read back what the write makes of them. -/
theorem State.rd_wroteWord_poke (hf : findReg addr = some (r, n)) {d : FieldD} (hd : d ∈ s.fieldsOf r n) (ha : d.acc ≠ .ro) :
    (s.wroteWord seat addr value mask (s.poke r n mask value)).rd d.fld n = s.written d n mask value % 2 ^ d.fld.width := by
  rw [(RegsBut.wroteWord s seat addr value mask _).rd_field digestFields_readOnly hf (State.mem_of_mem_fieldsOf hd) ha]
  exact State.rd_poke hf hd

/-- A word that only sets its fields changes no register but its own and CFG_DIGEST. -/
theorem RegsBut.wroteWord_poke (s : State) (seat addr value mask : Nat) (r : RegD) (n : Nat) :
    RegsBut s (s.wroteWord seat addr value mask (s.poke r n mask value)) (r.fields.map (fun d => (d.fld, n)) ++ digestFields) :=
  (RegsBut.poke s r n mask value).append (RegsBut.wroteWord s seat addr value mask _)

/-- A write that sets a field of its own: rw and w1c are not read-only. -/
theorem FieldD.not_ro {d : FieldD} (h : d.acc = .rw ∨ d.acc = .w1c) : d.acc ≠ .ro := by
  rcases h with h | h <;> rw [h] <;> decide

/-! ### The row's frame (R31, R440) -/

theorem State.inside_answer_regs (s t : State) (c : Status) (data : List Nat) : (s.inside (t.answer c data)).regs = t.regs := rfl

theorem State.rd_inside_answer (s t : State) (c : Status) (data : List Nat) (f : Fld) (n : Nat) :
    (s.inside (t.answer c data)).rd f n = t.rd f n := rfl

/-- After class 3 of its tick a seat's direct write that is not refused answers OK. -/
theorem State.seatWrite_of_writeDirect {b : Bool} (hl : s.live = true) (h3 : s.Settled)
    (hd : s.writeDirect seat [⟨addr, mask, value⟩] none = .ok (t, b)) (hs : resetWrite ⟨addr, mask, value⟩ = false) :
    s.seatWrite seat addr value mask = s.inside (t.answer .ok) := by
  have h3 : s.classThree = s := h3
  rw [State.seatWrite, State.whenLive_true s hl]
  simp only [h3, hd, hs, Bool.false_eq_true, if_false]

theorem State.seatWrite_error {c : Status} (hl : s.live = true) (h3 : s.Settled)
    (hd : s.writeDirect seat [⟨addr, mask, value⟩] none = .error c) :
    s.seatWrite seat addr value mask = s.inside ((s.noteRefusal c).answer c) := by
  have h3 : s.classThree = s := h3
  rw [State.seatWrite, State.whenLive_true s hl]
  simp only [h3, hd]

end

end Sys2Proof.Machine
end

section
/-! The two halves of a pair written by a seat (R9), and the registers whose writes only set their fields. -/

namespace Sys2Proof.Machine

/-! ### Pairs (R9) -/

/-- Taps are written by words of their own, never as one half of a pair (R404). -/
theorem half_of_base_TX_COEF {addr n : Nat} {r : RegD} (h : findReg addr = some (r, n)) (hh : r.half ≠ .whole) :
    r.base ≠ A.LAN_LANE_TX_COEF := by
  intro hb
  have := (findReg_forall (p := fun r => r.base != A.LAN_LANE_TX_COEF || r.half == .whole) (by decide +kernel) h).1
  simp [hb, hh] at this

/-- The lo half that a seat's staging register holds for the pair whose hi half stands at an address, or 0 (R9). -/
def State.stagedLo (s : State) (seat addr : Nat) : Nat :=
  match (s.seat seat).staging with
  | some (x, v) => if x + 4 = addr then v else 0
  | none => 0

section
variable {s t : State} {seat addr value mask n m : Nat} {r q : RegD} {c d : Cls}

theorem State.pairWords_lo (hf : findReg addr = some (r, n)) (hh : r.half = .lo) :
    s.pairWords seat ⟨addr, mask, value⟩ = ([], some (addr, masked (s.wordAt addr) mask value)) := by
  simp [State.pairWords, hf, hh]

theorem State.pairWords_hi (hf : findReg addr = some (r, n)) (hh : r.half = .hi) :
    s.pairWords seat ⟨addr, mask, value⟩ = ([⟨addr - 4, 0xFFFFFFFF, s.stagedLo seat addr⟩, ⟨addr, mask, value⟩], none) := by
  simp only [State.pairWords, hf, hh]
  rfl

/-- A pair is written by way of its halves' rows where the map has that half. -/
theorem State.pairWrite_half (s : State) (seat value mask : Nat) (hf : findReg addr = some (r, n)) :
    s.pairWrite seat addr value mask r.half = s.seatWrite seat addr value mask := by
  simp [State.pairWrite, hf]

/-- The lo half waits in the staging register, merged under its mask, and no register changes. -/
theorem State.pairWrite_lo (hl : s.live = true) (h3 : s.Settled) (hf : findReg addr = some (r, n)) (hh : r.half = .lo)
    (ht : s.tryWord s seat 0 (pure ()) ⟨addr, 0, value⟩ = .ok (c, t)) :
    s.pairWrite seat addr value mask .lo =
      { s.setSeat seat (fun e => { e with staging := some (addr, masked (s.wordAt addr) mask value) }) with resp := some ⟨.ok, []⟩ } := by
  have hd : s.writeDirect seat [⟨addr, mask, value⟩] none =
      .ok (s.setSeat seat (fun e => { e with staging := some (addr, masked (s.wordAt addr) mask value) }), false) := by
    have hx := Direct.word_none (x := ⟨s, [], false⟩) (State.pairWords_lo (mask := mask) (value := value) hf hh) ht
    simp [State.writeDirect, hx, bind, Except.bind, pure, Except.pure]
  rw [← hh, s.pairWrite_half seat value mask hf, State.seatWrite_of_writeDirect hl h3 hd (resetWrite_of_half (by rw [regOf_eq hf, hh]; decide))]
  rfl

/-- A word of a direct write that only sets its fields, and its entry in D. -/
def State.wrote (s : State) (seat addr value mask : Nat) (r : RegD) (n : Nat) : State :=
  (s.poke r n mask value).extendD 0 seat 0 addr mask [value]

/-- What is left when both halves of a pair have set their fields, one after the other, with an empty staging register. -/
def State.wrotePair (s : State) (seat addr value mask lo : Nat) (q r : RegD) (n : Nat) : State :=
  ((s.wrote seat (addr - 4) lo 0xFFFFFFFF q n).wrote seat addr value mask r n).setSeat seat (fun e => { e with staging := none })

/-- The hi half brings the staged lo half with it, where both come at once (R9, R444). -/
theorem State.pairWrite_hi (hl : s.live = true) (h3 : s.Settled) (hf : findReg addr = some (r, n)) (hh : r.half = .hi)
    (hc : c ≠ .s) (hd : d ≠ .s)
    (ht : s.tryWord s seat 0 (pure ()) ⟨addr - 4, 0xFFFFFFFF, s.stagedLo seat addr⟩ = .ok (c, s.poke q n 0xFFFFFFFF (s.stagedLo seat addr)))
    {u : State} (hue : u = (s.poke q n 0xFFFFFFFF (s.stagedLo seat addr)).extendD 0 seat 0 (addr - 4) 0xFFFFFFFF [s.stagedLo seat addr])
    (hu : u.tryWord u seat 0 (pure ()) ⟨addr, mask, value⟩ = .ok (d, u.poke r n mask value)) :
    s.pairWrite seat addr value mask .hi =
      s.inside ((s.wrotePair seat addr value mask (s.stagedLo seat addr) q r n).answer .ok) := by
  subst hue
  have hx := Direct.word_two (x := ⟨s, [], false⟩) (State.pairWords_hi (mask := mask) (value := value) hf hh) ht hu
  have hw : s.writeDirect seat [⟨addr, mask, value⟩] none = .ok (s.wrotePair seat addr value mask (s.stagedLo seat addr) q r n, false) := by
    simp [State.writeDirect, hx, Direct.enter, hc, hd, State.wrotePair, State.wrote, bind, Except.bind, pure, Except.pure]
  rw [← hh, s.pairWrite_half seat value mask hf, State.seatWrite_of_writeDirect hl h3 hw (resetWrite_of_half (by rw [regOf_eq hf, hh]; decide))]

variable (s seat value mask) (lo : Nat)

theorem State.wrote_eq (addr : Nat) (r : RegD) (n : Nat) :
    ∃ m k i, s.wrote seat addr value mask r n = { s with regs := m, rwSet := k, idn := i } := by
  obtain ⟨m, k, h⟩ := s.poke_eq r n mask value
  obtain ⟨m', i, h'⟩ := (s.poke r n mask value).extendD_eq 0 seat 0 addr mask [value]
  exact ⟨m', k, i, by rw [State.wrote, h', h]⟩

theorem State.wrotePair_eq (addr : Nat) (q r : RegD) (n : Nat) : ∃ m k i, s.wrotePair seat addr value mask lo q r n =
    { s.setSeat seat (fun e => { e with staging := none }) with regs := m, rwSet := k, idn := i } := by
  obtain ⟨m, k, i, h⟩ := s.wrote_eq seat lo 0xFFFFFFFF (addr - 4) q n
  obtain ⟨m', k', i', h'⟩ := (s.wrote seat (addr - 4) lo 0xFFFFFFFF q n).wrote_eq seat value mask addr r n
  exact ⟨m', k', i', by rw [State.wrotePair, h', h]; rfl⟩

theorem RegsBut.wrote (addr : Nat) (r : RegD) (n : Nat) :
    RegsBut s (s.wrote seat addr value mask r n) (r.fields.map (fun d => (d.fld, n)) ++ digestFields) :=
  (RegsBut.poke s r n mask value).append (RegsBut.extendD _ 0 seat 0 addr mask [value])

theorem RegsBut.wrotePair (addr : Nat) (q r : RegD) (n : Nat) : RegsBut s (s.wrotePair seat addr value mask lo q r n)
    (q.fields.map (fun d => (d.fld, n)) ++ r.fields.map (fun d => (d.fld, n)) ++ digestFields) := by
  have hu := (RegsBut.wrote s seat lo 0xFFFFFFFF (addr - 4) q n).append (RegsBut.wrote _ seat value mask addr r n)
  refine (hu.mono fun x hx => ?_).congr (by rw [State.wrotePair, State.setSeat_regs])
  simp only [List.mem_append] at hx ⊢
  tauto

variable {s seat value mask lo}

/-- A word leaves the fields of every other register alone that are not read-only. -/
theorem State.rd_wrote_other {addr' k : Nat} (hr : findReg addr = some (r, n)) (hq : findReg addr' = some (q, k)) (ha : addr ≠ addr')
    {d : FieldD} (hd : d ∈ q.fields) (hrw : d.acc ≠ .ro) : (s.wrote seat addr value mask r n).rd d.fld k = s.rd d.fld k := by
  refine ((RegsBut.extendD _ 0 seat 0 addr mask [value]).rd_field digestFields_readOnly hq hd hrw).trans ?_
  refine RegsBut.poke s r n mask value d.fld k (fun x hx => ?_)
  obtain ⟨e, he, rfl⟩ := List.mem_map.mp hx
  exact findReg_key_ne hr hq ha he hd

/-- A field of the word reads back what the write makes of it. -/
theorem State.rd_wrote (hr : findReg addr = some (r, n)) {d : FieldD} (hd : d ∈ s.fieldsOf r n) (hrw : d.acc ≠ .ro) :
    (s.wrote seat addr value mask r n).rd d.fld n = s.written d n mask value % 2 ^ d.fld.width :=
  ((RegsBut.extendD _ 0 seat 0 addr mask [value]).rd_field digestFields_readOnly hr (State.mem_of_mem_fieldsOf hd) hrw).trans
    (State.rd_poke hr hd)

/-- The value of a field after a write depends on what the field holds, and on what the hardware has set of it. -/
theorem State.written_congr {s u : State} {d : FieldD} {n : Nat} (h : u.rd d.fld n = s.rd d.fld n) (hh : u.hwSet = s.hwSet)
    (mask value : Nat) : u.written d n mask value = s.written d n mask value := by
  simp only [State.written, h, hh]

theorem State.rd_wrotePair (s : State) (seat addr value mask lo : Nat) (q r : RegD) (n : Nat) (f : Fld) (k : Nat) :
    (s.wrotePair seat addr value mask lo q r n).rd f k =
      ((s.wrote seat (addr - 4) lo 0xFFFFFFFF q n).wrote seat addr value mask r n).rd f k := by
  simp only [State.wrotePair, State.rd, State.setSeat_regs]

/-- The lo half reads back as it was staged. -/
theorem State.rd_wrotePair_lo (hq : findReg (addr - 4) = some (q, n)) (hr : findReg addr = some (r, n)) (ha : addr - 4 ≠ addr)
    {d : FieldD} (hd : d ∈ s.fieldsOf q n) (hrw : d.acc ≠ .ro) :
    (s.wrotePair seat addr value mask lo q r n).rd d.fld n = s.written d n 0xFFFFFFFF lo % 2 ^ d.fld.width := by
  rw [State.rd_wrotePair, State.rd_wrote_other hr hq ha.symm (State.mem_of_mem_fieldsOf hd) hrw, State.rd_wrote hq hd hrw]

/-- The hi half reads back what its own write makes of it. -/
theorem State.rd_wrotePair_hi (hq : findReg (addr - 4) = some (q, n)) (hr : findReg addr = some (r, n)) (ha : addr - 4 ≠ addr)
    (hh : r.half = .hi) {d : FieldD} (hd : d ∈ r.fields) (hrw : d.acc ≠ .ro) :
    (s.wrotePair seat addr value mask lo q r n).rd d.fld n = s.written d n mask value % 2 ^ d.fld.width := by
  have hb : r.base ≠ A.LAN_LANE_TX_COEF := half_of_base_TX_COEF hr (by rw [hh]; decide)
  obtain ⟨m, k, i, he⟩ := s.wrote_eq seat lo 0xFFFFFFFF (addr - 4) q n
  rw [State.rd_wrotePair, State.rd_wrote hr (by rw [State.fieldsOf_eq _ n hb]; exact hd) hrw,
    State.written_congr (State.rd_wrote_other hq hr ha hd hrw) (by rw [he])]

end

/-! ### Registers whose writes only set their fields -/

/-- A register of class L whose writes set nothing going and meet no rule of its block. -/
structure RegD.Plain (r : RegD) : Prop where
  hook : ∀ (s t : State) (seat n mask value : Nat), s.hook t seat r n mask value = .ok t
  unitOk : ∀ (s v : State) (n mask : Nat), s.unitOk v r n mask = .ok ()
  base : r.base ≠ A.TRP_BASE ∧ r.base ≠ A.LAN_LANE_TX_COEF
  live : ∀ d ∈ r.fields, d.cls = .l

/-- The part takes a word of a plain register where its seat may write it, no other transaction holds it and its values are in range. -/
theorem RegD.Plain.tryWord {r : RegD} (hp : r.Plain) {force s : State} {seat txn n : Nat} {w : StagedWord}
    (hf : findReg w.addr = some (r, n)) (hm : force.mayWrite seat r n w.mask w.value = true) (hh : force.wordHeld txn w.addr = false)
    (hr : r.fields.all (fun d => !s.outOfRange d n w.mask w.value) = true) :
    force.tryWord s seat txn (pure ()) w = .ok (.l, s.poke r n w.mask w.value) := by
  have hc := force.classOf_live hp.live n w.mask w.value
  have hb : s.sharedBase r n = false := by
    rw [State.sharedBase, beq_eq_false_iff_ne.mpr hp.base.1, Bool.false_and, Bool.false_and]
  have ha : s.applyWord seat w = .ok (s.poke r n w.mask w.value) := by
    simp only [State.applyWord, hf, hb, Bool.false_eq_true, if_false, hp.hook]
  rw [← s.fieldsOf_eq n hp.base.2] at hr
  rw [← hc]
  exact State.tryWord_ok hf hm (by rw [hc]; intro h; cases h) hh hr (hp.unitOk _ _ _ _) ha

/-- TIM.STEP_NS, which takes nanoseconds below a second. -/
def stepNs : RegD := ⟨"TIM.STEP_NS", A.TIM_STEP_NS, .seat0, .whole, [fdOk F.TIM_STEP_NS_VALUE .rw .l (within 0 999999999)]⟩
/-- The source address of a port, a pair. -/
def portSaLo : RegD := ⟨"MAC.PORT_SA_LO", A.MAC_PORT_SA_LO, .port, .lo, [fd F.MAC_PORT_SA_LO_VALUE .rw .l]⟩
def portSaHi : RegD := ⟨"MAC.PORT_SA_HI", A.MAC_PORT_SA_HI, .port, .hi, [fd F.MAC_PORT_SA_HI_VALUE .rw .l]⟩

theorem stepNs_plain : stepNs.Plain where
  hook _ _ _ _ _ _ := rfl
  unitOk _ _ _ _ := rfl
  base := by decide
  live := by decide
theorem portSaLo_plain : portSaLo.Plain where
  hook _ _ _ _ _ _ := rfl
  unitOk _ _ _ _ := rfl
  base := by decide
  live := by decide
theorem portSaHi_plain : portSaHi.Plain where
  hook _ _ _ _ _ _ := rfl
  unitOk _ _ _ _ := rfl
  base := by decide
  live := by decide

/-- All bits of a field that the mask holds are taken from the value. -/
theorem masked_ones (w old v : Nat) (h : old < 2 ^ w) : masked old (2 ^ w - 1) v = v % 2 ^ w := by
  simp only [masked, Nat.and_two_pow_sub_one_eq_mod, Nat.mod_eq_of_lt h, Nat.xor_self, Nat.zero_or]

/-- A field without a rule of its own, written in full, takes the value. -/
theorem State.written_full (s : State) (d : FieldD) (n : Nat) {mask : Nat} (value : Nat) (ha : d.acc = .rw) (hn : ∀ v, d.norm n v = v)
    (hx : d.fixedAt n = false) (hm : d.fld.part mask = 2 ^ d.fld.width - 1) (hw : d.fld.width ≠ 0) :
    s.written d n mask value = d.fld.part value := by
  have h1 : 2 ≤ 2 ^ d.fld.width := Nat.le_self_pow hw 2
  have h0 : ¬ (2 ^ d.fld.width - 1 = 0 ∨ d.fixedAt n = true) := by
    rw [hx]; simp only [Bool.false_eq_true, or_false]; omega
  have hv : d.fld.part value < 2 ^ d.fld.width := Nat.mod_lt _ (Nat.two_pow_pos _)
  simp only [State.written, hm, h0, if_false, ha, hn, masked_ones _ _ _ (s.rd_lt d.fld n), Nat.mod_eq_of_lt hv]

/-- A value that fits is the number of its word. -/
theorem word_toNat {a : Nat} (h : a < 2 ^ 32) : (BitVec.ofNat 32 a).toNat = a := by
  rw [BitVec.toNat_ofNat, Nat.mod_eq_of_lt h]

/-! ### TIM.STEP_NS -/

theorem findReg_stepNs : findReg (F.TIM_STEP_NS_VALUE.addr 0) = some (stepNs, 0) := findReg_TIM_STEP_NS

/-- Of the values of its 30 bits, written in full, STEP_NS takes those below a second. -/
theorem stepNs_inRange (s : State) {v : Nat} (hv : v < 2 ^ 30) :
    stepNs.fields.all (fun d => !s.outOfRange d 0 0xFFFFFFFF v) = decide (v < 1000000000) := by
  have hm : masked (s.rd F.TIM_STEP_NS_VALUE 0) (F.TIM_STEP_NS_VALUE.part 0xFFFFFFFF) (F.TIM_STEP_NS_VALUE.part v) = v := by
    have hp : F.TIM_STEP_NS_VALUE.part v = v := by simpa [Fld.part, F.TIM_STEP_NS_VALUE] using hv
    rw [hp]
    exact (masked_ones 30 _ v (s.rd_lt F.TIM_STEP_NS_VALUE 0)).trans (Nat.mod_eq_of_lt hv)
  have h0 : (F.TIM_STEP_NS_VALUE.part 0xFFFFFFFF != 0) = true := rfl
  simp only [stepNs, fdOk, State.outOfRange, List.all_cons, List.all_nil, hm, h0, within, Nat.zero_le, true_and, beq_self_eq_true,
    Bool.not_false, Bool.and_true, Bool.true_and, Bool.not_not]
  exact decide_eq_decide.mpr (by omega)

/-- STEP_NS written in full takes the value. -/
theorem stepNs_written (s : State) {v : Nat} (h : v < 1000000000) :
    s.written (fdOk F.TIM_STEP_NS_VALUE .rw .l (within 0 999999999)) 0 0xFFFFFFFF v % 2 ^ 30 = v := by
  have hv : v % 2 ^ 30 = v := Nat.mod_eq_of_lt (by omega)
  rw [State.written_full s _ 0 v rfl (fun _ => rfl) rfl rfl (by decide)]
  simpa [fdOk, Fld.part, F.TIM_STEP_NS_VALUE] using hv

end Sys2Proof.Machine
end

section
/-! The clauses on what a seat writes (R9, R10, R426, R440, R444): one theorem each. -/

namespace Sys2Proof.Proofs
open Sys2Proof.Machine

section
variable {s u : State} {seat : Fin 4} {addr value mask : Word}

theorem exec_registerWrite (seat : Fin 4) (addr value mask : Word) (s : State) :
    exec (.registerWrite seat false addr value mask) s = .next (s.seatWrite seat.val addr.toNat value.toNat mask.toNat) := rfl

theorem exec_pairLoWrite (seat : Fin 4) (addr value mask : Word) (s : State) :
    exec (.pairLoWrite seat addr value mask) s = .next (s.pairWrite seat.val addr.toNat value.toNat mask.toNat .lo) := rfl

theorem exec_pairHiWrite (seat : Fin 4) (addr value mask : Word) (s : State) :
    exec (.pairHiWrite seat addr value mask) s = .next (s.pairWrite seat.val addr.toNat value.toNat mask.toNat .hi) := rfl

/-- A write at once answers OK, with the word's own effect and its entry in D. -/
theorem registerWrite_effect (h : s.WritesAtOnce seat.val addr.toNat value.toNat mask.toNat)
    (ha : (s.applyWord seat.val ⟨addr.toNat, mask.toNat, value.toNat⟩).toOption = some u) :
    exec (.registerWrite seat false addr value mask) s =
      .next (s.inside ((s.wroteWord seat.val addr.toNat value.toNat mask.toNat u).answer .ok)) := by
  obtain ⟨c, hc, ht⟩ := h.tryWord ha
  obtain ⟨⟨hl, -, h3⟩, hsome, hw, -, -, -, -, -, hs⟩ := h
  rw [exec_registerWrite, State.seatWrite_of_writeDirect hl h3 (State.writeDirect_now (findReg_of_isSome hsome) hw ht hc none) hs]

theorem registerWrite_effect_completes (h : s.WritesAtOnce seat.val addr.toNat value.toNat mask.toNat)
    (ha : (s.applyWord seat.val ⟨addr.toNat, mask.toNat, value.toNat⟩).toOption = some u) :
    Completes (.registerWrite seat false addr value mask) s (fun t => t.resp = some ⟨.ok, []⟩ ∧ RegsBut u t digestFields ∧
      t = { u with regs := t.regs, idn := t.idn, cmd := t.cmd, resp := t.resp, pins := t.pins, pending := s.pending } ∧
      t.cmd = (u.setSeat seat.val (fun e => { e with staging := (s.seat seat.val).staging })).cmd) := by
  refine ⟨_, registerWrite_effect h ha, rfl, (RegsBut.wroteWord s _ _ _ _ u).congr (State.inside_answer_regs _ _ _ _), ?_⟩
  obtain ⟨m, i, he⟩ := s.wroteWord_eq seat.val addr.toNat value.toNat mask.toNat u
  rw [he]
  exact ⟨rfl, rfl⟩

/-- Where the write sets nothing going, the fields hold what was written and nothing else changes but CFG_DIGEST. -/
theorem registerWrite_poke_completes (h : s.WritesAtOnce seat.val addr.toNat value.toNat mask.toNat)
    (ha : (s.applyWord seat.val ⟨addr.toNat, mask.toNat, value.toNat⟩).toOption =
      some (s.poke (regOf addr.toNat) (copyNo addr.toNat) mask.toNat value.toNat)) :
    Completes (.registerWrite seat false addr value mask) s (fun t => t.resp = some ⟨.ok, []⟩ ∧
      (∀ d ∈ s.fieldsOf (regOf addr.toNat) (copyNo addr.toNat), d.acc = .rw ∨ d.acc = .w1c →
        t.rd d.fld (copyNo addr.toNat) = s.written d (copyNo addr.toNat) mask.toNat value.toNat % 2 ^ d.fld.width) ∧
      RegsBut s t ((regOf addr.toNat).fields.map (fun d => (d.fld, copyNo addr.toNat)) ++ digestFields) ∧
      t = { s with regs := t.regs, rwSet := t.rwSet, idn := t.idn, resp := t.resp }) := by
  have hf := findReg_of_isSome h.2.1
  refine ⟨_, registerWrite_effect h ha, rfl, fun d hd hacc => ?_, 
    (RegsBut.wroteWord_poke s _ _ _ _ _ _).congr (State.inside_answer_regs _ _ _ _), ?_⟩
  · rw [State.rd_inside_answer]
    exact State.rd_wroteWord_poke hf hd (FieldD.not_ro hacc)
  · obtain ⟨m, k, i, he⟩ := s.wroteWord_poke seat.val addr.toNat value.toNat mask.toNat (regOf addr.toNat) (copyNo addr.toNat)
    rw [he]
    rfl

/-- A write of class S begins an implicit transaction and changes no register yet (R444). -/
theorem registerWrite_shadowed_completes (hfree : s.Free addr.toNat)
    (hf : (findReg addr.toNat).isSome = true ∧ (regOf addr.toNat).half = .whole)
    (hc : ((s.tryWord s seat.val 0 (pure ()) ⟨addr.toNat, mask.toNat, value.toNat⟩).toOption).map (fun x => x.1) = some .s)
    (hs : resetWrite ⟨addr.toNat, mask.toNat, value.toNat⟩ = false) :
    Completes (.registerWrite seat false addr value mask) s (fun t => t.resp = some ⟨.ok, []⟩ ∧
      t.cmd.txns.map (fun x => x.id) = s.cmd.txns.map (fun x => x.id) ++ [4096 + s.syn.nextAction] ∧
      (t.cmd.txns.getLast?).map (fun x => (x.seat, x.implicit, x.words, x.entries)) =
        some (seat.val, true, [⟨addr.toNat, mask.toNat, value.toNat⟩], []) ∧
      t = { s with cmd := t.cmd, syn := t.syn, resp := t.resp }) := by
  obtain ⟨hl, -, h3⟩ := hfree
  obtain ⟨v, ht⟩ := State.tryWord_of_class hc
  obtain ⟨staging, hd⟩ := State.writeDirect_shadowed (findReg_of_isSome hf.1) hf.2 ht none
  refine ⟨_, by rw [exec_registerWrite, State.seatWrite_of_writeDirect hl h3 hd hs], rfl, ?_, ?_, ?_⟩
  · simp [State.implicitTxn, State.setSeat, State.setCmd, State.answer]
  · simp [State.implicitTxn, State.answer]
  · simp only [State.implicitTxn, Tbl.stageRows_nil, State.setSeat, State.setCmd, State.answer, State.inside]

end

/-! ### TIM.STEP_NS, a live register -/

theorem exec_stepNs (value : Word) (s : State) :
    exec (.registerWrite 0 false (BitVec.ofNat 32 (F.TIM_STEP_NS_VALUE.addr 0)) value 0xFFFFFFFF) s =
      .next (s.seatWrite 0 (F.TIM_STEP_NS_VALUE.addr 0) value.toNat 0xFFFFFFFF) := rfl

theorem registerWrite_stepNs_completes {s : State} {value : Word} (hfree : s.Free (F.TIM_STEP_NS_VALUE.addr 0))
    (hv : value.toNat < 1000000000) :
    Completes (.registerWrite 0 false (BitVec.ofNat 32 (F.TIM_STEP_NS_VALUE.addr 0)) value 0xFFFFFFFF) s (fun t =>
      t.resp = some ⟨.ok, []⟩ ∧ t.rd F.TIM_STEP_NS_VALUE = value.toNat ∧ t.tim = s.tim ∧
        RegsBut s t ((F.TIM_STEP_NS_VALUE, 0) :: digestFields)) := by
  obtain ⟨hl, hh, h3⟩ := hfree
  have ht := stepNs_plain.tryWord (force := s) (s := s) (seat := 0) (txn := 0) (w := ⟨F.TIM_STEP_NS_VALUE.addr 0, 0xFFFFFFFF, value.toNat⟩)
    findReg_stepNs rfl hh (by rw [stepNs_inRange s (show value.toNat < 2 ^ 30 by omega)]; simpa using hv)
  have hd := State.writeDirect_now findReg_stepNs rfl ht (by decide) none
  refine ⟨_, by rw [exec_stepNs, State.seatWrite_of_writeDirect hl h3 hd rfl], rfl, ?_, ?_, ?_⟩
  · rw [State.rd_inside_answer]
    exact (State.rd_wroteWord_poke findReg_stepNs List.mem_cons_self (by decide)).trans (stepNs_written s hv)
  · obtain ⟨m, k, i, he⟩ := s.wroteWord_poke 0 (F.TIM_STEP_NS_VALUE.addr 0) value.toNat 0xFFFFFFFF stepNs 0
    rw [he]
    rfl
  · exact (RegsBut.wroteWord_poke s 0 _ value.toNat 0xFFFFFFFF stepNs 0).congr (State.inside_answer_regs _ _ _ _)

theorem registerWrite_stepNs_refused {s : State} {value : Word} (hfree : s.Free (F.TIM_STEP_NS_VALUE.addr 0))
    (hv : 1000000000 ≤ value.toNat ∧ value.toNat < 2 ^ 30) :
    Completes (.registerWrite 0 false (BitVec.ofNat 32 (F.TIM_STEP_NS_VALUE.addr 0)) value 0xFFFFFFFF) s (fun t =>
      t = { s with resp := some ⟨.badAddress, []⟩ }) := by
  obtain ⟨hl, hh, h3⟩ := hfree
  have hc := s.classOf_live stepNs_plain.live 0 0xFFFFFFFF value.toNat
  have ht := State.tryWord_outOfRange (force := s) (s := s) (seat := 0) (txn := 0)
    (w := ⟨F.TIM_STEP_NS_VALUE.addr 0, 0xFFFFFFFF, value.toNat⟩) findReg_stepNs rfl (by rw [hc]; decide) hh
    (by rw [State.fieldsOf_eq _ _ stepNs_plain.base.2, stepNs_inRange s hv.2]; simpa using hv.1)
  exact ⟨_, by rw [exec_stepNs, State.seatWrite_error hl h3 (State.writeDirect_error findReg_stepNs rfl ht none)]; rfl, rfl⟩

/-! ### Pairs -/

section
variable {s : State} {seat : Fin 4} {addr value mask : Word}

theorem pairLoWrite_completes (hfree : s.Free addr.toNat ∧ s.cmd.seats.length = 4)
    (hf : (findReg addr.toNat).isSome = true ∧ (regOf addr.toNat).half = .lo)
    (ht : (s.tryWord s seat.val 0 (pure ()) ⟨addr.toNat, 0, value.toNat⟩).toBool = true) :
    Completes (.pairLoWrite seat addr value mask) s (fun t =>
      (t.seat seat.val).staging = some (addr.toNat, masked (s.wordAt addr.toNat) mask.toNat value.toNat) ∧
      t = { s.setSeat seat.val (fun e => { e with staging := some (addr.toNat, masked (s.wordAt addr.toNat) mask.toNat value.toNat) })
        with resp := some ⟨.ok, []⟩ }) := by
  obtain ⟨⟨hl, -, h3⟩, hlen⟩ := hfree
  cases hx : s.tryWord s seat.val 0 (pure ()) ⟨addr.toNat, 0, value.toNat⟩ with
  | error e => rw [hx] at ht; cases ht
  | ok v =>
    refine ⟨_, by rw [exec_pairLoWrite, State.pairWrite_lo hl h3 (findReg_of_isSome hf.1) hf.2 hx], ?_, rfl⟩
    exact congrArg Seat.staging (s.seat_setSeat_same seat.val
      (fun e => { e with staging := some (addr.toNat, masked (s.wordAt addr.toNat) mask.toNat value.toNat) }) (by omega))

theorem pairHiWrite_completes {lo : Nat} {c d : Cls} {u : State}
    (hfree : s.Free addr.toNat ∧ s.wordHeld 0 (addr.toNat - 4) = false ∧ s.cmd.seats.length = 4)
    (hf : (findReg (addr.toNat - 4)).isSome = true ∧ (regOf (addr.toNat - 4)).half = .lo ∧ (findReg addr.toNat).isSome = true ∧
      (regOf addr.toNat).half = .hi ∧ copyNo (addr.toNat - 4) = copyNo addr.toNat)
    (hcd : c ≠ .s ∧ d ≠ .s) (hlo : lo = s.stagedLo seat.val addr.toNat)
    (ht : (s.tryWord s seat.val 0 (pure ()) ⟨addr.toNat - 4, 0xFFFFFFFF, lo⟩).toOption =
      some (c, s.poke (regOf (addr.toNat - 4)) (copyNo addr.toNat) 0xFFFFFFFF lo))
    (hue : u = (s.poke (regOf (addr.toNat - 4)) (copyNo addr.toNat) 0xFFFFFFFF lo).extendD 0 seat.val 0 (addr.toNat - 4) 0xFFFFFFFF [lo])
    (hu : (u.tryWord u seat.val 0 (pure ()) ⟨addr.toNat, mask.toNat, value.toNat⟩).toOption =
      some (d, u.poke (regOf addr.toNat) (copyNo addr.toNat) mask.toNat value.toNat)) :
    Completes (.pairHiWrite seat addr value mask) s (fun t => t.resp = some ⟨.ok, []⟩ ∧ (t.seat seat.val).staging = none ∧
      (∀ d ∈ s.fieldsOf (regOf (addr.toNat - 4)) (copyNo addr.toNat), d.acc = .rw →
        t.rd d.fld (copyNo addr.toNat) = s.written d (copyNo addr.toNat) 0xFFFFFFFF lo % 2 ^ d.fld.width) ∧
      (∀ d ∈ s.fieldsOf (regOf addr.toNat) (copyNo addr.toNat), d.acc = .rw →
        t.rd d.fld (copyNo addr.toNat) = s.written d (copyNo addr.toNat) mask.toNat value.toNat % 2 ^ d.fld.width) ∧
      RegsBut s t ((regOf (addr.toNat - 4)).fields.map (fun d => (d.fld, copyNo addr.toNat)) ++
        (regOf addr.toNat).fields.map (fun d => (d.fld, copyNo addr.toNat)) ++ digestFields) ∧
      t = { s with regs := t.regs, rwSet := t.rwSet, idn := t.idn, cmd := t.cmd, resp := t.resp }) := by
  obtain ⟨⟨hl, -, h3⟩, -, hlen⟩ := hfree
  obtain ⟨hfq, hhq, hfr, hhr, hn⟩ := hf
  have hr := findReg_of_isSome hfr
  have hq := findReg_of_isSome hfq
  rw [hn] at hq
  have hne : addr.toNat - 4 ≠ addr.toNat := by
    intro he; rw [he, hhr] at hhq; cases hhq
  subst hlo
  refine ⟨_, by rw [exec_pairHiWrite, State.pairWrite_hi hl h3 hr hhr hcd.1 hcd.2 (eq_ok_of_toOption ht) hue
    (eq_ok_of_toOption hu)], rfl, ?_, fun d hd hrw => ?_, fun d hd hrw => ?_, ?_, ?_⟩
  · obtain ⟨m, k, i, he⟩ := s.wrotePair_eq seat.val value.toNat mask.toNat (s.stagedLo seat.val addr.toNat) addr.toNat
      (regOf (addr.toNat - 4)) (regOf addr.toNat) (copyNo addr.toNat)
    rw [he]
    exact congrArg Seat.staging (s.seat_setSeat_same seat.val (fun e => { e with staging := none }) (by omega))
  · rw [State.rd_inside_answer]
    exact State.rd_wrotePair_lo hq hr hne hd (FieldD.not_ro (.inl hrw))
  · rw [State.rd_inside_answer]
    exact State.rd_wrotePair_hi hq hr hne hhr (State.mem_of_mem_fieldsOf hd) (FieldD.not_ro (.inl hrw))
  · exact (RegsBut.wrotePair s _ _ _ _ _ _ _ _).congr (State.inside_answer_regs _ _ _ _)
  · obtain ⟨m, k, i, he⟩ := s.wrotePair_eq seat.val value.toNat mask.toNat (s.stagedLo seat.val addr.toNat) addr.toNat
      (regOf (addr.toNat - 4)) (regOf addr.toNat) (copyNo addr.toNat)
    rw [he]
    rfl

end

/-! ### The source address of a port, a pair -/

section
variable {s : State} {seat : Fin 4} {p : Fin 518} {value : Word}

theorem portSaLo_toNat (p : Fin 518) : (BitVec.ofNat 32 (F.MAC_PORT_SA_LO_VALUE.addr p.val)).toNat = F.MAC_PORT_SA_LO_VALUE.addr p.val := by
  revert p; decide +kernel

theorem portSaHi_toNat (p : Fin 518) : (BitVec.ofNat 32 (F.MAC_PORT_SA_HI_VALUE.addr p.val)).toNat = F.MAC_PORT_SA_HI_VALUE.addr p.val := by
  revert p; decide +kernel

/-- The halves stand side by side. -/
theorem portSaHi_addr (p : Fin 518) : F.MAC_PORT_SA_HI_VALUE.addr p.val = F.MAC_PORT_SA_LO_VALUE.addr p.val + 4 := by
  revert p; decide +kernel

theorem findReg_portSaLo (p : Fin 518) : findReg (F.MAC_PORT_SA_LO_VALUE.addr p.val) = some (portSaLo, p.val) := findReg_MAC_PORT_SA_LO p

theorem findReg_portSaHi (p : Fin 518) : findReg (F.MAC_PORT_SA_HI_VALUE.addr p.val) = some (portSaHi, p.val) := findReg_MAC_PORT_SA_HI p

/-- The lo half is a word of 32 bits, all of the one field. -/
theorem wordAt_portSaLo (s : State) (p : Fin 518) : s.wordAt (F.MAC_PORT_SA_LO_VALUE.addr p.val) < 2 ^ 32 := by
  have hb : ¬ (portSaLo.base = A.LAN_PORT_STATUS ∧ !s.on F.LAN_PORT_CFG_EN p.val) := fun h => absurd h.1 (by decide)
  simp only [State.wordAt, findReg_portSaLo, State.wordOf, if_neg hb]
  simp only [portSaLo, fd, sumOf, List.foldl_cons, List.foldl_nil, reduceCtorEq, if_false, Fld.place, Nat.zero_add]
  exact lt_of_eq_of_lt (Nat.mul_one _) (Nat.mod_lt _ (Nat.two_pow_pos _))

theorem pairLoWrite_portSa_completes (hfree : s.Free (F.MAC_PORT_SA_LO_VALUE.addr p.val))
    (hown : s.ownsPort seat.val p.val = true ∧ s.cmd.seats.length = 4) :
    Completes (.pairLoWrite seat (BitVec.ofNat 32 (F.MAC_PORT_SA_LO_VALUE.addr p.val)) value 0xFFFFFFFF) s (fun t =>
      t.resp = some ⟨.ok, []⟩ ∧ (t.seat seat.val).staging = some (F.MAC_PORT_SA_LO_VALUE.addr p.val, value.toNat) ∧
      t.rd F.MAC_PORT_SA_LO_VALUE p.val = s.rd F.MAC_PORT_SA_LO_VALUE p.val ∧ RegsBut s t []) := by
  have ha := portSaLo_toNat p
  have hf := findReg_portSaLo p
  have ht := portSaLo_plain.tryWord (force := s) (s := s) (txn := 0)
    (w := ⟨F.MAC_PORT_SA_LO_VALUE.addr p.val, 0, value.toNat⟩) hf hown.1 hfree.2.1 (by simp [portSaLo, fd, State.outOfRange])
  obtain ⟨t, hx, hst, he⟩ := pairLoWrite_completes (seat := seat) (addr := BitVec.ofNat 32 (F.MAC_PORT_SA_LO_VALUE.addr p.val))
    (value := value) (mask := 0xFFFFFFFF) (by rw [ha]; exact ⟨hfree, hown.2⟩)
    (by rw [ha, regOf_eq hf, hf]; exact ⟨rfl, rfl⟩) (by rw [ha, ht]; rfl)
  have hm : masked (s.wordAt (F.MAC_PORT_SA_LO_VALUE.addr p.val)) (BitVec.toNat (0xFFFFFFFF : Word)) value.toNat = value.toNat :=
    (masked_ones 32 _ _ (wordAt_portSaLo s p)).trans (Nat.mod_eq_of_lt value.isLt)
  rw [ha, hm] at hst
  have hr : t.regs = s.regs := by rw [he]; rfl
  exact ⟨t, hx, by rw [he], hst, State.rd_congr hr _ _, RegsBut.of_regs hr⟩

/-- A port's address tells nothing of the partitions. -/
theorem ownsPort_wrote_portSaLo (s : State) (seat : Fin 4) (p : Fin 518) (lo : Nat) :
    (s.wrote seat.val (F.MAC_PORT_SA_LO_VALUE.addr p.val) lo 0xFFFFFFFF portSaLo p.val).ownsPort seat.val p.val = s.ownsPort seat.val p.val := by
  have hb := RegsBut.wrote s seat.val lo 0xFFFFFFFF (F.MAC_PORT_SA_LO_VALUE.addr p.val) portSaLo p.val F.CMD_SEAT_PORTS_PORTS
    (seat.val * 17 + p.val / 32) (fun x hx => ?_)
  · simp only [State.ownsPort, hb]
  · have := seat.isLt
    have := p.isLt
    simp only [portSaLo, fd, digestFields, List.map_cons, List.map_nil, List.cons_append, List.nil_append, List.mem_cons, List.mem_map,
      List.mem_range] at hx
    obtain rfl | ⟨w, hw, rfl⟩ := hx
    · simp only [Fld.key, Fld.addr, F.MAC_PORT_SA_LO_VALUE, F.CMD_SEAT_PORTS_PORTS, A.MAC_PORT_SA_LO, A.CMD_SEAT_PORTS]
      omega
    · simp only [Fld.key, Fld.addr, F.IDN_CFG_DIGEST_VALUE, F.CMD_SEAT_PORTS_PORTS, A.IDN_CFG_DIGEST, A.CMD_SEAT_PORTS]
      omega

theorem pairHiWrite_portSa_completes {lo : Nat}
    (hfree : s.Free (F.MAC_PORT_SA_HI_VALUE.addr p.val) ∧ s.wordHeld 0 (F.MAC_PORT_SA_LO_VALUE.addr p.val) = false)
    (hown : s.ownsPort seat.val p.val = true ∧ s.cmd.seats.length = 4)
    (hst : (s.seat seat.val).staging = some (F.MAC_PORT_SA_LO_VALUE.addr p.val, lo)) :
    Completes (.pairHiWrite seat (BitVec.ofNat 32 (F.MAC_PORT_SA_HI_VALUE.addr p.val)) value 0xFFFFFFFF) s (fun t =>
      t.resp = some ⟨.ok, []⟩ ∧ t.rd F.MAC_PORT_SA_LO_VALUE p.val = lo % 2 ^ 32 ∧
      t.rd F.MAC_PORT_SA_HI_VALUE p.val = value.toNat % 2 ^ 16 ∧ (t.seat seat.val).staging = none ∧
      RegsBut s t ((F.MAC_PORT_SA_LO_VALUE, p.val) :: (F.MAC_PORT_SA_HI_VALUE, p.val) :: digestFields)) := by
  have ha := portSaHi_toNat p
  have hlo : F.MAC_PORT_SA_HI_VALUE.addr p.val - 4 = F.MAC_PORT_SA_LO_VALUE.addr p.val := by rw [portSaHi_addr]; rfl
  have hfl := findReg_portSaLo p
  have hfh := findReg_portSaHi p
  have hstaged : lo = s.stagedLo seat.val (F.MAC_PORT_SA_HI_VALUE.addr p.val) := by
    simp only [State.stagedLo, hst, portSaHi_addr, if_true]
  have ht := portSaLo_plain.tryWord (force := s) (s := s) (txn := 0) (w := ⟨F.MAC_PORT_SA_LO_VALUE.addr p.val, 0xFFFFFFFF, lo⟩) hfl
    hown.1 hfree.2 (by simp [portSaLo, fd, State.outOfRange])
  have htu := portSaHi_plain.tryWord (force := s.wrote seat.val (F.MAC_PORT_SA_LO_VALUE.addr p.val) lo 0xFFFFFFFF portSaLo p.val)
    (s := s.wrote seat.val (F.MAC_PORT_SA_LO_VALUE.addr p.val) lo 0xFFFFFFFF portSaLo p.val) (txn := 0)
    (w := ⟨F.MAC_PORT_SA_HI_VALUE.addr p.val, 0xFFFFFFFF, value.toNat⟩) hfh
    ((ownsPort_wrote_portSaLo s seat p lo).trans hown.1)
    (by obtain ⟨m, k, i, he⟩ := s.wrote_eq seat.val lo 0xFFFFFFFF (F.MAC_PORT_SA_LO_VALUE.addr p.val) portSaLo p.val
        rw [he]
        exact hfree.1.2.1) (by simp [portSaHi, fd, State.outOfRange])
  obtain ⟨t, hx, hresp, hnone, hrl, hrh, hbut, -⟩ := pairHiWrite_completes (seat := seat) (mask := 0xFFFFFFFF) (value := value)
    (addr := BitVec.ofNat 32 (F.MAC_PORT_SA_HI_VALUE.addr p.val)) (lo := lo) (c := .l) (d := .l)
    (u := s.wrote seat.val (F.MAC_PORT_SA_LO_VALUE.addr p.val) lo 0xFFFFFFFF portSaLo p.val)
    (by rw [ha, hlo]; exact ⟨hfree.1, hfree.2, hown.2⟩)
    (by rw [ha, hlo, regOf_eq hfl, regOf_eq hfh, copyNo_eq hfl, copyNo_eq hfh, hfl, hfh]; exact ⟨rfl, rfl, rfl, rfl, rfl⟩)
    (by decide) (by rw [ha]; exact hstaged) (by rw [ha, hlo, regOf_eq hfl, copyNo_eq hfh, ht]; rfl)
    (by rw [ha, hlo, regOf_eq hfl, copyNo_eq hfh]; rfl) (by rw [ha, regOf_eq hfh, copyNo_eq hfh]; exact congrArg _ htu)
  rw [ha, copyNo_eq hfh, regOf_eq hfh] at hrh hbut
  rw [ha, hlo, copyNo_eq hfh, regOf_eq hfl] at hrl
  rw [hlo, regOf_eq hfl] at hbut
  refine ⟨t, hx, hresp, ?_, ?_, hnone, hbut⟩
  · refine (hrl _ List.mem_cons_self rfl).trans ?_
    rw [State.written_full s _ p.val lo rfl (fun _ => rfl) rfl rfl (by decide)]
    simp [fd, Fld.part, F.MAC_PORT_SA_LO_VALUE]
  · refine (hrh _ List.mem_cons_self rfl).trans ?_
    rw [State.written_full s _ p.val value.toNat rfl (fun _ => rfl) rfl rfl (by decide)]
    simp [fd, Fld.part, F.MAC_PORT_SA_HI_VALUE]

end

/-! ### The MSI-X table (R426) -/

section
variable (s : State) (seat : Fin 4)

/-- BAR0 takes a write of each word of the MSI-X table. -/
theorem exec_registerWrite_bar0 (i : Fin 16) (value mask : Word) (h : s.pins.porst = false) :
    exec (.registerWrite seat true (BitVec.ofNat 32 (0x800 + 4 * i.val)) value mask) s =
      .next (s.msixWrite seat.val i.val value.toNat mask.toNat) := by
  have ha : (BitVec.ofNat 32 (0x800 + 4 * i.val)).toNat = 0x800 + 4 * i.val := word_toNat (by omega)
  have hg : (!s.pins.porst && decide (0x800 ≤ 0x800 + 4 * i.val) && decide (0x800 + 4 * i.val < 0x840) && (0x800 + 4 * i.val) % 4 == 0) = true := by
    simp [h]; omega
  have hi : (0x800 + 4 * i.val - 0x800) / 4 = i.val := by omega
  have he : exec (.registerWrite seat true (BitVec.ofNat 32 (0x800 + 4 * i.val)) value mask) s =
      .next (s.when (!s.pins.porst && decide (0x800 ≤ (BitVec.ofNat 32 (0x800 + 4 * i.val)).toNat) &&
          decide ((BitVec.ofNat 32 (0x800 + 4 * i.val)).toNat < 0x840) && (BitVec.ofNat 32 (0x800 + 4 * i.val)).toNat % 4 == 0)
        (fun s => s.msixWrite seat.val (((BitVec.ofNat 32 (0x800 + 4 * i.val)).toNat - 0x800) / 4) value.toNat mask.toNat)) := rfl
  rw [he, ha, State.when_true s hg, hi]
  rfl

variable {s seat}

theorem msixWrite_seat (h : s.cmd.seats.length = 4) (i value mask : Nat) :
    ((s.msixWrite seat.val i value mask).seat seat.val).vectors.get i (msixReset i) =
      masked ((s.seat seat.val).vectors.get i (msixReset i)) mask value % 2 ^ 32 ∧
    ((s.msixWrite seat.val i value mask).seat seat.val).msix =
      (if i % 4 = 3 ∧ bit (masked ((s.seat seat.val).vectors.get i (msixReset i)) mask value % 2 ^ 32) 0 = false ∧
        bit (s.seat seat.val).msix (i / 4) = true then (s.seat seat.val).msix - 2 ^ (i / 4) else (s.seat seat.val).msix) := by
  rw [State.msixWrite, State.seat_setSeat_same _ _ _ (by omega)]
  simp only [Bool.not_eq_true']
  split
  · exact ⟨SMap.get_put_same _ _ _ _, rfl⟩
  · exact ⟨SMap.get_put_same _ _ _ _, rfl⟩

theorem registerWrite_msix_completes {i : Fin 16} {value mask : Word} (h : s.pins.porst = false ∧ s.cmd.seats.length = 4) :
    Completes (.registerWrite seat true (BitVec.ofNat 32 (0x800 + 4 * i.val)) value mask) s (fun t =>
      (t.seat seat.val).vectors.get i.val (msixReset i.val) =
        masked ((s.seat seat.val).vectors.get i.val (msixReset i.val)) mask.toNat value.toNat % 2 ^ 32 ∧
      (t.seat seat.val).msix = (if i.val % 4 = 3 ∧
          bit (masked ((s.seat seat.val).vectors.get i.val (msixReset i.val)) mask.toNat value.toNat % 2 ^ 32) 0 = false ∧
          bit (s.seat seat.val).msix (i.val / 4) = true
        then (s.seat seat.val).msix - 2 ^ (i.val / 4) else (s.seat seat.val).msix) ∧
      t.cmd.flights = s.cmd.flights ∧ t = { s with cmd := t.cmd }) := by
  obtain ⟨hv, hm⟩ := msixWrite_seat (s := s) (seat := seat) h.2 i.val value.toNat mask.toNat
  exact ⟨_, exec_registerWrite_bar0 s seat i value mask h.1, hv, hm, rfl, rfl⟩

/-- Words of 32 bits written in full with 0 hold 0. -/
theorem masked_zero_mod (old : Nat) : masked old 0xFFFFFFFF 0 % 2 ^ 32 = 0 := by
  have h : old &&& 0xFFFFFFFF = old % 2 ^ 32 := Nat.and_two_pow_sub_one_eq_mod old 32
  rw [masked, h, Nat.zero_and, Nat.or_zero, Nat.xor_mod_two_pow, Nat.mod_mod, Nat.xor_self]

/-- A vector that is unmasked sends what it holds pending. -/
theorem registerWrite_unmask_completes {v : Fin 4} (h : s.pins.porst = false ∧ s.cmd.seats.length = 4)
    (hp : bit (s.seat seat.val).msix v.val = true) :
    Completes (.registerWrite seat true (BitVec.ofNat 32 (0x80C + 16 * v.val)) 0 0xFFFFFFFF) s (fun t =>
      (t.seat seat.val).vectors.get (4 * v.val + 3) 1 = 0 ∧ (t.seat seat.val).msix = (s.seat seat.val).msix - 2 ^ v.val ∧
      t = { s with cmd := t.cmd }) := by
  have h3 : (4 * v.val + 3) % 4 = 3 := by omega
  have h4 : (4 * v.val + 3) / 4 = v.val := by omega
  have hr : msixReset (4 * v.val + 3) = 1 := if_pos h3
  obtain ⟨t, hx, hvec, hmsix, -, he⟩ := registerWrite_msix_completes (s := s) (seat := seat) (i := ⟨4 * v.val + 3, by omega⟩)
    (value := 0) (mask := 0xFFFFFFFF) h
  rw [show 0x800 + 4 * (4 * v.val + 3) = 0x80C + 16 * v.val from by omega] at hx
  rw [hr] at hvec hmsix
  have hz := masked_zero_mod ((s.seat seat.val).vectors.get (4 * v.val + 3) 1)
  refine ⟨t, hx, hvec.trans hz, hmsix.trans ?_, he⟩
  rw [h4, if_pos ⟨h3, (congrArg (bit · 0) hz).trans rfl, hp⟩]

end

end Sys2Proof.Proofs
end

section
/-! A seat's reads (R9, R10, R419): what they show first, what they clear or take, and what they leave alone. -/

namespace Sys2Proof.Machine

/-! ### The address of a read -/

section
variable {addr n : Nat} {r : RegD}

theorem findReg_aligned (h : findReg addr = some (r, n)) : addr % 4 = 0 := by
  by_contra h4
  rw [findReg, if_neg h4] at h
  cases h

/-- A register stands in its block. -/
theorem findReg_unit (h : findReg addr = some (r, n)) : unitOf addr = unitOf r.base := by
  have hu : ∀ k < blockMaps.length, (blockMaps.getD k []).all (fun r => unitOf r.base == k) = true := by decide +kernel
  unfold findReg at h
  split at h
  · obtain ⟨q, hq, hqr⟩ := List.exists_of_findSome?_eq_some h
    obtain ⟨m, -, he⟩ := Option.map_eq_some_iff.mp hqr
    obtain ⟨rfl, rfl⟩ := Prod.mk.inj he
    have hk : unitOf addr < blockMaps.length := by
      by_contra hk
      rw [List.getD_eq_getElem?_getD, List.getElem?_eq_none (Nat.le_of_not_lt hk)] at hq
      cases hq
    exact (beq_iff_eq.mp (List.all_eq_true.mp (hu _ hk) q hq)).symm
  · cases h

/-- The counter block's values and descriptors stand above every register (R528). -/
theorem State.cntWord_none (s : State) (seat : Nat) (h : addr < 0x800000) : s.cntWord seat addr = none := by
  have h1 : ¬ (0x800000 ≤ addr ∧ addr < 0xBF0000) := by omega
  have h2 : ¬ (0xC00000 ≤ addr ∧ addr < 0xFF0000) := by omega
  simp only [State.cntWord, if_neg h1, if_neg h2]

/-- CHK.OUT is cleared by its reads. -/
theorem chkOut_rc (h : findReg addr = some (r, n)) (hb : r.base = A.CHK_OUT) : r.fields.any (fun d => d.acc == .rc) = true := by
  have := (findReg_forall (p := fun r => r.base != A.CHK_OUT || r.fields.any (fun d => d.acc == .rc)) (by decide +kernel) h).1
  simpa [hb] using this

/-- IDN.CERT_DATA is not. -/
theorem base_ne_CERT_DATA (h : findReg addr = some (r, n)) (hrc : r.fields.any (fun d => d.acc == .rc) = true) :
    r.base ≠ A.IDN_CERT_DATA := by
  have := (findReg_forall (p := fun r => r.base != A.IDN_CERT_DATA || !r.fields.any (fun d => d.acc == .rc)) (by decide +kernel) h).1
  rw [hrc] at this
  simpa using this

end

/-! ### What a read shows first -/

section
variable (s : State)

/-- Only registers move in what a read shows first. -/
theorem State.showHist_eq : ∃ m, s.showHist = { s with regs := m } := ⟨_, rfl⟩

theorem State.showRoutine_eq : ∃ m, s.showRoutine = { s with regs := m } := by
  unfold State.showRoutine
  split <;> exact ⟨_, rfl⟩

theorem State.showSnapAge_eq (n : Nat) : ∃ m, s.showSnapAge n = { s with regs := m } := by
  unfold State.showSnapAge
  split
  · exact ⟨s.regs, rfl⟩
  · exact ⟨_, rfl⟩

theorem State.showFor_eq (addr : Nat) : ∃ m, s.showFor addr = { s with regs := m } := by
  unfold State.showFor
  split
  · exact s.showHist_eq
  split
  · exact State.showRoutine_eq s.showStore
  split
  · split
    · split
      · exact s.showSnapAge_eq _
      · exact ⟨s.regs, rfl⟩
    · exact ⟨s.regs, rfl⟩
  split
  · exact ⟨_, rfl⟩
  · exact ⟨s.regs, rfl⟩

/-- Most blocks show nothing first. -/
theorem State.showFor_self {addr : Nat} (h : unitOf addr ≠ 18 ∧ unitOf addr ≠ 17 ∧ unitOf addr ≠ 14 ∧ unitOf addr ≠ 12) :
    s.showFor addr = s := by
  have ha : addr ≠ A.EVR_CAP := by
    intro he; rw [he] at h; exact absurd h.2.2.2 (by decide)
  simp only [State.showFor, h.1, h.2.1, h.2.2.1, ha, if_false]

/-! ### What a read clears or takes -/

/-- Read-to-clear fields, one after the other, back at their reset values. -/
def State.clearRc (n : Nat) (l : List FieldD) : State := l.foldl (fun s d => if d.acc = .rc then s.rst d.fld n else s) s

theorem State.clearRc_cons (n : Nat) (d : FieldD) (l : List FieldD) :
    s.clearRc n (d :: l) = (if d.acc = .rc then s.rst d.fld n else s).clearRc n l := rfl

theorem State.clearRc_eq (n : Nat) (l : List FieldD) : ∃ m, s.clearRc n l = { s with regs := m } := by
  induction l generalizing s with
  | nil => exact ⟨s.regs, rfl⟩
  | cons d l ih =>
    obtain ⟨m, hm⟩ := ih (if d.acc = .rc then s.rst d.fld n else s)
    rw [State.clearRc_cons, hm]
    split
    · exact ⟨m, rfl⟩
    · exact ⟨m, rfl⟩

theorem RegsBut.clearRc (n : Nat) (l : List FieldD) :
    RegsBut s (s.clearRc n l) ((l.filter (fun d => d.acc == .rc)).map (fun d => (d.fld, n))) := by
  induction l generalizing s with
  | nil => exact RegsBut.refl
  | cons d l ih =>
    rw [State.clearRc_cons]
    by_cases hd : d.acc = .rc
    · rw [if_pos hd, List.filter_cons_of_pos (by simpa using hd), List.map_cons]
      have h1 : RegsBut s (s.rst d.fld n) ((d.fld, n) :: (l.filter (fun d => d.acc == .rc)).map (fun d => (d.fld, n))) :=
        RegsBut.refl.wr _ List.mem_cons_self
      exact h1.trans ((ih _).mono (fun x hx => List.mem_cons_of_mem _ hx))
    · rw [if_neg hd, List.filter_cons_of_neg (by simpa using hd)]
      exact ih s

/-- A register without read-to-clear fields loses nothing to a read. -/
theorem State.clearRc_of_none (n : Nat) {l : List FieldD} (h : ∀ d ∈ l, d.acc ≠ .rc) : s.clearRc n l = s := by
  induction l with
  | nil => rfl
  | cons d l ih =>
    rw [State.clearRc_cons, if_neg (h d List.mem_cons_self)]
    exact ih (fun e he => h e (List.mem_cons_of_mem d he))

variable {s}

/-- After a read each read-to-clear field holds its reset value. -/
theorem State.rd_clearRc {n : Nat} {l : List FieldD} (hk : (l.map (fun d => d.fld.key n)).Nodup) {d : FieldD} (hd : d ∈ l)
    (hrc : d.acc = .rc) : (s.clearRc n l).rd d.fld n = d.fld.reset n % 2 ^ d.fld.width := by
  induction l generalizing s with
  | nil => cases hd
  | cons e l ih =>
    rw [List.map_cons, List.nodup_cons, List.mem_map] at hk
    obtain ⟨he, hk⟩ := hk
    rw [State.clearRc_cons]
    rcases List.mem_cons.mp hd with rfl | hd
    · rw [if_pos hrc, RegsBut.clearRc _ n l d.fld n (fun x hx => ?_)]
      · exact State.rd_wr_same s _ _ _
      · obtain ⟨y, hy, rfl⟩ := List.mem_map.mp hx
        exact fun hyd => he ⟨y, (List.mem_filter.mp hy).1, hyd⟩
    · exact ih hk hd

/-- A register but CHK.OUT and IDN.CERT_DATA is read as it stands, and its read-to-clear fields are cleared (R10). -/
theorem State.readReg_plain {r : RegD} (n : Nat) (h : r.base ≠ A.CHK_OUT ∧ r.base ≠ A.IDN_CERT_DATA) :
    s.readReg r n = (s.wordOf r n, s.clearRc n r.fields) := by
  simp only [State.readReg, if_neg h.1, if_neg h.2, State.clearRc]

/-- The word of a register of one field that starts at bit 0 is that field. -/
theorem State.wordOf_single (s : State) (r : RegD) (n : Nat) (d : FieldD) (hb : r.base ≠ A.LAN_PORT_STATUS) (hd : r.fields = [d])
    (ha : d.acc ≠ .wo) (hl : d.fld.lsb = 0) : s.wordOf r n = s.rd d.fld n := by
  have hb : ¬ (r.base = A.LAN_PORT_STATUS ∧ !s.on F.LAN_PORT_CFG_EN n) := fun h => hb h.1
  simp only [State.wordOf, if_neg hb, hd, sumOf, List.foldl_cons, List.foldl_nil, if_neg ha, Fld.place, hl, Nat.zero_add, Nat.pow_zero,
    Nat.mul_one, Nat.mod_eq_of_lt (s.rd_lt d.fld n)]

/-! ### A seat's read of a word -/

section
variable {addr n : Nat} {r : RegD} (seat : Nat)

/-- A read of a whole register, or of CHK.OUT and IDN.CERT_DATA with what it takes. -/
theorem State.readWord_whole (ha : addr < 0x800000) (hf : findReg addr = some (r, n)) (hh : r.half = .whole) :
    s.readWord seat addr = .ok ((s.showFor addr).readReg r n) := by
  simp only [State.readWord, findReg_aligned hf, ne_eq, not_true_eq_false, if_false, s.cntWord_none seat ha, hf, hh]

/-- A read of a lo half captures the hi half for the seat (R9). -/
theorem State.readWord_lo (ha : addr < 0x800000) (hf : findReg addr = some (r, n)) (hh : r.half = .lo) :
    s.readWord seat addr = .ok (((s.showFor addr).readReg r n).1, ((s.showFor addr).readReg r n).2.setSeat seat
      (fun x => { x with capture := some (addr, (s.showFor addr).wordAt (addr + 4)) })) := by
  simp only [State.readWord, findReg_aligned hf, ne_eq, not_true_eq_false, if_false, s.cntWord_none seat ha, hf, hh, State.readHalf,
    Bool.false_eq_true]

/-- A read of a hi half returns what the seat captured with its lo half. -/
theorem State.readWord_hi (ha : addr < 0x800000) (hf : findReg addr = some (r, n)) (hh : r.half = .hi) {h : Nat}
    (hc : ((s.showFor addr).seat seat).capture = some (addr - 4, h)) : s.readWord seat addr = .ok (h, s.showFor addr) := by
  simp only [State.readWord, findReg_aligned hf, ne_eq, not_true_eq_false, if_false, s.cntWord_none seat ha, hf, hh, State.readHalf, hc,
    if_true]

/-- The row of a read: after classes 1 to 6 of its tick, of a register of its kind (R31). -/
theorem State.seatRead_ok {t : State} {v : Nat} (hl : s.live = true) (hc : s.caughtUp = s) (hf : findReg addr = some (r, n))
    (hw : s.readWord seat addr = .ok (v, t)) : s.seatRead seat addr r.half = s.inside (t.answer .ok [v]) := by
  rw [State.seatRead, State.whenLive_true s hl]
  simp only [hc, hf, beq_self_eq_true, if_true, hw]

end
end

/-! ### CHK.OUT (R419) -/

/-- What a unit does aside of the pins, the seats and the time base: t differs from s in none of them. -/
structure State.Aside (s t : State) : Prop where
  pins : t.pins = s.pins
  cmd : t.cmd = s.cmd
  tim : t.tim = s.tim

theorem State.Aside.refl (s : State) : s.Aside s := ⟨rfl, rfl, rfl⟩

theorem State.Aside.trans {s t u : State} (h : s.Aside t) (h' : t.Aside u) : s.Aside u :=
  ⟨h'.pins.trans h.pins, h'.cmd.trans h.cmd, h'.tim.trans h.tim⟩

section
variable (s : State)

theorem State.hand_aside (r : Record) : s.Aside (s.hand r) := ⟨s.hand_pins r, s.hand_cmd r, s.hand_tim r⟩

/-- A free that is refused is reported, and no more (R200). -/
theorem State.refuseFree_aside (reason handle requester : Nat) : s.Aside (s.refuseFree reason handle requester) := by
  unfold State.refuseFree State.eventRec
  refine State.Aside.trans ?_ (State.hand_aside _ _)
  split
  · exact ⟨rfl, rfl, rfl⟩
  · exact ⟨rfl, rfl, rfl⟩

theorem State.ctlFree_aside (pool place requester : Nat) : s.Aside (s.ctlFree pool place requester) := by
  unfold State.ctlFree
  split
  · exact s.refuseFree_aside _ _ _
  · split
    · exact s.refuseFree_aside _ _ _
    · split
      · exact s.refuseFree_aside _ _ _
      · exact ⟨rfl, rfl, rfl⟩

theorem State.endFlow_aside (e : Nat) : s.Aside (s.endFlow e) := by
  unfold State.endFlow
  split
  · exact State.Aside.refl s
  · split
    · exact (s.ctlFree_aside _ _ _).trans ⟨rfl, rfl, rfl⟩
    · exact ⟨rfl, rfl, rfl⟩

/-- A read of CHK.OUT is its engine's business. -/
theorem State.chkOutRead_aside (e : Nat) : s.Aside (s.chkOutRead e).2 := by
  unfold State.chkOutRead
  split
  · exact State.Aside.refl s
  · split
    · exact State.Aside.refl s
    · dsimp only
      split
      · exact s.endFlow_aside e
      · exact ⟨rfl, rfl, rfl⟩

end
end Sys2Proof.Machine
end

section
/-! The clauses on what a seat reads (R9, R10, R419), one theorem each, and the statement on a seat's register accesses. -/

namespace Sys2Proof.Proofs
open Sys2Proof.Machine

/-! ### A pair that is read -/

/-- The two halves of the Canopy's count. -/
def canopyLo : RegD := ⟨"TIM.CANOPY_LO", A.TIM_CANOPY_LO, .seat0, .lo, [fd F.TIM_CANOPY_LO_VALUE .ro .l]⟩
def canopyHi : RegD := ⟨"TIM.CANOPY_HI", A.TIM_CANOPY_HI, .seat0, .hi, [fd F.TIM_CANOPY_HI_VALUE .ro .l]⟩

theorem findReg_canopyLo : findReg (F.TIM_CANOPY_LO_VALUE.addr 0) = some (canopyLo, 0) := findReg_TIM_CANOPY_LO
theorem findReg_canopyHi : findReg (F.TIM_CANOPY_HI_VALUE.addr 0) = some (canopyHi, 0) := findReg_TIM_CANOPY_HI

theorem wordOf_canopyLo (s : State) : s.wordOf canopyLo 0 = s.rd F.TIM_CANOPY_LO_VALUE :=
  State.wordOf_single s canopyLo 0 (fd F.TIM_CANOPY_LO_VALUE .ro .l) (by decide) rfl (by decide) rfl

theorem wordOf_canopyHi (s : State) : s.wordOf canopyHi 0 = s.rd F.TIM_CANOPY_HI_VALUE :=
  State.wordOf_single s canopyHi 0 (fd F.TIM_CANOPY_HI_VALUE .ro .l) (by decide) rfl (by decide) rfl

section
variable (s : State) (seat : Nat)

theorem readWord_canopyLo : s.readWord seat (F.TIM_CANOPY_LO_VALUE.addr 0) = .ok (s.rd F.TIM_CANOPY_LO_VALUE, s.setSeat seat
    (fun x => { x with capture := some (F.TIM_CANOPY_LO_VALUE.addr 0, s.rd F.TIM_CANOPY_HI_VALUE) })) := by
  have hs := s.showFor_self (addr := F.TIM_CANOPY_LO_VALUE.addr 0) (by decide)
  have hr : s.readReg canopyLo 0 = (s.rd F.TIM_CANOPY_LO_VALUE, s) := by
    rw [State.readReg_plain 0 (by decide), wordOf_canopyLo, State.clearRc_of_none _ _ (by decide)]
  have hhi : s.wordAt (F.TIM_CANOPY_LO_VALUE.addr 0 + 4) = s.rd F.TIM_CANOPY_HI_VALUE := by
    rw [show F.TIM_CANOPY_LO_VALUE.addr 0 + 4 = F.TIM_CANOPY_HI_VALUE.addr 0 from rfl, State.wordAt, findReg_canopyHi]
    exact wordOf_canopyHi s
  rw [State.readWord_lo seat (by decide) findReg_canopyLo rfl, hs, hr, hhi]

theorem readWord_canopyHi {h : Nat} (hc : (s.seat seat).capture = some (F.TIM_CANOPY_LO_VALUE.addr 0, h)) :
    s.readWord seat (F.TIM_CANOPY_HI_VALUE.addr 0) = .ok (h, s) := by
  have hs := s.showFor_self (addr := F.TIM_CANOPY_HI_VALUE.addr 0) (by decide)
  rw [State.readWord_hi seat (by decide) findReg_canopyHi rfl (h := h) (by rw [hs]; exact hc), hs]

end

section
variable {s : State} {seat : Fin 4} {addr : Word}

theorem exec_pairLoRead_canopy (seat : Fin 4) (s : State) : exec (.pairLoRead seat (BitVec.ofNat 32 (F.TIM_CANOPY_LO_VALUE.addr 0))) s =
    .next (s.seatRead seat.val (F.TIM_CANOPY_LO_VALUE.addr 0) canopyLo.half) := rfl

theorem exec_pairHiRead_canopy (seat : Fin 4) (s : State) : exec (.pairHiRead seat (BitVec.ofNat 32 (F.TIM_CANOPY_HI_VALUE.addr 0))) s =
    .next (s.seatRead seat.val (F.TIM_CANOPY_HI_VALUE.addr 0) canopyHi.half) := rfl

theorem pairLoRead_canopy_completes (h : s.live = true ∧ s.cmd.seats.length = 4 ∧ s.caughtUp = s) :
    Completes (.pairLoRead seat (BitVec.ofNat 32 (F.TIM_CANOPY_LO_VALUE.addr 0))) s (fun t =>
      t.resp = some ⟨.ok, [s.rd F.TIM_CANOPY_LO_VALUE]⟩ ∧
      (t.seat seat.val).capture = some (F.TIM_CANOPY_LO_VALUE.addr 0, s.rd F.TIM_CANOPY_HI_VALUE) ∧
      t = { s with resp := t.resp, cmd := t.cmd }) := by
  obtain ⟨hl, hlen, hc⟩ := h
  refine ⟨_, by rw [exec_pairLoRead_canopy, State.seatRead_ok seat.val hl hc findReg_canopyLo (readWord_canopyLo s seat.val)], rfl,
    ?_, rfl⟩
  exact congrArg Seat.capture (s.seat_setSeat_same seat.val
    (fun x => { x with capture := some (F.TIM_CANOPY_LO_VALUE.addr 0, s.rd F.TIM_CANOPY_HI_VALUE) }) (by omega))

theorem pairHiRead_canopy_completes {h : Nat} (hl : s.live = true ∧ s.caughtUp = s)
    (hc : (s.seat seat.val).capture = some (F.TIM_CANOPY_LO_VALUE.addr 0, h)) :
    Completes (.pairHiRead seat (BitVec.ofNat 32 (F.TIM_CANOPY_HI_VALUE.addr 0))) s (fun t =>
      t = { s with resp := some ⟨.ok, [h]⟩ }) :=
  ⟨_, by rw [exec_pairHiRead_canopy, State.seatRead_ok seat.val hl.1 hl.2 findReg_canopyHi (readWord_canopyHi s seat.val hc)]; rfl, rfl⟩

/-! ### Registers that a read clears -/

/-- RC_READ reads a register that a read clears. -/
theorem exec_rcRead {n : Nat} {r : RegD} (seat : Fin 4) (hf : findReg addr.toNat = some (r, n))
    (hrc : r.fields.any (fun d => d.acc == .rc) = true) (s : State) :
    exec (.rcRead seat addr) s = .next (s.seatRead seat.val addr.toNat .whole) := by
  have he : exec (.rcRead seat addr) s = execRcRead seat addr s := rfl
  simp only [he, execRcRead, hf, hrc, if_true]

theorem rcRead_completes (h : s.live = true ∧ s.caughtUp = s ∧ addr.toNat < 0x800000)
    (hf : (findReg addr.toNat).isSome = true ∧ (regOf addr.toNat).half = .whole ∧
      (regOf addr.toNat).fields.any (fun d => d.acc == .rc) = true) (hb : (regOf addr.toNat).base ≠ A.CHK_OUT) :
    Completes (.rcRead seat addr) s (fun t =>
      t.resp = some ⟨.ok, [(s.showFor addr.toNat).wordOf (regOf addr.toNat) (copyNo addr.toNat)]⟩ ∧
      (∀ d ∈ (regOf addr.toNat).fields, d.acc = .rc →
        t.rd d.fld (copyNo addr.toNat) = d.fld.reset (copyNo addr.toNat) % 2 ^ d.fld.width) ∧
      RegsBut (s.showFor addr.toNat) t (((regOf addr.toNat).fields.filter (fun d => d.acc == .rc)).map (fun d => (d.fld, copyNo addr.toNat))) ∧
      t = { s with regs := t.regs, resp := t.resp }) := by
  obtain ⟨hl, hc, ha⟩ := h
  obtain ⟨hsome, hw, hrc⟩ := hf
  have hr := findReg_of_isSome hsome
  have hread := s.readWord_whole seat.val ha hr hw
  rw [State.readReg_plain _ ⟨hb, base_ne_CERT_DATA hr hrc⟩] at hread
  have hx := State.seatRead_ok seat.val hl hc hr hread
  rw [hw] at hx
  refine ⟨_, by rw [exec_rcRead seat hr hrc, hx], rfl, fun d hd hacc => ?_, ?_, ?_⟩
  · rw [State.rd_inside_answer]
    exact State.rd_clearRc (findReg_keys_nodup hr) hd hacc
  · exact (RegsBut.clearRc _ _ _).congr (State.inside_answer_regs _ _ _ _)
  · obtain ⟨m, hm⟩ := (s.showFor addr.toNat).clearRc_eq (copyNo addr.toNat) (regOf addr.toNat).fields
    obtain ⟨m', hm'⟩ := s.showFor_eq addr.toNat
    rw [hm, hm']
    rfl

theorem rcRead_chkOut_completes (h : s.live = true ∧ s.caughtUp = s ∧ addr.toNat < 0x800000)
    (hf : (findReg addr.toNat).isSome = true ∧ (regOf addr.toNat).half = .whole ∧ (regOf addr.toNat).base = A.CHK_OUT) :
    Completes (.rcRead seat addr) s (fun t => t = { (s.chkOutRead (copyNo addr.toNat)).2 with
      resp := some ⟨.ok, [(s.chkOutRead (copyNo addr.toNat)).1]⟩, pins := s.pins, pending := s.pending }) := by
  obtain ⟨hl, hc, ha⟩ := h
  obtain ⟨hsome, hw, hb⟩ := hf
  have hr := findReg_of_isSome hsome
  have hu : unitOf addr.toNat = 16 := by rw [findReg_unit hr, hb]; decide
  have hread := s.readWord_whole seat.val ha hr hw
  rw [s.showFor_self (by rw [hu]; decide), State.readReg, if_pos hb] at hread
  have hx := State.seatRead_ok (t := (s.chkOutRead (copyNo addr.toNat)).2) (v := (s.chkOutRead (copyNo addr.toNat)).1) seat.val hl hc hr hread
  rw [hw] at hx
  refine ⟨_, by rw [exec_rcRead seat hr (chkOut_rc hr hb), hx], ?_⟩
  have hp := (s.chkOutRead_aside (copyNo addr.toNat)).pins
  simp only [State.inside, State.answer, hp]

end

/-- MSQ.AGE, the greatest age since it was read. -/
def msqAge : RegD := ⟨"MSQ.AGE", A.MSQ_AGE, .seat0, .whole, [fd F.MSQ_AGE_MAX_AGE_NS .rc .l]⟩

theorem findReg_msqAge (n : Fin 32) : findReg (F.MSQ_AGE_MAX_AGE_NS.addr n.val) = some (msqAge, n.val) := findReg_MSQ_AGE n

theorem msqAge_addr (n : Fin 32) : (BitVec.ofNat 32 (F.MSQ_AGE_MAX_AGE_NS.addr n.val)).toNat = F.MSQ_AGE_MAX_AGE_NS.addr n.val ∧
    F.MSQ_AGE_MAX_AGE_NS.addr n.val < 0x800000 ∧ unitOf (F.MSQ_AGE_MAX_AGE_NS.addr n.val) = 10 := by
  revert n; decide

theorem rcRead_msqAge_completes {s : State} {seat : Fin 4} {n : Fin 32} (h : s.live = true ∧ s.caughtUp = s) :
    Completes (.rcRead seat (BitVec.ofNat 32 (F.MSQ_AGE_MAX_AGE_NS.addr n.val))) s (fun t =>
      t.resp = some ⟨.ok, [s.rd F.MSQ_AGE_MAX_AGE_NS n.val]⟩ ∧ t.rd F.MSQ_AGE_MAX_AGE_NS n.val = 0 ∧
      RegsBut s t [(F.MSQ_AGE_MAX_AGE_NS, n.val)] ∧ t = { s with regs := t.regs, resp := t.resp }) := by
  obtain ⟨ha, hlt, hu⟩ := msqAge_addr n
  have hf := findReg_msqAge n
  have hw : s.wordOf msqAge n.val = s.rd F.MSQ_AGE_MAX_AGE_NS n.val :=
    State.wordOf_single s msqAge n.val (fd F.MSQ_AGE_MAX_AGE_NS .rc .l) (by decide) rfl (by decide) rfl
  obtain ⟨t, hx, hresp, hrc, hbut, he⟩ := rcRead_completes (s := s) (seat := seat)
    (addr := BitVec.ofNat 32 (F.MSQ_AGE_MAX_AGE_NS.addr n.val)) ⟨h.1, h.2, by rw [ha]; exact hlt⟩
    (by rw [ha, regOf_eq hf, hf]; exact ⟨rfl, rfl, rfl⟩) (by rw [ha, regOf_eq hf]; decide)
  rw [ha, regOf_eq hf, copyNo_eq hf, s.showFor_self (by rw [hu]; decide)] at hresp hbut
  rw [ha, regOf_eq hf, copyNo_eq hf] at hrc
  rw [hw] at hresp
  have h0 : t.rd F.MSQ_AGE_MAX_AGE_NS n.val = F.MSQ_AGE_MAX_AGE_NS.reset n.val % 2 ^ F.MSQ_AGE_MAX_AGE_NS.width :=
    hrc (fd F.MSQ_AGE_MAX_AGE_NS .rc .l) List.mem_cons_self rfl
  exact ⟨t, hx, hresp, h0.trans (Nat.zero_mod _), hbut, he⟩

/-- Settles O19: each clause from the rules of direct writes, of pairs and of reads. -/
theorem seatsReadAndWriteRegisters : Obligations.SeatsReadAndWriteRegisters := by
  refine ⟨?_, ?_, ?_, ?_, ?_, ?_, ?_, ?_, ?_, ?_, ?_, ?_, ?_, ?_, ?_, ?_⟩
  · exact fun s value h hv => registerWrite_stepNs_completes h hv
  · exact fun s value h hv => registerWrite_stepNs_refused h hv
  · exact fun s seat addr value mask h ha => registerWrite_poke_completes h ha
  · exact fun s seat addr value mask u h ha => registerWrite_effect_completes h ha
  · exact fun s seat addr value mask h hf hc hs => registerWrite_shadowed_completes h hf hc hs
  · exact fun s seat i value mask h => registerWrite_msix_completes h
  · exact fun s seat v h hp => registerWrite_unmask_completes h hp
  · exact fun s seat h => pairLoRead_canopy_completes h
  · exact fun s seat h hl hc => pairHiRead_canopy_completes hl hc
  · exact fun s seat addr value mask h hf ht => pairLoWrite_completes h hf ht
  · exact fun s seat addr value mask lo c d u h hf hcd hlo ht hue hu => pairHiWrite_completes h hf hcd hlo ht hue hu
  · exact fun s seat p value h hown => pairLoWrite_portSa_completes h hown
  · exact fun s seat p lo value h hown hst => pairHiWrite_portSa_completes h hown hst
  · exact fun s seat n h => rcRead_msqAge_completes h
  · exact fun s seat addr h hf hb => rcRead_completes h hf hb
  · exact fun s seat addr h hf => rcRead_chkOut_completes h hf

end Sys2Proof.Proofs
end

section
/-! A packet on its way through Drafen (R428, R436, R441 to R443): taken, executed, and answered or left waiting. -/

namespace Sys2Proof.Machine

/-! ### The registers that show a seat (R455) -/

section
variable (s : State) (e : Nat)

@[simp] theorem State.showSeat_cmd : (s.showSeat e).cmd = s.cmd := rfl
@[simp] theorem State.showSeat_seat (k : Nat) : (s.showSeat e).seat k = s.seat k := rfl

theorem RegsBut.showSeat : RegsBut s (s.showSeat e) (seatFields e) := by
  unfold State.showSeat
  refine RegsBut.wr (RegsBut.wr (RegsBut.wr (RegsBut.wr (RegsBut.wr RegsBut.refl _ ?_) _ ?_) _ ?_) _ ?_) _ ?_ <;> simp [seatFields]

/-- They stand in the block CMD, above every other block but the last. -/
theorem seatFields_key_ge {x : Fld × Nat} (h : x ∈ seatFields e) : 0x400000 * 32 ≤ x.1.key x.2 := by
  simp only [seatFields, List.mem_cons, List.not_mem_nil, or_false] at h
  obtain rfl | rfl | rfl | rfl | rfl := h
  · simp only [Fld.key, Fld.addr, F.CMD_SEAT_FIFO_CMD_SPACE, A.CMD_SEAT_FIFO]; omega
  · simp only [Fld.key, Fld.addr, F.CMD_SEAT_FIFO_REPLY_WORDS, A.CMD_SEAT_FIFO]; omega
  · simp only [Fld.key, Fld.addr, F.CMD_SEAT_TAGS_IN_FLIGHT, A.CMD_SEAT_TAGS]; omega
  · simp only [Fld.key, Fld.addr, F.CMD_SEAT_TXN_OPEN, A.CMD_SEAT_TXN]; omega
  · simp only [Fld.key, Fld.addr, F.CMD_TXN_STATUS_OPEN, A.CMD_TXN_STATUS]; omega

variable {s e} {t : State}

/-- A field of another block reads as before where only they moved. -/
theorem RegsBut.rd_below (h : RegsBut s t (seatFields e)) {f : Fld} {n : Nat} (hf : f.key n < 0x400000 * 32) : t.rd f n = s.rd f n :=
  h f n (fun _ hx he => absurd (seatFields_key_ge e hx) (by omega))

/-- The registers that say which port a lane belongs to, and its reach (R379, R404). -/
def portCfgFields : List Fld := [F.LAN_PORT_CFG_EN, F.LAN_PORT_CFG_MODE, F.LAN_PORT_CFG_REACH]

/-- Those of the 512 ports stand in the block LAN. -/
theorem portCfgFields_key_lt {f : Fld} (hf : f ∈ portCfgFields) {n : Nat} (hn : n < 512) : f.key n < 0x400000 * 32 := by
  simp only [portCfgFields, List.mem_cons, List.not_mem_nil, or_false] at hf
  obtain rfl | rfl | rfl := hf
  · simp only [Fld.key, Fld.addr, F.LAN_PORT_CFG_EN, A.LAN_PORT_CFG]; omega
  · simp only [Fld.key, Fld.addr, F.LAN_PORT_CFG_MODE, A.LAN_PORT_CFG]; omega
  · simp only [Fld.key, Fld.addr, F.LAN_PORT_CFG_REACH, A.LAN_PORT_CFG]; omega

theorem RegsBut.rd_portCfg (h : RegsBut s t (seatFields e)) {f : Fld} (hf : f ∈ portCfgFields) {n : Nat} (hn : n < 512) :
    t.rd f n = s.rd f n := h.rd_below (portCfgFields_key_lt hf hn)

/-- A lane's port is not above it. -/
theorem State.lanePort_le {n p : Nat} (h : s.lanePort n = some p) : p ≤ n := by
  obtain ⟨i, -, rfl⟩ := List.mem_map.mp (List.mem_of_find?_eq_some h)
  exact Nat.sub_le n i

theorem State.lanePort_congr (h : RegsBut s t (seatFields e)) {n : Nat} (hn : n < 512) : t.lanePort n = s.lanePort n := by
  refine List.find?_congr (fun p hp => ?_)
  obtain ⟨i, -, rfl⟩ := List.mem_map.mp hp
  have hi : n - i < 512 := by omega
  have hen := h.rd_portCfg (f := F.LAN_PORT_CFG_EN) (by simp [portCfgFields]) hi
  have hmode := h.rd_portCfg (f := F.LAN_PORT_CFG_MODE) (by simp [portCfgFields]) hi
  simp only [State.on, State.lanesOf, hen, hmode]

/-- There are taps of 512 lanes. -/
theorem lane_lt_of_base_TX_COEF {addr n : Nat} {r : RegD} (hf : findReg addr = some (r, n)) (hb : r.base = A.LAN_LANE_TX_COEF) :
    n < 512 := by
  obtain ⟨hp, hc⟩ := findReg_forall (p := fun r => r.base != A.LAN_LANE_TX_COEF || r.fields.all (fun d => decide (d.fld.copies ≤ 512)))
    (by decide +kernel) hf
  simp only [hb, bne_self_eq_false, Bool.false_or, List.all_eq_true, decide_eq_true_eq] at hp
  unfold RegD.copyAt at hc
  split at hc
  · cases hc
  · next d l hd => exact Nat.lt_of_lt_of_le (Fld.copy?_eq_some hc).2 (hp d (by rw [hd]; exact List.mem_cons_self))

/-- A write reaches the same fields as before where only they moved. -/
theorem State.fieldsOf_congr (h : RegsBut s t (seatFields e)) {addr n : Nat} {r : RegD} (hf : findReg addr = some (r, n)) :
    t.fieldsOf r n = s.fieldsOf r n := by
  by_cases hb : r.base = A.LAN_LANE_TX_COEF
  · have hn := lane_lt_of_base_TX_COEF hf hb
    simp only [State.fieldsOf, if_pos hb, State.lanePort_congr h hn]
    cases hp : s.lanePort n with
    | none => rfl
    | some p =>
      have hle := State.lanePort_le hp
      simp only [h.rd_portCfg (f := F.LAN_PORT_CFG_REACH) (by simp [portCfgFields]) (show p < 512 by omega)]
  · rw [State.fieldsOf_eq _ n hb, State.fieldsOf_eq _ n hb]

end

/-! ### What an execution leaves alone of its packet -/

/-- Between the taking of a packet of seat e and its answer: the flights, the time, and the seat's Reply FIFO stay. -/
structure State.KeepsDesk (e : Nat) (s t : State) : Prop where
  tim : t.tim = s.tim
  flights : t.cmd.flights = s.cmd.flights
  fifo : (t.seat e).replyFifo = (s.seat e).replyFifo
  late : (t.seat e).late = (s.seat e).late
  seats : t.cmd.seats.length = s.cmd.seats.length

section
variable {e : Nat} {s t u : State}

theorem State.KeepsDesk.refl : State.KeepsDesk e s s := ⟨rfl, rfl, rfl, rfl, rfl⟩

theorem State.KeepsDesk.trans (h : State.KeepsDesk e s t) (h' : State.KeepsDesk e t u) : State.KeepsDesk e s u :=
  ⟨h'.tim.trans h.tim, h'.flights.trans h.flights, h'.fifo.trans h.fifo, h'.late.trans h.late, h'.seats.trans h.seats⟩

theorem State.Aside.keepsDesk (h : s.Aside t) : State.KeepsDesk e s t := by
  have hc := h.cmd
  exact ⟨h.tim, by rw [hc], by rw [State.seat, hc, ← State.seat], by rw [State.seat, hc, ← State.seat], by rw [hc]⟩

/-- An update of a seat that touches neither its Reply FIFO nor what waits for it. -/
theorem State.keepsDesk_setSeat (k : Nat) {f : Seat → Seat} (hf : ∀ x, (f x).replyFifo = x.replyFifo ∧ (f x).late = x.late) :
    State.KeepsDesk e s (s.setSeat k f) := by
  have key : ∀ (l : List Seat) (k e : Nat), (nth (upd l k f) e {}).replyFifo = (nth l e {}).replyFifo ∧
      (nth (upd l k f) e {}).late = (nth l e {}).late := by
    intro l
    induction l with
    | nil => exact fun _ _ => ⟨rfl, rfl⟩
    | cons x l ih =>
      intro k e
      match k, e with
      | 0, 0 => exact hf x
      | 0, e + 1 => exact ⟨rfl, rfl⟩
      | k + 1, 0 => exact ⟨rfl, rfl⟩
      | k + 1, e + 1 => exact ih k e
  exact ⟨rfl, rfl, (key s.cmd.seats k e).1, (key s.cmd.seats k e).2, State.setSeat_seats_length s k f⟩

theorem State.KeepsDesk.fifoRoom (h : State.KeepsDesk e s t) (n : Nat) : t.fifoRoom e n = s.fifoRoom e n := by
  simp only [State.fifoRoom, h.fifo, h.late]

/-- A shorter reply has room where a longer one has. -/
theorem State.fifoRoom_mono {n m : Nat} (h : s.fifoRoom e m = true) (hn : n ≤ m) : s.fifoRoom e n = true := by
  simp only [State.fifoRoom, Bool.and_eq_true, decide_eq_true_eq] at h ⊢
  exact ⟨h.1, by omega⟩

end

theorem State.touchTxn_regs (s : State) (id : Nat) : (s.touchTxn id).regs = s.regs := rfl
theorem State.putTxn_regs (s : State) (x : Txn) : (s.putTxn x).regs = s.regs := rfl

/-- What becomes of a transaction is none of the flights' and the replies' business. -/
theorem State.touchTxn_keepsDesk {e : Nat} (s : State) (id : Nat) : State.KeepsDesk e s (s.touchTxn id) := ⟨rfl, rfl, rfl, rfl, rfl⟩
theorem State.putTxn_keepsDesk {e : Nat} (s : State) (x : Txn) : State.KeepsDesk e s (s.putTxn x) := ⟨rfl, rfl, rfl, rfl, rfl⟩

/-! ### The answer (R428, R436, R438) -/

theorem replyWords_length (op st tag seat txn : Nat) (dup notice : Bool) (tick : Nat) (data : List Nat) :
    (replyWords op st tag seat txn dup notice tick data).length = data.length + 5 := by
  simp [replyWords, sealed]

/-- A command of a packet, in flight behind `old`, has ended with OK and data words: `u` is the state in which it ended. -/
structure Answered (u t : State) (p : Packet) (old : List Flight) (data : List Nat) : Prop where
  resp : t.resp = some ⟨.ok, data⟩
  flights : t.cmd.flights = old
  fifo : (t.seat p.sender.val).replyFifo = (u.seat p.sender.val).replyFifo ++ (if bit p.flags.toNat 0 = true ∧ Status.ok = Status.ok then []
    else replyWords p.opcode.toNat Status.ok.code p.tag.toNat p.seat.val p.txn.toNat false false u.now data)
  txns : t.cmd.txns = u.cmd.txns
  tim : t.tim = u.tim
  qsg : t.qsg = u.qsg
  regs : RegsBut u t (seatFields p.sender.val)
  pins : t.pins = u.pins

section
variable {s u : State} {e : Nat}

/-- Words placed in a seat's Reply FIFO come last, and move nothing else but what shows the seat, and its MSI-X vector 0. -/
theorem State.placeWords_spec (words : List Nat) (h : e < s.cmd.seats.length) :
    ((s.placeWords e words).seat e).replyFifo = (s.seat e).replyFifo ++ words ∧
    (s.placeWords e words).cmd.flights = s.cmd.flights ∧ (s.placeWords e words).cmd.txns = s.cmd.txns ∧
    RegsBut s (s.placeWords e words) (seatFields e) ∧ ∃ m c, s.placeWords e words = { s with regs := m, cmd := c } := by
  have hx := s.seat_setSeat_same e (fun x => { x with replyFifo := x.replyFifo ++ words }) h
  unfold State.placeWords State.fireMsix
  split
  · refine ⟨?_, rfl, rfl, (RegsBut.of_regs (by simp only [State.setSeat_regs])).trans (RegsBut.showSeat _ e), _, _, rfl⟩
    rw [State.showSeat_seat, State.seat_setSeat_same _ _ _ (by rw [State.setSeat_seats_length]; exact h), hx]
  · exact ⟨congrArg Seat.replyFifo hx, rfl, rfl, (RegsBut.of_regs (by simp only [State.setSeat_regs])).trans (RegsBut.showSeat _ e), _, _, rfl⟩

variable {p : Packet} {data : List Nat}

/-- The reply of a command with OK, counted: none where it was posted (R436). -/
theorem State.replyTo_posted (hp : bit p.flags.toNat 0 = true) :
    u.replyTo p .window .ok { data := data } = (u.bump 16 1 (Status.ok.code * 256 + p.opcode.toNat)).showSeat p.sender.val :=
  if_pos ⟨hp, rfl⟩

/-- Else it is placed, where it has room (R428). -/
theorem State.replyTo_placed (hp : ¬ bit p.flags.toNat 0 = true) (hroom : u.fifoRoom p.sender.val (data.length + 5) = true) :
    u.replyTo p .window .ok { data := data } = (u.bump 16 1 (Status.ok.code * 256 + p.opcode.toNat)).placeWords p.sender.val
      (replyWords p.opcode.toNat Status.ok.code p.tag.toNat p.seat.val p.txn.toNat false false u.now data) := by
  refine (if_neg (fun h => hp h.1)).trans ?_
  refine if_pos ?_
  rw [replyWords_length]
  exact hroom

theorem State.replyTo_spec (hroom : u.fifoRoom p.sender.val (data.length + 5) = true) (h : p.sender.val < u.cmd.seats.length) :
    ((u.replyTo p .window .ok { data := data }).seat p.sender.val).replyFifo = (u.seat p.sender.val).replyFifo ++
      (if bit p.flags.toNat 0 = true ∧ Status.ok = Status.ok then []
        else replyWords p.opcode.toNat Status.ok.code p.tag.toNat p.seat.val p.txn.toNat false false u.now data) ∧
    (u.replyTo p .window .ok { data := data }).cmd.flights = u.cmd.flights ∧
    (u.replyTo p .window .ok { data := data }).cmd.txns = u.cmd.txns ∧
    RegsBut u (u.replyTo p .window .ok { data := data }) (seatFields p.sender.val) ∧
    ∃ m c k, u.replyTo p .window .ok { data := data } = { u with regs := m, cmd := c, cntTick := k } := by
  have hb : RegsBut u (u.bump 16 1 (Status.ok.code * 256 + p.opcode.toNat)) (seatFields p.sender.val) := RegsBut.of_regs rfl
  by_cases hp : bit p.flags.toNat 0 = true
  · rw [State.replyTo_posted hp, if_pos ⟨hp, rfl⟩]
    exact ⟨(List.append_nil _).symm, rfl, rfl, hb.trans (RegsBut.showSeat _ _), _, _, _, rfl⟩
  · obtain ⟨hfifo, hfl, htx, hregs, m, c, he⟩ := State.placeWords_spec
      (s := u.bump 16 1 (Status.ok.code * 256 + p.opcode.toNat)) (e := p.sender.val)
      (replyWords p.opcode.toNat Status.ok.code p.tag.toNat p.seat.val p.txn.toNat false false u.now data) h
    rw [State.replyTo_placed hp hroom, if_neg (fun h => hp h.1)]
    exact ⟨hfifo, hfl, htx, hb.trans hregs, m, c, _, he⟩

end

/-- Nothing of the seat stands among `old` (R443). -/
abbrev NoneOf (p : Packet) (old : List Flight) : Prop := ∀ f ∈ old, f.packet.sender ≠ p.sender

section
variable {p : Packet} {old : List Flight} {f : Flight}

theorem NoneOf.packet_ne (h : NoneOf p old) {g : Flight} (hg : g ∈ old) : g.packet ≠ p := fun he => h g hg (congrArg Packet.sender he)

/-- Behind flights of other seats, the packet's own flight is found. -/
theorem flightOf_append {s : State} (h : NoneOf p old) (hf : s.cmd.flights = old ++ [f]) (hp : f.packet = p) : s.flightOf p = some f := by
  have hn : old.find? (fun g => g.packet == p) = none :=
    List.find?_eq_none.mpr (fun g hg he => h.packet_ne hg (beq_iff_eq.mp he))
  simp [State.flightOf, hf, List.find?_append, hn, hp]

theorem flightOf_none {s : State} (h : NoneOf p s.cmd.flights) : s.flightOf p = none :=
  List.find?_eq_none.mpr (fun _ hg he => h.packet_ne hg (beq_iff_eq.mp he))

/-- It is the one that leaves. -/
theorem filter_flights (h : NoneOf p old) (hp : f.packet = p) : (old ++ [f]).filter (fun g => g.packet != p) = old := by
  have ho : old.filter (fun g => g.packet != p) = old :=
    List.filter_eq_self.mpr (fun g hg => by simpa using h.packet_ne hg)
  simp [List.filter_append, ho, hp]

/-- A command that ends with OK, behind flights of other seats, and whose reply has room. -/
theorem State.finish_answered {u : State} (data : List Nat) (h : NoneOf p old) (hf : u.cmd.flights = old ++ [f]) (hp : f.packet = p)
    (hw : f.origin = .window) (hroom : u.fifoRoom p.sender.val (data.length + 5) = true) (hs : p.sender.val < u.cmd.seats.length) :
    Answered u (u.finish p .ok { data := data }) p old data := by
  have ho : ((u.flightOf p).map (fun f => f.origin)).getD .window = .window := by
    rw [flightOf_append h hf hp]; simpa using hw
  obtain ⟨hfifo, hfl, htx, hregs, m, c, k, he⟩ := State.replyTo_spec
    (u := u.setCmd (fun c => { c with flights := c.flights.filter (fun f => f.packet != p) })) (p := p) (data := data) hroom hs
  have hfin : u.finish p .ok { data := data } = (((u.setCmd (fun c => { c with flights := c.flights.filter (fun f => f.packet != p) })).replyTo
      p .window .ok { data := data }).answer .ok data).showSeat p.sender.val := by
    simp only [State.finish, ho]
  have hr0 : RegsBut u (u.setCmd (fun c => { c with flights := c.flights.filter (fun f => f.packet != p) })) (seatFields p.sender.val) :=
    RegsBut.of_regs rfl
  rw [hfin]
  refine ⟨rfl, hfl.trans ?_, hfifo, htx, ?_, ?_, (hr0.trans hregs).trans (RegsBut.trans (RegsBut.of_regs (State.answer_regs _ _ _))
    (RegsBut.showSeat _ _)), ?_⟩
  · rw [← filter_flights h hp, ← hf]; rfl
  · rw [he]; rfl
  · rw [he]; rfl
  · rw [he]; rfl

end
end Sys2Proof.Machine
end

section
/-! A packet that Drafen takes at once (R441 to R443), and the row of its command. -/

namespace Sys2Proof.Machine

/-- The flight of a packet that has just been taken. -/
def State.newFlight (s : State) (p : Packet) : Flight := ⟨p, .window, s.cmd.nextSeqNo, false⟩

section
variable {s u : State} {p : Packet}

theorem State.Takes.noneOf (h : s.Takes p) : NoneOf p s.cmd.flights := by
  obtain ⟨-, -, -, -, hf, -⟩ := h
  intro f hm he
  have := List.all_eq_true.mp hf f hm
  simp [he] at this

/-- Every check of the acceptance passes. -/
theorem State.Takes.accepted (h : s.Takes p) : s.acceptPacket p .window = .ok ((s.setCmd (fun c => { c with
    flights := c.flights ++ [⟨p, .window, c.nextSeqNo, false⟩], nextSeqNo := c.nextSeqNo + 1 })).showSeat p.sender.val) := by
  have hmine : s.cmd.flights.filter (fun f => f.packet.sender == p.sender) = [] :=
    List.filter_eq_nil_iff.mpr (fun f hf he => h.noneOf f hf (beq_iff_eq.mp he))
  obtain ⟨-, -, hform, hseat, -, hquota, -, -⟩ := h
  simp [State.acceptPacket, need', hmine, hform, hseat, hquota, bind, Except.bind, pure, Except.pure]

theorem State.Takes.taken_eq (h : s.Takes p) : s.taken p = (s.setCmd (fun c => { c with
    flights := c.flights ++ [⟨p, .window, c.nextSeqNo, false⟩], nextSeqNo := c.nextSeqNo + 1 })).showSeat p.sender.val := by
  rw [State.taken, h.accepted]
  rfl

theorem State.Takes.accepted_taken (h : s.Takes p) : s.acceptPacket p .window = .ok (s.taken p) := by
  rw [h.taken_eq]
  exact h.accepted

/-- The packet is in flight; beside that only the registers that show its seat have moved. -/
theorem State.Takes.taken_form (h : s.Takes p) : ∃ m, s.taken p = { s with
    regs := m, cmd := { s.cmd with flights := s.cmd.flights ++ [s.newFlight p], nextSeqNo := s.cmd.nextSeqNo + 1 } } := by
  rw [h.taken_eq]
  exact ⟨_, rfl⟩

theorem State.Takes.flights (h : s.Takes p) : (s.taken p).cmd.flights = s.cmd.flights ++ [s.newFlight p] := by
  rw [h.taken_eq]; rfl
theorem State.Takes.txns (h : s.Takes p) : (s.taken p).cmd.txns = s.cmd.txns := by rw [h.taken_eq]; rfl
theorem State.Takes.seats (h : s.Takes p) : (s.taken p).cmd.seats = s.cmd.seats := by rw [h.taken_eq]; rfl
theorem State.Takes.seat (h : s.Takes p) (e : Nat) : (s.taken p).seat e = s.seat e := by rw [h.taken_eq]; rfl
theorem State.Takes.tim (h : s.Takes p) : (s.taken p).tim = s.tim := by rw [h.taken_eq]; rfl
theorem State.Takes.qsg (h : s.Takes p) : (s.taken p).qsg = s.qsg := by rw [h.taken_eq]; rfl
theorem State.Takes.hwSet (h : s.Takes p) : (s.taken p).hwSet = s.hwSet := by rw [h.taken_eq]; rfl

theorem State.Takes.regs (h : s.Takes p) : RegsBut s (s.taken p) (seatFields p.sender.val) := by
  rw [h.taken_eq]
  exact RegsBut.trans (RegsBut.of_regs (t := s.setCmd _) rfl) (RegsBut.showSeat _ _)

theorem State.Takes.length (h : s.Takes p) : s.cmd.seats.length = 4 := h.2.2.2.2.2.2.2

/-- The command may start: nothing of its seat stands before it, and its longest reply has room. -/
theorem State.Takes.mayStart (h : s.Takes p) : (s.taken p).mayStart (s.newFlight p) = true := by
  have hroom : (s.taken p).fifoRoom p.sender.val (longestReply p) = true := by
    rw [State.fifoRoom, h.seat]; exact h.2.2.2.2.2.2.1
  have hold : ∀ g ∈ s.cmd.flights, (g.packet.sender == p.sender) = false := fun g hg => beq_eq_false_iff_ne.mpr (h.noneOf g hg)
  simp only [State.mayStart, h.flights, State.newFlight, hroom, List.all_append, List.all_cons, List.all_nil, Nat.lt_irrefl, decide_false,
    Bool.and_false, Bool.not_false, Bool.true_or, Bool.and_true, Bool.or_true]
  exact List.all_eq_true.mpr (fun g hg => by rw [hold g hg]; rfl)

/-! ### The row of a command -/

/-- What a row makes of the outcome of its body. -/
def State.concluded (p : Packet) : Done → State → State
  | .refuse st a, s => s.finish p st a
  | .ok t st a, _ => t.finish p st a
  | .wait t, _ => t.setCmd (fun c => { c with flights := c.flights.map (fun g => if g.packet = p then { g with parked := true } else g) })

/-- A packet that Drafen takes is executed in its tick. -/
theorem State.Takes.command (h : s.Takes p) {op : Nat} (hop : p.opcode = BitVec.ofNat 8 op) (body : State → Packet → Done) :
    s.command p op body = s.inside (State.concluded p (body (s.taken p) p) (s.taken p)) := by
  have h3 : s.classThree = s := h.2.1
  have hp : ({ p with opcode := BitVec.ofNat 8 op } : Packet) = p := by rw [← hop]
  have hfl : (s.taken p).flightOf p = some (s.newFlight p) := flightOf_append h.noneOf h.flights rfl
  have hparked : ((s.newFlight p).parked || !(s.taken p).mayStart (s.newFlight p)) = false := by rw [h.mayStart]; rfl
  unfold State.command
  simp only [h.1, Bool.not_true, Bool.false_eq_true, if_false, h3, hp, flightOf_none h.noneOf, h.accepted_taken, hfl, hparked]
  cases body (s.taken p) p <;> rfl

/-- One whose body answers with OK, whose desk it keeps, is answered as R438 and R442 ask. -/
theorem State.Takes.answered (h : s.Takes p) {op : Nat} (hop : p.opcode = BitVec.ofNat 8 op) {body : State → Packet → Done}
    {data : List Nat} (hb : body (s.taken p) p = .ok u .ok { data := data }) (hd : State.KeepsDesk p.sender.val (s.taken p) u)
    (hlen : data.length + 5 ≤ longestReply p) :
    Replied s (s.command p op body) p .ok data ∧ (s.command p op body).cmd.txns = u.cmd.txns ∧ (s.command p op body).tim = s.tim ∧
      (s.command p op body).qsg = u.qsg ∧ RegsBut u (s.command p op body) (seatFields p.sender.val) := by
  have hroom : u.fifoRoom p.sender.val (data.length + 5) = true := by
    rw [hd.fifoRoom, State.fifoRoom, h.seat]
    exact State.fifoRoom_mono h.2.2.2.2.2.2.1 hlen
  have ha := State.finish_answered data h.noneOf (hd.flights.trans h.flights) rfl rfl hroom (by rw [hd.seats, h.seats, h.length]; omega)
  have hc : s.command p op body = s.inside (u.finish p .ok { data := data }) := by rw [h.command hop, hb]; rfl
  have hnow : u.now = s.now := congrArg Tim.canopy (hd.tim.trans h.tim)
  rw [hc]
  refine ⟨⟨ha.resp, ha.flights, ?_⟩, ha.txns, ha.tim.trans (hd.tim.trans h.tim), ha.qsg, ha.regs.congr rfl⟩
  have := ha.fifo
  rw [hd.fifo, h.seat, hnow] at this
  exact this

/-- One whose body waits stays in flight, parked. -/
theorem State.Takes.waits (h : s.Takes p) {op : Nat} (hop : p.opcode = BitVec.ofNat 8 op) {body : State → Packet → Done}
    (hb : body (s.taken p) p = .wait u) (hf : u.cmd.flights = (s.taken p).cmd.flights) :
    (s.command p op body).cmd.flights = s.cmd.flights ++ [⟨p, .window, s.cmd.nextSeqNo, true⟩] ∧
      (s.command p op body).cmd.txns = u.cmd.txns ∧ (s.command p op body).resp = u.resp ∧ (s.command p op body).regs = u.regs := by
  have hc : s.command p op body = s.inside (State.concluded p (.wait u) (s.taken p)) := by rw [h.command hop, hb]
  have hold : s.cmd.flights.map (fun g => if g.packet = p then { g with parked := true } else g) = s.cmd.flights := by
    refine (List.map_congr_left (fun g hg => if_neg ?_)).trans (List.map_id _)
    exact h.noneOf.packet_ne hg
  rw [hc]
  refine ⟨?_, rfl, rfl, rfl⟩
  have : (u.cmd.flights.map (fun g => if g.packet = p then { g with parked := true } else g)) =
      s.cmd.flights ++ [⟨p, .window, s.cmd.nextSeqNo, true⟩] := by
    rw [hf, h.flights, List.map_append, hold]
    simp [State.newFlight]
  exact this

end
end Sys2Proof.Machine
end

section
/-! READ, READ_BLOCK and ECHO (R438, R439, R442): one theorem for each clause. -/

namespace Sys2Proof.Machine

section
variable {e seat addr : Nat} {s t : State} {v : Nat}

/-! ### What reads leave alone -/

theorem State.showFor_aside (s : State) (addr : Nat) : s.Aside (s.showFor addr) := by
  obtain ⟨m, hm⟩ := s.showFor_eq addr
  rw [hm]
  exact ⟨rfl, rfl, rfl⟩

theorem State.readReg_aside (s : State) (r : RegD) (n : Nat) : s.Aside (s.readReg r n).2 := by
  unfold State.readReg
  split
  · exact s.chkOutRead_aside n
  · split
    · exact ⟨rfl, rfl, rfl⟩
    · obtain ⟨m, hm⟩ := s.clearRc_eq n r.fields
      show s.Aside (s.clearRc n r.fields)
      rw [hm]
      exact ⟨rfl, rfl, rfl⟩

theorem State.readHalf_keepsDesk (s : State) (seat addr lo hi : Nat) (isHi : Bool) :
    State.KeepsDesk e s (s.readHalf seat addr lo hi isHi).2 := by
  cases isHi with
  | true => exact State.KeepsDesk.refl
  | false => exact State.keepsDesk_setSeat seat (fun _ => ⟨rfl, rfl⟩)

theorem State.KeepsDesk.of_ok {x : Nat × State} (hx : State.KeepsDesk e s x.2) (h : (.ok x : Except Status (Nat × State)) = .ok (v, t)) :
    State.KeepsDesk e s t := by
  cases h
  exact hx

/-- A read captures a half or clears what its register holds, and leaves the flights and the replies alone. -/
theorem State.readWord_keepsDesk (h : s.readWord seat addr = .ok (v, t)) : State.KeepsDesk e s t := by
  unfold State.readWord at h
  split at h
  · cases h
  split at h
  · cases h
  · exact .of_ok (s.readHalf_keepsDesk _ _ _ _ _) h
  · have hs : State.KeepsDesk e s (s.showFor addr) := (s.showFor_aside addr).keepsDesk
    dsimp only at h
    split at h
    · cases h
    · next r n _ =>
      have hr : State.KeepsDesk e s ((s.showFor addr).readReg r n).2 := hs.trans ((s.showFor addr).readReg_aside r n).keepsDesk
      split at h
      · exact .of_ok hr h
      · exact .of_ok (hr.trans (State.readHalf_keepsDesk _ _ _ _ _ _)) h
      · exact .of_ok (hs.trans (State.readHalf_keepsDesk _ _ _ _ _ _)) h

/-! ### Words from an address on -/

/-- The next of the words that a block read gathers. -/
def readNext (seat addr : Nat) (x : List Nat × State) (i : Nat) : Except Status (List Nat × State) :=
  (x.2.readWord seat (addr + 4 * i)).map (fun y => (x.1 ++ [y.1], y.2))

theorem State.readWords_eq (s : State) (seat addr n : Nat) : s.readWords seat addr n = (List.range n).foldlM (readNext seat addr) ([], s) := by
  have hstep : (fun (x : List Nat × State) i => do
      let (v, t) ← x.2.readWord seat (addr + 4 * i)
      pure (x.1 ++ [v], t)) = readNext seat addr := by
    funext x i
    unfold readNext
    cases x.2.readWord seat (addr + 4 * i) <;> rfl
  rw [State.readWords, hstep]

/-- As many words as were asked for, and the flights and the replies as they were. -/
theorem State.readWords_keepsDesk {n : Nat} {l : List Nat} (h : s.readWords seat addr n = .ok (l, t)) :
    State.KeepsDesk e s t ∧ l.length = n := by
  have key : ∀ (is : List Nat) (x y : List Nat × State), is.foldlM (readNext seat addr) x = .ok y →
      State.KeepsDesk e x.2 y.2 ∧ y.1.length = x.1.length + is.length := by
    intro is
    induction is with
    | nil =>
      intro x y h
      cases h
      exact ⟨State.KeepsDesk.refl, rfl⟩
    | cons i is ih =>
      intro x y h
      rw [List.foldlM_cons] at h
      cases hw : x.2.readWord seat (addr + 4 * i) with
      | error c => simp [readNext, hw, Except.map, bind, Except.bind] at h
      | ok z =>
        simp only [readNext, hw, Except.map, bind, Except.bind] at h
        obtain ⟨hk, hl⟩ := ih _ _ h
        exact ⟨(State.readWord_keepsDesk hw).trans hk, by rw [hl, List.length_append, List.length_singleton, List.length_cons]; omega⟩
  rw [State.readWords_eq] at h
  obtain ⟨hk, hl⟩ := key _ _ _ h
  exact ⟨hk, by simpa using hl⟩

theorem State.readWords_one (h : s.readWord seat addr = .ok (v, t)) : s.readWords seat addr 1 = .ok ([v], t) := by
  have hs : s.readWord seat (addr + 4 * 0) = .ok (v, t) := h
  rw [State.readWords_eq]
  simp only [List.range_succ, List.range_zero, List.nil_append, List.foldlM_cons, List.foldlM_nil, readNext, hs, Except.map, bind,
    Except.bind, pure, Except.pure]

theorem State.readWords_two {u : State} {w : Nat} (h : s.readWord seat addr = .ok (v, t)) (h' : t.readWord seat (addr + 4) = .ok (w, u)) :
    s.readWords seat addr 2 = .ok ([v, w], u) := by
  have hs : s.readWord seat (addr + 4 * 0) = .ok (v, t) := h
  have hs' : t.readWord seat (addr + 4 * 1) = .ok (w, u) := h'
  rw [State.readWords_eq]
  simp only [List.range_succ, List.range_zero, List.nil_append, List.cons_append, List.foldlM_cons, List.foldlM_nil, readNext, hs, hs',
    Except.map, bind, Except.bind, pure, Except.pure]

end

end Sys2Proof.Machine

namespace Sys2Proof.Proofs
open Sys2Proof.Machine

/-! ### The bodies of the rows -/

section
variable {s u : State} {p : Packet} {l : List Nat}

theorem readBody_ok (hc : s.caughtUp = s) (h : s.readWords p.sender.val p.address.toNat 1 = .ok (l, u)) :
    readBody s p = .ok u .ok { data := l } := by
  simp only [readBody, hc, h]

theorem readBlockBody_ok (hn : 1 ≤ p.parameter.toNat ∧ p.parameter.toNat ≤ 1019) (hc : s.caughtUp = s)
    (h : s.readWords p.sender.val p.address.toNat p.parameter.toNat = .ok (l, u)) : readBlockBody s p = .ok u .ok { data := l } := by
  have hne : ¬ (p.parameter.toNat = 0 ∨ 1019 < p.parameter.toNat) := by omega
  simp only [readBlockBody, if_neg hne, hc, h]

theorem longestReply_read (h : p.opcode = 0x01) : longestReply p = 6 := by simp [longestReply, h]

theorem longestReply_readBlock (h : p.opcode = 0x03) (hn : p.parameter.toNat ≤ 1019) : longestReply p = 5 + p.parameter.toNat := by
  simp [longestReply, h, hn]

theorem longestReply_echo (h : p.opcode = 0x70) : longestReply p = 5 + p.data.length := by simp [longestReply, h]

/-! ### READ -/

/-- READ of a plain register answers with what it shows. -/
theorem read_completes (hT : s.Takes p) (hop : p.opcode = 0x01 ∧ p.address.toNat < 0x800000)
    (hf : (findReg p.address.toNat).isSome = true ∧ (regOf p.address.toNat).half = .whole ∧
      (regOf p.address.toNat).fields.all (fun d => d.acc != .rc) = true)
    (hb : (regOf p.address.toNat).base ≠ A.CHK_OUT ∧ (regOf p.address.toNat).base ≠ A.IDN_CERT_DATA)
    (hc : (s.taken p).caughtUp = s.taken p) :
    Completes (.read p) s (fun t => Replied s t p .ok
        [((s.taken p).showFor p.address.toNat).wordOf (regOf p.address.toNat) (copyNo p.address.toNat)] ∧
      t.cmd.txns = s.cmd.txns ∧ t.tim = s.tim ∧ RegsBut ((s.taken p).showFor p.address.toNat) t (seatFields p.sender.val)) := by
  have hread := (s.taken p).readWord_whole p.sender.val hop.2 (findReg_of_isSome hf.1) hf.2.1
  have hrc : ∀ d ∈ (regOf p.address.toNat).fields, d.acc ≠ .rc := fun d hd => bne_iff_ne.mp (List.all_eq_true.mp hf.2.2 d hd)
  rw [State.readReg_plain _ hb, State.clearRc_of_none _ _ hrc] at hread
  have ha := (s.taken p).showFor_aside p.address.toNat
  obtain ⟨hrep, htx, htim, -, hregs⟩ := hT.answered (op := 0x01) hop.1 (readBody_ok hc (State.readWords_one hread)) ha.keepsDesk
    (by rw [longestReply_read hop.1]; simp)
  exact ⟨_, rfl, hrep, htx.trans ((congrArg Cmd.txns ha.cmd).trans hT.txns), htim, hregs⟩

theorem wordOf_stepNs (s : State) : s.wordOf stepNs 0 = s.rd F.TIM_STEP_NS_VALUE :=
  State.wordOf_single s stepNs 0 (fdOk F.TIM_STEP_NS_VALUE .rw .l (within 0 999999999)) (by decide) rfl (by decide) rfl

theorem read_stepNs_completes (hT : s.Takes p) (hop : p.opcode = 0x01 ∧ p.address.toNat = F.TIM_STEP_NS_VALUE.addr 0)
    (hc : (s.taken p).caughtUp = s.taken p) :
    Completes (.read p) s (fun t => Replied s t p .ok [s.rd F.TIM_STEP_NS_VALUE] ∧ t.cmd.txns = s.cmd.txns ∧ t.tim = s.tim ∧
      RegsBut s t (seatFields p.sender.val)) := by
  obtain ⟨t, hx, hrep, htx, htim, hregs⟩ := read_completes hT ⟨hop.1, by rw [hop.2]; decide⟩
    (by rw [hop.2, regOf_eq findReg_stepNs, findReg_stepNs]; exact ⟨rfl, rfl, rfl⟩)
    (by rw [hop.2, regOf_eq findReg_stepNs]; decide) hc
  rw [hop.2, State.showFor_self _ (by decide)] at hregs
  rw [hop.2, State.showFor_self _ (by decide), regOf_eq findReg_stepNs, copyNo_eq findReg_stepNs, wordOf_stepNs,
    hT.regs.rd_below (by decide)] at hrep
  exact ⟨t, hx, hrep, htx, htim, hT.regs.trans hregs⟩

/-! ### READ_BLOCK -/

/-- READ_BLOCK of addresses that can all be read answers with their words. -/
theorem readBlock_completes (hT : s.Takes p) (hop : p.opcode = 0x03 ∧ 1 ≤ p.parameter.toNat ∧ p.parameter.toNat ≤ 1019)
    (hc : (s.taken p).caughtUp = s.taken p)
    (h : ((s.taken p).readWords p.sender.val p.address.toNat p.parameter.toNat).toOption = some (l, u)) :
    Completes (.readBlock p) s (fun t => Replied s t p .ok l ∧ t.tim = s.tim ∧ RegsBut u t (seatFields p.sender.val)) := by
  have hw := eq_ok_of_toOption h
  obtain ⟨hk, hl⟩ := State.readWords_keepsDesk (e := p.sender.val) hw
  obtain ⟨hrep, -, htim, -, hregs⟩ := hT.answered (op := 0x03) hop.1 (readBlockBody_ok hop.2 hc hw) hk
    (by rw [longestReply_readBlock hop.1 hop.2.2, hl]; omega)
  exact ⟨_, rfl, hrep, htim, hregs⟩

/-- READ_BLOCK of a pair answers with both halves of one value. -/
theorem readBlock_canopy_completes (hT : s.Takes p)
    (hop : p.opcode = 0x03 ∧ p.parameter = 2 ∧ p.address.toNat = F.TIM_CANOPY_LO_VALUE.addr 0) (hc : (s.taken p).caughtUp = s.taken p) :
    Completes (.readBlock p) s (fun t => Replied s t p .ok [s.rd F.TIM_CANOPY_LO_VALUE, s.rd F.TIM_CANOPY_HI_VALUE] ∧ t.tim = s.tim ∧
      RegsBut s t (seatFields p.sender.val)) := by
  obtain ⟨hop, hpar, haddr⟩ := hop
  have hlen : p.sender.val < (s.taken p).cmd.seats.length := by rw [hT.seats, hT.length]; exact p.sender.isLt
  have hlo := readWord_canopyLo (s.taken p) p.sender.val
  have hhi := readWord_canopyHi _ p.sender.val (congrArg Seat.capture ((s.taken p).seat_setSeat_same p.sender.val
    (fun x => { x with capture := some (F.TIM_CANOPY_LO_VALUE.addr 0, (s.taken p).rd F.TIM_CANOPY_HI_VALUE) }) hlen))
  have hw := State.readWords_two hlo hhi
  obtain ⟨t, hx, hrep, htim, hregs⟩ := readBlock_completes hT ⟨hop, by rw [hpar]; decide, by rw [hpar]; decide⟩ hc
    (by rw [haddr, hpar]; exact congrArg Except.toOption hw)
  rw [hT.regs.rd_below (by decide), hT.regs.rd_below (by decide)] at hrep
  exact ⟨t, hx, hrep, htim, hT.regs.trans ((RegsBut.of_regs (State.setSeat_regs _ _ _)).trans hregs)⟩

/-! ### ECHO -/

theorem echo_completes (hT : s.Takes p) (hop : p.opcode = 0x70) :
    Completes (.echo p) s (fun t => Replied s t p .ok (p.data.map (fun w => w.toNat)) ∧ t.cmd.txns = s.cmd.txns ∧ t.tim = s.tim ∧
      RegsBut s t (seatFields p.sender.val)) := by
  obtain ⟨hrep, htx, htim, -, hregs⟩ := hT.answered (op := 0x70) hop (body := echoBody) rfl State.KeepsDesk.refl
    (by rw [longestReply_echo hop, List.length_map]; omega)
  exact ⟨_, rfl, hrep, htx.trans hT.txns, htim, hT.regs.trans hregs⟩

end

end Sys2Proof.Proofs
end

section
/-! WRITE and WRITE_BLOCK (R439, R444, R446): one theorem for each clause, and the statement on the packets of registers. -/

namespace Sys2Proof.Proofs
open Sys2Proof.Machine

section
variable {s u : State} {p : Packet} {v : Word} {mask : Nat}

theorem longestReply_write (h : p.opcode = 0x02) : longestReply p = 6 := by simp [longestReply, h]
theorem longestReply_writeBlock (h : p.opcode = 0x04) : longestReply p = 6 := by simp [longestReply, h]

/-- WRITE carries one word under its mask, WRITE_BLOCK each of its words in full. -/
theorem writeBody_eq (s : State) (hd : p.data = [v]) :
    writeBody s p = s.writeWords p [⟨p.address.toNat, p.parameter.toNat, v.toNat⟩] := by simp [writeBody, hd]

theorem writeBlockBody_eq (s : State) (hd : p.data = [v]) :
    writeBlockBody s p = s.writeWords p [⟨p.address.toNat, 0xFFFFFFFF, v.toNat⟩] := by simp [writeBlockBody, hd]

/-! ### Without a TXN_ID (R444) -/

/-- Words that a direct write applies at once are answered; those of class S wait for their commit. -/
theorem writeWords_direct {w : StagedWord} (htx : p.txn = 0) {later : Bool}
    (hd : s.writeDirect p.sender.val [w] (some p) = .ok (u, later)) :
    s.writeWords p [w] = if later || resetWrite w then .wait u else .ok u .ok {} := by
  simp [State.writeWords, htx, hd]

/-- A word that comes at once is answered with OK when it is written. -/
theorem command_wroteWord (hT : s.Takes p) {op : Nat} (hop : p.opcode = BitVec.ofNat 8 op) {body : State → Packet → Done}
    (hb : body (s.taken p) p = (s.taken p).writeWords p [⟨p.address.toNat, mask, v.toNat⟩]) (htx : p.txn = 0) (hlen : 5 ≤ longestReply p)
    (hsome : (findReg p.address.toNat).isSome = true) (hhalf : (regOf p.address.toNat).half = .whole) {c : Cls} (hc : c ≠ .s)
    (ht : (s.taken p).tryWord (s.taken p) p.sender.val 0 (pure ()) ⟨p.address.toNat, mask, v.toNat⟩ =
      .ok (c, (s.taken p).poke (regOf p.address.toNat) (copyNo p.address.toNat) mask v.toNat))
    (hreset : resetWrite ⟨p.address.toNat, mask, v.toNat⟩ = false) :
    Replied s (s.command p op body) p .ok [] ∧ (s.command p op body).cmd.txns = s.cmd.txns ∧ (s.command p op body).tim = s.tim ∧
      (s.command p op body).qsg = s.qsg ∧
      (∀ d ∈ s.fieldsOf (regOf p.address.toNat) (copyNo p.address.toNat), d.acc = .rw ∨ d.acc = .w1c →
        (s.command p op body).rd d.fld (copyNo p.address.toNat) =
          s.written d (copyNo p.address.toNat) mask v.toNat % 2 ^ d.fld.width) ∧
      RegsBut s (s.command p op body) ((regOf p.address.toNat).fields.map (fun d => (d.fld, copyNo p.address.toNat)) ++ digestFields ++
        seatFields p.sender.val) := by
  have hf := findReg_of_isSome hsome
  have hd := State.writeDirect_now hf hhalf ht hc (some p)
  have hbody := hb.trans (writeWords_direct htx hd)
  rw [Bool.false_or, hreset, if_neg Bool.false_ne_true] at hbody
  obtain ⟨m, k, i, he⟩ := (s.taken p).wroteWord_poke p.sender.val p.address.toNat v.toNat mask (regOf p.address.toNat)
    (copyNo p.address.toNat)
  have hdesk : State.KeepsDesk p.sender.val (s.taken p) ((s.taken p).wroteWord p.sender.val p.address.toNat v.toNat mask
      ((s.taken p).poke (regOf p.address.toNat) (copyNo p.address.toNat) mask v.toNat)) := by
    rw [he]; exact ⟨rfl, rfl, rfl, rfl, rfl⟩
  obtain ⟨hrep, htxns, htim, hqsg, hregs⟩ := hT.answered hop hbody hdesk (by simpa using hlen)
  refine ⟨hrep, htxns.trans ?_, htim, hqsg.trans ?_, fun d hd hacc => ?_, ?_⟩
  · rw [he]; exact hT.txns
  · rw [he]; exact hT.qsg
  · have hmem := State.mem_of_mem_fieldsOf hd
    have hro := FieldD.not_ro hacc
    rw [hregs.rd_field (seatFields_readOnly p.sender) hf hmem hro,
      State.rd_wroteWord_poke hf (by rw [State.fieldsOf_congr hT.regs hf]; exact hd) hro,
      State.written_congr (hT.regs.rd_field (seatFields_readOnly p.sender) hf hmem hro) hT.hwSet]
  · have hall := (hT.regs.append (RegsBut.wroteWord_poke (s.taken p) p.sender.val p.address.toNat v.toNat mask (regOf p.address.toNat)
      (copyNo p.address.toNat))).append hregs
    refine hall.mono (fun x hx => ?_)
    simp only [List.mem_append] at hx ⊢
    tauto

theorem write_completes (hT : s.Takes p) (hop : p.opcode = 0x02 ∧ p.txn = 0 ∧ p.data = [v])
    (hw : (s.taken p).WritesAtOnce p.sender.val p.address.toNat v.toNat p.parameter.toNat)
    (ha : ((s.taken p).applyWord p.sender.val ⟨p.address.toNat, p.parameter.toNat, v.toNat⟩).toOption =
      some ((s.taken p).poke (regOf p.address.toNat) (copyNo p.address.toNat) p.parameter.toNat v.toNat)) :
    Completes (.write p) s (fun t => Replied s t p .ok [] ∧ t.cmd.txns = s.cmd.txns ∧ t.tim = s.tim ∧ t.qsg = s.qsg ∧
      (∀ d ∈ s.fieldsOf (regOf p.address.toNat) (copyNo p.address.toNat), d.acc = .rw ∨ d.acc = .w1c →
        t.rd d.fld (copyNo p.address.toNat) = s.written d (copyNo p.address.toNat) p.parameter.toNat v.toNat % 2 ^ d.fld.width) ∧
      RegsBut s t ((regOf p.address.toNat).fields.map (fun d => (d.fld, copyNo p.address.toNat)) ++ digestFields ++
        seatFields p.sender.val)) := by
  obtain ⟨c, hc, ht⟩ := hw.tryWord ha
  obtain ⟨-, hsome, hhalf, -, -, -, -, -, hreset⟩ := hw
  exact ⟨_, rfl, command_wroteWord hT (op := 0x02) hop.1 (writeBody_eq _ hop.2.2) hop.2.1 (by rw [longestReply_write hop.1]; decide) hsome hhalf
    hc ht hreset⟩

theorem writeBlock_completes (hT : s.Takes p) (hop : p.opcode = 0x04 ∧ p.txn = 0 ∧ p.data = [v])
    (hw : (s.taken p).WritesAtOnce p.sender.val p.address.toNat v.toNat 0xFFFFFFFF)
    (ha : ((s.taken p).applyWord p.sender.val ⟨p.address.toNat, 0xFFFFFFFF, v.toNat⟩).toOption =
      some ((s.taken p).poke (regOf p.address.toNat) (copyNo p.address.toNat) 0xFFFFFFFF v.toNat)) :
    Completes (.writeBlock p) s (fun t => Replied s t p .ok [] ∧ t.cmd.txns = s.cmd.txns ∧ t.tim = s.tim ∧ t.qsg = s.qsg ∧
      (∀ d ∈ s.fieldsOf (regOf p.address.toNat) (copyNo p.address.toNat), d.acc = .rw ∨ d.acc = .w1c →
        t.rd d.fld (copyNo p.address.toNat) = s.written d (copyNo p.address.toNat) 0xFFFFFFFF v.toNat % 2 ^ d.fld.width) ∧
      RegsBut s t ((regOf p.address.toNat).fields.map (fun d => (d.fld, copyNo p.address.toNat)) ++ digestFields ++
        seatFields p.sender.val)) := by
  obtain ⟨c, hc, ht⟩ := hw.tryWord ha
  obtain ⟨-, hsome, hhalf, -, -, -, -, -, hreset⟩ := hw
  exact ⟨_, rfl, command_wroteWord hT (op := 0x04) hop.1 (writeBlockBody_eq _ hop.2.2) hop.2.1 (by rw [longestReply_writeBlock hop.1]; decide) hsome hhalf
    hc ht hreset⟩

/-- A WRITE has one data word (R439). -/
theorem write_data (hT : s.Takes p) (hop : p.opcode = 0x02) : p.data = [p.data.getD 0 0] := by
  have hlen : p.data.length = 1 := by
    have hform : packetForm p = true := hT.2.2.1
    simp only [packetForm, hop, opForm] at hform
    simp at hform
    omega
  obtain ⟨a, ha⟩ := List.length_eq_one_iff.mp hlen
  simp [ha]

/-- STEP_NS of Seat 0, in full. -/
theorem write_stepNs_completes (hT : s.Takes p)
    (hop : p.opcode = 0x02 ∧ p.txn = 0 ∧ p.sender = 0 ∧ p.address.toNat = F.TIM_STEP_NS_VALUE.addr 0)
    (hv : (p.data.getD 0 0).toNat < 1000000000 ∧ p.parameter = 0xFFFFFFFF) (hh : s.wordHeld 0 (F.TIM_STEP_NS_VALUE.addr 0) = false) :
    Completes (.write p) s (fun t => Replied s t p .ok [] ∧ t.rd F.TIM_STEP_NS_VALUE = (p.data.getD 0 0).toNat ∧
      t.cmd.txns = s.cmd.txns ∧ t.tim = s.tim ∧ RegsBut s t ((F.TIM_STEP_NS_VALUE, 0) :: digestFields ++ seatFields 0)) := by
  obtain ⟨hop, htx, hsender, haddr⟩ := hop
  have hn : regOf p.address.toNat = stepNs := by rw [haddr, regOf_eq findReg_stepNs]
  have hk : copyNo p.address.toNat = 0 := by rw [haddr, copyNo_eq findReg_stepNs]
  have ht := stepNs_plain.tryWord (force := s.taken p) (s := s.taken p) (seat := 0) (txn := 0)
    (w := ⟨F.TIM_STEP_NS_VALUE.addr 0, 0xFFFFFFFF, (p.data.getD 0 0).toNat⟩) findReg_stepNs rfl
    (by rw [State.wordHeld, hT.txns]; exact hh)
    (by rw [stepNs_inRange _ (show (p.data.getD 0 0).toNat < 2 ^ 30 by omega)]; simpa using hv.1)
  have hbody := writeBody_eq (s.taken p) (write_data hT hop)
  rw [hv.2] at hbody
  obtain ⟨hrep, htxns, htim, -, hrd, hregs⟩ := command_wroteWord hT (op := 0x02) (mask := 0xFFFFFFFF) hop hbody htx
    (by rw [longestReply_write hop]; decide) (by rw [haddr, findReg_stepNs]; rfl) (by rw [hn]; rfl) (c := .l) (by decide)
    (by rw [hn, hk, haddr, hsender]; exact ht) (by rw [haddr]; rfl)
  rw [hn, hk] at hrd hregs
  rw [hsender] at hregs
  refine ⟨_, rfl, hrep, ?_, htxns, htim, hregs⟩
  exact (hrd _ List.mem_cons_self (.inl rfl)).trans (stepNs_written s hv.1)

/-- A word of class S begins an implicit transaction, and its command stays in flight until the commit. -/
theorem write_shadowed_completes (hT : s.Takes p) (hop : p.opcode = 0x02 ∧ p.txn = 0 ∧ p.data = [v])
    (hf : (findReg p.address.toNat).isSome = true ∧ (regOf p.address.toNat).half = .whole)
    (hc : (((s.taken p).tryWord (s.taken p) p.sender.val 0 (pure ()) ⟨p.address.toNat, p.parameter.toNat, v.toNat⟩).toOption).map
      (fun x => x.1) = some .s) :
    Completes (.write p) s (fun t => t.cmd.flights = s.cmd.flights ++ [⟨p, .window, s.cmd.nextSeqNo, true⟩] ∧ t.resp = s.resp ∧
      t.cmd.txns.map (fun x => x.id) = s.cmd.txns.map (fun x => x.id) ++ [4096 + s.syn.nextAction] ∧
      (t.cmd.txns.getLast?).map (fun x => (x.seat, x.implicit, x.words, x.waiting)) =
        some (p.sender.val, true, [⟨p.address.toNat, p.parameter.toNat, v.toNat⟩], some p) ∧ RegsBut s t (seatFields p.sender.val)) := by
  obtain ⟨t, ht⟩ := State.tryWord_of_class hc
  obtain ⟨staging, hd⟩ := State.writeDirect_shadowed (findReg_of_isSome hf.1) hf.2 ht (some p)
  have hbody := (writeBody_eq (s.taken p) hop.2.2).trans (writeWords_direct hop.2.1 hd)
  rw [Bool.true_or, if_pos rfl] at hbody
  obtain ⟨hfl, htx, hresp, hregs⟩ := hT.waits (op := 0x02) hop.1 (body := writeBody) hbody rfl
  obtain ⟨m, he⟩ := hT.taken_form
  refine ⟨_, rfl, hfl, hresp.trans ?_, ?_, ?_, hT.regs.congr (hregs.trans (by rw [State.implicitTxn_regs, State.setSeat_regs]))⟩
  · rw [he]; rfl
  · rw [htx, he]
    simp [State.implicitTxn, State.setSeat, State.setCmd]
  · rw [htx]
    simp [State.implicitTxn]

/-! ### With a TXN_ID (R446) -/

/-- STEP_NS staged in full by the one transaction that is open. -/
theorem stageAll_stepNs {x : Txn} {id n : Nat} (htx : s.cmd.txns = [x])
    (hx : x.implicit = false ∧ x.id = id ∧ x.seat = 0 ∧ x.phase = .staging ∧ x.words = []) (hn : n < 1000000000) :
    s.stageAll 0 id [⟨F.TIM_STEP_NS_VALUE.addr 0, 0xFFFFFFFF, n⟩] = .ok (s.putTxn { x with
      words := [⟨F.TIM_STEP_NS_VALUE.addr 0, 0xFFFFFFFF, n⟩], order := x.order ++ [false] }) := by
  obtain ⟨himp, hid, hseat, hphase, hwords⟩ := hx
  have hopen : s.stagingTxn 0 id = .ok x := by
    simp [State.stagingTxn, State.openTxn, htx, himp, hid, hseat, hphase, need, bind, Except.bind, pure, Except.pure]
  have hheld : s.wordHeld id (F.TIM_STEP_NS_VALUE.addr 0) = false := by simp [State.wordHeld, htx, hid]
  have ht : s.tryWord s 0 id (.ok ()) ⟨F.TIM_STEP_NS_VALUE.addr 0, 0xFFFFFFFF, n⟩ = _ :=
    stepNs_plain.tryWord (force := s) (s := s) (seat := 0) (txn := id) (w := ⟨F.TIM_STEP_NS_VALUE.addr 0, 0xFFFFFFFF, n⟩)
      findReg_stepNs rfl hheld (by rw [stepNs_inRange _ (show n < 2 ^ 30 by omega)]; simpa using hn)
  have hstage : x.stageWord ⟨F.TIM_STEP_NS_VALUE.addr 0, 0xFFFFFFFF, n⟩ = .ok { x with
      words := [⟨F.TIM_STEP_NS_VALUE.addr 0, 0xFFFFFFFF, n⟩], order := x.order ++ [false] } := by
    simp [Txn.stageWord, hwords, need, bind, Except.bind, pure, Except.pure]
  have hpair := s.pairWords_whole 0 0xFFFFFFFF n findReg_stepNs rfl
  have hover : s.overlay x.words = s := by rw [hwords]; rfl
  have hself : s.setSeat 0 (fun e => { e with staging := (s.seat 0).staging }) = s := State.setSeat_eq_self _ _ _ rfl
  have hone : s.stageOne 0 id (s, x) ⟨F.TIM_STEP_NS_VALUE.addr 0, 0xFFFFFFFF, n⟩ = .ok (s, { x with
      words := [⟨F.TIM_STEP_NS_VALUE.addr 0, 0xFFFFFFFF, n⟩], order := x.order ++ [false] }) := by
    simp only [State.stageOne, hopen, Except.map, hpair, List.cons_ne_nil, if_false, List.foldlM_cons, List.foldlM_nil, hover, ht,
      hstage, hself, bind, Except.bind, pure, Except.pure]
  simp only [State.stageAll, hopen, List.foldlM_cons, List.foldlM_nil, hone, bind, Except.bind, pure, Except.pure]

/-- WRITE_BLOCK with a TXN_ID stages its words, and no register shows them. -/
theorem writeBlock_staged_completes {x : Txn} (hT : s.Takes p)
    (hop : p.opcode = 0x04 ∧ p.sender = 0 ∧ p.address.toNat = F.TIM_STEP_NS_VALUE.addr 0 ∧ p.data = [v] ∧ v.toNat < 1000000000)
    (hx : s.cmd.txns = [x] ∧ x.implicit = false ∧ x.id = p.txn.toNat ∧ x.id ≠ 0 ∧ x.seat = 0 ∧ x.phase = .staging ∧ x.words = []) :
    Completes (.writeBlock p) s (fun t => Replied s t p .ok [] ∧
      t.cmd.txns = [{ x with words := [⟨F.TIM_STEP_NS_VALUE.addr 0, 0xFFFFFFFF, v.toNat⟩], order := x.order ++ [false], lastCmd := s.now }] ∧
      RegsBut s t (seatFields 0) ∧ t.tim = s.tim) := by
  obtain ⟨hop, hsender, haddr, hdata, hv⟩ := hop
  obtain ⟨htx, himp, hid, hid0, hseat, hphase, hwords⟩ := hx
  have hnow : (s.taken p).now = s.now := congrArg Tim.canopy hT.tim
  have htouch : ((s.taken p).touchTxn p.txn.toNat).cmd.txns = [{ x with lastCmd := s.now }] := by
    simp [State.touchTxn, State.setCmd, hT.txns, htx, himp, hid, hnow]
  have hstage := stageAll_stepNs (s := (s.taken p).touchTxn p.txn.toNat) (id := p.txn.toNat) (n := v.toNat) htouch
    ⟨himp, hid, hseat, hphase, hwords⟩ hv
  have hbody : writeBlockBody (s.taken p) p = .ok (((s.taken p).touchTxn p.txn.toNat).putTxn { x with
      words := [⟨F.TIM_STEP_NS_VALUE.addr 0, 0xFFFFFFFF, v.toNat⟩], order := x.order ++ [false], lastCmd := s.now }) .ok {} := by
    rw [writeBlockBody_eq _ hdata, haddr]
    have hne : p.txn.toNat ≠ 0 := hid ▸ hid0
    simp only [State.writeWords, if_neg hne, hsender]
    simp only [Fin.val_zero, hstage]
  have hdesk : State.KeepsDesk p.sender.val (s.taken p) (((s.taken p).touchTxn p.txn.toNat).putTxn { x with
      words := [⟨F.TIM_STEP_NS_VALUE.addr 0, 0xFFFFFFFF, v.toNat⟩], order := x.order ++ [false], lastCmd := s.now }) :=
    (State.touchTxn_keepsDesk _ _).trans (State.putTxn_keepsDesk _ _)
  obtain ⟨hrep, htxns, htim, -, hregs⟩ := hT.answered (op := 0x04) hop hbody hdesk (by rw [longestReply_writeBlock hop]; decide)
  refine ⟨_, rfl, hrep, htxns.trans ?_, ?_, htim⟩
  · simp [State.putTxn, State.setCmd, htouch]
  · rw [← show p.sender.val = 0 from congrArg Fin.val hsender]
    exact hT.regs.trans ((RegsBut.of_regs (by rw [State.putTxn_regs, State.touchTxn_regs])).trans hregs)

end

/-- Settles O22: each clause from the row of a packet that Drafen takes at once. -/
theorem packetsReadWriteAndEcho : Obligations.PacketsReadWriteAndEcho := by
  refine ⟨?_, ?_, ?_, ?_, ?_, ?_, ?_, ?_, ?_, ?_⟩
  · exact fun s p hT hop hc => read_stepNs_completes hT hop hc
  · exact fun s p hT hop hf hb hc => read_completes hT hop hf hb hc
  · exact fun s p hT hop hv hh => write_stepNs_completes hT hop hv hh
  · exact fun s p v hT hop hw ha => write_completes hT hop hw ha
  · exact fun s p v hT hop hf hc => write_shadowed_completes hT hop hf hc
  · exact fun s p hT hop hc => readBlock_canopy_completes hT hop hc
  · exact fun s p l u hT hop hc h => readBlock_completes hT hop hc h
  · exact fun s p x v hT hop hx => writeBlock_staged_completes hT hop hx
  · exact fun s p v hT hop hw ha => writeBlock_completes hT hop hw ha
  · exact fun s p hT hop => echo_completes hT hop

end Sys2Proof.Proofs
end

section
/-! One step of the machine: it runs the command at the front of the queue, and every command has a next state. -/

namespace Sys2Proof.Proofs
open Sys2Proof.Machine

/-- Every row of the table answers a next state. -/
theorem exec_isNext (c : Instr) (s : State) : ∃ t, exec c s = .next t := by
  cases c with
  | _ => exact ⟨_, rfl⟩

theorem step_of_pending_nil {s : State} (h : s.pending = []) : step s = .next s := by rw [step, h]

theorem step_of_pending_cons {s : State} {c : Instr} {rest : List Instr} (h : s.pending = c :: rest) :
    step s = exec c { s with pending := rest } := by rw [step, h]

/-- Settles O54: the two cases of the queue. -/
theorem stepRunsTheFrontCommand : Obligations.StepRunsTheFrontCommand :=
  ⟨fun _ _ _ h => step_of_pending_cons h, fun _ h => step_of_pending_nil h⟩

theorem safe_all (s : State) : s.Safe := by
  cases h : s.pending with
  | nil => exact ⟨s, step_of_pending_nil h⟩
  | cons c rest =>
    obtain ⟨t, ht⟩ := exec_isNext c { s with pending := rest }
    exact ⟨t, (step_of_pending_cons h).trans ht⟩

/-- Settles O55: row by row, and with an empty queue the part idles. -/
theorem noCommandStopsThePart : Obligations.NoCommandStopsThePart := ⟨exec_isNext, safe_all⟩

end Sys2Proof.Proofs
end

section
/-! The boundary of a tick at which Drafen looks into a Command FIFO (R427). -/

namespace Sys2Proof.Proofs
open Sys2Proof.Machine

/-- The part in tick 0, its counters in step. A word whose LENGTH is below 5 stands first in the Command FIFO of Seat 0. -/
def badLengthWaits : State :=
  { State.reset.wr F.TIM_STATUS_RUN 0 1 with cmd := { seats := [{ cmdFifo := [0] }, {}, {}, {}] } }

/-- The next state of a command, `d` where it has none. -/
def nextOr (d : State) : Host.Outcome State Fault Refusal → State
  | .next t => t
  | _ => d

/-- At the boundary Drafen finds the word: FRAMING is set and counted in the tick that opens. -/
theorem canopyTick_counts_framing :
    (nextOr State.reset (exec (.canopyTick 0 0 0) badLengthWaits)).cntTick = [(cntKey 16 3 0, 1)] := by decide +kernel

/-- Refutes O1: the first clause says that no increment of the new tick stands at its boundary, where a packet that the boundary
takes is counted. -/
theorem not_canopyCountsAndOutvotesOneCounter : ¬ Obligations.CanopyCountsAndOutvotesOneCounter := by
  unfold Obligations.CanopyCountsAndOutvotesOneCounter
  rintro ⟨h, -⟩
  obtain ⟨t, ht, -, -, -, -, -, -, -, hcnt⟩ := h badLengthWaits (by decide +kernel) (by decide +kernel) (by decide +kernel)
  have hcounts := canopyTick_counts_framing
  rw [ht, nextOr, hcnt] at hcounts
  exact absurd hcounts (by decide)

end Sys2Proof.Proofs
end

section
/-! The time base (chapter 1): what a new parameter set, a step and the servo's part in it leave alone, and what the registers
show of them. -/

namespace Sys2Proof.Machine

/-! ### Registers -/

section
variable {s t u : State} {l : List (Fld × Nat)}

theorem RegsBut.raiseBits (h : RegsBut s t l) {f : Fld} {n : Nat} (v : Nat) (hf : (f, n) ∈ l) : RegsBut s (t.raiseBits f n v) l :=
  (h.wr (t.rd f n ||| v) hf).congr rfl

theorem RegsBut.wr2 (h : RegsBut s t l) {lo hi : Fld} {n : Nat} (v : Nat) (hlo : (lo, n) ∈ l) (hhi : (hi, n) ∈ l) :
    RegsBut s (t.wr2 lo hi n v) l := (h.wr v hlo).wr (v / 2 ^ 32) hhi

/-- A record shows in no register but the flag of the gap that it may fall into. -/
theorem RegsBut.hand (s : State) (r : Record) : RegsBut s (s.hand r) [(F.EVR_INT_STATUS_GAP, 0)] := fun f n hf =>
  s.rd_hand r f n (hf (F.EVR_INT_STATUS_GAP, 0) List.mem_cons_self)

theorem RegsBut.timeState (s : State) (cause : Nat) : RegsBut s (s.timeState cause) [(F.EVR_INT_STATUS_GAP, 0)] := RegsBut.hand s _

theorem RegsBut.on (h : RegsBut s t l) {f : Fld} {n : Nat} (hf : ∀ x ∈ l, x.1.key x.2 ≠ f.key n) : t.on f n = s.on f n := by
  simp only [State.on, h f n hf]

/-- A flag that the hardware raises reads 1. -/
theorem State.on_raiseBits_one (s : State) (f : Fld) (n : Nat) (hw : f.width = 1) : (s.raiseBits f n 1).on f n = true := by
  have hlt := s.rd_lt f n
  rw [hw] at hlt
  have h : s.rd f n = 0 ∨ s.rd f n = 1 := by omega
  rw [State.on, State.rd_raiseBits_same, hw]
  obtain h | h := h <;> rw [h] <;> rfl

theorem State.on_wr_one (s : State) (f : Fld) (n : Nat) (hw : f.width = 1) : (s.wr f n 1).on f n = true := by
  rw [State.on_wr_same, hw]; rfl

theorem State.on_wr_zero (s : State) (f : Fld) (n : Nat) : (s.wr f n 0).on f n = false := by
  rw [State.on_wr_same, Nat.zero_mod]; rfl

/-- A pair holds a value of as many bits as its halves have. -/
theorem State.rd2_wr2 (s : State) {lo hi : Fld} {n v : Nat} (hk : hi.key n ≠ lo.key n) (hlo : lo.width = 32)
    (hv : v < 2 ^ (32 + hi.width)) : (s.wr2 lo hi n v).rd2 lo hi n = v := by
  have hhi : v / 2 ^ 32 < 2 ^ hi.width := Nat.div_lt_of_lt_mul (by rwa [← Nat.pow_add])
  rw [State.rd2, State.wr2, State.rd_wr_same, State.rd_wr_other _ _ _ hk, State.rd_wr_same, hlo, Nat.mod_eq_of_lt hhi]
  exact Nat.div_add_mod' v (2 ^ 32)

theorem RegsBut.rd2 (h : RegsBut s t l) {lo hi : Fld} {n : Nat} (hlo : ∀ x ∈ l, x.1.key x.2 ≠ lo.key n)
    (hhi : ∀ x ∈ l, x.1.key x.2 ≠ hi.key n) : t.rd2 lo hi n = s.rd2 lo hi n := by
  simp only [State.rd2, h lo n hlo, h hi n hhi]

end

/-! ### What class 3 of a tick moves -/

/-- t differs from s only where the time base, the servo, its faults and its records do; the tick and the Rate that waits are those
of s. -/
structure State.ClassThree (s t : State) : Prop where
  frame : t = { s with regs := t.regs, hwSet := t.hwSet, cntTick := t.cntTick, tim := t.tim, syn := t.syn, evr := t.evr, flt := t.flt }
  canopy : t.tim.canopy = s.tim.canopy
  armedRate : t.tim.armedRate = s.tim.armedRate

namespace State.ClassThree
variable {s t u : State}

theorem refl (s : State) : s.ClassThree s := ⟨rfl, rfl, rfl⟩

theorem trans (h : s.ClassThree t) (h' : t.ClassThree u) : s.ClassThree u := by
  refine ⟨?_, h'.canopy.trans h.canopy, h'.armedRate.trans h.armedRate⟩
  rw [h'.frame, h.frame]

theorem pending (h : s.ClassThree t) : t.pending = s.pending := by rw [h.frame]
theorem pins (h : s.ClassThree t) : t.pins = s.pins := by rw [h.frame]
theorem now (h : s.ClassThree t) : t.now = s.now := h.canopy

/-- What a gate puts back, class 3 leaves alone. -/
theorem inside_eq (h : s.ClassThree t) : s.inside t = t := by
  rw [State.inside, ← h.pending, ← h.pins]

theorem when (b : Bool) {f : State → State} (h : s.ClassThree (f s)) : s.ClassThree (s.when b f) := by
  unfold State.when
  split
  · rw [h.inside_eq]; exact h
  · exact refl s

end State.ClassThree

section
variable (s : State)

theorem State.hand_classThree (r : Record) : s.ClassThree (s.hand r) := by
  obtain h | h := s.hand_cases r <;> rw [h] <;> exact ⟨rfl, rfl, rfl⟩

theorem State.timeState_classThree (cause : Nat) : s.ClassThree (s.timeState cause) := s.hand_classThree _

theorem State.raiseBits_classThree (f : Fld) (n v : Nat) : s.ClassThree (s.raiseBits f n v) := ⟨rfl, rfl, rfl⟩
theorem State.wr_classThree (f : Fld) (n v : Nat) : s.ClassThree (s.wr f n v) := ⟨rfl, rfl, rfl⟩
theorem State.setServo_classThree (f : Servo → Servo) : s.ClassThree (s.setServo f) := ⟨rfl, rfl, rfl⟩
theorem State.setParams_classThree (p : ViewParams) : s.ClassThree (s.setParams p) := ⟨rfl, rfl, rfl⟩

theorem State.setRate_classThree (r : Int) : s.ClassThree (s.setRate r) :=
  (State.ClassThree.when (s := s) (decide (clampRate r ≠ r))
    (f := fun s => (s.bump 4 5).raiseBits F.TIM_INT_STATUS_RATE_CLAMPED 0 1) ⟨rfl, rfl, rfl⟩).trans (State.setParams_classThree _ _)

theorem State.servoState_classThree (k : Nat) : s.ClassThree (s.servoState k) := by
  unfold State.servoState
  split
  · exact .refl s
  · exact ⟨rfl, rfl, rfl⟩

theorem State.stepTaken_classThree : s.ClassThree s.stepTaken := by
  unfold State.stepTaken
  split
  · exact (s.servoState_classThree 2).trans (State.setServo_classThree _ _)
  · exact .refl s

theorem State.openEpoch_classThree (offset : Nat) : s.ClassThree (s.openEpoch offset) := by
  unfold State.openEpoch
  refine .trans ?_ (State.timeState_classThree _ _)
  refine .trans ?_ (State.stepTaken_classThree _)
  exact ⟨rfl, rfl, rfl⟩

theorem State.feed_classThree (src : Nat) (theta : Int) : s.ClassThree (s.feed src theta) := by
  unfold State.feed
  dsimp only
  split
  · exact s.setRate_classThree _
  · exact (s.wr_classThree _ _ _).trans (State.setRate_classThree _ _)

theorem State.enterSlewing_classThree (theta : Int) : s.ClassThree (s.enterSlewing theta) := by
  unfold State.enterSlewing
  split
  · exact .refl s
  · exact (s.servoState_classThree 4).trans ⟨rfl, rfl, rfl⟩

theorem State.servoStep_classThree (st : ArmedStep) : s.ClassThree (s.servoStep st) := by
  have h : s.ClassThree { s with tim := { s.tim with servoStep := none } } := ⟨rfl, rfl, rfl⟩
  unfold State.servoStep
  dsimp only
  split
  · exact (h.trans (State.openEpoch_classThree _ _)).trans (State.raiseBits_classThree _ _ _ _)
  · exact ((h.trans (State.raiseBits_classThree _ _ _ _)).trans (State.enterSlewing_classThree _ _)).trans (State.feed_classThree _ _ _)

theorem State.bump_classThree (a b : Nat) : s.ClassThree (s.bump a b) := ⟨rfl, rfl, rfl⟩

theorem State.registerStep_classThree (st : ArmedStep) : s.ClassThree (s.registerStep st) := by
  have h : s.ClassThree { s with tim := { s.tim with armedStep := none } } := ⟨rfl, rfl, rfl⟩
  have hp := h.trans (State.wr_classThree _ F.TIM_STEP_CTRL_PENDING 0 0)
  unfold State.registerStep
  dsimp only
  generalize State.wr _ _ _ _ = t at hp ⊢
  split
  · have hs : t.ClassThree { t with tim := { t.tim with servoStep := none } } := ⟨rfl, rfl, rfl⟩
    exact (hp.trans hs).trans (State.openEpoch_classThree _ _)
  · exact (hp.trans (State.raiseBits_classThree _ _ _ _)).trans (State.bump_classThree _ _ _)

/-- The register step that is due, carried out. -/
def State.registerStepDue : State :=
  match dueStep s.now s.tim.armedStep with
  | some st => s.registerStep st
  | none => s

/-- The servo's step that is due, carried out in a tick without an epoch change. -/
def State.servoStepDue : State :=
  match dueStep s.now s.tim.servoStep with
  | some st => if s.tim.epochTick = some s.now then s else s.servoStep st
  | none => s

/-- One epoch change in a tick, and the register step before the servo's (R26, R27). -/
theorem State.epochDue_eq : s.epochDue = if s.tim.epochTick = some s.now then s else s.registerStepDue.servoStepDue := rfl

theorem State.registerStepDue_classThree : s.ClassThree s.registerStepDue := by
  unfold State.registerStepDue
  split
  · exact s.registerStep_classThree _
  · exact .refl s

theorem State.servoStepDue_classThree : s.ClassThree s.servoStepDue := by
  unfold State.servoStepDue
  split
  · split
    · exact .refl s
    · exact s.servoStep_classThree _
  · exact .refl s

theorem State.epochDue_classThree : s.ClassThree s.epochDue := by
  rw [s.epochDue_eq]
  split
  · exact .refl s
  · exact s.registerStepDue_classThree.trans (State.servoStepDue_classThree _)

end

/-! ### The view -/

/-- A set re-anchored at a tick shows its Offset there (R24). -/
theorem viewUnits_anchor (p : ViewParams) : viewUnits p p.anchor 0 = p.offset := by
  simp [viewUnits]

/-- A view already taken modulo 2⁴⁸ seconds stays. -/
theorem viewWrap_viewWrap (v : Int) : viewWrap (viewWrap v) = viewWrap v := by
  unfold viewWrap
  have h : 0 ≤ v % ((2 ^ 48 * unitsPerSec : Nat) : Int) := Int.emod_nonneg v (by decide)
  rw [Int.toNat_of_nonneg h, Int.emod_emod]

theorem viewWrap_lt (v : Int) : viewWrap v < 2 ^ 48 * unitsPerSec := by
  have h : 0 ≤ v % ((2 ^ 48 * unitsPerSec : Nat) : Int) := Int.emod_nonneg v (by decide)
  have h' := Int.emod_lt_of_pos v (b := ((2 ^ 48 * unitsPerSec : Nat) : Int)) (by decide)
  unfold viewWrap
  omega

@[simp] theorem State.setParams_params (s : State) (p : ViewParams) : (s.setParams p).params = p := rfl

/-- A Rate within its limit reads back as it was set. -/
theorem toS_ofS_clampRate (r : Int) : toS 32 (ofS 32 (clampRate r)) = clampRate r := by
  have h : -536870912 ≤ clampRate r ∧ clampRate r ≤ 536870912 := by
    simp only [clampRate, rateLimit]; omega
  generalize clampRate r = c at h
  simp only [toS, ofS]
  omega

/-! ### The registers that show a parameter set (R44) -/

def paramFields : List (Fld × Nat) :=
  [(F.TIM_ANCHOR_LO_VALUE, 0), (F.TIM_ANCHOR_HI_VALUE, 0), (F.TIM_OFFSET_SEC_LO_VALUE, 0), (F.TIM_OFFSET_SEC_HI_VALUE, 0),
   (F.TIM_OFFSET_NS_VALUE, 0), (F.TIM_OFFSET_FRAC_VALUE, 0), (F.TIM_RATE_VALUE, 0), (F.TIM_EPOCH_CURRENT, 0)]

section
variable (s : State) (p : ViewParams)

theorem RegsBut.showParams : RegsBut s (s.showParams p) paramFields := by
  unfold State.showParams
  refine RegsBut.wr (RegsBut.wr (RegsBut.wr (RegsBut.wr (RegsBut.wr2 (RegsBut.wr2 RegsBut.refl _ ?_ ?_) _ ?_ ?_) _ ?_) _ ?_) _ ?_) _ ?_ <;>
    simp [paramFields]

theorem RegsBut.setParams : RegsBut s (s.setParams p) paramFields := RegsBut.showParams { s with tim := _ } p

theorem State.rd_setParams_rate : (s.setParams p).rd F.TIM_RATE_VALUE = ofS 32 p.rate % 2 ^ 32 := by
  rw [State.setParams, State.showParams, State.rd_wr_other _ _ _ (by decide), State.rd_wr_same]
  rfl

end

end Sys2Proof.Machine
end

section
/-! Rate changes and steps of time (R23 to R28). -/

namespace Sys2Proof.Machine

section
variable (s : State) (r : Int)

/-! ### A change of Rate -/

/-- What tells of a Rate beyond the limit (R23). -/
def State.noteClamp : State :=
  s.when (decide (clampRate r ≠ r)) (fun s => (s.bump 4 5).raiseBits F.TIM_INT_STATUS_RATE_CLAMPED 0 1)

/-- The parameters that a change of Rate gives: re-anchored at this tick (R24). -/
def State.rateParams : ViewParams :=
  { since := s.now, offset := s.viewAt s.now 0, anchor := s.now, rate := clampRate r, epoch := s.params.epoch }

theorem State.noteClamp_cases :
    (clampRate r = r ∧ s.noteClamp r = s) ∨
    (clampRate r ≠ r ∧ s.noteClamp r = (s.bump 4 5).raiseBits F.TIM_INT_STATUS_RATE_CLAMPED 0 1) := by
  by_cases h : clampRate r = r
  · exact .inl ⟨h, State.when_false s (by simp [h]) _⟩
  · exact .inr ⟨h, State.when_true s (by simp [h]) _⟩

theorem State.noteClamp_tim : (s.noteClamp r).tim = s.tim := by
  obtain ⟨-, h⟩ | ⟨-, h⟩ := s.noteClamp_cases r <;> simp [h]

theorem State.setRate_eq : s.setRate r = (s.noteClamp r).setParams (s.rateParams r) := by
  have h : (s.noteClamp r).setParams ((s.noteClamp r).rateParams r) = (s.noteClamp r).setParams (s.rateParams r) := by
    simp only [State.rateParams, State.now, State.viewAt, State.params, State.noteClamp_tim]
  exact h

theorem State.setRate_frame :
    s.setRate r = { s with regs := (s.setRate r).regs, hwSet := (s.setRate r).hwSet, cntTick := (s.setRate r).cntTick, tim := (s.setRate r).tim } := by
  rw [s.setRate_eq r]
  obtain ⟨-, h⟩ | ⟨-, h⟩ := s.noteClamp_cases r <;> rw [h] <;> rfl

theorem State.setRate_params : (s.setRate r).params = s.rateParams r := by
  rw [s.setRate_eq r]; rfl

theorem State.setRate_armedRate : (s.setRate r).tim.armedRate = s.tim.armedRate := by
  rw [s.setRate_eq r]
  have h : ((s.noteClamp r).setParams (s.rateParams r)).tim.armedRate = (s.noteClamp r).tim.armedRate := rfl
  rw [h, s.noteClamp_tim r]

theorem State.rdS_setRate : (s.setRate r).rdS F.TIM_RATE_VALUE = clampRate r := by
  have h : ofS 32 (clampRate r) < 2 ^ 32 := by simp only [ofS]; omega
  rw [s.setRate_eq r, State.rdS, State.rd_setParams_rate, State.rateParams, Nat.mod_eq_of_lt h]
  exact toS_ofS_clampRate r

theorem State.setRate_clamped (h : clampRate r ≠ r) : (s.setRate r).on F.TIM_INT_STATUS_RATE_CLAMPED = true := by
  rw [s.setRate_eq r]
  obtain ⟨he, -⟩ | ⟨-, hn⟩ := s.noteClamp_cases r
  · exact absurd he h
  · rw [(RegsBut.setParams (s.noteClamp r) (s.rateParams r)).on (by decide), hn]
    exact State.on_raiseBits_one _ _ _ rfl

/-- At the tick of the change the view is what it was (R24). -/
theorem State.viewAt_setRate : (s.setRate r).viewAt s.now 0 = s.viewAt s.now 0 := by
  have h : viewUnits (s.rateParams r) s.now 0 = (s.viewAt s.now 0 : Nat) := viewUnits_anchor (s.rateParams r)
  rw [State.viewAt, s.setRate_params r, h, State.viewAt, viewWrap_viewWrap]

end

theorem clampRate_ne {r : Int} (h : r < -2 ^ 29 ∨ 2 ^ 29 < r) : clampRate r ≠ r := by
  simp only [clampRate, rateLimit]; omega

/-! ### Steps -/

section
variable (s : State)

theorem State.servoState_tim (k : Nat) : (s.servoState k).tim = s.tim := by
  unfold State.servoState
  split
  · rfl
  · rfl

theorem State.stepTaken_tim : s.stepTaken.tim = s.tim := by
  unfold State.stepTaken; split
  · exact s.servoState_tim 2
  · rfl

/-- The registers in which a step shows in the servo (R84). -/
def servoStateFields : List (Fld × Nat) := [(F.SYN_SERVO_STATUS_STATE, 0), (F.SYN_INT_STATUS_STATE_CHANGE, 0)]

theorem RegsBut.servoState (k : Nat) : RegsBut s (s.servoState k) servoStateFields := by
  unfold State.servoState; split
  · exact .refl
  · exact (RegsBut.refl.wr k (by simp [servoStateFields])).raiseBits 1 (by simp [servoStateFields])

theorem RegsBut.stepTaken : RegsBut s s.stepTaken servoStateFields := by
  unfold State.stepTaken; split
  · exact (RegsBut.servoState s 2).congr rfl
  · exact .refl

/-- The parameters of a new epoch (R26, R27). -/
def State.epochParams (offset : Nat) : ViewParams :=
  { since := s.now, offset := offset, anchor := s.now, rate := s.params.rate, epoch := nextEpoch s.params.epoch }

/-- The parameters of a new epoch in force. -/
def State.epochBegun (offset : Nat) : State :=
  let t := s.setParams (s.epochParams offset)
  { t with tim := { t.tim with epochTick := some s.now } }

/-- A new epoch as the registers show it, before the servo and the records learn of it. -/
def State.epochSet (offset : Nat) : State :=
  ((((s.epochBegun offset).wr2 F.TIM_LAST_EPOCH_LO_VALUE F.TIM_LAST_EPOCH_HI_VALUE 0 s.now).wr F.TIM_STATUS_TIME_VALID 0 1).raiseBits
    F.TIM_INT_STATUS_EPOCH_CHANGE 0 1).bump 4 4

theorem State.openEpoch_eq (offset : Nat) : s.openEpoch offset = (s.epochSet offset).stepTaken.timeState 1 := rfl

theorem State.openEpoch_tim (offset : Nat) :
    (s.openEpoch offset).tim =
      { s.tim with params := (s.epochParams offset :: s.tim.params).take 8, epochTick := some s.now } := by
  rw [s.openEpoch_eq, State.timeState, State.hand_tim, State.stepTaken_tim]
  rfl

theorem RegsBut.openEpoch (offset : Nat) :
    RegsBut (s.epochSet offset) (s.openEpoch offset) (servoStateFields ++ [(F.EVR_INT_STATUS_GAP, 0)]) :=
  (RegsBut.stepTaken _).append (RegsBut.timeState _ 1)

/-- The registers in which a new epoch shows (R26, R27). -/
def epochFields : List (Fld × Nat) :=
  [(F.TIM_LAST_EPOCH_LO_VALUE, 0), (F.TIM_LAST_EPOCH_HI_VALUE, 0), (F.TIM_STATUS_TIME_VALID, 0), (F.TIM_INT_STATUS_EPOCH_CHANGE, 0)]

theorem RegsBut.epochBegun (offset : Nat) : RegsBut s (s.epochBegun offset) paramFields :=
  (RegsBut.setParams s (s.epochParams offset)).congr rfl

theorem RegsBut.epochSet (offset : Nat) : RegsBut (s.epochBegun offset) (s.epochSet offset) epochFields := by
  have h := RegsBut.wr2 (l := epochFields) (lo := F.TIM_LAST_EPOCH_LO_VALUE) (hi := F.TIM_LAST_EPOCH_HI_VALUE) (n := 0)
    (RegsBut.refl (s := s.epochBegun offset)) s.now (by simp [epochFields]) (by simp [epochFields])
  exact ((h.wr 1 (by simp [epochFields])).raiseBits 1 (by simp [epochFields])).congr rfl

/-- What a new epoch leaves in the registers: those that show it, its parameters, the servo's state and the gap of records. -/
theorem RegsBut.openEpoch_all (offset : Nat) : RegsBut s (s.openEpoch offset)
    (paramFields ++ epochFields ++ (servoStateFields ++ [(F.EVR_INT_STATUS_GAP, 0)])) :=
  ((RegsBut.epochBegun s offset).append (RegsBut.epochSet s offset)).append (RegsBut.openEpoch s offset)

theorem State.openEpoch_lastEpoch (offset : Nat) (h : s.now < 2 ^ 64) :
    (s.openEpoch offset).rd2 F.TIM_LAST_EPOCH_LO_VALUE F.TIM_LAST_EPOCH_HI_VALUE = s.now := by
  have hlast : RegsBut ((s.epochBegun offset).wr2 F.TIM_LAST_EPOCH_LO_VALUE F.TIM_LAST_EPOCH_HI_VALUE 0 s.now) (s.epochSet offset)
      [(F.TIM_STATUS_TIME_VALID, 0), (F.TIM_INT_STATUS_EPOCH_CHANGE, 0)] :=
    ((RegsBut.refl.wr 1 (by simp)).raiseBits 1 (by simp)).congr rfl
  rw [(RegsBut.openEpoch s offset).rd2 (by decide) (by decide), hlast.rd2 (by decide) (by decide)]
  exact State.rd2_wr2 _ (by decide) rfl h

theorem State.openEpoch_epochChange (offset : Nat) : (s.openEpoch offset).on F.TIM_INT_STATUS_EPOCH_CHANGE = true := by
  rw [(RegsBut.openEpoch s offset).on (by decide)]
  exact State.on_raiseBits_one _ _ _ rfl

theorem State.openEpoch_timeValid (offset : Nat) : (s.openEpoch offset).on F.TIM_STATUS_TIME_VALID = true := by
  have h : RegsBut (((s.epochBegun offset).wr2 F.TIM_LAST_EPOCH_LO_VALUE F.TIM_LAST_EPOCH_HI_VALUE 0 s.now).wr F.TIM_STATUS_TIME_VALID 0 1)
      (s.epochSet offset) [(F.TIM_INT_STATUS_EPOCH_CHANGE, 0)] := (RegsBut.refl.raiseBits 1 (by simp)).congr rfl
  rw [(RegsBut.openEpoch s offset).on (by decide), h.on (by decide)]
  exact State.on_wr_one _ _ _ rfl

/-! ### A register step -/

theorem State.dueStep_of_lt {now : Nat} {st : ArmedStep} (h : st.tick < now) : dueStep now (some st) = some st := if_pos h

/-- A register step that waits no longer (R46). -/
def State.stepDisarmed : State := ({ s with tim := { s.tim with armedStep := none } } : State).wr F.TIM_STEP_CTRL_PENDING 0 0

theorem RegsBut.stepDisarmed : RegsBut s s.stepDisarmed [(F.TIM_STEP_CTRL_PENDING, 0)] := by
  have h : RegsBut s { s with tim := { s.tim with armedStep := none } } [(F.TIM_STEP_CTRL_PENDING, 0)] := .of_regs rfl
  exact h.wr 0 (by simp)

theorem State.stepDisarmed_pending : s.stepDisarmed.on F.TIM_STEP_CTRL_PENDING = false := State.on_wr_zero _ _ _

/-- Whether steps are permitted is told by the phase and the epoch alone (R28, R88). -/
theorem RegsBut.stepAllowed {t : State} {l : List (Fld × Nat)} (h : RegsBut s t l)
    (hl : ∀ x ∈ l, x.1.key x.2 ≠ F.SYN_SESSION_PHASE.key 0 ∧ x.1.key x.2 ≠ F.TIM_EPOCH_CURRENT.key 0 ∧
      ∀ p < 8, x.1.key x.2 ≠ F.SYN_PHASE_STEP_ALLOWED.key p) : t.stepAllowed = s.stepAllowed := by
  have hphase : t.phase = s.phase := h _ 0 fun x hx => (hl x hx).1
  have hepoch : t.epoch = s.epoch := h _ 0 fun x hx => (hl x hx).2.1
  have hlt : s.phase < 8 := s.rd_lt F.SYN_SESSION_PHASE 0
  rw [State.stepAllowed, hphase, hepoch, h.on fun x hx => (hl x hx).2.2 _ hlt, State.stepAllowed]

theorem State.stepDisarmed_stepAllowed : s.stepDisarmed.stepAllowed = s.stepAllowed :=
  (RegsBut.stepDisarmed s).stepAllowed s (by decide)

theorem State.registerStep_eq (st : ArmedStep) : s.registerStep st =
    if s.stepAllowed then
      ({ s.stepDisarmed with tim := { s.stepDisarmed.tim with servoStep := none } } : State).openEpoch (s.stepOffset st)
    else (s.stepDisarmed.raiseBits F.TIM_INT_STATUS_STEP_DROPPED 0 1).bump 4 6 := by
  rw [← s.stepDisarmed_stepAllowed]
  rfl

/-- The epoch change of a tick with a register step alone (R26). -/
theorem State.epochDue_of_registerStep {st : ArmedStep} (he : s.tim.epochTick ≠ some s.now) (ha : s.tim.armedStep = some st)
    (ht : st.tick < s.now) (hs : (s.registerStep st).tim.servoStep = none) : s.epochDue = s.registerStep st := by
  have hr : s.registerStepDue = s.registerStep st := by rw [State.registerStepDue, ha, State.dueStep_of_lt ht]
  rw [s.epochDue_eq, if_neg he, hr, State.servoStepDue, hs, dueStep]

end

end Sys2Proof.Machine

namespace Sys2Proof.Proofs
open Sys2Proof.Machine

/-- What EPOCH_CHANGE does where the time base runs. -/
theorem exec_epochChange {s : State} (h : s.clocked = true) : exec .epochChange s = .next s.epochDue.refreshQuotes := by
  have hi : s.inside s.epochDue.refreshQuotes = s.epochDue.refreshQuotes := by
    have hp := s.epochDue_classThree.pending
    have hq := s.epochDue_classThree.pins
    rw [State.inside, ← hp, ← hq]
    rfl
  exact congrArg _ ((State.when_true s h _).trans hi)

/-- What RATE_APPLY does with a Rate that is due. -/
theorem exec_rateApply {s : State} {r : Int} (h : s.clocked = true) (hr : s.rateDue = some r) :
    exec .rateApply s = .next (({ s.epochDue with tim := { s.epochDue.tim with armedRate := none } } : State).setRate r).refreshQuotes := by
  have hdue : s.epochDue.rateDue = some r := by
    rw [← hr, State.rateDue, State.rateDue, s.epochDue_classThree.armedRate, s.epochDue_classThree.now]
  have hnow : s.epochDue.rateNow = ({ s.epochDue with tim := { s.epochDue.tim with armedRate := none } } : State).setRate r := by
    rw [State.rateNow, hdue]
  have hi : s.inside s.epochDue.rateNow.refreshQuotes = s.epochDue.rateNow.refreshQuotes := by
    rw [hnow, State.setRate_frame, State.inside, ← s.epochDue_classThree.pending, ← s.epochDue_classThree.pins]
    rfl
  rw [← hnow]
  exact congrArg _ ((State.when_true s h _).trans hi)

/-- A Rate that is due (R23, R24). -/
theorem rateApply_completes (s : State) (r : Int) (hc : s.clocked = true) (hr : s.rateDue = some r) :
    let u := s.epochDue
    Completes .rateApply s (fun t => t.params = {
      since := s.now, offset := u.viewAt s.now 0, anchor := s.now, rate := max (-2 ^ 29) (min (2 ^ 29) r), epoch := u.params.epoch } ∧
    t.viewAt s.now 0 = u.viewAt s.now 0 ∧ t.rdS F.TIM_RATE_VALUE = max (-2 ^ 29) (min (2 ^ 29) r) ∧ t.tim.armedRate = none ∧
    ((r < -2 ^ 29 ∨ 2 ^ 29 < r) → t.on F.TIM_INT_STATUS_RATE_CLAMPED = true) ∧
    t = { u with regs := t.regs, hwSet := t.hwSet, cntTick := t.cntTick, tim := t.tim, idn := t.idn }) := by
  have hnow := s.epochDue_classThree.now
  refine ⟨_, exec_rateApply hc hr, ?_⟩
  generalize s.epochDue = u at hnow ⊢
  let v : State := { u with tim := { u.tim with armedRate := none } }
  have hv : v.now = s.now := hnow
  refine ⟨?_, ?_, v.rdS_setRate r, v.setRate_armedRate r, fun h => v.setRate_clamped r (clampRate_ne h), ?_⟩
  · exact (v.setRate_params r).trans (by rw [State.rateParams, hv]; rfl)
  · exact hv ▸ v.viewAt_setRate r
  · exact congrArg (fun x : State => { x with idn := (v.setRate r).refreshQuotes.idn }) (v.setRate_frame r)

/-- A register step that is due where steps are permitted (R26 to R28). -/
theorem epochChange_opens (s : State) (st : ArmedStep) (hc : s.clocked = true) (hn : s.now < 2 ^ 64)
    (he : s.tim.epochTick ≠ some s.now) (ha : s.tim.armedStep = some st) (ht : st.tick < s.now) (hallow : s.stepAllowed = true) :
    Completes .epochChange s (fun t => t.params = {
      since := s.now, anchor := s.now, rate := s.params.rate,
      offset := if st.relative then viewWrap ((s.viewAt s.now 0 : Nat) + st.amount) else viewWrap st.amount,
      epoch := if s.params.epoch ≥ 255 then 1 else s.params.epoch + 1 } ∧
    t.rd2 F.TIM_LAST_EPOCH_LO_VALUE F.TIM_LAST_EPOCH_HI_VALUE = s.now ∧ t.on F.TIM_INT_STATUS_EPOCH_CHANGE = true ∧
    t.on F.TIM_STATUS_TIME_VALID = true ∧ t.on F.TIM_STEP_CTRL_PENDING = false ∧ t.tim.armedStep = none ∧
    t.tim.epochTick = some s.now ∧ t.now = s.now) := by
  let v : State := { s.stepDisarmed with tim := { s.stepDisarmed.tim with servoStep := none } }
  have hstep : s.registerStep st = v.openEpoch (s.stepOffset st) := by rw [s.registerStep_eq, if_pos hallow]
  have htim := v.openEpoch_tim (s.stepOffset st)
  have hdue : s.epochDue = v.openEpoch (s.stepOffset st) := by
    rw [s.epochDue_of_registerStep he ha ht (by rw [hstep, htim]), hstep]
  refine ⟨_, exec_epochChange hc, ?_⟩
  rw [hdue]
  have hlast : (v.openEpoch (s.stepOffset st)).rd2 F.TIM_LAST_EPOCH_LO_VALUE F.TIM_LAST_EPOCH_HI_VALUE = s.now :=
    v.openEpoch_lastEpoch _ hn
  have hchange := v.openEpoch_epochChange (s.stepOffset st)
  have hvalid := v.openEpoch_timeValid (s.stepOffset st)
  have hpending := (RegsBut.openEpoch_all v (s.stepOffset st)).on (f := F.TIM_STEP_CTRL_PENDING) (n := 0) (by decide)
  generalize v.openEpoch (s.stepOffset st) = u at htim hlast hchange hvalid hpending
  have hnow : u.now = s.now := by rw [State.now, htim]; rfl
  exact ⟨congrArg (fun x : Tim => x.params.headD {}) htim, hlast, hchange, hvalid, hpending.trans s.stepDisarmed_pending,
    congrArg Tim.armedStep htim, congrArg Tim.epochTick htim, hnow⟩

/-- A register step that is due where the phase forbids steps (R28). -/
theorem epochChange_drops (s : State) (st : ArmedStep) (hc : s.clocked = true) (he : s.tim.epochTick ≠ some s.now)
    (ha : s.tim.armedStep = some st) (ht : st.tick < s.now) (hs : s.tim.servoStep = none) (hforbid : s.stepAllowed = false) :
    Completes .epochChange s (fun t => t.tim.params = s.tim.params ∧ t.tim.armedStep = none ∧ t.on F.TIM_STEP_CTRL_PENDING = false ∧
    t.on F.TIM_INT_STATUS_STEP_DROPPED = true ∧
    RegsBut s t [(F.TIM_STEP_CTRL_PENDING, 0), (F.TIM_INT_STATUS_STEP_DROPPED, 0)] ∧ t.flt = s.flt ∧ t.evr = s.evr ∧ t.fwd = s.fwd) := by
  have hstep : s.registerStep st = (s.stepDisarmed.raiseBits F.TIM_INT_STATUS_STEP_DROPPED 0 1).bump 4 6 := by
    rw [s.registerStep_eq, hforbid]; rfl
  have hdue : s.epochDue = (s.stepDisarmed.raiseBits F.TIM_INT_STATUS_STEP_DROPPED 0 1).bump 4 6 := by
    rw [s.epochDue_of_registerStep he ha ht (by rw [hstep]; exact hs), hstep]
  refine ⟨_, exec_epochChange hc, ?_⟩
  rw [hdue]
  have hregs := (RegsBut.stepDisarmed s).mono (l' := [(F.TIM_STEP_CTRL_PENDING, 0), (F.TIM_INT_STATUS_STEP_DROPPED, 0)]) (by simp)
  refine ⟨rfl, rfl, ?_, ?_, (hregs.raiseBits (f := F.TIM_INT_STATUS_STEP_DROPPED) 1 (by simp)).congr rfl, rfl, rfl, rfl⟩
  · have hp : RegsBut s.stepDisarmed (s.stepDisarmed.raiseBits F.TIM_INT_STATUS_STEP_DROPPED 0 1)
        [(F.TIM_INT_STATUS_STEP_DROPPED, 0)] := RegsBut.refl.raiseBits 1 (by simp)
    exact (hp.on (by decide)).trans s.stepDisarmed_pending
  · exact State.on_raiseBits_one s.stepDisarmed _ _ rfl

/-- Settles O2: a Rate that is due, a step that opens an epoch, and a step that is dropped. -/
theorem rateChangesAndStepsOfTime : Obligations.RateChangesAndStepsOfTime :=
  ⟨rateApply_completes, fun s st hc hn he ha ht _ hallow => epochChange_opens s st hc hn he ha ht hallow, epochChange_drops⟩

end Sys2Proof.Proofs
end

section
/-! Snapshots, the start and the lock of the time base, its followers and its counters (R17 to R21, R39 to R42). -/

namespace Sys2Proof.Machine

/-! ### Several fields of one copy, written one after the other -/

/-- Every field of the list is set at copy n. -/
def State.wrAll (s : State) (n : Nat) (l : List (Fld × Nat)) : State := l.foldl (fun s x => s.wr x.1 n x.2) s

theorem State.wrAll_cons (s : State) (n : Nat) (x : Fld × Nat) (l : List (Fld × Nat)) :
    s.wrAll n (x :: l) = (s.wr x.1 n x.2).wrAll n l := rfl

theorem State.rd_wrAll_other {s : State} {n m : Nat} {f : Fld} {l : List (Fld × Nat)} (h : ∀ x ∈ l, x.1.key n ≠ f.key m) :
    (s.wrAll n l).rd f m = s.rd f m := by
  induction l generalizing s with
  | nil => rfl
  | cons x l ih =>
    rw [State.wrAll_cons, ih fun y hy => h y (List.mem_cons_of_mem _ hy)]
    exact State.rd_wr_other _ _ _ (h x List.mem_cons_self) _

/-- Where no two of the fields share a place, each holds its value. -/
theorem State.rd_wrAll_mem {s : State} {n : Nat} {l : List (Fld × Nat)} (hl : (l.map fun x => x.1.key n).Nodup) {x : Fld × Nat}
    (hx : x ∈ l) : (s.wrAll n l).rd x.1 n = x.2 % 2 ^ x.1.width := by
  induction l generalizing s with
  | nil => cases hx
  | cons y l ih =>
    obtain ⟨hy, hl⟩ := List.nodup_cons.mp hl
    rw [State.wrAll_cons]
    obtain rfl | hx := List.mem_cons.mp hx
    · rw [State.rd_wrAll_other fun z hz he => hy (List.mem_map.mpr ⟨z, hz, he⟩), State.rd_wr_same]
    · exact ih hl hx

/-! ### Snapshots -/

/-- What a snapshot shows of a boundary, low word first (R39). -/
def snapValues (c v e : Nat) : List (Fld × Nat) :=
  [(F.TIM_SNAP_RAW_LO_VALUE, c), (F.TIM_SNAP_RAW_HI_VALUE, c / 2 ^ 32), (F.TIM_SNAP_SEC_LO_VALUE, viewSec v),
   (F.TIM_SNAP_SEC_HI_VALUE, viewSec v / 2 ^ 32), (F.TIM_SNAP_NS_VALUE, viewNs v), (F.TIM_SNAP_FRAC_VALUE, viewFrac v),
   (F.TIM_SNAP_EPOCH_VALUE, e), (F.TIM_SNAP_CTRL_DONE, 1)]

theorem snapValues_apart (g : Fin 4) (c v e : Nat) : ((snapValues c v e).map fun x => x.1.key g.val).Nodup := by
  have h : ((snapValues 0 0 0).map fun x => x.1.key g.val).Nodup := by revert g; decide
  exact h

theorem State.snapCapture_eq (s : State) (g : Fin 4) :
    s.snapCapture g.val = { s.wrAll g.val (snapValues s.now (s.viewAt s.now 0) s.epoch) with
      tim := { s.tim with snapReq := upd s.tim.snapReq g.val (fun _ => none) } } := by
  have hk : ∀ x ∈ (snapValues 0 0 0).take 4, x.1.key g.val ≠ F.TIM_EPOCH_CURRENT.key 0 := by revert g; decide
  have h : ((s.wr2 F.TIM_SNAP_RAW_LO_VALUE F.TIM_SNAP_RAW_HI_VALUE g s.now).wr2 F.TIM_SNAP_SEC_LO_VALUE F.TIM_SNAP_SEC_HI_VALUE g
      (viewSec (s.viewAt s.now 0))).epoch = s.epoch :=
    State.rd_wrAll_other (l := (snapValues s.now (s.viewAt s.now 0) 0).take 4) (by simpa [snapValues] using hk)
  unfold State.snapCapture
  dsimp only
  rw [h]
  rfl

/-- A pair shows a value of as many bits as its halves have. -/
theorem State.rd2_of_halves {s : State} {lo hi : Fld} {n c : Nat} (hlo : s.rd lo n = c % 2 ^ 32) (hhi : s.rd hi n = c / 2 ^ 32 % 2 ^ hi.width)
    (hc : c < 2 ^ (32 + hi.width)) : s.rd2 lo hi n = c := by
  have h : c / 2 ^ 32 < 2 ^ hi.width := Nat.div_lt_of_lt_mul (by rwa [← Nat.pow_add])
  rw [State.rd2, hlo, hhi, Nat.mod_eq_of_lt h]
  exact Nat.div_add_mod' c (2 ^ 32)

/-! ### Bits -/

theorem bit_eq_testBit (v n : Nat) : bit v n = v.testBit n := by
  rw [bit, Nat.testBit_eq_decide_div_mod_eq]
  rfl

/-- A bit of a mask that is set in a field of w bits stands, and so does every bit that stood. -/
theorem bit_or_mod {v k n w : Nat} (hn : n < w) : bit ((v ||| k) % 2 ^ w) n = (bit v n || bit k n) := by
  simp [bit_eq_testBit, hn]

theorem bit_two_pow (n : Nat) : bit (2 ^ n) n = true := by simp [bit_eq_testBit]

/-! ### A fold over the members of a list -/

/-- What a member of the list brings about, and no other undoes, holds at the end. -/
theorem foldl_brings {α β : Type} {f : α → β → α} {I P : α → Prop} {b : β} (hI : ∀ a x, I a → I (f a x))
    (hP : ∀ a x, I a → P a → P (f a x)) (hb : ∀ a, I a → P (f a b)) {l : List β} (hl : b ∈ l) {a : α} (ha : I a) :
    P (l.foldl f a) := by
  have hkeep : ∀ (l : List β) (a : α), I a → P a → P (l.foldl f a) := by
    intro l
    induction l with
    | nil => exact fun _ _ h => h
    | cons x l ih => exact fun a ha h => ih _ (hI a x ha) (hP a x ha h)
  induction l generalizing a with
  | nil => cases hl
  | cons x l ih =>
    obtain rfl | hl := List.mem_cons.mp hl
    · exact hkeep l _ (hI a _ ha) (hb a ha)
    · exact ih hl (hI a x ha)

theorem foldl_keeps {α β : Type} {f : α → β → α} {I : α → Prop} (hI : ∀ a x, I a → I (f a x)) (l : List β) {a : α} (ha : I a) :
    I (l.foldl f a) := by
  induction l generalizing a with
  | nil => exact ha
  | cons x l ih => exact ih (hI a x ha)

/-! ### Followers (R21) -/

/-- A follower is compared in the tick of s: the state so far leaves the view, the frames and the commands of s alone. -/
structure State.Comparing (s t : State) : Prop where
  params : t.tim.params = s.tim.params
  now : t.now = s.now
  fwd : t.fwd = s.fwd
  cmd : t.cmd = s.cmd
  good : t.tim.followerGood.length = s.tim.followerGood.length

theorem State.compareFollower_good {s : State} {bad g : Nat} (h : bit bad g = false) :
    s.compareFollower bad g = { s with tim := { s.tim with followerGood := upd s.tim.followerGood g (fun _ => s.now) } } := by
  rw [State.compareFollower, h]; rfl

/-- A follower found wrong: its bit, its reload, the fault; the record comes last (R21). -/
theorem State.compareFollower_bad {s : State} {bad g : Nat} (h : bit bad g = true) :
    ∃ r, s.compareFollower bad g =
      (({ (s.raiseBits F.TIM_FOLLOW_STATUS_MISMATCH 0 (2 ^ g)).raiseBits F.TIM_INT_STATUS_FOLLOW_MISMATCH 0 1 with
          tim := { s.tim with followerReload := s.tim.followerReload ||| 2 ^ g } }.bump 4 3).raiseFault 1 4 1 g s.now).hand r := by
  rw [State.compareFollower, h]
  exact ⟨_, rfl⟩

theorem State.Comparing.compareFollower {s t : State} (bad g : Nat) (h : s.Comparing t) : s.Comparing (t.compareFollower bad g) := by
  cases hb : bit bad g with
  | false =>
    rw [State.compareFollower_good hb]
    exact ⟨h.params, h.now, h.fwd, h.cmd, (upd_length _ _ _).trans h.good⟩
  | true =>
    obtain ⟨r, hr⟩ := State.compareFollower_bad (s := t) hb
    rw [hr]
    exact ⟨by simpa using h.params, by simpa [State.now] using h.now, by simpa using h.fwd, by simpa using h.cmd, by simpa using h.good⟩

/-- Follower g was found wrong in the tick of s. -/
def State.FoundWrong (s : State) (g : Nat) (t : State) : Prop :=
  bit (t.rd F.TIM_FOLLOW_STATUS_MISMATCH) g = true ∧ bit t.tim.followerReload g = true ∧
    (⟨1, 4, 1, g, s.now⟩ : FaultEvent) ∈ t.flt.held

theorem State.rd_compareFollower_bad {s : State} {bad g : Nat} (h : bit bad g = true) :
    (s.compareFollower bad g).rd F.TIM_FOLLOW_STATUS_MISMATCH = (s.rd F.TIM_FOLLOW_STATUS_MISMATCH ||| 2 ^ g) % 2 ^ 16 := by
  obtain ⟨r, hr⟩ := State.compareFollower_bad (s := s) h
  rw [hr, State.rd_hand _ _ _ _ (by decide)]
  exact (State.rd_raiseBits_other _ _ _ (by decide) _).trans (State.rd_raiseBits_same _ _ _ _)

theorem State.FoundWrong.compareFollower {s t : State} {g k : Nat} (bad : Nat) (hg : g < 16) (h : s.FoundWrong g t) :
    s.FoundWrong g (t.compareFollower bad k) := by
  obtain ⟨hbit, hreload, hfault⟩ := h
  cases hb : bit bad k with
  | false =>
    rw [State.compareFollower_good hb]
    exact ⟨hbit, hreload, hfault⟩
  | true =>
    refine ⟨?_, ?_, ?_⟩
    · rw [State.rd_compareFollower_bad hb, bit_or_mod hg, hbit]; rfl
    all_goals obtain ⟨r, hr⟩ := State.compareFollower_bad (s := t) hb; rw [hr]
    · simp [bit_eq_testBit] at hreload ⊢; simp [hreload]
    · simp [hfault]

theorem State.foundWrong_compareFollower {s t : State} {bad g : Nat} (hg : g < 16) (hb : bit bad g = true) (hn : t.now = s.now) :
    s.FoundWrong g (t.compareFollower bad g) := by
  refine ⟨?_, ?_, ?_⟩
  · rw [State.rd_compareFollower_bad hb, bit_or_mod hg, bit_two_pow, Bool.or_true]
  all_goals obtain ⟨r, hr⟩ := State.compareFollower_bad (s := t) hb; rw [hr]
  · simp [bit_eq_testBit]
  · simp [hn]

theorem nth_upd_const {α : Type} {l : List α} {e g : Nat} {v d : α} (h : nth l g d = v) (hg : g < l.length) :
    nth (upd l e fun _ => v) g d = v := by
  induction l generalizing e g with
  | nil => cases hg
  | cons x l ih =>
    cases e with
    | zero =>
      cases g with
      | zero => rfl
      | succ g => exact h
    | succ e =>
      cases g with
      | zero => exact h
      | succ g => exact ih h (Nat.lt_of_succ_lt_succ hg)

/-- Follower g was last found right in the tick of s. -/
def State.FoundRight (s : State) (g : Nat) (t : State) : Prop := nth t.tim.followerGood g 0 = s.now

theorem State.FoundRight.compareFollower {s t : State} {g k : Nat} (bad : Nat) (hc : s.Comparing t)
    (hg : g < s.tim.followerGood.length) (h : s.FoundRight g t) : s.FoundRight g (t.compareFollower bad k) := by
  cases hb : bit bad k with
  | false =>
    rw [State.compareFollower_good hb, State.FoundRight, hc.now]
    exact nth_upd_const h (hc.good ▸ hg)
  | true =>
    obtain ⟨r, hr⟩ := State.compareFollower_bad (s := t) hb
    rw [hr, State.FoundRight, State.hand_tim]
    exact h

theorem State.foundRight_compareFollower {s t : State} {bad g : Nat} (hc : s.Comparing t) (hg : g < s.tim.followerGood.length)
    (hb : bit bad g = false) : s.FoundRight g (t.compareFollower bad g) := by
  rw [State.compareFollower_good hb, State.FoundRight, ← hc.now]
  exact nth_upd_same _ _ (hc.good ▸ hg)

/-! ### The start -/

/-- What the start leaves to be read: epoch 0, RUN and the lock (R40). -/
theorem State.startTimeBase_reads (s : State) :
    s.startTimeBase.epoch = 0 ∧ s.startTimeBase.on F.TIM_STATUS_RUN = true ∧ s.startTimeBase.on F.TIM_STATUS_TPLL_LOCK = true := by
  refine ⟨?_, ?_, ?_⟩
  · rw [State.epoch, State.startTimeBase, State.rd_wr_other _ _ _ (by decide), State.rd_wr_other _ _ _ (by decide),
      State.rd_wr_other _ _ _ (by decide), State.showParams, State.rd_wr_same]
    rfl
  · rw [State.startTimeBase, State.on_wr_other _ _ _ (by decide), State.on_wr_other _ _ _ (by decide)]
    exact State.on_wr_one _ _ _ rfl
  · rw [State.startTimeBase, State.on_wr_other _ _ _ (by decide)]
    exact State.on_wr_one _ _ _ rfl

/-- State t differs from s in registers and in the time base alone. -/
def State.TimeBaseOnly (s t : State) : Prop := t = { s with regs := t.regs, tim := t.tim }

theorem State.TimeBaseOnly.wr {s t : State} (h : s.TimeBaseOnly t) (f : Fld) (n v : Nat) : s.TimeBaseOnly (t.wr f n v) := by
  have he : t = { s with regs := t.regs, tim := t.tim } := h
  exact congrArg (fun x : State => { x with regs := (t.wr f n v).regs }) he

theorem State.TimeBaseOnly.inside {s t : State} (h : s.TimeBaseOnly t) : s.TimeBaseOnly (s.inside t) := by
  have he : t = { s with regs := t.regs, tim := t.tim } := h
  exact congrArg s.inside he

theorem State.TimeBaseOnly.showParams {s t : State} (h : s.TimeBaseOnly t) (p : ViewParams) : s.TimeBaseOnly (t.showParams p) :=
  ((((((((h.wr _ _ _).wr _ _ _).wr _ _ _).wr _ _ _).wr _ _ _).wr _ _ _).wr _ _ _).wr _ _ _)

theorem State.startTimeBase_frame (s : State) : s.TimeBaseOnly s.startTimeBase := by
  have h : ∀ c : Nat, ∀ m : Tim, s.TimeBaseOnly (({ s with tim := m } : State).setCanopy c) := fun _ _ => rfl
  exact ((((h _ _).showParams _).wr _ _ _).wr _ _ _).wr _ _ _

/-! ### The frequency reference -/

/-- The registers in which a loss of lock shows (R42). -/
def unlockFields : List (Fld × Nat) :=
  [(F.TIM_STATUS_TPLL_LOCK, 0), (F.TIM_INT_STATUS_TPLL_UNLOCK, 0), (F.SYN_SERVO_STATUS_REF_LOST, 0), (F.EVR_INT_STATUS_GAP, 0)]

/-- A TPLL without lock as the registers and the faults show it, before the record of it. -/
def State.unlockShown (s : State) : State :=
  ((({ s with tim := { s.tim with tpllHeld := true } } : State).wr F.TIM_STATUS_TPLL_LOCK 0 0).raiseBits
    F.TIM_INT_STATUS_TPLL_UNLOCK 0 1).wr F.SYN_SERVO_STATUS_REF_LOST 0 1

theorem State.tpllUnlocked_eq (s : State) : s.tpllUnlocked = (s.unlockShown.raiseFault 1 5 3 0 s.now).timeState 5 := rfl

theorem RegsBut.tpllUnlocked_unlockShown (s : State) : RegsBut s.unlockShown s.tpllUnlocked [(F.EVR_INT_STATUS_GAP, 0)] :=
  RegsBut.timeState (s.unlockShown.raiseFault 1 5 3 0 s.now) 5

theorem State.tpllUnlocked_tim (s : State) : s.tpllUnlocked.tim = { s.tim with tpllHeld := true } := by
  rw [s.tpllUnlocked_eq, State.timeState, State.hand_tim]; rfl

theorem State.tpllUnlocked_now (s : State) : s.tpllUnlocked.now = s.now := by
  rw [State.now, s.tpllUnlocked_tim]; rfl

theorem State.tpllUnlocked_flt (s : State) :
    s.tpllUnlocked.flt = { s.flt with held := s.flt.held ++ [⟨1, 5, 3, 0, s.now⟩] } := by
  rw [s.tpllUnlocked_eq, State.timeState, State.hand_flt]; rfl

theorem State.tpllUnlocked_lock (s : State) : s.tpllUnlocked.on F.TIM_STATUS_TPLL_LOCK = false := by
  have h : RegsBut (({ s with tim := { s.tim with tpllHeld := true } } : State).wr F.TIM_STATUS_TPLL_LOCK 0 0) s.unlockShown
      [(F.TIM_INT_STATUS_TPLL_UNLOCK, 0), (F.SYN_SERVO_STATUS_REF_LOST, 0)] := (RegsBut.refl.raiseBits 1 (by simp)).wr 1 (by simp)
  rw [(RegsBut.tpllUnlocked_unlockShown s).on (by decide), h.on (by decide)]
  exact State.on_wr_zero _ _ _

theorem State.tpllUnlocked_unlock (s : State) : s.tpllUnlocked.on F.TIM_INT_STATUS_TPLL_UNLOCK = true := by
  have h : RegsBut ((({ s with tim := { s.tim with tpllHeld := true } } : State).wr F.TIM_STATUS_TPLL_LOCK 0 0).raiseBits
      F.TIM_INT_STATUS_TPLL_UNLOCK 0 1) s.unlockShown [(F.SYN_SERVO_STATUS_REF_LOST, 0)] := RegsBut.refl.wr 1 (by simp)
  rw [(RegsBut.tpllUnlocked_unlockShown s).on (by decide), h.on (by decide)]
  exact State.on_raiseBits_one _ _ _ rfl

theorem State.tpllUnlocked_refLost (s : State) : s.tpllUnlocked.on F.SYN_SERVO_STATUS_REF_LOST = true := by
  rw [(RegsBut.tpllUnlocked_unlockShown s).on (by decide)]
  exact State.on_wr_one _ _ _ rfl

/-- Stamps carry HOLDOVER while the reference is lost (R92). -/
theorem State.holdoverFlag_of_refLost {s : State} (h : s.on F.SYN_SERVO_STATUS_REF_LOST = true) : s.holdoverFlag = true := by
  rw [State.holdoverFlag, h, Bool.or_true]

/-- A move to another input as the registers and the faults show it, before the record of it (R93). -/
def State.switchShown (s : State) (i : Nat) : State :=
  (((s.wr F.SYN_REF_STATUS_CURRENT 0 i).raiseBits F.SYN_INT_STATUS_REF_SWITCH 0 1).setSyn (fun y => { y with refMoved := true })).raiseFault
    3 1 0 i

theorem State.refSwitch_eq (s : State) (i : Nat) : s.refSwitch i = (s.switchShown i).timeState 5 := rfl

theorem RegsBut.refSwitch_switchShown (s : State) (i : Nat) : RegsBut (s.switchShown i) (s.refSwitch i) [(F.EVR_INT_STATUS_GAP, 0)] :=
  RegsBut.timeState (s.switchShown i) 5

/-- The registers in which a move to another input shows (R93). -/
theorem RegsBut.refSwitch (s : State) (i : Nat) : RegsBut s (s.refSwitch i)
    ([(F.SYN_REF_STATUS_CURRENT, 0), (F.SYN_INT_STATUS_REF_SWITCH, 0)] ++ [(F.EVR_INT_STATUS_GAP, 0)]) :=
  (((RegsBut.refl.wr i (by simp)).raiseBits 1 (by simp)).congr rfl).append (RegsBut.refSwitch_switchShown s i)

theorem State.refSwitch_tim (s : State) (i : Nat) : (s.refSwitch i).tim = s.tim := by
  rw [s.refSwitch_eq, State.timeState, State.hand_tim]; rfl

theorem State.refSwitch_flt (s : State) (i : Nat) : (s.refSwitch i).flt = { s.flt with held := s.flt.held ++ [⟨3, 1, 0, i, 0⟩] } := by
  rw [s.refSwitch_eq, State.timeState, State.hand_flt]; rfl

theorem State.refSwitch_current (s : State) {i : Nat} (h : i < 4) : (s.refSwitch i).rd F.SYN_REF_STATUS_CURRENT = i := by
  have hs : RegsBut (s.wr F.SYN_REF_STATUS_CURRENT 0 i) (s.switchShown i) [(F.SYN_INT_STATUS_REF_SWITCH, 0)] :=
    (RegsBut.refl.raiseBits 1 (by simp)).congr rfl
  rw [RegsBut.refSwitch_switchShown s i _ _ (by decide), hs _ _ (by decide), State.rd_wr_same]
  exact Nat.mod_eq_of_lt h

theorem State.refSwitch_shown (s : State) (i : Nat) : (s.refSwitch i).on F.SYN_INT_STATUS_REF_SWITCH = true := by
  rw [(RegsBut.refSwitch_switchShown s i).on (by decide)]
  exact State.on_raiseBits_one (s.wr F.SYN_REF_STATUS_CURRENT 0 i) _ _ rfl

/-- The TPLL locked again, before it moves (R92). -/
def State.lockShown (s : State) : State :=
  (({ s with tim := { s.tim with tpllHeld := false } } : State).wr F.TIM_STATUS_TPLL_LOCK 0 1).wr F.SYN_SERVO_STATUS_REF_LOST 0 0

/-- The TPLL locked again on an input. -/
def State.relocked (s : State) (i : Nat) : State :=
  if s.lockShown.rd F.SYN_REF_STATUS_CURRENT = i then s.lockShown else s.lockShown.refSwitch i

theorem State.lockShown_reads (s : State) :
    s.lockShown.on F.TIM_STATUS_TPLL_LOCK = true ∧ s.lockShown.on F.SYN_SERVO_STATUS_REF_LOST = false := by
  refine ⟨?_, State.on_wr_zero _ _ _⟩
  rw [State.lockShown, State.on_wr_other _ _ _ (by decide)]
  exact State.on_wr_one _ _ _ rfl

theorem State.relocked_reads (s : State) (i : Fin 3) :
    (s.relocked i).tim.tpllHeld = false ∧ (s.relocked i).on F.TIM_STATUS_TPLL_LOCK = true ∧
    (s.relocked i).on F.SYN_SERVO_STATUS_REF_LOST = false ∧ (s.relocked i).rd F.SYN_REF_STATUS_CURRENT = i.val ∧
    (s.relocked i).now = s.now := by
  obtain ⟨hlock, hlost⟩ := s.lockShown_reads
  unfold State.relocked
  split
  · next h => exact ⟨rfl, hlock, hlost, h, rfl⟩
  · have htim := s.lockShown.refSwitch_tim i
    have hregs := RegsBut.refSwitch s.lockShown i
    refine ⟨by rw [htim]; rfl, (hregs.on (by decide)).trans hlock, (hregs.on (by decide)).trans hlost,
      s.lockShown.refSwitch_current (by omega), ?_⟩
    rw [State.now, htim]; rfl

/-! ### A counter that returns to the vote -/

/-- The registers with which a counter returns to the vote (R20). -/
def voteFields : List (Fld × Nat) := [(F.TIM_VOTE_STATUS_ACTIVE, 0), (F.TIM_STATUS_VOTERS, 0), (F.TIM_VOTE_STATUS_REJOINING, 0)]

/-- Counter i takes part in the vote again. -/
def State.voteAgain (s : State) (i : Nat) : State :=
  let act := s.rd F.TIM_VOTE_STATUS_ACTIVE ||| 2 ^ i
  ((s.wr F.TIM_VOTE_STATUS_REJOINING 0 (s.rd F.TIM_VOTE_STATUS_REJOINING - 2 ^ i)).wr F.TIM_VOTE_STATUS_ACTIVE 0 act).wr
    F.TIM_STATUS_VOTERS 0 act

theorem RegsBut.voteAgain (s : State) (i : Nat) : RegsBut s (s.voteAgain i) voteFields :=
  ((RegsBut.refl.wr _ (by simp [voteFields])).wr _ (by simp [voteFields])).wr _ (by simp [voteFields])

theorem or_two_pow_of_bit_false : ∀ (v : Fin 8) (i : Fin 3), bit v.val i.val = false →
    (v.val ||| 2 ^ i.val) % 2 ^ 3 = v.val + 2 ^ i.val := by decide

theorem bit_sub_two_pow : ∀ (v : Fin 8) (i : Fin 3), bit v.val i.val = true → bit ((v.val - 2 ^ i.val) % 2 ^ 3) i.val = false := by
  decide

theorem State.voteAgain_active (s : State) {i : Fin 3} (h : bit (s.rd F.TIM_VOTE_STATUS_ACTIVE) i.val = false) :
    (s.voteAgain i).rd F.TIM_VOTE_STATUS_ACTIVE = s.rd F.TIM_VOTE_STATUS_ACTIVE + 2 ^ i.val := by
  rw [State.voteAgain, State.rd_wr_other _ _ _ (by decide), State.rd_wr_same]
  exact or_two_pow_of_bit_false ⟨_, s.rd_lt F.TIM_VOTE_STATUS_ACTIVE 0⟩ i h

theorem State.voteAgain_voters (s : State) (i : Nat) :
    (s.voteAgain i).rd F.TIM_STATUS_VOTERS = (s.voteAgain i).rd F.TIM_VOTE_STATUS_ACTIVE := by
  rw [State.voteAgain, State.rd_wr_same, State.rd_wr_other _ _ _ (by decide), State.rd_wr_same]
  rfl

theorem State.voteAgain_rejoining (s : State) {i : Fin 3} (h : bit (s.rd F.TIM_VOTE_STATUS_REJOINING) i.val = true) :
    bit ((s.voteAgain i).rd F.TIM_VOTE_STATUS_REJOINING) i.val = false := by
  rw [State.voteAgain, State.rd_wr_other _ _ _ (by decide), State.rd_wr_other _ _ _ (by decide), State.rd_wr_same]
  exact bit_sub_two_pow ⟨_, s.rd_lt F.TIM_VOTE_STATUS_REJOINING 0⟩ i h

end Sys2Proof.Machine

namespace Sys2Proof.Proofs
open Sys2Proof.Machine

/-- A snapshot that is due is captured (R39). -/
theorem snapCapture_completes (s : State) (g : Fin 4) (t0 : Nat) (hl : s.live = true) (hr : nth s.tim.snapReq g.val none = some t0)
    (ht : t0 < s.now) (hn : s.now < 2 ^ 64) (hset : s.Settled) :
    Completes (.snapCapture g) s (fun t => t.rd2 F.TIM_SNAP_RAW_LO_VALUE F.TIM_SNAP_RAW_HI_VALUE g.val = s.now ∧
    t.rd2 F.TIM_SNAP_SEC_LO_VALUE F.TIM_SNAP_SEC_HI_VALUE g.val = viewSec (s.viewAt s.now 0) ∧
    t.rd F.TIM_SNAP_NS_VALUE g.val = viewNs (s.viewAt s.now 0) ∧ t.rd F.TIM_SNAP_FRAC_VALUE g.val = viewFrac (s.viewAt s.now 0) ∧
    t.rd F.TIM_SNAP_EPOCH_VALUE g.val = s.epoch ∧ t.on F.TIM_SNAP_CTRL_DONE g.val = true ∧
    nth t.tim.snapReq g.val none = none ∧ t = { s with regs := t.regs, tim := t.tim }) := by
  have hstep : exec (.snapCapture g) s = .next (s.inside (s.snapCapture g.val)) := by
    refine congrArg _ ((State.when_true s hl _).trans ?_)
    rw [hr]
    dsimp only
    rw [if_pos ht, hset]
  have hg : g.val < s.tim.snapReq.length := by
    rw [nth, List.getD_eq_getElem?_getD] at hr
    by_contra hge
    rw [List.getElem?_eq_none (Nat.le_of_not_lt hge)] at hr
    cases hr
  refine ⟨_, hstep, ?_⟩
  rw [s.snapCapture_eq g]
  generalize hv : s.viewAt s.now 0 = v
  have hrd : ∀ x ∈ snapValues s.now v s.epoch, (s.wrAll g.val (snapValues s.now v s.epoch)).rd x.1 g.val = x.2 % 2 ^ x.1.width :=
    fun x hx => State.rd_wrAll_mem (snapValues_apart g _ _ _) hx
  simp only [snapValues, List.forall_mem_cons] at hrd
  obtain ⟨hrawLo, hrawHi, hsecLo, hsecHi, hns, hfrac, hepoch, hdone, -⟩ := hrd
  refine ⟨State.rd2_of_halves hrawLo hrawHi hn, State.rd2_of_halves hsecLo hsecHi (Nat.mod_lt _ (Nat.two_pow_pos 48)),
    hns.trans ?_, hfrac.trans ?_, hepoch.trans (Nat.mod_eq_of_lt (s.rd_lt F.TIM_EPOCH_CURRENT 0)), ?_, nth_upd_same _ _ hg, rfl⟩
  · exact Nat.mod_eq_of_lt (Nat.lt_trans (Nat.mod_lt _ (by decide)) (by decide))
  · exact Nat.mod_eq_of_lt (Nat.mod_lt _ (by decide))
  · exact congrArg (· == 1) hdone

/-- The start of the time base (R40). -/
theorem timeBaseStart_completes (s : State) (hp : s.pins.porst = false) (htrip : s.pins.tripped = false)
    (hrun : s.on F.TIM_STATUS_RUN = false) :
    Completes (.timeBaseStart) s (fun t => t.now = 0 ∧ t.params = {} ∧ t.epoch = 0 ∧ t.on F.TIM_STATUS_RUN = true ∧
    t.on F.TIM_STATUS_TPLL_LOCK = true ∧ t.viewAt 0 0 = 0 ∧ t.tim.voter = {} ∧ t = { s with regs := t.regs, tim := t.tim }) := by
  have hstep : exec .timeBaseStart s = .next (s.inside s.startTimeBase) :=
    congrArg Host.Outcome.next (State.when_true s (by rw [hp, htrip, hrun]; rfl) State.startTimeBase)
  obtain ⟨hepoch, hrunning, hlock⟩ := s.startTimeBase_reads
  refine ⟨_, hstep, rfl, rfl, (State.rd_inside _ _ _ _).trans hepoch, (State.on_inside _ _ _ _).trans hrunning,
    (State.on_inside _ _ _ _).trans hlock, ?_, rfl, ?_⟩
  · have hview : viewWrap (viewUnits {} 0 0) = 0 := by decide
    exact hview
  · exact s.startTimeBase_frame.inside

/-- A loss of lock (R42). -/
theorem tpllUnlock_completes (s : State) (hc : s.clocked = true) (hlock : s.on F.TIM_STATUS_TPLL_LOCK = true) :
    Completes (.tpllUnlock) s (fun t => t.tim.tpllHeld = true ∧ t.on F.TIM_STATUS_TPLL_LOCK = false ∧
    t.on F.TIM_INT_STATUS_TPLL_UNLOCK = true ∧ t.on F.SYN_SERVO_STATUS_REF_LOST = true ∧ t.holdoverFlag = true ∧
    t.flt.held = s.flt.held ++ [⟨1, 5, 3, 0, s.now⟩] ∧ t.now = s.now) := by
  refine ⟨s.inside s.tpllUnlocked, congrArg _ (State.when_true s (by rw [hc, hlock]; rfl) _), ?_, s.tpllUnlocked_lock,
    s.tpllUnlocked_unlock, s.tpllUnlocked_refLost, State.holdoverFlag_of_refLost s.tpllUnlocked_refLost,
    congrArg Flt.held s.tpllUnlocked_flt, ?_⟩
  · exact congrArg Tim.tpllHeld s.tpllUnlocked_tim
  · exact s.tpllUnlocked_now

/-- Lock regained on the first good input of the list (R92, R93). -/
theorem tpllRelock_completes (s : State) (i : Fin 3) (hc : s.clocked = true) (hlock : s.on F.TIM_STATUS_TPLL_LOCK = false)
    (hfirst : s.refOrder.find? (fun c => bit (s.rd F.SYN_REF_STATUS_GOOD) c) = some i.val) :
    Completes (.tpllRelock i) s (fun t => t.tim.tpllHeld = false ∧ t.on F.TIM_STATUS_TPLL_LOCK = true ∧
    t.on F.SYN_SERVO_STATUS_REF_LOST = false ∧ t.rd F.SYN_REF_STATUS_CURRENT = i.val ∧ t.now = s.now) := by
  have hgood : s.refOrder.find? s.refGood = some i.val := hfirst
  refine ⟨s.inside (s.relocked i), congrArg _ (State.when_true s (by rw [hc, hlock, hgood]; simp) _), ?_⟩
  exact s.relocked_reads i

/-- Followers compared in a tick that is a multiple of 64 (R21). -/
theorem followerCompare_completes (s : State) (bad : BitVec 16) (g : Fin 16) (hc : s.clocked = true)
    (ht : s.now % 64 = 0 ∧ s.ran.contains 3 = false) (hlen : s.tim.followerGood.length = 16) :
    Completes (.followerCompare bad) s (fun t => (bit bad.toNat g.val = true → bit (t.rd F.TIM_FOLLOW_STATUS_MISMATCH) g.val = true ∧
      bit t.tim.followerReload g.val = true ∧ (⟨1, 4, 1, g.val, s.now⟩ : FaultEvent) ∈ t.flt.held) ∧
    (bit bad.toNat g.val = false → nth t.tim.followerGood g.val 0 = s.now) ∧ t.tim.params = s.tim.params ∧ t.now = s.now ∧ t.fwd = s.fwd ∧
    t.cmd = s.cmd) := by
  obtain ⟨h64, hran⟩ := ht
  have hb : (s.clocked && s.now % 64 == 0) = true := by rw [hc, h64]; rfl
  have hstep : exec (.followerCompare bad) s = .next (s.inside
      ((List.range 16).foldl (fun s k => s.compareFollower bad.toNat k) { s with ran := 3 :: s.ran })) :=
    congrArg _ (State.once_true s hb hran _)
  refine ⟨_, hstep, ?_⟩
  have hstart : s.Comparing { s with ran := 3 :: s.ran } := ⟨rfl, rfl, rfl, rfl, rfl⟩
  generalize ({ s with ran := 3 :: s.ran } : State) = u at hstart ⊢
  have hkeep : ∀ (a : State) (k : Nat), s.Comparing a → s.Comparing (a.compareFollower bad.toNat k) := fun _ k h =>
    h.compareFollower bad.toNat k
  have hg : g.val ∈ List.range 16 := List.mem_range.mpr g.isLt
  have hgl : g.val < s.tim.followerGood.length := by omega
  have hend := foldl_keeps hkeep (List.range 16) hstart
  have hwrong : bit bad.toNat g.val = true → s.FoundWrong g.val ((List.range 16).foldl (fun s k => s.compareFollower bad.toNat k) u) :=
    fun h => foldl_brings hkeep (fun _ _ _ hw => hw.compareFollower bad.toNat g.isLt)
      (fun _ hw => State.foundWrong_compareFollower g.isLt h hw.now) hg hstart
  have hright : bit bad.toNat g.val = false → s.FoundRight g.val ((List.range 16).foldl (fun s k => s.compareFollower bad.toNat k) u) :=
    fun h => foldl_brings hkeep (fun _ _ hw hr => hr.compareFollower bad.toNat hw hgl)
      (fun _ hw => State.foundRight_compareFollower hw hgl h) hg hstart
  exact ⟨hwrong, hright, hend.params, hend.now, hend.fwd, hend.cmd⟩

/-- A counter that has agreed for 1,024 ticks (R20). -/
theorem rejoinComplete_completes (s : State) (i : Fin 3) (hc : s.clocked = true)
    (hrej : bit (s.rd F.TIM_VOTE_STATUS_REJOINING) i.val = true) (hact : bit (s.rd F.TIM_VOTE_STATUS_ACTIVE) i.val = false)
    (hagree : 1024 ≤ (if i = 0 then s.tim.voter.agreeA else if i = 1 then s.tim.voter.agreeB else s.tim.voter.agreeC)) :
    Completes (.rejoinComplete i) s (fun t => t.rd F.TIM_VOTE_STATUS_ACTIVE = s.rd F.TIM_VOTE_STATUS_ACTIVE + 2 ^ i.val ∧
    t.rd F.TIM_STATUS_VOTERS = t.rd F.TIM_VOTE_STATUS_ACTIVE ∧ bit (t.rd F.TIM_VOTE_STATUS_REJOINING) i.val = false ∧
    RegsBut s t [(F.TIM_VOTE_STATUS_ACTIVE, 0), (F.TIM_STATUS_VOTERS, 0), (F.TIM_VOTE_STATUS_REJOINING, 0)] ∧
    t = { s with regs := t.regs }) := by
  have hn : 1024 ≤ (if i.val = 0 then s.tim.voter.agreeA else if i.val = 1 then s.tim.voter.agreeB else s.tim.voter.agreeC) := by
    simp only [Fin.ext_iff] at hagree
    exact hagree
  have hstep : exec (.rejoinComplete i) s = .next (s.inside (s.voteAgain i)) :=
    congrArg _ (State.when_true s (by rw [hc, hrej, decide_eq_true hn]; rfl) _)
  exact ⟨_, hstep, s.voteAgain_active hact, s.voteAgain_voters i, s.voteAgain_rejoining hrej, (RegsBut.voteAgain s i).congr rfl, rfl⟩

/-- Settles O3: clause by clause. -/
theorem timeBaseStartsComparesAndCaptures : Obligations.TimeBaseStartsComparesAndCaptures :=
  ⟨snapCapture_completes, timeBaseStart_completes, tpllUnlock_completes, tpllRelock_completes, followerCompare_completes,
    rejoinComplete_completes⟩

end Sys2Proof.Proofs
end

section
/-! A write of SERVO_CTRL that sets ENABLE and LOSS_INTERVALS together (R90, R108). -/

namespace Sys2Proof.Proofs
open Sys2Proof.Machine

/-- The servo is off, source 4 leads the list, and its last measurement lies 1,000,000,000 ticks back: within its loss time of
4 intervals of 800,000,000 ticks, beyond one of 1 interval. -/
def lateSource : State :=
  { (State.reset.wr F.TIM_STATUS_RUN 0 1).wr F.SYN_SERVO_SRC_ORDER 0 0xFFF4 with
    pins := { vid := 5 }
    tim := { State.reset.tim with canopy := 1000000000 }
    syn := { State.reset.syn with servo := { State.reset.syn.servo with lastValid := [none, none, none, none, some 0, none] } } }

/-- ENABLE with LOSS_INTERVALS 1. -/
def enableOneInterval : Word := 0x10001

theorem lateSource_free : lateSource.Free (F.SYN_SERVO_CTRL_ENABLE.addr 0) := by decide +kernel

/-- Before the write the source is valid. -/
theorem lateSource_valid : lateSource.srcOrder.find? lateSource.srcValid = some 4 := by decide +kernel

/-- The write sets the loss time first, by which the source is lost. -/
theorem servoEnable_takes_no_source :
    (nextOr State.reset (exec (.servoEnable 0 enableOneInterval) lateSource)).rd F.SYN_SERVO_STATUS_SOURCE = 15 := by decide +kernel

/-- Refutes O5: the sixth clause judges the sources by the LOSS_INTERVALS from before the write, which the same write replaces. -/
theorem not_timeAndSyncWritesOfASeat : ¬ Obligations.TimeAndSyncWritesOfASeat := by
  unfold Obligations.TimeAndSyncWritesOfASeat
  rintro ⟨-, -, -, -, -, h, -⟩
  obtain ⟨t, ht, -, -, -, hsource, -⟩ := h lateSource enableOneInterval lateSource_free (by decide +kernel) (by decide +kernel)
  have hnone := servoEnable_takes_no_source
  rw [ht, nextOr, hsource, lateSource_valid] at hnone
  exact absurd hnone (by decide)

end Sys2Proof.Proofs
end

section
/-! Frequency references that go bad, become good, or are returned to (R92, R93). -/

namespace Sys2Proof.Machine

/-! ### The good inputs -/

theorem bit_without : ∀ (v : Fin 8) (i c : Fin 3), bit v.val i.val = true →
    bit ((v.val - 2 ^ i.val) % 2 ^ 3) c.val = (c.val != i.val && bit v.val c.val) := by decide

theorem State.refOrder_lt (s : State) {c : Nat} (h : c ∈ s.refOrder) : c < 3 := by
  simpa using (List.mem_filter.mp h).2

/-- An input that is no longer good (R93). -/
def State.refBad (s : State) (i : Nat) : State :=
  (s.wr F.SYN_REF_STATUS_GOOD 0 (s.rd F.SYN_REF_STATUS_GOOD - 2 ^ i)).setSyn
    (fun y => { y with refGoodSince := upd y.refGoodSince i (fun _ => none) })

theorem RegsBut.refBad (s : State) (i : Nat) : RegsBut s (s.refBad i) [(F.SYN_REF_STATUS_GOOD, 0)] :=
  (RegsBut.refl.wr _ (by simp)).congr rfl

theorem State.refBad_good {s : State} {i : Fin 3} (h : bit (s.rd F.SYN_REF_STATUS_GOOD) i.val = true) (c : Fin 3) :
    (s.refBad i).refGood c.val = (c.val != i.val && bit (s.rd F.SYN_REF_STATUS_GOOD) c.val) := by
  have hrd : (s.refBad i).rd F.SYN_REF_STATUS_GOOD = (s.rd F.SYN_REF_STATUS_GOOD - 2 ^ i.val) % 2 ^ 3 := State.rd_wr_same s _ _ _
  rw [State.refGood, hrd]
  exact bit_without ⟨_, s.rd_lt F.SYN_REF_STATUS_GOOD 0⟩ i c h

/-- The first good input of the list, once input i is good no longer. -/
theorem State.refBad_first {s : State} {i : Fin 3} (h : bit (s.rd F.SYN_REF_STATUS_GOOD) i.val = true) :
    (s.refBad i).refOrder.find? (s.refBad i).refGood =
      s.refOrder.find? (fun c => c != i.val && bit (s.rd F.SYN_REF_STATUS_GOOD) c) := by
  have horder : (s.refBad i).refOrder = s.refOrder := by
    rw [State.refOrder, RegsBut.refBad s i F.SYN_REF_CTRL_ORDER 0 (by decide)]; rfl
  rw [horder]
  exact List.find?_congr fun c hc => s.refBad_good h ⟨c, s.refOrder_lt hc⟩

/-- A TPLL whose input went bad: the next good input, or none (R42, R93). -/
def State.refLeave (s : State) : State :=
  match s.refOrder.find? s.refGood with
  | some j => s.refSwitch j
  | none => s.tpllUnlocked

theorem State.refLeave_of_some {s : State} {j : Nat} (h : s.refOrder.find? s.refGood = some j) : s.refLeave = s.refSwitch j := by
  rw [State.refLeave, h]

theorem State.refLeave_of_none {s : State} (h : s.refOrder.find? s.refGood = none) : s.refLeave = s.tpllUnlocked := by
  rw [State.refLeave, h]

theorem RegsBut.tpllUnlocked (s : State) : RegsBut s s.tpllUnlocked unlockFields := by
  have h : RegsBut s s.unlockShown unlockFields :=
    (((RegsBut.of_regs rfl : RegsBut s { s with tim := { s.tim with tpllHeld := true } } unlockFields).wr 0
      (by simp [unlockFields])).raiseBits 1 (by simp [unlockFields])).wr 1 (by simp [unlockFields])
  exact h.trans ((RegsBut.tpllUnlocked_unlockShown s).mono (by simp [unlockFields]))

/-- An input that has become good (R93). -/
def State.refNowGood (s : State) (i : Nat) : State :=
  (s.wr F.SYN_REF_STATUS_GOOD 0 (s.rd F.SYN_REF_STATUS_GOOD ||| 2 ^ i)).setSyn
    (fun y => { y with refGoodSince := upd y.refGoodSince i (fun _ => some s.now) })

theorem State.refNowGood_good (s : State) (i : Fin 3) : bit ((s.refNowGood i).rd F.SYN_REF_STATUS_GOOD) i.val = true := by
  have hrd : (s.refNowGood i).rd F.SYN_REF_STATUS_GOOD = (s.rd F.SYN_REF_STATUS_GOOD ||| 2 ^ i.val) % 2 ^ 3 := State.rd_wr_same s _ _ _
  rw [hrd, bit_or_mod i.isLt, bit_two_pow, Bool.or_true]

/-- An input that has been good for 10 s (R93). -/
def State.refTenSeconds (s : State) (i : Nat) : Bool :=
  match nth s.syn.refGoodSince i none with
  | some t => decide (t + 8000000000 ≤ s.now)
  | none => false

/-- The first earlier input of the list that has been good for 10 s. -/
def State.refEarlier (s : State) : Option Nat :=
  (s.refOrder.take (s.refOrder.idxOf (s.rd F.SYN_REF_STATUS_CURRENT))).find? s.refTenSeconds

theorem State.refTenSeconds_of_le {s : State} {i since : Nat} (hs : nth s.syn.refGoodSince i none = some since)
    (ht : since + 8000000000 ≤ s.now) : s.refTenSeconds i = true := by
  rw [State.refTenSeconds, hs]
  exact decide_eq_true ht

theorem State.refEarlier_of_pair {s : State} {i j since : Nat} (hlist : s.refOrder = [i, j]) (hne : i ≠ j)
    (hcur : s.rd F.SYN_REF_STATUS_CURRENT = j) (hs : nth s.syn.refGoodSince i none = some since)
    (ht : since + 8000000000 ≤ s.now) : s.refEarlier = some i := by
  have htake : ([i, j] : List Nat).take ([i, j].idxOf j) = [i] := by simp [hne]
  rw [State.refEarlier, hlist, hcur, htake, List.find?_cons, State.refTenSeconds_of_le hs ht]

/-- The TPLL goes back to an earlier input, if one has been good for 10 s. -/
def State.refBack (s : State) : State :=
  match s.refEarlier with
  | some i => s.refSwitch i
  | none => s

theorem State.refSwitch_syn (s : State) (i : Nat) : (s.refSwitch i).syn = { s.syn with refMoved := true } := by
  rw [s.refSwitch_eq, State.timeState, State.hand_syn]; rfl

end Sys2Proof.Machine

namespace Sys2Proof.Proofs
open Sys2Proof.Machine

/-- What REF_INPUT_LOSS does where the current input of a locked TPLL goes bad. -/
theorem exec_refInputLoss {s : State} {i : Fin 3} {freq : Option Nat} (hc : s.clocked = true)
    (hf : freq.all (fun f => !s.refInTol i.val f) = true) (hg : bit (s.rd F.SYN_REF_STATUS_GOOD) i.val = true)
    (hcur : s.rd F.SYN_REF_STATUS_CURRENT = i.val) (hlock : s.on F.TIM_STATUS_TPLL_LOCK = true) :
    exec (.refInputLoss ⟨i, freq⟩) s = .next (s.inside (s.refBad i).refLeave) := by
  have hgood : s.refGood i.val = true := hg
  have hregs := RegsBut.refBad s i
  have hcur' : (s.refBad i).rd F.SYN_REF_STATUS_CURRENT = i.val := (hregs _ _ (by decide)).trans hcur
  have hlock' : (s.refBad i).on F.TIM_STATUS_TPLL_LOCK = true := (hregs.on (by decide)).trans hlock
  refine congrArg Host.Outcome.next ((State.when_true s (by rw [hc, hgood, hf]; rfl) _).trans (congrArg s.inside ?_))
  change (if (s.refBad i).rd F.SYN_REF_STATUS_CURRENT ≠ i.val ∨ !(s.refBad i).on F.TIM_STATUS_TPLL_LOCK then s.refBad i
    else (s.refBad i).refLeave) = _
  rw [hcur', hlock', if_neg (by simp)]

theorem refInputLoss_moves (s : State) (i : Fin 3) (j : Nat) (freq : Option Nat) (hc : s.clocked = true)
    (hf : freq.all (fun f => !s.refInTol i.val f) = true) (hg : bit (s.rd F.SYN_REF_STATUS_GOOD) i.val = true)
    (hcur : s.rd F.SYN_REF_STATUS_CURRENT = i.val ∧ s.on F.TIM_STATUS_TPLL_LOCK = true)
    (hj : s.refOrder.find? (fun c => c != i.val && bit (s.rd F.SYN_REF_STATUS_GOOD) c) = some j) :
    Completes (.refInputLoss ⟨i, freq⟩) s (fun t => t.rd F.SYN_REF_STATUS_CURRENT = j ∧
    bit (t.rd F.SYN_REF_STATUS_GOOD) i.val = false ∧ t.on F.SYN_INT_STATUS_REF_SWITCH = true ∧
    t.flt.held = s.flt.held ++ [⟨3, 1, 0, j, 0⟩] ∧ t.tim = s.tim) := by
  have hstep := exec_refInputLoss hc hf hg hcur.1 hcur.2
  rw [State.refLeave_of_some ((State.refBad_first hg).trans hj)] at hstep
  have hlt : j < 4 := Nat.lt_succ_of_lt (s.refOrder_lt (List.mem_of_find?_eq_some hj))
  have hbad : bit ((s.refBad i).rd F.SYN_REF_STATUS_GOOD) i.val = false := (s.refBad_good hg i).trans (by simp)
  have hgood := RegsBut.refSwitch (s.refBad i) j F.SYN_REF_STATUS_GOOD 0 (by decide)
  refine ⟨_, hstep, (s.refBad i).refSwitch_current hlt, ?_, (s.refBad i).refSwitch_shown j,
    congrArg Flt.held ((s.refBad i).refSwitch_flt j), (s.refBad i).refSwitch_tim j⟩
  rw [State.rd_inside, hgood]
  exact hbad

theorem refInputLoss_unlocks (s : State) (i : Fin 3) (freq : Option Nat) (hc : s.clocked = true)
    (hf : freq.all (fun f => !s.refInTol i.val f) = true) (hg : bit (s.rd F.SYN_REF_STATUS_GOOD) i.val = true)
    (hcur : s.rd F.SYN_REF_STATUS_CURRENT = i.val ∧ s.on F.TIM_STATUS_TPLL_LOCK = true)
    (hnone : s.refOrder.find? (fun c => c != i.val && bit (s.rd F.SYN_REF_STATUS_GOOD) c) = none) :
    Completes (.refInputLoss ⟨i, freq⟩) s (fun t => bit (t.rd F.SYN_REF_STATUS_GOOD) i.val = false ∧
    t.on F.TIM_STATUS_TPLL_LOCK = false ∧ t.tim.tpllHeld = true ∧ t.on F.SYN_SERVO_STATUS_REF_LOST = true ∧
    t.flt.held = s.flt.held ++ [⟨1, 5, 3, 0, s.now⟩] ∧ t.tim.params = s.tim.params) := by
  have hstep := exec_refInputLoss hc hf hg hcur.1 hcur.2
  rw [State.refLeave_of_none ((State.refBad_first hg).trans hnone)] at hstep
  have hbad : bit ((s.refBad i).rd F.SYN_REF_STATUS_GOOD) i.val = false := (s.refBad_good hg i).trans (by simp)
  have hgood := RegsBut.tpllUnlocked (s.refBad i) F.SYN_REF_STATUS_GOOD 0 (by decide)
  have htim := (s.refBad i).tpllUnlocked_tim
  have hparams : (s.refBad i).tpllUnlocked.tim.params = s.tim.params := by rw [htim]; rfl
  refine ⟨_, hstep, ?_, (s.refBad i).tpllUnlocked_lock, congrArg Tim.tpllHeld htim, (s.refBad i).tpllUnlocked_refLost,
    congrArg Flt.held (s.refBad i).tpllUnlocked_flt, hparams⟩
  rw [State.rd_inside, hgood]
  exact hbad

/-- What REF_INPUT_GOOD does with an input that was not good. -/
theorem exec_refInputGood {s : State} {i : Fin 3} {freq : Nat} (hc : s.clocked = true) (ht : s.refInTol i.val freq = true)
    (hg : bit (s.rd F.SYN_REF_STATUS_GOOD) i.val = false) :
    exec (.refInputGood ⟨i, freq⟩) s = .next (s.inside
      (if !(s.refNowGood i).syn.refMoved && (s.refNowGood i).on F.TIM_STATUS_TPLL_LOCK && (s.refNowGood i).refOrder.head? == some i.val
          && (s.refNowGood i).rd F.SYN_REF_STATUS_CURRENT != i.val then (s.refNowGood i).refSwitch i else s.refNowGood i)) := by
  have hbad : s.refGood i.val = false := hg
  exact congrArg Host.Outcome.next (State.when_true s (by rw [hc, hbad, ht]; rfl) _)

theorem refInputGood_completes (s : State) (i : Fin 3) (freq : Nat) (hc : s.clocked = true) (ht : s.refInTol i.val freq = true)
    (hlen : s.syn.refGoodSince.length = 3) (hg : bit (s.rd F.SYN_REF_STATUS_GOOD) i.val = false) :
    Completes (.refInputGood ⟨i, freq⟩) s (fun t => bit (t.rd F.SYN_REF_STATUS_GOOD) i.val = true ∧
    nth t.syn.refGoodSince i.val none = some s.now ∧ t.tim = s.tim ∧
    (s.syn.refMoved = true → RegsBut s t [(F.SYN_REF_STATUS_GOOD, 0)] ∧ t.flt = s.flt)) := by
  have hsince : nth (s.refNowGood i).syn.refGoodSince i.val none = some s.now := by
    refine nth_upd_same _ _ ?_
    rw [State.wr_syn, hlen]
    exact i.isLt
  refine ⟨_, exec_refInputGood hc ht hg, ?_⟩
  split
  · next hmove =>
    have hmoved : s.syn.refMoved ≠ true := fun h => by
      have h' : (s.refNowGood i).syn.refMoved = true := h
      simp [h'] at hmove
    refine ⟨?_, ?_, (s.refNowGood i).refSwitch_tim i, fun h => absurd h hmoved⟩
    · rw [State.rd_inside, RegsBut.refSwitch (s.refNowGood i) i F.SYN_REF_STATUS_GOOD 0 (by decide)]
      exact s.refNowGood_good i
    · rw [State.inside_syn, State.refSwitch_syn]
      exact hsince
  · exact ⟨s.refNowGood_good i, hsince, rfl, fun _ => ⟨(RegsBut.refl.wr _ (by simp)).congr rfl, rfl⟩⟩

theorem exec_refRevert (s : State) : exec .refRevert s =
    .next (s.when (s.clocked && s.on F.SYN_REF_CTRL_REVERT && s.on F.TIM_STATUS_TPLL_LOCK) State.refBack) := rfl

theorem refRevert_completes (s : State) (i j since : Nat) (hc : s.clocked = true)
    (hon : s.on F.SYN_REF_CTRL_REVERT = true ∧ s.on F.TIM_STATUS_TPLL_LOCK = true)
    (horder : s.refOrder = [i, j] ∧ i ≠ j ∧ s.rd F.SYN_REF_STATUS_CURRENT = j)
    (hs : nth s.syn.refGoodSince i none = some since) (ht : since + 8000000000 ≤ s.now) :
    Completes (.refRevert) s (fun t => t.rd F.SYN_REF_STATUS_CURRENT = i ∧ t.flt.held = s.flt.held ++ [⟨3, 1, 0, i, 0⟩] ∧ t.tim = s.tim) := by
  obtain ⟨hlist, hne, hcur⟩ := horder
  have hlt : i < 4 := Nat.lt_succ_of_lt (s.refOrder_lt (by rw [hlist]; exact List.mem_cons_self))
  have hback : s.refBack = s.refSwitch i := by rw [State.refBack, State.refEarlier_of_pair hlist hne hcur hs ht]
  have hstep : exec .refRevert s = .next (s.inside (s.refSwitch i)) := by
    rw [exec_refRevert, State.when_true s (by rw [hc, hon.1, hon.2]; rfl), hback]
  exact ⟨_, hstep, s.refSwitch_current hlt, congrArg Flt.held (s.refSwitch_flt i), s.refSwitch_tim i⟩

/-- Settles O8: clause by clause. -/
theorem referencesMoveWithoutAPhaseStep : Obligations.ReferencesMoveWithoutAPhaseStep :=
  ⟨refInputLoss_moves, refInputLoss_unlocks, refInputGood_completes, refRevert_completes⟩

end Sys2Proof.Proofs
end

section
/-! SYSRST_N (R551): what the units that it empties do to the rest of the part. -/

namespace Sys2Proof.Machine

/-! ### Places of the register store -/

theorem Fld.base_le_key (f : Fld) (n : Nat) : f.base * 32 ≤ f.key n := by
  simp only [Fld.key, Fld.addr]; omega

/-- A place in the blocks SYS, TIM, SYN and TSU (R13). -/
def inFirstBlocks (k : Nat) : Bool := decide (k < 0x100000 * 32)

section
variable {s t u : State} {p : Nat → Bool}

theorem RegsIf.refl : RegsIf s s p := fun _ _ _ => rfl

theorem RegsIf.trans (h : RegsIf s t p) (h' : RegsIf t u p) : RegsIf s u p := fun f n hf => (h' f n hf).trans (h f n hf)

theorem RegsIf.wr (s : State) {f : Fld} {n : Nat} (v : Nat) (hf : p (f.key n) = false) : RegsIf s (s.wr f n v) p :=
  fun g m hg => State.rd_wr_other s f g (fun he => by rw [he, hg] at hf; cases hf) v

theorem RegsIf.of_regs (h : t.regs = s.regs) : RegsIf s t p := fun f n _ => State.rd_congr h f n

theorem RegsIf.on (h : RegsIf s t p) {f : Fld} {n : Nat} (hf : p (f.key n) = true) : t.on f n = s.on f n := by
  rw [State.on, h f n hf, State.on]

end

theorem inFirstBlocks_of_base {f : Fld} (h : 0x100000 ≤ f.base) (n : Nat) : inFirstBlocks (f.key n) = false := by
  have := f.base_le_key n
  simp only [inFirstBlocks, decide_eq_false_iff_not]
  omega

/-- A store from which keys were dropped reads as before at every other key. -/
theorem SMap.get_filter_key (m : SMap) {p : Nat → Bool} {k : Nat} (h : p k = true) (d : Nat) :
    SMap.get (m.filter fun kv => p kv.1) k d = SMap.get m k d := by
  induction m with
  | nil => rfl
  | cons kv m ih =>
    obtain ⟨k', v⟩ := kv
    by_cases hk : k' = k
    · subst hk
      simp [SMap.get, h]
    · cases hp : p k' with
      | false => simpa [SMap.get, hk, hp] using ih
      | true => simpa [SMap.get, hk, hp] using ih

/-! ### Units that leave the time base and the stores of frames alone -/

/-- What the Recorder, the memory, the shared buffer's displays and the identity unit leave alone. -/
structure Parts where
  tim : Tim
  cnt : SMap
  main : Collector
  pipes : List PipeState
  qsg : Qsg
  tbl : Tbl
  chk : List Flow
  fwd : Fwd
  cmd : Cmd
  drafen : Drafen

def State.parts (s : State) : Parts :=
  ⟨s.tim, s.cnt, s.flt.main, s.flt.pipes, s.qsg, s.tbl, s.chk, s.fwd, s.cmd, s.drafen⟩

/-- t has the parts of s, and its registers of the first blocks. -/
structure State.Beyond (s t : State) : Prop where
  parts : t.parts = s.parts
  regs : RegsIf s t inFirstBlocks

namespace State.Beyond
variable {s t u : State}

theorem refl (s : State) : s.Beyond s := ⟨rfl, .refl⟩

theorem trans (h : s.Beyond t) (h' : t.Beyond u) : s.Beyond u := ⟨h'.parts.trans h.parts, h.regs.trans h'.regs⟩

/-- Nothing but the units changed. -/
theorem of_eq (hp : t.parts = s.parts) (hr : t.regs = s.regs) : s.Beyond t := ⟨hp, .of_regs hr⟩

theorem eq (h : s.Beyond t) (hp : u.parts = t.parts) (hr : u.regs = t.regs) : s.Beyond u := h.trans (of_eq hp hr)

theorem wr (h : s.Beyond t) (f : Fld) (n v : Nat) (hf : 0x100000 ≤ f.base) : s.Beyond (t.wr f n v) :=
  h.trans ⟨rfl, .wr t v (inFirstBlocks_of_base hf n)⟩

theorem raiseBits (h : s.Beyond t) (f : Fld) (n v : Nat) (hf : 0x100000 ≤ f.base) : s.Beyond (t.raiseBits f n v) :=
  (h.wr f n _ hf).eq rfl rfl

theorem wr2 (h : s.Beyond t) (lo hi : Fld) (n v : Nat) (hlo : 0x100000 ≤ lo.base) (hhi : 0x100000 ≤ hi.base) :
    s.Beyond (t.wr2 lo hi n v) := (h.wr lo n _ hlo).wr hi n _ hhi

theorem bump (h : s.Beyond t) (g ev n k : Nat) : s.Beyond (t.bump g ev n k) := h.eq rfl rfl
theorem raiseFault (h : s.Beyond t) (src cause sev inst val : Nat) : s.Beyond (t.raiseFault src cause sev inst val) := h.eq rfl rfl
theorem setEvr (h : s.Beyond t) (f : Evr → Evr) : s.Beyond (t.setEvr f) := h.eq rfl rfl
theorem setMem (h : s.Beyond t) (f : Mem → Mem) : s.Beyond (t.setMem f) := h.eq rfl rfl
theorem setBuf (h : s.Beyond t) (f : Buf → Buf) : s.Beyond (t.setBuf f) := h.eq rfl rfl
theorem setLan (h : s.Beyond t) (f : Lan → Lan) : s.Beyond (t.setLan f) := h.eq rfl rfl

theorem hand (h : s.Beyond t) (r : Record) : s.Beyond (t.hand r) := by
  obtain e | e := t.hand_cases r <;> rw [e]
  · exact h.eq rfl rfl
  · have hb : s.Beyond (({ t with evr := { t.evr with gaps := addLoss 1 t.now r t.evr.gaps } } : State).bump 12 3 1) := h.eq rfl rfl
    exact hb.raiseBits _ _ _ (by decide)

theorem when (s : State) (b : Bool) {f : State → State} (h : s.Beyond (f s)) : s.Beyond (s.when b f) := by
  unfold State.when
  split
  · exact h.trans (of_eq rfl rfl)
  · exact refl s

/-- A step that is taken in some cases only. -/
theorem ite {c : Prop} [Decidable c] (h : s.Beyond t) (h' : t.Beyond u) : s.Beyond (if c then u else t) := by
  split
  · exact h.trans h'
  · exact h

theorem ite_not {c : Prop} [Decidable c] (h : s.Beyond t) (h' : t.Beyond u) : s.Beyond (if c then t else u) := by
  split
  · exact h
  · exact h.trans h'

theorem foldl {α : Type} {f : State → α → State} (h : ∀ (s : State) x, s.Beyond (f s x)) (l : List α) (s : State) :
    s.Beyond (List.foldl f s l) :=
  foldl_keeps (fun _ x ha => ha.trans (h _ x)) l (refl s)

end State.Beyond

section
variable (s : State)

/-! ### The Recorder -/

theorem State.takeRecord_beyond (r : Record) : s.Beyond (s.takeRecord r) := by
  unfold State.takeRecord
  dsimp only
  split
  · exact .when s _ (.of_eq rfl rfl)
  · unfold State.enter
    split
    · exact .of_eq rfl rfl
    · exact .of_eq rfl rfl

theorem State.closeGaps_beyond (p : Gap → Bool) : s.Beyond (s.closeGaps p) := by
  unfold State.closeGaps State.showGap
  dsimp only
  refine .wr ?_ _ _ _ (by decide)
  refine .trans ?_ (.foldl (fun s r => s.takeRecord_beyond r) _ _)
  exact .of_eq rfl rfl

/-- A sealed block at its place, the blocks in its way gone from the ring (R345, R346). -/
def State.blockPlaced (b : SealedBlock) : State :=
  let size := max 1 s.ringSize
  let p := s.placeFor b.length (s.evr.blocks.length + 1) (s.evr.writePtr % size)
  let hits := fun (x : SealedBlock) => decide ((x.place + size - p) % size < b.length) || decide ((p + size - x.place) % size < x.length)
  let gone := fun (x : SealedBlock) => !s.heldBlock x && hits x
  let n := (s.evr.blocks.filter gone).length
  let t := s.setEvr (fun e => { e with
    blocks := e.blocks.filter (fun x => !gone x) ++ [{ b with place := p }], writePtr := (p + b.length) % size })
  if n = 0 then t else t.bump 12 7 0 n

/-- The oldest block that may leave goes where the ring lists too many. -/
def State.blockListKept : State :=
  if 8388608 < s.evr.blocks.length then
    match s.evr.blocks.find? (fun x => !s.heldBlock x) with
    | some x => (s.setEvr (fun e => { e with blocks := e.blocks.erase x })).bump 12 7
    | none => s
  else s

theorem State.storeBlock_eq (b : SealedBlock) : s.storeBlock b = (s.blockPlaced b).blockListKept := rfl

theorem State.storeBlock_beyond (b : SealedBlock) : s.Beyond (s.storeBlock b) := by
  rw [s.storeBlock_eq b]
  have h : s.Beyond (s.blockPlaced b) := .ite_not (.of_eq rfl rfl) (.of_eq rfl rfl)
  refine h.trans ?_
  generalize s.blockPlaced b = t
  unfold State.blockListKept
  split
  · split
    · exact .of_eq rfl rfl
    · exact .refl t
  · exact .refl t

theorem State.openBlock_beyond (genesis afterReset : Bool) (l : List Record) : s.Beyond (s.openBlock genesis afterReset l) := by
  unfold State.openBlock
  refine .wr2 ?_ _ _ _ _ (by decide) (by decide)
  exact .of_eq rfl rfl

theorem State.showRing_beyond : s.Beyond s.showRing := by
  unfold State.showRing
  exact .wr (.wr (.wr2 (.wr2 (.refl s) _ _ _ _ (by decide) (by decide)) _ _ _ _ (by decide) (by decide)) _ _ _ (by decide)) _ _ _ (by decide)

/-- The seal of R354 answers no command: none waits for it any more. -/
theorem State.sealBlock_beyond (cause : Nat) : s.Beyond (s.sealBlock cause true) := by
  unfold State.sealBlock
  split
  · exact .refl s
  · have h := s.closeGaps_beyond (fun _ => true)
    dsimp only
    generalize s.closeGaps (fun _ => true) = t at h ⊢
    refine h.trans ?_
    split
    · exact .refl t
    · next b _ =>
      have hplaced (sb : SealedBlock) (m : Option Nat) : t.Beyond { t.storeBlock sb with mem := { (t.storeBlock sb).mem with tail := m } } :=
        (t.storeBlock_beyond sb).eq rfl rfl
      refine .trans (.ite ?_ ?_) (State.showRing_beyond _)
      · refine .trans ?_ (State.openBlock_beyond _ _ _ _)
        exact .bump (.setEvr (hplaced _ _) _) _ _ _ _
      · exact .raiseFault (.raiseBits (.refl _) _ _ _ (by decide)) _ _ _ _ _

theorem State.holdEvidence_beyond : s.Beyond s.holdEvidence := (s.sealBlock_beyond 0).eq rfl rfl

theorem State.bumpDrop_beyond (reason port : Nat) : s.Beyond (s.bumpDrop reason port) := by
  unfold State.bumpDrop
  split
  · exact .of_eq rfl rfl
  · exact .of_eq rfl rfl

theorem State.countDiscards_beyond : s.Beyond s.countDiscards := by
  unfold State.countDiscards
  dsimp only
  refine .eq (.trans (.foldl (fun s x => ?_) _ _) (.foldl (fun s x => s.bumpDrop_beyond _ _) _ _)) rfl rfl
  split
  · exact (s.bumpDrop_beyond _ _).eq rfl rfl
  · exact s.bumpDrop_beyond _ _

/-! ### What the registers show after the reset -/

theorem State.setDigest_beyond (d : Bytes) : s.Beyond (s.setDigest d) := by
  unfold State.setDigest
  refine .eq (.foldl (fun s w => ?_) _ _) rfl rfl
  exact .wr (.refl s) _ _ _ (by decide)

theorem State.wakeStack_beyond (k : Nat) : s.Beyond (s.wakeStack k) := by
  unfold State.wakeStack State.setSr
  dsimp only
  refine .trans ?_ (.foldl (fun s i => ?_) _ _)
  · exact .bump (.setMem (.wr (.refl s) _ _ _ (by decide)) _) _ _ _ _
  · exact .setMem (.wr (.refl s) _ _ _ (by decide)) _

theorem State.showSeat_beyond (e : Nat) : s.Beyond (s.showSeat e) := by
  unfold State.showSeat
  exact .wr (.wr (.wr (.wr (.wr (.refl s) _ _ _ (by decide)) _ _ _ (by decide)) _ _ _ (by decide)) _ _ _ (by decide)) _ _ _ (by decide)

theorem State.loadPools_beyond : s.Beyond s.loadPools := by
  unfold State.loadPools
  dsimp only
  refine .ite (.foldl (fun s c => ?_) _ _) ?_
  · exact .wr (.wr (.refl s) _ _ _ (by decide)) _ _ _ (by decide)
  · exact .raiseFault (.refl _) _ _ _ _ _

theorem State.clampPins_beyond : s.Beyond s.clampPins := .wr (.refl s) _ _ _ (by decide)

theorem State.sendFlow_beyond (p ended : Nat) : s.Beyond (s.sendFlow p ended) := by
  unfold State.sendFlow
  split
  · exact .of_eq rfl rfl
  · exact .refl s

theorem State.flowTransition_beyond (p c : Nat) (xoff : Bool) : s.Beyond (s.flowTransition p c xoff) := by
  unfold State.flowTransition State.eventRec
  dsimp only
  refine .trans ?_ (State.sendFlow_beyond _ _ _)
  refine .hand ?_ _
  refine .bump ?_ _ _ _ _
  exact .wr (.refl s) _ _ _ (by decide)

theorem State.flowClass_beyond (p c : Nat) (forced : Bool) : s.Beyond (s.flowClass p c forced) := by
  unfold State.flowClass
  dsimp only
  split
  · exact s.flowTransition_beyond _ _ _
  · split
    · exact s.flowTransition_beyond _ _ _
    · exact .refl s

theorem State.flowCheck_beyond (p : Nat) : s.Beyond (s.flowCheck p) := .foldl (fun s c => s.flowClass_beyond p c false) _ s

theorem State.refreshBuf_beyond : s.Beyond s.refreshBuf := by
  unfold State.refreshBuf
  have h : s.Beyond ((((s.wr F.BUF_STATUS_ACTIVE_CELLS 0 s.activeCells).wr F.BUF_FREE_CELLS 0
      (s.wr F.BUF_STATUS_ACTIVE_CELLS 0 s.activeCells).freeCells).wr F.BUF_SHARED_USED 0
      (s.wr F.BUF_STATUS_ACTIVE_CELLS 0 s.activeCells).sharedUsed).wr F.BUF_SHARED_TOTAL_TOTAL 0
      (s.wr F.BUF_STATUS_ACTIVE_CELLS 0 s.activeCells).sharedTotal) :=
    .wr (.wr (.wr (.wr (.refl s) _ _ _ (by decide)) _ _ _ (by decide)) _ _ _ (by decide)) _ _ _ (by decide)
  dsimp only
  generalize (State.wr _ F.BUF_SHARED_TOTAL_TOTAL 0 _) = t at h ⊢
  split
  · refine .trans ?_ (.foldl (fun s p => s.flowCheck_beyond p) _ _)
    exact .raiseBits (.setBuf h _) _ _ _ (by decide)
  · split
    · refine .trans ?_ (.foldl (fun s p => s.flowCheck_beyond p) _ _)
      exact .setBuf h _
    · exact h

theorem State.showBank_beyond : s.Beyond s.showBank :=
  .wr (.wr (.wr (.refl s) _ _ _ (by decide)) _ _ _ (by decide)) _ _ _ (by decide)

end

end Sys2Proof.Machine
end

section
/-! SYSRST_N (R551): the part as a recognised reset leaves it. -/

namespace Sys2Proof.Machine

section
variable (s : State)

/-! ### The units emptied -/

/-- Every unit as SYSRST_N empties it, the evidence held and the discards counted first (R551). -/
def State.warmUnits : State :=
  let t := s.holdEvidence.countDiscards
  { t with
    regs := t.regs.filter (fun kv => keptBySysrst kv.1), prevRegs := [], cntReq := [none, none, none, none]
    tim := { t.tim with armedRate := none, armedStep := none, servoStep := none, snapReq := [none, none, none, none] }
    tsu := {}
    syn := { nextAction := t.syn.nextAction, fired := t.syn.fired, idsWrapped := t.syn.idsWrapped
             discarded := t.syn.actions.map (fun a => (a.id, a.seat)) ++ t.syn.discarded }
    flt := t.flt.settled
    cmd := t.cmd.cleared
    drafen := { cores := t.drafen.cores.map (fun c => { micro := c.micro, nano := c.nano, failures := c.failures }) }
    fwd := { nextFrame := t.fwd.nextFrame }
    buf := { bankMap := t.buf.bankMap, spares := t.buf.spares, retired := t.buf.retired, spareReq := t.buf.spareReq,
             sparing := t.buf.sparing, ceTicks := t.buf.ceTicks }
    qsg := {}, tbl := {}, mem := { t.mem with segs := [], reqs := [], ops := [] }, lan := { pllSince := t.lan.pllSince, refWait := t.lan.refWait }
    csma := { phyLink := t.csma.phyLink, phySpeed := t.csma.phySpeed, phyFull := t.csma.phyFull }, chk := [], trp := {}, pwr := {}
    idn := { t.idn with quotes := [] } }

/-- The parts as SYSRST_N leaves them: the time base, the counters, the latched faults and the stores of Drafen stay. -/
def Parts.warm (p : Parts) : Parts :=
  ⟨{ p.tim with armedRate := none, armedStep := none, servoStep := none, snapReq := [none, none, none, none] }, p.cnt, p.main, p.pipes,
    {}, {}, [], { nextFrame := p.fwd.nextFrame }, p.cmd.cleared,
    { cores := p.drafen.cores.map (fun c => { micro := c.micro, nano := c.nano, failures := c.failures }) }⟩

theorem State.discarded_beyond : s.Beyond s.holdEvidence.countDiscards := s.holdEvidence_beyond.trans (State.countDiscards_beyond _)

theorem State.warmUnits_parts : s.warmUnits.parts = s.parts.warm := by
  rw [← s.discarded_beyond.parts]
  rfl

/-- A register of the first blocks that SYSRST_N keeps. -/
theorem State.rd_warmUnits {f : Fld} {n : Nat} (hk : keptBySysrst (f.key n) = true) (hf : inFirstBlocks (f.key n) = true) :
    s.warmUnits.rd f n = s.rd f n := by
  rw [← s.discarded_beyond.regs f n hf]
  exact congrArg (· % 2 ^ f.width) (SMap.get_filter_key s.holdEvidence.countDiscards.regs hk (f.reset n))

/-! ### What is told of the reset -/

/-- What SYSRST_N writes of SYS, TIM and TSU (R551). -/
def State.warmMarks (t : State) (reload calRuns : Bool) : State :=
  let t := (if t.idn.oldKey then t else t.wr F.IDN_STATUS_ROTATING 0 0).wr F.SYS_BOOT_STATUS_DRAFEN_READY 0 0
  let t := t.wr F.TIM_STEP_CTRL_PENDING 0 0
  let t := if calRuns then ((t.wr F.TSU_CAL_STATUS_DONE 0 1).wr F.TSU_CAL_STATUS_RESULT 0 3).raiseBits F.TSU_INT_STATUS_CAL_FAIL 0 1 else t
  if reload then t.forgetImage else t

/-- What the other units show after SYSRST_N, up to the seats. -/
def State.warmShow (t : State) : State :=
  let t := match t.idn.image with
    | some i => t.setDigest (sha512 i.digest)
    | none => t
  let t := (List.range 4).foldl (fun s k => if s.srState k = 0 then s else s.wakeStack k) t
  let t := if t.flt.takeOver.isSome then t.wr F.FLT_PIPE_STATUS_REPLAYING 0 0 else t
  if t.pins.tripped then (List.range 512).foldl (fun s p => s.wr F.LAN_PORT_STATUS_TX_EI p 1) t else t

/-- RESET_SEEN of a seat (R551). -/
def State.showReset (t : State) (e : Nat) : State := (t.showSeat e).wr F.CMD_SEAT_STATUS_RESET_SEEN e 1

/-- The pools, the pins and the free store as they are shown last. -/
def State.warmPools (t : State) : State := t.loadPools.clampPins.refreshBuf.showBank

theorem State.warmReset_eq : s.warmReset =
    ((List.range 4).foldl State.showReset (s.warmUnits.warmMarks s.reloadDue s.tsu.cal.isSome).warmShow).warmPools := rfl

/-- The registers of SYS, TIM, SYN, TSU and IDN that SYSRST_N writes once the units are empty. -/
def warmFields : List (Fld × Nat) :=
  [(F.IDN_STATUS_ROTATING, 0), (F.SYS_BOOT_STATUS_DRAFEN_READY, 0), (F.TIM_STEP_CTRL_PENDING, 0), (F.TSU_CAL_STATUS_DONE, 0),
   (F.TSU_CAL_STATUS_RESULT, 0), (F.TSU_INT_STATUS_CAL_FAIL, 0), (F.SYS_BOOT_STATUS_IMAGE_OK, 0), (F.SYS_BOOT_STATUS_IMAGE_FAILED, 0)]

theorem RegsBut.ite {s t u : State} {l : List (Fld × Nat)} {c : Prop} [Decidable c] (ht : RegsBut s t l) (hu : RegsBut s u l) :
    RegsBut s (if c then t else u) l := by
  split
  · exact ht
  · exact hu

/-- A step that is not to come: nothing waits with the time base (R551). -/
def State.warmIdle (t : State) : State :=
  ((if t.idn.oldKey then t else t.wr F.IDN_STATUS_ROTATING 0 0).wr F.SYS_BOOT_STATUS_DRAFEN_READY 0 0).wr F.TIM_STEP_CTRL_PENDING 0 0

/-- A calibration run ends with RESULT 3 (R551). -/
def State.calCut (t : State) : State :=
  ((t.wr F.TSU_CAL_STATUS_DONE 0 1).wr F.TSU_CAL_STATUS_RESULT 0 3).raiseBits F.TSU_INT_STATUS_CAL_FAIL 0 1

/-- The image is to be loaded again where that is due. -/
def State.warmImage (t : State) (reload : Bool) : State := if reload then t.forgetImage else t

theorem State.warmMarks_eq (t : State) (reload calRuns : Bool) :
    t.warmMarks reload calRuns = (if calRuns then t.warmIdle.calCut else t.warmIdle).warmImage reload := rfl

theorem State.warmIdle_parts (t : State) : t.warmIdle.parts = t.parts := by
  unfold State.warmIdle
  split
  · rfl
  · rfl

theorem State.warmImage_parts (t : State) (reload : Bool) : (t.warmImage reload).parts = t.parts := by
  unfold State.warmImage
  split
  · rfl
  · rfl

theorem State.warmMarks_parts (t : State) (reload calRuns : Bool) : (t.warmMarks reload calRuns).parts = t.parts := by
  rw [t.warmMarks_eq, State.warmImage_parts]
  split
  · exact t.warmIdle_parts
  · exact t.warmIdle_parts

theorem RegsBut.warmIdle (t : State) : RegsBut t t.warmIdle warmFields := by
  have h : RegsBut t (if t.idn.oldKey then t else t.wr F.IDN_STATUS_ROTATING 0 0) warmFields :=
    .ite .refl (RegsBut.refl.wr 0 (by simp [warmFields]))
  exact (h.wr 0 (by simp [warmFields])).wr 0 (by simp [warmFields])

theorem RegsBut.calCut (t : State) : RegsBut t t.calCut
    [(F.TSU_CAL_STATUS_DONE, 0), (F.TSU_CAL_STATUS_RESULT, 0), (F.TSU_INT_STATUS_CAL_FAIL, 0)] :=
  ((RegsBut.refl.wr 1 (by simp)).wr 3 (by simp)).raiseBits 1 (by simp)

theorem RegsBut.warmImage (t : State) (reload : Bool) : RegsBut t (t.warmImage reload)
    [(F.SYS_BOOT_STATUS_IMAGE_OK, 0), (F.SYS_BOOT_STATUS_IMAGE_FAILED, 0)] := by
  have h : RegsBut t ((t.wr F.SYS_BOOT_STATUS_IMAGE_OK 0 0).wr F.SYS_BOOT_STATUS_IMAGE_FAILED 0 0)
      [(F.SYS_BOOT_STATUS_IMAGE_OK, 0), (F.SYS_BOOT_STATUS_IMAGE_FAILED, 0)] := (RegsBut.refl.wr 0 (by simp)).wr 0 (by simp)
  exact .ite (h.congr rfl) .refl

theorem RegsBut.warmMarks (t : State) (reload calRuns : Bool) : RegsBut t (t.warmMarks reload calRuns) warmFields := by
  rw [t.warmMarks_eq]
  refine .trans ?_ ((RegsBut.warmImage _ _).mono (by simp [warmFields]))
  refine .ite ?_ (RegsBut.warmIdle t)
  exact (RegsBut.warmIdle t).trans ((RegsBut.calCut _).mono (by simp [warmFields]))

theorem State.warmIdle_pending (t : State) : t.warmIdle.on F.TIM_STEP_CTRL_PENDING = false := State.on_wr_zero _ _ _

theorem State.warmMarks_pending (t : State) (reload calRuns : Bool) :
    (t.warmMarks reload calRuns).on F.TIM_STEP_CTRL_PENDING = false := by
  rw [t.warmMarks_eq, (RegsBut.warmImage _ _).on (by decide)]
  split
  · rw [(RegsBut.calCut _).on (by decide)]
    exact t.warmIdle_pending
  · exact t.warmIdle_pending

theorem State.calCut_reads (t : State) : t.calCut.rd F.TSU_CAL_STATUS_RESULT = 3 ∧ t.calCut.on F.TSU_CAL_STATUS_DONE = true ∧
    t.calCut.on F.TSU_INT_STATUS_CAL_FAIL = true := by
  refine ⟨?_, ?_, State.on_raiseBits_one _ _ _ rfl⟩
  · rw [State.calCut, State.rd_raiseBits_other _ _ _ (by decide), State.rd_wr_same]
    rfl
  · have h : RegsBut (t.wr F.TSU_CAL_STATUS_DONE 0 1) t.calCut [(F.TSU_CAL_STATUS_RESULT, 0), (F.TSU_INT_STATUS_CAL_FAIL, 0)] :=
      (RegsBut.refl.wr 3 (by simp)).raiseBits 1 (by simp)
    rw [h.on (by decide)]
    exact State.on_wr_one _ _ _ rfl

/-- A calibration run that SYSRST_N ends (R551). -/
theorem State.warmMarks_cal (t : State) (reload : Bool) : (t.warmMarks reload true).rd F.TSU_CAL_STATUS_RESULT = 3 ∧
    (t.warmMarks reload true).on F.TSU_CAL_STATUS_DONE = true ∧ (t.warmMarks reload true).on F.TSU_INT_STATUS_CAL_FAIL = true := by
  have h := RegsBut.warmImage t.warmIdle.calCut reload
  obtain ⟨hres, hdone, hfail⟩ := t.warmIdle.calCut_reads
  exact ⟨(h _ _ (by decide)).trans hres, (h.on (by decide)).trans hdone, (h.on (by decide)).trans hfail⟩

/-! ### The displays -/

theorem State.warmShow_beyond (t : State) : t.Beyond t.warmShow := by
  unfold State.warmShow
  dsimp only
  have hdig : t.Beyond (match t.idn.image with | some i => t.setDigest (sha512 i.digest) | none => t) := by
    split
    · exact t.setDigest_beyond _
    · exact .refl t
  refine .ite (.ite (.trans hdig (.foldl (fun s k => ?_) _ _)) (.wr (.refl _) _ _ _ (by decide))) (.foldl (fun s p => ?_) _ _)
  · exact .ite_not (.refl s) (s.wakeStack_beyond k)
  · exact .wr (.refl s) _ _ _ (by decide)

theorem State.showReset_beyond (t : State) (e : Nat) : t.Beyond (t.showReset e) := .wr (t.showSeat_beyond e) _ _ _ (by decide)

theorem State.warmPools_beyond (t : State) : t.Beyond t.warmPools :=
  ((t.loadPools_beyond.trans (State.clampPins_beyond _)).trans (State.refreshBuf_beyond _)).trans (State.showBank_beyond _)

/-- After the marks, SYSRST_N touches neither the parts nor the registers of the first blocks. -/
theorem State.warmReset_beyond : (s.warmUnits.warmMarks s.reloadDue s.tsu.cal.isSome).Beyond s.warmReset := by
  rw [s.warmReset_eq]
  exact ((State.warmShow_beyond _).trans (.foldl (fun t e => t.showReset_beyond e) _ _)).trans (State.warmPools_beyond _)

theorem State.warmReset_parts : s.warmReset.parts = s.parts.warm := by
  rw [s.warmReset_beyond.parts, State.warmMarks_parts, s.warmUnits_parts]

/-! ### RESET_SEEN -/

/-- A place in the blocks from CMD on (R13). -/
def fromSeats (k : Nat) : Bool := decide (0x400000 * 32 ≤ k)

theorem fromSeats_of_lt {k : Nat} (h : k < 0x400000 * 32) : fromSeats k = false := by
  simp only [fromSeats, decide_eq_false_iff_not]; omega

theorem xoffState_lt {p : Nat} (h : p < 512) : F.BUF_ING_PORT_STATE_XOFF_STATE.key p < 0x400000 * 32 := by
  simp only [Fld.key, Fld.addr, F.BUF_ING_PORT_STATE_XOFF_STATE, A.BUF_ING_PORT_STATE]; omega

theorem RegsIf.foldl {s : State} {p : Nat → Bool} {α : Type} {f : State → α → State} {l : List α}
    (h : ∀ (t : State), ∀ x ∈ l, RegsIf t (f t x) p) : RegsIf s (List.foldl f s l) p := by
  induction l generalizing s with
  | nil => exact .refl
  | cons x l ih => exact (h s x List.mem_cons_self).trans (ih fun t y hy => h t y (List.mem_cons_of_mem x hy))

theorem RegsIf.hand_fromSeats (t : State) (r : Record) : RegsIf t (t.hand r) fromSeats := fun f n hf =>
  t.rd_hand r f n (fun he => by rw [← he] at hf; exact absurd hf (by decide))

theorem RegsIf.sendFlow (t : State) (p ended : Nat) : RegsIf t (t.sendFlow p ended) fromSeats := by
  unfold State.sendFlow
  split
  · exact .of_regs rfl
  · exact .refl

theorem RegsIf.flowTransition (t : State) {p : Nat} (hp : p < 512) (c : Nat) (xoff : Bool) :
    RegsIf t (t.flowTransition p c xoff) fromSeats := by
  unfold State.flowTransition State.eventRec
  dsimp only
  refine .trans ?_ (RegsIf.sendFlow _ _ _)
  refine .trans ?_ (RegsIf.hand_fromSeats _ _)
  refine .trans (RegsIf.wr t _ (fromSeats_of_lt (xoffState_lt hp))) (.of_regs rfl)

theorem RegsIf.flowClass (t : State) {p : Nat} (hp : p < 512) (c : Nat) (forced : Bool) :
    RegsIf t (t.flowClass p c forced) fromSeats := by
  unfold State.flowClass
  dsimp only
  split
  · exact RegsIf.flowTransition t hp _ _
  · split
    · exact RegsIf.flowTransition t hp _ _
    · exact .refl

/-- Only the ports of the front panel have lossless classes (R208). -/
theorem RegsIf.flowCheck (t : State) (p : Nat) : RegsIf t (t.flowCheck p) fromSeats := by
  unfold State.flowCheck
  by_cases hp : p < 512
  · exact .foldl fun s c _ => RegsIf.flowClass s hp c false
  · have hnone : t.losslessClasses p = [] := if_pos (Nat.le_of_not_lt hp)
    rw [hnone]
    exact .refl

theorem RegsIf.refreshBuf (t : State) : RegsIf t t.refreshBuf fromSeats := by
  unfold State.refreshBuf
  have h : RegsIf t ((((t.wr F.BUF_STATUS_ACTIVE_CELLS 0 t.activeCells).wr F.BUF_FREE_CELLS 0
      (t.wr F.BUF_STATUS_ACTIVE_CELLS 0 t.activeCells).freeCells).wr F.BUF_SHARED_USED 0
      (t.wr F.BUF_STATUS_ACTIVE_CELLS 0 t.activeCells).sharedUsed).wr F.BUF_SHARED_TOTAL_TOTAL 0
      (t.wr F.BUF_STATUS_ACTIVE_CELLS 0 t.activeCells).sharedTotal) fromSeats :=
    ((((RegsIf.wr _ _ (by decide)).trans (.wr _ _ (by decide))).trans (.wr _ _ (by decide))).trans (.wr _ _ (by decide)))
  dsimp only
  generalize (State.wr _ F.BUF_SHARED_TOTAL_TOTAL 0 _) = u at h ⊢
  have hearly : RegsIf u ((u.setBuf (fun b => { b with early := true })).raiseBits F.BUF_INT_STATUS_GLOBAL_EW 0 1) fromSeats :=
    .trans (.of_regs rfl) (.trans (.wr (u.setBuf (fun b => { b with early := true })) _ (by decide)) (.of_regs rfl))
  split
  · refine .trans (h.trans hearly) (.foldl fun s p _ => RegsIf.flowCheck s p)
  · split
    · refine .trans (h.trans (.of_regs rfl)) (.foldl fun s p _ => RegsIf.flowCheck s p)
    · exact h

theorem RegsIf.loadPools (t : State) : RegsIf t t.loadPools fromSeats := by
  have hkeys : ∀ c ∈ List.range 4, fromSeats (F.BUF_POOL_COUNT_COUNT.key c) = false ∧ fromSeats (F.BUF_POOL_FREE_FREE.key c) = false := by
    decide
  unfold State.loadPools
  dsimp only
  split
  all_goals
    refine RegsIf.trans (.foldl fun s c hc => ?_) (.of_regs rfl)
    exact (RegsIf.wr _ _ (hkeys c hc).1).trans (.wr _ _ (hkeys c hc).2)

theorem RegsIf.warmPools (t : State) : RegsIf t t.warmPools fromSeats := by
  unfold State.warmPools State.clampPins State.showBank
  dsimp only
  refine .trans ?_ (.wr _ _ (by decide))
  refine .trans ?_ (.wr _ _ (by decide))
  refine .trans ?_ (.wr _ _ (by decide))
  refine .trans ?_ (RegsIf.refreshBuf _)
  exact (RegsIf.loadPools t).trans (.wr _ _ (by decide))

theorem resetSeen_apart : ∀ e k : Fin 4, ∀ x ∈ seatFields k.val, x.1.key x.2 ≠ F.CMD_SEAT_STATUS_RESET_SEEN.key e.val := by decide

theorem resetSeen_ne : ∀ k e : Fin 4, k ≠ e → F.CMD_SEAT_STATUS_RESET_SEEN.key k.val ≠ F.CMD_SEAT_STATUS_RESET_SEEN.key e.val := by
  decide

theorem State.showReset_seen (t : State) (e : Nat) : (t.showReset e).on F.CMD_SEAT_STATUS_RESET_SEEN e = true := State.on_wr_one _ _ _ rfl

/-- Another seat's RESET_SEEN leaves this one's. -/
theorem State.showReset_seen_of_seen (t : State) (e k : Fin 4) (h : t.on F.CMD_SEAT_STATUS_RESET_SEEN e.val = true) :
    (t.showReset k).on F.CMD_SEAT_STATUS_RESET_SEEN e.val = true := by
  by_cases hk : k = e
  · rw [hk]; exact t.showReset_seen e
  · rw [State.showReset, State.on_wr_other _ _ _ (resetSeen_ne k e hk), (RegsBut.showSeat t k).on (resetSeen_apart e k)]
    exact h

theorem State.showResets_seen (t : State) (e : Fin 4) :
    ((List.range 4).foldl State.showReset t).on F.CMD_SEAT_STATUS_RESET_SEEN e.val = true := by
  have hseen : ((List.finRange 4).foldl (fun (s : State) (k : Fin 4) => s.showReset k.val) t).on F.CMD_SEAT_STATUS_RESET_SEEN e.val = true :=
    foldl_brings (I := fun _ => True) (P := fun s : State => s.on F.CMD_SEAT_STATUS_RESET_SEEN e.val = true) (fun _ _ _ => trivial)
      (fun s k _ hs => State.showReset_seen_of_seen s e k hs) (fun s _ => State.showReset_seen s e.val) (List.mem_finRange e) trivial
  exact hseen

theorem State.warmReset_seen (e : Fin 4) : s.warmReset.on F.CMD_SEAT_STATUS_RESET_SEEN e.val = true := by
  rw [s.warmReset_eq, (RegsIf.warmPools _).on (by revert e; decide)]
  exact State.showResets_seen _ e

end

end Sys2Proof.Machine
end

section
/-! SYSRST_N recognised and released (R551, R552). -/

namespace Sys2Proof.Machine

section
variable (s : State)

/-! ### Recognition -/

/-- The reset that SW_RESET asked for falls due. -/
def State.swDue : Bool := match s.pins.swAt with | some t => decide (t < s.now) | none => false

/-- The part once the causes of a reset are told. -/
def State.resetEntered (pin due : Bool) : State :=
  let t := if s.pins.sysrst then s else s.warmReset
  let t := if pin then t.noteCause F.SYS_RESET_CAUSE_SYSRST_PIN else t
  if due then t.noteCause F.SYS_RESET_CAUSE_SW_RESET else t

/-- The pins once a reset is recognised. -/
def Pins.asserted (p : Pins) (pin due : Bool) : Pins :=
  { p with sysrst := true, sysPin := p.sysPin || pin, swUntil := if due then p.swAt.map (fun t => t + 801) else p.swUntil
           swAt := if due then none else p.swAt }

theorem exec_sysrstNAssert_eq (pin : Bool) : exec (.sysrstNAssert pin) s =
    .next (if !s.pins.porst && s.on F.TIM_STATUS_RUN && (pin || s.swDue) then
      { s.when true (fun t => t.resetEntered pin s.swDue) with pins := s.pins.asserted pin s.swDue } else s) := rfl

theorem exec_sysrstNAssert {s : State} {pin due : Bool} (hp : s.pins.porst = false) (hr : s.on F.TIM_STATUS_RUN = true)
    (hd : s.swDue = due) (h : (pin || due) = true) : exec (.sysrstNAssert pin) s =
    .next { s.resetEntered pin due with pending := s.pending, pins := s.pins.asserted pin due } := by
  rw [exec_sysrstNAssert_eq, hp, hr, hd, h]
  rfl

/-- The registers of the first blocks that SYSRST_N keeps, but for what it tells of itself. -/
theorem State.rd_warmReset {f : Fld} {n : Nat} (hk : keptBySysrst (f.key n) = true) (hf : inFirstBlocks (f.key n) = true)
    (hw : ∀ x ∈ warmFields, x.1.key x.2 ≠ f.key n) : s.warmReset.rd f n = s.rd f n := by
  rw [s.warmReset_beyond.regs f n hf, RegsBut.warmMarks _ _ _ f n hw, s.rd_warmUnits hk hf]

theorem State.warmReset_pending : s.warmReset.on F.TIM_STEP_CTRL_PENDING = false := by
  rw [s.warmReset_beyond.regs.on (by decide)]
  exact State.warmMarks_pending _ _ _

theorem State.warmReset_cal (h : s.tsu.cal.isSome = true) : s.warmReset.rd F.TSU_CAL_STATUS_RESULT = 3 ∧
    s.warmReset.on F.TSU_CAL_STATUS_DONE = true ∧ s.warmReset.on F.TSU_INT_STATUS_CAL_FAIL = true := by
  have hb := s.warmReset_beyond.regs
  rw [h] at hb
  obtain ⟨hres, hdone, hfail⟩ := s.warmUnits.warmMarks_cal s.reloadDue
  exact ⟨(hb _ _ (by decide)).trans hres, (hb.on (by decide)).trans hdone, (hb.on (by decide)).trans hfail⟩

theorem resetCause_apart (e : Fin 4) : ∀ x ∈ [(F.SYS_RESET_CAUSE_SYSRST_PIN, 0)], x.1.key x.2 ≠ F.CMD_SEAT_STATUS_RESET_SEEN.key e.val := by
  revert e; decide

theorem Cmd.cleared_seat (c : Cmd) (e : Nat) : (nth c.cleared.seats e {}).cmdFifo = [] ∧ (nth c.cleared.seats e {}).replyFifo = [] := by
  simp only [Cmd.cleared, nth, List.getD_eq_getElem?_getD, List.getElem?_map]
  cases c.seats[e]? with
  | none => exact ⟨rfl, rfl⟩
  | some x => exact ⟨rfl, rfl⟩

/-! ### Release -/

theorem State.takeRecord_frame (r : Record) :
    s.takeRecord r = { s with evr := (s.takeRecord r).evr, cntTick := (s.takeRecord r).cntTick } := by
  unfold State.takeRecord
  dsimp only
  split
  · unfold State.when
    split
    · rfl
    · rfl
  · unfold State.enter
    split
    · rfl
    · rfl

theorem State.takeRecord_held (r : Record) : (s.takeRecord r).evr.held = s.evr.held := by
  unfold State.takeRecord
  dsimp only
  split
  · unfold State.when
    split
    · rfl
    · rfl
  · unfold State.enter
    split
    · rfl
    · rfl

/-- The Recorder resumes: nothing but the evidence and the counts moves. -/
theorem State.resumeEvidence_frame :
    s.resumeEvidence = { s with evr := s.resumeEvidence.evr, cntTick := s.resumeEvidence.cntTick } := by
  unfold State.resumeEvidence
  dsimp only
  split
  · rw [State.takeRecord_frame, State.takeRecord_frame (s.setEvr _)]
    rfl
  · rfl

theorem State.resumeEvidence_held : s.resumeEvidence.evr.held = false := by
  unfold State.resumeEvidence
  dsimp only
  split
  · rw [State.takeRecord_held, State.takeRecord_held]
    rfl
  · rfl

theorem State.resume_of_none (ho : s.evr.opened.isNone = true) (hi : s.idn.image.isNone = true) :
    s.resume = { s with evr := { s.evr with held := false } } := by
  have ho' : (s.setEvr (fun e => { e with held := false })).evr.opened = none := Option.isNone_iff_eq_none.mp ho
  have he : s.resumeEvidence = { s with evr := { s.evr with held := false } } := by
    rw [State.resumeEvidence]
    dsimp only
    rw [ho']
    rfl
  have hi' : s.idn.image = none := Option.isNone_iff_eq_none.mp hi
  rw [State.resume, he]
  simp only [hi', Option.isSome_none, Bool.false_eq_true, if_false]

/-- The cores before their first microword, their stores kept (R473). -/
def State.coresFresh : State :=
  { s with drafen := { s.drafen with cores := s.drafen.cores.map (fun x => { micro := x.micro, nano := x.nano, failures := x.failures }) } }

/-- Both cores run: the first active, the second standby, each at address 0 with its stores (R472, R473). -/
def State.coresRun : State :=
  ((((s.wr F.CMD_CORE_STATUS_CORE0 0 0).wr F.CMD_CORE_STATUS_CORE1 0 1).wr F.CMD_CORE_STATUS_ACTIVE_CORE 0 0).coresFresh.wr
    F.CMD_CORE_STATUS_READY 0 1).wr F.SYS_BOOT_STATUS_DRAFEN_READY 0 1

theorem RegsBut.coresFresh (l : List (Fld × Nat)) : RegsBut s s.coresFresh l := .of_regs rfl

theorem State.startCores_of_ok (h0 : s.rd (coreFld 0) ≠ 3) (h1 : s.rd (coreFld 1) ≠ 3) : s.startCores true true = s.coresRun := by
  have e0 : (s.rd (coreFld 0) != 3) = true := by simp [h0]
  have e1 : (s.rd (coreFld 1) != 3) = true := by simp [h1]
  rw [State.startCores]
  simp only [e0, e1]
  rfl

theorem State.coresRun_reads : s.coresRun.on F.CMD_CORE_STATUS_READY = true ∧ s.coresRun.rd (coreFld 0) = 0 ∧ s.coresRun.rd (coreFld 1) = 1 := by
  have h : RegsBut ((s.wr F.CMD_CORE_STATUS_CORE0 0 0).wr F.CMD_CORE_STATUS_CORE1 0 1) s.coresRun
      [(F.CMD_CORE_STATUS_ACTIVE_CORE, 0), (F.CMD_CORE_STATUS_READY, 0), (F.SYS_BOOT_STATUS_DRAFEN_READY, 0)] :=
    (((RegsBut.refl.wr 0 (by simp)).trans (RegsBut.coresFresh _ _)).wr 1 (by simp)).wr 1 (by simp)
  refine ⟨?_, ?_, ?_⟩
  · rw [State.coresRun, State.on_wr_other _ _ _ (by decide)]
    exact State.on_wr_one _ _ _ rfl
  · refine (h F.CMD_CORE_STATUS_CORE0 0 (by decide)).trans ?_
    rw [State.rd_wr_other _ _ _ (by decide), State.rd_wr_same]
    rfl
  · refine (h F.CMD_CORE_STATUS_CORE1 0 (by decide)).trans ?_
    rw [State.rd_wr_same]
    rfl

theorem State.resume_eq (hi : s.idn.image.isSome = true) (h0 : s.rd (coreFld 0) ≠ 3) (h1 : s.rd (coreFld 1) ≠ 3) :
    s.resume = s.resumeEvidence.coresRun := by
  have hregs : s.resumeEvidence.regs = s.regs := by rw [s.resumeEvidence_frame]
  have hidn : s.resumeEvidence.idn = s.idn := by rw [s.resumeEvidence_frame]
  rw [State.resume, hidn, if_pos hi]
  refine State.startCores_of_ok _ ?_ ?_
  · rwa [State.rd_congr hregs]
  · rwa [State.rd_congr hregs]

theorem exec_sysrstNRelease {s : State} {pin : Bool} (hp : s.pins.porst = false) (hr : s.pins.sysrst = true) :
    exec (.sysrstNRelease pin) s =
      .next { s.when (!(s.pins.released pin s.now).sysrst) State.resume with pins := s.pins.released pin s.now } := by
  have h : exec (.sysrstNRelease pin) s = .next (if !s.pins.porst && s.pins.sysrst then
      { s.when (!(s.pins.released pin s.now).sysrst) State.resume with pins := s.pins.released pin s.now } else s) := rfl
  rw [h, hp, hr]
  rfl

theorem Pins.released_pin (p : Pins) (now : Nat) : p.released true now =
    { p with sysPin := false, swUntil := p.swUntil.filter (fun u => decide (now < u)), sysrst := (p.swUntil.filter (fun u => decide (now < u))).isSome } := by
  have h : (match p.swUntil with | some t => if t ≤ now then none else some t | none => none) =
      p.swUntil.filter (fun u => decide (now < u)) := by
    cases p.swUntil with
    | none => rfl
    | some t =>
      by_cases ht : t ≤ now
      · simp [ht, Option.filter]
      · simp [ht, Option.filter, Nat.lt_of_not_le ht]
  rw [← h]
  simp only [Pins.released, Bool.not_true, Bool.and_false, Bool.false_or] <;> rfl

end

end Sys2Proof.Machine

namespace Sys2Proof.Proofs
open Sys2Proof.Machine

theorem sysrstNAssert_resets (s : State) (e : Fin 4) (h : s.pins.porst = false ∧ s.pins.sysrst = false ∧ s.on F.TIM_STATUS_RUN = true ∧
      s.pins.swAt = none ∧ s.cmd.seats.length = 4) :
    Completes (.sysrstNAssert true) s (fun t => t.pins = { s.pins with sysrst := true, sysPin := true } ∧ t.live = false ∧ t.on F.SYS_RESET_CAUSE_SYSRST_PIN = true ∧ t.tim.canopy = s.tim.canopy ∧
    t.tim.params = s.tim.params ∧ t.tim.armedRate = none ∧ t.tim.armedStep = none ∧ t.tim.servoStep = none ∧ t.on F.TIM_STEP_CTRL_PENDING = false ∧
    (s.tsu.cal.isSome = true → t.rd F.TSU_CAL_STATUS_RESULT = 3 ∧ t.on F.TSU_CAL_STATUS_DONE = true ∧ t.on F.TSU_INT_STATUS_CAL_FAIL = true) ∧ t.cnt = s.cnt ∧ t.flt.main = s.flt.main ∧ t.flt.pipes = s.flt.pipes ∧ t.qsg = {} ∧ t.tbl = {} ∧ t.chk = [] ∧
    t.fwd.pipe = [] ∧ t.cmd.txns = [] ∧ t.cmd.flights = [] ∧ (t.seat e.val).cmdFifo = [] ∧ (t.seat e.val).replyFifo = [] ∧
    t.on F.CMD_SEAT_STATUS_RESET_SEEN e.val = true ∧ t.drafen.routine = none ∧
    t.drafen.cores.map (fun c => (c.micro, c.nano, c.pc)) = s.drafen.cores.map (fun c => (c.micro, c.nano, 0)) ∧ t.pending = s.pending) := by
  obtain ⟨hp, hs, hr, hsw, -⟩ := h
  have hdue : s.swDue = false := by rw [State.swDue, hsw]
  have hent : s.resetEntered true false = s.warmReset.noteCause F.SYS_RESET_CAUSE_SYSRST_PIN := by
    rw [State.resetEntered, hs]; rfl
  have hpins : s.pins.asserted true false = { s.pins with sysrst := true, sysPin := true } := by
    simp only [Pins.asserted, Bool.or_true, Bool.false_eq_true, if_false]
  have hstep := exec_sysrstNAssert hp hr hdue (pin := true) rfl
  rw [hent, hpins] at hstep
  refine ⟨_, hstep, ?_⟩
  have htim := congrArg Parts.tim s.warmReset_parts
  have hcnt := congrArg Parts.cnt s.warmReset_parts
  have hmain := congrArg Parts.main s.warmReset_parts
  have hpipes := congrArg Parts.pipes s.warmReset_parts
  have hqsg := congrArg Parts.qsg s.warmReset_parts
  have htbl := congrArg Parts.tbl s.warmReset_parts
  have hchk := congrArg Parts.chk s.warmReset_parts
  have hfwd := congrArg Parts.fwd s.warmReset_parts
  have hcmd := congrArg Parts.cmd s.warmReset_parts
  have hdrafen := congrArg Parts.drafen s.warmReset_parts
  have hseen := s.warmReset_seen e
  have hpending := s.warmReset_pending
  have hcal := s.warmReset_cal
  generalize s.warmReset = w at htim hcnt hmain hpipes hqsg htbl hchk hfwd hcmd hdrafen hseen hpending hcal ⊢
  have hregs : RegsBut w (w.noteCause F.SYS_RESET_CAUSE_SYSRST_PIN) [(F.SYS_RESET_CAUSE_SYSRST_PIN, 0)] := RegsBut.refl.wr 1 (by simp)
  have hon := State.on_wr_one w F.SYS_RESET_CAUSE_SYSRST_PIN 0 rfl
  have hcal' : s.tsu.cal.isSome = true → (w.noteCause F.SYS_RESET_CAUSE_SYSRST_PIN).rd F.TSU_CAL_STATUS_RESULT = 3 ∧
      (w.noteCause F.SYS_RESET_CAUSE_SYSRST_PIN).on F.TSU_CAL_STATUS_DONE = true ∧
      (w.noteCause F.SYS_RESET_CAUSE_SYSRST_PIN).on F.TSU_INT_STATUS_CAL_FAIL = true := fun h => by
    obtain ⟨hres, hdone, hfail⟩ := hcal h
    exact ⟨(hregs _ _ (by decide)).trans hres, (hregs.on (by decide)).trans hdone, (hregs.on (by decide)).trans hfail⟩
  have hpending' := (hregs.on (f := F.TIM_STEP_CTRL_PENDING) (n := 0) (by decide)).trans hpending
  have hseen' := (hregs.on (f := F.CMD_SEAT_STATUS_RESET_SEEN) (n := e.val) (resetCause_apart e)).trans hseen
  obtain ⟨hcmdFifo, hreplyFifo⟩ := s.cmd.cleared_seat e.val
  have hcmd' : w.cmd = s.cmd.cleared := hcmd
  have hdrafen' : w.drafen = { cores := s.drafen.cores.map (fun c => { micro := c.micro, nano := c.nano, failures := c.failures }) } := hdrafen
  exact ⟨rfl, by simp [State.live], hon, (congrArg Tim.canopy htim :), (congrArg Tim.params htim :), (congrArg Tim.armedRate htim :),
    (congrArg Tim.armedStep htim :), (congrArg Tim.servoStep htim :), hpending', hcal', hcnt, hmain, hpipes, hqsg, htbl, hchk,
    (congrArg Fwd.pipe hfwd :), (congrArg Cmd.txns hcmd :), (congrArg Cmd.flights hcmd :),
    (congrArg (fun c : Cmd => (nth c.seats e.val {}).cmdFifo) hcmd').trans hcmdFifo,
    (congrArg (fun c : Cmd => (nth c.seats e.val {}).replyFifo) hcmd').trans hreplyFifo, hseen', (congrArg Drafen.routine hdrafen' :),
    (congrArg (fun d : Drafen => d.cores.map (fun c => (c.micro, c.nano, c.pc))) hdrafen').trans (by simp), rfl⟩

theorem sysrstNAssert_during (s : State) (h : s.pins.porst = false ∧ s.pins.sysrst = true ∧ s.on F.TIM_STATUS_RUN = true ∧
      s.pins.swAt = none) :
    Completes (.sysrstNAssert true) s (fun t => t.pins = { s.pins with sysPin := true } ∧ t.on F.SYS_RESET_CAUSE_SYSRST_PIN = true ∧
    RegsBut s t [(F.SYS_RESET_CAUSE_SYSRST_PIN, 0)] ∧ t = { s with regs := t.regs, pins := t.pins }) := by
  obtain ⟨hp, hs, hr, hsw⟩ := h
  have hdue : s.swDue = false := by rw [State.swDue, hsw]
  have hent : s.resetEntered true false = s.noteCause F.SYS_RESET_CAUSE_SYSRST_PIN := by rw [State.resetEntered, hs]; rfl
  have hpins : s.pins.asserted true false = { s.pins with sysPin := true } := by
    rw [← hs]
    simp only [Pins.asserted, Bool.or_true, Bool.false_eq_true, if_false, hs]
  have hstep := exec_sysrstNAssert hp hr hdue (pin := true) rfl
  rw [hent, hpins] at hstep
  have hregs : RegsBut s (s.noteCause F.SYS_RESET_CAUSE_SYSRST_PIN) [(F.SYS_RESET_CAUSE_SYSRST_PIN, 0)] := RegsBut.refl.wr 1 (by simp)
  exact ⟨_, hstep, rfl, State.on_wr_one s F.SYS_RESET_CAUSE_SYSRST_PIN 0 rfl, hregs.congr rfl, rfl⟩

theorem sysrstNAssert_sw (s : State) (u : Nat) (h : s.pins.porst = false ∧ s.pins.sysrst = false ∧ s.on F.TIM_STATUS_RUN = true ∧
      s.pins.swAt = some u ∧ u < s.now) :
    Completes (.sysrstNAssert false) s (fun t => t.pins = { s.pins with sysrst := true, swAt := none, swUntil := some (u + 801) } ∧
    t.on F.SYS_RESET_CAUSE_SW_RESET = true ∧ t.on F.SYS_RESET_CAUSE_SYSRST_PIN = s.on F.SYS_RESET_CAUSE_SYSRST_PIN ∧ t.qsg = {} ∧
    t.tim.canopy = s.tim.canopy) := by
  obtain ⟨hp, hs, hr, hsw, hu⟩ := h
  have hdue : s.swDue = true := by rw [State.swDue, hsw]; exact decide_eq_true hu
  have hent : s.resetEntered false true = s.warmReset.noteCause F.SYS_RESET_CAUSE_SW_RESET := by rw [State.resetEntered, hs]; rfl
  have hpins : s.pins.asserted false true = { s.pins with sysrst := true, swAt := none, swUntil := some (u + 801) } := by
    simp only [Pins.asserted, Bool.or_false, if_true, hsw, Option.map_some]
  have hstep := exec_sysrstNAssert hp hr hdue (pin := false) rfl
  rw [hent, hpins] at hstep
  have htim := congrArg Parts.tim s.warmReset_parts
  have hqsg := congrArg Parts.qsg s.warmReset_parts
  have hpin := s.rd_warmReset (f := F.SYS_RESET_CAUSE_SYSRST_PIN) (n := 0) (by decide) (by decide) (by decide)
  generalize s.warmReset = w at hstep htim hqsg hpin
  have hregs : RegsBut w (w.noteCause F.SYS_RESET_CAUSE_SW_RESET) [(F.SYS_RESET_CAUSE_SW_RESET, 0)] := RegsBut.refl.wr 1 (by simp)
  have hpin' : w.on F.SYS_RESET_CAUSE_SYSRST_PIN = s.on F.SYS_RESET_CAUSE_SYSRST_PIN := congrArg (· == 1) hpin
  exact ⟨_, hstep, rfl, State.on_wr_one w F.SYS_RESET_CAUSE_SW_RESET 0 rfl, (hregs.on (by decide)).trans hpin', hqsg,
    (congrArg Tim.canopy htim :)⟩

theorem sysrstNAssert_idle (s : State) (h : s.pins.porst = true ∨ (s.pins.sysrst = false ∧ s.pins.swAt = none)) :
    Completes (.sysrstNAssert false) s (fun t => t = s) := by
  have hcond : (!s.pins.porst && s.on F.TIM_STATUS_RUN && (false || s.swDue)) = false := by
    obtain hp | ⟨-, hsw⟩ := h
    · rw [hp]; rfl
    · rw [State.swDue, hsw, Bool.or_false, Bool.and_false]
  refine ⟨s, ?_, rfl⟩
  rw [exec_sysrstNAssert_eq, hcond]
  rfl

theorem sysrstNRelease_pin (s : State) (h : s.pins.porst = false ∧ s.pins.sysrst = true) :
    let sw := s.pins.swUntil.filter (fun u => decide (s.now < u))
    Completes (.sysrstNRelease true) s (fun t => t.pins = { s.pins with sysPin := false, swUntil := sw, sysrst := sw.isSome } ∧
    (sw.isSome = true → t = { s with pins := t.pins }) ∧
    (sw.isSome = false ∧ s.evr.opened.isNone = true ∧ s.idn.image.isNone = true →
      t = { s with pins := t.pins, evr := { s.evr with held := false } })) := by
  intro sw
  have hstep := exec_sysrstNRelease (pin := true) h.1 h.2
  rw [Pins.released_pin] at hstep
  refine ⟨_, hstep, rfl, fun hsw => ?_, fun ⟨hsw, hopened, himage⟩ => ?_⟩
  · have hwhen := State.when_false s (b := !sw.isSome) (by rw [hsw]; rfl) State.resume
    exact congrArg (fun x : State => { x with pins := { s.pins with sysPin := false, swUntil := sw, sysrst := sw.isSome } }) hwhen
  · have hwhen := State.when_true s (b := !sw.isSome) (by rw [hsw]; rfl) State.resume
    have hresume : s.resume = { s with evr := { s.evr with held := false } } := s.resume_of_none hopened himage
    rw [hresume] at hwhen
    exact congrArg (fun x : State => { x with pins := { s.pins with sysPin := false, swUntil := sw, sysrst := sw.isSome } }) hwhen

theorem sysrstNRelease_resumes (s : State) (h : s.pins.porst = false ∧ s.pins.sysrst = true ∧ s.pins.swUntil = none ∧ s.idn.image.isSome = true)
    (hcores : s.rd (coreFld 0) ≠ 3 ∧ s.rd (coreFld 1) ≠ 3) :
    Completes (.sysrstNRelease true) s (fun t => t.pins = { s.pins with sysPin := false, sysrst := false } ∧ t.on F.CMD_CORE_STATUS_READY = true ∧
    t.rd (coreFld 0) = 0 ∧ t.rd (coreFld 1) = 1 ∧
    t.drafen.cores.map (fun c => (c.micro, c.nano, c.pc)) = s.drafen.cores.map (fun c => (c.micro, c.nano, 0)) ∧ t.evr.held = false ∧ t.flt = s.flt) := by
  obtain ⟨hp, hs, hsw, himage⟩ := h
  have hrel : s.pins.released true s.now = { s.pins with sysPin := false, sysrst := false } := by
    simp only [Pins.released_pin, hsw, Option.filter_none, Option.isSome_none]
  have hstep : exec (.sysrstNRelease true) s =
      .next { s.inside s.resumeEvidence.coresRun with pins := { s.pins with sysPin := false, sysrst := false } } := by
    simp only [exec_sysrstNRelease hp hs, hrel, Bool.not_false, State.when_true s rfl, s.resume_eq himage hcores.1 hcores.2]
  refine ⟨_, hstep, ?_⟩
  have hheld := s.resumeEvidence_held
  have hdrafen : s.resumeEvidence.drafen = s.drafen := by rw [s.resumeEvidence_frame]
  have hflt : s.resumeEvidence.flt = s.flt := by rw [s.resumeEvidence_frame]
  generalize s.resumeEvidence = u at hheld hdrafen hflt
  obtain ⟨hready, h0, h1⟩ := u.coresRun_reads
  refine ⟨rfl, hready, h0, h1, ?_, hheld, hflt⟩
  rw [← hdrafen]
  exact List.map_map ..

end Sys2Proof.Proofs
end

section
/-! The software reset (R551, R559): a write of SYS.SW_RESET, which keeps nothing of what it is written. -/

namespace Sys2Proof.Machine

/-- SYS.SW_RESET. -/
def swResetReg : RegD := ⟨"SYS.SW_RESET", A.SYS_SW_RESET, .seat0, .whole, [fd F.SYS_SW_RESET_KEY .wo .l, fd F.SYS_SW_RESET_GO .wo .l]⟩

/-- The word that SW_RESET writes, and the bits that it writes. -/
def swResetWord (key : Nat) : Nat := sumOf [(F.SYS_SW_RESET_KEY, key), (F.SYS_SW_RESET_GO, 1)] (fun y => y.1.place y.2)
def swResetMask : Nat := sumOf [(F.SYS_SW_RESET_KEY, 0), (F.SYS_SW_RESET_GO, 1)] (fun y => y.1.ones)

theorem swResetWord_key : ∀ k : Fin 256, F.SYS_SW_RESET_KEY.part (swResetWord k.val &&& swResetMask) = k.val := by decide +kernel

theorem swResetWord_go : ∀ k : Fin 256, F.SYS_SW_RESET_GO.hit swResetMask (swResetWord k.val) = true := by decide +kernel

section
variable (s : State) (mask value : Nat)

theorem State.written_writeOnly {d : FieldD} (h : d.acc = .wo) (n : Nat) : s.written d n mask value = s.rd d.fld n := by
  simp only [State.written, h, ite_self]

/-- A register of write-only fields keeps nothing of a write. -/
theorem State.poke_writeOnly {r : RegD} (h : ∀ d ∈ r.fields, d.acc = .wo) (n : Nat) : s.poke r n mask value = s := by
  have hacc : ∀ d ∈ s.fieldsOf r n, d.acc = .wo := fun d hd => h d (State.mem_of_mem_fieldsOf hd)
  have hkeep : ∀ l : List FieldD, (∀ d ∈ l, d.acc = .wo) → l.foldl (fun t d =>
      if s.written d n mask value = s.rd d.fld n then t else t.wr d.fld n (s.written d n mask value)) s = s := by
    intro l hl
    induction l with
    | nil => rfl
    | cons d l ih =>
      rw [List.foldl_cons, if_pos (s.written_writeOnly mask value (hl d List.mem_cons_self) n)]
      exact ih fun d hd => hl d (List.mem_cons_of_mem _ hd)
  have hnone : (s.fieldsOf r n).filter (fun d => d.acc == .rw && d.fld.part mask != 0) = [] :=
    List.filter_eq_nil_iff.mpr fun d hd => by simp [hacc d hd]
  rw [State.poke, hnone, hkeep _ hacc]
  rfl

theorem State.outOfRange_writeOnly {d : FieldD} (h : d.acc = .wo) (n : Nat) : s.outOfRange d n mask value = false := by
  simp [State.outOfRange, h]

/-- What a write of SW_RESET comes to: with its key and GO the reset is asked for (R551). -/
theorem State.tryWord_swReset (hh : s.wordHeld 0 (F.SYS_SW_RESET_GO.addr 0) = false) :
    s.tryWord s 0 0 (pure ()) ⟨F.SYS_SW_RESET_KEY.addr 0, mask, value⟩ =
      .ok (.l, if F.SYS_SW_RESET_KEY.part (value &&& mask) = 0xA5 ∧ F.SYS_SW_RESET_GO.hit mask value then s.askReset else s) := by
  have hwo : ∀ d ∈ swResetReg.fields, d.acc = .wo := by decide
  have hc := s.classOf_live (r := swResetReg) (by decide) 0 mask value
  have hf : findReg (F.SYS_SW_RESET_KEY.addr 0) = some (swResetReg, 0) := findReg_SYS_SW_RESET
  have hb : s.sharedBase swResetReg 0 = false := by
    rw [State.sharedBase, beq_eq_false_iff_ne.mpr (by decide), Bool.false_and, Bool.false_and]
  have ha : s.applyWord 0 ⟨F.SYS_SW_RESET_KEY.addr 0, mask, value⟩ =
      .ok (if F.SYS_SW_RESET_KEY.part (value &&& mask) = 0xA5 ∧ F.SYS_SW_RESET_GO.hit mask value then s.askReset else s) := by
    simp only [State.applyWord, hf, hb, Bool.false_eq_true, if_false, s.poke_writeOnly mask value hwo]
    rfl
  rw [← hc]
  refine State.tryWord_ok hf rfl (fun h => by rw [hc] at h; cases h) hh ?_ rfl ha
  exact List.all_eq_true.mpr fun d hd => by rw [s.outOfRange_writeOnly mask value (hwo d (State.mem_of_mem_fieldsOf hd)) 0]; rfl

end

end Sys2Proof.Machine

namespace Sys2Proof.Proofs
open Sys2Proof.Machine

theorem exec_swReset (s : State) (key : BitVec 8) :
    exec (.swReset 0 key) s = .next (s.seatWrite 0 (F.SYS_SW_RESET_KEY.addr 0) (swResetWord key.toNat) swResetMask) := rfl

/-- With its key, SW_RESET asks for the reset and sends no reply (R551, R559). -/
theorem swReset_asks (s : State) (key : BitVec 8) (h : s.Free (F.SYS_SW_RESET_GO.addr 0) ∧ key = 0xA5) :
    Completes (.swReset 0 key) s (fun t => t.pins = { s.pins with swAt := some s.now } ∧ t.resp = s.resp ∧ t.qsg = s.qsg ∧
      RegsBut s t digestFields) := by
  obtain ⟨⟨hl, hh, h3⟩, rfl⟩ := h
  have hk : F.SYS_SW_RESET_KEY.part (swResetWord 0xA5 &&& swResetMask) = 0xA5 := swResetWord_key 0xA5
  have hg : F.SYS_SW_RESET_GO.hit swResetMask (swResetWord 0xA5) = true := swResetWord_go 0xA5
  have ht := s.tryWord_swReset swResetMask (swResetWord 0xA5) hh
  rw [if_pos ⟨hk, hg⟩] at ht
  have hd := State.writeDirect_now findReg_SYS_SW_RESET rfl ht (by decide) none
  have hw : s.seatWrite 0 (F.SYS_SW_RESET_KEY.addr 0) (swResetWord 0xA5) swResetMask =
      s.inside (s.wroteWord 0 (F.SYS_SW_RESET_KEY.addr 0) (swResetWord 0xA5) swResetMask s.askReset) := by
    have h3' : s.classThree = s := h3
    have hr : resetWrite ⟨F.SYS_SW_RESET_KEY.addr 0, swResetMask, swResetWord 0xA5⟩ = true := by decide +kernel
    rw [State.seatWrite, State.whenLive_true s hl]
    simp only [h3', hd, hr, if_true]
  have hstep : exec (.swReset 0 0xA5) s =
      .next (s.inside (s.wroteWord 0 (F.SYS_SW_RESET_KEY.addr 0) (swResetWord 0xA5) swResetMask s.askReset)) :=
    (exec_swReset s 0xA5).trans (congrArg Host.Outcome.next hw)
  refine ⟨_, hstep, ?_⟩
  have hregs := (RegsBut.wroteWord s 0 (F.SYS_SW_RESET_KEY.addr 0) (swResetWord 0xA5) swResetMask s.askReset)
  obtain ⟨m, i, he⟩ := s.wroteWord_eq 0 (F.SYS_SW_RESET_KEY.addr 0) (swResetWord 0xA5) swResetMask s.askReset
  rw [he] at hregs ⊢
  exact ⟨rfl, rfl, rfl, (RegsBut.of_regs rfl).trans (hregs.congr rfl)⟩

/-- With another key it answers OK and does nothing. -/
theorem swReset_otherKey (s : State) (key : BitVec 8) (h : s.Free (F.SYS_SW_RESET_GO.addr 0) ∧ key ≠ 0xA5) :
    Completes (.swReset 0 key) s (fun t => t.pins = s.pins ∧ t.resp = some ⟨.ok, []⟩ ∧ RegsBut s t digestFields) := by
  obtain ⟨⟨hl, hh, h3⟩, hne⟩ := h
  have hk : F.SYS_SW_RESET_KEY.part (swResetWord key.toNat &&& swResetMask) = key.toNat := swResetWord_key ⟨key.toNat, key.isLt⟩
  have hkne : key.toNat ≠ 0xA5 := fun he => hne (BitVec.eq_of_toNat_eq he)
  have ht := s.tryWord_swReset swResetMask (swResetWord key.toNat) hh
  rw [if_neg (fun hc => hkne (hk.symm.trans hc.1))] at ht
  have hd := State.writeDirect_now findReg_SYS_SW_RESET rfl ht (by decide) none
  have hr : resetWrite ⟨F.SYS_SW_RESET_KEY.addr 0, swResetMask, swResetWord key.toNat⟩ = false := by
    simp [resetWrite, hk, hkne]
  have hregs := RegsBut.wroteWord s 0 (F.SYS_SW_RESET_KEY.addr 0) (swResetWord key.toNat) swResetMask s
  refine ⟨_, by rw [exec_swReset, State.seatWrite_of_writeDirect hl h3 hd hr], ?_⟩
  obtain ⟨m, i, he⟩ := s.wroteWord_eq 0 (F.SYS_SW_RESET_KEY.addr 0) (swResetWord key.toNat) swResetMask s
  rw [he] at hregs ⊢
  exact ⟨rfl, rfl, hregs.congr rfl⟩

/-- Settles O51: the reset recognised, told again and asked for, its release, and SW_RESET. -/
theorem sysrstKeepsWhatTheTableKeeps : Obligations.SysrstKeepsWhatTheTableKeeps :=
  ⟨sysrstNAssert_resets, sysrstNAssert_during, sysrstNAssert_sw, sysrstNAssert_idle, sysrstNRelease_pin, sysrstNRelease_resumes,
    swReset_asks, swReset_otherKey⟩

end Sys2Proof.Proofs
end

section
/-! What only some commands change: the Canopy, the counters, the fuses and the latched faults. -/

namespace Sys2Proof.Machine

/-- The Canopy, the event counters and the fuses. -/
structure Lasting where
  canopy : Nat
  cnt : SMap
  ownerHash : Option Bytes
  rollback : Option Nat

/-- The Canopy, the event counters, the fuses and the latched faults of Collector MAIN. -/
structure Kept where
  lasting : Lasting
  latches : List Latch

/-- What only some commands change (clauses 3 to 6). -/
def State.kept (s : State) : Kept := ⟨⟨s.tim.canopy, s.cnt, s.idn.ownerHash, s.idn.rollback⟩, s.flt.main.latches⟩

/-- `kept` of a state written out, and its fields read back: for a record update whose base is itself a change of the state. -/
theorem State.kept_fields :
    (∀ regs prevRegs hwSet rwSet ran rcTick cnt cntTick cntReq tim tsu syn evr flt cmd drafen fwd buf qsg tbl mem lan csma chk trp pwr
        idn pins resp freeCount pending,
      State.kept ⟨regs, prevRegs, hwSet, rwSet, ran, rcTick, cnt, cntTick, cntReq, tim, tsu, syn, evr, flt, cmd, drafen, fwd, buf, qsg, tbl,
        mem, lan, csma, chk, trp, pwr, idn, pins, resp, freeCount, pending⟩ =
      ⟨⟨tim.canopy, cnt, idn.ownerHash, idn.rollback⟩, flt.main.latches⟩) ∧
    (∀ s : State, s.tim.canopy = s.kept.lasting.canopy) ∧ (∀ s : State, s.cnt = s.kept.lasting.cnt) ∧
    (∀ s : State, s.idn.ownerHash = s.kept.lasting.ownerHash) ∧ (∀ s : State, s.idn.rollback = s.kept.lasting.rollback) ∧
    (∀ s : State, s.flt.main.latches = s.kept.latches) := by
  refine ⟨?_, ?_, ?_, ?_, ?_, ?_⟩ <;> intros <;> rfl

@[simp] theorem State.kept_ite (c : Prop) [Decidable c] (s t : State) : (if c then s else t).kept = if c then s.kept else t.kept :=
  apply_ite _ _ _ _

@[simp] theorem State.foldl_kept {α : Type} (f : State → α → State) (h : ∀ s x, (f s x).kept = s.kept) (l : List α) (s : State) :
    (l.foldl f s).kept = s.kept := by
  induction l generalizing s with
  | nil => rfl
  | cons x l ih => rw [List.foldl_cons, ih, h]

/-- Every value that a check lets through satisfies P. -/
def Yields {ε α : Type} (r : Except ε α) (P : α → Prop) : Prop := ∀ x, r = .ok x → P x

section
variable {ε α β : Type} {P : α → Prop} {Q : β → Prop}

@[simp] theorem yields_ok (x : α) : Yields (.ok x : Except ε α) P ↔ P x := ⟨fun h => h x rfl, fun h y e => by cases e; exact h⟩
@[simp] theorem yields_pure (x : α) : Yields (pure x : Except ε α) P ↔ P x := yields_ok x
@[simp] theorem yields_error (e : ε) : Yields (.error e : Except ε α) P := nofun
@[simp] theorem yields_true (r : Except ε α) : Yields r (fun _ => True) := fun _ _ => trivial

@[simp] theorem yields_bind (r : Except ε α) (f : α → Except ε β) : Yields (r >>= f) Q ↔ Yields r (fun x => Yields (f x) Q) := by
  cases r with
  | ok x => exact (yields_ok (P := fun x => Yields (f x) Q) x).symm
  | error e => exact iff_of_true nofun nofun

@[simp] theorem yields_map (r : Except ε α) (f : α → β) : Yields (f <$> r) Q ↔ Yields r (fun x => Q (f x)) := by
  cases r with
  | ok x => exact (yields_ok (P := Q) (f x)).trans (yields_ok (P := fun x => Q (f x)) x).symm
  | error e => exact iff_of_true nofun nofun

@[simp] theorem yields_ite (c : Prop) [Decidable c] (r r' : Except ε α) :
    Yields (if c then r else r') P ↔ if c then Yields r P else Yields r' P := by split <;> rfl

@[simp] theorem yields_need (b : Bool) (e : Status) (P : Unit → Prop) : Yields (need b e) P ↔ (b = true → P ()) := by
  cases b
  · exact iff_of_true nofun nofun
  · exact (yields_ok ()).trans (by simp)

theorem Yields.mono {P' : α → Prop} {r : Except ε α} (h : Yields r P) (hP : ∀ x, P x → P' x) : Yields r P' := fun x e => hP x (h x e)

/-- What each round keeps, the loop keeps. -/
theorem yields_foldlM {f : α → β → Except ε α} (h : ∀ x y, P x → Yields (f x y) P) (l : List β) {x : α} (hx : P x) :
    Yields (l.foldlM f x) P := by
  induction l generalizing x with
  | nil => simpa using hx
  | cons y l ih =>
    rw [List.foldlM_cons, yields_bind]
    exact (h x y hx).mono fun x' hx' => ih hx'

end

@[simp] theorem State.inside_kept (s t : State) : (s.inside t).kept = t.kept := rfl

theorem State.settle_kept (s : State) (r : Except Status State) (h : Yields r (fun t => t.kept = s.kept)) : (s.settle r).kept = s.kept := by
  cases r with
  | ok t => exact h t rfl
  | error e => rfl

end Sys2Proof.Machine
end

section
/-! SUPPORT. What only some commands change, kept by the shared operations, and those of frames and the shared buffer.
`(rfl)` keeps the step in the proof of a condition that simp discharges, where `rfl` does not. -/

namespace Sys2Proof.Machine

@[simp] theorem State.wr_kept (s : State) (f : Fld) (n : Nat) (v : Nat) : (s.wr f n v).kept = s.kept := (rfl)
@[simp] theorem State.raiseBits_kept (s : State) (f : Fld) (n : Nat) (v : Nat) : (s.raiseBits f n v).kept = s.kept := (rfl)
@[simp] theorem State.hwWr_kept (s : State) (f : Fld) (n : Nat) (v : Nat) : (s.hwWr f n v).kept = s.kept := by simp [State.hwWr]
@[simp] theorem State.wr2_kept (s : State) (lo hi : Fld) (n : Nat) (v : Nat) : (s.wr2 lo hi n v).kept = s.kept := (rfl)
@[simp] theorem State.rcNote_kept (s : State) (f : Fld) (n : Nat) (v : Nat) (low : Bool) : (s.rcNote f n v low).kept = s.kept := (rfl)
@[simp] theorem State.rcMax_kept (s : State) (f : Fld) (n : Nat) (v : Nat) : (s.rcMax f n v).kept = s.kept := (rfl)
@[simp] theorem State.rcMin_kept (s : State) (f : Fld) (n : Nat) (v : Nat) : (s.rcMin f n v).kept = s.kept := (rfl)
@[simp] theorem State.rcMerge_kept (s : State) : s.rcMerge.kept = s.kept := (rfl)
@[simp] theorem State.rst_kept (s : State) (f : Fld) (n : Nat) : (s.rst f n).kept = s.kept := (rfl)
@[simp] theorem State.bump_kept (s : State) (g ev : Nat) (n : Nat) (by' : Nat) : (s.bump g ev n by').kept = s.kept := (rfl)

@[simp] theorem State.bumpDrop_kept (s : State) (reason port : Nat) : (s.bumpDrop reason port).kept = s.kept := by
  unfold State.bumpDrop
  split <;> simp

@[simp] theorem State.raiseFault_kept (s : State) (src cause sev : Nat) (inst : Nat) (val : Nat) :
    (s.raiseFault src cause sev inst val).kept = s.kept := (rfl)
@[simp] theorem State.noteOverrun_kept (s : State) (raw : Nat) : (s.noteOverrun raw).kept = s.kept := by simp [State.noteOverrun]
@[simp] theorem State.hand_kept (s : State) (r : Record) : (s.hand r).kept = s.kept := by simp [State.hand, State.kept_fields]
@[simp] theorem State.eventRec_kept (s : State) (unit inst tick code d0 d1 d2 : Nat) (sub : Nat) :
    (s.eventRec unit inst tick code d0 d1 d2 sub).kept = s.kept := by simp [State.eventRec]
@[simp] theorem State.timeState_kept (s : State) (cause : Nat) : (s.timeState cause).kept = s.kept := by simp [State.timeState]
@[simp] theorem State.refreshQuotes_kept (s : State) : s.refreshQuotes.kept = s.kept := (rfl)
@[simp] theorem State.setDigest_kept (s : State) (d : Bytes) : (s.setDigest d).kept = s.kept := (rfl)
@[simp] theorem State.extendD_kept (s : State) (kind seat txn addr mask : Nat) (data : List Nat) :
    (s.extendD kind seat txn addr mask data).kept = s.kept := by simp [State.extendD]
@[simp] theorem State.implicitTxn_kept (s : State) (seat : Nat) (words : List StagedWord) (entries : List StagedEntry) (waiting : Option Packet) :
    (s.implicitTxn seat words entries waiting).kept = s.kept := (rfl)
@[simp] theorem State.answer_kept (s : State) (st : Status) (data : List Nat) : (s.answer st data).kept = s.kept := (rfl)
@[simp] theorem State.whenLive_kept (s : State) (f : State → State) (h : (f s).kept = s.kept) :
    (s.whenLive f).kept = s.kept := by simp [State.whenLive, h]
theorem State.request_kept (s : State) (r : Except Status State) (h : Yields r (fun t => t.kept = s.kept)) : (s.request r).kept = s.kept :=
  s.whenLive_kept _ (s.settle_kept r h)
@[simp] theorem State.when_kept (s : State) (b : Bool) (f : State → State) (h : (f s).kept = s.kept) :
    (s.when b f).kept = s.kept := by simp [State.when, h]
@[simp] theorem State.once_kept (s : State) (k : Nat) (b : Bool) (f : State → State) (h : ∀ t : State, (f t).kept = t.kept) :
    (s.once k b f).kept = s.kept := by simp [State.once, State.kept_fields, h]
@[simp] theorem State.fresh_kept (s : State) : s.fresh.2.kept = s.kept := (rfl)
@[simp] theorem State.setFwd_kept (s : State) (f : Fwd → Fwd) : (s.setFwd f).kept = s.kept := (rfl)
@[simp] theorem State.setBuf_kept (s : State) (f : Buf → Buf) : (s.setBuf f).kept = s.kept := (rfl)
@[simp] theorem State.setQsg_kept (s : State) (f : Qsg → Qsg) : (s.setQsg f).kept = s.kept := (rfl)
@[simp] theorem State.setTbl_kept (s : State) (f : Tbl → Tbl) : (s.setTbl f).kept = s.kept := (rfl)
@[simp] theorem State.setFlt_kept (s : State) (f : Flt → Flt) (h : ∀ x, (f x).main.latches = x.main.latches) :
    (s.setFlt f).kept = s.kept := by simp [State.setFlt, State.kept_fields, h]
@[simp] theorem State.setLan_kept (s : State) (f : Lan → Lan) : (s.setLan f).kept = s.kept := (rfl)
@[simp] theorem State.setCsma_kept (s : State) (f : Csma → Csma) : (s.setCsma f).kept = s.kept := (rfl)
@[simp] theorem State.touch_kept (s : State) (p : Nat) : (s.touch p).kept = s.kept := (rfl)
@[simp] theorem State.frameRecord_kept (s : State) (c : Copy) (fate reason : Nat) (tx : Option Tx) :
    (s.frameRecord c fate reason tx).kept = s.kept := by simp [State.frameRecord]

theorem State.alloc_kept (s : State) (n : Nat) : ∀ x ∈ s.alloc n, x.2.kept = s.kept := by
  induction n generalizing s with
  | zero => simp [State.alloc]
  | succ n ih =>
    unfold State.alloc
    extract_lets order
    split
    · simp
    · next c hc =>
      extract_lets u
      split
      · simp
      · next cs t ht => simpa [u] using ih u _ ht

@[simp] theorem State.showHeld_kept (s : State) (p k : Nat) : (s.showHeld p k).kept = s.kept := (rfl)
@[simp] theorem State.showSeq_kept (s : State) (m : Nat) : (s.showSeq m).kept = s.kept := (rfl)
@[simp] theorem State.touchWaiting_kept (s : State) : s.touchWaiting.kept = s.kept := by simp [State.touchWaiting]
@[simp] theorem State.markDepth_kept (s : State) (q : Nat) : (s.markDepth q).kept = s.kept := (rfl)
@[simp] theorem State.mergeDepths_kept (s : State) : s.mergeDepths.kept = s.kept := (rfl)
@[simp] theorem State.showStores_kept (s : State) : s.showStores.kept = s.kept := by simp [State.showStores]
@[simp] theorem State.sendFlow_kept (s : State) (p ended : Nat) : (s.sendFlow p ended).kept = s.kept := by simp [State.sendFlow]
@[simp] theorem State.flowTransition_kept (s : State) (p c : Nat) (xoff : Bool) :
    (s.flowTransition p c xoff).kept = s.kept := by simp [State.flowTransition]
@[simp] theorem State.flowClass_kept (s : State) (p c : Nat) (forced : Bool) :
    (s.flowClass p c forced).kept = s.kept := by simp [State.flowClass]
@[simp] theorem State.flowCheck_kept (s : State) (p : Nat) : (s.flowCheck p).kept = s.kept := by simp [State.flowCheck]
@[simp] theorem State.refreshBuf_kept (s : State) : s.refreshBuf.kept = s.kept := by simp [State.refreshBuf]
@[simp] theorem State.refuseFree_kept (s : State) (reason handle requester : Nat) :
    (s.refuseFree reason handle requester).kept = s.kept := by simp [State.refuseFree]

@[simp] theorem State.freeRef_kept (s : State) (handle requester : Nat) : (s.freeRef handle requester).kept = s.kept := by
  unfold State.freeRef
  split <;> simp

@[simp] theorem State.release_kept (s : State) (c : Copy) : (s.release c).kept = s.kept := by
  unfold State.release
  dsimp only
  (repeat' split) <;> simp

@[simp] theorem State.bufBoundary_kept (s : State) : s.bufBoundary.kept = s.kept := by
  unfold State.bufBoundary
  split <;> simp

@[simp] theorem State.askSparing_kept (s : State) (bank : Nat) : (s.askSparing bank).kept = s.kept := by simp [State.askSparing]
@[simp] theorem State.noteUncorrectable_kept (s : State) (cell : Nat) :
    (s.noteUncorrectable cell).kept = s.kept := by simp [State.noteUncorrectable]
@[simp] theorem State.markCell_kept (s : State) (cell : Nat) : (s.markCell cell).kept = s.kept := (rfl)
@[simp] theorem State.noteBadCell_kept (s : State) (cell : Nat) : (s.noteBadCell cell).kept = s.kept := by simp [State.noteBadCell]

@[simp] theorem State.noteDrop_kept (s : State) (c : Copy) (reason : Nat) : (s.noteDrop c reason).kept = s.kept := by
  unfold State.noteDrop
  (repeat' split) <;> simp

@[simp] theorem State.dropCopy_kept (s : State) (c : Copy) (reason : Nat) :
    (s.dropCopy c reason).kept = s.kept := by simp [State.dropCopy]
@[simp] theorem State.dropFrame_kept (s : State) (f : Frame) (reason : Nat) :
    (s.dropFrame f reason).kept = s.kept := by simp [State.dropFrame]
@[simp] theorem State.dropDecided_kept (s : State) (f : Frame) (action reason : Nat) :
    (s.dropDecided f action reason).kept = s.kept := by simp [State.dropDecided]

end Sys2Proof.Machine
end

section
/-! SUPPORT. What only some commands change, kept by the time base, the servo and PTP. -/

namespace Sys2Proof.Machine

@[simp] theorem State.showParams_kept (s : State) (p : ViewParams) : (s.showParams p).kept = s.kept := (rfl)
@[simp] theorem State.setParams_kept (s : State) (p : ViewParams) : (s.setParams p).kept = s.kept := (rfl)
@[simp] theorem State.setRate_kept (s : State) (r : Int) : (s.setRate r).kept = s.kept := by simp [State.setRate]
@[simp] theorem State.setSyn_kept (s : State) (f : Syn → Syn) : (s.setSyn f).kept = s.kept := (rfl)
@[simp] theorem State.setServo_kept (s : State) (f : Servo → Servo) : (s.setServo f).kept = s.kept := (rfl)
@[simp] theorem State.setAssoc_kept (s : State) (a : Nat) (f : Assoc → Assoc) : (s.setAssoc a f).kept = s.kept := (rfl)
@[simp] theorem State.servoState_kept (s : State) (st : Nat) : (s.servoState st).kept = s.kept := by simp [State.servoState]
@[simp] theorem State.feed_kept (s : State) (src : Nat) (theta : Int) : (s.feed src theta).kept = s.kept := by simp [State.feed]
@[simp] theorem State.stepTaken_kept (s : State) : s.stepTaken.kept = s.kept := by simp [State.stepTaken]
@[simp] theorem State.openEpoch_kept (s : State) (offset : Nat) :
    (s.openEpoch offset).kept = s.kept := by simp [State.openEpoch, State.kept_fields]
@[simp] theorem State.countOdd_kept (s : State) (mask : Nat) : (s.countOdd mask).kept = s.kept := (rfl)
@[simp] theorem State.noteOdd_kept (s : State) (mask : Nat) : (s.noteOdd mask).kept = s.kept := (rfl)
@[simp] theorem State.retireIfDue_kept (s : State) (i : Nat) : (s.retireIfDue i).kept = s.kept := by simp [State.retireIfDue]
@[simp] theorem State.compareRejoin_kept (s : State) (canopy : Nat) (i : Nat) :
    (s.compareRejoin canopy i).kept = s.kept := by simp [State.compareRejoin, State.kept_fields]
@[simp] theorem State.advanceCounters_kept (s : State) (ua ub uc : DWord) : (s.advanceCounters ua ub uc).kept = s.kept := (rfl)
@[simp] theorem State.crossingRecord_kept (s : State) (p raw view epoch : Nat) :
    (s.crossingRecord p raw view epoch).kept = s.kept := by simp [State.crossingRecord]
@[simp] theorem State.countCrossings_kept (s : State) : s.countCrossings.kept = s.kept := by simp [State.countCrossings]
@[simp] theorem State.formStamps_kept (s : State) : s.formStamps.kept = s.kept := (rfl)
@[simp] theorem State.formSent_kept (s : State) : s.formSent.kept = s.kept := (rfl)
@[simp] theorem State.noteHold_kept (s : State) : s.noteHold.kept = s.kept := by simp [State.noteHold, State.kept_fields]
@[simp] theorem State.fixFalls_kept (s : State) : s.fixFalls.kept = s.kept := (rfl)
@[simp] theorem State.compareFollower_kept (s : State) (bad : Nat) (g : Nat) :
    (s.compareFollower bad g).kept = s.kept := by simp [State.compareFollower, State.kept_fields]
@[simp] theorem State.rejoin_kept (s : State) (mask : Nat) : (s.rejoin mask).kept = s.kept := (rfl)

@[simp] theorem State.armRate_kept (s : State) (value : Nat) {k : Kept} (h : s.kept = k) : Yields (s.armRate value) (fun t => t.kept = k) := by
  subst h
  simp [State.armRate, State.kept_fields]

@[simp] theorem State.stepGo_kept (s : State) (relative : Bool) {k : Kept} (h : s.kept = k) :
    Yields (s.stepGo relative) (fun t => t.kept = k) := by
  subst h
  simp [State.stepGo, State.kept_fields]

@[simp] theorem State.enterSlewing_kept (s : State) (theta : Int) : (s.enterSlewing theta).kept = s.kept := by simp [State.enterSlewing]
@[simp] theorem State.servoStep_kept (s : State) (st : ArmedStep) :
    (s.servoStep st).kept = s.kept := by simp [State.servoStep, State.kept_fields]
@[simp] theorem State.registerStep_kept (s : State) (st : ArmedStep) :
    (s.registerStep st).kept = s.kept := by simp [State.registerStep, State.kept_fields]

@[simp] theorem State.epochDue_kept (s : State) : s.epochDue.kept = s.kept := by
  unfold State.epochDue
  dsimp only
  (repeat' split) <;> simp

@[simp] theorem State.rateNow_kept (s : State) : s.rateNow.kept = s.kept := by
  unfold State.rateNow
  split <;> simp [State.kept_fields]

@[simp] theorem State.snapTake_kept (s : State) (seat group : Nat) {k : Kept} (h : s.kept = k) :
    Yields (s.snapTake seat group) (fun t => t.kept = k) := by
  subst h
  simp [State.snapTake, State.kept_fields]

@[simp] theorem State.snapCapture_kept (s : State) (g : Nat) : (s.snapCapture g).kept = s.kept := (rfl)
@[simp] theorem State.armServoStep_kept (s : State) (m : Meas) (first : Bool) : (s.armServoStep m first).kept = s.kept := (rfl)
@[simp] theorem State.lockRule_kept (s : State) (theta : Int) : (s.lockRule theta).kept = s.kept := by simp [State.lockRule]
@[simp] theorem State.excursion_kept (s : State) (m : Meas) : (s.excursion m).kept = s.kept := by simp [State.excursion]
@[simp] theorem State.servoUpdate_kept (s : State) (m : Meas) : (s.servoUpdate m).kept = s.kept := by simp [State.servoUpdate]

@[simp] theorem State.servoDue_kept (s : State) : s.servoDue.kept = s.kept := by
  unfold State.servoDue
  split <;> simp

@[simp] theorem State.classThree_kept (s : State) : s.classThree.kept = s.kept := by simp [State.classThree]
@[simp] theorem State.setSource_kept (s : State) (src : Nat) : (s.setSource src).kept = s.kept := by simp [State.setSource]
@[simp] theorem State.takeSource_kept (s : State) (src : Nat) : (s.takeSource src).kept = s.kept := by simp [State.takeSource]
@[simp] theorem State.offer_kept (s : State) (src : Nat) (theta : Int) (seconds : Bool) :
    (s.offer src theta seconds).kept = s.kept := (rfl)
@[simp] theorem State.measure_kept (s : State) (src : Nat) (theta : Int) (seconds : Bool) :
    (s.measure src theta seconds).kept = s.kept := by simp [State.measure]
@[simp] theorem State.discardSync_kept (s : State) (a : Nat) : (s.discardSync a).kept = s.kept := (rfl)
@[simp] theorem State.pathSample_kept (s : State) (a : Nat) (pd : Int) : (s.pathSample a pd).kept = s.kept := (rfl)
@[simp] theorem State.setMport_kept (s : State) (x : MPort) : (s.setMport x).kept = s.kept := (rfl)
@[simp] theorem State.syncComplete_kept (s : State) (a : Nat) (seq : Nat) (t1 corr t2 : Int) (t2Epoch : Nat) :
    (s.syncComplete a seq t1 corr t2 t2Epoch).kept = s.kept := by simp [State.syncComplete]

@[simp] theorem State.assocSync_kept (s : State) (a : Nat) (m : PtpMsg) (followUp twoStep : Bool) :
    (s.assocSync a m followUp twoStep).kept = s.kept := by
  unfold State.assocSync
  dsimp only
  (repeat' split) <;> simp

@[simp] theorem State.assocResp_kept (s : State) (a : Nat) (m : PtpMsg) : (s.assocResp a m).kept = s.kept := by
  unfold State.assocResp
  dsimp only
  split <;> simp

@[simp] theorem State.sendOneStep_kept (s : State) (p seq raw : Nat) : (s.sendOneStep p seq raw).kept = s.kept := (rfl)
@[simp] theorem State.enterHoldover_kept (s : State) : s.enterHoldover.kept = s.kept := by simp [State.enterHoldover]
@[simp] theorem State.loseSource_kept (s : State) (c : Nat) : (s.loseSource c).kept = s.kept := by simp [State.loseSource]

@[simp] theorem State.failOver_kept (s : State) : s.failOver.kept = s.kept := by
  unfold State.failOver
  dsimp only
  split <;> simp

@[simp] theorem State.sourceLoss_kept (s : State) : s.sourceLoss.kept = s.kept := by simp [State.sourceLoss]

@[simp] theorem State.chooseSource_kept (s : State) : s.chooseSource.kept = s.kept := by
  unfold State.chooseSource
  split <;> simp

@[simp] theorem State.servoSrc_kept (s : State) (order : Nat) : (s.servoSrc order).kept = s.kept := by simp [State.servoSrc]
@[simp] theorem State.servoSwitch_kept (s : State) (on : Bool) :
    (s.servoSwitch on).kept = s.kept := by simp [State.servoSwitch, State.kept_fields]
@[simp] theorem State.refSwitch_kept (s : State) (i : Nat) : (s.refSwitch i).kept = s.kept := by simp [State.refSwitch]
@[simp] theorem State.tpllUnlocked_kept (s : State) : s.tpllUnlocked.kept = s.kept := by simp [State.tpllUnlocked, State.kept_fields]

@[simp] theorem State.refOrderWritten_kept (s : State) : s.refOrderWritten.kept = s.kept := by
  unfold State.refOrderWritten
  split <;> simp

@[simp] theorem State.setPps_kept (s : State) (i : Nat) (f : PpsIn → PpsIn) : (s.setPps i f).kept = s.kept := (rfl)
@[simp] theorem State.ppsValid_kept (s : State) (i raw : Nat) (label : Option Nat) :
    (s.ppsValid i raw label).kept = s.kept := by simp [State.ppsValid]

@[simp] theorem State.ppsEdge_kept (s : State) (i raw : Nat) : (s.ppsEdge i raw).kept = s.kept := by
  unfold State.ppsEdge
  dsimp only
  split <;> simp

@[simp] theorem State.ppsStop_kept (s : State) (i : Nat) : (s.ppsStop i).kept = s.kept := (rfl)
@[simp] theorem State.showEvti_kept (s : State) (n : Nat) : (s.showEvti n).kept = s.kept := (rfl)
@[simp] theorem State.mirror_kept (s : State) (pin raw : Nat) : (s.mirror pin raw).kept = s.kept := by simp [State.mirror]
@[simp] theorem State.evtCapture_kept (s : State) (pin : Nat) (rise : Bool) (raw : Nat) :
    (s.evtCapture pin rise raw).kept = s.kept := by simp [State.evtCapture]
@[simp] theorem State.evtiPop_kept (s : State) (pin : Nat) : (s.evtiPop pin).kept = s.kept := (rfl)
@[simp] theorem State.evtoLevel_kept (s : State) (n : Nat) : (s.evtoLevel n).kept = s.kept := (rfl)

end Sys2Proof.Machine
end

section
/-! SUPPORT. What only some commands change, kept by the forwarding path up to the end of a transmission. -/

namespace Sys2Proof.Machine

@[simp] theorem State.askRepair_kept (s : State) (pipe table index : Nat) :
    (s.askRepair pipe table index).kept = s.kept := by simp [State.askRepair]
@[simp] theorem State.noteDamage_kept (s : State) (pipe table index : Nat) :
    (s.noteDamage pipe table index).kept = s.kept := by simp [State.noteDamage]
@[simp] theorem State.eccMiss_kept (s : State) (pipe table index : Nat) :
    (s.eccMiss pipe table index).kept = s.kept := by simp [State.eccMiss]

@[simp] theorem State.tableLookup_kept (s : State) (pipe table : Nat) (lost : List (Nat × Nat)) (place : Option Nat) :
    (s.tableLookup pipe table lost place).1.kept = s.kept := by
  unfold State.tableLookup
  split <;> simp

@[simp] theorem State.ipDestination_kept (s : State) (pipe : Nat) (ip : Nat × Nat) (lost : List (Nat × Nat)) :
    (s.ipDestination pipe ip lost).1.kept = s.kept := by
  grind [State.ipDestination, State.tableLookup_kept]

@[simp] theorem State.macDestination_kept (s : State) (pipe g vid dmac : Nat) (lost : List (Nat × Nat)) :
    (s.macDestination pipe g vid dmac lost).1.kept = s.kept := by
  grind [State.macDestination, State.tableLookup_kept, State.eccMiss_kept]

@[simp] theorem State.destination_kept (s : State) (pipe g p : Nat) (r : List (Nat × Nat)) (e : LookupErr) :
    (s.destination pipe g p r e).1.kept = s.kept := by
  grind [State.destination, State.ipDestination_kept, State.macDestination_kept]

@[simp] theorem State.emptyFrags_kept (s : State) (group : Nat → Bool) : (s.emptyFrags group).kept = s.kept := (rfl)

@[simp] theorem State.fragClaim_kept (s : State) (group : Nat) (key : List Nat) (dec : Decision) :
    (s.fragClaim group key dec).kept = s.kept := by
  unfold State.fragClaim
  dsimp only
  (repeat' split) <;> simp

@[simp] theorem State.sampleCount_kept (s : State) (p : Nat) : (s.sampleCount p).1.kept = s.kept := by
  unfold State.sampleCount
  dsimp only
  (repeat' split) <;> simp

@[simp] theorem State.candidate_kept (s : State) (f : Frame) (r : List (Nat × Nat)) (action : Nat) (hits : List (Nat × Nat)) :
    (s.candidate f r action hits).kept = s.kept := by simp [State.candidate]

@[simp] theorem State.corrected_kept (s : State) (pipe : Nat) (e : LookupErr) : (s.corrected pipe e).kept = s.kept := by
  unfold State.corrected
  split <;> simp

@[simp] theorem State.onward_kept (s : State) (f : Frame) (pipe : Nat) (x : Parsed) (d : Decision) :
    (s.onward f pipe x d).kept = s.kept := by
  unfold State.onward
  split <;> simp

@[simp] theorem State.ownDecision_kept (s : State) (f : Frame) (pipe : Nat) (x : Parsed) (e : LookupErr) :
    (s.ownDecision f pipe x e).1.kept = s.kept := by
  unfold State.ownDecision
  dsimp only
  (repeat' split) <;> simp

@[simp] theorem State.classify_kept (s : State) (f : Frame) (pipe : Nat) (x : Parsed) (e : LookupErr) :
    (s.classify f pipe x e).kept = s.kept := by simp [State.classify]

@[simp] theorem State.process_kept (s : State) (f : Frame) (pipe : Nat) (e : LookupErr) : (s.process f pipe e).kept = s.kept := by
  unfold State.process
  split
  · simp
  · split
    · rfl
    · extract_lets s₁ x s₂ s₃ s₄ p
      have h₄ : s₄.kept = s.kept := by simp [s₄, s₃, s₂, s₁]
      have hq : (if f.seen = true then (s₄, false) else s₄.sampleCount f.port).1.kept = s.kept := by split <;> simp [h₄]
      generalize (if f.seen = true then (s₄, false) else s₄.sampleCount f.port) = q at hq ⊢
      obtain ⟨t, sampled⟩ := q
      dsimp only at hq ⊢
      (repeat' split) <;> simp [hq]

@[simp] theorem State.showFifo_kept (s : State) (p : Nat) : (s.showFifo p).kept = s.kept := (rfl)
@[simp] theorem State.unqueue_kept (s : State) (f : Frame) : (s.unqueue f).kept = s.kept := (rfl)

@[simp] theorem State.takeSlot_kept (s : State) (pipe group slot : Nat) : (s.takeSlot pipe group slot).2.kept = s.kept := by
  unfold State.takeSlot
  dsimp only
  (repeat' split) <;> simp

@[simp] theorem State.regrid_kept (s : State) (mhz : Nat) : (s.regrid mhz).kept = s.kept := (rfl)
@[simp] theorem State.setCredit_kept (s : State) (m : Nat) (u : Int) : (s.setCredit m u).kept = s.kept := (rfl)
@[simp] theorem State.bindShapers_kept (s : State) : s.bindShapers.kept = s.kept := (rfl)
@[simp] theorem State.shaperPay_kept (s : State) (m b : Nat) : (s.shaperPay m b).kept = s.kept := by simp [State.shaperPay]

@[simp] theorem State.settleEmpty_kept (s : State) (q : Nat) : (s.settleEmpty q).kept = s.kept := by
  unfold State.settleEmpty
  split <;> simp

@[simp] theorem State.startTx_kept (s : State) (c : Copy) (entry toBall : Int) (held : Option Held) :
    (s.startTx c entry toBall held).kept = s.kept := by simp [State.startTx]
@[simp] theorem State.lateRecord_kept (s : State) (c : Copy) (subkind unit inst refTick refFrac actTick actFrac lateness : Nat) :
    (s.lateRecord c subkind unit inst refTick refFrac actTick actFrac lateness).kept = s.kept := by simp [State.lateRecord]
@[simp] theorem State.noteWindow_kept (s t : State) (m : Nat) : (s.noteWindow t m).kept = t.kept := by simp [State.noteWindow]
@[simp] theorem State.dropTooLate_kept (s : State) (h : Held) (crossing : Int) :
    (s.dropTooLate h crossing).kept = s.kept := by simp [State.dropTooLate]
@[simp] theorem State.noteLate_kept (s : State) (h : Held) (c : Copy) (crossing : Int) :
    (s.noteLate h c crossing).kept = s.kept := by simp [State.noteLate]
@[simp] theorem State.markBehind_kept (s : State) (h : Held) (entry : Int) : (s.markBehind h entry).kept = s.kept := (rfl)
@[simp] theorem State.markReturn_kept (s : State) (p : Nat) : (s.markReturn p).kept = s.kept := (rfl)
@[simp] theorem State.sweepHeld_kept (s : State) (p : Nat) (test : Held → Bool) :
    (s.sweepHeld p test).kept = s.kept := by simp [State.sweepHeld]
@[simp] theorem State.unhold_kept (s : State) (h : Held) : (s.unhold h).kept = s.kept := (rfl)

@[simp] theorem State.startHeld_kept (s : State) (p var : Nat) (met : Option Nat) : (s.startHeld p var met).kept = s.kept := by
  unfold State.startHeld
  (repeat' split) <;> simp

@[simp] theorem State.tieRecord_kept (s : State) (m raw epoch cause ptr : Nat) (ports : List Nat) :
    (s.tieRecord m raw epoch cause ptr ports).kept = s.kept := by simp [State.tieRecord]

@[simp] theorem State.tieStep_kept (s : State) (m : Nat) (x : SeqCopy) : (s.tieStep m x).kept = s.kept := by
  unfold State.tieStep
  (repeat' split) <;> simp

@[simp] theorem State.noteSeqLate_kept (s : State) (m : Nat) (x : SeqCopy) (c : Copy) :
    (s.noteSeqLate m x c).kept = s.kept := by simp [State.noteSeqLate]

@[simp] theorem State.startSeq_kept (s : State) (m var : Nat) (met : Option Nat) : (s.startSeq m var met).kept = s.kept := by
  unfold State.startSeq
  (repeat' split) <;> simp

@[simp] theorem State.seeSeq_kept (s : State) (m : Nat) : (s.seeSeq m).kept = s.kept := by simp [State.seeSeq]

theorem State.startDet_kept (s : State) (p var : Nat) (met : Option Nat) : ∀ t ∈ s.startDet p var met, t.kept = s.kept := by
  unfold State.startDet
  extract_lets u held seq
  have hu : u.kept = s.kept := by simp only [u]; split <;> simp
  clear_value held seq
  rcases held with _ | d <;> rcases seq with _ | ⟨m, r⟩
  · simp
  · simp [hu]
  · simp [hu]
  · by_cases h : d ≤ r <;> simp [h, hu]

@[simp] theorem State.sweepDue_kept (s : State) (p : Nat) : (s.sweepDue p).kept = s.kept := by simp [State.sweepDue]

@[simp] theorem State.showDeep_kept (s : State) (q : Nat) : (s.showDeep q).kept = s.kept := by
  unfold State.showDeep
  split <;> simp

@[simp] theorem State.leftQueue_kept (s : State) (q : Nat) : (s.leftQueue q).kept = s.kept := by simp [State.leftQueue]
@[simp] theorem State.dropHead_kept (s : State) (c : Copy) (reason : Nat) :
    (s.dropHead c reason).kept = s.kept := by simp [State.dropHead]

@[simp] theorem State.cleanQueue_kept (s : State) (p n t fuel : Nat) : (s.cleanQueue p n t fuel).kept = s.kept := by
  induction fuel generalizing s with
  | zero => rfl
  | succ fuel ih =>
    unfold State.cleanQueue
    (repeat' split) <;> simp [ih]

@[simp] theorem State.startQueued_kept (s : State) (p n var : Nat) (c : Copy) (deficits : List (Nat × Int)) (met : Option Nat) :
    (s.startQueued p n var c deficits met).kept = s.kept := by simp [State.startQueued]

@[simp] theorem State.selectQueue_kept (s : State) (p var : Nat) (met : Option Nat) : (s.selectQueue p var met).kept = s.kept := by
  unfold State.selectQueue
  dsimp only
  (repeat' split) <;> simp

theorem State.flowNext_kept (s : State) (p var : Nat) : ∀ t ∈ s.flowNext p var, t.kept = s.kept := by
  unfold State.flowNext
  (repeat' split) <;> simp

@[simp] theorem State.resend_kept (s : State) (var : Nat) : (s.resend var).kept = s.kept := by
  unfold State.resend
  split <;> simp

@[simp] theorem State.gateRecord_kept (s : State) (subkind queue p old new x excess tick : Nat) :
    (s.gateRecord subkind queue p old new x excess tick).kept = s.kept := by simp [State.gateRecord]

@[simp] theorem State.noteGateOverrun_kept (s : State) (t : Tx) (c : Copy) : (s.noteGateOverrun t c).kept = s.kept := by
  unfold State.noteGateOverrun
  split <;> simp

theorem State.ringDeliver_kept (s : State) (seat : Nat) (c : Copy) (out : Bytes) : ∀ t ∈ s.ringDeliver seat c out, t.kept = s.kept := by
  simp [State.ringDeliver]
theorem State.reenter_kept (s : State) (c : Copy) (out : Bytes) : ∀ t ∈ s.reenter c out, t.kept = s.kept := by simp [State.reenter]
@[simp] theorem State.sent_kept (s : State) (t : Tx) (c : Copy) : (s.sent t c).kept = s.kept := by simp [State.sent]
@[simp] theorem State.complete_kept (s : State) (t : Tx) (c : Copy) : (s.complete t c).kept = s.kept := by
  grind [State.complete, State.ringDeliver_kept, State.reenter_kept, State.sent_kept, State.dropCopy_kept]

@[simp] theorem State.transmitDone_kept (s : State) (p : Nat) (met : Option Nat) : (s.transmitDone p met).kept = s.kept := by
  unfold State.transmitDone
  dsimp only
  (repeat' split) <;> simp

@[simp] theorem State.cutOff_kept (s : State) (p : Nat) : (s.cutOff p).kept = s.kept := by
  unfold State.cutOff
  refine State.foldl_kept _ (fun s t => ?_) _ _
  split <;> simp

@[simp] theorem State.flushPort_kept (s : State) (p reason : Nat) : (s.flushPort p reason).kept = s.kept := by simp [State.flushPort]
@[simp] theorem State.clearPause_kept (s : State) (p : Nat) : (s.clearPause p).kept = s.kept := (rfl)
@[simp] theorem State.portLost_kept (s : State) (p : Nat) (hold : Bool) : (s.portLost p hold).kept = s.kept := by simp [State.portLost]

end Sys2Proof.Machine
end

section
/-! SUPPORT. What only some commands change, kept by admission, the pools and the shared buffer. -/

namespace Sys2Proof.Machine

@[simp] theorem State.setMeter_kept (s : State) (m : Meter) : (s.setMeter m).kept = s.kept := (rfl)

@[simp] theorem State.meterFrame_kept (s : State) (n b : Nat) : (s.meterFrame n b).1.kept = s.kept := by
  unfold State.meterFrame
  dsimp only
  (repeat' split) <;> simp

@[simp] theorem State.police_kept (s : State) (f : Frame) (action : Nat) : (s.police f action).1.kept = s.kept := by
  unfold State.police
  dsimp only
  (repeat' split) <;> simp

@[simp] theorem State.groupWants_kept (s : State) (pf : PipeFrame) (g : Nat) : (s.groupWants pf g).1.kept = s.kept := by
  unfold State.groupWants
  dsimp only
  (repeat' split) <;> simp

theorem State.ensureBuf_kept (s : State) (id need : Nat) : ∀ t ∈ s.ensureBuf id need, t.kept = s.kept := by
  unfold State.ensureBuf
  split
  · simp
  · split
    · simp
    · next cells u h => simpa using State.alloc_kept s need _ h

@[simp] theorem State.addRef_kept (s : State) (id : Nat) : (s.addRef id).kept = s.kept := (rfl)
@[simp] theorem State.setClass_kept (s : State) (id p c cls hr : Nat) : (s.setClass id p c cls hr).kept = s.kept := (rfl)
@[simp] theorem State.exhausted_kept (s : State) (c : Copy) : (s.exhausted c).kept = s.kept := by simp [State.exhausted]
@[simp] theorem State.enqueue_kept (s : State) (c : Copy) : (s.enqueue c).kept = s.kept := (rfl)

@[simp] theorem State.bestEffort_kept (s : State) (pipe : Nat) (c : Copy) : (s.bestEffort pipe c).1.kept = s.kept := by
  unfold State.bestEffort
  dsimp only
  (repeat' split) <;> simp

@[simp] theorem State.placePlain_kept (s : State) (c : Copy) (need var : Nat) (ll : Lossless) : (s.placePlain c need var ll).kept = s.kept := by
  unfold State.placePlain
  split
  · simp
  · next t ht =>
    rw [← State.ensureBuf_kept _ _ _ t ht]
    dsimp only
    (repeat' split) <;> simp

@[simp] theorem State.placeDeep_kept (s : State) (d : Nat) (c : Copy) (need : Nat) (ll : Lossless) :
    (s.placeDeep d c need ll).kept = s.kept := by
  unfold State.placeDeep
  extract_lets
  split
  · simp
  · split
    · split
      · split
        · simp
        · next t ht => simpa using State.ensureBuf_kept _ _ _ t ht
      · simp
    · simp

@[simp] theorem State.admitPlain_kept (s : State) (pf : PipeFrame) (c : Copy) (need var : Nat) (ll : Lossless) :
    (s.admitPlain pf c need var ll).kept = s.kept := by
  have h := s.bestEffort_kept pf.pipe c
  unfold State.admitPlain
  generalize s.bestEffort pf.pipe c = q at h ⊢
  obtain ⟨t, b⟩ := q
  rw [← h]
  cases b
  · simp
  · dsimp only
    (repeat' split) <;> simp

@[simp] theorem State.admitOwn_kept (s : State) (c : Copy) : (s.admitOwn c).kept = s.kept := by simp [State.admitOwn]
@[simp] theorem State.noteNeed_kept (s : State) (k : Nat) (needFine : Int) : (s.noteNeed k needFine).kept = s.kept := (rfl)

@[simp] theorem State.admitHeld_kept (s : State) (c : Copy) (need var : Nat) : (s.admitHeld c need var).kept = s.kept := by
  unfold State.admitHeld
  extract_lets
  split
  · simp
  · split
    · simp
    · split
      · simp
      · next t ht => simpa using State.ensureBuf_kept _ _ _ t ht

@[simp] theorem State.admitSeq_kept (s : State) (c : Copy) (need : Nat) : (s.admitSeq c need).kept = s.kept := by
  unfold State.admitSeq
  extract_lets m age mine full x waiting least
  clear_value least
  split
  · simp
  · split
    · simp
    · split
      · simp
      · next t ht =>
        rw [← State.ensureBuf_kept _ _ _ t ht]
        extract_lets t₁ t₂ t₃
        have h₂ : t₂.kept = t.kept := by simp [t₂, t₁]
        have h₃ : t₃.kept = t.kept := by
          simp only [t₃]
          split
          · split
            · rw [State.raiseBits_kept, State.bump_kept, State.setQsg_kept, h₂]
            · exact h₂
          · exact h₂
        simp [h₃]

@[simp] theorem State.noteNonMember_kept (s : State) (pf : PipeFrame) (w : Want) :
    (s.noteNonMember pf w).kept = s.kept := by simp [State.noteNonMember]

@[simp] theorem State.admitWant_kept (s : State) (pf : PipeFrame) (need v : Nat) (ipv : Option Nat) (ll : Option Lossless) (w : Want) :
    (s.admitWant pf need v ipv ll w).kept = s.kept := by
  unfold State.admitWant
  (repeat' split) <;> simp

@[simp] theorem State.wantsOf_kept (s : State) (pf : PipeFrame) : (s.wantsOf pf).1.kept = s.kept := by
  unfold State.wantsOf
  split <;> simp

@[simp] theorem State.discardCopies_kept (s : State) (id reason : Nat) :
    (s.discardCopies id reason).kept = s.kept := by simp [State.discardCopies]
@[simp] theorem State.chargeClass_kept (s : State) (f : Frame) (c need : Nat) (ll : Option Lossless) :
    (s.chargeClass f c need ll).kept = s.kept := by simp [State.chargeClass]

@[simp] theorem State.admitAside_kept (s : State) (a : Machine.Aside) : (s.admitAside a).kept = s.kept := by
  unfold State.admitAside
  dsimp only
  split <;> simp

@[simp] theorem State.takeTurns_kept (s : State) (pf : PipeFrame) (need : Nat) (ipv : Option Nat) (ll : Option Lossless)
    (vars : List (Nat × Nat)) (turns : List Turn) : (s.takeTurns pf need ipv ll vars turns).1.kept = s.kept := by
  induction turns generalizing s vars with
  | nil => rfl
  | cons x rest ih => cases x <;> simp [State.takeTurns, ih]

@[simp] theorem State.admitFrame_kept (s : State) (pf : PipeFrame) (asides : List Machine.Aside) (vars : List (Nat × Nat)) :
    (s.admitFrame pf asides vars).1.kept = s.kept := by
  unfold State.admitFrame
  extract_lets f a u drop
  have hu : u.kept = s.kept := rfl
  have hd : ∀ (t : State) (r : Nat), (drop t r).1.kept = t.kept := by intro t r; simp [drop]
  split
  · simp [hd, hu]
  · split
    · simp [hd, hu]
    · have hp := u.police_kept f a
      split
      · next t r x h => simpa [hd, h, hu] using hp
      · next t ipv h =>
        have ht : t.kept = s.kept := by simpa [h, hu] using hp
        have hw := t.wantsOf_kept pf
        split
        · next v h' => simpa [hd, h', ht] using hw
        · next v ws h' =>
          have hv : v.kept = s.kept := by simpa [h', ht] using hw
          dsimp only
          simp [hv]

@[simp] theorem State.reachAdmission_kept (s : State) (pf : PipeFrame) (asides : List Machine.Aside) (vars : List (Nat × Nat)) :
    (s.reachAdmission pf asides vars).1.kept = s.kept := by
  unfold State.reachAdmission
  dsimp only
  split <;> simp

@[simp] theorem State.showPool_kept (s : State) (c : Nat) : (s.showPool c).kept = s.kept := (rfl)

@[simp] theorem State.ctlAlloc_kept (s : State) (bytes owner : Nat) : (s.ctlAlloc bytes owner).1.kept = s.kept := by
  unfold State.ctlAlloc
  (repeat' split) <;> simp

@[simp] theorem State.ctlFree_kept (s : State) (pool place requester : Nat) : (s.ctlFree pool place requester).kept = s.kept := by
  unfold State.ctlFree
  split <;> simp

@[simp] theorem State.ctlFinding_kept (s : State) (unit finding : Nat) : (s.ctlFinding unit finding).kept = s.kept := by
  unfold State.ctlFinding
  split <;> simp

@[simp] theorem State.showBank_kept (s : State) : s.showBank.kept = s.kept := (rfl)
@[simp] theorem State.spareForce_kept (s : State) (bank : Nat) : (s.spareForce bank).kept = s.kept := by simp [State.spareForce]
@[simp] theorem State.retireBank_kept (s : State) (bank : Nat) : (s.retireBank bank).kept = s.kept := by simp [State.retireBank]
@[simp] theorem State.noteCorrected_kept (s : State) (cell : Nat) : (s.noteCorrected cell).kept = s.kept := by simp [State.noteCorrected]

@[simp] theorem State.loseTag_kept (s : State) (cell : Nat) : (s.loseTag cell).kept = s.kept := by
  unfold State.loseTag
  split <;> simp

@[simp] theorem State.cellFinding_kept (s : State) (c finding : Nat) : (s.cellFinding c finding).kept = s.kept := by
  unfold State.cellFinding
  split <;> simp

@[simp] theorem State.spareFinding_kept (s : State) (c finding : Nat) : (s.spareFinding c finding).kept = s.kept := by
  unfold State.spareFinding
  split <;> simp

end Sys2Proof.Machine
end

section
/-! SUPPORT. What only some commands change, kept by the check engines, replies, counters, evidence and receive. -/

namespace Sys2Proof.Machine

@[simp] theorem State.setFlow_kept (s : State) (f : Flow) : (s.setFlow f).kept = s.kept := (rfl)

@[simp] theorem State.endFlow_kept (s : State) (e : Nat) : (s.endFlow e).kept = s.kept := by
  unfold State.endFlow
  (repeat' split) <;> simp [State.kept_fields]

@[simp] theorem State.grantFlow_kept (s : State) (e : Nat) : (s.grantFlow e).kept = s.kept := by
  unfold State.grantFlow
  split
  · rfl
  · have h := s.ctlAlloc_kept (s.rd F.CHK_LEN_BYTES e + 8) (0x10 + e)
    split
    · next t b heq => simpa [heq] using h
    · next t heq => simpa [heq] using h

@[simp] theorem State.chkStart_kept (s : State) (e ctrl : Nat) {k : Kept} (h : s.kept = k) :
    Yields (s.chkStart e ctrl) (fun t => t.kept = k) := by
  simp [State.chkStart, h]

@[simp] theorem State.chkEnd_kept (s : State) (e : Nat) (f : Flow) :
    (s.chkEnd e f).kept = s.kept := by simp [State.chkEnd, State.kept_fields]

@[simp] theorem State.chkData_kept (s : State) (e word : Nat) {k : Kept} (h : s.kept = k) :
    Yields (s.chkData e word) (fun t => t.kept = k) := by
  unfold State.chkData
  cases s.flow e <;> simp [h]

@[simp] theorem State.chkAbort_kept (s : State) (e : Nat) : (s.chkAbort e).kept = s.kept := by simp [State.chkAbort]

@[simp] theorem State.chkOutRead_kept (s : State) (e : Nat) : (s.chkOutRead e).2.kept = s.kept := by
  unfold State.chkOutRead
  (repeat' split) <;> simp

@[simp] theorem State.setCmd_kept (s : State) (f : Cmd → Cmd) : (s.setCmd f).kept = s.kept := (rfl)
@[simp] theorem State.setSeat_kept (s : State) (e : Nat) (f : Seat → Seat) : (s.setSeat e f).kept = s.kept := (rfl)
@[simp] theorem State.fireMsix_kept (s : State) (e vec : Nat) : (s.fireMsix e vec).kept = s.kept := by simp [State.fireMsix]
@[simp] theorem State.showSeat_kept (s : State) (e : Nat) : (s.showSeat e).kept = s.kept := (rfl)
@[simp] theorem State.placeWords_kept (s : State) (e : Nat) (words : List Nat) :
    (s.placeWords e words).kept = s.kept := by simp [State.placeWords]

@[simp] theorem State.placeFrom_kept (s : State) (e : Nat) (ls : List (List Nat)) : (s.placeFrom e ls).kept = s.kept := by
  induction ls generalizing s with
  | nil => simp [State.placeFrom]
  | cons l rest ih =>
    unfold State.placeFrom
    split <;> simp [ih]

@[simp] theorem State.placeLate_kept (s : State) (e : Nat) : (s.placeLate e).kept = s.kept := by simp [State.placeLate]

@[simp] theorem State.place_kept (s : State) (origin : Origin) (e : Nat) (words : List Nat) : (s.place origin e words).kept = s.kept := by
  unfold State.place
  split <;> simp

@[simp] theorem State.replyTo_kept (s : State) (p : Packet) (origin : Origin) (st : Status) (a : Answer) :
    (s.replyTo p origin st a).kept = s.kept := by simp [State.replyTo]
@[simp] theorem State.finish_kept (s : State) (p : Packet) (st : Status) (a : Answer) :
    (s.finish p st a).kept = s.kept := by simp [State.finish]
@[simp] theorem State.notice_kept (s : State) (p : Packet) (origin : Origin) (st : Status) (tick : Nat) :
    (s.notice p origin st tick).kept = s.kept := by simp [State.notice]
theorem State.acceptPacket_kept (s : State) (p : Packet) (origin : Origin) : Yields (s.acceptPacket p origin) (fun t => t.kept = s.kept) := by
  simp [State.acceptPacket]
@[simp] theorem State.refusePacket_kept (s : State) (p : Packet) (origin : Origin) (e : Status × Bool) :
    (s.refusePacket p origin e).kept = s.kept := by simp [State.refusePacket]

@[simp] theorem State.cntTake_kept (s : State) (seat group : Nat) {k : Kept} (h : s.kept = k) :
    Yields (s.cntTake seat group) (fun t => t.kept = k) := by
  subst h
  simp [State.cntTake, State.kept_fields]

@[simp] theorem State.cntCapture_kept (s : State) (g base n : Nat) :
    (s.cntCapture g base n).kept = s.kept := by simp [State.cntCapture, State.kept_fields]
@[simp] theorem State.setEvr_kept (s : State) (f : Evr → Evr) : (s.setEvr f).kept = s.kept := (rfl)
@[simp] theorem State.clampPins_kept (s : State) : s.clampPins.kept = s.kept := (rfl)
@[simp] theorem State.showStaging_kept (s : State) : s.showStaging.kept = s.kept := (rfl)
@[simp] theorem State.loseRecord_kept (s : State) (cause : Nat) (r : Record) :
    (s.loseRecord cause r).kept = s.kept := by simp [State.loseRecord]
@[simp] theorem State.showGap_kept (s : State) : s.showGap.kept = s.kept := (rfl)

@[simp] theorem State.enter_kept (s : State) (r : Record) : (s.enter r).kept = s.kept := by
  unfold State.enter
  split <;> simp

@[simp] theorem State.takeRecord_kept (s : State) (r : Record) : (s.takeRecord r).kept = s.kept := by
  unfold State.takeRecord
  dsimp only
  split <;> simp

@[simp] theorem State.stage_kept (s : State) (r : Record) : (s.stage r).kept = s.kept := by simp [State.stage]

@[simp] theorem State.judge_kept (s : State) (r : Record) : (s.judge r).kept = s.kept := by
  unfold State.judge
  split <;> simp

@[simp] theorem State.acceptAll_kept (s : State) (fuel : Nat) (l : List Record) : (s.acceptAll fuel l).kept = s.kept := by
  induction fuel generalizing s l with
  | zero => rfl
  | succ fuel ih =>
    cases l with
    | nil => rfl
    | cons r rest =>
      unfold State.acceptAll
      split <;> simp [ih]

@[simp] theorem State.aggSwitch_kept (s : State) : s.aggSwitch.kept = s.kept := by simp [State.aggSwitch]
@[simp] theorem State.endGaps_kept (s : State) (p : Gap → Bool) : (s.endGaps p).kept = s.kept := (rfl)
@[simp] theorem State.closeGaps_kept (s : State) (p : Gap → Bool) : (s.closeGaps p).kept = s.kept := by simp [State.closeGaps]

@[simp] theorem State.askSeals_kept (s : State) : s.askSeals.kept = s.kept := by
  unfold State.askSeals
  dsimp only
  (repeat' split) <;> simp

@[simp] theorem State.openBlock_kept (s : State) (genesis afterReset : Bool) (records : List Record) :
    (s.openBlock genesis afterReset records).kept = s.kept := (rfl)
@[simp] theorem State.showRing_kept (s : State) : s.showRing.kept = s.kept := by simp [State.showRing]

@[simp] theorem State.storeBlock_kept (s : State) (b : SealedBlock) : (s.storeBlock b).kept = s.kept := by
  unfold State.storeBlock
  dsimp only
  (repeat' split) <;> simp

@[simp] theorem State.sealBlock_kept (s : State) (cause : Nat) (afterReset : Bool) : (s.sealBlock cause afterReset).kept = s.kept := by
  unfold State.sealBlock
  dsimp only
  (repeat' split) <;> simp [State.kept_fields]

@[simp] theorem State.sealDue_kept (s : State) : s.sealDue.kept = s.kept := by
  unfold State.sealDue
  split <;> simp

theorem State.withBuffer_kept (s : State) (f : State → State) (h : ∀ t : State, (f t).kept = t.kept) : (s.withBuffer f).kept = s.kept := by
  unfold State.withBuffer
  dsimp only
  have ha := s.fresh.2.ctlAlloc_kept (1 + s.fresh.1 % 4096) 3
  split
  · next t b heq => simpa [heq, h] using ha
  · next t heq => simpa [heq] using ha

@[simp] theorem State.destroyOldKey_kept (s : State) : s.destroyOldKey.kept = s.kept := by simp [State.destroyOldKey, State.kept_fields]
@[simp] theorem State.ringLost_kept (s : State) (lo len : Nat) : (s.ringLost lo len).kept = s.kept := by simp [State.ringLost]
@[simp] theorem State.endExport_kept (s : State) (x : ExportRun) (st : Status) :
    (s.endExport x st).kept = s.kept := by simp [State.endExport]
@[simp] theorem State.ingressStart_kept (s : State) (p raw detect : Nat) (bytes : Bytes) :
    (s.ingressStart p raw detect bytes).kept = s.kept := by simp [State.ingressStart]
@[simp] theorem State.spread_kept (s : State) (f : Frame) : (s.spread f).kept = s.kept := (rfl)
@[simp] theorem State.discardRest_kept (s : State) (f : Frame) (reason : Nat) :
    (s.discardRest f reason).kept = s.kept := by simp [State.discardRest]
@[simp] theorem State.dropFragment_kept (s : State) (f : Frame) : (s.dropFragment f).kept = s.kept := (rfl)
@[simp] theorem State.frameEnd_kept (s : State) (f : Frame) (pcsError : Bool) (cutAt : Option Nat) (oddNibble : Bool) :
    (s.frameEnd f pcsError cutAt oddNibble).kept = s.kept := by simp [State.frameEnd]

@[simp] theorem State.ringSet_kept (s : State) (size tail : Fld) (seat ring value : Nat) {k : Kept} (h : s.kept = k) :
    Yields (s.ringSet size tail seat ring value) (fun t => t.kept = k) := by
  simp [State.ringSet, h]

@[simp] theorem State.txRefused_kept (s : State) (seat index length : Nat) : (s.txRefused seat index length).kept = s.kept := (rfl)

end Sys2Proof.Machine
end

section
/-! SUPPORT. What only some commands change, kept by the Collector, identity, stamps, lanes and the management port. -/

namespace Sys2Proof.Machine

@[simp] theorem State.setMain_kept (s : State) (f : Collector → Collector) (h : ∀ x, (f x).latches = x.latches) :
    (s.setMain f).kept = s.kept := by simp [State.setMain, h]
@[simp] theorem State.showAlert_kept (s : State) : s.showAlert.kept = s.kept := (rfl)
@[simp] theorem State.showSource_kept (s : State) (i : Nat) : (s.showSource i).kept = s.kept := (rfl)
@[simp] theorem State.faultRecord_kept (s : State) (e : HistEntry) : (s.faultRecord e).kept = s.kept := by simp [State.faultRecord]
@[simp] theorem State.enterHist_kept (s : State) (e : HistEntry) : (s.enterHist e).kept = s.kept := (rfl)
@[simp] theorem State.assertFaultN_kept (s : State) (src : Nat) : (s.assertFaultN src).kept = s.kept := by simp [State.assertFaultN]
@[simp] theorem State.freezeIfDue_kept (s : State) (n firstSrc : Nat) :
    (s.freezeIfDue n firstSrc).kept = s.kept := by simp [State.freezeIfDue]
@[simp] theorem State.retireCopy_kept (s : State) (fld : Fld) (copy : Nat) (fails : Bool) :
    (s.retireCopy fld copy fails).kept = s.kept := by simp [State.retireCopy]
@[simp] theorem State.setPipe_kept (s : State) (g : Nat) (x : PipeState) : (s.setPipe g x).kept = s.kept := (rfl)
@[simp] theorem State.askDrafen_kept (s : State) (level : Nat) : (s.askDrafen level).kept = s.kept := (rfl)
@[simp] theorem State.toReplay_kept (s : State) (g : Nat) : (s.toReplay g).kept = s.kept := (rfl)
@[simp] theorem State.beginTakeOver_kept (s : State) (g value : Nat) : (s.beginTakeOver g value).kept = s.kept := (rfl)
@[simp] theorem State.strikeGroup_kept (s : State) (g : Nat) : (s.strikeGroup g).kept = s.kept := by simp [State.strikeGroup]
@[simp] theorem State.freeSpare_kept (s : State) : s.freeSpare.kept = s.kept := (rfl)
@[simp] theorem State.spareFails_kept (s : State) : s.spareFails.kept = s.kept := (rfl)

@[simp] theorem State.pipelineFault_kept (s : State) (g : Nat) : (s.pipelineFault g).kept = s.kept := by
  unfold State.pipelineFault
  (repeat' split) <;> simp

@[simp] theorem State.giveBack_kept (s : State) : s.giveBack.kept = s.kept := by simp [State.giveBack]

@[simp] theorem State.giveBackSwitch_kept (s : State) (g : Nat) : (s.giveBackSwitch g).kept = s.kept := by
  unfold State.giveBackSwitch
  dsimp only
  (repeat' split) <;> simp

@[simp] theorem State.setIdn_kept (s : State) (f : Idn → Idn) (h : ∀ x, (f x).ownerHash = x.ownerHash ∧ (f x).rollback = x.rollback) :
    (s.setIdn f).kept = s.kept := by simp [State.setIdn, State.kept_fields, h]
@[simp] theorem State.freshBytes_kept (s : State) : s.freshBytes.2.kept = s.kept := (rfl)
@[simp] theorem State.showCert_kept (s : State) : s.showCert.kept = s.kept := (rfl)
@[simp] theorem State.setCert_kept (s : State) (n : Nat) (b : Bytes) : (s.setCert n b).kept = s.kept := (rfl)
@[simp] theorem State.selectCert_kept (s : State) (n : Nat) : (s.selectCert n).kept = s.kept := (rfl)
@[simp] theorem State.readCert_kept (s : State) : s.readCert.2.kept = s.kept := (rfl)
@[simp] theorem State.placeCerts_kept (s : State) (area : List Bytes) : (s.placeCerts area).kept = s.kept := (rfl)
@[simp] theorem State.loadFailed_kept (s : State) : s.loadFailed.kept = s.kept := (rfl)
@[simp] theorem State.standbyLost_kept (s : State) : s.standbyLost.kept = s.kept := (rfl)
@[simp] theorem State.startCores_kept (s : State) (test0 test1 : Bool) :
    (s.startCores test0 test1).kept = s.kept := by simp [State.startCores, State.kept_fields]
@[simp] theorem State.installImage_kept (s : State) (b : Bytes) : (s.installImage b).kept = s.kept := by simp [State.installImage]
@[simp] theorem State.loadImage_kept (s : State) (b : Bytes) (copiesAgree test0 test1 : Bool) :
    (s.loadImage b copiesAgree test0 test1).kept = s.kept := by simp [State.loadImage, State.kept_fields]
@[simp] theorem State.drawKey_kept (s : State) : s.drawKey.2.kept = s.kept := (rfl)
@[simp] theorem State.showKey_kept (s : State) (id : Nat) : (s.showKey id).kept = s.kept := (rfl)
@[simp] theorem State.rotate_kept (s : State) (seat : Nat) {k : Kept} (h : s.kept = k) : Yields (s.rotate seat) (fun t => t.kept = k) := by
  simp [State.rotate, h]
@[simp] theorem State.sealForRotation_kept (s : State) (new : Nat) :
    (s.sealForRotation new).kept = s.kept := by simp [State.sealForRotation]

@[simp] theorem State.fuseWrite_kept (s : State) (seat op : Nat) {k : Kept} (h : s.kept = k) :
    Yields (s.fuseWrite seat op) (fun t => t.kept = k) := by
  simp [State.fuseWrite, h]

@[simp] theorem State.loadDelays_kept (s : State) (p mode : Nat) : (s.loadDelays p mode).kept = s.kept := by simp [State.loadDelays]

@[simp] theorem State.calGo_kept (s : State) (seat port : Nat) (apply : Bool) (count : Nat) {k : Kept} (h : s.kept = k) :
    Yields (s.calGo seat port apply count) (fun t => t.kept = k) := by
  subst h
  simp [State.calGo, State.kept_fields]

@[simp] theorem State.calEnd_kept (s : State) (result : Nat) : (s.calEnd result).kept = s.kept := by
  unfold State.calEnd
  dsimp only
  (repeat' split) <;> simp [State.kept_fields]

@[simp] theorem State.calDone_kept (s : State) (r : CalRun) (sum temp : Nat) :
    (s.calDone r sum temp).kept = s.kept := by simp [State.calDone]
@[simp] theorem State.tempComp_kept (s : State) (p : Nat) (temp : Int) : (s.tempComp p temp).kept = s.kept := by simp [State.tempComp]
@[simp] theorem State.showGroup_kept (s : State) (g : Nat) : (s.showGroup g).kept = s.kept := (rfl)
@[simp] theorem State.enterStage_kept (s : State) (p stage tick : Nat) :
    (s.enterStage p stage tick).kept = s.kept := by simp [State.enterStage]
@[simp] theorem State.eachLane_kept (s : State) (p : Nat) (f : State → Nat → State) (h : ∀ (t : State) x, (f t x).kept = t.kept) :
    (s.eachLane p f).kept = s.kept := by simp [State.eachLane, h]
@[simp] theorem State.unlockLane_kept (s : State) (n : Nat) : (s.unlockLane n).kept = s.kept := (rfl)
@[simp] theorem State.takeSnapshot_kept (s : State) (n : Nat) : (s.takeSnapshot n).kept = s.kept := (rfl)

@[simp] theorem State.loadSnapshot_kept (s : State) (n : Nat) : (s.loadSnapshot n).kept = s.kept := by
  unfold State.loadSnapshot
  split <;> simp

@[simp] theorem State.clearSnapshot_kept (s : State) (n : Nat) : (s.clearSnapshot n).kept = s.kept := (rfl)
@[simp] theorem State.restart_kept (s : State) (p tick : Nat) : (s.restart p tick).kept = s.kept := by simp [State.restart]
@[simp] theorem State.stageFail_kept (s : State) (p : Nat) : (s.stageFail p).kept = s.kept := by simp [State.stageFail]
@[simp] theorem State.lowerCause_kept (s : State) (p cause : Nat) : (s.lowerCause p cause).kept = s.kept := by simp [State.lowerCause]
@[simp] theorem State.leaveActive_kept (s : State) (p cause : Nat) (quick : Bool) :
    (s.leaveActive p cause quick).kept = s.kept := by simp [State.leaveActive]

@[simp] theorem State.portStart_kept (s : State) (seat p : Nat) {k : Kept} (h : s.kept = k) :
    Yields (s.portStart seat p) (fun t => t.kept = k) := by
  simp [State.portStart, h]

@[simp] theorem State.stopPort_kept (s : State) (p : Nat) : (s.stopPort p).kept = s.kept := by simp [State.stopPort]
@[simp] theorem State.forceRetrain_kept (s : State) (p : Nat) : (s.forceRetrain p).kept = s.kept := by simp [State.forceRetrain]
@[simp] theorem State.rollback_kept (s : State) (n : Nat) : (s.rollback n).kept = s.kept := by simp [State.rollback]
@[simp] theorem State.showSnapAge_kept (s : State) (n : Nat) : (s.showSnapAge n).kept = s.kept := by simp [State.showSnapAge]
@[simp] theorem State.fomMeasured_kept (s : State) (p n fom : Nat) : (s.fomMeasured p n fom).kept = s.kept := by simp [State.fomMeasured]

@[simp] theorem State.mgmtDown_kept (s : State) : s.mgmtDown.kept = s.kept := by
  unfold State.mgmtDown
  dsimp only
  split <;> simp

@[simp] theorem State.mgmtJudge_kept (s : State) : s.mgmtJudge.kept = s.kept := by simp [State.mgmtJudge]

@[simp] theorem State.mdioGo_kept (s : State) (phy reg : Nat) (isWrite : Bool) {k : Kept} (h : s.kept = k) :
    Yields (s.mdioGo phy reg isWrite) (fun t => t.kept = k) := by
  simp [State.mdioGo, h]

end Sys2Proof.Machine
end

section
/-! SUPPORT. What only some commands change, kept by Troupe, power and memory. -/

namespace Sys2Proof.Machine

@[simp] theorem State.setTrp_kept (s : State) (f : Trp → Trp) : (s.setTrp f).kept = s.kept := (rfl)
@[simp] theorem State.setPeer_kept (s : State) (n : Nat) (f : Peer → Peer) : (s.setPeer n f).kept = s.kept := (rfl)
@[simp] theorem State.showLive_kept (s : State) : s.showLive.kept = s.kept := (rfl)
@[simp] theorem State.sendCtl_kept (s : State) (type : Nat) (body : Bytes) :
    (s.sendCtl type body).kept = s.kept := by simp [State.sendCtl]
@[simp] theorem State.sendAck_kept (s : State) (type number : Nat) (st : Status) :
    (s.sendAck type number st).kept = s.kept := by simp [State.sendAck]
@[simp] theorem State.loadL_kept (s : State) (k : Nat) : (s.loadL k).kept = s.kept := by simp [State.loadL]
@[simp] theorem State.loadW_kept (s : State) (m : Nat) : (s.loadW m).kept = s.kept := by simp [State.loadW]
@[simp] theorem State.loadBases_kept (s : State) : s.loadBases.kept = s.kept := by simp [State.loadBases]
@[simp] theorem State.cancelLifts_kept (s : State) (p : Action → Bool) : (s.cancelLifts p).kept = s.kept := (rfl)

@[simp] theorem State.scheduleLift_kept (s : State) (o : LiftOrder) : (s.scheduleLift o).1.kept = s.kept := by
  unfold State.scheduleLift
  dsimp only
  (repeat' split) <;> simp [State.kept_fields]

@[simp] theorem State.noteAcked_kept (s : State) (n : Nat) : (s.noteAcked n).kept = s.kept := (rfl)
@[simp] theorem State.holdOrder_kept (s : State) (o : LiftOrder) (mine : Bool) : (s.holdOrder o mine).kept = s.kept := (rfl)

@[simp] theorem State.recall_kept (s : State) (frame : Nat) : (s.recall frame).kept = s.kept := by
  unfold State.recall
  rw [State.setTrp_kept, State.foldl_kept _ (fun s c => s.release_kept c)]
  rfl

@[simp] theorem State.issueOrder_kept (s : State) (lift : Nat) : (s.issueOrder lift).kept = s.kept := by
  unfold State.issueOrder
  dsimp only
  split <;> simp

@[simp] theorem State.leadCheck_kept (s : State) : s.leadCheck.kept = s.kept := by simp [State.leadCheck]
@[simp] theorem State.newLead_kept (s : State) : s.newLead.kept = s.kept := by simp [State.newLead]
@[simp] theorem State.askLift_kept (s : State) : s.askLift.kept = s.kept := by simp [State.askLift]
@[simp] theorem State.applyLift_kept (s : State) (number lift : Nat) (late : Bool) :
    (s.applyLift number lift late).kept = s.kept := by simp [State.applyLift]

@[simp] theorem State.loseMember_kept (s : State) (n : Nat) : (s.loseMember n).kept = s.kept := by
  unfold State.loseMember
  dsimp only
  split <;> simp

@[simp] theorem State.dropSilent_kept (s : State) : s.dropSilent.kept = s.kept := by simp [State.dropSilent]
@[simp] theorem State.takeLead_kept (s : State) : s.takeLead.kept = s.kept := by simp [State.takeLead]

@[simp] theorem State.repeatOrder_kept (s : State) : s.repeatOrder.kept = s.kept := by
  unfold State.repeatOrder
  split <;> simp

@[simp] theorem State.notePeer_kept (s : State) (p : Bytes) : (s.notePeer p).kept = s.kept := (rfl)
@[simp] theorem State.noteClash_kept (s : State) : s.noteClash.kept = s.kept := by simp [State.noteClash]

@[simp] theorem State.takeCtl_kept (s : State) (type port : Nat) (b : Bytes) (f : State → Nat → Bytes → State)
    (h : ∀ (t : State) x y, (f t x y).kept = t.kept) :
    (s.takeCtl type port b f).kept = s.kept := by simp [State.takeCtl, h]

@[simp] theorem State.refuseBase_kept (s : State) : s.refuseBase.kept = s.kept := (rfl)
@[simp] theorem State.applyBases_kept (s : State) (c : BaseChange) : (s.applyBases c).kept = s.kept := by simp [State.applyBases]
@[simp] theorem State.holdGrants_kept (s : State) (due : Nat) (g : List Nat) :
    (s.holdGrants due g).kept = s.kept := by simp [State.holdGrants]

@[simp] theorem State.takeGrant_kept (s : State) (w : GrantWait) : (s.takeGrant w).1.kept = s.kept := by
  unfold State.takeGrant
  dsimp only
  (repeat' split) <;> simp

@[simp] theorem State.trpEnable_kept (s : State) (on : Bool) : (s.trpEnable on).kept = s.kept := by simp [State.trpEnable]
@[simp] theorem State.sendProfile_kept (s : State) (k value : Nat) : (s.sendProfile k value).kept = s.kept := by simp [State.sendProfile]
@[simp] theorem State.unlift_kept (s : State) : s.unlift.kept = s.kept := by simp [State.unlift]
@[simp] theorem State.setPwr_kept (s : State) (f : Pwr → Pwr) : (s.setPwr f).kept = s.kept := (rfl)
@[simp] theorem State.railFaults_kept (s : State) (faults : Nat) : (s.railFaults faults).kept = s.kept := by simp [State.railFaults]

@[simp] theorem State.railReading_kept (s : State) (r : Nat) (x : Option (Nat × Nat)) : (s.railReading r x).kept = s.kept := by
  unfold State.railReading
  split <;> simp

@[simp] theorem State.stepAction_kept (s : State) (step : Nat) (enter : Bool) : (s.stepAction step enter).kept = s.kept := by
  unfold State.stepAction
  split <;> simp

@[simp] theorem State.stepUp_kept (s : State) : s.stepUp.kept = s.kept := by simp [State.stepUp]
@[simp] theorem State.stepDown_kept (s : State) : s.stepDown.kept = s.kept := by simp [State.stepDown]

@[simp] theorem State.toFloor_kept (s : State) (n : Nat) : (s.toFloor n).kept = s.kept := by
  induction n generalizing s with
  | zero => rfl
  | succ n ih =>
    unfold State.toFloor
    split <;> simp [ih]

@[simp] theorem State.holdFloor_kept (s : State) : s.holdFloor.kept = s.kept := by simp [State.holdFloor]
@[simp] theorem State.setClock_kept (s : State) (f : Nat) : (s.setClock f).kept = s.kept := (rfl)

@[simp] theorem State.chooseLower_kept (s : State) : s.chooseLower.kept = s.kept := by
  unfold State.chooseLower
  split <;> simp

@[simp] theorem State.deepen_kept (s : State) : s.deepen.kept = s.kept := by simp [State.deepen]

@[simp] theorem State.relax_kept (s : State) : s.relax.kept = s.kept := by
  unfold State.relax
  split <;> simp

@[simp] theorem State.railRuns_kept (s : State) : s.railRuns.kept = s.kept := by simp [State.railRuns]
@[simp] theorem State.judgeModel_kept (s : State) (est : Nat) : (s.judgeModel est).kept = s.kept := by simp [State.judgeModel]

@[simp] theorem State.emergency_kept (s : State) : s.emergency.kept = s.kept := by
  unfold State.emergency
  split <;> simp

@[simp] theorem State.decideStep_kept (s : State) (est : Nat) : (s.decideStep est).kept = s.kept := by simp [State.decideStep]
@[simp] theorem State.sensor_kept (s : State) (t : Nat) (v : Int) : (s.sensor t v).kept = s.kept := by simp [State.sensor]
@[simp] theorem State.judgeThrottle_kept (s : State) : s.judgeThrottle.kept = s.kept := by simp [State.judgeThrottle]
@[simp] theorem State.setMem_kept (s : State) (f : Mem → Mem) : (s.setMem f).kept = s.kept := (rfl)
@[simp] theorem State.showMem_kept (s : State) : s.showMem.kept = s.kept := (rfl)
@[simp] theorem State.occupy_kept (s : State) (c ticks : Nat) : (s.occupy c ticks).kept = s.kept := (rfl)
@[simp] theorem State.refreshChan_kept (s : State) (c : Nat) : (s.refreshChan c).kept = s.kept := (rfl)
@[simp] theorem State.failChan_kept (s : State) (c : Nat) : (s.failChan c).kept = s.kept := by simp [State.failChan]
@[simp] theorem State.memCorrected_kept (s : State) (c addr : Nat) : (s.memCorrected c addr).kept = s.kept := (rfl)
@[simp] theorem State.memRebuilt_kept (s : State) (c addr : Nat) : (s.memRebuilt c addr).kept = s.kept := by simp [State.memRebuilt]
@[simp] theorem State.showStack_kept (s : State) (k : Nat) : (s.showStack k).kept = s.kept := (rfl)
@[simp] theorem State.putReq_kept (s : State) (r : MemReq) : (s.putReq r).kept = s.kept := (rfl)
@[simp] theorem State.askChans_kept (s : State) (o : MemOp) : (s.askChans o).kept = s.kept := by simp [State.askChans]
@[simp] theorem State.pumpOps_kept (s : State) : s.pumpOps.kept = s.kept := by simp [State.pumpOps]
@[simp] theorem State.memArrive_kept (s : State) (c : Nat) (r : Nat × Nat × Nat) :
    (s.memArrive c r).kept = s.kept := by simp [State.memArrive]

@[simp] theorem State.opServed_kept (s : State) (id c : Nat) : (s.opServed id c).kept = s.kept := by
  unfold State.opServed
  split <;> simp

@[simp] theorem State.serve_kept (s : State) (r : MemReq) (err : Fin 4) (draw : Bool) : (s.serve r err draw).kept = s.kept := by
  unfold State.serve
  (repeat' split) <;> simp

@[simp] theorem State.setSr_kept (s : State) (k st tick : Nat) : (s.setSr k st tick).kept = s.kept := (rfl)
@[simp] theorem State.wakeStack_kept (s : State) (k : Nat) : (s.wakeStack k).kept = s.kept := (rfl)

end Sys2Proof.Machine
end

section
/-! SUPPORT. What only some commands change, kept by queues, tables, and the reads and writes of the seats. -/

namespace Sys2Proof.Machine

@[simp] theorem State.refreshFlow_kept (s : State) (p : Nat) : (s.refreshFlow p).kept = s.kept := by simp [State.refreshFlow]
@[simp] theorem State.showPause_kept (s : State) (p : Nat) : (s.showPause p).kept = s.kept := (rfl)
@[simp] theorem State.setPause_kept (s : State) (p c t quanta : Nat) : (s.setPause p c t quanta).kept = s.kept := (rfl)
@[simp] theorem State.takePause_kept (s : State) (p t : Nat) (b : Bytes) : (s.takePause p t b).kept = s.kept := by simp [State.takePause]

@[simp] theorem State.refillShaper_kept (s : State) (before m : Nat) : (s.refillShaper before m).kept = s.kept := by
  unfold State.refillShaper
  (repeat' split) <;> simp

@[simp] theorem State.refillBuckets_kept (s : State) : s.refillBuckets.kept = s.kept := (rfl)
@[simp] theorem State.refillShapers_kept (s : State) : s.refillShapers.kept = s.kept := by simp [State.refillShapers]

@[simp] theorem State.showGcl_kept (s : State) (p : Nat) : (s.showGcl p).kept = s.kept := by
  unfold State.showGcl
  split <;> simp

@[simp] theorem State.changeList_kept (s : State) (l : GateList) : (s.changeList l).kept = s.kept := by simp [State.changeList]
@[simp] theorem State.changeLists_kept (s : State) : s.changeLists.kept = s.kept := by simp [State.changeLists]

@[simp] theorem State.installGates_kept (s : State) (p : Nat) (en : Bool) (h : Nat) : (s.installGates p en h).kept = s.kept := by
  unfold State.installGates
  (repeat' split) <;> simp

@[simp] theorem State.queueSample_kept (s : State) (p : Nat) : (s.queueSample p).kept = s.kept := by simp [State.queueSample]
@[simp] theorem State.showEm_kept (s : State) (t : Nat) : (s.showEm t).kept = s.kept := by simp [State.showEm]

@[simp] theorem State.walk_kept (s : State) (t fuel side cur : Nat) (path : List EmEntry) : (s.walk t fuel side cur path).1.kept = s.kept := by
  induction fuel generalizing s side cur path with
  | zero => rfl
  | succ fuel ih =>
    unfold State.walk
    dsimp only
    (repeat' split) <;> simp [ih]

@[simp] theorem State.planInsert_kept (s : State) (e : EmEntry) : (s.planInsert e).1.kept = s.kept := by
  unfold State.planInsert
  dsimp only
  split
  · rfl
  · split
    · rfl
    · have h := s.walk_kept e.table 32 0 e.key []
      split
      · next t path f heq => simpa [heq] using h
      · next t heq => split <;> simpa [heq] using h

@[simp] theorem State.rewritten_kept (s : State) (table index : Nat) : (s.rewritten table index).kept = s.kept := (rfl)

@[simp] theorem State.applyWrite_kept (s : State) (walking : Bool) (w : TabWrite) : (s.applyWrite walking w).kept = s.kept := by
  unfold State.applyWrite
  split <;> simp

@[simp] theorem State.putLearn_kept (s : State) (o : LearnOp) : (s.putLearn o).kept = s.kept := (rfl)

@[simp] theorem State.unstashFor_kept (s : State) (t : Nat) (l : Loc) : (s.unstashFor t l).kept = s.kept := by
  unfold State.unstashFor
  (repeat' split) <;> simp

@[simp] theorem State.retryMove_kept (s : State) : s.retryMove.kept = s.kept := by
  unfold State.retryMove
  split <;> simp

@[simp] theorem State.removeKey_kept (s : State) (t key : Nat) : (s.removeKey t key).kept = s.kept := by
  unfold State.removeKey
  split <;> simp

@[simp] theorem State.showPinLog_kept (s : State) : s.showPinLog.kept = s.kept := (rfl)

@[simp] theorem State.notePin_kept (s : State) (key count : Nat) : (s.notePin key count).kept = s.kept := by
  unfold State.notePin
  dsimp only
  split <;> simp

@[simp] theorem State.learnEvent_kept (s : State) (key : Nat) (e : Option EmEntry) (port d : Nat) :
    (s.learnEvent key e port d).1.kept = s.kept := by
  unfold State.learnEvent
  (repeat' split) <;> simp

@[simp] theorem State.learnEvents_kept (s : State) (key : Nat) (e : Option EmEntry) (l : List (Nat × Nat)) :
    (s.learnEvents key e l).1.kept = s.kept := by
  induction l generalizing s e with
  | nil => rfl
  | cons x rest ih =>
    unfold State.learnEvents
    rw [ih, State.learnEvent_kept]

@[simp] theorem State.learnFail_kept (s : State) : s.learnFail.kept = s.kept := (rfl)
@[simp] theorem State.finishTab_kept (s : State) (p : Packet) : (s.finishTab p).kept = s.kept := by simp [State.finishTab]

@[simp] theorem State.beginWrites_kept (s : State) (t : Nat) (w : List TabWrite) (p : Option Packet) :
    (s.beginWrites t w p).kept = s.kept := by
  unfold State.beginWrites
  (repeat' split) <;> simp

@[simp] theorem State.continueOp_kept (s : State) (o : TabOp) : (s.continueOp o).kept = s.kept := by
  unfold State.continueOp
  (repeat' split) <;> simp

@[simp] theorem State.learnOp_kept (s : State) (o : LearnOp) : (s.learnOp o).kept = s.kept := by
  unfold State.learnOp
  split
  · next key events =>
    split
    · simp
    · extract_lets old
      have h := s.learnEvents_kept key old events
      split
      · next t heq => simpa [heq] using h
      · next t e heq =>
        have ht : t.kept = s.kept := by simpa [heq] using h
        clear_value old
        cases old with
        | some x => simp [ht]
        | none =>
          have hp := t.planInsert_kept e
          dsimp only
          split
          · next u w hu => simpa [hu, ht] using hp
          · simp
  · split <;> simp
  · split
    · split
      · extract_lets l
        clear_value l
        cases l <;> simp
      · rfl
    · rfl

@[simp] theorem State.softEm_kept (s : State) (t : Nat) (p : Packet) : (s.softEm t p).kept = s.kept := by
  unfold State.softEm
  extract_lets w e
  split
  · simp
  · split
    · split <;> simp
    · have h := s.planInsert_kept e
      split
      · next u ws heq => simpa [heq] using h
      · next u heq => simpa [heq] using h

@[simp] theorem State.showPrefix_kept (s : State) : s.showPrefix.kept = s.kept := (rfl)
@[simp] theorem State.dropPrefix_kept (s : State) (i : Nat) : (s.dropPrefix i).kept = s.kept := (rfl)

@[simp] theorem State.softPrefix_kept (s : State) (p : Packet) : (s.softPrefix p).kept = s.kept := by
  unfold State.softPrefix
  dsimp only
  split <;> simp

@[simp] theorem State.softList_kept (s : State) (p : Packet) : (s.softList p).kept = s.kept := by simp [State.softList]
@[simp] theorem State.softOp_kept (s : State) (o : SoftOp) : (s.softOp o).kept = s.kept := by simp [State.softOp]

@[simp] theorem State.loseEntry_kept (s : State) (table index : Nat) : (s.loseEntry table index).kept = s.kept := by
  unfold State.loseEntry
  (repeat' split) <;> simp

@[simp] theorem State.repairCopy_kept (s : State) (r : Repair) : (s.repairCopy r).kept = s.kept := by
  unfold State.repairCopy
  dsimp only
  split <;> simp

@[simp] theorem State.writeSlot_kept (s : State) (table : Nat) : (s.writeSlot table).kept = s.kept := by
  unfold State.writeSlot
  (repeat' split) <;> simp

@[simp] theorem State.setHit_kept (s : State) (t key : Nat) : (s.setHit t key).kept = s.kept := (rfl)
@[simp] theorem State.queueLearn_kept (s : State) (key port d : Nat) :
    (s.queueLearn key port d).kept = s.kept := by simp [State.queueLearn]

@[simp] theorem State.learnDecide_kept (s : State) (c : Candidate) : (s.learnDecide c).kept = s.kept := by
  unfold State.learnDecide
  dsimp only
  (repeat' split) <;> simp

@[simp] theorem State.learnDue_kept (s : State) : s.learnDue.kept = s.kept := by simp [State.learnDue]
@[simp] theorem State.ageEntry_kept (s : State) (e : EmEntry) (hitError : Bool) :
    (s.ageEntry e hitError).kept = s.kept := by simp [State.ageEntry]
@[simp] theorem State.pinLogPop_kept (s : State) : s.pinLogPop.kept = s.kept := (rfl)
@[simp] theorem State.showHist_kept (s : State) : s.showHist.kept = s.kept := (rfl)
@[simp] theorem State.showStore_kept (s : State) : s.showStore.kept = s.kept := (rfl)

@[simp] theorem State.showRoutine_kept (s : State) : s.showRoutine.kept = s.kept := by
  unfold State.showRoutine
  split <;> simp

@[simp] theorem State.showFor_kept (s : State) (addr : Nat) : (s.showFor addr).kept = s.kept := by
  unfold State.showFor
  (repeat' split) <;> simp

@[simp] theorem State.readReg_kept (s : State) (r : RegD) (n : Nat) : (s.readReg r n).2.kept = s.kept := by
  unfold State.readReg
  (repeat' split) <;> simp

@[simp] theorem State.readHalf_kept (s : State) (seat addr lo hi : Nat) (isHi : Bool) :
    (s.readHalf seat addr lo hi isHi).2.kept = s.kept := by
  unfold State.readHalf
  split <;> simp

@[simp] theorem State.readWord_kept (s : State) (seat addr : Nat) : Yields (s.readWord seat addr) (fun x => x.2.kept = s.kept) := by
  unfold State.readWord
  dsimp only
  (repeat' split) <;> simp

@[simp] theorem State.poke_kept (s : State) (r : RegD) (n mask value : Nat) :
    (s.poke r n mask value).kept = s.kept := by simp [State.poke, State.kept_fields]
@[simp] theorem State.flushCmd_kept (s : State) (e : Nat) : (s.flushCmd e).kept = s.kept := (rfl)
@[simp] theorem State.rejoinCore_kept (s : State) (k : Nat) : (s.rejoinCore k).kept = s.kept := by simp [State.rejoinCore]

@[simp] theorem State.askSwap_kept (s : State) {k : Kept} (h : s.kept = k) : Yields s.askSwap (fun t => t.kept = k) := by
  subst h
  simp [State.askSwap, State.kept_fields]

@[simp] theorem State.retryChan_kept (s : State) (c : Nat) : (s.retryChan c).kept = s.kept := by simp [State.retryChan]
@[simp] theorem State.forcePipe_kept (s : State) (g : Nat) {k : Kept} (h : s.kept = k) : Yields (s.forcePipe g) (fun t => t.kept = k) := by
  simp [State.forcePipe, h]
@[simp] theorem State.askGiveBack_kept (s : State) {k : Kept} (h : s.kept = k) : Yields s.askGiveBack (fun t => t.kept = k) := by
  simp [State.askGiveBack, h]
@[simp] theorem State.releaseFrozen_kept (s : State) : s.releaseFrozen.kept = s.kept := (rfl)
@[simp] theorem State.deepSwitch_kept (s : State) (d : Nat) (was on : Bool) :
    (s.deepSwitch d was on).kept = s.kept := by simp [State.deepSwitch]
@[simp] theorem State.askReset_kept (s : State) : s.askReset.kept = s.kept := (rfl)

theorem State.hook_kept (s t : State) (seat : Nat) (r : RegD) (n mask value : Nat) {k : Kept} (hs : s.kept = k) (ht : t.kept = k) :
    Yields (s.hook t seat r n mask value) (fun u => u.kept = k) := by
  simp [State.hook, hs, ht]
  intros
  exact (t.forcePipe_kept _ ht).mono fun x hx => by split <;> simp [hx]

theorem State.applyWord_kept (s : State) (seat : Nat) (w : StagedWord) : Yields (s.applyWord seat w) (fun t => t.kept = s.kept) := by
  unfold State.applyWord
  split
  · simp
  · split
    · simp
    · exact s.hook_kept _ _ _ _ _ _ rfl (by simp)

theorem State.tryWord_kept (force s : State) (seat txn : Nat) (state : Except Status Unit) (w : StagedWord) (owned : Bool) :
    Yields (State.tryWord force s seat txn state w owned) (fun x => x.2.kept = s.kept) := by
  unfold State.tryWord
  split
  · simp
  · simp [State.applyWord_kept]

theorem Direct.word_kept (x : Direct) (seat : Nat) (w : StagedWord) (owned : Bool) :
    Yields (x.word seat w owned) (fun y => y.t.kept = x.t.kept) := by
  unfold Direct.word
  generalize x.t.pairWords seat w = q
  obtain ⟨words, staging⟩ := q
  dsimp only
  have h : Yields (words.foldlM (fun (x : Direct) (w : StagedWord) => do
      let (c, t) ← x.t.tryWord x.t seat 0 (pure ()) w owned
      pure (⟨t.extendD 0 seat 0 w.addr w.mask [w.value], x.words ++ [w], x.anyS || c == .s⟩ : Direct)) x) (fun y => y.t.kept = x.t.kept) := by
    refine yields_foldlM (fun y v hy => ?_) words rfl
    rw [yields_bind]
    exact (State.tryWord_kept _ _ _ _ _ _ _).mono fun z hz => by simpa [hy] using hz
  simp only [yields_ite, yields_bind, yields_pure]
  split
  · exact (yields_true _).mono fun _ _ => h.mono fun y hy => hy
  · exact h.mono fun y hy => hy

theorem State.writeDirect_kept (s : State) (seat : Nat) (words : List StagedWord) (waiting : Option Packet) (owned : Bool) :
    Yields (s.writeDirect seat words waiting owned) (fun x => x.1.kept = s.kept) := by
  have h : Yields (words.foldlM (fun (x : Direct) w => x.word seat w owned) ⟨s, [], false⟩) (fun x => x.t.kept = s.kept) :=
    yields_foldlM (fun x w hx => (x.word_kept seat w owned).mono fun y hy => hy.trans hx) words rfl
  unfold State.writeDirect
  rw [yields_bind]
  exact h.mono fun x hx => by split <;> simp [hx]

@[simp] theorem State.noteRefusal_kept (s : State) (e : Status) : (s.noteRefusal e).kept = s.kept := by simp [State.noteRefusal]

@[simp] theorem State.seatWrite_kept (s : State) (seat addr value mask : Nat) : (s.seatWrite seat addr value mask).kept = s.kept := by
  refine s.whenLive_kept _ ?_
  have h := s.classThree.writeDirect_kept seat [⟨addr, mask, value⟩] none false
  dsimp only
  split
  · next t b heq => split <;> simpa using h _ heq
  · simp

@[simp] theorem State.msixWrite_kept (s : State) (seat i value mask : Nat) : (s.msixWrite seat i value mask).kept = s.kept := (rfl)

@[simp] theorem State.pairWrite_kept (s : State) (seat addr value mask : Nat) (half : Half) :
    (s.pairWrite seat addr value mask half).kept = s.kept := by
  unfold State.pairWrite
  split <;> simp

@[simp] theorem State.refreshMirrors_kept (s : State) : s.refreshMirrors.kept = s.kept := by simp [State.refreshMirrors]
@[simp] theorem State.setFraming_kept (s : State) (e : Nat) : (s.setFraming e).kept = s.kept := (rfl)

theorem State.takePacket_kept (s : State) (e : Fin 4) : ∀ t ∈ s.takePacket e, t.kept = s.kept := by
  unfold State.takePacket
  extract_lets x
  split
  · simp
  · extract_lets len w u p v
    have hu : u.kept = s.kept := by simp [u]
    split
    · simp
    · split
      · simp
      · split
        · simp
        · split
          · simp
          · split
            · simp [v, hu]
            · split
              · next t heq => simpa [hu] using u.acceptPacket_kept p .window t heq
              · simp [hu]

@[simp] theorem State.takePackets_kept (s : State) (e : Fin 4) (n : Nat) : (s.takePackets e n).kept = s.kept := by
  induction n generalizing s with
  | zero => rfl
  | succ n ih =>
    unfold State.takePackets
    split
    · next t ht => rw [ih, s.takePacket_kept e t ht]
    · rfl

@[simp] theorem State.takeAll_kept (s : State) : s.takeAll.kept = s.kept := by simp [State.takeAll]
@[simp] theorem State.pushWord_kept (s : State) (e w : Nat) : (s.pushWord e w).kept = s.kept := by simp [State.pushWord]

end Sys2Proof.Machine
end

section
/-! SUPPORT. What only some commands change, kept by commits, actions, commands, Drafen and the resets. -/

namespace Sys2Proof.Machine

@[simp] theorem State.overlay_kept (s : State) (words : List StagedWord) : (s.overlay words).kept = s.kept := by
  refine State.foldl_kept _ (fun s w => ?_) _ _
  split <;> simp

@[simp] theorem State.showRows_kept (s : State) : s.showRows.kept = s.kept := (rfl)
@[simp] theorem State.applyEntry_kept (s : State) (e : StagedEntry) : (s.applyEntry e).kept = s.kept := by simp [State.applyEntry]
@[simp] theorem State.commitRec_kept (s : State) (unit inst sub seat txn action : Nat) (late : Int) (units order lift acked : Nat) (st : Status) :
    (s.commitRec unit inst sub seat txn action late units order lift acked st).kept = s.kept := by simp [State.commitRec]
@[simp] theorem State.putTxn_kept (s : State) (t : Txn) : (s.putTxn t).kept = s.kept := (rfl)
@[simp] theorem State.setActions_kept (s : State) (l : List Action) : (s.setActions l).kept = s.kept := (rfl)
@[simp] theorem State.noteDiscard_kept (s : State) (id seat : Nat) : (s.noteDiscard id seat).kept = s.kept := (rfl)
@[simp] theorem State.noteLateCommit_kept (s : State) : s.noteLateCommit.kept = s.kept := (rfl)
@[simp] theorem State.endTxn_kept (s : State) (t : Txn) (st : Status) : (s.endTxn t st).kept = s.kept := by simp [State.endTxn]

@[simp] theorem State.rollBack_kept (s : State) (t : Txn) (cause units : Nat) : (s.rollBack t cause units).kept = s.kept := by
  unfold State.rollBack
  (repeat' split) <;> simp

@[simp] theorem State.prepared_kept (s : State) (t : Txn) (refused : List Nat) : (s.prepared t refused).kept = s.kept := by
  unfold State.prepared
  (repeat' split) <;> simp

@[simp] theorem State.takeAck_kept (s : State) (t : Txn) (u : Nat) : (s.takeAck t u).kept = s.kept := by
  unfold State.takeAck
  split <;> simp

@[simp] theorem State.applyItem_kept (s : State) (t : Txn) (x : StagedWord ⊕ StagedEntry) : (s.applyItem t x).kept = s.kept := by
  cases x with
  | inl w =>
    have h := s.applyWord_kept t.seat w
    unfold State.applyItem
    dsimp only
    rw [State.extendD_kept]
    split
    · next v hv => exact h v hv
    · rfl
  | inr e => simp [State.applyItem]

@[simp] theorem State.gatesAfter_kept (s : State) (p : Nat) (was : Bool) :
    (s.gatesAfter p was).kept = s.kept := by simp [State.gatesAfter]

@[simp] theorem State.commitTxn_kept (s : State) (t : Txn) : (s.commitTxn t).kept = s.kept := by
  unfold State.commitTxn
  (repeat' split) <;> simp

@[simp] theorem State.commitLift_kept (s : State) (a : Action) (fails : Bool) : (s.commitLift a fails).kept = s.kept := by
  unfold State.commitLift
  split <;> simp

@[simp] theorem State.nextGen_kept (s : State) : s.nextGen.kept = s.kept := (rfl)
@[simp] theorem State.setPhase_kept (s : State) (seat code : Nat) : (s.setPhase seat code).kept = s.kept := by simp [State.setPhase]

@[simp] theorem State.actionEffect_kept (s : State) (a : Action) : (s.actionEffect a).1.kept = s.kept := by
  unfold State.actionEffect
  split
  · next target value mask _ =>
    split
    · simp
    · have h := s.writeDirect_kept a.seat [⟨target, mask, value⟩] none true
      split
      · next t b heq => exact h _ heq
      · simp
  · simp
  · rfl

@[simp] theorem State.fireAction_kept (s : State) (a : Action) : (s.fireAction a).kept = s.kept := by simp [State.fireAction]
@[simp] theorem State.classFour_kept (s : State) (commits : List (Txn ⊕ Action)) (liftFails : Bool) :
    (s.classFour commits liftFails).kept = s.kept := by simp [State.classFour]
@[simp] theorem State.fireAll_kept (s : State) : s.fireAll.kept = s.kept := by simp [State.fireAll]
@[simp] theorem State.touchTxn_kept (s : State) (id : Nat) : (s.touchTxn id).kept = s.kept := (rfl)

theorem State.stageOne_kept (s : State) (seat id : Nat) (x : State × Txn) (w : StagedWord) :
    Yields (s.stageOne seat id x w) (fun y => y.1.kept = x.1.kept) := by
  unfold State.stageOne
  generalize x.1.pairWords seat w = q
  obtain ⟨words, staging⟩ := q
  simp

theorem State.stageAll_kept (s : State) (seat id : Nat) (words : List StagedWord) :
    Yields (s.stageAll seat id words) (fun t => t.kept = s.kept) := by
  unfold State.stageAll
  extract_lets blank t
  rw [yields_bind]
  refine (yields_foldlM (P := fun x => x.1.kept = s.kept) (fun x w hx => ?_) words rfl).mono fun x hx => ?_
  · exact (s.stageOne_kept seat id x w).mono fun y hy => hy.trans hx
  · simp [hx]

theorem State.readWords_kept (s : State) (seat addr n : Nat) : Yields (s.readWords seat addr n) (fun x => x.2.kept = s.kept) := by
  refine yields_foldlM (P := fun x : List Nat × State => x.2.kept = s.kept) (fun x i hx => ?_) _ rfl
  rw [yields_bind]
  exact (x.2.readWord_kept seat _).mono fun y hy => by simpa using hy.trans hx

@[simp] theorem State.beginPrepare_kept (s : State) (t : Txn) (p : Packet) (timed : Option TimedCommit) :
    (s.beginPrepare t p timed).kept = s.kept := (rfl)
@[simp] theorem State.clearQueueStatus_kept (s : State) (q : Nat) : (s.clearQueueStatus q).kept = s.kept := (rfl)
@[simp] theorem State.setDrafen_kept (s : State) (f : Drafen → Drafen) : (s.setDrafen f).kept = s.kept := (rfl)
@[simp] theorem State.setCore_kept (s : State) (k : Nat) (f : DrafenCore → DrafenCore) : (s.setCore k f).kept = s.kept := (rfl)
@[simp] theorem State.setRoutine_kept (s : State) (f : Routine → Routine) : (s.setRoutine f).kept = s.kept := (rfl)

@[simp] theorem State.aluStep_kept (s : State) (k nw : Nat) : (s.aluStep k nw).kept = s.kept := by
  unfold State.aluStep
  dsimp only
  (repeat' split) <;> simp

@[simp] theorem State.startRoutine_kept (s : State) (q : Request) (entry : Nat) : (s.startRoutine q entry).kept = s.kept := by
  unfold State.startRoutine
  dsimp only
  split <;> simp

@[simp] theorem State.freeAllocs_kept (s : State) (l : List Nat) : (s.freeAllocs l).kept = s.kept := by simp [State.freeAllocs]
@[simp] theorem State.countAbandon_kept (s : State) (n : Nat) : (s.countAbandon n).kept = s.kept := by simp [State.countAbandon]
@[simp] theorem State.abandon_kept (s : State) (r : Routine) : (s.abandon r).kept = s.kept := by simp [State.abandon]
@[simp] theorem State.logFault_kept (s : State) (addr cause : Nat) : (s.logFault addr cause).kept = s.kept := by simp [State.logFault]
@[simp] theorem State.toIdle_kept (s : State) (k : Nat) : (s.toIdle k).kept = s.kept := (rfl)

@[simp] theorem State.parkPacket_kept (s : State) (p : Option Packet) : (s.parkPacket p).kept = s.kept := by
  unfold State.parkPacket
  split <;> simp

@[simp] theorem State.microFault_kept (s : State) (k addr cause : Nat) : (s.microFault k addr cause).kept = s.kept := by
  unfold State.microFault
  dsimp only
  (repeat' split) <;> simp

theorem State.enterEffect_kept (s : State) (e : Effect) : ∀ t ∈ s.enterEffect e, t.kept = s.kept := by
  unfold State.enterEffect
  (repeat' split) <;> simp

@[simp] theorem State.commitPoint_kept (s : State) : s.commitPoint.kept = s.kept := by
  unfold State.commitPoint
  split <;> simp

@[simp] theorem State.toReg_kept (s : State) (k n v : Nat) : (s.toReg k n v).kept = s.kept := (rfl)

@[simp] theorem State.busEnd_kept (s : State) (k : Nat) (err : Option Nat) : (s.busEnd k err).kept = s.kept := by
  unfold State.busEnd
  split <;> simp

theorem State.journalRead_kept (s : State) (k dst : Nat) (read : State → Except Status (Nat × State))
    (h : Yields (read s) (fun x => x.2.kept = s.kept)) : ∀ t ∈ s.journalRead k dst read, t.kept = s.kept := by
  unfold State.journalRead
  extract_lets live
  have hl : ∀ t ∈ live, t.kept = s.kept := by
    simp only [live]
    split
    · simp
    · next v t heq =>
      have ht : t.kept = s.kept := h _ heq
      intro u hu
      rw [Option.mem_def, Option.ite_none_left_eq_some] at hu
      obtain ⟨-, hu⟩ := hu
      cases hu
      simp [ht]
  split
  · split
    · split
      · simp
      · exact hl
    · exact hl
  · exact hl

@[simp] theorem State.feedCheck_kept (s : State) (k data : Nat) : (s.feedCheck k data).kept = s.kept := (rfl)

theorem State.busIssue_kept (s : State) (k nw : Nat) : Yields (s.busIssue k nw) (fun t => t.kept = s.kept) := by
  unfold State.busIssue
  extract_lets c addr data enter
  have he : ∀ e, Yields (enter e) (fun t => t.kept = s.kept) := by
    intro e
    simp only [enter]
    split
    · next t ht => simpa using s.enterEffect_kept e t ht
    · simp
  (repeat' split) <;> simp [he]

theorem State.condition_kept (s : State) (k code : Nat) : ∀ x ∈ s.condition k code, x.2.kept = s.kept := by
  unfold State.condition
  dsimp only
  split <;> simp

theorem State.sequence_kept (s : State) (k mw nw : Nat) : Yields (s.sequence k mw nw) (fun t => t.kept = s.kept) := by
  unfold State.sequence
  extract_lets go stack p
  have hg : ∀ (u : State) pc st, Yields (go u pc st) (fun t => t.kept = u.kept) := by intro u pc st; simp [go]
  clear_value stack
  split
  · exact hg s _ _
  · split
    · simp
    · next c t heq =>
      rw [← s.condition_kept k _ _ heq]
      split
      · exact hg t _ _
      · split
        · simp
        · exact hg t _ _
      · split
        · exact hg t _ _
        · split
          · simp
          · exact hg t _ _

@[simp] theorem State.endRoutine_kept (s : State) (r : Routine) : (s.endRoutine r).kept = s.kept := by
  unfold State.endRoutine
  (repeat' split) <;> simp

@[simp] theorem State.replayEnds_kept (s : State) : s.replayEnds.kept = s.kept := (rfl)

@[simp] theorem State.subtractRc_kept (s : State) (addr value : Nat) : (s.subtractRc addr value).kept = s.kept := by
  unfold State.subtractRc
  split <;> simp

@[simp] theorem State.gatherWord_kept (s : State) (p : Option Packet) (w : Nat) : (s.gatherWord p w).kept = s.kept := by
  unfold State.gatherWord
  (repeat' split) <;> simp

@[simp] theorem State.handOver_kept (s : State) (k : Nat) : (s.handOver k).kept = s.kept := by
  unfold State.handOver
  dsimp only
  (repeat' split) <;> simp [State.kept_fields]

@[simp] theorem State.coreFails_kept (s : State) (k : Nat) : (s.coreFails k).kept = s.kept := by simp [State.coreFails]
@[simp] theorem State.setPins_kept (s : State) (f : Pins → Pins) : (s.setPins f).kept = s.kept := (rfl)
@[simp] theorem State.noteCause_kept (s : State) (f : Fld) : (s.noteCause f).kept = s.kept := (rfl)
@[simp] theorem State.loadPools_kept (s : State) : s.loadPools.kept = s.kept := by simp [State.loadPools]

@[simp] theorem State.latchStart_kept (s : State) (straps : Nat) : (s.latchStart straps).kept = s.kept := by
  unfold State.latchStart
  dsimp only
  split <;> simp

@[simp] theorem State.countDiscards_kept (s : State) : s.countDiscards.kept = s.kept := by
  unfold State.countDiscards
  simp only [State.setEvr_kept]
  rw [State.foldl_kept _ (fun s f => s.bumpDrop_kept _ _), State.foldl_kept]
  intro s x
  split <;> simp

@[simp] theorem State.holdEvidence_kept (s : State) : s.holdEvidence.kept = s.kept := by simp [State.holdEvidence]
@[simp] theorem State.forgetImage_kept (s : State) : s.forgetImage.kept = s.kept := (rfl)

@[simp] theorem State.warmReset_kept (s : State) : s.warmReset.kept = s.kept := by
  unfold State.warmReset
  extract_lets reload calRuns s₁ tim mem idn s₂ s₃ s₄ s₅ s₆ s₇ s₈ s₉ s₁₀ s₁₁
  have h₁ : s₁.kept = s.kept := by simp [s₁]
  have h₂ : s₂.kept = s₁.kept := rfl
  have h₄ : s₄.kept = s.kept := by rw [← h₁, ← h₂]; simp [s₄, s₃]
  have h₆ : s₆.kept = s.kept := by simp [s₆, s₅, h₄]
  have h₇ : s₇.kept = s.kept := by
    simp only [s₇]
    split <;> simp [h₆]
  have h₁₁ : s₁₁.kept = s.kept := by simp [s₁₁, s₁₀, s₉, s₈, h₇]
  simp [h₁₁]

@[simp] theorem State.resumeEvidence_kept (s : State) : s.resumeEvidence.kept = s.kept := by
  unfold State.resumeEvidence
  dsimp only
  split <;> simp

@[simp] theorem State.resume_kept (s : State) : s.resume.kept = s.kept := by simp [State.resume]
@[simp] theorem State.seatLinkLost_kept (s : State) (e : Nat) : (s.seatLinkLost e).kept = s.kept := (rfl)
@[simp] theorem State.tapDrive_kept (s : State) (rails : Bool) (code : Nat) (d : Drive) : (s.tapDrive rails code d).kept = s.kept := (rfl)

end Sys2Proof.Machine
end

section
/-! What a whole command keeps: the queue and the pins, from its gate, and the rest from its effect. -/

namespace Sys2Proof.Machine

/-- The queue and the pins of s, but for the tick that a write of SW_RESET leaves (R551). -/
structure State.Within (s t : State) : Prop where
  pending : t.pending = s.pending
  pins : t.pins = { s.pins with swAt := t.pins.swAt }

/-- The queue, the pins, and all that only some commands change. -/
structure State.Keeps (s t : State) : Prop extends s.Within t where
  kept : t.kept = s.kept

@[simp] theorem State.keeps_iff (s t : State) : s.Keeps t ↔ s.Within t ∧ t.kept = s.kept :=
  ⟨fun h => ⟨h.toWithin, h.kept⟩, fun h => ⟨h.1, h.2⟩⟩

/-- The state, if any, in which a command ends. -/
def Ends (o : Host.Outcome State Fault Refusal) (P : State → Prop) : Prop := ∀ t, o = .next t → P t

@[simp] theorem ends_next (t : State) (P : State → Prop) : Ends (.next t) P ↔ P t := ⟨fun h => h t rfl, fun h u e => by cases e; exact h⟩

/-! ### The gates -/

@[simp] theorem State.within_refl (s : State) : s.Within s := ⟨rfl, rfl⟩
@[simp] theorem State.answer_within (s : State) (st : Status) (data : List Nat) : s.Within (s.answer st data) := ⟨rfl, rfl⟩
@[simp] theorem State.inside_within (s t : State) : s.Within (s.inside t) := ⟨rfl, rfl⟩

@[simp] theorem State.when_within (s : State) (b : Bool) (f : State → State) : s.Within (s.when b f) := by
  unfold State.when
  split <;> simp

@[simp] theorem State.whenLive_within (s : State) (f : State → State) : s.Within (s.whenLive f) := by
  unfold State.whenLive
  split <;> simp

@[simp] theorem State.once_within (s : State) (k : Nat) (b : Bool) (f : State → State) : s.Within (s.once k b f) := s.when_within _ _

@[simp] theorem State.command_within (s : State) (p : Packet) (opcode : Nat) (body : State → Packet → Done) :
    s.Within (s.command p opcode body) := s.inside_within _

@[simp] theorem State.takeCtl_within (s : State) (type port : Nat) (b : Bytes) (f : State → Nat → Bytes → State) :
    s.Within (s.takeCtl type port b f) := s.whenLive_within _

@[simp] theorem State.seatWrite_within (s : State) (seat addr value mask : Nat) : s.Within (s.seatWrite seat addr value mask) :=
  s.whenLive_within _

@[simp] theorem State.seatRead_within (s : State) (seat addr : Nat) (half : Half) : s.Within (s.seatRead seat addr half) := s.whenLive_within _

@[simp] theorem State.pairWrite_within (s : State) (seat addr value mask : Nat) (half : Half) :
    s.Within (s.pairWrite seat addr value mask half) := by
  unfold State.pairWrite
  (repeat' split) <;> simp

@[simp] theorem State.fieldWrite_keeps (s : State) (seat n : Nat) (l : List (Fld × Nat)) : Ends (s.fieldWrite seat n l) s.Keeps := by
  cases l <;> simp [State.fieldWrite]

theorem State.when_keeps (s : State) (b : Bool) (f : State → State) (h : (f s).kept = s.kept) : s.Keeps (s.when b f) :=
  ⟨s.when_within b f, s.when_kept b f h⟩

theorem State.whenLive_keeps (s : State) (f : State → State) (h : (f s).kept = s.kept) : s.Keeps (s.whenLive f) :=
  ⟨s.whenLive_within f, s.whenLive_kept f h⟩

theorem State.once_keeps (s : State) (k : Nat) (b : Bool) (f : State → State) (h : ∀ t : State, (f t).kept = t.kept) :
    s.Keeps (s.once k b f) := ⟨s.once_within k b f, s.once_kept k b f h⟩

/-! ### Commands of packets (R441) -/

/-- The state, if any, in which the body of a command ends. -/
def Done.Ends (P : State → Prop) : Done → Prop
  | .refuse _ _ => True
  | .ok t _ _ => P t
  | .wait t => P t

@[simp] theorem Done.ends_refuse (P : State → Prop) (st : Status) (a : Answer) : (Done.refuse st a).Ends P := trivial
@[simp] theorem Done.ends_ok (P : State → Prop) (t : State) (st : Status) (a : Answer) : (Done.ok t st a).Ends P ↔ P t := Iff.rfl
@[simp] theorem Done.ends_wait (P : State → Prop) (t : State) : (Done.wait t).Ends P ↔ P t := Iff.rfl
@[simp] theorem Done.ends_ite (P : State → Prop) (c : Prop) [Decidable c] (d e : Done) :
    (if c then d else e).Ends P ↔ if c then d.Ends P else e.Ends P := by split <;> rfl

theorem State.command_kept_of {α : Type} (π : Kept → α) (s : State) (p : Packet) (opcode : Nat) (body : State → Packet → Done)
    (h : ∀ t p, (body t p).Ends (fun u => π u.kept = π t.kept)) : π (s.command p opcode body).kept = π s.kept := by
  unfold State.command
  rw [State.inside_kept]
  split
  · rfl
  · extract_lets u q accepted
    have hu : u.kept = s.kept := by simp [u]
    have ha : Yields accepted (fun t => t.kept = s.kept) := by
      simp only [accepted]
      split
      · simpa using hu
      · exact (u.acceptPacket_kept q .window).mono fun t ht => ht.trans hu
    clear_value accepted
    cases accepted with
    | error e => simp [hu]
    | ok t =>
      have ht : π t.kept = π s.kept := congrArg π (ha t rfl)
      have hb := h t q
      dsimp only
      split
      · split
        · exact ht
        · split
          · simpa using ht
          · next v st a heq => rw [heq] at hb; simpa using hb.trans ht
          · next v heq => rw [heq] at hb; simpa using hb.trans ht
      · exact ht

@[simp] theorem State.command_kept (s : State) (p : Packet) (opcode : Nat) (body : State → Packet → Done)
    (h : ∀ t p, (body t p).Ends (fun u => u.kept = t.kept)) : (s.command p opcode body).kept = s.kept :=
  s.command_kept_of id p opcode body h

theorem State.command_keeps (s : State) (p : Packet) (opcode : Nat) (body : State → Packet → Done)
    (h : ∀ t p, (body t p).Ends (fun u => u.kept = t.kept)) : s.Keeps (s.command p opcode body) :=
  ⟨s.command_within p opcode body, s.command_kept p opcode body h⟩

end Sys2Proof.Machine
end

section
/-! The bodies of the packet commands, and what takes faults first: neither counts, fuses nor sets the Canopy. -/

namespace Sys2Proof.Machine

/-! ### Bodies that leave the latched faults -/

@[simp] theorem evrSealBody_kept (s : State) (p : Packet) : (evrSealBody s p).Ends (fun t => t.kept = s.kept) := by
  unfold evrSealBody
  (repeat' split) <;> simp

@[simp] theorem evrPinBody_kept (s : State) (p : Packet) : (evrPinBody s p).Ends (fun t => t.kept = s.kept) := by
  simp [evrPinBody]

@[simp] theorem evrExportBody_kept (s : State) (p : Packet) : (evrExportBody s p).Ends (fun t => t.kept = s.kept) := by
  unfold evrExportBody
  cases s.evr.exporting <;> simp

@[simp] theorem attestBody_kept (s : State) (p : Packet) : (attestBody s p).Ends (fun t => t.kept = s.kept) := by
  unfold attestBody
  (repeat' split) <;> simp

@[simp] theorem schedBody_kept (s : State) (p : Packet) : (schedBody s p).Ends (fun t => t.kept = s.kept) := by
  unfold schedBody
  extract_lets w seat raw lateOk due kind early come checked
  clear_value checked
  cases checked <;> simp

@[simp] theorem cancelBody_kept (s : State) (p : Packet) : (cancelBody s p).Ends (fun t => t.kept = s.kept) := by
  unfold cancelBody
  extract_lets id seat tick
  split
  · extract_lets mine
    split <;> simp
  · (repeat' split) <;> simp

@[simp] theorem State.refused_kept (s : State) (e : Status) {k : Kept} (h : s.kept = k) : (s.refused e).Ends (fun t => t.kept = k) := by
  simp [State.refused, h]

@[simp] theorem State.writeWords_kept (s : State) (p : Packet) (words : List StagedWord) :
    (s.writeWords p words).Ends (fun t => t.kept = s.kept) := by
  unfold State.writeWords
  extract_lets seat id u
  split
  · have h := s.writeDirect_kept seat words (some p) false
    split
    · simp
    · next t later heq => split <;> exact h _ heq
  · have hu : u.kept = s.kept := by simp [u]
    split
    · exact u.refused_kept _ hu
    · next t heq => exact (u.stageAll_kept seat id words t heq).trans hu

@[simp] theorem writeBody_kept (s : State) (p : Packet) : (writeBody s p).Ends (fun t => t.kept = s.kept) := s.writeWords_kept p _

@[simp] theorem writeBlockBody_kept (s : State) (p : Packet) : (writeBlockBody s p).Ends (fun t => t.kept = s.kept) := s.writeWords_kept p _

@[simp] theorem echoBody_kept (s : State) (p : Packet) : (echoBody s p).Ends (fun t => t.kept = s.kept) := rfl

@[simp] theorem beginBody_kept (s : State) (p : Packet) : (beginBody s p).Ends (fun t => t.kept = s.kept) := by
  simp [beginBody]

@[simp] theorem commitBody_kept (s : State) (p : Packet) : (commitBody s p).Ends (fun t => t.kept = s.kept) := by
  unfold commitBody
  split <;> simp

@[simp] theorem commitAtBody_kept (s : State) (p : Packet) : (commitAtBody s p).Ends (fun t => t.kept = s.kept) := by
  unfold commitAtBody
  extract_lets w raw lateOk due come checked
  clear_value checked
  cases checked <;> simp

@[simp] theorem rollbackBody_kept (s : State) (p : Packet) : (rollbackBody s p).Ends (fun t => t.kept = s.kept) := by
  unfold rollbackBody
  extract_lets seat id tick
  split
  · simp
  · split <;> simp

@[simp] theorem State.keyedWrite_kept (s : State) (p : Packet) (del : Bool) : (s.keyedWrite p del).Ends (fun t => t.kept = s.kept) := by
  unfold State.keyedWrite
  extract_lets seat old touches checked
  clear_value checked
  cases checked <;> simp

@[simp] theorem State.indexedWrite_kept (s : State) (p : Packet) (size : Nat) (del : Bool) :
    (s.indexedWrite p size del).Ends (fun t => t.kept = s.kept) := by
  unfold State.indexedWrite
  extract_lets seat id e rest checked u
  have hu : u.kept = s.kept := by simp [u]
  clear_value checked
  split
  · exact u.refused_kept _ hu
  · split <;> simp [hu]
  · simp [hu]

@[simp] theorem State.fragDelete_kept (s : State) (p : Packet) : (s.fragDelete p).Ends (fun t => t.kept = s.kept) := by
  simp [State.fragDelete]

@[simp] theorem State.tableWrite_kept (s : State) (p : Packet) (del : Bool) : (s.tableWrite p del).Ends (fun t => t.kept = s.kept) := by
  unfold State.tableWrite
  (repeat' split) <;> simp

@[simp] theorem insertBody_kept (s : State) (p : Packet) : (insertBody s p).Ends (fun t => t.kept = s.kept) := s.tableWrite_kept p false

@[simp] theorem deleteBody_kept (s : State) (p : Packet) : (deleteBody s p).Ends (fun t => t.kept = s.kept) := s.tableWrite_kept p true

/-! ### What takes faults -/

@[simp] theorem State.applyAck_lasting (s : State) (a : AckPending) : (s.applyAck a).kept.lasting = s.kept.lasting := by
  unfold State.applyAck
  extract_lets c any level data u v h w
  have hu : u.kept.lasting = s.kept.lasting := rfl
  simp [w, v, hu]

@[simp] theorem State.autoAckOne_lasting (s : State) (a : Nat × Nat × Nat) : (s.autoAckOne a).kept.lasting = s.kept.lasting := by
  unfold State.autoAckOne
  rw [State.showSource_kept]
  split <;> rfl

@[simp] theorem State.foldl_lasting {α : Type} (f : State → α → State) (h : ∀ s x, (f s x).kept.lasting = s.kept.lasting) (l : List α)
    (s : State) : (l.foldl f s).kept.lasting = s.kept.lasting := by
  induction l generalizing s with
  | nil => rfl
  | cons x l ih => rw [List.foldl_cons, ih, h]

@[simp] theorem State.applyAcks_lasting (s : State) : s.applyAcks.kept.lasting = s.kept.lasting :=
  State.foldl_lasting _ State.applyAck_lasting _ _

@[simp] theorem State.autoAcks_lasting (s : State) : s.autoAcks.kept.lasting = s.kept.lasting :=
  State.foldl_lasting _ State.autoAckOne_lasting _ _

@[simp] theorem State.takeFault_lasting (s : State) (first : Bool) (e : FaultEvent) :
    (s.takeFault first e).kept.lasting = s.kept.lasting := by
  unfold State.takeFault
  extract_lets k level esc fn u v₁ v₂ v₃ v₄
  have hu : u.kept.lasting = s.kept.lasting := rfl
  simp [v₄, v₃, v₂, v₁, hu]

@[simp] theorem State.takeFaults_lasting (s : State) : s.takeFaults.kept.lasting = s.kept.lasting := by
  unfold State.takeFaults
  split
  · rfl
  · extract_lets u l v
    have hv : v.kept.lasting = s.kept.lasting := (s.applyAcks.autoAcks_lasting.trans s.applyAcks_lasting :)
    clear_value l
    split
    · exact hv
    · simp [hv]

@[simp] theorem State.takeDue_lasting (s : State) : s.takeDue.kept.lasting = s.kept.lasting := by
  simp [State.takeDue, apply_ite Kept.lasting]

@[simp] theorem State.caughtUp_lasting (s : State) : s.caughtUp.kept.lasting = s.kept.lasting := by
  unfold State.caughtUp
  split
  · rfl
  · simp

@[simp] theorem State.standbyBack_lasting (s : State) : s.standbyBack.kept.lasting = s.kept.lasting := by
  unfold State.standbyBack
  rw [State.showSource_kept]
  rfl

/-! ### What takes the faults of the tick before it acts -/

theorem State.when_lasting (s : State) (b : Bool) (f : State → State) (h : (f s).kept.lasting = s.kept.lasting) :
    (s.when b f).kept.lasting = s.kept.lasting := by
  unfold State.when
  split
  · exact h
  · rfl

theorem State.whenLive_lasting (s : State) (f : State → State) (h : (f s).kept.lasting = s.kept.lasting) :
    (s.whenLive f).kept.lasting = s.kept.lasting := by
  unfold State.whenLive
  split
  · exact h
  · rfl

@[simp] theorem State.seatRead_lasting (s : State) (seat addr : Nat) (half : Half) :
    (s.seatRead seat addr half).kept.lasting = s.kept.lasting := by
  refine s.whenLive_lasting _ ?_
  extract_lets u fits
  have hu : u.kept.lasting = s.kept.lasting := s.caughtUp_lasting
  have hr : Yields (if fits then u.readWord seat addr else .error .badAddress) (fun x => x.2.kept = u.kept) := by simp
  clear_value fits
  split
  · next v t heq => simpa [hu] using congrArg Kept.lasting (hr _ heq)
  · simpa using hu

theorem readBody_lasting (s : State) (p : Packet) : (readBody s p).Ends (fun t => t.kept.lasting = s.kept.lasting) := by
  unfold readBody
  split
  · next l t heq => exact (congrArg Kept.lasting (State.readWords_kept _ _ _ _ _ heq)).trans s.caughtUp_lasting
  · simp

theorem readBlockBody_lasting (s : State) (p : Packet) : (readBlockBody s p).Ends (fun t => t.kept.lasting = s.kept.lasting) := by
  unfold readBlockBody
  extract_lets n
  split
  · simp
  · split
    · next l t heq => exact (congrArg Kept.lasting (State.readWords_kept _ _ _ _ _ heq)).trans s.caughtUp_lasting
    · simp

theorem lookupBody_lasting (s : State) (p : Packet) : (lookupBody s p).Ends (fun t => t.kept.lasting = s.kept.lasting) := by
  unfold lookupBody
  extract_lets u t w rows t'
  have hu : u.kept.lasting = s.kept.lasting := s.caughtUp_lasting
  split
  · simp [hu]
  · split
    · simp [hu]
    · split
      · simp
      · simp [t', hu]

theorem dumpBody_lasting (s : State) (p : Packet) : (dumpBody s p).Ends (fun t => t.kept.lasting = s.kept.lasting) := by
  unfold dumpBody
  extract_lets u t n
  have hu : u.kept.lasting = s.kept.lasting := s.caughtUp_lasting
  (repeat' split) <;> simp [hu]

theorem State.regRead_lasting (s : State) (k addr dst : Nat) : ∀ t ∈ s.regRead k addr dst, t.kept.lasting = s.kept.lasting := by
  unfold State.regRead
  extract_lets past rc u v
  rw [← s.caughtUp_lasting]
  split
  · intro t ht
    exact congrArg Kept.lasting (u.journalRead_kept k dst _ (u.readWord_kept 0 addr) t ht)
  · have hj := u.journalRead_kept k dst (fun s => .ok (s.wordAt addr, s)) (by simp)
    split
    · simp
    · next t ht =>
      intro w hw
      exact congrArg Kept.lasting ((t.enterEffect_kept _ w hw).trans (hj t ht))

theorem State.busComplete_lasting (s : State) (k op addr dst data : Nat) :
    ∀ t ∈ s.busComplete k op addr dst data, t.kept.lasting = s.kept.lasting := by
  unfold State.busComplete
  split
  · exact s.regRead_lasting k _ dst
  · intro t ht
    exact congrArg Kept.lasting (s.journalRead_kept k dst _ (by simp) t ht)
  · simp
  · have h := s.ctlAlloc_kept addr 2
    generalize s.ctlAlloc addr 2 = q at h ⊢
    obtain ⟨t, b⟩ := q
    cases b <;> simpa using congrArg Kept.lasting h
  · simp

theorem State.issue_lasting (s : State) (k : Nat) (done : Bool) (data : Nat) (idle : Bool) :
    (s.issue k done data idle).kept.lasting = s.kept.lasting := by
  unfold State.issue
  extract_lets pc mw nw u last complete stalled
  have hu : u.kept.lasting = s.kept.lasting := by simp [u]
  have hlast : ∀ t : State, (last t).kept = t.kept := by
    intro t
    simp only [last]
    split
    · simp
    · next v heq =>
      rw [← t.sequence_kept k mw nw v heq]
      (repeat' split) <;> simp
  have hcomplete : ∀ t : State, ∀ v ∈ complete t, v.kept.lasting = t.kept.lasting := by
    intro t
    simp only [complete]
    split
    · intro v hv
      simpa using State.busComplete_lasting _ k _ _ _ _ v hv
    · simp
  clear_value stalled
  split
  · split
    · simp [hu]
    · split
      · next v hv => rw [hlast, hcomplete _ v hv, hu]
      · simp [hu]
  · have hfirst : ∀ v ∈ (if done then complete u else some u), v.kept.lasting = s.kept.lasting := by
      intro v hv
      cases done with
      | false => cases hv; exact hu
      | true => exact (hcomplete u v hv).trans hu
    split
    · simp [hu]
    · next v hv =>
      have hv := hfirst v hv
      split
      · simp [hv]
      · split
        · simp [hv]
        · next w hw =>
          have hw : w.kept.lasting = s.kept.lasting := (congrArg Kept.lasting (v.busIssue_kept k nw w hw)).trans hv
          extract_lets a b
          have hb : b.kept.lasting = s.kept.lasting := by simp [b, a, hw]
          split
          · split
            · split
              · next x hx => rw [hlast, hcomplete _ x hx, hb]
              · simp [hb]
            · exact hb
          · rw [hlast, hb]

end Sys2Proof.Machine
end

section
/-! Class 3 of a tick leaves the queue and the pins. -/

namespace Sys2Proof.Machine

theorem State.Within.trans {s t u : State} (h : s.Within t) (h' : t.Within u) : s.Within u :=
  ⟨h'.pending.trans h.pending, by rw [h'.pins, h.pins]⟩

theorem State.Keeps.trans {s t u : State} (h : s.Keeps t) (h' : t.Keeps u) : s.Keeps u :=
  ⟨h.toWithin.trans h'.toWithin, h'.kept.trans h.kept⟩

theorem State.ClassThree.within {s t : State} (h : s.ClassThree t) : s.Within t := ⟨h.pending, by rw [h.pins]⟩

theorem State.armServoStep_classThree (s : State) (m : Meas) (first : Bool) : s.ClassThree (s.armServoStep m first) := ⟨rfl, rfl, rfl⟩

theorem State.lockRule_classThree (s : State) (theta : Int) : s.ClassThree (s.lockRule theta) := by
  unfold State.lockRule
  dsimp only
  (repeat' split)
  · exact (s.setServo_classThree _).trans (State.servoState_classThree _ _)
  · exact s.setServo_classThree _
  · exact (s.setServo_classThree _).trans (State.servoState_classThree _ _)
  · exact s.setServo_classThree _

theorem State.excursion_classThree (s : State) (m : Meas) : s.ClassThree (s.excursion m) := by
  unfold State.excursion
  extract_lets neg v n u
  have hu : s.ClassThree u := s.setServo_classThree _
  (repeat' split)
  · exact hu.trans (u.bump_classThree _ _)
  · exact hu.trans (u.armServoStep_classThree _ _)
  · exact (hu.trans (u.enterSlewing_classThree _)).trans (State.feed_classThree _ _ _)

theorem State.servoUpdate_classThree (s : State) (m : Meas) : s.ClassThree (s.servoUpdate m) := by
  unfold State.servoUpdate
  extract_lets u exc v
  have hu : s.ClassThree u := ⟨rfl, rfl, rfl⟩
  (repeat' split)
  · exact hu.trans (u.armServoStep_classThree _ _)
  · exact hu
  · exact hu.trans (u.armServoStep_classThree _ _)
  · exact hu.trans (u.feed_classThree _ _)
  · exact ((hu.trans (u.feed_classThree _ _)).trans (State.servoState_classThree _ _)).trans (State.setServo_classThree _ _)
  · exact hu.trans (u.excursion_classThree _)
  · exact ((hu.trans (u.setServo_classThree _)).trans (State.feed_classThree _ _ _)).trans (State.lockRule_classThree _ _)

theorem State.servoDue_classThree (s : State) : s.ClassThree s.servoDue := by
  unfold State.servoDue
  (repeat' split)
  · exact s.servoUpdate_classThree _
  · exact .refl s
  · exact .refl s

theorem State.rateNow_within (s : State) : s.Within s.rateNow := by
  unfold State.rateNow
  split
  · next r _ =>
    have h : s.Within ({ s with tim := { s.tim with armedRate := none } } : State) := ⟨rfl, rfl⟩
    exact h.trans (State.setRate_classThree _ r).within
  · exact s.within_refl

theorem State.refreshQuotes_within (s : State) : s.Within s.refreshQuotes := ⟨rfl, rfl⟩

theorem State.classThree_within (s : State) : s.Within s.classThree := by
  unfold State.classThree
  split
  · have h := (s.epochDue_classThree.trans (State.servoDue_classThree _)).trans (State.epochDue_classThree _)
    exact (h.within.trans (State.rateNow_within _)).trans (State.refreshQuotes_within _)
  · exact s.within_refl

end Sys2Proof.Machine
end

section
/-! Each command that moves nothing of what only some commands change. -/

namespace Sys2Proof.Machine

@[simp] theorem execFollowerCompare_keeps (bad : BitVec 16) (s : State) :
    Ends (execFollowerCompare bad s) s.Keeps := by simp [execFollowerCompare]
@[simp] theorem execRejoinComplete_keeps (i : Fin 3) (s : State) :
    Ends (execRejoinComplete i s) s.Keeps := by simp [execRejoinComplete]
@[simp] theorem execEpochChange_keeps (s : State) : Ends (execEpochChange s) s.Keeps := by simp [execEpochChange]
@[simp] theorem execRateApply_keeps (s : State) : Ends (execRateApply s) s.Keeps := by simp [execRateApply]
@[simp] theorem execTpllUnlock_keeps (s : State) : Ends (execTpllUnlock s) s.Keeps := by simp [execTpllUnlock, State.kept_fields]
@[simp] theorem execServoUpdate_keeps (s : State) : Ends (execServoUpdate s) s.Keeps := by simp [execServoUpdate]

@[simp] theorem execSnapCapture_keeps (group : Fin 4) (s : State) : Ends (execSnapCapture group s) s.Keeps := by
  unfold execSnapCapture
  refine (ends_next _ _).2 (s.when_keeps _ _ ?_)
  (repeat' split) <;> simp

@[simp] theorem execSyncReceive_keeps (m : PtpMsg) (followUp twoStep : Bool) (s : State) :
    Ends (execSyncReceive m followUp twoStep s) s.Keeps := by
  simp [execSyncReceive]

@[simp] theorem execDelayReqSend_keeps (assoc : Fin 4) (var : Nat) (s : State) : Ends (execDelayReqSend assoc var s) s.Keeps := by
  simp [execDelayReqSend]
@[simp] theorem execDelayRespReceive_keeps (m : PtpMsg) (s : State) :
    Ends (execDelayRespReceive m s) s.Keeps := by simp [execDelayRespReceive]
@[simp] theorem execPdelayReqSend_keeps (port : Fin 512) (var : Nat) (s : State) : Ends (execPdelayReqSend port var s) s.Keeps := by
  simp [execPdelayReqSend]

@[simp] theorem execPdelayExchange_keeps (port : Fin 512) (isReq : Bool) (msg : PdelayMsg) (turnaround corr : Int) (arrival : Arrival) (s : State) :
    Ends (execPdelayExchange port isReq msg turnaround corr arrival s) s.Keeps := by
  unfold execPdelayExchange
  refine (ends_next _ _).2 (s.when_keeps _ _ ?_)
  dsimp only
  (repeat' split) <;> simp

@[simp] theorem execMasterSyncSend_keeps (port : Fin 512) (var : Nat) (s : State) : Ends (execMasterSyncSend port var s) s.Keeps := by
  simp [execMasterSyncSend]
@[simp] theorem execDelayReqAnswer_keeps (m : PtpMsg) (s : State) :
    Ends (execDelayReqAnswer m s) s.Keeps := by simp [execDelayReqAnswer]
@[simp] theorem execSourceLoss_keeps (s : State) : Ends (execSourceLoss s) s.Keeps := by simp [execSourceLoss]

@[simp] theorem execRefInputLoss_keeps (loss : RefLoss) (s : State) : Ends (execRefInputLoss loss s) s.Keeps := by
  unfold execRefInputLoss
  refine (ends_next _ _).2 (s.when_keeps _ _ ?_)
  dsimp only
  (repeat' split) <;> simp

@[simp] theorem execRefInputGood_keeps (good : RefGood) (s : State) :
    Ends (execRefInputGood good s) s.Keeps := by simp [execRefInputGood]
@[simp] theorem execTpllRelock_keeps (input : Fin 3) (s : State) : Ends (execTpllRelock input s) s.Keeps := by
  simp [execTpllRelock, State.kept_fields]

@[simp] theorem execRefRevert_keeps (s : State) : Ends (execRefRevert s) s.Keeps := by
  unfold execRefRevert
  refine (ends_next _ _).2 (s.when_keeps _ _ ?_)
  dsimp only
  (repeat' split) <;> simp

@[simp] theorem execPpsInEdge_keeps (input : Fin 2) (rise : Bool) (raw : Nat) (s : State) :
    Ends (execPpsInEdge input rise raw s) s.Keeps := by
  simp [execPpsInEdge]

@[simp] theorem execTodLineRx_keeps (line : Bytes) (s : State) : Ends (execTodLineRx line s) s.Keeps := by
  unfold execTodLineRx
  refine (ends_next _ _).2 (s.when_keeps _ _ ?_)
  dsimp only
  (repeat' split) <;> simp

@[simp] theorem execPpsOutPulse_keeps (out : Fin 2) (s : State) : Ends (execPpsOutPulse out s) s.Keeps := by
  unfold execPpsOutPulse
  refine (ends_next _ _).2 (s.when_keeps _ _ ?_)
  dsimp only
  (repeat' split) <;> simp

@[simp] theorem execTodTxLine_keeps (s : State) : Ends (execTodTxLine s) s.Keeps := by
  unfold execTodTxLine
  refine (ends_next _ _).2 (s.when_keeps _ _ ?_)
  (repeat' split) <;> simp

@[simp] theorem execEvtInEdge_keeps (pin : Fin 8) (rise : Bool) (raw : Nat) (s : State) :
    Ends (execEvtInEdge pin rise raw s) s.Keeps := by
  simp [execEvtInEdge]

@[simp] theorem execEvtOutPulse_keeps (pin : Fin 8) (s : State) : Ends (execEvtOutPulse pin s) s.Keeps := by
  unfold execEvtOutPulse
  refine (ends_next _ _).2 (s.when_keeps _ _ ?_)
  dsimp only
  (repeat' split) <;> simp

@[simp] theorem execSlotIssue_keeps (pipe : Fin 17) (slot : Fin 128) (err : LookupErr) (s : State) :
    Ends (execSlotIssue pipe slot err s) s.Keeps := by
  unfold execSlotIssue
  extract_lets p
  refine (ends_next _ _).2 (s.when_keeps _ _ ?_)
  have h := fun g => s.takeSlot_kept p g slot.val
  have h' := fun g => s.takeSlot_kept 16 g slot.val
  split
  · split
    · specialize h p
      split
      · next f t heq => simpa [heq] using h
      · next t heq => simpa [heq] using h
    · split
      · specialize h p
        split
        · next f t heq => simpa [heq] using h
        · next t heq => simpa [heq] using h
      · rfl
    · rfl
  · split
    · next g _ _ =>
      split
      · rfl
      · split
        · split <;> simp
        · specialize h' g
          split
          · next f t heq => simpa [heq] using h'
          · next t heq => simpa [heq] using h'
    · rfl

theorem State.getD_kept {o : Option State} {s : State} (h : ∀ t ∈ o, t.kept = s.kept) : (o.getD s).kept = s.kept := by
  cases o with
  | none => rfl
  | some t => exact h t rfl

@[simp] theorem execHeldRelease_keeps (turn : HeldTurn) (s : State) : Ends (execHeldRelease turn s) s.Keeps := by
  refine (ends_next _ _).2 (s.when_keeps _ _ ?_)
  exact (State.getD_kept (State.startDet_kept _ _ _ _)).trans (s.sweepDue_kept _)

@[simp] theorem execSeqVisible_keeps (inst : Fin 32) (s : State) : Ends (execSeqVisible inst s) s.Keeps := by simp [execSeqVisible]

@[simp] theorem execSeqRelease_keeps (inst : Fin 32) (read : ReadOut) (s : State) : Ends (execSeqRelease inst read s) s.Keeps := by
  refine (ends_next _ _).2 (s.whenLive_keeps _ ?_)
  extract_lets t
  have ht : t.kept = s.kept := s.seeSeq_kept _
  split
  · exact ht
  · split
    · exact (State.getD_kept (t.startDet_kept _ _ _)).trans ht
    · exact ht

@[simp] theorem execSchedulerSelect_keeps (port : Fin 518) (var : Nat) (badCell : Option Nat) (s : State) :
    Ends (execSchedulerSelect port var badCell s) s.Keeps := by
  unfold execSchedulerSelect
  extract_lets p
  refine (ends_next _ _).2 (s.when_keeps _ _ ?_)
  extract_lets u
  have hu : u.kept = s.kept := s.sweepDue_kept _
  split
  · simp [hu]
  · split
    · next t heq => exact (u.startDet_kept _ _ _ t heq).trans hu
    · split
      · next t heq => exact (u.flowNext_kept _ _ t heq).trans hu
      · simp [hu]

@[simp] theorem execTransmitDone_keeps (port : Fin 518) (badCell : Option Nat) (s : State) :
    Ends (execTransmitDone port badCell s) s.Keeps := by
  simp [execTransmitDone]

@[simp] theorem execSeatRxDeliver_keeps (seat : Fin 4) (s : State) :
    Ends (execSeatRxDeliver seat s) s.Keeps := by simp [execSeatRxDeliver]
@[simp] theorem execRecircReentry_keeps (s : State) : Ends (execRecircReentry s) s.Keeps := by simp [execRecircReentry]

@[simp] theorem execBufferAdmission_keeps (vars : List (Nat × Nat)) (s : State) : Ends (execBufferAdmission vars s) s.Keeps := by
  refine (ends_next _ _).2 (s.whenLive_keeps _ ?_)
  generalize s.admitList = l
  induction l using List.reverseRecOn with
  | nil => rfl
  | append_singleton l x ih =>
    rw [List.foldl_append, List.foldl_cons, List.foldl_nil]
    split <;> simp [ih]

@[simp] theorem execSpillWriteDone_keeps (d : Fin 64) (s : State) : Ends (execSpillWriteDone d s) s.Keeps := by
  unfold execSpillWriteDone
  refine (ends_next _ _).2 (s.whenLive_keeps _ ?_)
  dsimp only
  (repeat' split) <;> simp

@[simp] theorem execRefillReadDone_keeps (d : Fin 64) (s : State) : Ends (execRefillReadDone d s) s.Keeps := by
  refine (ends_next _ _).2 (s.whenLive_keeps _ ?_)
  extract_lets q onDie id
  split
  · rfl
  · extract_lets need
    split
    · split
      · rfl
      · next t heq => simp [s.ensureBuf_kept id need t heq]
    · rfl

@[simp] theorem execBankSparingStart_keeps (s : State) : Ends (execBankSparingStart s) s.Keeps := by
  unfold execBankSparingStart
  refine (ends_next _ _).2 (s.when_keeps _ _ ?_)
  dsimp only
  (repeat' split) <;> simp

@[simp] theorem execBankSparingDone_keeps (s : State) : Ends (execBankSparingDone s) s.Keeps := by
  unfold execBankSparingDone
  refine (ends_next _ _).2 (s.whenLive_keeps _ ?_)
  (repeat' split) <;> simp

@[simp] theorem execBufferScrub_keeps (word : ScrubWord) (finding : Fin 4) (s : State) :
    Ends (execBufferScrub word finding s) s.Keeps := by
  unfold execBufferScrub
  refine (ends_next _ _).2 (s.when_keeps _ _ ?_)
  (repeat' split) <;> simp

@[simp] theorem execInitDone_keeps (failing : List (Fin 64)) (s : State) : Ends (execInitDone failing s) s.Keeps := by
  refine (ends_next _ _).2 (s.when_keeps _ _ ?_)
  dsimp only
  rw [State.showBank_kept, State.refreshBuf_kept, State.wr_kept, State.wr_kept, State.foldl_kept, State.setBuf_kept]
  intro s b
  split <;> simp

@[simp] theorem execChkBufGranted_keeps (engine : Fin 16) (s : State) :
    Ends (execChkBufGranted engine s) s.Keeps := by simp [execChkBufGranted]
@[simp] theorem execChkOutRead_keeps (seat : Fin 4) (engine : Fin 16) (s : State) : Ends (execChkOutRead seat engine s) s.Keeps := by
  simp [execChkOutRead]

@[simp] theorem execCntSnapCapture_keeps (group : Fin 4) (s : State) : Ends (execCntSnapCapture group s) s.Keeps := by
  unfold execCntSnapCapture
  refine (ends_next _ _).2 (s.when_keeps _ _ ?_)
  (repeat' split) <;> simp

@[simp] theorem execEvrCapRefill_keeps (s : State) : Ends (execEvrCapRefill s) s.Keeps := by simp [execEvrCapRefill]
@[simp] theorem execBlockSeal_keeps (s : State) : Ends (execBlockSeal s) s.Keeps := by simp [execBlockSeal]
@[simp] theorem execRecordAccept_keeps (s : State) : Ends (execRecordAccept s) s.Keeps := by simp [execRecordAccept]
@[simp] theorem execGenesisBlockOpen_keeps (s : State) : Ends (execGenesisBlockOpen s) s.Keeps := by simp [execGenesisBlockOpen]

@[simp] theorem execBlockSign_keeps (s : State) : Ends (execBlockSign s) s.Keeps := by
  refine (ends_next _ _).2 (s.when_keeps _ _ ?_)
  dsimp only
  split
  · rfl
  · refine s.withBuffer_kept _ fun t => ?_
    rw [State.destroyOldKey_kept, State.showRing_kept, State.bump_kept]
    rfl

@[simp] theorem execSignerFault_keeps (core : Fin 12) (s : State) : Ends (execSignerFault core s) s.Keeps := by simp [execSignerFault]
@[simp] theorem execEvrSeal_keeps (p : Packet) (s : State) : Ends (execEvrSeal p s) s.Keeps := by simp [execEvrSeal]
@[simp] theorem execEvrPin_keeps (p : Packet) (s : State) : Ends (execEvrPin p s) s.Keeps := by simp [execEvrPin]
@[simp] theorem execEvrExport_keeps (p : Packet) (s : State) : Ends (execEvrExport p s) s.Keeps := by simp [execEvrExport]

@[simp] theorem execExportFrame_keeps (s : State) : Ends (execExportFrame s) s.Keeps := by
  refine (ends_next _ _).2 (s.whenLive_keeps _ ?_)
  dsimp only
  split
  · rfl
  · split
    · simp
    · split
      · rfl
      · split
        · rfl
        · exact s.withBuffer_kept _ fun t => by simp

@[simp] theorem execIngressStart_keeps (port : Fin 518) (detect var : Nat) (bytes : Bytes) (s : State) :
    Ends (execIngressStart port detect var bytes s) s.Keeps := by
  simp [execIngressStart]

@[simp] theorem execFrameEnd_keeps (port : Fin 518) (pcsError : Bool) (cutAt : Option Nat) (oddNibble elastic : Bool) (s : State) :
    Ends (execFrameEnd port pcsError cutAt oddNibble elastic s) s.Keeps := by
  unfold execFrameEnd
  refine (ends_next _ _).2 (s.whenLive_keeps _ ?_)
  (repeat' split) <;> simp

@[simp] theorem execPtpGeneralDeliver_keeps (port : Fin 512) (bytes : Bytes) (arrival : Arrival) (s : State) :
    Ends (execPtpGeneralDeliver port bytes arrival s) s.Keeps := by
  simp [execPtpGeneralDeliver]

@[simp] theorem execSeatTxFetch_keeps (seat : Fin 4) (own readable : Bool) (length : BitVec 16) (bytes : Bytes) (s : State) :
    Ends (execSeatTxFetch seat own readable length bytes s) s.Keeps := by
  simp [execSeatTxFetch]

@[simp] theorem execFaultAck_keeps (p : Packet) (s : State) : Ends (execFaultAck p s) s.Keeps := by
  refine (ends_next _ _).2 (s.command_keeps _ _ _ fun t q => ?_)
  split
  · simp
  · rfl

@[simp] theorem execPipelineFault_keeps (pipe : Fin 17) (s : State) :
    Ends (execPipelineFault pipe s) s.Keeps := by simp [execPipelineFault]
@[simp] theorem execTakeOverEgress_keeps (s : State) : Ends (execTakeOverEgress s) s.Keeps := by simp [execTakeOverEgress]
@[simp] theorem execTakeOverSlots_keeps (s : State) : Ends (execTakeOverSlots s) s.Keeps := by simp [execTakeOverSlots]
@[simp] theorem execReplayDone_keeps (s : State) : Ends (execReplayDone s) s.Keeps := by simp [execReplayDone]

@[simp] theorem execPipeSelfTestDone_keeps (pipe : Fin 16) (pass : Bool) (s : State) :
    Ends (execPipeSelfTestDone pipe pass s) s.Keeps := by
  simp [execPipeSelfTestDone]

@[simp] theorem execGiveBackSwitch_keeps (s : State) : Ends (execGiveBackSwitch s) s.Keeps := by
  unfold execGiveBackSwitch
  refine (ends_next _ _).2 (s.once_keeps _ _ _ fun s => ?_)
  (repeat' split) <;> simp

@[simp] theorem execSpareSelfCheckFail_keeps (s : State) : Ends (execSpareSelfCheckFail s) s.Keeps := by simp [execSpareSelfCheckFail]
@[simp] theorem execSpareOk_keeps (s : State) : Ends (execSpareOk s) s.Keeps := by simp [execSpareOk]
@[simp] theorem execCertDataRead_keeps (_seat : Fin 4) (s : State) :
    Ends (execCertDataRead _seat s) s.Keeps := by simp [execCertDataRead]

@[simp] theorem execImageLoad_keeps (image : Bytes) (certs : List Bytes) (keyMatches copiesAgree test0 test1 : Bool) (s : State) :
    Ends (execImageLoad image certs keyMatches copiesAgree test0 test1 s) s.Keeps := by
  simp [execImageLoad]

@[simp] theorem execEvkGenerated_keeps (ok : Bool) (s : State) : Ends (execEvkGenerated ok s) s.Keeps := by simp [execEvkGenerated]
@[simp] theorem execRotationComplete_keeps (ok : Bool) (s : State) :
    Ends (execRotationComplete ok s) s.Keeps := by simp [execRotationComplete]
@[simp] theorem execRngHealthFail_keeps (s : State) : Ends (execRngHealthFail s) s.Keeps := by simp [execRngHealthFail]
@[simp] theorem execRngOk_keeps (s : State) : Ends (execRngOk s) s.Keeps := by simp [execRngOk]
@[simp] theorem execAttestQuote_keeps (p : Packet) (s : State) : Ends (execAttestQuote p s) s.Keeps := by simp [execAttestQuote]

@[simp] theorem execQuoteSigned_keeps (s : State) : Ends (execQuoteSigned s) s.Keeps := by
  refine (ends_next _ _).2 (s.when_keeps _ _ ?_)
  split
  · rw [State.finish_kept, State.bump_kept]
    rfl
  · rfl

@[simp] theorem execCalLockTimeout_keeps (s : State) : Ends (execCalLockTimeout s) s.Keeps := by
  unfold execCalLockTimeout
  refine (ends_next _ _).2 (s.whenLive_keeps _ ?_)
  (repeat' split) <;> simp

@[simp] theorem execCalDone_keeps (sum : Nat) (temp : BitVec 8) (s : State) : Ends (execCalDone sum temp s) s.Keeps := by
  unfold execCalDone
  refine (ends_next _ _).2 (s.whenLive_keeps _ ?_)
  (repeat' split) <;> simp

@[simp] theorem execTempCompUpdate_keeps (port : Fin 512) (temp : BitVec 8) (s : State) :
    Ends (execTempCompUpdate port temp s) s.Keeps := by
  simp [execTempCompUpdate]

@[simp] theorem execDetect_keeps (port : Fin 512) (seen : BitVec 8) (s : State) :
    Ends (execDetect port seen s) s.Keeps := by simp [execDetect]

@[simp] theorem execTrainDone_keeps (port : Fin 512) (lanes : List Trained) (s : State) :
    Ends (execTrainDone port lanes s) s.Keeps := by
  simp [execTrainDone]

@[simp] theorem execBlockLock_keeps (port : Fin 512) (lock : PcsLock) (skew deskew : Nat) (inverted : BitVec 8) (s : State) :
    Ends (execBlockLock port lock skew deskew inverted s) s.Keeps := by
  simp [execBlockLock]

@[simp] theorem execStageTimeout_keeps (port : Fin 512) (s : State) : Ends (execStageTimeout port s) s.Keeps := by
  unfold execStageTimeout
  refine (ends_next _ _).2 (s.when_keeps _ _ ?_)
  (repeat' split) <;> simp

@[simp] theorem execExchangeBreak_keeps (port : Fin 512) (s : State) :
    Ends (execExchangeBreak port s) s.Keeps := by simp [execExchangeBreak]
@[simp] theorem execLinkUp_keeps (port : Fin 512) (s : State) : Ends (execLinkUp port s) s.Keeps := by simp [execLinkUp]

@[simp] theorem execLinkDown_keeps (port : Fin 512) (loss : LinkLoss) (s : State) : Ends (execLinkDown port loss s) s.Keeps := by
  unfold execLinkDown
  refine (ends_next _ _).2 (s.whenLive_keeps _ ?_)
  (repeat' split) <;> simp

@[simp] theorem execQuickTimeout_keeps (port : Fin 512) (s : State) :
    Ends (execQuickTimeout port s) s.Keeps := by simp [execQuickTimeout]

@[simp] theorem execFomMeasure_keeps (lane : Fin 512) (w : Window) (s : State) : Ends (execFomMeasure lane w s) s.Keeps := by
  unfold execFomMeasure
  refine (ends_next _ _).2 (s.once_keeps _ _ _ fun s => ?_)
  (repeat' split) <;> simp

@[simp] theorem execEiEntry_keeps (port : Fin 512) (s : State) : Ends (execEiEntry port s) s.Keeps := by simp [execEiEntry]
@[simp] theorem execEiExit_keeps (wake : PortWake) (s : State) : Ends (execEiExit wake s) s.Keeps := by simp [execEiExit]
@[simp] theorem execRxEi_keeps (port : Fin 512) (s : State) : Ends (execRxEi port s) s.Keeps := by simp [execRxEi]

@[simp] theorem execRxSignalReturn_keeps (port : Fin 512) (ok : Bool) (foms : List (Fin 1024)) (deskew : Nat) (s : State) :
    Ends (execRxSignalReturn port ok foms deskew s) s.Keeps := by
  simp [execRxSignalReturn]

@[simp] theorem execGroupRefLoss_keeps (group : Fin 16) (clock : Bool) (s : State) :
    Ends (execGroupRefLoss group clock s) s.Keeps := by
  simp [execGroupRefLoss]

@[simp] theorem execGroupPllLock_keeps (group : Fin 16) (s : State) :
    Ends (execGroupPllLock group s) s.Keeps := by simp [execGroupPllLock]
@[simp] theorem execGroupRefRestore_keeps (group : Fin 16) (s : State) :
    Ends (execGroupRefRestore group s) s.Keeps := by simp [execGroupRefRestore]

@[simp] theorem execMgmtLinkChange_keeps (link : Bool) (speed : Fin 3) (duplex : Bool) (s : State) :
    Ends (execMgmtLinkChange link speed duplex s) s.Keeps := by
  simp [execMgmtLinkChange]

@[simp] theorem execCollision_keeps (r : Nat) (s : State) : Ends (execCollision r s) s.Keeps := by
  unfold execCollision
  refine (ends_next _ _).2 (s.when_keeps _ _ ?_)
  (repeat' split) <;> simp

@[simp] theorem execBackoffExpire_keeps (s : State) : Ends (execBackoffExpire s) s.Keeps := by
  unfold execBackoffExpire
  refine (ends_next _ _).2 (s.whenLive_keeps _ ?_)
  (repeat' split) <;> simp

@[simp] theorem execMdioDone_keeps (data : Option (BitVec 16)) (s : State) : Ends (execMdioDone data s) s.Keeps := by
  unfold execMdioDone
  refine (ends_next _ _).2 (s.when_keeps _ _ ?_)
  (repeat' split) <;> simp

@[simp] theorem execHelloInterval_keeps (s : State) : Ends (execHelloInterval s) s.Keeps := by simp [execHelloInterval]
@[simp] theorem execHello_keeps (port : Fin 512) (bytes : Bytes) (s : State) :
    Ends (execHello port bytes s) s.Keeps := by simp [execHello]
@[simp] theorem execProfile_keeps (port : Fin 512) (bytes : Bytes) (s : State) :
    Ends (execProfile port bytes s) s.Keeps := by simp [execProfile]
@[simp] theorem execProfileApply_keeps (s : State) : Ends (execProfileApply s) s.Keeps := by simp [execProfileApply]
@[simp] theorem execLiftReq_keeps (port : Fin 512) (bytes : Bytes) (s : State) :
    Ends (execLiftReq port bytes s) s.Keeps := by simp [execLiftReq]
@[simp] theorem execLiftOrder_keeps (port : Fin 512) (bytes : Bytes) (s : State) : Ends (execLiftOrder port bytes s) s.Keeps := by
  simp [execLiftOrder]
@[simp] theorem execAck_keeps (port : Fin 512) (bytes : Bytes) (s : State) : Ends (execAck port bytes s) s.Keeps := by simp [execAck]
@[simp] theorem execGrant_keeps (port : Fin 512) (bytes : Bytes) (s : State) :
    Ends (execGrant port bytes s) s.Keeps := by simp [execGrant]
@[simp] theorem execGrantPeriod_keeps (s : State) : Ends (execGrantPeriod s) s.Keeps := by simp [execGrantPeriod]
@[simp] theorem execGrantApply_keeps (s : State) : Ends (execGrantApply s) s.Keeps := by simp [execGrantApply]
@[simp] theorem execRailSample_keeps (rails : List (Nat × Nat)) (s : State) :
    Ends (execRailSample rails s) s.Keeps := by simp [execRailSample]

@[simp] theorem execPmbusRead_keeps (replies : List (Option (Nat × Nat))) (faults : BitVec 7) (s : State) :
    Ends (execPmbusRead replies faults s) s.Keeps := by
  simp [execPmbusRead]

@[simp] theorem execPmbAlert_keeps (faults : BitVec 7) (s : State) : Ends (execPmbAlert faults s) s.Keeps := by simp [execPmbAlert]

@[simp] theorem execClockChange_keeps (s : State) : Ends (execClockChange s) s.Keeps := by
  unfold execClockChange
  refine (ends_next _ _).2 (s.once_keeps _ _ _ fun s => ?_)
  (repeat' split) <;> simp

@[simp] theorem execThermalRead_keeps (temps : List Int) (s : State) : Ends (execThermalRead temps s) s.Keeps := by
  unfold execThermalRead
  refine (ends_next _ _).2 (s.once_keeps _ _ _ fun s => ?_)
  dsimp only
  (repeat' split) <;> simp

@[simp] theorem execRefreshTimer_keeps (chan : Fin 32) (s : State) :
    Ends (execRefreshTimer chan s) s.Keeps := by simp [execRefreshTimer]
@[simp] theorem execRefreshIssue_keeps (chan : Fin 32) (s : State) :
    Ends (execRefreshIssue chan s) s.Keeps := by simp [execRefreshIssue]

@[simp] theorem execStackTempRead_keeps (stack : Fin 4) (temp : BitVec 8) (s : State) :
    Ends (execStackTempRead stack temp s) s.Keeps := by
  simp [execStackTempRead]

@[simp] theorem execChannelFail_keeps (chan : Fin 32) (s : State) : Ends (execChannelFail chan s) s.Keeps := by simp [execChannelFail]
@[simp] theorem execRetrainDone_keeps (chan : Fin 32) (ok : Bool) (s : State) :
    Ends (execRetrainDone chan ok s) s.Keeps := by simp [execRetrainDone]
@[simp] theorem execRebuildDone_keeps (chan : Fin 32) (s : State) : Ends (execRebuildDone chan s) s.Keeps := by simp [execRebuildDone]

@[simp] theorem execMemRowsLost_keeps (stripe : Fin 4) (row : BitVec 24) (members : List (Fin 8)) (spilled : List Nat) (s : State) :
    Ends (execMemRowsLost stripe row members spilled s) s.Keeps := by
  simp [execMemRowsLost]

@[simp] theorem execMemAccess_keeps (chan : Fin 32) (requests : List (Nat × Nat × Nat)) (err : Fin 4) (draw : Bool) (s : State) :
    Ends (execMemAccess chan requests err draw s) s.Keeps := by
  unfold execMemAccess
  refine (ends_next _ _).2 (s.when_keeps _ _ ?_)
  dsimp only
  (repeat' split) <;> simp

@[simp] theorem execSelfRefreshEntry_keeps (stack : Fin 4) (s : State) : Ends (execSelfRefreshEntry stack s) s.Keeps := by
  unfold execSelfRefreshEntry
  refine (ends_next _ _).2 (s.when_keeps _ _ ?_)
  (repeat' split) <;> simp

@[simp] theorem execSelfRefreshExit_keeps (stack : Fin 4) (s : State) : Ends (execSelfRefreshExit stack s) s.Keeps := by
  unfold execSelfRefreshExit
  refine (ends_next _ _).2 (s.when_keeps _ _ ?_)
  (repeat' split) <;> simp

@[simp] theorem execEvrFlush_keeps (s : State) : Ends (execEvrFlush s) s.Keeps := by simp [execEvrFlush]

@[simp] theorem execPatrolScrub_keeps (chan : Fin 32) (row : BitVec 24) (finding : Fin 4) (s : State) :
    Ends (execPatrolScrub chan row finding s) s.Keeps := by
  unfold execPatrolScrub
  refine (ends_next _ _).2 (s.when_keeps _ _ ?_)
  (repeat' split) <;> simp

@[simp] theorem execMemTrainingDone_keeps (failing : List (Fin 32)) (lanes : List (Nat × Nat)) (s : State) :
    Ends (execMemTrainingDone failing lanes s) s.Keeps := by
  simp [execMemTrainingDone]

@[simp] theorem execPfcRefresh_keeps (s : State) : Ends (execPfcRefresh s) s.Keeps := by simp [execPfcRefresh]

@[simp] theorem execPauseReceived_keeps (s : State) : Ends (execPauseReceived s) s.Keeps := by
  unfold execPauseReceived
  refine (ends_next _ _).2 (s.whenLive_keeps _ ?_)
  (repeat' split) <;> simp

@[simp] theorem execPauseExpire_keeps (s : State) : Ends (execPauseExpire s) s.Keeps := by simp [execPauseExpire]
@[simp] theorem execShaperRefill_keeps (s : State) : Ends (execShaperRefill s) s.Keeps := by simp [execShaperRefill]
@[simp] theorem execGateEvent_keeps (s : State) : Ends (execGateEvent s) s.Keeps := by simp [execGateEvent]
@[simp] theorem execGclChange_keeps (s : State) : Ends (execGclChange s) s.Keeps := by simp [execGclChange]
@[simp] theorem execFlapHoldExpire_keeps (s : State) : Ends (execFlapHoldExpire s) s.Keeps := by simp [execFlapHoldExpire]
@[simp] theorem execQueueSample_keeps (s : State) : Ends (execQueueSample s) s.Keeps := by simp [execQueueSample]
@[simp] theorem execTableWriteSlot_keeps (s : State) : Ends (execTableWriteSlot s) s.Keeps := by simp [execTableWriteSlot]
@[simp] theorem execLearnDecision_keeps (s : State) : Ends (execLearnDecision s) s.Keeps := by simp [execLearnDecision]

@[simp] theorem execAgeSweeperVisit_keeps (table : Fin 2) (visit : SweepVisit) (s : State) :
    Ends (execAgeSweeperVisit table visit s) s.Keeps := by
  simp [execAgeSweeperVisit]

@[simp] theorem execTableScrub_keeps (pipe : Fin 17) (table : Fin 17) (index : BitVec 24) (finding : Fin 4) (s : State) :
    Ends (execTableScrub pipe table index finding s) s.Keeps := by
  unfold execTableScrub
  refine (ends_next _ _).2 (s.when_keeps _ _ ?_)
  dsimp only
  (repeat' split) <;> simp

@[simp] theorem execRegisterWrite_keeps (seat : Fin 4) (bar0 : Bool) (addr value mask : Word) (s : State) :
    Ends (execRegisterWrite seat bar0 addr value mask s) s.Keeps := by
  cases bar0 <;> simp [execRegisterWrite]

@[simp] theorem execPairLoWrite_keeps (seat : Fin 4) (addr value mask : Word) (s : State) :
    Ends (execPairLoWrite seat addr value mask s) s.Keeps := by
  simp [execPairLoWrite]

@[simp] theorem execPairHiWrite_keeps (seat : Fin 4) (addr value mask : Word) (s : State) :
    Ends (execPairHiWrite seat addr value mask s) s.Keeps := by
  simp [execPairHiWrite]

@[simp] theorem execRejoin_keeps (seat : Fin 4) (mask : BitVec 3) (s : State) :
    Ends (execRejoin seat mask s) s.Keeps := by simp [execRejoin]
@[simp] theorem execRateWrite_keeps (seat : Fin 4) (value : Word) (s : State) :
    Ends (execRateWrite seat value s) s.Keeps := by simp [execRateWrite]
@[simp] theorem execStepGo_keeps (seat : Fin 4) (relative : Bool) (s : State) :
    Ends (execStepGo seat relative s) s.Keeps := by simp [execStepGo]
@[simp] theorem execSnapTake_keeps (seat group : Fin 4) (s : State) :
    Ends (execSnapTake seat group s) s.Keeps := by simp [execSnapTake]

@[simp] theorem execCalGo_keeps (seat : Fin 4) (port : Fin 518) (apply : Bool) (count : Fin 16) (s : State) :
    Ends (execCalGo seat port apply count s) s.Keeps := by
  simp [execCalGo]

@[simp] theorem execServoSrcWrite_keeps (seat : Fin 4) (order : BitVec 16) (s : State) :
    Ends (execServoSrcWrite seat order s) s.Keeps := by
  simp [execServoSrcWrite]

@[simp] theorem execServoEnable_keeps (seat : Fin 4) (value : Word) (s : State) : Ends (execServoEnable seat value s) s.Keeps := by
  simp [execServoEnable]
@[simp] theorem execEvtiPop_keeps (seat : Fin 4) (pin : Fin 8) (s : State) :
    Ends (execEvtiPop seat pin s) s.Keeps := by simp [execEvtiPop]

@[simp] theorem execTxTailWrite_keeps (seat ring : Fin 4) (value : BitVec 14) (s : State) :
    Ends (execTxTailWrite seat ring value s) s.Keeps := by
  simp [execTxTailWrite]

@[simp] theorem execRxTailWrite_keeps (seat ring : Fin 4) (value : BitVec 14) (s : State) :
    Ends (execRxTailWrite seat ring value s) s.Keeps := by
  simp [execRxTailWrite]

@[simp] theorem execSpareForce_keeps (seat : Fin 4) (bank : BitVec 6) (s : State) : Ends (execSpareForce seat bank s) s.Keeps := by
  simp [execSpareForce]
@[simp] theorem execPinLogPop_keeps (seat : Fin 4) (s : State) : Ends (execPinLogPop seat s) s.Keeps := by simp [execPinLogPop]
@[simp] theorem execForceFail_keeps (seat : Fin 4) (chan : Fin 32) (s : State) :
    Ends (execForceFail seat chan s) s.Keeps := by simp [execForceFail]
@[simp] theorem execRetry_keeps (seat : Fin 4) (chan : Fin 32) (s : State) :
    Ends (execRetry seat chan s) s.Keeps := by simp [execRetry]
@[simp] theorem execPortStart_keeps (seat : Fin 4) (port : Fin 512) (s : State) :
    Ends (execPortStart seat port s) s.Keeps := by simp [execPortStart]
@[simp] theorem execPortStop_keeps (seat : Fin 4) (port : Fin 512) (s : State) :
    Ends (execPortStop seat port s) s.Keeps := by simp [execPortStop]
@[simp] theorem execForceRetrain_keeps (seat : Fin 4) (port : Fin 512) (s : State) : Ends (execForceRetrain seat port s) s.Keeps := by
  simp [execForceRetrain]

@[simp] theorem execSnapshotWrite_keeps (seat : Fin 4) (lane : Fin 512) (s : State) :
    Ends (execSnapshotWrite seat lane s) s.Keeps := by
  simp [execSnapshotWrite]

@[simp] theorem execRollbackWrite_keeps (seat : Fin 4) (lane : Fin 512) (s : State) :
    Ends (execRollbackWrite seat lane s) s.Keeps := by
  simp [execRollbackWrite]

@[simp] theorem execMdioGo_keeps (seat : Fin 4) (phy reg : BitVec 5) (isWrite : Bool) (s : State) :
    Ends (execMdioGo seat phy reg isWrite s) s.Keeps := by
  simp [execMdioGo]

@[simp] theorem execChkStart_keeps (seat : Fin 4) (engine : Fin 16) (ctrl : BitVec 6) (s : State) :
    Ends (execChkStart seat engine ctrl s) s.Keeps := by
  simp [execChkStart]

@[simp] theorem execChkData_keeps (seat : Fin 4) (engine : Fin 16) (word : Word) (s : State) :
    Ends (execChkData seat engine word s) s.Keeps := by
  simp [execChkData]

@[simp] theorem execChkAbort_keeps (seat : Fin 4) (engine : Fin 16) (s : State) :
    Ends (execChkAbort seat engine s) s.Keeps := by simp [execChkAbort]
@[simp] theorem execModelResume_keeps (seat : Fin 4) (s : State) : Ends (execModelResume seat s) s.Keeps := by simp [execModelResume]

@[simp] theorem execTroupeEnable_keeps (seat : Fin 4) (enable : Bool) (s : State) :
    Ends (execTroupeEnable seat enable s) s.Keeps := by
  simp [execTroupeEnable]

@[simp] theorem execBaseWrite_keeps (seat : Fin 4) (k : Fin 8) (value : BitVec 20) (s : State) :
    Ends (execBaseWrite seat k value s) s.Keeps := by
  simp [execBaseWrite]

@[simp] theorem execUnlift_keeps (seat : Fin 4) (s : State) : Ends (execUnlift seat s) s.Keeps := by simp [execUnlift]
@[simp] theorem execFreezeRelease_keeps (seat : Fin 4) (s : State) :
    Ends (execFreezeRelease seat s) s.Keeps := by simp [execFreezeRelease]
@[simp] theorem execPipeForce_keeps (seat : Fin 4) (pipe : Fin 16) (s : State) :
    Ends (execPipeForce seat pipe s) s.Keeps := by simp [execPipeForce]
@[simp] theorem execGiveBack_keeps (seat : Fin 4) (s : State) : Ends (execGiveBack seat s) s.Keeps := by simp [execGiveBack]
@[simp] theorem execRotate_keeps (seat : Fin 4) (s : State) : Ends (execRotate seat s) s.Keeps := by simp [execRotate]
@[simp] theorem execFuseOwnerHash_keeps (seat : Fin 4) (s : State) :
    Ends (execFuseOwnerHash seat s) s.Keeps := by simp [execFuseOwnerHash]
@[simp] theorem execFuseRollback_keeps (seat : Fin 4) (s : State) :
    Ends (execFuseRollback seat s) s.Keeps := by simp [execFuseRollback]
@[simp] theorem execCertSelWrite_keeps (seat : Fin 4) (cert : Fin 8) (s : State) : Ends (execCertSelWrite seat cert s) s.Keeps := by
  simp [execCertSelWrite]

@[simp] theorem execCntSnapTake_keeps (seat group : Fin 4) (countM1 : BitVec 8) (s : State) :
    Ends (execCntSnapTake seat group countM1 s) s.Keeps := by
  simp [execCntSnapTake]

@[simp] theorem execRejoinCore_keeps (seat : Fin 4) (mask : BitVec 2) (s : State) : Ends (execRejoinCore seat mask s) s.Keeps := by
  simp [execRejoinCore]
@[simp] theorem execSwap_keeps (seat : Fin 4) (s : State) : Ends (execSwap seat s) s.Keeps := by simp [execSwap]
@[simp] theorem execSwReset_keeps (seat : Fin 4) (key : BitVec 8) (s : State) :
    Ends (execSwReset seat key s) s.Keeps := by simp [execSwReset]

@[simp] theorem execIswRead_keeps (seat : Fin 4) (index : Fin 16) (s : State) : Ends (execIswRead seat index s) s.Keeps := by
  unfold execIswRead
  refine (ends_next _ _).2 (s.when_keeps _ _ ?_)
  (repeat' split) <;> simp

@[simp] theorem execCommandWindowWrite_keeps (seat : Fin 4) (wide : Bool) (value : DWord) (s : State) :
    Ends (execCommandWindowWrite seat wide value s) s.Keeps := by
  simp [execCommandWindowWrite]

@[simp] theorem execReplyWindowRead_keeps (seat : Fin 4) (wide : Bool) (s : State) :
    Ends (execReplyWindowRead seat wide s) s.Keeps := by
  simp [execReplyWindowRead]

@[simp] theorem execCmdFlush_keeps (seat : Fin 4) (s : State) : Ends (execCmdFlush seat s) s.Keeps := by simp [execCmdFlush]
@[simp] theorem execReplyFlush_keeps (seat : Fin 4) (s : State) : Ends (execReplyFlush seat s) s.Keeps := by simp [execReplyFlush]

@[simp] theorem execInbandCommand_keeps (port : Fin 512) (bytes : Bytes) (arrival : Arrival) (s : State) :
    Ends (execInbandCommand port bytes arrival s) s.Keeps := by
  unfold execInbandCommand
  extract_lets p u raw g tagged o mine
  have hu : s.Keeps u := by
    simp only [u]
    split
    · exact ⟨s.classThree_within, s.classThree_kept⟩
    · simp
  refine (ends_next _ _).2 (hu.trans (u.when_keeps _ _ ?_))
  extract_lets ok f
  clear_value ok
  split
  · split
    · next t heq => exact u.acceptPacket_kept _ _ t heq
    · simp
  · simp

@[simp] theorem execPrepareAck_keeps (txn : Nat) (unit : Fin 32) (s : State) : Ends (execPrepareAck txn unit s) s.Keeps := by
  unfold execPrepareAck
  refine (ends_next _ _).2 (s.when_keeps _ _ ?_)
  (repeat' split) <;> simp

@[simp] theorem execPrepareDeadline_keeps (s : State) : Ends (execPrepareDeadline s) s.Keeps := by
  refine (ends_next _ _).2 (s.when_keeps _ _ (State.foldl_kept _ (fun s t => ?_) _ _))
  split <;> simp

@[simp] theorem execTxnIdleTimeout_keeps (s : State) : Ends (execTxnIdleTimeout s) s.Keeps := by simp [execTxnIdleTimeout]
@[simp] theorem execSchedAction_keeps (p : Packet) (s : State) : Ends (execSchedAction p s) s.Keeps := by simp [execSchedAction]
@[simp] theorem execSchedCancel_keeps (p : Packet) (s : State) : Ends (execSchedCancel p s) s.Keeps := by simp [execSchedCancel]
@[simp] theorem execWrite_keeps (p : Packet) (s : State) : Ends (execWrite p s) s.Keeps := by simp [execWrite]
@[simp] theorem execWriteBlock_keeps (p : Packet) (s : State) : Ends (execWriteBlock p s) s.Keeps := by simp [execWriteBlock]
@[simp] theorem execEcho_keeps (p : Packet) (s : State) : Ends (execEcho p s) s.Keeps := by simp [execEcho]
@[simp] theorem execTxnBegin_keeps (p : Packet) (s : State) : Ends (execTxnBegin p s) s.Keeps := by simp [execTxnBegin]
@[simp] theorem execTxnCommit_keeps (p : Packet) (s : State) : Ends (execTxnCommit p s) s.Keeps := by simp [execTxnCommit]
@[simp] theorem execTxnCommitAt_keeps (p : Packet) (s : State) : Ends (execTxnCommitAt p s) s.Keeps := by simp [execTxnCommitAt]
@[simp] theorem execTxnRollback_keeps (p : Packet) (s : State) : Ends (execTxnRollback p s) s.Keeps := by simp [execTxnRollback]
@[simp] theorem execTableInsert_keeps (p : Packet) (s : State) : Ends (execTableInsert p s) s.Keeps := by simp [execTableInsert]
@[simp] theorem execTableDelete_keeps (p : Packet) (s : State) : Ends (execTableDelete p s) s.Keeps := by simp [execTableDelete]

@[simp] theorem execRoutineDispatch_keeps (entry : BitVec 13) (asks : Option (Fin 3)) (s : State) :
    Ends (execRoutineDispatch entry asks s) s.Keeps := by
  unfold execRoutineDispatch
  refine (ends_next _ _).2 (s.when_keeps _ _ ?_)
  dsimp only
  (repeat' split) <;> simp

@[simp] theorem execRoutineWatchdog_keeps (s : State) : Ends (execRoutineWatchdog s) s.Keeps := by
  unfold execRoutineWatchdog
  refine (ends_next _ _).2 (s.when_keeps _ _ ?_)
  (repeat' split) <;> simp

@[simp] theorem execEffectApply_keeps (s : State) : Ends (execEffectApply s) s.Keeps := by
  refine (ends_next _ _).2 (s.when_keeps _ _ ?_)
  dsimp only
  split
  · rfl
  · next e p rest _ =>
    split
    · next addr value mask _ =>
      generalize hu : s.setDrafen _ = u
      have hk : u.kept = s.kept := by rw [← hu]; rfl
      have h := u.writeDirect_kept ((p.map (fun p => p.sender.val)).getD 0) [⟨addr, mask, value⟩] none false
      split
      · next t b heq => exact (h _ heq).trans hk
      · simp [hk]
    · simp
    · simp
    · simp

@[simp] theorem execCoreTakeOver_keeps (planned : Bool) (s : State) : Ends (execCoreTakeOver planned s) s.Keeps := by
  unfold execCoreTakeOver
  refine (ends_next _ _).2 (s.when_keeps _ _ ?_)
  (repeat' split) <;> simp

@[simp] theorem execPcieLinkUp_keeps (endpoint : Fin 2) (s : State) :
    Ends (execPcieLinkUp endpoint s) s.Keeps := by simp [execPcieLinkUp]
@[simp] theorem execPcieLinkLost_keeps (seat : Fin 4) (s : State) :
    Ends (execPcieLinkLost seat s) s.Keeps := by simp [execPcieLinkLost]

end Sys2Proof.Machine
end

section
/-! The commands that move what the others keep, and what each of them still keeps. -/

namespace Sys2Proof.Machine

/-- All but the Canopy and the counters. -/
def Kept.untimed (k : Kept) : Option Bytes × Option Nat × List Latch := (k.lasting.ownerHash, k.lasting.rollback, k.latches)
/-- All but the fuses. -/
def Kept.unfused (k : Kept) : Nat × SMap × List Latch := (k.lasting.canopy, k.lasting.cnt, k.latches)

theorem Ends.mono {o : Host.Outcome State Fault Refusal} {P Q : State → Prop} (h : Ends o P) (hPQ : ∀ t, P t → Q t) : Ends o Q :=
  fun t e => hPQ t (h t e)

/-! ### The tick and the start of the time base -/

@[simp] theorem State.setCanopy_untimed (s : State) (c : Nat) : (s.setCanopy c).kept.untimed = s.kept.untimed := rfl

theorem State.closeTick_untimed (s : State) : s.closeTick.kept.untimed = s.kept.untimed := by
  unfold State.closeTick
  extract_lets u
  have hu : u.kept = s.kept := by simp [u]
  rw [← hu]
  rfl

theorem State.tick_untimed (s : State) (ua ub uc : DWord) : (s.tick ua ub uc).kept.untimed = s.kept.untimed := by
  unfold State.tick
  extract_lets prev u act v w x
  have hu : u.kept.untimed = s.kept.untimed := by simp [u, s.closeTick_untimed]
  have hx : x.kept.untimed = s.kept.untimed := by
    simp only [x]
    split <;> simp [w, hu]
  simpa using hx

theorem execCanopyTick_untimed (ua ub uc : DWord) (s : State) :
    Ends (execCanopyTick ua ub uc s) (fun t => s.Within t ∧ t.kept.untimed = s.kept.untimed) := by
  refine (ends_next _ _).2 ⟨s.when_within _ _, ?_⟩
  unfold State.when
  split
  · simp [s.tick_untimed]
  · rfl

theorem State.startTimeBase_kept (s : State) :
    s.startTimeBase.kept.untimed = s.kept.untimed ∧ s.startTimeBase.kept.lasting.cnt = s.kept.lasting.cnt := by
  unfold State.startTimeBase
  extract_lets tim u v
  have hv : v.kept = (u.setCanopy 0).kept := State.showParams_kept _ _
  simp only [State.wr_kept, hv]
  exact ⟨rfl, rfl⟩

theorem execTimeBaseStart_kept (s : State) :
    Ends (execTimeBaseStart s)
      (fun t => s.Within t ∧ t.kept.untimed = s.kept.untimed ∧ t.kept.lasting.cnt = s.kept.lasting.cnt) := by
  refine (ends_next _ _).2 ⟨s.when_within _ _, ?_⟩
  unfold State.when
  split
  · rw [State.inside_kept]
    exact s.startTimeBase_kept
  · exact ⟨rfl, rfl⟩

/-! ### The end of a fuse operation -/

theorem execFuseProgrammingDone_unfused (ok : Bool) (s : State) :
    Ends (execFuseProgrammingDone ok s) (fun t => s.Within t ∧ t.kept.unfused = s.kept.unfused) := by
  refine (ends_next _ _).2 ⟨s.when_within _ _, ?_⟩
  unfold State.when
  split
  · rw [State.inside_kept]
    dsimp only
    (repeat' split)
    · simp
    · rfl
    · rfl
  · rfl

/-! ### The power resets -/

/-- A power reset keeps the fuses and the queue. -/
structure State.Fused (s t : State) : Prop where
  pending : t.pending = s.pending
  ownerHash : t.idn.ownerHash = s.idn.ownerHash
  rollback : t.idn.rollback = s.idn.rollback

theorem State.powerReset_fused (s : State) (cause : Fld) : s.Fused (s.powerReset cause) := by
  unfold State.powerReset
  dsimp only
  split <;> exact ⟨rfl, rfl, rfl⟩

theorem State.Fused.wr {s t : State} (h : s.Fused t) (f : Fld) (n v : Nat) : s.Fused (t.wr f n v) := ⟨h.pending, h.ownerHash, h.rollback⟩

theorem State.Fused.clear {s t : State} (h : s.Fused t) (l : List Fld) : s.Fused (l.foldl (fun s f => s.wr f 0 0) t) := by
  induction l generalizing t with
  | nil => exact h
  | cons f l ih => exact ih (h.wr f 0 0)

theorem execPorstNAssert_fused (s : State) : Ends (execPorstNAssert s) s.Fused := (ends_next _ _).2 (s.powerReset_fused _)

theorem execSupplyMonitorTrip_fused (rail : Fin 7) (s : State) : Ends (execSupplyMonitorTrip rail s) s.Fused := by
  have h := (s.powerReset_fused F.SYS_RESET_CAUSE_SUPPLY).wr F.SYS_RESET_CAUSE_SUPPLY_RAIL 0 rail.val
  refine (ends_next _ _).2 ?_
  split
  · exact h.clear _
  · exact h

theorem execVauxPowerUp_fused (s : State) : Ends (execVauxPowerUp s) s.Fused := (ends_next _ _).2 ⟨rfl, rfl, rfl⟩

/-! ### The rows that move a pin -/

/-- The queue, and all that only some commands change; the pins may move. -/
structure State.KeepsInside (s t : State) : Prop where
  pending : t.pending = s.pending
  kept : t.kept = s.kept

theorem State.Keeps.inside {s t : State} (h : s.Keeps t) : s.KeepsInside t := ⟨h.pending, h.kept⟩

theorem execPorstNRelease_kept (straps : BitVec 8) (cool : Bool) (s : State) : Ends (execPorstNRelease straps cool s) s.KeepsInside := by
  refine (ends_next _ _).2 ?_
  split
  · have h := s.when_keeps true (fun s => s.latchStart straps.toNat) (s.latchStart_kept _)
    exact ⟨h.pending, h.kept⟩
  · exact ⟨rfl, rfl⟩

theorem execSysrstNAssert_kept (pin : Bool) (s : State) : Ends (execSysrstNAssert pin s) s.KeepsInside := by
  unfold execSysrstNAssert
  extract_lets due
  refine (ends_next _ _).2 ?_
  split
  · have h := s.when_keeps true (fun s =>
        let s := if s.pins.sysrst then s else s.warmReset
        let s := if pin then s.noteCause F.SYS_RESET_CAUSE_SYSRST_PIN else s
        if due then s.noteCause F.SYS_RESET_CAUSE_SW_RESET else s) (by simp)
    exact ⟨h.pending, h.kept⟩
  · exact ⟨rfl, rfl⟩

theorem execSysrstNRelease_kept (pin : Bool) (s : State) : Ends (execSysrstNRelease pin s) s.KeepsInside := by
  refine (ends_next _ _).2 ?_
  split
  · extract_lets p
    have h := s.when_keeps (!p.sysrst) State.resume s.resume_kept
    exact ⟨h.pending, h.kept⟩
  · exact ⟨rfl, rfl⟩

theorem execThermtrip_kept (sensor : Fin 48) (temp : Int) (s : State) : Ends (execThermtrip sensor temp s) s.KeepsInside := by
  refine (ends_next _ _).2 ?_
  split
  · extract_lets t
    have h : s.Keeps t := by
      refine s.when_keeps true _ ?_
      rw [State.raiseFault_kept]
      exact State.foldl_kept _ (fun s p => s.wr_kept _ _ _) _ _
    clear_value t
    exact ⟨h.pending, h.kept⟩
  · exact ⟨rfl, rfl⟩

theorem execPerst_kept (endpoint : Fin 2) (asserted : Bool) (s : State) : Ends (execPerst endpoint asserted s) s.KeepsInside := by
  unfold execPerst
  extract_lets e was u
  have h := u.when_keeps (asserted && !was && !u.pins.porst) (fun s => (s.endpointSeats e).foldl (fun s k => s.seatLinkLost k) s) (by simp)
  exact (ends_next _ _).2 ⟨h.pending, h.kept⟩

theorem State.tapDrive_keepsInside (s : State) (rails : Bool) (code : Nat) (d : Drive) : s.KeepsInside (s.tapDrive rails code d) := ⟨rfl, rfl⟩

/-! ### What takes the faults of the tick first -/

/-- The queue, the pins, the Canopy, the counters and the fuses; the latched faults may come and go. -/
structure State.KeepsLasting (s t : State) : Prop extends s.Within t where
  lasting : t.kept.lasting = s.kept.lasting

theorem State.when_keepsLasting (s : State) (b : Bool) (f : State → State) (h : (f s).kept.lasting = s.kept.lasting) :
    s.KeepsLasting (s.when b f) := ⟨s.when_within b f, s.when_lasting b f h⟩

theorem State.once_keepsLasting (s : State) (k : Nat) (b : Bool) (f : State → State)
    (h : ∀ t : State, (f t).kept.lasting = t.kept.lasting) : s.KeepsLasting (s.once k b f) :=
  ⟨s.once_within k b f, s.when_lasting _ _ (h { s with ran := k :: s.ran })⟩

theorem State.seatRead_keepsLasting (s : State) (seat addr : Nat) (half : Half) : s.KeepsLasting (s.seatRead seat addr half) :=
  ⟨s.seatRead_within _ _ _, s.seatRead_lasting _ _ _⟩

theorem State.command_keepsLasting (s : State) (p : Packet) (opcode : Nat) (body : State → Packet → Done)
    (h : ∀ t p, (body t p).Ends (fun u => u.kept.lasting = t.kept.lasting)) : s.KeepsLasting (s.command p opcode body) :=
  ⟨s.command_within _ _ _, s.command_kept_of Kept.lasting _ _ _ h⟩

theorem execFaultTake_lasting (checkA checkB differ : Bool) (s : State) : Ends (execFaultTake checkA checkB differ s) s.KeepsLasting :=
  (ends_next _ _).2 (s.when_keepsLasting _ _ (by simp))

theorem execNoteAutoAck_lasting (s : State) : Ends (execNoteAutoAck s) s.KeepsLasting :=
  (ends_next _ _).2 (s.when_keepsLasting _ _ s.autoAcks_lasting)

theorem execAckApply_lasting (s : State) : Ends (execAckApply s) s.KeepsLasting :=
  (ends_next _ _).2 (s.when_keepsLasting _ _ s.applyAcks_lasting)

theorem execCommitTick_lasting (liftFails : Bool) (s : State) : Ends (execCommitTick liftFails s) s.KeepsLasting :=
  (ends_next _ _).2 (s.when_keepsLasting _ _ (by simp))

theorem execActionFire_lasting (s : State) : Ends (execActionFire s) s.KeepsLasting :=
  (ends_next _ _).2 (s.when_keepsLasting _ _ (by simp))

theorem execPowerDecision_lasting (s : State) : Ends (execPowerDecision s) s.KeepsLasting :=
  (ends_next _ _).2 (s.once_keepsLasting _ _ _ fun t => by simp)

theorem execMicrowordIssue_lasting (done : Bool) (data : DWord) (corrected idle : Bool) (s : State) :
    Ends (execMicrowordIssue done data corrected idle s) s.KeepsLasting := by
  refine (ends_next _ _).2 (s.when_keepsLasting _ _ ?_)
  split
  · rfl
  · simp [State.issue_lasting]

theorem execCoreSelfTestDone_lasting (core : Fin 2) (pass : Bool) (s : State) : Ends (execCoreSelfTestDone core pass s) s.KeepsLasting := by
  refine (ends_next _ _).2 (s.when_keepsLasting _ _ ?_)
  split
  · simp
  · split <;> simp

theorem execPairLoRead_lasting (seat : Fin 4) (addr : Word) (s : State) : Ends (execPairLoRead seat addr s) s.KeepsLasting :=
  (ends_next _ _).2 (s.seatRead_keepsLasting _ _ _)

theorem execPairHiRead_lasting (seat : Fin 4) (addr : Word) (s : State) : Ends (execPairHiRead seat addr s) s.KeepsLasting :=
  (ends_next _ _).2 (s.seatRead_keepsLasting _ _ _)

theorem execRcRead_lasting (seat : Fin 4) (addr : Word) (s : State) : Ends (execRcRead seat addr s) s.KeepsLasting := by
  have hbad : s.KeepsLasting (s.whenLive (fun s => s.answer .badAddress)) := ⟨s.whenLive_within _, s.whenLive_lasting _ rfl⟩
  refine (ends_next _ _).2 ?_
  split
  · split
    · exact s.seatRead_keepsLasting _ _ _
    · exact hbad
  · exact hbad

theorem execSmbusRead_lasting (cmd : BitVec 8) (s : State) : Ends (execSmbusRead cmd s) s.KeepsLasting := by
  refine (ends_next _ _).2 ?_
  split
  · exact ⟨s.answer_within _ _, rfl⟩
  · refine s.when_keepsLasting _ _ ?_
    dsimp only
    split <;> simp

theorem execRead_lasting (p : Packet) (s : State) : Ends (execRead p s) s.KeepsLasting :=
  (ends_next _ _).2 (s.command_keepsLasting _ _ _ readBody_lasting)

theorem execReadBlock_lasting (p : Packet) (s : State) : Ends (execReadBlock p s) s.KeepsLasting :=
  (ends_next _ _).2 (s.command_keepsLasting _ _ _ readBlockBody_lasting)

theorem execTableLookup_lasting (p : Packet) (s : State) : Ends (execTableLookup p s) s.KeepsLasting :=
  (ends_next _ _).2 (s.command_keepsLasting _ _ _ lookupBody_lasting)

theorem execTableDump_lasting (p : Packet) (s : State) : Ends (execTableDump p s) s.KeepsLasting :=
  (ends_next _ _).2 (s.command_keepsLasting _ _ _ dumpBody_lasting)

end Sys2Proof.Machine
end

section
/-! Every command, by what it moves (O56). -/

namespace Sys2Proof.Machine

/-- What a command c moves, when it takes s to t. -/
inductive Moves (c : Instr) (s t : State) : Prop
  | nothing (h : s.Keeps t)
  | latches (hc : movesLatches c = true) (h : s.KeepsLasting t)
  | pins (hc : movesPins c = true) (h : s.KeepsInside t)
  | allButFuses (hc : powerReset c = true) (hp : movesPins c = true) (h : s.Fused t)
  | time (hc : ∃ a b d, c = .canopyTick a b d) (hw : s.Within t) (h : t.kept.untimed = s.kept.untimed)
  | canopy (hc : c = .timeBaseStart) (hw : s.Within t) (h : t.kept.untimed = s.kept.untimed) (hn : t.kept.lasting.cnt = s.kept.lasting.cnt)
  | fuses (hc : ∃ ok, c = .fuseProgrammingDone ok) (hw : s.Within t) (h : t.kept.unfused = s.kept.unfused)

theorem exec_moves (c : Instr) (s : State) : Ends (exec c s) (Moves c s) := by
  cases c with
  | canopyTick a b d => exact (execCanopyTick_untimed a b d s).mono fun t h => .time ⟨a, b, d, rfl⟩ h.1 h.2
  | timeBaseStart => exact (execTimeBaseStart_kept s).mono fun t h => .canopy rfl h.1 h.2.1 h.2.2
  | fuseProgrammingDone ok => exact (execFuseProgrammingDone_unfused ok s).mono fun t h => .fuses ⟨ok, rfl⟩ h.1 h.2
  | porstNAssert => exact (execPorstNAssert_fused s).mono fun t => .allButFuses rfl rfl
  | supplyMonitorTrip rail => exact (execSupplyMonitorTrip_fused rail s).mono fun t => .allButFuses rfl rfl
  | vauxPowerUp => exact (execVauxPowerUp_fused s).mono fun t => .allButFuses rfl rfl
  | porstNRelease straps cool => exact (execPorstNRelease_kept straps cool s).mono fun t => .pins rfl
  | sysrstNAssert pin => exact (execSysrstNAssert_kept pin s).mono fun t => .pins rfl
  | sysrstNRelease pin => exact (execSysrstNRelease_kept pin s).mono fun t => .pins rfl
  | thermtrip sensor temp => exact (execThermtrip_kept sensor temp s).mono fun t => .pins rfl
  | perst endpoint asserted => exact (execPerst_kept endpoint asserted s).mono fun t => .pins rfl
  | extest rails => exact (ends_next _ _).2 (.pins rfl (s.tapDrive_keepsInside _ _ _))
  | highz rails => exact (ends_next _ _).2 (.pins rfl (s.tapDrive_keepsInside _ _ _))
  | clamp rails => exact (ends_next _ _).2 (.pins rfl (s.tapDrive_keepsInside _ _ _))
  | extestPulse rails => exact (ends_next _ _).2 (.pins rfl (s.tapDrive_keepsInside _ _ _))
  | extestTrain rails => exact (ends_next _ _).2 (.pins rfl (s.tapDrive_keepsInside _ _ _))
  | idcode => exact (ends_next _ _).2 (.pins rfl ⟨rfl, rfl⟩)
  | samplePreload bits => exact (ends_next _ _).2 (.pins rfl ⟨rfl, rfl⟩)
  | bypass => exact (ends_next _ _).2 (.pins rfl ⟨rfl, rfl⟩)
  | tapReset => exact (ends_next _ _).2 (.pins rfl ⟨rfl, rfl⟩)
  | faultTake checkA checkB differ => exact (execFaultTake_lasting checkA checkB differ s).mono fun t => .latches rfl
  | noteAutoAck => exact (execNoteAutoAck_lasting s).mono fun t => .latches rfl
  | ackApply => exact (execAckApply_lasting s).mono fun t => .latches rfl
  | coreSelfTestDone core pass => exact (execCoreSelfTestDone_lasting core pass s).mono fun t => .latches rfl
  | commitTick liftFails => exact (execCommitTick_lasting liftFails s).mono fun t => .latches rfl
  | actionFire => exact (execActionFire_lasting s).mono fun t => .latches rfl
  | powerDecision => exact (execPowerDecision_lasting s).mono fun t => .latches rfl
  | microwordIssue done data corrected idle => exact (execMicrowordIssue_lasting done data corrected idle s).mono fun t => .latches rfl
  | pairLoRead seat addr => exact (execPairLoRead_lasting seat addr s).mono fun t => .latches rfl
  | pairHiRead seat addr => exact (execPairHiRead_lasting seat addr s).mono fun t => .latches rfl
  | rcRead seat addr => exact (execRcRead_lasting seat addr s).mono fun t => .latches rfl
  | smbusRead cmd => exact (execSmbusRead_lasting cmd s).mono fun t => .latches rfl
  | read p => exact (execRead_lasting p s).mono fun t => .latches rfl
  | readBlock p => exact (execReadBlock_lasting p s).mono fun t => .latches rfl
  | tableLookup p => exact (execTableLookup_lasting p s).mono fun t => .latches rfl
  | tableDump p => exact (execTableDump_lasting p s).mono fun t => .latches rfl
  | _ => exact Ends.mono (P := s.Keeps) (by simp only [exec]; simp) fun t => .nothing

variable {c : Instr} {s t : State}

theorem Moves.pending_eq (h : Moves c s t) : t.pending = s.pending := by
  cases h with
  | nothing h => exact h.pending
  | latches _ h => exact h.pending
  | pins _ h => exact h.pending
  | allButFuses _ _ h => exact h.pending
  | time _ hw _ => exact hw.pending
  | canopy _ hw _ _ => exact hw.pending
  | fuses _ hw _ => exact hw.pending

theorem Moves.pins_eq (h : Moves c s t) (hc : movesPins c = false) : t.pins = { s.pins with swAt := t.pins.swAt } := by
  cases h with
  | nothing h => exact h.pins
  | latches _ h => exact h.pins
  | pins hc' _ => simp [hc] at hc'
  | allButFuses _ hc' _ => simp [hc] at hc'
  | time _ hw _ => exact hw.pins
  | canopy _ hw _ _ => exact hw.pins
  | fuses _ hw _ => exact hw.pins

theorem Moves.canopy_eq (h : Moves c s t) (hr : powerReset c = false) (ht : ∀ a b d, c ≠ .canopyTick a b d) (hb : c ≠ .timeBaseStart) :
    t.tim.canopy = s.tim.canopy := by
  cases h with
  | nothing h => exact congrArg (fun k : Kept => k.lasting.canopy) h.kept
  | latches _ h => exact congrArg Lasting.canopy h.lasting
  | pins _ h => exact congrArg (fun k : Kept => k.lasting.canopy) h.kept
  | allButFuses hc _ _ => simp [hr] at hc
  | time hc _ _ => obtain ⟨a, b, d, hc⟩ := hc; exact absurd hc (ht a b d)
  | canopy hc _ _ _ => exact absurd hc hb
  | fuses _ _ h => exact congrArg Prod.fst h

theorem Moves.cnt_eq (h : Moves c s t) (hr : powerReset c = false) (ht : ∀ a b d, c ≠ .canopyTick a b d) : t.cnt = s.cnt := by
  cases h with
  | nothing h => exact congrArg (fun k : Kept => k.lasting.cnt) h.kept
  | latches _ h => exact congrArg Lasting.cnt h.lasting
  | pins _ h => exact congrArg (fun k : Kept => k.lasting.cnt) h.kept
  | allButFuses hc _ _ => simp [hr] at hc
  | time hc _ _ => obtain ⟨a, b, d, hc⟩ := hc; exact absurd hc (ht a b d)
  | canopy _ _ _ hn => exact hn
  | fuses _ _ h => exact congrArg (fun x => x.2.1) h

theorem Moves.fuses_eq (h : Moves c s t) (hf : ∀ ok, c ≠ .fuseProgrammingDone ok) :
    t.idn.ownerHash = s.idn.ownerHash ∧ t.idn.rollback = s.idn.rollback := by
  cases h with
  | nothing h => exact ⟨congrArg (fun k : Kept => k.lasting.ownerHash) h.kept, congrArg (fun k : Kept => k.lasting.rollback) h.kept⟩
  | latches _ h => exact ⟨congrArg Lasting.ownerHash h.lasting, congrArg Lasting.rollback h.lasting⟩
  | pins _ h => exact ⟨congrArg (fun k : Kept => k.lasting.ownerHash) h.kept, congrArg (fun k : Kept => k.lasting.rollback) h.kept⟩
  | allButFuses _ _ h => exact ⟨h.ownerHash, h.rollback⟩
  | time _ _ h => exact ⟨congrArg Prod.fst h, congrArg (fun x => x.2.1) h⟩
  | canopy _ _ h _ => exact ⟨congrArg Prod.fst h, congrArg (fun x => x.2.1) h⟩
  | fuses hc _ _ => obtain ⟨ok, hc⟩ := hc; exact absurd hc (hf ok)

theorem Moves.latches_eq (h : Moves c s t) (hr : powerReset c = false) (hl : movesLatches c = false) :
    t.flt.main.latches = s.flt.main.latches := by
  cases h with
  | nothing h => exact congrArg Kept.latches h.kept
  | latches hc _ => simp [hl] at hc
  | pins _ h => exact congrArg Kept.latches h.kept
  | allButFuses hc _ _ => simp [hr] at hc
  | time _ _ h => exact congrArg (fun x => x.2.2) h
  | canopy _ _ h _ => exact congrArg (fun x => x.2.2) h
  | fuses _ _ h => exact congrArg (fun x => x.2.2) h

end Sys2Proof.Machine

namespace Sys2Proof.Proofs
open Sys2Proof.Machine

/-- Settles O56: each command is classed once by what it moves (`exec_moves`). -/
theorem commandsKeepToTheirParts : Obligations.CommandsKeepToTheirParts := by
  unfold Obligations.CommandsKeepToTheirParts
  exact ⟨fun c s t e => (exec_moves c s t e).pending_eq, fun c s t e => (exec_moves c s t e).pins_eq,
    fun c s t e => (exec_moves c s t e).canopy_eq, fun c s t e => (exec_moves c s t e).cnt_eq,
    fun c s t e => (exec_moves c s t e).fuses_eq, fun c s t e => (exec_moves c s t e).latches_eq⟩

end Sys2Proof.Proofs
end

section
/-! The calibration of a port (R60) and its temperature correction (R62): how a run ends, what a run that completes leaves, and what
the correction shows. -/

namespace Sys2Proof.Machine

/-! ### Places -/

section
variable {s t : State} {l : List (Fld × Nat)} {f g : Fld}

/-- Fields at different bits of their words stand at different places. -/
theorem Fld.key_ne_of_lsb (h : f.lsb % 32 ≠ g.lsb % 32) (n m : Nat) : f.key n ≠ g.key m := by
  simp only [Fld.key]; omega

/-- A field of the registers that TSU has for each port. -/
def Fld.tsuPort (f : Fld) : Bool :=
  f.inner == 1 && f.outerStride == 0x20 && decide (A.TSU_ING_DELAY ≤ f.base) && decide (f.base < A.TSU_ING_DELAY + 0x20) && decide (f.lsb < 32)

theorem Fld.tsuPort_le_key (hf : f.tsuPort = true) (n : Nat) : A.TSU_ING_DELAY * 32 ≤ f.key n := by
  have hle := f.base_le_key n
  simp only [Fld.tsuPort, Bool.and_eq_true, decide_eq_true_eq] at hf
  omega

/-- The registers of a front-panel port in TSU stand in the first blocks. -/
theorem inFirstBlocks_tsuPort (hf : f.tsuPort = true) {p : Nat} (hp : p < 512) : inFirstBlocks (f.key p) = true := by
  simp only [Fld.tsuPort, Bool.and_eq_true, beq_iff_eq, decide_eq_true_eq] at hf
  obtain ⟨⟨⟨⟨hi, ho⟩, -⟩, hbase⟩, hlsb⟩ := hf
  have hend : A.TSU_ING_DELAY + 0x20 = 0x31020 := rfl
  simp only [inFirstBlocks, Fld.key, Fld.addr, hi, ho, decide_eq_true_eq, Nat.mod_one, Nat.zero_mul, Nat.div_one]
  omega

/-- Fields below the registers of the ports are none of them. -/
theorem RegsBut.rd_tsuPort (h : RegsBut s t l) (hl : ∀ x ∈ l, x.1.key x.2 < A.TSU_ING_DELAY * 32) (hf : f.tsuPort = true) (n : Nat) :
    t.rd f n = s.rd f n :=
  h f n fun x hx => Nat.ne_of_lt (Nat.lt_of_lt_of_le (hl x hx) (Fld.tsuPort_le_key hf n))

end

theorem ofS_mod (w : Nat) (i : Int) : ofS w i % 2 ^ w = ofS w i := by
  have h : (0 : Int) < ((2 ^ w : Nat) : Int) := by exact_mod_cast Nat.two_pow_pos w
  have hlt := Int.emod_lt_of_pos i h
  have hnn := Int.emod_nonneg i (Int.ne_of_gt h)
  exact Nat.mod_eq_of_lt (by simp only [ofS]; omega)

/-! ### The end of a run (R60) -/

/-- The flag that tells of a run's RESULT. -/
def calFlag (result : Nat) : Fld := if result = 0 then F.TSU_INT_STATUS_CAL_DONE else F.TSU_INT_STATUS_CAL_FAIL

/-- The registers that tell of a run's end. -/
def calFields : List (Fld × Nat) :=
  [(F.TSU_CAL_STATUS_BUSY, 0), (F.TSU_CAL_STATUS_DONE, 0), (F.TSU_CAL_STATUS_RESULT, 0), (F.TSU_INT_STATUS_CAL_DONE, 0),
   (F.TSU_INT_STATUS_CAL_FAIL, 0)]

theorem calFlag_cases (result : Nat) : calFlag result = F.TSU_INT_STATUS_CAL_DONE ∨ calFlag result = F.TSU_INT_STATUS_CAL_FAIL := by
  unfold calFlag
  split
  · exact .inl rfl
  · exact .inr rfl

/-- BUSY, DONE, RESULT and the flag show that a run has ended. -/
def State.calReported (s : State) (result : Nat) : State :=
  (((s.wr F.TSU_CAL_STATUS_BUSY 0 0).wr F.TSU_CAL_STATUS_DONE 0 1).wr F.TSU_CAL_STATUS_RESULT 0 result).raiseBits (calFlag result) 0 1

section
variable (s : State) (result : Nat)

theorem RegsBut.calReported : RegsBut s (s.calReported result) calFields := by
  have h : RegsBut s (((s.wr F.TSU_CAL_STATUS_BUSY 0 0).wr F.TSU_CAL_STATUS_DONE 0 1).wr F.TSU_CAL_STATUS_RESULT 0 result) calFields :=
    ((RegsBut.refl.wr 0 (by simp [calFields])).wr 1 (by simp [calFields])).wr result (by simp [calFields])
  refine h.raiseBits 1 ?_
  obtain e | e := calFlag_cases result <;> simp [e, calFields]

theorem State.calReported_flag : (s.calReported result).on (calFlag result) = true := by
  refine State.on_raiseBits_one _ _ _ ?_
  obtain e | e := calFlag_cases result <;> rw [e] <;> rfl

/-- The flag stands in another register than the three fields of CAL_STATUS. -/
theorem State.calReported_below {f : Fld} {n : Nat} (h : f.key n < A.TSU_INT_STATUS * 32) : (s.calReported result).rd f n =
    (((s.wr F.TSU_CAL_STATUS_BUSY 0 0).wr F.TSU_CAL_STATUS_DONE 0 1).wr F.TSU_CAL_STATUS_RESULT 0 result).rd f n := by
  refine State.rd_raiseBits_other _ _ _ ?_ _
  have hbase : (calFlag result).base = A.TSU_INT_STATUS := by obtain e | e := calFlag_cases result <;> rw [e] <;> rfl
  have hle := (calFlag result).base_le_key 0
  rw [hbase] at hle
  omega

theorem State.calReported_busy : (s.calReported result).on F.TSU_CAL_STATUS_BUSY = false := by
  rw [State.on, s.calReported_below result (by decide), State.rd_wr_other _ _ _ (by decide), State.rd_wr_other _ _ _ (by decide)]
  exact State.on_wr_zero _ _ _

theorem State.calReported_done : (s.calReported result).on F.TSU_CAL_STATUS_DONE = true := by
  rw [State.on, s.calReported_below result (by decide), State.rd_wr_other _ _ _ (by decide)]
  exact State.on_wr_one _ _ _ rfl

theorem State.calReported_result : (s.calReported result).rd F.TSU_CAL_STATUS_RESULT = result % 4 := by
  rw [s.calReported_below result (by decide)]
  exact State.rd_wr_same _ _ _ _

end

section
variable {s : State} {r : CalRun} (result : Nat)

/-- The end of a run: told of, its port stopped, and counted. -/
theorem State.calEnd_eq (h : s.tsu.cal = some r) : s.calEnd result =
    ({ (s.calReported result).wr F.LAN_PORT_STATUS_STATE r.port 0 with tsu := { s.tsu with cal := none } } : State).bump 4 11 := by
  by_cases hk : result = 0 <;>
    simp only [State.calEnd, State.calReported, calFlag, hk, if_true, if_false, State.raiseBits_tsu, State.wr_tsu, h]

theorem State.calEnd_frame (h : s.tsu.cal = some r) : s.calEnd result =
    { s with regs := (s.calEnd result).regs, hwSet := (s.calEnd result).hwSet, cntTick := (s.calEnd result).cntTick,
             tsu := { s.tsu with cal := none } } := by
  rw [State.calEnd_eq result h]; rfl

theorem State.calEnd_tsu (h : s.tsu.cal = some r) : (s.calEnd result).tsu = { s.tsu with cal := none } := by
  rw [State.calEnd_eq result h]; rfl

theorem State.calEnd_cmd (h : s.tsu.cal = some r) : (s.calEnd result).cmd = s.cmd := by rw [State.calEnd_eq result h]; rfl

theorem State.calEnd_flt (h : s.tsu.cal = some r) : (s.calEnd result).flt = s.flt := by rw [State.calEnd_eq result h]; rfl

theorem State.calEnd_regs (h : s.tsu.cal = some r) :
    (s.calEnd result).regs = ((s.calReported result).wr F.LAN_PORT_STATUS_STATE r.port 0).regs := by
  rw [State.calEnd_eq result h]; rfl

theorem State.calEnd_state (h : s.tsu.cal = some r) : (s.calEnd result).rd F.LAN_PORT_STATUS_STATE r.port = 0 := by
  rw [State.rd_congr (State.calEnd_regs result h), State.rd_wr_same]
  exact Nat.zero_mod _

/-- The port's state stands far above the registers of TSU. -/
theorem State.calEnd_regsIf (h : s.tsu.cal = some r) : RegsIf (s.calReported result) (s.calEnd result) inFirstBlocks :=
  (RegsIf.wr _ 0 (inFirstBlocks_of_base (f := F.LAN_PORT_STATUS_STATE) (by decide) r.port)).trans (.of_regs (State.calEnd_regs result h))

theorem State.calEnd_shown (h : s.tsu.cal = some r) :
    (s.calEnd result).on F.TSU_CAL_STATUS_BUSY = false ∧ (s.calEnd result).on F.TSU_CAL_STATUS_DONE = true ∧
      (s.calEnd result).rd F.TSU_CAL_STATUS_RESULT = result % 4 ∧ (s.calEnd result).on (calFlag result) = true := by
  have hregs := State.calEnd_regsIf result h
  refine ⟨(hregs.on (by decide)).trans (s.calReported_busy result), (hregs.on (by decide)).trans (s.calReported_done result),
    (hregs _ _ (by decide)).trans (s.calReported_result result), (hregs.on ?_).trans (s.calReported_flag result)⟩
  obtain e | e := calFlag_cases result <;> rw [e] <;> decide

/-- What stands neither in CAL_STATUS nor in INT_STATUS, nor above TSU, a run's end leaves. -/
theorem State.calEnd_rd_other (h : s.tsu.cal = some r) {f : Fld} {n : Nat} (hf : inFirstBlocks (f.key n) = true)
    (hl : ∀ x ∈ calFields, x.1.key x.2 ≠ f.key n) : (s.calEnd result).rd f n = s.rd f n :=
  (State.calEnd_regsIf result h f n hf).trans (RegsBut.calReported s result f n hl)

/-- A run's end leaves the registers of a front-panel port in TSU. -/
theorem State.calEnd_rd_port (h : s.tsu.cal = some r) {f : Fld} (hf : f.tsuPort = true) {p : Nat} (hp : p < 512) :
    (s.calEnd result).rd f p = s.rd f p :=
  (State.calEnd_regsIf result h f p (inFirstBlocks_tsuPort hf hp)).trans ((RegsBut.calReported s result).rd_tsuPort (by decide) hf p)

end

/-! ### A run that completes (R60) -/

/-- The delay sum that a run measures. -/
def State.calSum (s : State) (r : CalRun) (sum : Nat) : Int :=
  (calMean sum r.count : Int) - s.rd F.TSU_LB_DELAY_VALUE (r.port / 32)

/-- The nominal delay sum of a mode. -/
def State.calNominal (s : State) (mode : Nat) : Nat := s.rd F.TSU_NOM_ING_VALUE mode + s.rd F.TSU_NOM_EGR_VALUE mode

/-- SPLIT parts of 256 of an excess, halves up. -/
def splitExcess (excess : Int) (split : Nat) : Int := Int.fdiv (excess * split + 128) 256

/-- The egress delay of a port: its nominal value and its part of the excess over the nominal sum. -/
def State.calEgress (s : State) (port mode : Nat) (total : Int) : Int :=
  s.rd F.TSU_NOM_EGR_VALUE mode + splitExcess (total - s.calNominal mode) (s.rd F.TSU_PORT_CFG_SPLIT port)

/-- The words that set both delays of a port. -/
def delayWords (port : Nat) (ing egr : Int) : List StagedWord :=
  [⟨F.TSU_ING_DELAY_VALUE.addr port, 0xFFFFF, ofS 20 ing⟩, ⟨F.TSU_EGR_DELAY_VALUE.addr port, 0xFFFFF, ofS 20 egr⟩]

/-- CAL_SUM shows the sum. -/
def State.calSummed (s : State) (r : CalRun) (sum : Nat) : State := s.wr F.TSU_CAL_SUM_VALUE 0 (ofS 24 (s.calSum r sum))

/-- The temperature of the run is the port's; with APPLY the delays are to be written, and the port is calibrated. -/
def State.calApplied (s : State) (r : CalRun) (mode temp : Nat) (words : List StagedWord) : State :=
  let s := s.wr F.TSU_PORT_STATUS_CAL_TEMP r.port temp
  if r.apply then
    ((s.wr F.TSU_PORT_STATUS_CALIBRATED r.port 1).wr F.TSU_PORT_STATUS_MODE r.port mode).implicitTxn r.seat words [] none
  else s

/-- What a run that succeeds leaves before its end. -/
def State.calTaken (s : State) (r : CalRun) (mode temp : Nat) (words : List StagedWord) : State :=
  (s.calApplied r mode temp words).wr F.TSU_PORT_STATUS_CAL_STALE r.port 0

/-- The fields of a port's PORT_STATUS. -/
def portStatusFields (p : Nat) : List (Fld × Nat) :=
  [(F.TSU_PORT_STATUS_CAL_TEMP, p), (F.TSU_PORT_STATUS_CALIBRATED, p), (F.TSU_PORT_STATUS_MODE, p), (F.TSU_PORT_STATUS_CAL_STALE, p)]

theorem portStatusFields_tsuPort (p : Nat) : ∀ x ∈ portStatusFields p, x.1.tsuPort = true := by
  simp only [portStatusFields, List.forall_mem_cons]
  exact ⟨rfl, rfl, rfl, rfl, nofun⟩

section
variable {s : State} {r : CalRun} {sum temp mode : Nat} {words : List StagedWord}

theorem State.calDone_far (h : 2048 < (s.calSum r sum - s.calNominal (s.rd F.LAN_PORT_CFG_MODE r.port)).natAbs) :
    s.calDone r sum temp = ((s.calSummed r sum).calEnd 2).raiseFault 4 1 0 0 r.port := if_pos h

/-- CAL_SUM is none of the registers of a port. -/
theorem State.calSummed_rd_port (s : State) (r : CalRun) (sum : Nat) {f : Fld} (hf : f.tsuPort = true) {p : Nat} :
    (s.calSummed r sum).rd f p = s.rd f p :=
  RegsBut.rd_tsuPort (l := [(F.TSU_CAL_SUM_VALUE, 0)]) (RegsBut.refl.wr _ (by simp)) (by decide) hf p

theorem State.calDone_near (h : (s.calSum r sum - s.calNominal (s.rd F.LAN_PORT_CFG_MODE r.port)).natAbs ≤ 2048) :
    let mode := s.rd F.LAN_PORT_CFG_MODE r.port
    let egr := s.calEgress r.port mode (s.calSum r sum)
    s.calDone r sum temp =
      ((s.calSummed r sum).calTaken r mode temp (delayWords r.port (s.calSum r sum - egr) egr)).calEnd 0 := by
  intro mode egr
  have hegr : s.rd F.TSU_NOM_EGR_VALUE mode +
      splitExcess (s.calSum r sum - s.calNominal mode) ((s.calSummed r sum).rd F.TSU_PORT_CFG_SPLIT r.port) = egr := by
    rw [s.calSummed_rd_port r sum rfl]; rfl
  have hing : s.rd F.TSU_NOM_ING_VALUE mode + (s.calSum r sum - s.calNominal mode) - (egr - s.rd F.TSU_NOM_EGR_VALUE mode) =
      s.calSum r sum - egr := by
    rw [State.calNominal]; omega
  rw [← hing, ← hegr]
  exact if_neg (Nat.not_lt.mpr h)

theorem RegsBut.calApplied : RegsBut s (s.calApplied r mode temp words) (portStatusFields r.port) := by
  have htemp : RegsBut s (s.wr F.TSU_PORT_STATUS_CAL_TEMP r.port temp) (portStatusFields r.port) :=
    RegsBut.refl.wr temp (by simp [portStatusFields])
  unfold State.calApplied
  dsimp only
  split
  · exact ((htemp.wr 1 (by simp [portStatusFields])).wr mode (by simp [portStatusFields])).congr rfl
  · exact htemp

theorem RegsBut.calTaken : RegsBut s (s.calTaken r mode temp words) (portStatusFields r.port) :=
  RegsBut.calApplied.wr 0 (by simp [portStatusFields])

theorem State.calTaken_temp : (s.calTaken r mode temp words).rd F.TSU_PORT_STATUS_CAL_TEMP r.port = temp % 2 ^ 8 := by
  have hw : (s.wr F.TSU_PORT_STATUS_CAL_TEMP r.port temp).rd F.TSU_PORT_STATUS_CAL_TEMP r.port = temp % 2 ^ 8 := State.rd_wr_same _ _ _ _
  rw [State.calTaken, State.rd_wr_other _ _ _ (Fld.key_ne_of_lsb (by decide) _ _), State.calApplied]
  split
  · rw [State.rd_congr (State.implicitTxn_regs _ _ _ _ _), State.rd_wr_other _ _ _ (Fld.key_ne_of_lsb (by decide) _ _),
      State.rd_wr_other _ _ _ (Fld.key_ne_of_lsb (by decide) _ _), hw]
  · exact hw

theorem State.calTaken_calibrated (h : r.apply = true) :
    (s.calTaken r mode temp words).on F.TSU_PORT_STATUS_CALIBRATED r.port = true := by
  rw [State.calTaken, State.on_wr_other _ _ _ (Fld.key_ne_of_lsb (by decide) _ _), State.calApplied, if_pos h,
    State.on_congr (State.implicitTxn_regs _ _ _ _ _), State.on_wr_other _ _ _ (Fld.key_ne_of_lsb (by decide) _ _)]
  exact State.on_wr_one _ _ _ rfl

/-- With APPLY the newest transaction is the one of both delays. -/
theorem State.calTaken_txn (h : r.apply = true) :
    ((s.calTaken r mode temp words).cmd.txns.getLast?).map (fun x => (x.implicit, x.words)) = some (true, words) := by
  rw [State.calTaken, State.wr_cmd, State.calApplied, if_pos h, State.implicitTxn]
  simp only [List.getLast?_concat, Option.map_some]

theorem State.calTaken_tsu : (s.calTaken r mode temp words).tsu = s.tsu := by
  unfold State.calTaken State.calApplied
  dsimp only
  split <;> rfl

theorem State.calTaken_flt : (s.calTaken r mode temp words).flt = s.flt := by
  unfold State.calTaken State.calApplied
  dsimp only
  split <;> rfl

end

/-! ### The correction (R62) -/

/-- TEMP_CORR shows the correction for a temperature. -/
def State.tempCorrected (s : State) (p : Nat) (temp : Int) : State :=
  s.wr F.TSU_TEMP_CORR_VALUE p (ofS 16 (Int.fdiv (s.rdS F.TSU_TEMPCO_VALUE (s.rd F.TSU_PORT_STATUS_MODE p) *
    (temp - s.rdS F.TSU_PORT_STATUS_CAL_TEMP p)) 256))

/-- The calibration of a port is stale, and INT_STATUS tells of it. -/
def State.calStale (s : State) (p : Nat) : State := (s.wr F.TSU_PORT_STATUS_CAL_STALE p 1).raiseBits F.TSU_INT_STATUS_CAL_STALE 0 1

section
variable (s : State) (p : Nat) (temp : Int)

theorem State.tempComp_far (h : 15 < (temp - s.rdS F.TSU_PORT_STATUS_CAL_TEMP p).natAbs) :
    s.tempComp p temp = (s.tempCorrected p temp).calStale p := if_pos h

theorem State.tempComp_near (h : (temp - s.rdS F.TSU_PORT_STATUS_CAL_TEMP p).natAbs ≤ 15) :
    s.tempComp p temp = s.tempCorrected p temp := if_neg (Nat.not_lt.mpr h)

theorem State.tempCorrected_value : (s.tempCorrected p temp).rd F.TSU_TEMP_CORR_VALUE p =
    ofS 16 (Int.fdiv (s.rdS F.TSU_TEMPCO_VALUE (s.rd F.TSU_PORT_STATUS_MODE p) * (temp - s.rdS F.TSU_PORT_STATUS_CAL_TEMP p)) 256) :=
  (State.rd_wr_same _ _ _ _).trans (ofS_mod 16 _)

theorem RegsBut.calStale : RegsBut s (s.calStale p) [(F.TSU_PORT_STATUS_CAL_STALE, p), (F.TSU_INT_STATUS_CAL_STALE, 0)] :=
  (RegsBut.refl.wr 1 (by simp)).raiseBits 1 (by simp)

theorem State.calStale_corr : (s.calStale p).rd F.TSU_TEMP_CORR_VALUE p = s.rd F.TSU_TEMP_CORR_VALUE p := by
  refine RegsBut.calStale s p _ _ (List.forall_mem_cons.mpr ⟨?_, List.forall_mem_singleton.mpr ?_⟩)
  · exact Fld.key_ne_of_lsb (f := F.TSU_PORT_STATUS_CAL_STALE) (by decide) _ _
  · exact Fld.key_ne_of_lsb (f := F.TSU_INT_STATUS_CAL_STALE) (by decide) _ _

theorem State.calStale_shown :
    (s.calStale p).on F.TSU_PORT_STATUS_CAL_STALE p = true ∧ (s.calStale p).on F.TSU_INT_STATUS_CAL_STALE = true := by
  refine ⟨?_, State.on_raiseBits_one _ _ _ rfl⟩
  rw [State.on, State.calStale, State.rd_raiseBits_other _ _ _ (Fld.key_ne_of_lsb (by decide) _ _)]
  exact State.on_wr_one _ _ _ rfl

end

end Sys2Proof.Machine

namespace Sys2Proof.Proofs
open Sys2Proof.Machine

/-- No block lock in time (R60). -/
theorem calLockTimeout_completes (s : State) (r : CalRun) (hl : s.live = true) (hr : s.tsu.cal = some r) (ht : r.start + 8000000 ≤ s.now) :
    Completes (.calLockTimeout) s (fun t => t.tsu.cal = none ∧ t.on F.TSU_CAL_STATUS_BUSY = false ∧ t.on F.TSU_CAL_STATUS_DONE = true ∧
    t.rd F.TSU_CAL_STATUS_RESULT = 1 ∧ t.on F.TSU_INT_STATUS_CAL_FAIL = true ∧ t.rd F.LAN_PORT_STATUS_STATE r.port = 0 ∧
    t = { s with regs := t.regs, hwSet := t.hwSet, cntTick := t.cntTick, tsu := t.tsu }) := by
  have hstep : exec .calLockTimeout s = .next (s.inside (s.calEnd 1)) := by
    refine congrArg _ ((s.whenLive_true hl _).trans ?_)
    rw [hr]
    dsimp only
    rw [if_pos ht]
  obtain ⟨hbusy, hdone, hresult, hflag⟩ := State.calEnd_shown 1 hr
  have hframe := State.calEnd_frame 1 hr
  refine ⟨_, hstep, congrArg (fun t : State => t.tsu.cal) hframe, hbusy, hdone, hresult, hflag, State.calEnd_state 1 hr, ?_⟩
  generalize s.calEnd 1 = t at hframe ⊢
  rw [hframe]
  rfl

/-- A run that completes (R60). -/
theorem calDone_completes (s : State) (r : CalRun) (sum : Nat) (temp : BitVec 8) (hl : s.live = true) (hr : s.tsu.cal = some r)
    (hp : r.port < 512) :
    let mode := s.rd F.LAN_PORT_CFG_MODE r.port
    let total := s.calSum r sum
    let egr := s.calEgress r.port mode total
    Completes (.calDone sum temp) s (fun t => t.tsu.cal = none ∧ t.on F.TSU_CAL_STATUS_BUSY = false ∧ t.on F.TSU_CAL_STATUS_DONE = true ∧
    t.rd F.TSU_CAL_SUM_VALUE = ofS 24 total ∧
    (2048 < (total - s.calNominal mode).natAbs → t.rd F.TSU_CAL_STATUS_RESULT = 2 ∧ t.flt.held = s.flt.held ++ [⟨4, 1, 0, 0, r.port⟩] ∧
      t.cmd = s.cmd ∧ t.rd F.TSU_PORT_STATUS_CALIBRATED r.port = s.rd F.TSU_PORT_STATUS_CALIBRATED r.port) ∧
    ((total - s.calNominal mode).natAbs ≤ 2048 → t.rd F.TSU_CAL_STATUS_RESULT = 0 ∧ t.on F.TSU_INT_STATUS_CAL_DONE = true ∧ t.flt = s.flt ∧
      t.rd F.TSU_PORT_STATUS_CAL_TEMP r.port = temp.toNat) ∧
    ((total - s.calNominal mode).natAbs ≤ 2048 → r.apply = true → t.on F.TSU_PORT_STATUS_CALIBRATED r.port = true ∧
      (t.cmd.txns.getLast?).map (fun x => (x.implicit, x.words)) = some (true, delayWords r.port (total - egr) egr))) := by
  intro mode total egr
  have hstep : exec (.calDone sum temp) s = .next (s.inside (s.calDone r sum temp.toNat)) := by
    refine congrArg _ ((s.whenLive_true hl _).trans ?_)
    rw [hr]
  have hcal : (s.calSummed r sum).tsu.cal = some r := hr
  have hsum : (s.calSummed r sum).rd F.TSU_CAL_SUM_VALUE = ofS 24 total := (State.rd_wr_same _ _ _ _).trans (ofS_mod 24 _)
  refine ⟨_, hstep, ?_⟩
  rcases Nat.lt_or_ge 2048 (total - s.calNominal mode).natAbs with hfar | hnear
  · rw [State.calDone_far hfar]
    obtain ⟨hbusy, hdone, hresult, -⟩ := State.calEnd_shown 2 hcal
    have hcalibrated : ((s.calSummed r sum).calEnd 2).rd F.TSU_PORT_STATUS_CALIBRATED r.port = s.rd F.TSU_PORT_STATUS_CALIBRATED r.port :=
      (State.calEnd_rd_port 2 hcal (by decide) hp).trans (State.calSummed_rd_port s r sum (by decide))
    exact ⟨congrArg Tsu.cal (State.calEnd_tsu 2 hcal), hbusy, hdone, (State.calEnd_rd_other 2 hcal (by decide) (by decide)).trans hsum,
      fun _ => ⟨hresult, congrArg (fun x : Flt => x.held ++ [⟨4, 1, 0, 0, r.port⟩]) (State.calEnd_flt 2 hcal), State.calEnd_cmd 2 hcal,
        hcalibrated⟩,
      fun h => absurd hfar (Nat.not_lt.mpr h), fun h => absurd hfar (Nat.not_lt.mpr h)⟩
  · rw [State.calDone_near hnear]
    have htaken : ((s.calSummed r sum).calTaken r mode temp.toNat (delayWords r.port (total - egr) egr)).tsu.cal = some r :=
      (congrArg Tsu.cal State.calTaken_tsu).trans hr
    obtain ⟨hbusy, hdone, hresult, hflag⟩ := State.calEnd_shown 0 htaken
    refine ⟨congrArg Tsu.cal (State.calEnd_tsu 0 htaken), hbusy, hdone, ?_, fun h => absurd h (Nat.not_lt.mpr hnear),
      fun _ => ⟨hresult, hflag, (State.calEnd_flt 0 htaken).trans State.calTaken_flt, ?_⟩, fun _ happly => ⟨?_, ?_⟩⟩
    · refine (State.calEnd_rd_other 0 htaken (by decide) (by decide)).trans ((RegsBut.calTaken _ _ fun x hx => ?_).trans hsum)
      have hbelow : F.TSU_CAL_SUM_VALUE.key 0 < A.TSU_ING_DELAY * 32 := by decide
      exact Nat.ne_of_gt (Nat.lt_of_lt_of_le hbelow (Fld.tsuPort_le_key (portStatusFields_tsuPort _ x hx) _))
    · exact (State.calEnd_rd_port 0 htaken (by decide) hp).trans (State.calTaken_temp.trans (Nat.mod_eq_of_lt temp.isLt))
    · exact (congrArg (· == 1) (State.calEnd_rd_port 0 htaken (by decide) hp)).trans (State.calTaken_calibrated happly)
    · exact (congrArg (fun x : Cmd => (x.txns.getLast?).map fun x => (x.implicit, x.words)) (State.calEnd_cmd 0 htaken)).trans
        (State.calTaken_txn happly)

/-- A correction (R62). -/
theorem tempCompUpdate_completes (s : State) (p : Fin 512) (temp : BitVec 8) (hl : s.live = true)
    (hon : s.on F.TSU_PORT_CFG_TEMP_COMP p.val = true) (ht : s.now % 800000 = 0 ∧ s.ran.contains (2048 + p.val) = false) :
    let d := temp.toInt - s.rdS F.TSU_PORT_STATUS_CAL_TEMP p.val
    Completes (.tempCompUpdate p temp) s (fun t => t.rd F.TSU_TEMP_CORR_VALUE p.val =
      ofS 16 (Int.fdiv (s.rdS F.TSU_TEMPCO_VALUE (s.rd F.TSU_PORT_STATUS_MODE p.val) * d) 256) ∧
    (15 < d.natAbs → t.on F.TSU_PORT_STATUS_CAL_STALE p.val = true ∧ t.on F.TSU_INT_STATUS_CAL_STALE = true) ∧
    (d.natAbs ≤ 15 → RegsBut s t [(F.TSU_TEMP_CORR_VALUE, p.val)]) ∧ t = { s with regs := t.regs, hwSet := t.hwSet, ran := t.ran }) := by
  intro d
  obtain ⟨hgrid, hran⟩ := ht
  let u : State := { s with ran := (2048 + p.val) :: s.ran }
  have hstep : exec (.tempCompUpdate p temp) s = .next (s.inside (u.tempComp p.val temp.toInt)) :=
    congrArg _ (State.once_true s (by rw [hl, hon, hgrid]; rfl) hran _)
  refine ⟨_, hstep, ?_⟩
  rcases Nat.lt_or_ge 15 d.natAbs with hfar | hnear
  · rw [u.tempComp_far p.val temp.toInt hfar]
    exact ⟨(State.calStale_corr _ _).trans (u.tempCorrected_value _ _), fun _ => State.calStale_shown _ _,
      fun h => absurd hfar (Nat.not_lt.mpr h), rfl⟩
  · rw [u.tempComp_near p.val temp.toInt hnear]
    exact ⟨u.tempCorrected_value _ _, fun h => absurd h (Nat.not_lt.mpr hnear),
      fun _ => (RegsBut.of_regs (s := s) (t := u) rfl).wr _ (by simp), rfl⟩

/-- Settles O4: a run's end by `State.calEnd_eq`, what a run leaves before it by `State.calDone_far` and `State.calDone_near`, and the
correction by `State.tempComp_far` and `State.tempComp_near`. -/
theorem calibrationEndsAndTemperatureCorrects : Obligations.CalibrationEndsAndTemperatureCorrects :=
  ⟨calLockTimeout_completes, calDone_completes, tempCompUpdate_completes⟩

end Sys2Proof.Proofs
end

section
/-! The stores of received frames and the count of those that a tick receives at a front-panel port (R532): the operations on copies,
buffers and records leave both alone. `(rfl)` keeps the step in the proof of a condition that simp discharges. -/

namespace Sys2Proof.Machine

/-- The stores of received frames, and how many the present tick counts as received at a port. -/
def State.arrivals (s : State) (p : Fin 512) : Fwd × Nat := (s.fwd, s.cntTick.get (cntKey 0 0 p.val) 0)

section
variable (s : State) (p : Fin 512)

/-! ### Registers, counters, records and stores -/

@[simp] theorem State.wr_arrivals (f : Fld) (n v : Nat) : (s.wr f n v).arrivals p = s.arrivals p := (rfl)
@[simp] theorem State.wr2_arrivals (lo hi : Fld) (n v : Nat) : (s.wr2 lo hi n v).arrivals p = s.arrivals p := (rfl)
@[simp] theorem State.raiseBits_arrivals (f : Fld) (n v : Nat) : (s.raiseBits f n v).arrivals p = s.arrivals p := (rfl)
@[simp] theorem State.rcMax_arrivals (f : Fld) (n v : Nat) : (s.rcMax f n v).arrivals p = s.arrivals p := (rfl)
@[simp] theorem State.rcMin_arrivals (f : Fld) (n v : Nat) : (s.rcMin f n v).arrivals p = s.arrivals p := (rfl)
@[simp] theorem State.raiseFault_arrivals (src cause sev inst val : Nat) : (s.raiseFault src cause sev inst val).arrivals p = s.arrivals p := (rfl)
@[simp] theorem State.setBuf_arrivals (f : Buf → Buf) : (s.setBuf f).arrivals p = s.arrivals p := (rfl)
@[simp] theorem State.setQsg_arrivals (f : Qsg → Qsg) : (s.setQsg f).arrivals p = s.arrivals p := (rfl)
@[simp] theorem State.touch_arrivals (n : Nat) : (s.touch n).arrivals p = s.arrivals p := (rfl)

/-- Every other counter stands above those of received frames. -/
@[simp] theorem State.bump_arrivals {g ev : Nat} (n k : Nat) (h : 0 < g * 256 + ev) : (s.bump g ev n k).arrivals p = s.arrivals p := by
  have hne : cntKey g ev n ≠ cntKey 0 0 p.val := by unfold cntKey; omega
  simp [State.arrivals, SMap.get_put_other _ hne]

@[simp] theorem State.ite_arrivals (c : Prop) [Decidable c] (t : State) :
    (if c then s else t).arrivals p = if c then s.arrivals p else t.arrivals p := apply_ite (fun u : State => u.arrivals p) _ _ _

@[simp] theorem State.foldl_arrivals {α : Type} (f : State → α → State) (h : ∀ s x, (f s x).arrivals p = s.arrivals p) (l : List α) :
    (l.foldl f s).arrivals p = s.arrivals p :=
  foldl_keeps (I := fun t => t.arrivals p = s.arrivals p) (fun t x ht => (h t x).trans ht) l rfl

theorem all_ite {α : Type} {c : Prop} [Decidable c] {x y : Option α} {q : α → Bool} (hx : x.all q = true) (hy : y.all q = true) :
    (if c then x else y).all q = true := by
  split
  · exact hx
  · exact hy

/-- No drop reason counts in the group of received frames. -/
theorem dropGroup_pos (r : Nat) : (dropGroup r).all (fun x => 0 < x.1) = true := by
  unfold dropGroup
  repeat refine all_ite rfl ?_
  rfl

@[simp] theorem State.bumpDrop_arrivals (reason port : Nat) : (s.bumpDrop reason port).arrivals p = s.arrivals p := by
  unfold State.bumpDrop
  split
  · next g ev n h =>
    have hg : 0 < g := by simpa [h] using dropGroup_pos reason
    rw [State.bump_arrivals _ _ _ _ (by omega), State.bump_arrivals _ _ _ _ (by omega)]
  · exact State.bump_arrivals _ _ _ _ (by omega)

@[simp] theorem State.hand_arrivals (r : Record) : (s.hand r).arrivals p = s.arrivals p := by
  obtain h | h := s.hand_cases r <;> rw [h]
  · rfl
  · rw [State.raiseBits_arrivals, State.bump_arrivals _ _ _ _ (by omega)]
    rfl

@[simp] theorem State.eventRec_arrivals (unit inst tick code d0 d1 d2 sub : Nat) :
    (s.eventRec unit inst tick code d0 d1 d2 sub).arrivals p = s.arrivals p := State.hand_arrivals _ _ _

@[simp] theorem State.frameRecord_arrivals (c : Copy) (fate reason : Nat) (tx : Option Tx) :
    (s.frameRecord c fate reason tx).arrivals p = s.arrivals p := by simp [State.frameRecord]

@[simp] theorem State.showHeld_arrivals (n k : Nat) : (s.showHeld n k).arrivals p = s.arrivals p := (rfl)
@[simp] theorem State.showSeq_arrivals (m : Nat) : (s.showSeq m).arrivals p = s.arrivals p := (rfl)
@[simp] theorem State.showFifo_arrivals (n : Nat) : (s.showFifo n).arrivals p = s.arrivals p := (rfl)

/-! ### Flow control and the shared buffer -/

@[simp] theorem State.sendFlow_arrivals (n ended : Nat) : (s.sendFlow n ended).arrivals p = s.arrivals p := by simp [State.sendFlow]
@[simp] theorem State.flowTransition_arrivals (n c : Nat) (xoff : Bool) : (s.flowTransition n c xoff).arrivals p = s.arrivals p := by
  simp [State.flowTransition]
@[simp] theorem State.flowClass_arrivals (n c : Nat) (forced : Bool) : (s.flowClass n c forced).arrivals p = s.arrivals p := by
  simp [State.flowClass]
@[simp] theorem State.flowCheck_arrivals (n : Nat) : (s.flowCheck n).arrivals p = s.arrivals p := by simp [State.flowCheck]
@[simp] theorem State.refreshBuf_arrivals : s.refreshBuf.arrivals p = s.arrivals p := by simp [State.refreshBuf]
@[simp] theorem State.refuseFree_arrivals (reason handle requester : Nat) :
    (s.refuseFree reason handle requester).arrivals p = s.arrivals p := by simp [State.refuseFree]

@[simp] theorem State.freeRef_arrivals (handle requester : Nat) : (s.freeRef handle requester).arrivals p = s.arrivals p := by
  unfold State.freeRef
  split <;> simp

@[simp] theorem State.release_arrivals (c : Copy) : (s.release c).arrivals p = s.arrivals p := by
  unfold State.release
  dsimp only
  split
  · simp
  · split <;> simp

/-! ### Drops -/

@[simp] theorem State.noteDrop_arrivals (c : Copy) (reason : Nat) : (s.noteDrop c reason).arrivals p = s.arrivals p := by
  unfold State.noteDrop
  split
  · simp
  · dsimp only
    split <;> simp

@[simp] theorem State.dropCopy_arrivals (c : Copy) (reason : Nat) : (s.dropCopy c reason).arrivals p = s.arrivals p := by
  simp [State.dropCopy]
@[simp] theorem State.dropFrame_arrivals (f : Frame) (reason : Nat) : (s.dropFrame f reason).arrivals p = s.arrivals p := by
  simp [State.dropFrame]
@[simp] theorem State.dropDecided_arrivals (f : Frame) (action reason : Nat) : (s.dropDecided f action reason).arrivals p = s.arrivals p := by
  simp [State.dropDecided]

/-! ### Queues -/

@[simp] theorem State.setCredit_arrivals (m : Nat) (c : Int) : (s.setCredit m c).arrivals p = s.arrivals p := (rfl)

@[simp] theorem State.settleEmpty_arrivals (q : Nat) : (s.settleEmpty q).arrivals p = s.arrivals p := by
  unfold State.settleEmpty
  split <;> simp

@[simp] theorem State.showDeep_arrivals (q : Nat) : (s.showDeep q).arrivals p = s.arrivals p := by
  unfold State.showDeep
  split <;> simp

@[simp] theorem State.leftQueue_arrivals (q : Nat) : (s.leftQueue q).arrivals p = s.arrivals p := by simp [State.leftQueue]
@[simp] theorem State.discardCopies_arrivals (id reason : Nat) : (s.discardCopies id reason).arrivals p = s.arrivals p := by
  simp [State.discardCopies]

end

end Sys2Proof.Machine
end

section
/-! The start and the end of a frame of a front-panel port (R54, R71, R114, R406). -/

namespace Sys2Proof.Machine

/-! ### Counters and records -/

section
variable (s : State)

theorem State.bump_cntTick_other {g ev n k by' : Nat} (h : cntKey g ev n ≠ k) : (s.bump g ev n by').cntTick.get k 0 = s.cntTick.get k 0 :=
  SMap.get_put_other _ h _ _ _

theorem State.bump_cntTick_same (g ev n by' : Nat) : (s.bump g ev n by').cntTick.get (cntKey g ev n) 0 = s.cntTick.get (cntKey g ev n) 0 + by' :=
  SMap.get_put_same _ _ _ _

theorem State.hand_qsg (r : Record) : (s.hand r).qsg = s.qsg := by
  obtain h | h := s.hand_cases r
  · rw [h]
  · rw [h]; rfl

theorem State.hand_cntTick_other {r : Record} {k : Nat} (h : cntKey 12 3 1 ≠ k) : (s.hand r).cntTick.get k 0 = s.cntTick.get k 0 := by
  obtain e | e := s.hand_cases r <;> rw [e]
  rw [State.raiseBits_cntTick]
  exact State.bump_cntTick_other _ h

/-- A record of a copy is handed to its tap, or none is due. -/
theorem State.frameRecord_cases (c : Copy) (fate reason : Nat) (tx : Option Tx) :
    s.frameRecord c fate reason tx = s ∨ ∃ r, s.frameRecord c fate reason tx = s.hand r := by
  unfold State.frameRecord
  split
  · exact .inl rfl
  · exact .inr ⟨_, rfl⟩

end

/-! ### The start -/

/-- The frame that starts, with its stamp. -/
def State.startFrame (s : State) (p raw detect : Nat) (bytes : Bytes) : Frame :=
  { s.newFrame p raw (bytes.take (s.rd F.MAC_PORT_CFG_MAX_LEN p + 1)) false detect with
    stripLen := s.stripFor p (bytes.take (s.rd F.MAC_PORT_CFG_MAX_LEN p + 1)) }

/-- A start takes the next number; an overrun of the history and a stamp without calibration are counted (R56, R62). -/
def State.startNoted (s : State) (p raw : Nat) : State :=
  let t := (s.noteOverrun raw).setFwd (fun w => { w with nextFrame := w.nextFrame + 1 })
  if s.uncalFlag p then t.bump 0 7 p else t

/-- A frame that has started and does not wait is counted as received. -/
def State.startCounted (s : State) (p raw len : Nat) : State := ((s.startNoted p raw).bump 0 0 p).bump 0 1 p len

/-- The frame waits in its FIFO, and its end is awaited. -/
def State.startWaits (s : State) (p : Nat) (f : Frame) : State :=
  (s.setFwd (fun w => { w with rx := w.rx ++ [f], fifo := w.fifo ++ [f] })).showFifo p

section
variable (s : State) (p raw : Nat)

theorem State.noteOverrun_cases :
    s.noteOverrun raw = s ∨ s.noteOverrun raw = (s.bump 4 7).raiseBits F.TSU_INT_STATUS_HIST_OVERRUN 0 1 := by
  unfold State.noteOverrun
  split
  · exact .inr rfl
  · exact .inl rfl

theorem State.startNoted_frame : s.startNoted p raw =
    { s with regs := (s.startNoted p raw).regs, hwSet := (s.startNoted p raw).hwSet, cntTick := (s.startNoted p raw).cntTick,
             fwd := { s.fwd with nextFrame := s.fwd.nextFrame + 1 } } := by
  unfold State.startNoted
  obtain h | h := s.noteOverrun_cases raw <;> rw [h] <;> cases s.uncalFlag p <;> rfl

theorem State.startNoted_leaves : (s.startNoted p raw).fwd = { s.fwd with nextFrame := s.fwd.nextFrame + 1 } ∧
    (s.startNoted p raw).flt = s.flt ∧ (s.startNoted p raw).buf = s.buf ∧ (s.startNoted p raw).qsg = s.qsg := by
  rw [s.startNoted_frame p raw]
  exact ⟨rfl, rfl, rfl, rfl⟩

theorem RegsBut.startNoted : RegsBut s (s.startNoted p raw) [(F.TSU_INT_STATUS_HIST_OVERRUN, 0)] := by
  have hover : RegsBut s (s.noteOverrun raw) [(F.TSU_INT_STATUS_HIST_OVERRUN, 0)] := by
    obtain h | h := s.noteOverrun_cases raw <;> rw [h]
    · exact RegsBut.refl
    · exact (RegsBut.of_regs (t := s.bump 4 7) rfl).raiseBits 1 (by simp)
  unfold State.startNoted
  dsimp only
  split <;> exact hover.congr rfl

/-- The mode of a port is no register of TSU. -/
theorem State.startNoted_mode : (s.startNoted p raw).rd F.LAN_PORT_CFG_MODE p = s.rd F.LAN_PORT_CFG_MODE p := by
  refine RegsBut.startNoted s p raw _ _ (List.forall_mem_singleton.mpr (Nat.ne_of_lt (Nat.lt_of_lt_of_le ?_ (Fld.base_le_key _ p))))
  decide

/-- A start counts no drop. -/
theorem State.startNoted_drops (hp : p < 512) :
    (s.startNoted p raw).cntTick.get (cntKey 2 9 p) 0 = s.cntTick.get (cntKey 2 9 p) 0 := by
  have hover : (s.noteOverrun raw).cntTick.get (cntKey 2 9 p) 0 = s.cntTick.get (cntKey 2 9 p) 0 := by
    obtain h | h := s.noteOverrun_cases raw <;> rw [h]
    rw [State.raiseBits_cntTick]
    refine s.bump_cntTick_other ?_
    unfold cntKey; omega
  unfold State.startNoted
  dsimp only
  split
  · refine (State.bump_cntTick_other _ ?_).trans hover
    unfold cntKey; omega
  · exact hover

theorem State.startCounted_drops (len : Nat) (hp : p < 512) :
    (s.startCounted p raw len).cntTick.get (cntKey 2 9 p) 0 = s.cntTick.get (cntKey 2 9 p) 0 := by
  refine (State.bump_cntTick_other _ ?_).trans ((State.bump_cntTick_other _ ?_).trans (s.startNoted_drops p raw hp)) <;> unfold cntKey <;> omega

theorem State.startCounted_leaves (len : Nat) :
    (s.startCounted p raw len).fwd = { s.fwd with nextFrame := s.fwd.nextFrame + 1 } ∧ (s.startCounted p raw len).buf = s.buf ∧
      (s.startCounted p raw len).qsg = s.qsg := by
  obtain ⟨hfwd, -, hbuf, hqsg⟩ := s.startNoted_leaves p raw
  simp only [State.startCounted, State.bump_fwd, State.bump_buf, State.bump_qsg]
  exact ⟨hfwd, hbuf, hqsg⟩

variable {s p raw}

theorem State.isFragment_of_ne {f : Frame} (h : f.ing ≠ 517) : s.isFragment f = false := by
  simp [State.isFragment, h]

theorem Frame.group_of_front {f : Frame} (h : f.port < 512) : f.group = f.port / 32 := by
  have hport : f.port ≠ 516 := by omega
  simp [Frame.group, hport, h]

theorem State.fifoCap_startNoted (hp : p < 512) : (s.startNoted p raw).fifoCap p = 32 * modeLanes (s.rd F.LAN_PORT_CFG_MODE p) := by
  rw [State.fifoCap, if_pos hp, State.startNoted_mode]

/-- A start on a front-panel port: the choice between a full FIFO, a group without a pipeline, MAC Control and a frame that waits. -/
theorem State.ingressStart_eq (hp : p < 512) (detect : Nat) (bytes : Bytes) : s.ingressStart p raw detect bytes =
    let t := s.startNoted p raw
    let f := s.startFrame p raw detect bytes
    if t.fifoCap p ≤ (t.fwd.fifo.filter (fun x => x.port == p)).length then (s.startCounted p raw bytes.length).dropFrame f 9
    else if nth t.flt.pipes f.group .down = .down then (s.startCounted p raw bytes.length).dropFrame f 14
    else if isMacCtrl bytes then t.setFwd (fun w => { w with rx := w.rx ++ [f] })
    else t.startWaits p f := by
  have hfrag : s.isFragment (s.startFrame p raw detect bytes) = false := State.isFragment_of_ne (by change p ≠ 517; omega)
  exact if_neg (ne_true_of_eq_false hfrag)

theorem State.ingressStart_waits (hp : p < 512) (detect : Nat) {bytes : Bytes}
    (hroom : (s.fwd.fifo.filter (fun x => x.port == p)).length < 32 * modeLanes (s.rd F.LAN_PORT_CFG_MODE p))
    (hpipe : nth s.flt.pipes (p / 32) .down ≠ .down) (hmac : beAt bytes 12 2 ≠ 0x8808) :
    s.ingressStart p raw detect bytes = (s.startNoted p raw).startWaits p (s.startFrame p raw detect bytes) := by
  obtain ⟨hfwd, hflt, -, -⟩ := s.startNoted_leaves p raw
  have hgroup : (s.startFrame p raw detect bytes).group = p / 32 := Frame.group_of_front hp
  rw [State.ingressStart_eq hp]
  dsimp only
  rw [State.fifoCap_startNoted hp, hfwd, hflt, hgroup, if_neg (Nat.not_le.mpr hroom), if_neg hpipe, if_neg (by simpa [isMacCtrl] using hmac)]

theorem State.ingressStart_full (hp : p < 512) (detect : Nat) (bytes : Bytes)
    (hfull : 32 * modeLanes (s.rd F.LAN_PORT_CFG_MODE p) ≤ (s.fwd.fifo.filter (fun x => x.port == p)).length) :
    s.ingressStart p raw detect bytes =
      (s.startCounted p raw bytes.length).dropFrame (s.startFrame p raw detect bytes) 9 := by
  obtain ⟨hfwd, -⟩ := s.startNoted_leaves p raw
  rw [State.ingressStart_eq hp]
  dsimp only
  rw [State.fifoCap_startNoted hp, hfwd, if_pos hfull]

end

/-! ### A full FIFO -/

section
variable (s : State)

/-- A drop for a full FIFO: one counter, and the record. -/
theorem State.dropFrame_full (f : Frame) : s.dropFrame f 9 = (s.bump 2 9 f.ing).frameRecord f.whole 4 9 := by
  have hcount (t : State) (n : Nat) : t.bumpDrop 9 n = t.bump 2 9 n := by simp [State.bumpDrop, dropGroup]
  have hflag : dropFlag 9 = none := by simp [dropFlag]
  simp [State.dropFrame, State.noteDrop, hcount, hflag, Frame.whole]

theorem State.dropFrame_full_leaves (f : Frame) :
    (s.dropFrame f 9).fwd = s.fwd ∧ (s.dropFrame f 9).buf = s.buf ∧ (s.dropFrame f 9).qsg = s.qsg := by
  rw [s.dropFrame_full f]
  obtain h | ⟨r, h⟩ := (s.bump 2 9 f.ing).frameRecord_cases f.whole 4 9 none <;> rw [h]
  · exact ⟨rfl, rfl, rfl⟩
  · exact ⟨State.hand_fwd _ r, State.hand_buf _ r, State.hand_qsg _ r⟩

theorem State.dropFrame_full_counts {f : Frame} (hf : f.ing < 512) :
    (s.dropFrame f 9).cntTick.get (cntKey 2 9 f.ing) 0 = s.cntTick.get (cntKey 2 9 f.ing) 0 + 1 := by
  rw [s.dropFrame_full f]
  obtain h | ⟨r, h⟩ := (s.bump 2 9 f.ing).frameRecord_cases f.whole 4 9 none <;> rw [h]
  · exact s.bump_cntTick_same 2 9 f.ing 1
  · exact (State.hand_cntTick_other _ (by unfold cntKey; omega)).trans (s.bump_cntTick_same 2 9 f.ing 1)

end

/-! ### The end -/

/-- The end of a frame is awaited no longer. -/
def State.unawait (s : State) (f : Frame) : State := s.setFwd (fun w => { w with rx := w.rx.filter (fun x => x.id != f.id) })

/-- A frame of a front-panel port as an end that its link brought leaves it. -/
def State.endFrame (s : State) (f : Frame) (pcsError : Bool) : Frame :=
  { f with ended := true, endTick := s.now, bad := s.rxReason f pcsError false, stripLen := s.stripFor f.ing f.bytes, cutOff := false }

/-- An ended frame is counted, and with it its trailer. -/
def State.countEnd (s : State) (f : Frame) : State :=
  let t := (s.bump 0 0 f.ing).bump 0 1 f.ing f.bytes.length
  if f.stripLen = 0 then t else (t.bump 0 6 f.ing).bump 4 10

/-- What the end of a frame then does with it. -/
def State.afterEnd (s : State) (f : Frame) : State :=
  if s.lostReason f ≠ 0 then s.discardRest f (s.lostReason f)
  else if isMacCtrl f.bytes then s.setFwd (fun w => { w with macCtrl := w.macCtrl ++ [(f.ing, s.now, f.bytes)] })
  else s

/-- The stores of received frames without a frame. -/
def Fwd.without (w : Fwd) (id : Nat) : Fwd :=
  { w with
    fifo := w.fifo.filter (fun x => x.id != id)
    replay := w.replay.filter (fun x => x.id != id)
    pipe := w.pipe.filter (fun x => x.frame.id != id) }

/-- A frame as it stands in a store once `f` has ended. -/
def endedAs (f x : Frame) : Frame := if x.id = f.id then { f with replayed := x.replayed, saf := x.saf, seen := x.seen } else x

/-- A transmission of a frame that cuts through. -/
def Tx.cuts (t : Tx) (id : Nat) : Bool := match t.copy with | some c => c.cut && c.frame.id == id && !c.sample | none => false

section
variable {s : State} {f : Frame}

theorem State.frameEnd_eq (h : f.ing ≠ 517) (pcsError : Bool) : s.frameEnd f pcsError none false =
    ((((s.unawait f).countEnd ((s.unawait f).endFrame f pcsError)).spread ((s.unawait f).endFrame f pcsError)).afterEnd
      ((s.unawait f).endFrame f pcsError)).refreshBuf := by
  have hfrag : (s.unawait f).isFragment f = false := State.isFragment_of_ne h
  cases pcsError <;> exact if_neg (ne_true_of_eq_false hfrag)

theorem State.spread_fifo : (s.spread f).fwd.fifo = s.fwd.fifo.map (endedAs f) := rfl

theorem State.spread_rx : (s.spread f).fwd.rx = s.fwd.rx := rfl

theorem State.spread_frame : s.spread f = { s with fwd := (s.spread f).fwd, tbl := (s.spread f).tbl, qsg := (s.spread f).qsg } := rfl

theorem State.spread_cntTick : (s.spread f).cntTick = s.cntTick := by rw [State.spread_frame]

theorem endedAs_of_id {x : Frame} (h : (endedAs f x).id = f.id) :
    (endedAs f x).ended = f.ended ∧ (endedAs f x).bad = f.bad ∧ (endedAs f x).endTick = f.endTick ∧ (endedAs f x).bytes = f.bytes := by
  unfold endedAs at h ⊢
  split at h
  · next hx => rw [if_pos hx]; exact ⟨rfl, rfl, rfl, rfl⟩
  · next hx => exact absurd h hx

theorem State.cutTx_eq_none {id : Nat} : s.cutTx id = none ↔ ∀ t ∈ s.qsg.txs, t.cuts id = false := by
  refine List.find?_eq_none.trans (forall₂_congr fun t _ => ?_)
  exact Bool.eq_false_iff.symm

/-- The end of a frame makes no transmission a cut-through one. -/
theorem State.endTx_cuts (t : Tx) : (s.endTx f t).cuts f.id = t.cuts f.id := by
  unfold State.endTx
  cases hc : t.copy with
  | none => rfl
  | some c =>
    dsimp only
    split
    · next h =>
      obtain ⟨hid, -⟩ := h
      split <;> simp [Tx.cuts, hc, hid]
    · rfl

theorem State.spread_cutTx (h : s.cutTx f.id = none) : (s.spread f).cutTx f.id = none := by
  rw [State.cutTx_eq_none] at h ⊢
  intro t ht
  obtain ⟨t', ht', rfl⟩ := List.mem_map.mp ht
  exact (State.endTx_cuts t').trans (h t' ht')

theorem State.countEnd_qsg : (s.countEnd f).qsg = s.qsg := by
  unfold State.countEnd
  dsimp only
  split <;> simp only [State.bump_qsg]

theorem State.lostReason_of_none (h : s.cutTx f.id = none) : s.lostReason f = f.bad := by
  simp [State.lostReason, h]

theorem State.lostReason_ne (h : f.bad ≠ 0) : s.lostReason f ≠ 0 := by
  unfold State.lostReason
  split
  · split
    · exact h
    · next hr => exact fun h0 => hr (.inl h0)
  · exact h

theorem State.rxReason_pcs (s : State) (f : Frame) : s.rxReason f true false = 1 := rfl

/-- A frame in which the receive MAC finds no fault (R406). -/
theorem State.rxReason_good (hlen : 64 ≤ f.bytes.length ∧ f.bytes.length ≤ s.rd F.MAC_PORT_CFG_MAX_LEN f.ing)
    (hfcs : fcsGood f.bytes = true ∧ fcsStomped f.bytes = false) (hmac : isMacCtrl f.bytes = false)
    (haccept : s.rdG f.gen F.MAC_PORT_CFG_ACCEPT f.ing = 0) : s.rxReason f false false = 0 := by
  obtain ⟨hmin, hmax⟩ := hlen
  obtain ⟨hgood, hstomped⟩ := hfcs
  simp [State.rxReason, Nat.not_lt.mpr hmin, Nat.not_lt.mpr hmax, hgood, hstomped, hmac, haccept]

theorem State.afterEnd_lost (h : f.bad ≠ 0) : s.afterEnd f = s.discardRest f (s.lostReason f) := if_pos (State.lostReason_ne h)

theorem State.afterEnd_good (hcut : s.cutTx f.id = none) (hbad : f.bad = 0) (hmac : isMacCtrl f.bytes = false) : s.afterEnd f = s := by
  rw [State.afterEnd, State.lostReason_of_none hcut, if_neg (not_not.mpr hbad), if_neg (by rw [hmac]; decide)]

variable (p : Fin 512)

theorem State.discardRest_arrivals (reason : Nat) :
    (s.discardRest f reason).arrivals p = (s.setFwd (fun w => w.without f.id)).arrivals p := by
  simp only [State.discardRest, State.ite_arrivals, State.showFifo_arrivals, State.dropFrame_arrivals, State.foldl_arrivals,
    State.dropDecided_arrivals, State.discardCopies_arrivals, ite_self, implies_true]
  rfl

theorem State.countEnd_arrivals (h : f.ing = p.val) : (s.countEnd f).arrivals p = (s.fwd, s.cntTick.get (cntKey 0 0 p.val) 0 + 1) := by
  have hone : (s.bump 0 0 f.ing).arrivals p = (s.fwd, s.cntTick.get (cntKey 0 0 p.val) 0 + 1) := by
    rw [h]
    exact Prod.ext rfl (s.bump_cntTick_same 0 0 p.val 1)
  simp [State.countEnd, hone]

/-- An ended frame is awaited no longer, counted once, and known as it ended in its FIFO. -/
theorem State.endNoted {e : Frame} (h : e.ing = p.val) :
    (((s.unawait f).countEnd e).spread e).cntTick.get (cntKey 0 0 p.val) 0 = s.cntTick.get (cntKey 0 0 p.val) 0 + 1 ∧
      (((s.unawait f).countEnd e).spread e).fwd.rx = s.fwd.rx.filter (fun x => x.id != f.id) ∧
      (((s.unawait f).countEnd e).spread e).fwd.fifo = s.fwd.fifo.map (endedAs e) := by
  obtain ⟨hfwd, hcount⟩ := Prod.ext_iff.mp (State.countEnd_arrivals (s := s.unawait f) p h)
  dsimp only [State.arrivals] at hfwd hcount
  rw [State.spread_cntTick, State.spread_rx, State.spread_fifo, hfwd]
  exact ⟨hcount, rfl, rfl⟩

theorem State.frameEnd_arrivals (h : f.ing = p.val) (pcsError : Bool) : (s.frameEnd f pcsError none false).arrivals p =
    ((((s.unawait f).countEnd ((s.unawait f).endFrame f pcsError)).spread ((s.unawait f).endFrame f pcsError)).afterEnd
      ((s.unawait f).endFrame f pcsError)).arrivals p := by
  have hne : f.ing ≠ 517 := by have := p.isLt; omega
  rw [State.frameEnd_eq hne, State.refreshBuf_arrivals]

end

end Sys2Proof.Machine

namespace Sys2Proof.Proofs
open Sys2Proof.Machine

/-- What INGRESS_START does on a port that is up, once class 3 of the tick is done. -/
theorem exec_ingressStart {s : State} {p : Fin 512} {detect : Nat} (var : Nat) (bytes : Bytes) (hl : s.live = true)
    (hup : s.portUp p.val = true ∧ s.on F.BUF_STATUS_INIT_DONE = true) (hset : s.Settled) (hd : detect / 320 = s.now)
    (hrx : s.fwd.rx.all (fun f => f.ing != p.val) = true) :
    exec (.ingressStart ⟨p.val, by omega⟩ detect var bytes) s =
      .next (s.inside (s.ingressStart p.val (s.ingressRaw p.val detect var) detect bytes)) := by
  obtain ⟨hport, hbuf⟩ := hup
  refine congrArg _ ((State.when_true s ?_ _).trans ?_)
  · rw [hl, hport, hbuf, hrx, decide_eq_true hd, decide_eq_true (show (p.val < 512) from p.isLt)]; rfl
  · dsimp only
    rw [hset]

/-- A frame that finds room waits with its stamp (R54, R71). -/
theorem ingressStart_waits (s : State) (p : Fin 512) (detect var : Nat) (bytes : Bytes) (hl : s.live = true)
    (hup : s.portUp p.val = true ∧ s.on F.BUF_STATUS_INIT_DONE = true) (hset : s.Settled) (hd : detect / 320 = s.now)
    (hrx : s.fwd.rx.all (fun f => f.ing != p.val) = true)
    (hroom : (s.fwd.fifo.filter (fun x => x.port == p.val)).length < 32 * modeLanes (s.rd F.LAN_PORT_CFG_MODE p.val))
    (hpipe : nth s.flt.pipes (p.val / 32) .down ≠ .down) (hmac : beAt bytes 12 2 ≠ 0x8808) :
    let raw := s.ingressRaw p.val detect var
    Completes (.ingressStart ⟨p.val, by omega⟩ detect var bytes) s (fun t => (t.fwd.fifo.getLast?).map (fun f => (f.id, f.ing, f.port, f.raw)) =
      some (s.fwd.nextFrame, p.val, p.val, s.ingressRaw p.val detect var) ∧
    (t.fwd.fifo.getLast?).map (fun f => (f.view, f.epoch, f.uncal, f.hold)) =
      some (s.stampView raw, s.stampEpoch raw, s.uncalFlag p.val, s.holdAt (raw / 16)) ∧
    (t.fwd.fifo.getLast?).map (fun f => (f.gen, f.bytes, f.ended)) =
      some (s.genOf (s.ingressRaw p.val detect var), bytes.take (s.rd F.MAC_PORT_CFG_MAX_LEN p.val + 1), false) ∧
    t.fwd.fifo.length = s.fwd.fifo.length + 1 ∧ t.fwd.rx.length = s.fwd.rx.length + 1 ∧ t.fwd.nextFrame = s.fwd.nextFrame + 1 ∧
    t.buf = s.buf ∧ t.qsg = s.qsg ∧ t.tbl = s.tbl ∧ t.cmd = s.cmd ∧ t.tim = s.tim) := by
  intro raw
  refine ⟨_, exec_ingressStart var bytes hl hup hset hd hrx, ?_⟩
  rw [State.ingressStart_waits p.isLt detect hroom hpipe hmac, State.startNoted_frame]
  have hlast : (s.fwd.fifo ++ [s.startFrame p.val raw detect bytes]).getLast? = some (s.startFrame p.val raw detect bytes) :=
    List.getLast?_concat
  exact ⟨congrArg (Option.map _) hlast, congrArg (Option.map _) hlast, congrArg (Option.map _) hlast, List.length_append, List.length_append,
    rfl, rfl, rfl, rfl, rfl, rfl⟩

/-- A frame that finds its FIFO full is dropped (R114). -/
theorem ingressStart_drops (s : State) (p : Fin 512) (detect var : Nat) (bytes : Bytes) (hl : s.live = true)
    (hup : s.portUp p.val = true ∧ s.on F.BUF_STATUS_INIT_DONE = true) (hset : s.Settled) (hd : detect / 320 = s.now)
    (hrx : s.fwd.rx.all (fun f => f.ing != p.val) = true)
    (hfull : 32 * modeLanes (s.rd F.LAN_PORT_CFG_MODE p.val) ≤ (s.fwd.fifo.filter (fun x => x.port == p.val)).length) :
    Completes (.ingressStart ⟨p.val, by omega⟩ detect var bytes) s (fun t => t.fwd.fifo = s.fwd.fifo ∧ t.fwd.rx = s.fwd.rx ∧
    t.cntTick.get (cntKey 2 9 p.val) 0 = s.cntTick.get (cntKey 2 9 p.val) 0 + 1 ∧ t.buf = s.buf ∧ t.qsg = s.qsg) := by
  refine ⟨_, exec_ingressStart var bytes hl hup hset hd hrx, ?_⟩
  rw [State.ingressStart_full p.isLt detect bytes hfull]
  generalize hraw : s.ingressRaw p.val detect var = raw
  obtain ⟨hstart, hstartBuf, hstartQsg⟩ := s.startCounted_leaves p.val raw bytes.length
  have hdrops := s.startCounted_drops p.val raw bytes.length p.isLt
  generalize s.startCounted p.val raw bytes.length = u at hstart hstartBuf hstartQsg hdrops
  have hcount := u.dropFrame_full_counts (f := s.startFrame p.val raw detect bytes) p.isLt
  obtain ⟨hfwd, hbuf, hqsg⟩ := u.dropFrame_full_leaves (s.startFrame p.val raw detect bytes)
  rw [State.inside_fwd, State.inside_cntTick, State.inside_buf, State.inside_qsg, hfwd, hbuf, hqsg, hstart, hstartBuf, hstartQsg]
  exact ⟨rfl, rfl, hcount.trans (congrArg (· + 1) hdrops), rfl, rfl⟩

/-- What FRAME_END does with a frame of a front-panel port whose link holds. -/
theorem exec_frameEnd {s : State} {p : Fin 512} {f : Frame} (pcsError : Bool) (hl : s.live = true)
    (hrx : s.fwd.rx.find? (fun x => x.ing == p.val) = some f) :
    exec (.frameEnd ⟨p.val, by omega⟩ pcsError none false false) s = .next (s.inside (s.frameEnd f pcsError none false)) := by
  have hport : p.val ≠ 517 := by have := p.isLt; omega
  refine congrArg _ ((s.whenLive_true hl _).trans ?_)
  dsimp only
  rw [hrx]
  dsimp only
  rw [if_neg (by simp)]
  simp only [hport, if_false]
  rfl

/-- The port of the frame whose end is awaited. -/
theorem ing_of_find {l : List Frame} {p : Nat} {f : Frame} (h : l.find? (fun x => x.ing == p) = some f) : f.ing = p :=
  eq_of_beq (List.find?_some (p := fun x : Frame => x.ing == p) h)

/-- A frame with a PCS error leaves its FIFO (R406). -/
theorem frameEnd_discards (s : State) (p : Fin 512) (f : Frame) (hl : s.live = true)
    (hrx : s.fwd.rx.find? (fun x => x.ing == p.val) = some f) :
    Completes (.frameEnd ⟨p.val, by omega⟩ true none false false) s (fun t => t.fwd.rx = s.fwd.rx.filter (fun x => x.id != f.id) ∧
    (∀ x ∈ t.fwd.fifo, x.id ≠ f.id) ∧ t.cntTick.get (cntKey 0 0 p.val) 0 = s.cntTick.get (cntKey 0 0 p.val) 0 + 1) := by
  refine ⟨_, exec_frameEnd true hl hrx, ?_⟩
  have hing := ing_of_find hrx
  have hends := State.frameEnd_arrivals (s := s) p hing true
  have hbad : ((s.unawait f).endFrame f true).bad ≠ 0 := ne_of_eq_of_ne ((s.unawait f).rxReason_pcs f) Nat.one_ne_zero
  have hid : ((s.unawait f).endFrame f true).id = f.id := rfl
  have hport : ((s.unawait f).endFrame f true).ing = p.val := hing
  generalize (s.unawait f).endFrame f true = e at hends hbad hid hport
  rw [State.afterEnd_lost hbad, State.discardRest_arrivals p, hid] at hends
  obtain ⟨hcount, hrest, -⟩ := State.endNoted (s := s) (f := f) p hport
  obtain ⟨hfwd, hcnt⟩ := Prod.ext_iff.mp hends
  refine ⟨(congrArg Fwd.rx hfwd).trans hrest, fun x hx => ?_, hcnt.trans hcount⟩
  have hmem : x ∈ List.filter _ _ := (congrArg Fwd.fifo hfwd) ▸ hx
  exact bne_iff_ne.mp (List.mem_filter.mp hmem).2

/-- A good frame is known as good in its FIFO (R406). -/
theorem frameEnd_keeps (s : State) (p : Fin 512) (f : Frame) (hl : s.live = true)
    (hrx : s.fwd.rx.find? (fun x => x.ing == p.val) = some f)
    (hlen : 64 ≤ f.bytes.length ∧ f.bytes.length ≤ s.rd F.MAC_PORT_CFG_MAX_LEN p.val)
    (hfcs : fcsGood f.bytes = true ∧ fcsStomped f.bytes = false) (hmac : beAt f.bytes 12 2 ≠ 0x8808)
    (haccept : s.rdG f.gen F.MAC_PORT_CFG_ACCEPT p.val = 0 ∧ s.cutTx f.id = none) :
    Completes (.frameEnd ⟨p.val, by omega⟩ false none false false) s (fun t => t.fwd.rx = s.fwd.rx.filter (fun x => x.id != f.id) ∧
    t.fwd.fifo.length = s.fwd.fifo.length ∧
    (∀ x ∈ t.fwd.fifo, x.id = f.id → x.ended = true ∧ x.bad = 0 ∧ x.endTick = s.now ∧ x.bytes = f.bytes) ∧
    t.cntTick.get (cntKey 0 0 p.val) 0 = s.cntTick.get (cntKey 0 0 p.val) 0 + 1) := by
  obtain ⟨hadmits, hcut⟩ := haccept
  have hing := ing_of_find hrx
  have hctrl : isMacCtrl f.bytes = false := beq_eq_false_iff_ne.mpr hmac
  have hgood : ((s.unawait f).endFrame f false).bad = 0 :=
    State.rxReason_good (s := s.unawait f) (hing ▸ hlen) hfcs hctrl (hing ▸ hadmits)
  have hends := State.frameEnd_arrivals (s := s) p hing false
  have hnocut : ((s.unawait f).countEnd ((s.unawait f).endFrame f false)).cutTx f.id = none := by
    rw [State.cutTx, State.countEnd_qsg]; exact hcut
  rw [State.afterEnd_good (State.spread_cutTx (f := (s.unawait f).endFrame f false) hnocut) hgood hctrl] at hends
  obtain ⟨hcount, hrest, hfifo⟩ := State.endNoted (s := s) (f := f) (e := (s.unawait f).endFrame f false) p hing
  obtain ⟨hfwd, hcnt⟩ := Prod.ext_iff.mp hends
  have hstore := (congrArg Fwd.fifo hfwd).trans hfifo
  refine ⟨_, exec_frameEnd false hl hrx, (congrArg Fwd.rx hfwd).trans hrest, (congrArg List.length hstore).trans (List.length_map _),
    fun x hx hid => ?_, hcnt.trans hcount⟩
  obtain ⟨y, -, rfl⟩ := List.mem_map.mp (hstore ▸ hx)
  obtain ⟨hended, hbad, htick, hbytes⟩ := endedAs_of_id (f := (s.unawait f).endFrame f false) hid
  exact ⟨hended, hbad.trans hgood, htick, hbytes⟩

/-- Settles O10: the start of a frame by `State.ingressStart_eq`, its end by `State.frameEnd_eq` and by what the operations on copies,
buffers and records leave of `State.arrivals`. -/
theorem framesAreStampedAndWaitForTheirSlot : Obligations.FramesAreStampedAndWaitForTheirSlot :=
  ⟨ingressStart_waits, ingressStart_drops, frameEnd_discards, frameEnd_keeps⟩

end Sys2Proof.Proofs
end

section
/-! The servo while the counters stand (R41, R82, R90). -/

namespace Sys2Proof.Proofs
open Sys2Proof.Machine

/-- The part works, the time base has not been started, and a measurement of the tick before waits for an enabled servo. -/
def servoUnclocked : State :=
  { (State.reset.wr F.SYN_SERVO_CTRL_ENABLE 0 1).wr F.TIM_EPOCH_CURRENT 0 1 with
    pins := { vid := 5 }
    tim := { State.reset.tim with canopy := 800 }
    syn := { State.reset.syn with servo := { State.reset.syn.servo with meas := some ⟨640, 4, true, 799⟩ } } }

/-- It meets every premise of the first clause. -/
theorem servoUnclocked_premises :
    servoUnclocked.live = true ∧ servoUnclocked.on F.SYN_SERVO_CTRL_ENABLE = true ∧
    servoUnclocked.syn.servo.meas = some ⟨640, 4, true, 799⟩ ∧ servoUnclocked.epoch ≠ 0 ∧
    servoUnclocked.rd F.SYN_SERVO_STATUS_STATE ≠ 4 ∧ servoUnclocked.epochDue = servoUnclocked ∧ servoUnclocked.rateDue = none := by
  decide +kernel

/-- Class 3 of a tick needs counters that run, so the measurement goes on waiting. -/
theorem servoUpdate_leaves_measurement :
    (nextOr State.reset (exec .servoUpdate servoUnclocked)).syn.servo.meas = some ⟨640, 4, true, 799⟩ := by decide +kernel

/-- Refutes O7: the first clause asks that the part work and not that its counters run, and with TIM.STATUS.RUN 0 the servo takes no
measurement. -/
theorem not_servoFollowsMeasurementsAndLosesSources : ¬ Obligations.ServoFollowsMeasurementsAndLosesSources := by
  unfold Obligations.ServoFollowsMeasurementsAndLosesSources
  rintro ⟨h, -⟩
  obtain ⟨hlive, hon, hmeas, hepoch, hstate, hdue, hrate⟩ := servoUnclocked_premises
  obtain ⟨t, ht, -, -, -, htaken, -⟩ := h servoUnclocked ⟨640, 4, true, 799⟩ hlive hon hmeas (by decide +kernel) hepoch hstate
    (by decide +kernel) ⟨hdue, hrate⟩ (by decide +kernel)
  have hwaits := servoUpdate_leaves_measurement
  rw [ht, nextOr, htaken] at hwaits
  exact absurd hwaits (by decide)

end Sys2Proof.Proofs
end

section
/-! A phase change by the Lead of a Troupe (R89, R101, R105, R307): the lift order that it brings takes an action identifier. -/

namespace Sys2Proof.Proofs
open Sys2Proof.Machine

/-- Action 4 brings phase 2 at tick 5,000. -/
def phaseAction : Action := ⟨4, 0, .phase 2, false, true, 5000, 50, none⟩

/-- The Lead of a Troupe in tick 5,000, its core at 800 MHz, with no lift ordered. The action identifiers have wrapped: 7 comes next, and
an action that bore it has fired in tick 900. -/
def leadAfterWrap : State :=
  { (((State.reset.wr F.TIM_STATUS_RUN 0 1).wr F.TIM_EPOCH_CURRENT 0 1).wr F.TRP_STATUS_STATE 0 3).wr F.PWR_STATUS_CORE_MHZ 0 800 with
    pins := { vid := 5 }
    tim := { State.reset.tim with canopy := 5000 }
    syn := { State.reset.syn with actions := [phaseAction], nextAction := 7, idsWrapped := true, fired := [⟨7, 0, 900⟩] } }

theorem leadAfterWrap_premises :
    (leadAfterWrap.live = true ∧ leadAfterWrap.takeDue.classThree = leadAfterWrap) ∧ leadAfterWrap.firesNow phaseAction = true := by
  decide +kernel

/-- The lift order that the phase change brings takes identifier 7, and what its earlier use left is gone (R105). -/
theorem actionFire_of_lead_forgets_fired :
    (nextOr State.reset (exec .actionFire leadAfterWrap)).syn.fired = [⟨4, 0, 5000⟩] := by decide +kernel

/-- Refutes O24: the fifth clause says of every member that the action which fires is put before all that fired earlier, but at the Lead
a phase change can order a lift, whose commit takes the next identifier, and an action that fired under that identifier before the
wrap is then no longer listed. -/
theorem not_actionsAreScheduledCancelledAndFired : ¬ Obligations.ActionsAreScheduledCancelledAndFired := by
  unfold Obligations.ActionsAreScheduledCancelledAndFired
  rintro ⟨-, -, -, -, h, -⟩
  obtain ⟨hready, hfires⟩ := leadAfterWrap_premises
  obtain ⟨t, ht, -, -, hlisted, -⟩ := h leadAfterWrap phaseAction 2 hready ⟨rfl, rfl⟩ ⟨rfl, by decide, hfires⟩
  have hforgets := actionFire_of_lead_forgets_fired
  rw [ht, nextOr, hlisted] at hforgets
  exact absurd hforgets (by decide +kernel)

end Sys2Proof.Proofs
end

section
/-! A slot that takes a frame of a port beyond those of the register map (R113, R139, R153): the registers of such a port would stand
where other registers stand. -/

namespace Sys2Proof.Proofs
open Sys2Proof.Machine

/-- A whole frame of port 15,368, which the part does not have: its PRS.PORT_CFG.DEFAULT_PROFILE would stand at the place of
CLS.INT_STATUS.ECC_CORR. -/
def strayFrame : Frame := { id := 3, ing := 15368, port := 15368, raw := 15900, bytes := zeros 64, ended := true }

/-- A classification row that every key matches, and whose action sends the frame to port 3. -/
def anyKeyRow : TabEntry := ⟨0x10, 0, List.replicate 20 0 ++ [0x1FFFF, 2 ^ 23 + 3 * 2 ^ 7, 0, 0]⟩

/-- Round robin of pipeline 15 stands at the port of that frame, which is all that waits. -/
def strayWaits : State :=
  { State.reset.wr F.TIM_STATUS_RUN 0 1 with
    pins := { vid := 5 }
    tim := { State.reset.tim with canopy := 1008 }
    fwd := { State.reset.fwd with fifo := [strayFrame], wrr := List.replicate 15 (0, 0) ++ [(14888, 0)] }
    tbl := { State.reset.tbl with cur := [anyKeyRow] } }

/-- The same with the frame in slot 1. -/
def strayTaken : State := (strayWaits.takeSlot 15 15 1).2

/-- The copy of the classifier's row 9 is corrected in that slot. -/
def rowNineCorrected : LookupErr := { rowCorrected := some 9 }

theorem strayWaits_slot : strayWaits.live = true ∧ strayWaits.slotFree 15 1 = true ∧ nth strayWaits.flt.pipes 15 .down = .serving := by
  decide +kernel

theorem takeSlot_stray : strayWaits.takeSlot 15 15 1 = (some strayFrame, strayTaken) := Prod.ext (by decide +kernel) rfl

/-- The premises on how the frame is classified. -/
theorem strayTaken_classified :
    (strayFrame.gen = strayTaken.rd F.SYS_CFG_GEN_CURRENT ∧ strayTaken.consumed strayFrame = false) ∧
    strayTaken.rd F.BUF_FWD_PORT_SAMPLE_SAMPLE_N strayFrame.port = 0 ∧
    fragState (strayTaken.parse strayFrame.gen strayFrame.port strayFrame.payload).roles = 0 ∧
    rowFind (strayTaken.genTables strayFrame.gen)
      (strayTaken.keyOf strayFrame.gen strayFrame.port (strayTaken.parse strayFrame.gen strayFrame.port strayFrame.payload))
      (if strayFrame.port < 512 then strayFrame.port / 32 else 16) = some anyKeyRow ∧
    actFwd (rowAction anyKeyRow.words) = 1 := by decide +kernel

/-- The parser gives the frame profile 0 before its slot notes the corrected row. -/
theorem parse_stray :
    strayTaken.fwd.pipe = [] ∧ (strayTaken.parse strayFrame.gen strayFrame.port strayFrame.payload).profile = 0 := by decide +kernel

/-- The slot sets ECC_CORR before it parses the frame, which then gets profile 1. -/
theorem slotIssue_stray_profile :
    (nextOr State.reset (exec (.slotIssue ⟨15, by omega⟩ 1 rowNineCorrected) strayWaits)).fwd.pipe.map (fun x => x.profile) = [1] := by
  decide +kernel

/-- Refutes O11: the first clause bounds no port. For a port beyond the map, the default profile is read from the place of ECC_CORR,
which the slot itself sets between the state that the clause parses in and the one that it parses in. -/
theorem not_slotsClassifyAndSeatsSendFrames : ¬ Obligations.SlotsClassifyAndSeatsSendFrames := by
  unfold Obligations.SlotsClassifyAndSeatsSendFrames
  rintro ⟨h, -⟩
  obtain ⟨hlive, hfree, hserving⟩ := strayWaits_slot
  obtain ⟨hgen, hsample, hfrag, hrow, hact⟩ := strayTaken_classified
  obtain ⟨t, ht, hpipe, -⟩ := h strayWaits strayTaken 15 1 strayFrame anyKeyRow rowNineCorrected hlive hfree hserving takeSlot_stray
    hgen hsample hfrag hrow hact ⟨rfl, by decide +kernel⟩
  obtain ⟨hempty, hprofile⟩ := parse_stray
  have hone := slotIssue_stray_profile
  rw [show exec (.slotIssue ⟨15, by omega⟩ 1 rowNineCorrected) strayWaits = .next t from ht, nextOr, hpipe, hempty] at hone
  simp [hprofile] at hone

end Sys2Proof.Proofs
end

section
/-! PPS inputs and time-of-day lines (R94, R95): what an edge and a line leave, and what a valid measurement of a source moves. -/

namespace Sys2Proof.Machine

/-! ### A measurement of a source (R82, R90) -/

section
variable (s : State) (src : Nat) (theta : Int) (seconds : Bool)

/-- The registers in which a change of source shows (R90, R108). -/
def sourceFields : List (Fld × Nat) :=
  [(F.SYN_SERVO_STATUS_SOURCE, 0), (F.SYN_INT_STATUS_SRC_SWITCH, 0)] ++ servoStateFields ++ [(F.EVR_INT_STATUS_GAP, 0)]

/-- A valid measurement counts for its source (R90). -/
def State.measureNoted : State :=
  s.setServo (fun v => { v with
    lastValid := upd v.lastValid src (fun _ => some s.now)
    goodRun := upd v.goodRun src (fun _ => (if s.srcValid src then nth s.syn.servo.goodRun src 0 else 0) + 1) })

/-- What the servo makes of a measurement of a source whose run is so long (R82, R90). -/
def State.served (run : Nat) : State :=
  let cur := s.rd F.SYN_SERVO_STATUS_SOURCE
  let order := s.srcOrder
  if !s.on F.SYN_SERVO_CTRL_ENABLE || !order.contains src then s
  else if cur = src then s.offer src theta seconds
  else if cur = 15 then (s.takeSource src).offer src theta seconds
  else if order.idxOf src < order.idxOf cur ∧ s.rd F.SYN_SERVO_CTRL_LOCK_COUNT ≤ run then
    (s.takeSource src).offer src theta seconds
  else s

theorem State.measure_eq (h : 4 ≤ src) : s.measure src theta seconds =
    (s.measureNoted src).served src theta seconds ((if s.srcValid src then nth s.syn.servo.goodRun src 0 else 0) + 1) := by
  unfold State.measure
  dsimp only
  rw [if_neg (Nat.not_lt.mpr h)]
  rfl

/-- A measurement is left, offered to the servo, or offered to it with a change to its source. -/
theorem State.served_cases (run : Nat) :
    s.served src theta seconds run = s ∨ s.served src theta seconds run = s.offer src theta seconds ∨
    s.served src theta seconds run = (s.takeSource src).offer src theta seconds := by
  unfold State.served
  dsimp only
  split
  · exact .inl rfl
  split
  · exact .inr (.inl rfl)
  split
  · exact .inr (.inr rfl)
  split
  · exact .inr (.inr rfl)
  · exact .inl rfl

/-- A measurement of an input counts, and may be offered to the servo, at once or with a change to its source. -/
theorem State.measure_cases (h : 4 ≤ src) :
    s.measure src theta seconds = s.measureNoted src ∨
    s.measure src theta seconds = (s.measureNoted src).offer src theta seconds ∨
    s.measure src theta seconds = ((s.measureNoted src).takeSource src).offer src theta seconds := by
  rw [s.measure_eq src theta seconds h]
  exact State.served_cases _ _ _ _ _

/-- A measurement that waits shows in no register, in no parameter of the view and at no input. -/
theorem State.offer_leaves : (s.offer src theta seconds).regs = s.regs ∧ (s.offer src theta seconds).tim = s.tim ∧
    (s.offer src theta seconds).syn.pps = s.syn.pps := ⟨rfl, rfl, rfl⟩

theorem State.servoState_syn (k : Nat) : (s.servoState k).syn = s.syn := by
  unfold State.servoState; split <;> rfl

/-- The counts that begin anew with a source (R90). -/
def State.countsAnew : State := s.setServo (fun v => { v with meas := none, lockRun := 0, excRun := 0, slackRun := 0 })

theorem State.countsAnew_leaves : s.countsAnew.regs = s.regs ∧ s.countsAnew.tim = s.tim ∧ s.countsAnew.syn.pps = s.syn.pps :=
  ⟨rfl, rfl, rfl⟩

/-- A source as SERVO_STATUS and INT_STATUS show it (R108). -/
def State.sourceShown : State := (s.wr F.SYN_SERVO_STATUS_SOURCE 0 src).raiseBits F.SYN_INT_STATUS_SRC_SWITCH 0 1

theorem State.takeSource_eq : ∃ k, s.takeSource src = ((s.sourceShown src).servoState k).countsAnew.timeState 4 := ⟨_, rfl⟩

theorem State.takeSource_tim : (s.takeSource src).tim = s.tim := by
  obtain ⟨k, h⟩ := s.takeSource_eq src
  rw [h, State.timeState, State.hand_tim, (State.countsAnew_leaves _).2.1, State.servoState_tim]
  rfl

theorem State.takeSource_pps : (s.takeSource src).syn.pps = s.syn.pps := by
  obtain ⟨k, h⟩ := s.takeSource_eq src
  rw [h, State.timeState, State.hand_syn, (State.countsAnew_leaves _).2.2, State.servoState_syn]
  rfl

theorem RegsBut.takeSource : RegsBut s (s.takeSource src) sourceFields := by
  obtain ⟨k, h⟩ := s.takeSource_eq src
  have hshown : RegsBut s (s.sourceShown src) [(F.SYN_SERVO_STATUS_SOURCE, 0), (F.SYN_INT_STATUS_SRC_SWITCH, 0)] :=
    (RegsBut.refl.wr src (by simp)).raiseBits 1 (by simp)
  have hstate := (hshown.append (RegsBut.servoState (s.sourceShown src) k)).congr (State.countsAnew_leaves _).1
  rw [h]
  exact hstate.append (RegsBut.timeState _ 4)

/-- A measurement of an input leaves the view, the edges of the inputs, and the registers that do not show the source. -/
theorem State.measure_leaves (h : 4 ≤ src) : (s.measure src theta seconds).tim = s.tim ∧
    (s.measure src theta seconds).syn.pps = s.syn.pps ∧ RegsBut s (s.measure src theta seconds) sourceFields := by
  have hnoted : RegsBut s (s.measureNoted src) sourceFields := RegsBut.of_regs rfl
  have htim : (s.measureNoted src).tim = s.tim := rfl
  have hpps : (s.measureNoted src).syn.pps = s.syn.pps := rfl
  have hcases := s.measure_cases src theta seconds h
  generalize s.measureNoted src = u at hnoted htim hpps hcases
  obtain h | h | h := hcases <;> rw [h]
  · exact ⟨htim, hpps, hnoted⟩
  · obtain ⟨hr, ht, hp⟩ := u.offer_leaves src theta seconds
    exact ⟨ht.trans htim, hp.trans hpps, hnoted.congr hr⟩
  · obtain ⟨hr, ht, hp⟩ := (u.takeSource src).offer_leaves src theta seconds
    exact ⟨ht.trans ((u.takeSource_tim src).trans htim), hp.trans ((u.takeSource_pps src).trans hpps),
      (hnoted.trans (RegsBut.takeSource u src)).congr hr⟩

end

/-! ### Edges (R94) -/

theorem ofS_lt (w : Nat) (x : Int) : ofS w x < 2 ^ w := ofS_mod w x ▸ Nat.mod_lt _ (Nat.two_pow_pos w)

section
variable (s : State) (i : Fin 2) (raw : Nat)

/-- An edge is the newest of its input, and ends the label that waited. -/
def State.edgeNoted : State :=
  let t := s.setPps i.val (fun x => { x with edge := some (raw / 16), label := none })
  if t.rd F.SYN_TOD_CTRL_RX_SRC = i.val then t.wr F.SYN_TOD_STATUS_LABEL_VALID 0 0 else t

/-- An edge in its second is a valid one. -/
def State.edgeValid : State := (s.edgeNoted i raw).setPps i.val (fun x => { x with last := some (raw / 16) })

theorem State.edgeNoted_cases :
    s.edgeNoted i raw = s.setPps i.val (fun x => { x with edge := some (raw / 16), label := none }) ∨
    s.edgeNoted i raw = (s.setPps i.val (fun x => { x with edge := some (raw / 16), label := none })).wr F.SYN_TOD_STATUS_LABEL_VALID 0 0 := by
  unfold State.edgeNoted
  dsimp only
  split
  · exact .inr rfl
  · exact .inl rfl

theorem State.edgeValid_tim : (s.edgeValid i raw).tim = s.tim := by
  obtain h | h := s.edgeNoted_cases i raw <;> rw [State.edgeValid, h] <;> rfl

theorem RegsBut.edgeValid : RegsBut s (s.edgeValid i raw) [(F.SYN_TOD_STATUS_LABEL_VALID, 0)] := by
  have hset : RegsBut s (s.setPps i.val (fun x => { x with edge := some (raw / 16), label := none }))
      [(F.SYN_TOD_STATUS_LABEL_VALID, 0)] := RegsBut.of_regs rfl
  obtain h | h := s.edgeNoted_cases i raw <;> rw [State.edgeValid, h]
  · exact hset.congr rfl
  · exact (hset.wr (f := F.SYN_TOD_STATUS_LABEL_VALID) 0 (by simp)).congr rfl

theorem State.edgeValid_last (h : s.syn.pps.length = 2) : (nth (s.edgeValid i raw).syn.pps i.val {}).last = some (raw / 16) := by
  have hlen : i.val < (s.edgeNoted i raw).syn.pps.length := by
    obtain he | he := s.edgeNoted_cases i raw <;> rw [he] <;>
      exact (upd_length s.syn.pps _ _).symm ▸ h.symm ▸ i.isLt
  exact congrArg PpsIn.last (nth_upd_same _ _ hlen)

theorem State.ppsEdge_valid {l : Nat} (hl : (nth s.syn.pps i.val {}).last = some l)
    (h : 720000000 ≤ raw / 16 - l ∧ raw / 16 - l ≤ 880000000) :
    s.ppsEdge i.val raw = (s.edgeValid i raw).ppsValid i.val raw (nth s.syn.pps i.val {}).label := by
  unfold State.ppsEdge
  dsimp only
  rw [hl]
  dsimp only
  rw [if_pos h]
  rfl

/-- What a valid edge shows of a raw form and an offset (R94, R110). -/
def ppsValues (raw ofs : Nat) : List (Fld × Nat) :=
  [(F.SYN_PPS_IN_RAW_LO_VALUE, raw / 16), (F.SYN_PPS_IN_RAW_HI_VALUE, raw / 16 / 2 ^ 32), (F.SYN_PPS_IN_SUB_VALUE, raw % 16),
   (F.SYN_PPS_IN_OFS_LO_VALUE, ofs), (F.SYN_PPS_IN_OFS_HI_VALUE, ofs / 2 ^ 32)]

theorem ppsValues_apart (ofs : Nat) : ((ppsValues raw ofs).map fun x => x.1.key i.val).Nodup := by
  have h : ((ppsValues 0 0).map fun x => x.1.key i.val).Nodup := by revert i; decide
  exact h

/-- The offset of an edge without a label from the nearest second (R94). -/
def State.ppsTheta : Int :=
  (nearestSec (s.stampView raw) * unitsPerSec : Nat) + s.rdS F.SYN_PPS_IN_DELAY_VALUE i.val - (s.stampView raw : Int)

theorem State.stampView_congr {s t : State} (h : t.tim = s.tim) (raw : Nat) : t.stampView raw = s.stampView raw := by
  simp only [State.stampView, h]

theorem State.ppsTheta_congr {s t : State} {i : Fin 2} (ht : t.tim = s.tim)
    (hd : t.rd F.SYN_PPS_IN_DELAY_VALUE i.val = s.rd F.SYN_PPS_IN_DELAY_VALUE i.val) (raw : Nat) : t.ppsTheta i raw = s.ppsTheta i raw := by
  rw [State.ppsTheta, State.rdS, hd, State.stampView_congr ht, State.ppsTheta, State.rdS]

theorem State.edgeValid_ppsTheta : (s.edgeValid i raw).ppsTheta i raw = s.ppsTheta i raw :=
  State.ppsTheta_congr (s.edgeValid_tim i raw) (RegsBut.edgeValid s i raw F.SYN_PPS_IN_DELAY_VALUE i.val (by revert i; decide)) raw

theorem State.edgeValid_epoch : (s.edgeValid i raw).epoch = s.epoch := RegsBut.edgeValid s i raw F.TIM_EPOCH_CURRENT 0 (by decide)

/-- The raw form of a valid edge is shown. -/
def State.rawShown : State :=
  (s.wr2 F.SYN_PPS_IN_RAW_LO_VALUE F.SYN_PPS_IN_RAW_HI_VALUE i.val (raw / 16)).wr F.SYN_PPS_IN_SUB_VALUE i.val (raw % 16)

theorem RegsBut.rawShown : RegsBut s (s.rawShown i raw)
    [(F.SYN_PPS_IN_RAW_LO_VALUE, i.val), (F.SYN_PPS_IN_RAW_HI_VALUE, i.val), (F.SYN_PPS_IN_SUB_VALUE, i.val)] :=
  (RegsBut.refl.wr2 (raw / 16) (by simp) (by simp)).wr (raw % 16) (by simp)

theorem State.rawShown_ppsTheta : (s.rawShown i raw).ppsTheta i raw = s.ppsTheta i raw :=
  State.ppsTheta_congr (s := s) (t := s.rawShown i raw) rfl (RegsBut.rawShown s i raw F.SYN_PPS_IN_DELAY_VALUE i.val (by revert i; decide)) raw

theorem State.rawShown_epoch : (s.rawShown i raw).epoch = s.epoch :=
  RegsBut.rawShown s i raw F.TIM_EPOCH_CURRENT 0 (by revert i; decide)

/-- All that a valid edge shows, written at once. -/
theorem State.rawShown_wr2 (ofs : Nat) :
    (s.rawShown i raw).wr2 F.SYN_PPS_IN_OFS_LO_VALUE F.SYN_PPS_IN_OFS_HI_VALUE i.val ofs = s.wrAll i.val (ppsValues raw ofs) := rfl

/-- A valid edge without a label, in a known epoch, is shown and measures its input. -/
theorem State.ppsValid_unlabelled (he : s.epoch ≠ 0) : s.ppsValid i.val raw none =
    (s.wrAll i.val (ppsValues raw (ofS 64 (s.ppsTheta i raw)))).measure (4 + i.val) (s.ppsTheta i raw) false := by
  have hepoch : (s.rawShown i raw).epoch ≠ 0 := s.rawShown_epoch i raw ▸ he
  rw [← State.rawShown_wr2, ← s.rawShown_ppsTheta i raw]
  unfold State.rawShown at hepoch ⊢
  unfold State.ppsValid State.ppsTheta
  dsimp only
  rw [ite_self, if_neg fun h => hepoch h.1, Option.getD_none, Option.isSome_none]

/-- A measurement leaves what the edge shows. -/
theorem State.rd_ppsValues_measure (ofs : Nat) (theta : Int) (seconds : Bool) {x : Fld × Nat} (hx : x ∈ ppsValues raw ofs) :
    ((s.wrAll i.val (ppsValues raw ofs)).measure (4 + i.val) theta seconds).rd x.1 i.val = x.2 % 2 ^ x.1.width := by
  have hkeys : ∀ x ∈ ppsValues 0 0, ∀ y ∈ sourceFields, y.1.key y.2 ≠ x.1.key i.val := by revert i; decide
  have hapart : ∀ y ∈ sourceFields, y.1.key y.2 ≠ x.1.key i.val := by
    have hfst : (ppsValues raw ofs).map Prod.fst = (ppsValues 0 0).map Prod.fst := rfl
    have hmem : x.1 ∈ (ppsValues 0 0).map Prod.fst := hfst ▸ List.mem_map_of_mem hx
    obtain ⟨z, hz, hzx⟩ := List.mem_map.mp hmem
    exact hzx ▸ hkeys z hz
  exact ((State.measure_leaves _ _ theta seconds (Nat.le_add_right 4 _)).2.2 x.1 i.val hapart).trans
    (State.rd_wrAll_mem (ppsValues_apart i raw ofs) hx)

end

end Sys2Proof.Machine

namespace Sys2Proof.Proofs
open Sys2Proof.Machine

/-- A valid edge of an input is shown with its raw form and its offset (R94). -/
theorem ppsInEdge_valid (s : State) (i : Fin 2) (rise : Bool) (raw : Nat) (x : PpsIn) (l : Nat) (hl : s.live = true) (hset : s.Settled)
    (hon : s.on F.SYN_PPS_IN_CTRL_ENABLE i.val = true ∧ s.on F.SYN_PPS_IN_CTRL_EDGE i.val = !rise)
    (hx : s.syn.pps.length = 2 ∧ nth s.syn.pps i.val {} = x ∧ x.last = some l ∧ x.label = none)
    (hraw : l ≤ raw / 16 ∧ 720000000 ≤ raw / 16 - l ∧ raw / 16 - l ≤ 880000000 ∧ raw < 2 ^ 64) (he : s.epoch ≠ 0) :
    let v := s.stampView raw
    let sec := (v + unitsPerSec / 2) / unitsPerSec
    Completes (.ppsInEdge i rise raw) s (fun t => t.rd2 F.SYN_PPS_IN_RAW_LO_VALUE F.SYN_PPS_IN_RAW_HI_VALUE i.val = raw / 16 ∧ t.rd F.SYN_PPS_IN_SUB_VALUE i.val = raw % 16 ∧
    t.rd2 F.SYN_PPS_IN_OFS_LO_VALUE F.SYN_PPS_IN_OFS_HI_VALUE i.val =
      ofS 64 ((sec * unitsPerSec : Nat) + s.rdS F.SYN_PPS_IN_DELAY_VALUE i.val - (v : Int)) ∧
    (nth t.syn.pps i.val {}).last = some (raw / 16) ∧ t.now = s.now) := by
  obtain ⟨henable, hedge⟩ := hon
  obtain ⟨hlen, rfl, hlast, hlabel⟩ := hx
  obtain ⟨-, hlo, hhi, hbound⟩ := hraw
  let u := s.edgeValid i raw
  have hepoch : u.epoch ≠ 0 := (s.edgeValid_epoch i raw).symm ▸ he
  have hstep : exec (.ppsInEdge i rise raw) s =
      .next (s.inside ((u.wrAll i.val (ppsValues raw (ofS 64 (s.ppsTheta i raw)))).measure (4 + i.val) (s.ppsTheta i raw) false)) := by
    refine congrArg _ ((State.when_true s (by rw [hl, henable, hedge]; cases rise <;> rfl) _).trans (congrArg s.inside ?_))
    rw [hset, s.ppsEdge_valid i raw hlast ⟨hlo, hhi⟩, hlabel, u.ppsValid_unlabelled i raw hepoch, s.edgeValid_ppsTheta]
  have hrd := fun x hx => u.rd_ppsValues_measure i raw (ofS 64 (s.ppsTheta i raw)) (s.ppsTheta i raw) false (x := x) hx
  obtain ⟨htim, hpps, -⟩ := (u.wrAll i.val (ppsValues raw (ofS 64 (s.ppsTheta i raw)))).measure_leaves (4 + i.val)
    (s.ppsTheta i raw) false (Nat.le_add_right 4 _)
  generalize State.measure _ _ _ _ = w at hstep hrd htim hpps
  have hraw64 : raw / 16 < 2 ^ 64 := by omega
  have hofs : ofS 64 (s.ppsTheta i raw) < 2 ^ 64 := ofS_lt 64 _
  simp only [ppsValues, List.forall_mem_cons] at hrd
  obtain ⟨hrawLo, hrawHi, hsub, hofsLo, hofsHi, -⟩ := hrd
  refine ⟨_, hstep, State.rd2_of_halves hrawLo hrawHi hraw64, hsub.trans (Nat.mod_mod raw 16), State.rd2_of_halves hofsLo hofsHi hofs, ?_, ?_⟩
  · exact (congrArg (fun l => (nth l i.val {}).last) hpps).trans (s.edgeValid_last i raw hlen)
  · exact (congrArg Tim.canopy htim).trans (congrArg Tim.canopy (s.edgeValid_tim i raw))

end Sys2Proof.Proofs

namespace Sys2Proof.Machine

/-! ### Time-of-day lines (R95) -/

/-- A label is a number of 48 bits. -/
theorem todParse_lt {line : Bytes} {n : Nat} (h : todParse line = some n) : n < 2 ^ 48 := by
  unfold todParse at h
  dsimp only at h
  split at h
  · cases h
  split at h
  · cases h
  split at h
  · cases h
  split at h
  · next m _ =>
    split at h
    · next hm => exact Option.some.inj h ▸ hm
    · cases h
  · cases h

/-- The label of a line waits for the next edge of an input, and is shown. -/
def State.labelled (s : State) (i n : Nat) : State :=
  ((s.setPps i (fun x => { x with label := some n })).wr2 F.SYN_TOD_SEC_LO_VALUE F.SYN_TOD_SEC_HI_VALUE 0 n).wr F.SYN_TOD_STATUS_LABEL_VALID 0 1

/-- A line that labels nothing is counted and reported. -/
def State.todRefused (s : State) : State := (s.bump 4 16).raiseBits F.SYN_INT_STATUS_TOD_ERR 0 1

theorem State.rd2_labelled (s : State) (i : Nat) {n : Nat} (h : n < 2 ^ 48) :
    (s.labelled i n).rd2 F.SYN_TOD_SEC_LO_VALUE F.SYN_TOD_SEC_HI_VALUE = n := by
  have hvalid : RegsBut ((s.setPps i (fun x => { x with label := some n })).wr2 F.SYN_TOD_SEC_LO_VALUE F.SYN_TOD_SEC_HI_VALUE 0 n)
      (s.labelled i n) [(F.SYN_TOD_STATUS_LABEL_VALID, 0)] := RegsBut.refl.wr 1 (by simp)
  rw [hvalid.rd2 (by decide) (by decide)]
  exact State.rd2_wr2 _ (by decide) rfl h

end Sys2Proof.Machine

namespace Sys2Proof.Proofs
open Sys2Proof.Machine

/-- What TOD_LINE_RX does with a well-formed line after an edge. -/
theorem exec_todLineRx {s : State} {line : Bytes} {e n : Nat} (hl : s.live = true) (hon : s.on F.SYN_TOD_CTRL_RX_EN = true)
    (he : (nth s.syn.pps (s.rd F.SYN_TOD_CTRL_RX_SRC) {}).edge = some e) (hn : todParse line = some n) :
    exec (.todLineRx line) s = .next (s.inside
      (if e + 8000000 ≤ s.now ∧ s.now ≤ e + 792000000 then s.labelled (s.rd F.SYN_TOD_CTRL_RX_SRC) n else s.todRefused)) := by
  refine congrArg _ ((State.when_true s (by rw [hl, hon]; rfl) _).trans (congrArg s.inside ?_))
  dsimp only
  rw [he, hn]
  by_cases hw : e + 8000000 ≤ s.now ∧ s.now ≤ e + 792000000
  · rw [if_pos hw]
    split
    · next h => cases h; rfl
    · next h => exact absurd rfl (h n (decide_eq_true hw))
  · rw [if_neg hw]
    split
    · next h _ => exact absurd (of_decide_eq_true h) hw
    · rfl

/-- A well-formed line labels the next edge in its window, and is refused outside it (R95). -/
theorem todLineRx_labels (s : State) (line : Bytes) (e n : Nat) (hl : s.live = true) (hon : s.on F.SYN_TOD_CTRL_RX_EN = true)
    (hlen : s.syn.pps.length = 2) (he : (nth s.syn.pps (s.rd F.SYN_TOD_CTRL_RX_SRC) {}).edge = some e) (hn : todParse line = some n) :
    Completes (.todLineRx line) s (fun t => (e + 8000000 ≤ s.now ∧ s.now ≤ e + 792000000 → (nth t.syn.pps (s.rd F.SYN_TOD_CTRL_RX_SRC) {}).label = some n ∧
      t.rd2 F.SYN_TOD_SEC_LO_VALUE F.SYN_TOD_SEC_HI_VALUE = n ∧ t.on F.SYN_TOD_STATUS_LABEL_VALID = true) ∧
    (¬(e + 8000000 ≤ s.now ∧ s.now ≤ e + 792000000) → t.on F.SYN_INT_STATUS_TOD_ERR = true ∧ t.syn = s.syn) ∧ t.tim = s.tim) := by
  have hsrc : s.rd F.SYN_TOD_CTRL_RX_SRC < s.syn.pps.length := hlen ▸ s.rd_lt F.SYN_TOD_CTRL_RX_SRC 0
  refine ⟨_, exec_todLineRx hl hon he hn, ?_⟩
  split
  · next hw =>
    refine ⟨fun _ => ⟨congrArg PpsIn.label (nth_upd_same _ _ hsrc), s.rd2_labelled _ (todParse_lt hn), ?_⟩, fun h => absurd hw h, rfl⟩
    exact State.on_wr_one _ F.SYN_TOD_STATUS_LABEL_VALID 0 rfl
  · next hw => exact ⟨fun h => absurd h hw, fun _ => ⟨State.on_raiseBits_one _ F.SYN_INT_STATUS_TOD_ERR 0 rfl, rfl⟩, rfl⟩

end Sys2Proof.Proofs
end

section
/-! PPS outputs, time-of-day lines sent, and the event pins (R96 to R100). -/

namespace Sys2Proof.Machine

/-! ### Leading edges (R96, R99, R100) -/

/-- The raw form of an instant of a tick lies in that tick. -/
theorem State.rawIn_div (s : State) (tick v : Nat) : s.rawIn tick v / 16 = tick := by
  unfold State.rawIn
  cases h : (List.range 16).find? (fun k => decide (v ≤ s.viewAt tick k)) with
  | none => simp only [Option.getD_none]; omega
  | some k =>
    have hk := List.mem_range.mp (List.mem_of_find?_eq_some h)
    simp only [Option.getD_some]
    omega

/-- A pulse of PPS output j whose leading edge is fixed at an instant of the view (R96). -/
def State.ppsPulse (s : State) (j v : Nat) : State :=
  s.setSyn (fun y => { y with
    ppsOutLast := upd y.ppsOutLast j (fun _ => some (s.now + 4))
    ppsOut := upd y.ppsOut j (fun x => x.startView (s.rawIn (s.now + 4) v) (v + s.rd F.SYN_PPS_OUT_WIDTH_WIDTH_US j * 65536000)) })

/-- The pulse before is too near for one four ticks from now (R96). -/
def State.ppsEarly (s : State) (j : Nat) : Bool :=
  match nth s.syn.ppsOutLast j none with
  | some l => decide (s.now + 4 < l + 400000000)
  | none => false

theorem State.ppsEarly_false {s : State} {j : Nat}
    (h : (nth s.syn.ppsOutLast j none).all (fun l => l + 400000000 ≤ s.now) = true) : ¬ s.ppsEarly j = true := by
  unfold State.ppsEarly
  cases hl : nth s.syn.ppsOutLast j none with
  | none => exact Bool.false_ne_true
  | some l =>
    rw [hl, Option.all_some] at h
    have hpast : l + 400000000 ≤ s.now := of_decide_eq_true h
    exact fun hearly => absurd (of_decide_eq_true hearly) (by omega)

/-- A pulse of an EVT_OUT pin whose leading edge is fixed at an instant of the view (R99). -/
def State.evtPulse (s : State) (pin v : Nat) : State :=
  s.setSyn (fun y => { y with evto := upd y.evto pin (fun x =>
    x.startView (s.rawIn (s.now + 4) v) (v + s.rd F.SYN_EVTO_WIDTH_NS pin * 65536)) })

/-! ### Captures (R98) -/

/-- An edge within two ticks of its pin's last capture is a glitch (R98). -/
def State.evtGlitch (s : State) (pin r : Nat) : Bool :=
  match nth s.syn.evtiLast pin none with
  | some l => decide (r < l + 32)
  | none => false

theorem State.evtGlitch_iff (s : State) (pin r : Nat) :
    s.evtGlitch pin r = true ↔ ∃ l, nth s.syn.evtiLast pin none = some l ∧ r < l + 32 := by
  unfold State.evtGlitch
  cases nth s.syn.evtiLast pin none with
  | none => simp
  | some l => simp

/-- A capture is the newest of its FIFO. -/
def State.evtQueued (s : State) (pin : Nat) (rise : Bool) (r : Nat) : State :=
  s.setSyn (fun y => { y with
    evti := upd y.evti pin (fun q => q ++ [⟨r / 16, r % 16, rise⟩])
    evtiLast := upd y.evtiLast pin (fun _ => some r) })

/-- A capture that finds its FIFO full (R98). -/
def State.evtDropped (s : State) (pin : Nat) : State :=
  ((s.setSyn (fun y => { y with evtiDrops := upd y.evtiDrops pin (fun n => n + 1) })).raiseBits F.SYN_EVTI_INFO_OVERFLOW pin 1).raiseBits
    F.SYN_INT_STATUS_EVT_OVERFLOW 0 1

section
variable (s : State) (pin r : Nat)

/-- Outputs that mirror a pin move alone. -/
theorem State.mirror_eq : ∃ l, s.mirror pin r = s.setSyn (fun y => { y with evto := l }) := by
  refine foldl_keeps (I := fun t => ∃ l, t = s.setSyn (fun y => { y with evto := l })) ?_ _ ⟨s.syn.evto, rfl⟩
  rintro t m ⟨l, rfl⟩
  split
  · exact ⟨_, rfl⟩
  · exact ⟨l, rfl⟩

/-- The registers of a pin's FIFO move alone. -/
theorem State.showEvti_frame : s.showEvti pin = { s with regs := (s.showEvti pin).regs } := rfl

theorem State.rd_showEvti_count : (s.showEvti pin).rd F.SYN_EVTI_INFO_COUNT pin = (nth s.syn.evti pin []).length % 2 ^ 5 := State.rd_wr_same _ _ _ _

variable {s pin r} (rise : Bool)

theorem State.evtCapture_room (hrec : s.on F.SYN_EVTI_CTRL_RECORD pin = false) (h : (nth s.syn.evti pin []).length < 16) :
    s.evtCapture pin rise r = ((s.evtQueued pin rise r).showEvti pin).mirror pin r := by
  unfold State.evtCapture
  dsimp only
  rw [if_pos h, State.when_false _ hrec]
  rfl

theorem State.evtCapture_full (hrec : s.on F.SYN_EVTI_CTRL_RECORD pin = false) (h : 16 ≤ (nth s.syn.evti pin []).length) :
    s.evtCapture pin rise r = s.evtDropped pin := by
  unfold State.evtCapture
  dsimp only
  rw [if_neg (Nat.not_lt.mpr h), State.when_false _ hrec]
  rfl

end

theorem State.evtDropped_overflow (s : State) (pin : Fin 8) : (s.evtDropped pin.val).on F.SYN_EVTI_INFO_OVERFLOW pin.val = true := by
  have hkeys : F.SYN_INT_STATUS_EVT_OVERFLOW.key 0 ≠ F.SYN_EVTI_INFO_OVERFLOW.key pin.val := by revert pin; decide
  rw [State.on, State.evtDropped, State.rd_raiseBits_other _ _ _ hkeys]
  exact State.on_raiseBits_one _ F.SYN_EVTI_INFO_OVERFLOW pin.val rfl

end Sys2Proof.Machine

namespace Sys2Proof.Proofs
open Sys2Proof.Machine

/-! ### Pulses and lines -/

/-- What PPS_OUT_PULSE does with an instant that is due and not too early. -/
theorem exec_ppsOutPulse {s : State} {j : Fin 2} {v : Nat} (hl : s.live = true) (hset : s.Settled)
    (hon : s.on F.SYN_PPS_OUT_CTRL_ENABLE j.val = true) (he : s.epoch ≠ 0)
    (hlast : (nth s.syn.ppsOutLast j.val none).all (fun l => l + 400000000 ≤ s.now) = true)
    (hv : s.trainIn (s.now + 4) (s.rdS F.SYN_PPS_OUT_OFS_OFFSET_NS j.val * 65536 % (unitsPerSec : Nat)).toNat unitsPerSec = some v) :
    exec (.ppsOutPulse j) s = .next (s.inside (s.ppsPulse j.val v)) := by
  have hgate : (s.live && s.on F.SYN_PPS_OUT_CTRL_ENABLE j.val && s.epoch != 0) = true := by
    rw [hl, hon, bne_iff_ne.mpr he]; rfl
  refine congrArg _ ((State.when_true s hgate _).trans (congrArg s.inside ?_))
  dsimp only
  rw [hset, hv]
  dsimp only
  rw [s.rawIn_div]
  exact if_neg (State.ppsEarly_false hlast)

/-- The leading edge of a PPS pulse is fixed four ticks ahead, and its trailing edge waits (R96, R100). -/
theorem ppsOutPulse_fixed (s : State) (j : Fin 2) (v : Nat) (hl : s.live = true) (hset : s.Settled)
    (hon : s.on F.SYN_PPS_OUT_CTRL_ENABLE j.val = true) (he : s.epoch ≠ 0)
    (hlast : s.syn.ppsOut.length = 2 ∧ s.syn.ppsOutLast.length = 2 ∧
      (nth s.syn.ppsOutLast j.val none).all (fun l => l + 400000000 ≤ s.now) = true)
    (hv : s.trainIn (s.now + 4) (s.rdS F.SYN_PPS_OUT_OFS_OFFSET_NS j.val * 65536 % (unitsPerSec : Nat)).toNat unitsPerSec = some v) :
    let raw := s.rawIn (s.now + 4) v
    Completes (.ppsOutPulse j) s (fun t => (nth t.syn.ppsOut j.val {}).pulse = some ((nth s.syn.ppsOut j.val {}).rise raw, raw) ∧
    (nth t.syn.ppsOut j.val {}).fall = some (v + s.rd F.SYN_PPS_OUT_WIDTH_WIDTH_US j.val * 65536000) ∧
    nth t.syn.ppsOutLast j.val none = some (raw / 16) ∧ t = { s with syn := t.syn }) := by
  obtain ⟨houts, hlasts, hall⟩ := hlast
  have hout : nth (s.ppsPulse j.val v).syn.ppsOut j.val {} = (nth s.syn.ppsOut j.val {}).startView (s.rawIn (s.now + 4) v) _ :=
    nth_upd_same _ _ (j.isLt.trans_eq houts.symm)
  refine ⟨_, exec_ppsOutPulse hl hset hon he hall hv, congrArg OutPin.pulse hout, congrArg OutPin.fall hout, ?_, rfl⟩
  rw [s.rawIn_div]
  exact nth_upd_same _ _ (j.isLt.trans_eq hlasts.symm)

/-- A line leaves 100 ms after a pulse of PPS_OUT0 (R97). -/
theorem todTxLine_labels (s : State) (t0 : Nat) (hl : s.live = true) (hset : s.Settled) (hon : s.on F.SYN_TOD_CTRL_TX_EN = true)
    (ht : nth s.syn.ppsOutLast 0 none = some t0) (hdue : t0 + 80000000 ≤ s.now) (hnew : (s.syn.todTx.map Prod.fst) ≠ some t0) :
    Completes (.todTxLine) s (fun t => t.syn.todTx = some (t0, todLine (s.nextPps t0) (s.on F.TIM_STATUS_TIME_VALID)) ∧
      t = { s with syn := t.syn }) := by
  have hstep : exec .todTxLine s = .next (s.inside (s.setSyn (fun y => { y with
      todTx := some (t0, todLine (s.nextPps t0) (s.on F.TIM_STATUS_TIME_VALID)) }))) := by
    refine congrArg _ ((State.when_true s (by rw [hl, hon]; rfl) _).trans (congrArg s.inside ?_))
    dsimp only
    rw [ht, hset]
    exact if_pos ⟨hdue, hnew⟩
  exact ⟨_, hstep, rfl, rfl⟩

/-- A pulse of an EVT_OUT pin is fixed four ticks ahead at its instant (R99, R100). -/
theorem evtOutPulse_fixed (s : State) (pin : Fin 8) (v : Nat) (hl : s.live = true) (hset : s.Settled)
    (hmode : s.rd F.SYN_EVTO_CTRL_MODE pin.val = 2) (hlen : s.syn.evto.length = 8)
    (hv : s.trainIn (s.now + 4) (viewOf (s.rd2 F.SYN_EVTO_START_SEC_LO_VALUE F.SYN_EVTO_START_SEC_HI_VALUE pin.val) (s.rd F.SYN_EVTO_START_NS_NS pin.val) 0)
      (s.rd F.SYN_EVTO_PERIOD_NS pin.val * 65536) = some v) :
    let raw := s.rawIn (s.now + 4) v
    Completes (.evtOutPulse pin) s (fun t => (nth t.syn.evto pin.val {}).pulse = some ((nth s.syn.evto pin.val {}).rise raw, raw) ∧
    (nth t.syn.evto pin.val {}).fall = some (v + s.rd F.SYN_EVTO_WIDTH_NS pin.val * 65536) ∧ t = { s with syn := t.syn }) := by
  have hstep : exec (.evtOutPulse pin) s = .next (s.inside (s.evtPulse pin.val v)) := by
    refine congrArg _ ((State.when_true s (by rw [hl, hmode]; rfl) _).trans (congrArg s.inside ?_))
    dsimp only
    rw [hset, hv]
    rfl
  have hout : nth (s.evtPulse pin.val v).syn.evto pin.val {} = (nth s.syn.evto pin.val {}).startView (s.rawIn (s.now + 4) v) _ :=
    nth_upd_same _ _ (pin.isLt.trans_eq hlen.symm)
  exact ⟨_, hstep, congrArg OutPin.pulse hout, congrArg OutPin.fall hout, rfl⟩

/-! ### Captures -/

section
variable {s : State} {pin : Fin 8} {rise : Bool} {raw : Nat}

/-- A glitch counts, and is no capture. -/
theorem exec_evtInEdge_glitch (hl : s.live = true) (hsel : s.evtSelects pin.val rise = true)
    (hg : s.evtGlitch pin.val (stampOf ((20 * raw : Nat) - s.rdS F.SYN_EVTI_DELAY_VALUE pin.val)) = true) :
    exec (.evtInEdge pin rise raw) s = .next (s.inside (s.bump 4 14)) := by
  refine congrArg _ ((State.when_true s (Bool.and_eq_true_iff.mpr ⟨hl, hsel⟩) _).trans (congrArg s.inside ?_))
  exact if_pos hg

/-- Any other edge of a pin is a capture. -/
theorem exec_evtInEdge_capture (hl : s.live = true) (hset : s.Settled) (hsel : s.evtSelects pin.val rise = true)
    (hg : ¬ s.evtGlitch pin.val (stampOf ((20 * raw : Nat) - s.rdS F.SYN_EVTI_DELAY_VALUE pin.val)) = true) :
    exec (.evtInEdge pin rise raw) s =
      .next (s.inside (s.evtCapture pin.val rise (stampOf ((20 * raw : Nat) - s.rdS F.SYN_EVTI_DELAY_VALUE pin.val)))) := by
  refine congrArg _ ((State.when_true s (Bool.and_eq_true_iff.mpr ⟨hl, hsel⟩) _).trans (congrArg s.inside ?_))
  rw [hset]
  exact if_neg hg

end

/-- A capture with room in its FIFO is the newest of it, and is shown (R98, R111). -/
theorem evtCapture_kept {s : State} {pin : Fin 8} (rise : Bool) (r : Nat) (hlen : s.syn.evti.length = 8 ∧ s.syn.evtiLast.length = 8)
    (hrec : s.on F.SYN_EVTI_CTRL_RECORD pin.val = false) (hroom : (nth s.syn.evti pin.val []).length < 16) :
    let t := s.evtCapture pin.val rise r
    nth t.syn.evti pin.val [] = nth s.syn.evti pin.val [] ++ [⟨r / 16, r % 16, rise⟩] ∧ nth t.syn.evtiLast pin.val none = some r ∧
    t.rd F.SYN_EVTI_INFO_COUNT pin.val = (nth s.syn.evti pin.val []).length + 1 ∧ t.tim = s.tim ∧ t.evr = s.evr := by
  obtain ⟨hfifos, hlasts⟩ := hlen
  obtain ⟨l, hmirror⟩ := ((s.evtQueued pin.val rise r).showEvti pin.val).mirror_eq pin.val r
  have hqueue : nth (s.evtQueued pin.val rise r).syn.evti pin.val [] = nth s.syn.evti pin.val [] ++ [⟨r / 16, r % 16, rise⟩] :=
    nth_upd_same _ _ (pin.isLt.trans_eq hfifos.symm)
  dsimp only
  rw [State.evtCapture_room rise hrec hroom, hmirror]
  refine ⟨hqueue, nth_upd_same _ _ (pin.isLt.trans_eq hlasts.symm), ?_, rfl, rfl⟩
  refine (State.rd_showEvti_count _ _).trans ?_
  rw [hqueue, List.length_append, List.length_singleton]
  omega

/-- A capture without room is dropped, counted and shown (R98). -/
theorem evtCapture_dropped {s : State} {pin : Fin 8} (rise : Bool) (r : Nat) (hlen : s.syn.evtiDrops.length = 8)
    (hrec : s.on F.SYN_EVTI_CTRL_RECORD pin.val = false) (hfull : 16 ≤ (nth s.syn.evti pin.val []).length) :
    let t := s.evtCapture pin.val rise r
    t.syn.evti = s.syn.evti ∧ nth t.syn.evtiDrops pin.val 0 = nth s.syn.evtiDrops pin.val 0 + 1 ∧
    t.on F.SYN_EVTI_INFO_OVERFLOW pin.val = true ∧ t.on F.SYN_INT_STATUS_EVT_OVERFLOW = true ∧ t.tim = s.tim ∧ t.evr = s.evr := by
  dsimp only
  rw [State.evtCapture_full rise hrec hfull]
  exact ⟨rfl, nth_upd_same _ _ (pin.isLt.trans_eq hlen.symm), s.evtDropped_overflow pin,
    State.on_raiseBits_one _ F.SYN_INT_STATUS_EVT_OVERFLOW 0 rfl, rfl, rfl⟩

/-- An edge of an event pin is a glitch, a capture, or one that its FIFO has no room for (R98). -/
theorem evtInEdge_captures (s : State) (pin : Fin 8) (rise : Bool) (raw : Nat) (hl : s.live = true) (hset : s.Settled)
    (hsel : s.evtSelects pin.val rise = true) (hlen : s.syn.evti.length = 8 ∧ s.syn.evtiLast.length = 8 ∧ s.syn.evtiDrops.length = 8)
    (hrec : s.on F.SYN_EVTI_CTRL_RECORD pin.val = false) :
    let r := stampOf ((20 * raw : Nat) - s.rdS F.SYN_EVTI_DELAY_VALUE pin.val)
    let glitch := ∃ l, nth s.syn.evtiLast pin.val none = some l ∧ r < l + 32
    Completes (.evtInEdge pin rise raw) s (fun t => (glitch → t.syn = s.syn ∧ t.regs = s.regs) ∧
    (¬glitch → (nth s.syn.evti pin.val []).length < 16 →
      nth t.syn.evti pin.val [] = nth s.syn.evti pin.val [] ++ [⟨r / 16, r % 16, rise⟩] ∧ nth t.syn.evtiLast pin.val none = some r ∧
      t.rd F.SYN_EVTI_INFO_COUNT pin.val = (nth s.syn.evti pin.val []).length + 1) ∧
    (¬glitch → 16 ≤ (nth s.syn.evti pin.val []).length → t.syn.evti = s.syn.evti ∧ nth t.syn.evtiDrops pin.val 0 = nth s.syn.evtiDrops pin.val 0 + 1 ∧ t.on F.SYN_EVTI_INFO_OVERFLOW pin.val = true ∧
      t.on F.SYN_INT_STATUS_EVT_OVERFLOW = true) ∧ t.tim = s.tim ∧ t.evr = s.evr) := by
  obtain ⟨hfifos, hlasts, hdrops⟩ := hlen
  intro r glitch
  have hiff : s.evtGlitch pin.val r = true ↔ glitch := s.evtGlitch_iff pin.val r
  by_cases hg : s.evtGlitch pin.val r = true
  · have hglitch : glitch := hiff.mp hg
    exact ⟨_, exec_evtInEdge_glitch hl hsel hg, fun _ => ⟨rfl, rfl⟩, fun h => absurd hglitch h, fun h => absurd hglitch h, rfl, rfl⟩
  · have hno : ¬ glitch := fun h => hg (hiff.mpr h)
    refine ⟨_, exec_evtInEdge_capture hl hset hsel hg, fun h => absurd h hno, ?_⟩
    obtain hroom | hfull := Nat.lt_or_ge (nth s.syn.evti pin.val []).length 16
    · obtain ⟨hqueue, hlast, hcount, htim, hevr⟩ := evtCapture_kept rise r ⟨hfifos, hlasts⟩ hrec hroom
      exact ⟨fun _ _ => ⟨hqueue, hlast, hcount⟩, fun _ h => absurd hroom (Nat.not_lt.mpr h), htim, hevr⟩
    · obtain ⟨hsame, hdrop, hover, hirq, htim, hevr⟩ := evtCapture_dropped rise r hdrops hrec hfull
      exact ⟨fun _ h => absurd h (Nat.not_lt.mpr hfull), fun _ _ => ⟨hsame, hdrop, hover, hirq⟩, htim, hevr⟩

/-- Settles O9: each edge, line, capture and pulse by the lemma of its own instruction. -/
theorem timedInputsAndOutputs : Obligations.TimedInputsAndOutputs :=
  ⟨ppsInEdge_valid, todLineRx_labels, ppsOutPulse_fixed, todTxLine_labels, evtInEdge_captures, evtOutPulse_fixed⟩

end Sys2Proof.Proofs
end

section
/-! The tails of the seats' rings (R131): what a seat's write of one comes to, and its refusal (R440). -/

namespace Sys2Proof.Machine

/-! ### A field written by its own row -/

theorem sumOf_singleton {α : Type} (x : α) (f : α → Nat) : sumOf [x] f = f x := Nat.zero_add _

/-- The bits of a field, read back from the word that holds a value at its place. -/
theorem Fld.part_place (f : Fld) (v : Nat) : f.part (f.place v) = v % 2 ^ f.width := by
  rw [Fld.part, Fld.place, Nat.mul_div_cancel _ (Nat.two_pow_pos _), Nat.mod_mod]

theorem Fld.part_ones (f : Fld) : f.part f.ones = 2 ^ f.width - 1 := by
  rw [Fld.part, Fld.ones, Nat.mul_div_cancel _ (Nat.two_pow_pos _), Nat.mod_eq_of_lt (Nat.sub_lt (Nat.two_pow_pos _) Nat.one_pos)]

theorem State.fieldWrite_one (s : State) (seat n : Nat) (f : Fld) (v : Nat) :
    s.fieldWrite seat n [(f, v)] = .next (s.seatWrite seat (f.addr n) (f.place v) f.ones) := by
  simp only [State.fieldWrite, sumOf_singleton]

/-- A seat that may not write a register is told so before anything else is judged (R441). -/
theorem State.tryWord_notOwner {force s : State} {seat txn n : Nat} {w : StagedWord} {r : RegD} (hf : findReg w.addr = some (r, n))
    (hm : force.mayWrite seat r n w.mask w.value = false) : force.tryWord s seat txn (pure ()) w = .error .notOwner := by
  simp only [State.tryWord, hf, hm, need, bind, Except.bind, Bool.or_self, Bool.false_eq_true, if_false]

/-! ### The tail of a ring -/

/-- The tail register of the seats' rings (R131): one live field, which its seat alone writes and which its hook keeps within the ring. -/
structure RegD.IsTail (r : RegD) (size tail : Fld) : Prop where
  own : r.own = .ring
  half : r.half = .whole
  fields : r.fields = [fd tail .rw .l]
  base : r.base ≠ A.TRP_BASE ∧ r.base ≠ A.LAN_LANE_TX_COEF
  hook : ∀ (s t : State) (seat n mask value : Nat), s.hook t seat r n mask value = t.ringSet size tail seat n (t.rd tail n)
  unitOk : ∀ (s v : State) (n mask : Nat), s.unitOk v r n mask = .ok ()
  find : ∀ n : Fin 4, findReg (tail.addr n.val) = some (r, n.val)
  width : tail.width = 14
  apart : ∀ n : Fin 4, tail.key n.val ≠ size.key n.val
  noReset : ∀ n : Fin 4, tail.addr n.val ≠ A.SYS_SW_RESET

def txTail : RegD := ⟨"BUF.SEAT_RING_TX_TAIL", A.BUF_SEAT_RING_TX_TAIL, .ring, .whole, [fd F.BUF_SEAT_RING_TX_TAIL_VALUE .rw .l]⟩
def rxTail : RegD := ⟨"BUF.SEAT_RING_RX_TAIL", A.BUF_SEAT_RING_RX_TAIL, .ring, .whole, [fd F.BUF_SEAT_RING_RX_TAIL_VALUE .rw .l]⟩

theorem txTail_isTail : txTail.IsTail F.BUF_SEAT_RING_CTRL_TX_LOG_SIZE F.BUF_SEAT_RING_TX_TAIL_VALUE where
  own := rfl
  half := rfl
  fields := rfl
  base := by decide
  hook _ _ _ _ _ _ := rfl
  unitOk _ _ _ _ := rfl
  find := findReg_BUF_SEAT_RING_TX_TAIL
  width := rfl
  apart := by decide
  noReset := by decide

theorem rxTail_isTail : rxTail.IsTail F.BUF_SEAT_RING_CTRL_RX_LOG_SIZE F.BUF_SEAT_RING_RX_TAIL_VALUE where
  own := rfl
  half := rfl
  fields := rfl
  base := by decide
  hook _ _ _ _ _ _ := rfl
  unitOk _ _ _ _ := rfl
  find := findReg_BUF_SEAT_RING_RX_TAIL
  width := rfl
  apart := by decide
  noReset := by decide

namespace RegD.IsTail
variable {r : RegD} {size tail : Fld} {s : State} {seat ring : Fin 4}

theorem noResetWrite (h : r.IsTail size tail) (n : Fin 4) (mask value : Nat) : resetWrite ⟨tail.addr n.val, mask, value⟩ = false := by
  rw [resetWrite, beq_eq_false_iff_ne.mpr (h.noReset n), Bool.false_and, Bool.false_and]

/-- The register after the write of a value, before its hook. -/
theorem rd_poke (h : r.IsTail size tail) (v : BitVec 14) :
    (s.poke r seat.val tail.ones (tail.place v.toNat)).rd tail seat.val = v.toNat := by
  have hlt : v.toNat < 2 ^ 14 := v.isLt
  have hmem : fd tail .rw .l ∈ s.fieldsOf r seat.val := by
    rw [s.fieldsOf_eq _ h.base.2, h.fields]; exact List.mem_cons_self
  have hwritten : s.written (fd tail .rw .l) seat.val tail.ones (tail.place v.toNat) = v.toNat := by
    refine (State.written_full s _ seat.val _ rfl (fun _ => rfl) rfl tail.part_ones ?_).trans ?_
    · exact ne_of_eq_of_ne h.width (by decide)
    · rw [show (fd tail .rw .l).fld = tail from rfl, tail.part_place, h.width, Nat.mod_eq_of_lt hlt]
  refine (State.rd_poke (h.find seat) hmem).trans ?_
  rw [hwritten, show (fd tail .rw .l).fld = tail from rfl, h.width, Nat.mod_eq_of_lt hlt]

/-- The tail that a write sets: the value within the ring. -/
theorem tryWord (h : r.IsTail size tail) (hh : s.wordHeld 0 (tail.addr seat.val) = false) (v : BitVec 14) :
    s.tryWord s seat.val 0 (pure ()) ⟨tail.addr seat.val, tail.ones, tail.place v.toNat⟩ =
      .ok (.l, (s.poke r seat.val tail.ones (tail.place v.toNat)).wr tail seat.val (v.toNat % 2 ^ s.rd size seat.val)) := by
  have hlive : ∀ d ∈ r.fields, d.cls = .l := by rw [h.fields]; exact List.forall_mem_singleton.mpr rfl
  have hc := s.classOf_live hlive seat.val tail.ones (tail.place v.toNat)
  have hsize : (s.poke r seat.val tail.ones (tail.place v.toNat)).rd size seat.val = s.rd size seat.val :=
    RegsBut.poke s r seat.val tail.ones (tail.place v.toNat) size seat.val (by rw [h.fields]; exact List.forall_mem_singleton.mpr (h.apart seat))
  have hshared : s.sharedBase r seat.val = false := by
    rw [State.sharedBase, beq_eq_false_iff_ne.mpr h.base.1, Bool.false_and, Bool.false_and]
  rw [← hc]
  refine State.tryWord_ok (h.find seat) ?_ (by rw [hc]; intro hq; cases hq) hh ?_ (h.unitOk _ _ _ _) ?_
  · rw [State.mayWrite, h.own]; exact beq_self_eq_true _
  · rw [s.fieldsOf_eq _ h.base.2, h.fields]
    simp [fd, State.outOfRange]
  · simp only [State.applyWord, h.find seat, hshared, Bool.false_eq_true, if_false, h.hook, State.ringSet, need, beq_self_eq_true, if_true,
      h.rd_poke, hsize, bind, Except.bind, pure, Except.pure]

/-- A seat's write of its own tail (R131). -/
theorem fieldWrite_own (h : r.IsTail size tail) (hfree : s.Free (tail.addr seat.val)) (v : BitVec 14) :
    ∃ t, s.fieldWrite seat.val seat.val [(tail, v.toNat)] = .next t ∧ t.resp = some ⟨.ok, []⟩ ∧
      t.rd tail seat.val = v.toNat % 2 ^ s.rd size seat.val % 2 ^ tail.width ∧ RegsBut s t ((tail, seat.val) :: digestFields) := by
  obtain ⟨hl, hh, h3⟩ := hfree
  have hd := State.writeDirect_now (h.find seat) h.half (h.tryWord hh v) (by decide) none
  have hset : RegsBut s (s.poke r seat.val tail.ones (tail.place v.toNat)) [(tail, seat.val)] := by
    have hpoke := RegsBut.poke s r seat.val tail.ones (tail.place v.toNat)
    rwa [h.fields] at hpoke
  have hdigest := RegsBut.wroteWord s seat.val (tail.addr seat.val) (tail.place v.toNat) tail.ones
    ((s.poke r seat.val tail.ones (tail.place v.toNat)).wr tail seat.val (v.toNat % 2 ^ s.rd size seat.val))
  have hfield : fd tail .rw .l ∈ r.fields := by rw [h.fields]; exact List.mem_cons_self
  refine ⟨_, by rw [s.fieldWrite_one, State.seatWrite_of_writeDirect hl h3 hd (h.noResetWrite seat _ _)], rfl, ?_, ?_⟩
  · rw [State.rd_inside_answer]
    exact (hdigest.rd_field digestFields_readOnly (h.find seat) hfield Acc.noConfusion).trans (State.rd_wr_same _ tail _ _)
  · exact ((hset.wr _ List.mem_cons_self).append hdigest).congr (State.inside_answer_regs _ _ _ _)

/-- A seat's write of another's tail (R131, R440). -/
theorem fieldWrite_other (h : r.IsTail size tail) (hs : s.live = true ∧ s.Settled) (hne : seat ≠ ring) (v : Nat) :
    s.fieldWrite seat.val ring.val [(tail, v)] = .next { s with resp := some ⟨.notOwner, []⟩ } := by
  obtain ⟨hl, h3⟩ := hs
  have hm : s.mayWrite seat.val r ring.val tail.ones (tail.place v) = false := by
    rw [State.mayWrite, h.own]; exact beq_eq_false_iff_ne.mpr (Fin.val_ne_of_ne hne)
  have ht := State.tryWord_notOwner (force := s) (s := s) (txn := 0) (w := ⟨tail.addr ring.val, tail.ones, tail.place v⟩) (h.find ring) hm
  rw [s.fieldWrite_one, State.seatWrite_error hl h3 (State.writeDirect_error (h.find ring) h.half ht none)]
  rfl

end RegD.IsTail

end Sys2Proof.Machine

namespace Sys2Proof.Proofs
open Sys2Proof.Machine

theorem txTailWrite_own (s : State) (seat : Fin 4) (value : BitVec 14) (hfree : s.Free (F.BUF_SEAT_RING_TX_TAIL_VALUE.addr seat.val)) :
    Completes (.txTailWrite seat seat value) s (fun t => t.resp = some ⟨.ok, []⟩ ∧
    t.rd F.BUF_SEAT_RING_TX_TAIL_VALUE seat.val = value.toNat % 2 ^ s.rd F.BUF_SEAT_RING_CTRL_TX_LOG_SIZE seat.val % 2 ^ F.BUF_SEAT_RING_TX_TAIL_VALUE.width ∧
    RegsBut s t ((F.BUF_SEAT_RING_TX_TAIL_VALUE, seat.val) :: digestFields)) :=
  txTail_isTail.fieldWrite_own hfree value

theorem rxTailWrite_own (s : State) (seat : Fin 4) (value : BitVec 14) (hfree : s.Free (F.BUF_SEAT_RING_RX_TAIL_VALUE.addr seat.val)) :
    Completes (.rxTailWrite seat seat value) s (fun t => t.resp = some ⟨.ok, []⟩ ∧
    t.rd F.BUF_SEAT_RING_RX_TAIL_VALUE seat.val = value.toNat % 2 ^ s.rd F.BUF_SEAT_RING_CTRL_RX_LOG_SIZE seat.val % 2 ^ F.BUF_SEAT_RING_RX_TAIL_VALUE.width ∧
    RegsBut s t ((F.BUF_SEAT_RING_RX_TAIL_VALUE, seat.val) :: digestFields)) :=
  rxTail_isTail.fieldWrite_own hfree value

theorem txTailWrite_other (s : State) (seat ring : Fin 4) (value : BitVec 14) (hs : s.live = true ∧ s.Settled) (hne : seat ≠ ring) :
    Completes (.txTailWrite seat ring value) s (fun t => t = { s with resp := some ⟨.notOwner, []⟩ }) :=
  ⟨_, txTail_isTail.fieldWrite_other hs hne value.toNat, rfl⟩

theorem rxTailWrite_other (s : State) (seat ring : Fin 4) (value : BitVec 14) (hs : s.live = true ∧ s.Settled) (hne : seat ≠ ring) :
    Completes (.rxTailWrite seat ring value) s (fun t => t = { s with resp := some ⟨.notOwner, []⟩ }) :=
  ⟨_, rxTail_isTail.fieldWrite_other hs hne value.toNat, rfl⟩

end Sys2Proof.Proofs
end

section
/-! What the records, a copy that gives its reference back, a drop and flow control leave of the stores of frames and copies, of the time
base and of the counters. -/

namespace Sys2Proof.Machine

/-! ### The stores of frames and copies -/

/-- t holds the frames, the copies and the time base of s, and counts as s does where `ks` does not say otherwise. -/
structure State.SameStores (s t : State) (ks : Nat → Prop) : Prop where
  fwd : t.fwd = s.fwd
  qsg : t.qsg = s.qsg
  tim : t.tim = s.tim
  counts : ∀ k, ¬ ks k → t.cntTick.get k 0 = s.cntTick.get k 0

/-- The counters of lost records, of refused frees and of flow control (R319, R200, R209). -/
def sideCounts : List Nat :=
  [cntKey 12 3 1, cntKey 7 2 0, cntKey 7 2 1, cntKey 7 2 2, cntKey 7 2 3, cntKey 7 3 0, cntKey 7 4 0]

namespace State.SameStores
variable {s t u : State} {ks : Nat → Prop}

theorem refl : s.SameStores s ks := ⟨rfl, rfl, rfl, fun _ _ => rfl⟩

theorem trans (h : s.SameStores t ks) (h' : t.SameStores u ks) : s.SameStores u ks :=
  ⟨h'.fwd.trans h.fwd, h'.qsg.trans h.qsg, h'.tim.trans h.tim, fun k hk => (h'.counts k hk).trans (h.counts k hk)⟩

theorem ite {c : Prop} [Decidable c] (h : s.SameStores t ks) (h' : s.SameStores u ks) : s.SameStores (if c then t else u) ks := by
  split
  · exact h
  · exact h'

/-- An operation on anything else: registers, buffers, ports, fault lines. -/
theorem congr (h : s.SameStores t ks) (hfwd : u.fwd = t.fwd) (hqsg : u.qsg = t.qsg) (htim : u.tim = t.tim) (hcnt : u.cntTick = t.cntTick) :
    s.SameStores u ks :=
  h.trans ⟨hfwd, hqsg, htim, fun k _ => congrArg (fun m => SMap.get m k 0) hcnt⟩

theorem wr (h : s.SameStores t ks) (f : Fld) (n v : Nat) : s.SameStores (t.wr f n v) ks := h.congr rfl rfl rfl rfl
theorem wr2 (h : s.SameStores t ks) (lo hi : Fld) (n v : Nat) : s.SameStores (t.wr2 lo hi n v) ks := h.congr rfl rfl rfl rfl
theorem raiseBits (h : s.SameStores t ks) (f : Fld) (n v : Nat) : s.SameStores (t.raiseBits f n v) ks := h.congr rfl rfl rfl rfl
theorem setBuf (h : s.SameStores t ks) (f : Buf → Buf) : s.SameStores (t.setBuf f) ks := h.congr rfl rfl rfl rfl

theorem bump (h : s.SameStores t ks) {g ev n : Nat} (by' : Nat) (hk : ks (cntKey g ev n)) : s.SameStores (t.bump g ev n by') ks :=
  h.trans ⟨rfl, rfl, rfl, fun _ hne => t.bump_cntTick_other fun e => hne (e ▸ hk)⟩

theorem foldl {α : Type} {f : State → α → State} (hf : ∀ (t : State) x, t.SameStores (f t x) ks) (l : List α) (h : s.SameStores t ks) :
    s.SameStores (l.foldl f t) ks :=
  foldl_keeps (I := fun t => s.SameStores t ks) (fun t x ht => ht.trans (hf t x)) l h

section
variable (hks : ∀ k ∈ sideCounts, ks k)
include hks

/-! ### Records -/

theorem hand (h : s.SameStores t ks) (r : Record) : s.SameStores (t.hand r) ks := by
  obtain e | e := t.hand_cases r <;> rw [e]
  · exact h.congr rfl rfl rfl rfl
  · have hgap : s.SameStores ({ t with evr := { t.evr with gaps := addLoss 1 t.now r t.evr.gaps } } : State) ks := h.congr rfl rfl rfl rfl
    exact (hgap.bump 1 (hks _ (by simp [sideCounts]))).raiseBits _ _ _

theorem frameRecord (h : s.SameStores t ks) (c : Copy) (fate reason : Nat) (tx : Option Tx) :
    s.SameStores (t.frameRecord c fate reason tx) ks := by
  obtain e | ⟨r, e⟩ := t.frameRecord_cases c fate reason tx <;> rw [e]
  · exact h
  · exact h.hand hks r

/-! ### Buffers given back (R198 to R201) -/

theorem refuseFree (h : s.SameStores t ks) {reason : Nat} (hr : reason < 4) (handle requester : Nat) :
    s.SameStores (t.refuseFree reason handle requester) ks := by
  have hk : cntKey 7 2 reason ∈ sideCounts := by
    have hall : ∀ r : Fin 4, cntKey 7 2 r.val ∈ sideCounts := by decide
    exact hall ⟨reason, hr⟩
  unfold State.refuseFree
  dsimp only
  refine SameStores.hand hks (SameStores.bump ?_ 1 (hks _ hk)) _
  exact SameStores.ite (h.congr rfl rfl rfl rfl) (h.congr rfl rfl rfl rfl)

theorem freeRef (h : s.SameStores t ks) (handle requester : Nat) : s.SameStores (t.freeRef handle requester) ks := by
  unfold State.freeRef
  split
  · refine SameStores.ite (h.refuseFree hks (by decide) _ _) (SameStores.ite (h.setBuf _) (h.setBuf _))
  · refine SameStores.ite (h.refuseFree hks (by decide) _ _) (SameStores.ite ?_ ?_) <;> exact h.refuseFree hks (by decide) _ _

end
end State.SameStores

/-- A copy gives its reference back, or holds none that the buffer knows. -/
theorem State.release_cases (s : State) (c : Copy) :
    let t := s.setBuf (fun x => { x with
      leaving := x.leaving ++ [⟨if c.path = 0 then some c.q else none, c.cells, [], 0, 0, 0, 0⟩] })
    s.release c = t ∨ ∃ handle, s.release c = t.freeRef handle 1 := by
  unfold State.release
  dsimp only
  split
  · exact .inl rfl
  · split
    · exact .inr ⟨_, rfl⟩
    · exact .inl rfl

namespace State.SameStores
variable {s t u : State} {ks : Nat → Prop} (hks : ∀ k ∈ sideCounts, ks k)
include hks

theorem release (h : s.SameStores t ks) (c : Copy) : s.SameStores (t.release c) ks := by
  obtain e | ⟨handle, e⟩ := t.release_cases c <;> rw [e]
  · exact h.setBuf _
  · exact (h.setBuf _).freeRef hks _ _

/-! ### Flow control (R209) -/

theorem sendFlow (h : s.SameStores t ks) (p ended : Nat) : s.SameStores (t.sendFlow p ended) ks := by
  have hsent : s.SameStores ((t.touch p).setBuf (fun b => { b with
      flow := b.flow ++ [⟨p, t.flowFrame p ended⟩], flowTick := b.flowTick.put p t.now 0 })) ks := h.congr rfl rfl rfl rfl
  exact SameStores.ite (hsent.bump 1 (hks _ (by simp [sideCounts]))) h

theorem flowTransition (h : s.SameStores t ks) (p c : Nat) (xoff : Bool) : s.SameStores (t.flowTransition p c xoff) ks :=
  (((h.wr _ _ _).bump 1 (hks _ (by simp [sideCounts]))).hand hks _).sendFlow hks _ _

theorem flowClass (h : s.SameStores t ks) (p c : Nat) (forced : Bool) : s.SameStores (t.flowClass p c forced) ks :=
  SameStores.ite (h.flowTransition hks p c true) (SameStores.ite (h.flowTransition hks p c false) h)

theorem flowCheck (h : s.SameStores t ks) (p : Nat) : s.SameStores (t.flowCheck p) ks :=
  SameStores.foldl (fun _ c => refl.flowClass hks p c false) _ h

theorem refreshBuf (h : s.SameStores t ks) : s.SameStores t.refreshBuf ks := by
  unfold State.refreshBuf
  dsimp only
  split
  · exact SameStores.foldl (fun _ p => refl.flowCheck hks p) _ (h.congr rfl rfl rfl rfl)
  · split
    · exact SameStores.foldl (fun _ p => refl.flowCheck hks p) _ (h.congr rfl rfl rfl rfl)
    · exact h.congr rfl rfl rfl rfl

end State.SameStores

/-! ### The stored buffers under flow control -/

section
variable (s : State)

theorem State.sendFlow_stored (p ended : Nat) : (s.sendFlow p ended).buf.stored = s.buf.stored := by
  unfold State.sendFlow
  split <;> rfl

theorem State.flowTransition_stored (p c : Nat) (xoff : Bool) : (s.flowTransition p c xoff).buf.stored = s.buf.stored :=
  (State.sendFlow_stored _ _ _).trans (congrArg Buf.stored (State.hand_buf _ _))

theorem State.flowClass_stored (p c : Nat) (forced : Bool) : (s.flowClass p c forced).buf.stored = s.buf.stored := by
  unfold State.flowClass
  dsimp only
  split
  · exact s.flowTransition_stored p c true
  · split
    · exact s.flowTransition_stored p c false
    · rfl

theorem State.foldl_stored {α : Type} {f : State → α → State} (hf : ∀ t x, (f t x).buf.stored = t.buf.stored) (l : List α) :
    (l.foldl f s).buf.stored = s.buf.stored :=
  foldl_keeps (I := fun t : State => t.buf.stored = s.buf.stored) (fun t x ht => (hf t x).trans ht) l rfl

theorem State.flowCheck_stored (p : Nat) : (s.flowCheck p).buf.stored = s.buf.stored :=
  s.foldl_stored (fun t c => t.flowClass_stored p c false) _

theorem State.refreshBuf_stored : s.refreshBuf.buf.stored = s.buf.stored := by
  unfold State.refreshBuf
  dsimp only
  split
  · exact State.foldl_stored _ State.flowCheck_stored _
  · split
    · exact State.foldl_stored _ State.flowCheck_stored _
    · rfl

end

end Sys2Proof.Machine
end

section
/-! Deep queues (R213 to R215): a copy written to Reserve Memory, and one read back. -/

namespace Sys2Proof.Machine

/-! ### What a copy that gives its reference back leaves behind (R198) -/

section
variable (s : State)

theorem State.refuseFree_buf (reason handle requester : Nat) : (s.refuseFree reason handle requester).buf = s.buf := by
  unfold State.refuseFree State.eventRec
  dsimp only
  rw [State.hand_buf, State.bump_buf]
  split <;> rfl

theorem State.freeRef_leaving (handle requester : Nat) : ∃ l, (s.freeRef handle requester).buf.leaving = s.buf.leaving ++ l := by
  have hrefused (reason : Nat) : ∃ l, (s.refuseFree reason handle requester).buf.leaving = s.buf.leaving ++ l :=
    ⟨[], by rw [s.refuseFree_buf, List.append_nil]⟩
  unfold State.freeRef
  split
  · split
    · exact hrefused 1
    · split
      · exact ⟨[], (List.append_nil _).symm⟩
      · exact ⟨_, rfl⟩
  · split
    · exact hrefused 2
    · split
      · exact hrefused 3
      · exact hrefused 0

/-- The charge of the copy stands until the next boundary, ahead of what its buffer leaves. -/
theorem State.release_leaving (c : Copy) : ∃ l,
    (s.release c).buf.leaving = s.buf.leaving ++ ⟨if c.path = 0 then some c.q else none, c.cells, [], 0, 0, 0, 0⟩ :: l := by
  obtain h | ⟨handle, h⟩ := s.release_cases c <;> rw [h]
  · exact ⟨[], rfl⟩
  · obtain ⟨l, hl⟩ := (s.setBuf (fun x => { x with
      leaving := x.leaving ++ [⟨if c.path = 0 then some c.q else none, c.cells, [], 0, 0, 0, 0⟩] })).freeRef_leaving handle 1
    exact ⟨l, hl.trans (List.append_assoc _ [_] l)⟩

/-! ### What shows a deep queue (R224) -/

theorem State.showDeep_eq (q : Nat) : ∃ m, s.showDeep q = { s with regs := m } := by
  unfold State.showDeep
  split
  · exact ⟨s.regs, rfl⟩
  · exact ⟨_, rfl⟩

/-! ### Cells (R197) -/

/-- An allocation moves the shared buffer alone. -/
theorem State.alloc_eq (n : Nat) {cells : List Nat} {u : State} (h : s.alloc n = some (cells, u)) : ∃ b, u = { s with buf := b } := by
  induction n generalizing s cells u with
  | zero =>
    cases h
    exact ⟨s.buf, rfl⟩
  | succ n ih =>
    unfold State.alloc at h
    dsimp only at h
    split at h
    · cases h
    · split at h
      · cases h
      · next cs t ht =>
        obtain ⟨b, rfl⟩ := ih _ ht
        cases h
        exact ⟨_, rfl⟩

/-! ### The copy's move -/

/-- A copy of a queue has been written to Reserve Memory. -/
def State.spilled (c : Copy) : State := s.setQsg (fun x => { x with
  queue := x.queue.map (fun y => if y = c then { y with seg := .reserve, cells := 0, buf := none } else y) })

/-- A copy of a queue stands on die again, in a buffer of its own. -/
def State.refilled (c : Copy) (need id : Nat) : State := s.setQsg (fun x => { x with
  queue := x.queue.map (fun y => if y = c then { y with seg := .onDie, cells := need, buf := some id } else y) })

/-- The next frame number names a new buffer of these cells, with one reference. -/
def State.bufFor (cells : List Nat) : State :=
  ((s.setBuf (fun b => { b with stored := b.stored ++ [⟨s.fwd.nextFrame, cells, 0, 0, 8, 0, 0⟩] })).setFwd
    (fun w => { w with nextFrame := w.nextFrame + 1 })).addRef s.fwd.nextFrame

theorem State.bufFor_getLast (cells : List Nat) : (s.bufFor cells).buf.stored.getLast? = some ⟨s.fwd.nextFrame, cells, 1, 0, 8, 0, 0⟩ := by
  have hstored : (s.bufFor cells).buf.stored = (s.buf.stored ++ [(⟨s.fwd.nextFrame, cells, 0, 0, 8, 0, 0⟩ : Stored)]).map
      (fun x : Stored => if x.id = s.fwd.nextFrame then { x with count := x.count + 1 } else x) := rfl
  rw [hstored, List.map_append, List.map_singleton, List.getLast?_concat, if_pos rfl]

theorem State.ensureBuf_new {id need : Nat} {cells : List Nat} {u : State} (hnew : s.buf.stored.any (fun b => b.id == id) = false)
    (h : s.alloc need = some (cells, u)) :
    s.ensureBuf id need = some (u.setBuf (fun b => { b with stored := b.stored ++ [⟨id, cells, 0, 0, 8, 0, 0⟩] })) := by
  rw [State.ensureBuf, if_neg (ne_true_of_eq_false hnew), h]

end

end Sys2Proof.Machine

namespace Sys2Proof.Proofs
open Sys2Proof.Machine

section
variable {s : State} {d : Fin 64} {c : Copy}

theorem exec_spillWriteDone (hl : s.live = true) (hfind : s.qsg.queue.find? (fun c => c.q == s.deepQueue d.val && c.seg == .backlog) = some c)
    (hready : c.ready = true) (hmem : s.rd F.MEM_STATUS_STATE ≠ 3) :
    exec (.spillWriteDone d) s =
      .next (s.inside (s.inside ((((s.spilled c).bump 7 10).release c).showDeep (s.deepQueue d.val)))) := by
  refine congrArg _ ((s.whenLive_true hl _).trans (congrArg s.inside ?_))
  dsimp only
  rw [hfind]
  exact s.when_true (by rw [hready, bne_iff_ne.mpr hmem]; rfl) _

theorem exec_refillReadDone {cells : List Nat} {u : State} (hl : s.live = true)
    (hfind : s.qsg.queue.find? (fun c => c.q == s.deepQueue d.val && c.seg == .reserve) = some c) (hmem : s.rd F.MEM_STATUS_STATE ≠ 3)
    (hroom : sumOf (s.qsg.queue.filter (fun x => x.q == s.deepQueue d.val && x.seg == .onDie)) (fun x => x.cells) <
      s.rd F.BUF_DEEP_REFILL_REFILL d.val)
    (htakes : s.queueTakes (s.deepQueue d.val) (ceilDiv c.frame.bytes.length 256) = true)
    (hnew : s.buf.stored.any (fun b => b.id == s.fwd.nextFrame) = false)
    (halloc : s.alloc (ceilDiv c.frame.bytes.length 256) = some (cells, u)) :
    exec (.refillReadDone d) s = .next (s.inside ((((((u.bufFor cells).refilled c (ceilDiv c.frame.bytes.length 256) s.fwd.nextFrame).bump
      7 11).showDeep (s.deepQueue d.val)).markDepth (s.deepQueue d.val)).refreshBuf)) := by
  obtain ⟨b, rfl⟩ := s.alloc_eq _ halloc
  refine congrArg _ ((s.whenLive_true hl _).trans (congrArg s.inside ?_))
  dsimp only
  rw [hfind]
  dsimp only
  rw [if_pos ⟨hmem, hroom, htakes⟩, s.ensureBuf_new hnew halloc]
  rfl

end

/-- The oldest whole copy of a backlog moves to its segment, and gives its cells back (R215). -/
theorem spillWriteDone_moves (s : State) (d : Fin 64) (c : Copy) (hl : s.live = true)
    (hcopy : s.qsg.queue.find? (fun c => c.q == s.deepQueue d.val && c.seg == .backlog) = some c ∧ c.ready = true)
    (hmem : s.rd F.MEM_STATUS_STATE ≠ 3) :
    Completes (.spillWriteDone d) s (fun t => t.qsg.queue = s.qsg.queue.map (fun y => if y = c then { y with seg := .reserve, cells := 0, buf := none } else y) ∧
    t.cntTick.get (cntKey 7 10 0) 0 = s.cntTick.get (cntKey 7 10 0) 0 + 1 ∧
    (t.buf.leaving.map (fun x => x.cells)).take (s.buf.leaving.length + 1) = s.buf.leaving.map (fun x => x.cells) ++ [c.cells]) := by
  obtain ⟨hfind, hready⟩ := hcopy
  refine ⟨_, exec_spillWriteDone hl hfind hready hmem, ?_⟩
  have hkept := State.SameStores.refl.release (fun _ hk => hk) c (s := (s.spilled c).bump 7 10) (ks := (· ∈ sideCounts))
  obtain ⟨l, hleaving⟩ := ((s.spilled c).bump 7 10).release_leaving c
  generalize ((s.spilled c).bump 7 10).release c = t at hkept hleaving
  obtain ⟨m, hshow⟩ := t.showDeep_eq (s.deepQueue d.val)
  rw [hshow]
  refine ⟨congrArg Qsg.queue hkept.qsg, (hkept.counts _ (by decide)).trans ((s.spilled c).bump_cntTick_same 7 10 0 1), ?_⟩
  have hcells : t.buf.leaving.map (fun x => x.cells) = (s.buf.leaving.map (fun x => x.cells) ++ [c.cells]) ++ l.map (fun x => x.cells) := by
    rw [hleaving, List.map_append, List.append_assoc]
    rfl
  refine (congrArg (List.take _) hcells).trans (List.take_left' ?_)
  simp

/-- The copy at the head of the segment comes back on die, in cells of its own (R215). -/
theorem refillReadDone_returns (s : State) (d : Fin 64) (c : Copy) (cells : List Nat) (u : State) (hl : s.live = true)
    (hfind : s.qsg.queue.find? (fun c => c.q == s.deepQueue d.val && c.seg == .reserve) = some c) (hmem : s.rd F.MEM_STATUS_STATE ≠ 3)
    (hroom : sumOf (s.qsg.queue.filter (fun x => x.q == s.deepQueue d.val && x.seg == .onDie)) (fun x => x.cells) < s.rd F.BUF_DEEP_REFILL_REFILL d.val)
    (htakes : s.queueTakes (s.deepQueue d.val) (ceilDiv c.frame.bytes.length 256) = true)
    (hnew : s.buf.stored.any (fun b => b.id == s.fwd.nextFrame) = false)
    (halloc : s.alloc (ceilDiv c.frame.bytes.length 256) = some (cells, u)) :
    Completes (.refillReadDone d) s (fun t => t.qsg.queue = s.qsg.queue.map (fun y => if y = c then { y with seg := .onDie, cells := ceilDiv c.frame.bytes.length 256, buf := some s.fwd.nextFrame } else y) ∧
    t.buf.stored.getLast? = some ⟨s.fwd.nextFrame, cells, 1, 0, 8, 0, 0⟩ ∧ t.fwd.nextFrame = s.fwd.nextFrame + 1 ∧
    t.cntTick.get (cntKey 7 11 0) 0 = s.cntTick.get (cntKey 7 11 0) 0 + 1) := by
  refine ⟨_, exec_refillReadDone hl hfind hmem hroom htakes hnew halloc, ?_⟩
  obtain ⟨b, rfl⟩ := s.alloc_eq _ halloc
  have hlast := State.bufFor_getLast { s with buf := b } cells
  obtain ⟨m, hshow⟩ := (((State.bufFor { s with buf := b } cells).refilled c (ceilDiv c.frame.bytes.length 256) s.fwd.nextFrame).bump
    7 11).showDeep_eq (s.deepQueue d.val)
  rw [hshow]
  generalize hx : State.markDepth _ _ = t
  have hkept := State.SameStores.refl.refreshBuf (fun _ hk => hk) (s := t) (ks := (· ∈ sideCounts))
  refine ⟨(congrArg Qsg.queue hkept.qsg).trans ?_, (congrArg List.getLast? t.refreshBuf_stored).trans ?_, (congrArg Fwd.nextFrame hkept.fwd).trans ?_,
    (hkept.counts _ (by decide)).trans ?_⟩ <;> subst hx
  · rfl
  · exact hlast
  · rfl
  · exact State.bump_cntTick_same _ 7 11 0 1

/-- Settles O18: the tails by `RegD.IsTail.fieldWrite_own` and `RegD.IsTail.fieldWrite_other`, the move to Reserve Memory by what
`State.release` leaves, the way back by what `State.alloc` and `State.refreshBuf` leave. -/
theorem ringsAndDeepQueuesMove : Obligations.RingsAndDeepQueuesMove :=
  ⟨txTailWrite_own, rxTailWrite_own, txTailWrite_other, rxTailWrite_other, spillWriteDone_moves, refillReadDone_returns⟩

end Sys2Proof.Proofs
end

section
/-! Copies that have crossed to an internal port (R131 to R133): the receive ring of a seat, and recirculation. -/

namespace Sys2Proof.Machine

/-! ### What the end of a copy moves beside the counters -/

/-- The registers that a copy's record, its gate overrun and the buffer it gives back may show in. -/
def copyFields : List (Fld × Nat) :=
  [(F.EVR_INT_STATUS_GAP, 0), (F.QSG_INT_STATUS_GATE_OVERRUN, 0), (F.BUF_INT_STATUS_DISCIPLINE, 0), (F.BUF_DISC_LOG_HANDLE, 0),
   (F.BUF_DISC_LOG_REQUESTER, 0), (F.BUF_DISC_LOG_REASON, 0), (F.BUF_DISC_LOG_VALID, 0), (F.BUF_DISC_LOG_TICK_LO_VALUE, 0),
   (F.BUF_DISC_LOG_TICK_HI_VALUE, 0)]

theorem copyFields_rxHead : ∀ seat : Fin 4, ∀ x ∈ copyFields, x.1.key x.2 ≠ F.BUF_SEAT_RING_RX_HEAD_VALUE.key seat.val := by decide

section
variable {s t : State}

theorem RegsBut.hand_copy (h : RegsBut s t copyFields) (r : Record) : RegsBut s (t.hand r) copyFields :=
  h.trans ((RegsBut.hand t r).mono (by simp [copyFields]))

theorem RegsBut.frameRecord (h : RegsBut s t copyFields) (c : Copy) (fate reason : Nat) (tx : Option Tx) :
    RegsBut s (t.frameRecord c fate reason tx) copyFields := by
  obtain e | ⟨r, e⟩ := t.frameRecord_cases c fate reason tx <;> rw [e]
  · exact h
  · exact h.hand_copy r

theorem RegsBut.refuseFree (h : RegsBut s t copyFields) (reason handle requester : Nat) :
    RegsBut s (t.refuseFree reason handle requester) copyFields := by
  have hraised : RegsBut s ((t.raiseFault 31 1 1 reason handle).raiseBits F.BUF_INT_STATUS_DISCIPLINE 0 1) copyFields :=
    (h.congr (u := t.raiseFault 31 1 1 reason handle) rfl).raiseBits 1 (by simp [copyFields])
  unfold State.refuseFree State.eventRec
  dsimp only
  refine RegsBut.hand_copy (RegsBut.congr ?_ (State.bump_regs _ _ _ _ _)) _
  split
  · exact hraised
  · exact ((((hraised.wr _ (by simp [copyFields])).wr _ (by simp [copyFields])).wr _ (by simp [copyFields])).raiseBits _
      (by simp [copyFields])).wr2 _ (by simp [copyFields]) (by simp [copyFields])

theorem RegsBut.freeRef (h : RegsBut s t copyFields) (handle requester : Nat) : RegsBut s (t.freeRef handle requester) copyFields := by
  unfold State.freeRef
  split
  · refine RegsBut.ite (h.refuseFree 1 _ _) (RegsBut.ite ?_ ?_) <;> exact h.congr rfl
  · exact RegsBut.ite (h.refuseFree 2 _ _) (RegsBut.ite (h.refuseFree 3 _ _) (h.refuseFree 0 _ _))

theorem RegsBut.release (h : RegsBut s t copyFields) (c : Copy) : RegsBut s (t.release c) copyFields := by
  obtain e | ⟨handle, e⟩ := t.release_cases c <;> rw [e]
  · exact h.congr rfl
  · refine RegsBut.freeRef (h.congr ?_) _ _
    rfl

end

/-! ### A copy that has left (R409) -/

/-- t is s but for its counters. -/
def State.Counted (s t : State) : Prop := ∃ m, t = { s with cntTick := m }

theorem State.Counted.bump {s t : State} (h : s.Counted t) (g ev n by' : Nat) : s.Counted (t.bump g ev n by') := by
  obtain ⟨m, rfl⟩ := h
  exact ⟨_, rfl⟩

theorem State.Counted.ite {s t u : State} {c : Prop} [Decidable c] (h : s.Counted t) (h' : s.Counted u) : s.Counted (if c then t else u) := by
  split
  · exact h
  · exact h'

section
variable (s : State) (x : Tx) (c : Copy)

/-- A gate overrun is told of, or there was none (R246). -/
theorem State.noteGateOverrun_cases :
    s.noteGateOverrun x c = s ∨ ∃ r, s.noteGateOverrun x c = ((s.bump 8 5).raiseBits F.QSG_INT_STATUS_GATE_OVERRUN 0 1).hand r := by
  unfold State.noteGateOverrun
  split
  · exact .inl rfl
  · exact .inr ⟨_, rfl⟩

/-- A copy that has left is counted and recorded, and gives its reference back. -/
theorem State.sent_eq : ∃ t fate reason, s.Counted t ∧
    s.sent x c = ((t.noteGateOverrun x c).frameRecord c fate reason (some x)).release c := by
  have hbase : s.Counted s := ⟨s.cntTick, rfl⟩
  refine ⟨_, _, _, ?_, rfl⟩
  refine State.Counted.ite ?_ (State.Counted.bump ?_ _ _ _ _) <;> refine State.Counted.ite (State.Counted.bump ?_ _ _ _ _) ?_ <;>
    refine State.Counted.ite (State.Counted.bump (State.Counted.bump ?_ _ _ _ _) _ _ _ _) ?_ <;>
    refine State.Counted.ite (State.Counted.bump ?_ _ _ _ _) ?_ <;>
    exact (((hbase.bump _ _ _ _).bump _ _ _ _).bump _ _ _ _).bump _ _ _ _

theorem State.SameStores.sent : s.SameStores (s.sent x c) (fun _ => True) := by
  have hall : ∀ k ∈ sideCounts, (fun _ : Nat => True) k := fun _ _ => trivial
  obtain ⟨_, fate, reason, ⟨m, rfl⟩, h⟩ := s.sent_eq x c
  have hcount : s.SameStores ({ s with cntTick := m } : State) (fun _ => True) := ⟨rfl, rfl, rfl, fun _ hk => absurd trivial hk⟩
  rw [h]
  refine State.SameStores.release hall (State.SameStores.frameRecord hall ?_ _ _ _ _) _
  obtain e | ⟨r, e⟩ := State.noteGateOverrun_cases { s with cntTick := m } x c <;> rw [e]
  · exact hcount
  · exact ((hcount.bump 1 trivial).raiseBits _ _ _).hand hall r

theorem RegsBut.sent : RegsBut s (s.sent x c) copyFields := by
  obtain ⟨_, fate, reason, ⟨m, rfl⟩, h⟩ := s.sent_eq x c
  have hcount : RegsBut s ({ s with cntTick := m } : State) copyFields := RegsBut.of_regs rfl
  rw [h]
  refine RegsBut.release (RegsBut.frameRecord ?_ _ _ _ _) _
  obtain e | ⟨r, e⟩ := State.noteGateOverrun_cases { s with cntTick := m } x c <;> rw [e]
  · exact hcount
  · exact ((hcount.congr (State.bump_regs _ _ _ _ _)).raiseBits 1 (by simp [copyFields])).hand_copy r

end

/-! ### The end of a transmission -/

section
variable (s : State) {x : Tx} {c : Copy}

/-- A transmission has ended. -/
def State.unsent (x : Tx) : State := s.setQsg (fun q => { q with txs := q.txs.erase x })

variable {s}

theorem State.transmitDone_copy {p : Nat} (hp : p ≠ 517) (hx : s.endedTx p = some x) (hc : x.copy = some c)
    (hcell : s.badCellOf c none = none) : s.transmitDone p none = (s.unsent x).complete x c := by
  have hcell : (s.unsent x).badCellOf c none = none := hcell
  have hcsma (t : State) : t.setCsma (fun c => if p = 517 then { c with carrier := t.now, collisions := 0 } else c) = t := by
    simp only [hp, if_false]
    rfl
  unfold State.transmitDone
  rw [hx]
  dsimp only
  rw [hcsma, hc]
  dsimp only
  rw [show (s.setQsg fun q => { q with txs := q.txs.erase x }) = s.unsent x from rfl, hcell]

/-! ### The receive ring of a seat (R131, R132) -/

/-- The pieces in which a copy goes into the receive buffers of a seat. -/
def State.ringParts (s : State) (seat : Nat) (c : Copy) (out : Bytes) : List Bytes :=
  chunks (max 1 (s.rd F.BUF_SEAT_RING_RX_BUF_SIZE_VALUE seat)) (out.length + 33) (rxMeta c ++ out)

/-- The writes into host memory that deliver it. -/
def State.ringWrites (s : State) (seat : Nat) (c : Copy) (out : Bytes) : List HostWrite :=
  (List.range (s.ringParts seat c out).length).map (fun i =>
    { seat := seat, rx := true
      index := (s.rd F.BUF_SEAT_RING_RX_HEAD_VALUE seat + i) % 2 ^ s.rd F.BUF_SEAT_RING_CTRL_RX_LOG_SIZE seat
      length := ((s.ringParts seat c out).getD i []).length
      flags := if i + 1 < (s.ringParts seat c out).length then 4 else 0, queue := c.queue, data := (s.ringParts seat c out).getD i [] })

/-- The copy in the ring: the writes are made, and RX_HEAD has moved past its buffers. -/
def State.inRing (s : State) (seat : Nat) (c : Copy) (out : Bytes) : State :=
  (s.setFwd (fun w => { w with hostOut := s.ringWrites seat c out })).wr F.BUF_SEAT_RING_RX_HEAD_VALUE seat
    ((s.rd F.BUF_SEAT_RING_RX_HEAD_VALUE seat + (s.ringParts seat c out).length) % 2 ^ s.rd F.BUF_SEAT_RING_CTRL_RX_LOG_SIZE seat)

theorem State.inRing_leaves (seat : Nat) (c : Copy) (out : Bytes) :
    (s.inRing seat c out).fwd.hostOut = s.ringWrites seat c out ∧ (s.inRing seat c out).qsg = s.qsg ∧
      (s.inRing seat c out).tim = s.tim := by
  have hset (w : List HostWrite) : (s.setFwd fun x => { x with hostOut := w }).fwd.hostOut = w := rfl
  rw [State.inRing, State.wr_fwd, State.wr_qsg, State.wr_tim]
  exact ⟨hset _, rfl, rfl⟩

theorem map_getD_range {α : Type} (l : List α) (d : α) : (List.range l.length).map (fun i => l.getD i d) = l := by
  refine List.ext_getElem (by simp) fun i h h' => ?_
  simp [List.getElem?_eq_getElem h']

theorem State.ringWrites_data (seat : Nat) (c : Copy) (out : Bytes) :
    (s.ringWrites seat c out).map (fun w => w.data) = s.ringParts seat c out := by
  rw [State.ringWrites, List.map_map]
  exact map_getD_range _ _

theorem State.ringWrites_seat (seat : Nat) (c : Copy) (out : Bytes) :
    (s.ringWrites seat c out).all (fun w => w.seat == seat && w.rx) = true := by
  simp [State.ringWrites]

theorem State.ringDeliver_room {seat : Nat} {out : Bytes} (hon : s.on F.BUF_SEAT_RING_CTRL_RX_EN seat = true)
    (hroom : (s.ringParts seat c out).length ≤ (s.rd F.BUF_SEAT_RING_RX_TAIL_VALUE seat + 2 ^ s.rd F.BUF_SEAT_RING_CTRL_RX_LOG_SIZE seat -
      s.rd F.BUF_SEAT_RING_RX_HEAD_VALUE seat % 2 ^ s.rd F.BUF_SEAT_RING_CTRL_RX_LOG_SIZE seat) %
        2 ^ s.rd F.BUF_SEAT_RING_CTRL_RX_LOG_SIZE seat) : s.ringDeliver seat c out = some (s.inRing seat c out) := by
  have hshut : ¬ (!s.on F.BUF_SEAT_RING_CTRL_RX_EN seat || decide ((s.rd F.BUF_SEAT_RING_RX_TAIL_VALUE seat +
      2 ^ s.rd F.BUF_SEAT_RING_CTRL_RX_LOG_SIZE seat - s.rd F.BUF_SEAT_RING_RX_HEAD_VALUE seat % 2 ^ s.rd F.BUF_SEAT_RING_CTRL_RX_LOG_SIZE seat) %
        2 ^ s.rd F.BUF_SEAT_RING_CTRL_RX_LOG_SIZE seat < (s.ringParts seat c out).length)) = true := by
    rw [hon, decide_eq_false (Nat.not_lt.mpr hroom)]
    exact Bool.false_ne_true
  unfold State.ringDeliver
  exact if_neg hshut

theorem State.complete_seat {seat : Fin 4} {t : State} (hp : x.port = 512 + seat.val) (h : s.ringDeliver seat.val c x.out = some t) :
    s.complete x c = t.sent x c := by
  have hport : 512 ≤ x.port ∧ x.port < 516 := by have := seat.isLt; omega
  have hseat : x.port - 512 = seat.val := by omega
  rw [State.complete, if_pos hport, hseat, h]

/-! ### Recirculation (R133) -/

/-- A frame as it re-enters: the newest, of port 516 and of the current generation, with one pass more. -/
def State.againFrame (s : State) (c : Copy) (out : Bytes) : Frame :=
  { c.frame with
    id := s.fwd.nextFrame, port := 516, gen := s.rd F.SYS_CFG_GEN_CURRENT, bytes := out, stripLen := 0,
    passes := c.frame.passes + 1, det := 0, endTick := 0, saf := false, replayed := false, seen := false }

/-- The copy waits for its pipeline again. -/
def State.reentered (s : State) (c : Copy) (out : Bytes) : State :=
  (s.setFwd (fun w => { w with nextFrame := w.nextFrame + 1, fifo := w.fifo ++ [s.againFrame c out] })).showFifo 516

theorem State.complete_again (hp : x.port = 516) (h : c.frame.passes < s.rd F.BUF_RECIRC_CTRL_MAX_PASSES) :
    s.complete x c = (s.reentered c x.out).sent x c := by
  have hport : ¬ (512 ≤ x.port ∧ x.port < 516) := by omega
  have hagain : s.reenter c x.out = some (s.reentered c x.out) := if_neg (Nat.not_le.mpr h)
  rw [State.complete, if_neg hport, if_pos hp, hagain]

theorem State.complete_limit (hp : x.port = 516) (h : s.rd F.BUF_RECIRC_CTRL_MAX_PASSES ≤ c.frame.passes) :
    s.complete x c = s.dropCopy c 13 := by
  have hport : ¬ (512 ≤ x.port ∧ x.port < 516) := by omega
  have hlimit : s.reenter c x.out = none := if_pos h
  rw [State.complete, if_neg hport, if_pos hp, hlimit]

/-- A drop at the pass limit: one counter, the record, and the reference given back. -/
theorem State.dropCopy_limit (s : State) (hsample : c.sample = false) (he : c.egr = 516) :
    s.dropCopy c 13 = ((s.bump 2 13 516).frameRecord c 4 13).release c := by
  have hcount (t : State) (n : Nat) : t.bumpDrop 13 n = t.bump 2 13 n := by simp [State.bumpDrop, dropGroup]
  have hflag : dropFlag 13 = none := by simp [dropFlag]
  simp [State.dropCopy, State.noteDrop, hcount, hflag, hsample, he]

end

end Sys2Proof.Machine

namespace Sys2Proof.Proofs
open Sys2Proof.Machine

theorem exec_recircReentry {s : State} {x : Tx} {c : Copy} (hl : s.live = true) (hcell : s.badCellOf c none = none)
    (hx : s.endedTx 516 = some x) (hc : x.copy = some c) : exec .recircReentry s = .next (s.inside ((s.unsent x).complete x c)) :=
  congrArg _ ((s.whenLive_true hl _).trans (congrArg s.inside (State.transmitDone_copy (by decide) hx hc hcell)))

/-- A copy for a seat goes into free receive buffers with its metadata, and RX_HEAD moves past them (R131, R132). -/
theorem seatRxDeliver_writes (s : State) (seat : Fin 4) (x : Tx) (c : Copy) (hl : s.live = true)
    (hon : s.on F.CMD_SEAT_STATUS_LINK_UP seat.val = true ∧ s.on F.BUF_SEAT_RING_CTRL_RX_EN seat.val = true)
    (hcell : s.badCellOf c none = none) (htx : s.endedTx (512 + seat.val) = some x ∧ x.port = 512 + seat.val ∧ x.copy = some c)
    (hroom : (chunks (max 1 (s.rd F.BUF_SEAT_RING_RX_BUF_SIZE_VALUE seat.val)) (x.out.length + 33) (rxMeta c ++ x.out)).length ≤
      (s.rd F.BUF_SEAT_RING_RX_TAIL_VALUE seat.val + 2 ^ s.rd F.BUF_SEAT_RING_CTRL_RX_LOG_SIZE seat.val -
        s.rd F.BUF_SEAT_RING_RX_HEAD_VALUE seat.val % 2 ^ s.rd F.BUF_SEAT_RING_CTRL_RX_LOG_SIZE seat.val) %
        2 ^ s.rd F.BUF_SEAT_RING_CTRL_RX_LOG_SIZE seat.val) :
    let parts := chunks (max 1 (s.rd F.BUF_SEAT_RING_RX_BUF_SIZE_VALUE seat.val)) (x.out.length + 33) (rxMeta c ++ x.out)
    Completes (.seatRxDeliver seat) s (fun t => t.fwd.hostOut.map (fun w => w.data) = parts ∧ t.fwd.hostOut.all (fun w => w.seat == seat.val && w.rx) = true ∧
    t.rd F.BUF_SEAT_RING_RX_HEAD_VALUE seat.val =
      (s.rd F.BUF_SEAT_RING_RX_HEAD_VALUE seat.val + parts.length) % 2 ^ s.rd F.BUF_SEAT_RING_CTRL_RX_LOG_SIZE seat.val % 2 ^ 14 ∧
    t.qsg.txs = s.qsg.txs.erase x ∧ t.tim = s.tim) := by
  intro parts
  obtain ⟨hup, hen⟩ := hon
  obtain ⟨hx, hport, hc⟩ := htx
  have hp : 512 + seat.val ≠ 517 := by have := seat.isLt; omega
  have hdone : s.transmitDone (512 + seat.val) none = ((s.unsent x).inRing seat.val c x.out).sent x c :=
    (State.transmitDone_copy hp hx hc hcell).trans
      (State.complete_seat hport (State.ringDeliver_room (s := s.unsent x) hen hroom))
  have hstep : exec (.seatRxDeliver seat) s = .next (s.inside (((s.unsent x).inRing seat.val c x.out).sent x c)) :=
    congrArg _ ((s.when_true (by rw [hl, hup]; rfl) _).trans (congrArg s.inside hdone))
  obtain ⟨hfwd, hqsg, htim, -⟩ := State.SameStores.sent ((s.unsent x).inRing seat.val c x.out) x c
  have hregs := RegsBut.sent ((s.unsent x).inRing seat.val c x.out) x c F.BUF_SEAT_RING_RX_HEAD_VALUE seat.val (copyFields_rxHead seat)
  obtain ⟨hring, hringQsg, hringTim⟩ := State.inRing_leaves (s := s.unsent x) seat.val c x.out
  have hout := (congrArg Fwd.hostOut hfwd).trans hring
  rw [hringQsg] at hqsg
  rw [hringTim] at htim
  refine ⟨_, hstep, ?_⟩
  generalize ((s.unsent x).inRing seat.val c x.out).sent x c = t at hout hqsg htim hregs
  rw [State.inside_fwd, hout]
  exact ⟨State.ringWrites_data (s := s.unsent x) seat.val c x.out, State.ringWrites_seat (s := s.unsent x) seat.val c x.out,
    hregs.trans (State.rd_wr_same _ _ _ _), congrArg Qsg.txs hqsg, htim⟩

/-- A copy with passes left re-enters as the newest frame of port 516 (R133). -/
theorem recircReentry_again (s : State) (x : Tx) (c : Copy) (hl : s.live = true) (hcell : s.badCellOf c none = none)
    (htx : s.endedTx 516 = some x ∧ x.port = 516 ∧ x.copy = some c) (hpasses : c.frame.passes < s.rd F.BUF_RECIRC_CTRL_MAX_PASSES) :
    Completes (.recircReentry) s (fun t => (t.fwd.fifo.getLast?).map (fun f => (f.id, f.port, f.gen)) = some (s.fwd.nextFrame, 516, s.rd F.SYS_CFG_GEN_CURRENT) ∧
    (t.fwd.fifo.getLast?).map (fun f => (f.bytes, f.passes, f.raw, f.ing)) = some (x.out, c.frame.passes + 1, c.frame.raw, c.frame.ing) ∧
    t.fwd.fifo.length = s.fwd.fifo.length + 1 ∧ t.qsg.txs = s.qsg.txs.erase x ∧ t.tim = s.tim) := by
  obtain ⟨hx, hport, hc⟩ := htx
  have hstep := exec_recircReentry hl hcell hx hc
  rw [State.complete_again (s := s.unsent x) hport hpasses] at hstep
  obtain ⟨hfwd, hqsg, htim, -⟩ := State.SameStores.sent ((s.unsent x).reentered c x.out) x c
  have hfifo : (((s.unsent x).reentered c x.out).sent x c).fwd.fifo = s.fwd.fifo ++ [(s.unsent x).againFrame c x.out] := congrArg Fwd.fifo hfwd
  have hlast := (congrArg List.getLast? hfifo).trans List.getLast?_concat
  exact ⟨_, hstep, congrArg (Option.map _) hlast, congrArg (Option.map _) hlast, (congrArg List.length hfifo).trans List.length_append,
    congrArg Qsg.txs hqsg, htim⟩

/-- A copy at the pass limit is dropped with reason 13 (R133). -/
theorem recircReentry_limit (s : State) (x : Tx) (c : Copy) (hl : s.live = true) (hcell : s.badCellOf c none = none)
    (htx : s.endedTx 516 = some x ∧ x.port = 516 ∧ x.copy = some c ∧ c.egr = 516 ∧ c.sample = false)
    (hpasses : s.rd F.BUF_RECIRC_CTRL_MAX_PASSES ≤ c.frame.passes) :
    Completes (.recircReentry) s (fun t => t.fwd.fifo = s.fwd.fifo ∧ t.cntTick.get (cntKey 2 13 516) 0 = s.cntTick.get (cntKey 2 13 516) 0 + 1 ∧
    t.qsg.txs = s.qsg.txs.erase x ∧ t.tim = s.tim) := by
  obtain ⟨hx, hport, hc, hegr, hsample⟩ := htx
  have hstep := exec_recircReentry hl hcell hx hc
  rw [State.complete_limit (s := s.unsent x) hport hpasses, State.dropCopy_limit _ hsample hegr] at hstep
  have hkept : ((s.unsent x).bump 2 13 516).SameStores (((s.unsent x).bump 2 13 516).frameRecord c 4 13 |>.release c) (· ∈ sideCounts) :=
    (State.SameStores.refl.frameRecord (fun _ hk => hk) c 4 13 none).release (fun _ hk => hk) c
  obtain ⟨hfwd, hqsg, htim, hcounts⟩ := hkept
  exact ⟨_, hstep, congrArg Fwd.fifo hfwd, (hcounts _ (by decide)).trans ((s.unsent x).bump_cntTick_same 2 13 516 1),
    congrArg Qsg.txs hqsg, htim⟩

end Sys2Proof.Proofs
end

section
/-! A copy enters the egress PCS (R53, R54), and the held copy of a port does so at its own entry (R264, R266). -/

namespace Sys2Proof.Machine

/-! ### The start of a copy -/

/-- t is s but for the one-per-frame captures, the tick of the last deterministic copy, and the counters that `ks` names. -/
structure State.Readied (s t : State) (ks : Nat → Prop) : Prop where
  qsg : ∃ r l, t.qsg = { s.qsg with recorded := r, lastDet := l }
  regs : t.regs = s.regs
  tim : t.tim = s.tim
  counts : ∀ k, ¬ ks k → t.cntTick.get k 0 = s.cntTick.get k 0

namespace State.Readied
variable {s t u : State} {ks : Nat → Prop}

theorem refl : s.Readied s ks := ⟨⟨_, _, rfl⟩, rfl, rfl, fun _ _ => rfl⟩

theorem ite {c : Prop} [Decidable c] (h : s.Readied t ks) (h' : s.Readied u ks) : s.Readied (if c then t else u) ks := by
  split
  · exact h
  · exact h'

theorem bump (h : s.Readied t ks) {g ev n : Nat} (hk : ks (cntKey g ev n)) : s.Readied (t.bump g ev n) ks :=
  ⟨h.qsg, h.regs, h.tim, fun k hne => (t.bump_cntTick_other fun e => hne (Eq.subst e hk)).trans (h.counts k hne)⟩

theorem recorded (h : s.Readied t ks) (r : List Nat → List Nat) : s.Readied (t.setQsg fun q => { q with recorded := r q.recorded }) ks := by
  obtain ⟨⟨_, _, hqsg⟩, hregs, htim, hcounts⟩ := h
  exact ⟨⟨_, _, congrArg (fun q : Qsg => { q with recorded := r q.recorded }) hqsg⟩, hregs, htim, hcounts⟩

theorem lastDet (h : s.Readied t ks) (l : Nat) : s.Readied (t.setQsg fun q => { q with lastDet := l }) ks := by
  obtain ⟨⟨_, _, hqsg⟩, hregs, htim, hcounts⟩ := h
  exact ⟨⟨_, _, congrArg (fun q : Qsg => { q with lastDet := l }) hqsg⟩, hregs, htim, hcounts⟩

end State.Readied

/-- What a transmission says of the copy that it began with. -/
structure Tx.Carries (x : Tx) (c : Copy) (entry toBall : Int) : Prop where
  port : x.port = c.egr
  copy : ∃ b, x.copy = some { c with second := b }
  start : x.start = (Int.fdiv entry 320).toNat
  ball : x.ball = (Int.fdiv (entry + toBall) 320).toNat
  raw : x.raw = stampOf (subTickOf entry + toBall)

/-- The counters of a tag that cannot be written and of a cut-through start at a port. -/
def startCounts (p : Nat) : List Nat := [cntKey 15 2 0, cntKey 1 6 p]

section
variable (s : State) (c : Copy) (entry toBall : Int) (held : Option Held)

theorem State.startTx_eq : ∃ t x, s.startTx c entry toBall held = t.setQsg (fun q => { q with txs := q.txs ++ [x] }) ∧
    x.Carries c entry toBall ∧ s.Readied t (· ∈ startCounts c.egr) := by
  refine ⟨_, _, rfl, ⟨rfl, ⟨_, rfl⟩, rfl, rfl, rfl⟩, ?_⟩
  refine .ite ?_ (.lastDet ?_ _) <;> refine .ite (.bump ?_ (by simp [startCounts])) ?_ <;>
    refine .ite (.bump ?_ (by simp [startCounts])) ?_ <;> exact .ite (State.Readied.refl.recorded _) .refl

/-- A copy that enters the PCS is the newest transmission; beside it only the one-per-frame captures, the tick of the last deterministic
copy and two counters move. -/
theorem State.startTx_leaves : ∃ x, x.Carries c entry toBall ∧
    (∃ r l, (s.startTx c entry toBall held).qsg = { s.qsg with recorded := r, lastDet := l, txs := s.qsg.txs ++ [x] }) ∧
    (s.startTx c entry toBall held).regs = s.regs ∧ (s.startTx c entry toBall held).tim = s.tim ∧
    ∀ k, k ∉ startCounts c.egr → (s.startTx c entry toBall held).cntTick.get k 0 = s.cntTick.get k 0 := by
  obtain ⟨t, x, hstart, hx, ⟨r, l, hqsg⟩, hregs, htim, hcounts⟩ := s.startTx_eq c entry toBall held
  rw [hstart]
  exact ⟨x, hx, ⟨r, l, congrArg (fun q : Qsg => { q with txs := q.txs ++ [x] }) hqsg⟩, hregs, htim, hcounts⟩

end

/-! ### The one held copy of a port -/

theorem Copy.before_self (c : Copy) : c.before c = false := by simp [Copy.before]

theorem heldFirst_singleton (h : Held) : heldFirst [h] = some h := by simp [heldFirst, Copy.before_self]

section
variable {s : State} {h : Held}

theorem State.heldOf_singleton {p : Nat} (hheld : s.qsg.held = [h]) (hp : h.copy.egr = p) : s.heldOf p = [h] := by
  simp [State.heldOf, hheld, hp]

/-- Nothing keeps a held copy from its own entry: the path, its frame and its port are ready for it. -/
theorem State.heldEntry_own {free : Nat} (hnow : (320 * (s.now + 16) : Nat) ≤ h.entry) (hpath : h.copy.admitted + s.pathTicks 40 ≤ s.now + 16)
    (hstored : s.storedEntry h.copy.frame ≤ s.now + 16) (hfree : free ≤ s.now) : s.heldEntry h free = h.entry := by
  unfold State.heldEntry
  omega

theorem State.tooLate_onTime (hon : h.target = h.entry + h.toBall) : s.tooLate h (h.entry + h.toBall) = false := by
  simp [State.tooLate, hon]

theorem State.sweepDue_onTime {p : Nat} (hof : s.heldOf p = [h]) (hentry : s.heldEntry h (s.portFreeAt p) = h.entry)
    (hon : h.target = h.entry + h.toBall) : s.sweepDue p = s := by
  have horder : heldOrder 1 [h] = [h] := by simp [heldOrder, heldFirst_singleton]
  simp [State.sweepDue, State.sweepHeld, hof, horder, State.lateHeld, hentry, State.tooLate_onTime hon]

theorem startCounts_onTime {p : Nat} (hp : p < 512) : cntKey 9 1 p ∉ startCounts p := by
  simp only [startCounts, cntKey, List.mem_cons, List.not_mem_nil, or_false]
  omega

/-- A held copy that leaves on time is no longer held, and counted for its port and its profile. -/
def State.heldCounted (s : State) (h : Held) : State := (((s.unhold h).markBehind h h.entry).bump 9 1 h.copy.egr).bump 9 2 h.k

/-- It enters the PCS at its entry. -/
def State.heldStarted (s : State) (p : Nat) (h : Held) : State :=
  ((s.heldCounted h).startTx { h.copy with late := false, lateCause := 0 } h.entry h.toBall (some h)).showHeld p h.k

theorem State.heldCounted_qsg (hheld : s.qsg.held = [h]) : (s.heldCounted h).qsg = { s.qsg with held := [] } := by
  simp [State.heldCounted, State.markBehind, State.unhold, State.setQsg, hheld]

theorem State.heldCounted_port (hp : h.copy.egr < 512) : (s.heldCounted h).cntTick.get (cntKey 9 1 h.copy.egr) 0 = s.cntTick.get (cntKey 9 1 h.copy.egr) 0 + 1 := by
  have hkey : cntKey 9 2 h.k ≠ cntKey 9 1 h.copy.egr := by unfold cntKey; omega
  exact (State.bump_cntTick_other _ hkey).trans (((s.unhold h).markBehind h h.entry).bump_cntTick_same 9 1 h.copy.egr 1)

theorem State.startHeld_onTime {p var : Nat} {met : Option Nat} (hof : s.heldOf p = [h]) (hdue : h.due = s.now)
    (hentry : s.heldEntry h (s.portFreeAt p) = h.entry) (hfree : s.portFreeAt p ≤ s.now) (hended : h.copy.frame.ended = true)
    (hon : h.target = h.entry + h.toBall) (hedit : s.editDown h.copy.group = false) (hcell : s.badCellOf h.copy met = none) :
    s.startHeld p var met = s.heldStarted p h := by
  have hhead : s.heldHead p = some h := (congrArg heldFirst hof).trans (heldFirst_singleton h)
  have hwait : ¬ (s.now + 16 < s.portFreeAt p ∨ (!h.copy.frame.ended) = true) := by rw [hended]; simp; omega
  have hlatest : max h.entry (h.target - h.toBall) = h.entry := by omega
  have hlate : decide (h.target < h.entry + h.toBall) = false := decide_eq_false (by omega)
  unfold State.startHeld
  rw [hhead]
  simp only [hdue, Nat.lt_irrefl, hentry, hlatest, State.tooLate_onTime hon, hwait, hedit, hcell, hlate, if_true, if_false, Bool.false_eq_true,
    Bool.not_false]
  rfl

theorem State.startDet_held {p var : Nat} {met : Option Nat} (hof : s.heldOf p = [h]) (hdue : h.due = s.now) (hinst : s.instanceOf p = none) :
    s.startDet p var met = some (s.startHeld p var met) := by
  have hhead : s.heldHead p = some h := (congrArg heldFirst hof).trans (heldFirst_singleton h)
  simp [State.startDet, hinst, hhead, hdue]

end

end Sys2Proof.Machine

namespace Sys2Proof.Proofs
open Sys2Proof.Machine

/-- The one held copy of a port enters the PCS 16 ticks before its entry comes, and crosses at its target (R264, R266). -/
theorem heldRelease_onTime (s : State) (p : Fin 512) (h : Held) (var : Nat) (met : Option Nat) (hl : s.live = true)
    (hport : s.portUp p.val = true ∧ s.resting p.val = false ∧ s.editDown h.copy.group = false ∧ s.badCellOf h.copy met = none)
    (hheld : s.qsg.held = [h] ∧ h.copy.egr = p.val ∧ s.instanceOf p.val = none)
    (hdue : (Int.fdiv h.entry 320).toNat - 16 = s.now ∧ (320 * (s.now + 16) : Nat) ≤ h.entry)
    (hpath : h.copy.admitted + s.pathTicks 40 ≤ s.now + 16 ∧ s.portFreeAt p.val ≤ s.now)
    (hframe : h.copy.frame.ended = true ∧ s.storedEntry h.copy.frame ≤ s.now + 16) (hon : h.target = h.entry + h.toBall) :
    Completes (.heldRelease ⟨p, var, met⟩) s (fun t => t.qsg.held = [] ∧ t.qsg.txs.length = s.qsg.txs.length + 1 ∧
    (t.qsg.txs.getLast?).map (fun x => (x.port, x.raw, x.ball)) = some (p.val, stampOf (subTickOf h.entry + h.toBall), (Int.fdiv h.target 320).toNat) ∧
    (t.qsg.txs.getLast?).map (fun x => x.copy.map (fun c => (c.frame, c.late))) = some (some (h.copy.frame, false)) ∧
    t.cntTick.get (cntKey 9 1 p.val) 0 = s.cntTick.get (cntKey 9 1 p.val) 0 + 1 ∧ t.qsg.queue = s.qsg.queue ∧ t.tim = s.tim) := by
  obtain ⟨hup, hrest, hedit, hcell⟩ := hport
  obtain ⟨hone, hegr, hinst⟩ := hheld
  obtain ⟨hdue, hnow⟩ := hdue
  obtain ⟨hpath, hfree⟩ := hpath
  obtain ⟨hended, hstored⟩ := hframe
  have hof := State.heldOf_singleton hone hegr
  have hentry := State.heldEntry_own hnow hpath hstored hfree
  have hstarts : ((s.sweepDue p.val).startDet p.val var met).getD (s.sweepDue p.val) = s.heldStarted p.val h := by
    rw [State.sweepDue_onTime hof hentry hon, State.startDet_held hof hdue hinst,
      State.startHeld_onTime hof hdue hentry hfree hended hon hedit hcell, Option.getD_some]
  have hstep : exec (.heldRelease ⟨p, var, met⟩) s = .next (s.inside (s.heldStarted p.val h)) :=
    congrArg _ ((s.when_true (by rw [hl, hup, hrest]; rfl) _).trans (congrArg s.inside hstarts))
  obtain ⟨x, ⟨hxport, ⟨b, hxcopy⟩, -, hxball, hxraw⟩, ⟨_, _, hqsg⟩, -, htim, hcounts⟩ :=
    (s.heldCounted h).startTx_leaves { h.copy with late := false, lateCause := 0 } h.entry h.toBall (some h)
  rw [State.heldCounted_qsg hone] at hqsg
  have htxs : (s.heldStarted p.val h).qsg.txs = s.qsg.txs ++ [x] := congrArg Qsg.txs hqsg
  have hlast := (congrArg List.getLast? htxs).trans List.getLast?_concat
  have hcount : (s.heldStarted p.val h).cntTick.get (cntKey 9 1 p.val) 0 = s.cntTick.get (cntKey 9 1 p.val) 0 + 1 := by
    have hp : h.copy.egr < 512 := hegr ▸ p.isLt
    rw [← hegr]
    exact (hcounts _ (startCounts_onTime hp)).trans (State.heldCounted_port hp)
  have hqueue : (s.heldStarted p.val h).qsg.queue = s.qsg.queue := (congrArg Qsg.queue hqsg :)
  refine ⟨_, hstep, congrArg Qsg.held hqsg, (congrArg List.length htxs).trans List.length_append, ?_, ?_, hcount, hqueue, htim⟩
  · rw [State.inside_qsg, hlast, Option.map_some, hxport, hxball, hxraw, hegr, hon]
  · rw [State.inside_qsg, hlast, Option.map_some, hxcopy, Option.map_some]

end Sys2Proof.Proofs
end

section
/-! The Merge Sequencer (R281 to R287): the copies that a sequencer sees at a boundary, and the start of its head. -/

namespace Sys2Proof.Machine

/-! ### What a sequencer sees (R282, R284) -/

section
variable (s : State) (m : Nat)

/-- The raw form of a copy lies before LAST_RAW. -/
def State.beforeLast (x : SeqCopy) : Bool := (s.lastRaw m).any (fun r => decide (x.copy.frame.raw < r))

/-- A copy as its sequencer holds it after a boundary. -/
def State.seenCopy (x : SeqCopy) : SeqCopy :=
  if x.inst = m ∧ x.visible = false ∧ x.copy.admitted < s.now then
    { x with visible := true, late := s.beforeLast m x, lastRaw := (s.lastRaw m).getD 0,
             offered := if s.beforeLast m x && !x.early then x.copy.admitted + 1 else x.offered,
             arrival := s.lastRaw m == some x.copy.frame.raw && s.qsg.seqLast.get m 0 != x.copy.frame.ing + 1 }
  else x

/-- The copies of a store after a boundary. -/
def State.seen : State := s.setQsg (fun q => { q with seq := q.seq.map (s.seenCopy m) })

/-- The copies that are new to a sequencer, and no sooner released than admitted: its window was exceeded. -/
def State.exceeding : List SeqCopy :=
  s.qsg.seq.filter (fun x => x.inst == m && !x.visible && decide (x.copy.admitted < s.now) && !s.beforeLast m x && !x.early &&
    decide (x.release ≤ x.copy.admitted))

theorem State.seeSeq_eq :
    s.seeSeq m = if (s.exceeding m).isEmpty then s.seen m else (s.seen m).bump 10 5 0 (s.exceeding m).length := by
  have hnew (x : SeqCopy) : (x.inst = m ∧ x.visible = false ∧ x.copy.admitted < s.now) ↔
      (x.inst == m && !x.visible && decide (x.copy.admitted < s.now)) = true := by simp [and_assoc]
  have hbefore (x : SeqCopy) : s.beforeLast m x = (s.lastRaw m).any (fun r => decide (x.copy.frame.raw < r)) := rfl
  unfold State.seeSeq State.seen State.seenCopy State.exceeding
  simp only [hnew, hbefore]
  cases s.lastRaw m <;> rfl

/-- Nothing is new to a sequencer that has seen all copies. -/
theorem State.seeSeq_all (h : s.qsg.seq.all (fun y => y.visible) = true) : s.seeSeq m = s := by
  have hvisible : ∀ y ∈ s.qsg.seq, y.visible = true := by simpa using h
  have hnone : s.exceeding m = [] := List.filter_eq_nil_iff.mpr fun y hy => by simp [hvisible y hy]
  have hsame : s.qsg.seq.map (s.seenCopy m) = s.qsg.seq :=
    (List.map_congr_left fun y hy => by simp [State.seenCopy, hvisible y hy]).trans (List.map_id _)
  rw [State.seeSeq_eq, hnone]
  exact congrArg (fun l => s.setQsg fun q => { q with seq := l }) hsame

end

/-! ### What the start of a sequenced copy is noted in -/

/-- The registers that a tie, a late copy and their records may show in. -/
def seqNoteFields (m : Nat) : List (Fld × Nat) :=
  [(F.MSQ_INST_STATUS_PTR, m), (F.EVR_INT_STATUS_GAP, 0), (F.MSQ_INT_STATUS_LATE, 0), (F.MSQ_LAST_LATE_INSTANCE, 0),
   (F.MSQ_LAST_LATE_PORT, 0), (F.MSQ_LAST_LATE_VALID, 0), (F.MSQ_LAST_LATE_SUB_LATENESS, 0), (F.MSQ_LAST_LATE_TICK_LO_VALUE, 0),
   (F.MSQ_LAST_LATE_TICK_HI_VALUE, 0)]

/-- t differs from s at most in the tied groups, in the registers of `seqNoteFields`, in counters and in records. -/
structure State.Noted (s t : State) (m : Nat) : Prop where
  qsg : ∃ g, t.qsg = { s.qsg with ties := g }
  tim : t.tim = s.tim
  regs : RegsBut s t (seqNoteFields m)

namespace State.Noted
variable {s t u : State} {m : Nat}

theorem refl : s.Noted s m := ⟨⟨_, rfl⟩, rfl, .refl⟩

theorem ite {c : Prop} [Decidable c] (h : s.Noted t m) (h' : s.Noted u m) : s.Noted (if c then t else u) m := by
  split
  · exact h
  · exact h'

theorem bump (h : s.Noted t m) (g ev n by' : Nat) : s.Noted (t.bump g ev n by') m := ⟨h.qsg, h.tim, h.regs.congr rfl⟩

theorem wr (h : s.Noted t m) {f : Fld} {n : Nat} (v : Nat) (hf : (f, n) ∈ seqNoteFields m) : s.Noted (t.wr f n v) m :=
  ⟨h.qsg, h.tim, h.regs.wr v hf⟩

theorem wr2 (h : s.Noted t m) {lo hi : Fld} {n : Nat} (v : Nat) (hlo : (lo, n) ∈ seqNoteFields m) (hhi : (hi, n) ∈ seqNoteFields m) :
    s.Noted (t.wr2 lo hi n v) m := (h.wr v hlo).wr (v / 2 ^ 32) hhi

theorem raiseBits (h : s.Noted t m) {f : Fld} {n : Nat} (v : Nat) (hf : (f, n) ∈ seqNoteFields m) : s.Noted (t.raiseBits f n v) m :=
  ⟨h.qsg, h.tim, h.regs.raiseBits v hf⟩

theorem hand (h : s.Noted t m) (r : Record) : s.Noted (t.hand r) m := by
  obtain ⟨g, hqsg⟩ := h.qsg
  exact ⟨⟨g, (t.hand_qsg r).trans hqsg⟩, (t.hand_tim r).trans h.tim, h.regs.trans ((RegsBut.hand t r).mono (by simp [seqNoteFields]))⟩

theorem ties (h : s.Noted t m) (g : Qsg → List (Nat × TieGroup)) : s.Noted (t.setQsg fun q => { q with ties := g q }) m := by
  obtain ⟨_, hqsg⟩ := h.qsg
  exact ⟨⟨_, congrArg (fun q : Qsg => { q with ties := g q }) hqsg⟩, h.tim, h.regs.congr rfl⟩

theorem tieStep (h : s.Noted t m) (x : SeqCopy) : s.Noted (t.tieStep m x) m := by
  unfold State.tieStep
  dsimp only
  split
  · exact (h.hand _).bump _ _ _ _
  · split
    · exact .ite (.wr (.bump (.hand (h.ties _) _) _ _ _ _) _ (by simp [seqNoteFields])) (h.ties _)
    · exact .ite (h.ties _) h

theorem noteSeqLate (h : s.Noted t m) (x : SeqCopy) (c : Copy) : s.Noted (t.noteSeqLate m x c) m := by
  have hraised := ((h.bump 10 3 m 1).bump 10 4 c.frame.ing 1).raiseBits (f := F.MSQ_INT_STATUS_LATE) (n := 0) 1 (by simp [seqNoteFields])
  unfold State.noteSeqLate
  refine .hand (.ite ?_ (.wr2 (.wr (.raiseBits (.wr (.wr ?_ _ (by simp [seqNoteFields])) _ (by simp [seqNoteFields])) _
    (by simp [seqNoteFields])) _ (by simp [seqNoteFields])) _ (by simp [seqNoteFields]) (by simp [seqNoteFields]))) _ <;>
    exact .ite (hraised.bump _ _ _ _) hraised

end State.Noted

/-! ### The registers of a sequencer -/

/-- SEQ_NEXT and LAST_RAW of a sequencer, and what shows of its store. -/
def nextFields (m : Nat) : List (Fld × Nat) := [(F.MSQ_SEQ_NEXT_LO_VALUE, m), (F.MSQ_SEQ_NEXT_HI_VALUE, m)]
def lastFields (m : Nat) : List (Fld × Nat) :=
  [(F.MSQ_LAST_RAW_LO_TICK, m), (F.MSQ_LAST_RAW_HI_TICK, m), (F.MSQ_LAST_SUB_SUB, m), (F.MSQ_LAST_SUB_VALID, m)]
def storeFields (m : Nat) : List (Fld × Nat) := [(F.MSQ_INST_STATUS_HELD, m), (F.MSQ_STATUS_POOL_FREE, 0)]

theorem nextFields_apart : ∀ m : Fin 32, ∀ x ∈ seqNoteFields m ++ lastFields m ++ storeFields m, ∀ y ∈ nextFields m,
    x.1.key x.2 ≠ y.1.key y.2 := by decide

theorem lastFields_apart : ∀ m : Fin 32, ∀ x ∈ nextFields m ++ seqNoteFields m ++ storeFields m, ∀ y ∈ lastFields m,
    x.1.key x.2 ≠ y.1.key y.2 := by decide

theorem coreMhz_apart : ∀ m : Fin 32, ∀ x ∈ nextFields m ++ (seqNoteFields m ++ lastFields m), x.1.key x.2 ≠ F.PWR_STATUS_CORE_MHZ.key 0 := by
  decide

theorem seqNext_apart : ∀ m : Fin 32, F.MSQ_SEQ_NEXT_HI_VALUE.key m.val ≠ F.MSQ_SEQ_NEXT_LO_VALUE.key m.val := by decide

theorem lastRaw_apart : ∀ m : Fin 32, F.MSQ_LAST_RAW_HI_TICK.key m.val ≠ F.MSQ_LAST_RAW_LO_TICK.key m.val ∧
    F.MSQ_LAST_SUB_VALID.key m.val ≠ F.MSQ_LAST_SUB_SUB.key m.val ∧
    ∀ x ∈ [(F.MSQ_LAST_SUB_SUB, m.val), (F.MSQ_LAST_SUB_VALID, m.val)],
      x.1.key x.2 ≠ F.MSQ_LAST_RAW_LO_TICK.key m.val ∧ x.1.key x.2 ≠ F.MSQ_LAST_RAW_HI_TICK.key m.val := by decide

/-- A pair of whole registers holds 64 bits. -/
theorem State.rd2_wr2_mod (s : State) {lo hi : Fld} {n : Nat} (v : Nat) (hk : hi.key n ≠ lo.key n) (hlo : lo.width = 32) (hhi : hi.width = 32) :
    (s.wr2 lo hi n v).rd2 lo hi n = v % 2 ^ 64 := by
  rw [State.rd2, State.wr2, State.rd_wr_same, State.rd_wr_other _ _ _ hk, State.rd_wr_same, hlo, hhi]
  omega

/-! ### LAST_RAW -/

section
variable {s t : State} {m : Nat} {l : List (Fld × Nat)}

theorem State.lastRaw_congr (h : RegsBut s t l) (hl : ∀ x ∈ l, ∀ y ∈ lastFields m, x.1.key x.2 ≠ y.1.key y.2) : t.lastRaw m = s.lastRaw m := by
  have hvalid : t.on F.MSQ_LAST_SUB_VALID m = s.on F.MSQ_LAST_SUB_VALID m :=
    h.on fun x hx => hl x hx (F.MSQ_LAST_SUB_VALID, m) (by simp [lastFields])
  have hraw : t.rd2 F.MSQ_LAST_RAW_LO_TICK F.MSQ_LAST_RAW_HI_TICK m = s.rd2 F.MSQ_LAST_RAW_LO_TICK F.MSQ_LAST_RAW_HI_TICK m :=
    h.rd2 (fun x hx => hl x hx (F.MSQ_LAST_RAW_LO_TICK, m) (by simp [lastFields]))
      (fun x hx => hl x hx (F.MSQ_LAST_RAW_HI_TICK, m) (by simp [lastFields]))
  have hsub : t.rd F.MSQ_LAST_SUB_SUB m = s.rd F.MSQ_LAST_SUB_SUB m :=
    h _ _ fun x hx => hl x hx (F.MSQ_LAST_SUB_SUB, m) (by simp [lastFields])
  rw [State.lastRaw, State.lastRaw, hvalid, hraw, hsub]

/-- LAST_RAW takes a raw form. -/
def State.lastWritten (s : State) (m top : Nat) : State :=
  ((s.wr2 F.MSQ_LAST_RAW_LO_TICK F.MSQ_LAST_RAW_HI_TICK m (top / 16)).wr F.MSQ_LAST_SUB_SUB m (top % 16)).wr F.MSQ_LAST_SUB_VALID m 1

theorem RegsBut.lastWritten (s : State) (m top : Nat) : RegsBut s (s.lastWritten m top) (lastFields m) := by
  have hraw : RegsBut s (s.wr2 F.MSQ_LAST_RAW_LO_TICK F.MSQ_LAST_RAW_HI_TICK m (top / 16)) (lastFields m) :=
    RegsBut.refl.wr2 _ (by simp [lastFields]) (by simp [lastFields])
  exact (hraw.wr _ (by simp [lastFields])).wr 1 (by simp [lastFields])

theorem State.lastRaw_lastWritten (s : State) (m : Fin 32) {top : Nat} (htop : top < 2 ^ 64) :
    (s.lastWritten m.val top).lastRaw m.val = some top := by
  obtain ⟨hpair, hsubKey, hraws⟩ := lastRaw_apart m
  have hvalid : (s.lastWritten m.val top).on F.MSQ_LAST_SUB_VALID m.val = true := State.on_wr_one _ F.MSQ_LAST_SUB_VALID m.val rfl
  have hsub : (s.lastWritten m.val top).rd F.MSQ_LAST_SUB_SUB m.val = top % 16 % 2 ^ F.MSQ_LAST_SUB_SUB.width :=
    (State.rd_wr_other _ _ _ hsubKey _).trans (State.rd_wr_same _ _ _ _)
  have hregs : RegsBut (s.wr2 F.MSQ_LAST_RAW_LO_TICK F.MSQ_LAST_RAW_HI_TICK m.val (top / 16)) (s.lastWritten m.val top)
      [(F.MSQ_LAST_SUB_SUB, m.val), (F.MSQ_LAST_SUB_VALID, m.val)] := (RegsBut.refl.wr _ (by simp)).wr 1 (by simp)
  have hraw : (s.lastWritten m.val top).rd2 F.MSQ_LAST_RAW_LO_TICK F.MSQ_LAST_RAW_HI_TICK m.val = top / 16 % 2 ^ 64 :=
    (hregs.rd2 (fun y hy => (hraws y hy).1) (fun y hy => (hraws y hy).2)).trans (State.rd2_wr2_mod _ _ hpair rfl rfl)
  have hwidth : F.MSQ_LAST_SUB_SUB.width = 4 := rfl
  rw [State.lastRaw, if_pos hvalid, hraw, hsub, hwidth]
  exact congrArg some (by omega)

/-- LAST_RAW follows a copy, and its ingress port is kept (R283). -/
def State.followed (s : State) (m top ing : Nat) : State :=
  (s.lastWritten m top).setQsg (fun q => { q with seqLast := q.seqLast.put m (ing + 1) 0 })

/-! ### The start of the head of a store (R284, R286, R287) -/

/-- A sequenced copy leaves its store, and takes the next number where its sequencer numbers copies. -/
def State.numbered (s : State) (m : Nat) (x : SeqCopy) : State :=
  let no := s.rd2 F.MSQ_SEQ_NEXT_LO_VALUE F.MSQ_SEQ_NEXT_HI_VALUE m
  let s := s.setQsg (fun q => { q with seq := q.seq.filter (fun y => y != x) })
  let s := if x.copy.seqEn then s.wr2 F.MSQ_SEQ_NEXT_LO_VALUE F.MSQ_SEQ_NEXT_HI_VALUE m (no + 1) else s
  s.bump 10 1

/-- The copy as it is sent. -/
def State.seqCopy (s : State) (m : Nat) (x : SeqCopy) : Copy :=
  { x.copy with
    late := x.late, seqNo := if x.copy.seqEn then some (s.rd2 F.MSQ_SEQ_NEXT_LO_VALUE F.MSQ_SEQ_NEXT_HI_VALUE m) else none
    lateCause := if x.late then s.seqCauseOf m x.copy else 0 }

/-- A late copy is noted as late; LAST_RAW follows any other. -/
def State.ordered (s : State) (m : Nat) (x : SeqCopy) (c : Copy) : State :=
  if x.late then s.noteSeqLate m x c
  else (s.tieStep m x).followed m (max c.frame.raw (((s.tieStep m x).lastRaw m).getD 0)) c.frame.ing

/-- The copy is taken out, numbered and ordered. -/
def State.seqTaken (s : State) (m : Nat) (x : SeqCopy) : State := (s.numbered m x).ordered m x (s.seqCopy m x)

/-- It enters the PCS as far ahead as the path asks. -/
def State.seqStarted (s : State) (m : Nat) (x : SeqCopy) (var : Nat) : State :=
  ((s.seqTaken m x).startTx (s.seqCopy m x) (320 * (s.seqTaken m x).selectEntry : Nat) ((s.seqTaken m x).toBallFine x.copy.egr var)).showSeq m

theorem State.startSeq_started {x : SeqCopy} {var : Nat} {met : Option Nat} (hhead : s.seqHead m = some x) (hup : s.portUp x.copy.egr = true)
    (hfree : s.portFreeAt x.copy.egr ≤ s.selectEntry) (hstored : s.stored x.copy.frame = true) (hedit : s.editDown x.copy.group = false)
    (hcell : s.badCellOf x.copy met = none) : s.startSeq m var met = s.seqStarted m x var := by
  have hwait : ¬ (s.selectEntry < s.portFreeAt x.copy.egr ∨ (!s.portUp x.copy.egr) = true ∨ (!s.stored x.copy.frame) = true) := by
    rw [hup, hstored]
    simpa using hfree
  unfold State.startSeq
  rw [hhead]
  simp only [hwait, hedit, hcell, if_false, Bool.false_eq_true]
  rfl

theorem State.startDet_seq {p var : Nat} {met : Option Nat} {x : SeqCopy} (hinst : s.instanceOf p = some m)
    (hall : s.qsg.seq.all (fun y => y.visible) = true) (hheld : s.heldHead p = none) (hhead : s.seqHead m = some x)
    (hstored : s.stored x.copy.frame = true) (hedit : s.editReady x.copy.group = true) :
    s.startDet p var met = some (s.startSeq m var met) := by
  simp [State.startDet, hinst, s.seeSeq_all m hall, hheld, hhead, hstored, hedit]

theorem RegsBut.numbered (s : State) (m : Nat) (x : SeqCopy) : RegsBut s (s.numbered m x) (nextFields m) := by
  have htaken : RegsBut s (s.setQsg fun q => { q with seq := q.seq.filter (fun y => y != x) }) (nextFields m) := .of_regs rfl
  exact RegsBut.congr (RegsBut.ite (htaken.wr2 _ (by simp [nextFields]) (by simp [nextFields])) htaken) (State.bump_regs _ _ _ _ _)

theorem State.numbered_leaves (x : SeqCopy) : (s.numbered m x).qsg = { s.qsg with seq := s.qsg.seq.filter (fun y => y != x) } ∧
    (s.numbered m x).tim = s.tim := by
  unfold State.numbered
  dsimp only
  rw [State.bump_qsg, State.bump_tim]
  split
  · rw [State.wr2_qsg, State.wr2_tim]
    exact ⟨rfl, rfl⟩
  · exact ⟨rfl, rfl⟩

theorem State.numbered_next (s : State) (m : Fin 32) {x : SeqCopy} (hen : x.copy.seqEn = true) :
    (s.numbered m.val x).rd2 F.MSQ_SEQ_NEXT_LO_VALUE F.MSQ_SEQ_NEXT_HI_VALUE m.val =
      (s.rd2 F.MSQ_SEQ_NEXT_LO_VALUE F.MSQ_SEQ_NEXT_HI_VALUE m.val + 1) % 2 ^ 64 := by
  have hbump (t : State) : (t.bump 10 1).rd2 F.MSQ_SEQ_NEXT_LO_VALUE F.MSQ_SEQ_NEXT_HI_VALUE m.val =
      t.rd2 F.MSQ_SEQ_NEXT_LO_VALUE F.MSQ_SEQ_NEXT_HI_VALUE m.val := rfl
  unfold State.numbered
  dsimp only
  rw [hbump, if_pos hen]
  exact State.rd2_wr2_mod _ _ (seqNext_apart m) rfl rfl

theorem State.ordered_qsg (x : SeqCopy) (c : Copy) : ∃ g l, (s.ordered m x c).qsg = { s.qsg with ties := g, seqLast := l } := by
  unfold State.ordered
  split
  · obtain ⟨g, h⟩ := (State.Noted.refl (s := s).noteSeqLate x c : s.Noted _ m).qsg
    exact ⟨g, _, h⟩
  · obtain ⟨g, h⟩ := (State.Noted.refl (s := s).tieStep x : s.Noted _ m).qsg
    exact ⟨g, _, congrArg (fun q : Qsg => { q with seqLast := q.seqLast.put m (c.frame.ing + 1) 0 }) h⟩

theorem State.ordered_tim (x : SeqCopy) (c : Copy) : (s.ordered m x c).tim = s.tim := by
  unfold State.ordered
  split
  · exact (State.Noted.refl.noteSeqLate x c).tim
  · exact (State.Noted.refl.tieStep x).tim

theorem RegsBut.ordered (x : SeqCopy) (c : Copy) : RegsBut s (s.ordered m x c) (seqNoteFields m ++ lastFields m) := by
  unfold State.ordered
  split
  · exact (State.Noted.refl.noteSeqLate x c).regs.mono fun _ h => List.mem_append_left _ h
  · exact (State.Noted.refl.tieStep x).regs.append ((RegsBut.lastWritten _ _ _).congr rfl)

/-- What shows of a store leaves all else of the sequencer alone. -/
theorem RegsBut.showSeq (s : State) (m : Nat) : RegsBut s (s.showSeq m) (storeFields m) := by
  have hheld (n : Nat) : RegsBut s (s.wr F.MSQ_INST_STATUS_HELD m n) (storeFields m) := RegsBut.refl.wr n (by simp [storeFields])
  have hmax (n : Nat) : RegsBut s ((s.wr F.MSQ_INST_STATUS_HELD m n).rcMax F.MSQ_HWM_HELD_MAX m n) (storeFields m) := (hheld n).congr rfl
  exact (hmax _).wr _ (by simp [storeFields])

end

/-! ### What the start leaves -/

section
variable (s : State) (m : Fin 32) (x : SeqCopy) (var : Nat)

theorem RegsBut.seqTaken : RegsBut s (s.seqTaken m.val x) (nextFields m.val ++ (seqNoteFields m.val ++ lastFields m.val)) :=
  (RegsBut.numbered s m.val x).append (RegsBut.ordered _ _)

theorem State.seqTaken_tim : (s.seqTaken m.val x).tim = s.tim := (State.ordered_tim _ _).trans (State.numbered_leaves x).2

theorem State.seqTaken_selectEntry : (s.seqTaken m.val x).selectEntry = s.selectEntry := by
  have hmhz := RegsBut.seqTaken s m x F.PWR_STATUS_CORE_MHZ 0 (coreMhz_apart m)
  rw [State.selectEntry, State.selectEntry, State.pathTicks, State.pathTicks, hmhz, State.now, State.now, State.seqTaken_tim]

theorem State.seqTaken_qsg :
    ∃ g l, (s.seqTaken m.val x).qsg = { s.qsg with seq := s.qsg.seq.filter (fun y => y != x), ties := g, seqLast := l } := by
  obtain ⟨g, l, h⟩ := State.ordered_qsg (s := s.numbered m.val x) (m := m.val) x (s.seqCopy m.val x)
  rw [(State.numbered_leaves x).1] at h
  exact ⟨g, l, h⟩

theorem RegsBut.seqStarted : RegsBut (s.seqTaken m.val x) (s.seqStarted m.val x var) (storeFields m.val) := by
  obtain ⟨_, -, -, hregs, -⟩ := (s.seqTaken m.val x).startTx_leaves (s.seqCopy m.val x) (320 * (s.seqTaken m.val x).selectEntry : Nat)
    ((s.seqTaken m.val x).toBallFine x.copy.egr var) none
  have hstart : RegsBut (s.seqTaken m.val x) _ (storeFields m.val) := .of_regs hregs
  exact hstart.trans (RegsBut.showSeq _ _)

/-- The next sequence number counts the copy. -/
theorem State.seqStarted_next (hen : x.copy.seqEn = true) :
    (s.seqStarted m.val x var).rd2 F.MSQ_SEQ_NEXT_LO_VALUE F.MSQ_SEQ_NEXT_HI_VALUE m.val =
      (s.rd2 F.MSQ_SEQ_NEXT_LO_VALUE F.MSQ_SEQ_NEXT_HI_VALUE m.val + 1) % 2 ^ 64 := by
  have hkept : RegsBut (s.numbered m.val x) (s.seqStarted m.val x var) (seqNoteFields m.val ++ lastFields m.val ++ storeFields m.val) :=
    (RegsBut.ordered _ _).append (RegsBut.seqStarted s m x var)
  have hlo := fun y hy => nextFields_apart m y hy (F.MSQ_SEQ_NEXT_LO_VALUE, m.val) (by simp [nextFields])
  have hhi := fun y hy => nextFields_apart m y hy (F.MSQ_SEQ_NEXT_HI_VALUE, m.val) (by simp [nextFields])
  exact (hkept.rd2 hlo hhi).trans (s.numbered_next m hen)

/-- LAST_RAW has followed a copy that is not late. -/
theorem State.seqStarted_last (hlate : x.late = false) (htop : max x.copy.frame.raw ((s.lastRaw m.val).getD 0) < 2 ^ 64) :
    (s.seqStarted m.val x var).lastRaw m.val = some (max x.copy.frame.raw ((s.lastRaw m.val).getD 0)) := by
  have hapart {l : List (Fld × Nat)} (hl : ∀ y ∈ l, y ∈ nextFields m.val ++ seqNoteFields m.val ++ storeFields m.val) :=
    fun y hy => lastFields_apart m y (hl y hy)
  have htied : RegsBut s ((s.numbered m.val x).tieStep m.val x) (nextFields m.val ++ seqNoteFields m.val) :=
    (RegsBut.numbered s m.val x).append (State.Noted.refl.tieStep x).regs
  have hsame : ((s.numbered m.val x).tieStep m.val x).lastRaw m.val = s.lastRaw m.val :=
    State.lastRaw_congr htied (hapart fun y hy => List.mem_append_left _ hy)
  have hordered : s.seqTaken m.val x = ((s.numbered m.val x).tieStep m.val x).followed m.val
      (max x.copy.frame.raw ((s.lastRaw m.val).getD 0)) x.copy.frame.ing := by
    rw [State.seqTaken, State.ordered, hlate, hsame]
    rfl
  rw [State.lastRaw_congr (RegsBut.seqStarted s m x var) (hapart fun y hy => List.mem_append_right _ hy), hordered]
  exact State.lastRaw_lastWritten _ m htop

end

end Sys2Proof.Machine

namespace Sys2Proof.Proofs
open Sys2Proof.Machine

/-- At the boundary after their admission a sequencer's copies join its store, late where their raw form lies before LAST_RAW. -/
theorem seqVisible_seen (s : State) (m : Fin 32) (hl : s.live = true) :
    let isLate := fun (x : SeqCopy) => (s.lastRaw m.val).any (fun r => decide (x.copy.frame.raw < r))
    Completes (.seqVisible m) s (fun t => t.qsg.seq = s.qsg.seq.map (fun x => if x.inst = m.val ∧ x.visible = false ∧ x.copy.admitted < s.now then
      { x with visible := true, late := isLate x, lastRaw := (s.lastRaw m.val).getD 0,
               offered := if isLate x && !x.early then x.copy.admitted + 1 else x.offered,
               arrival := s.lastRaw m.val == some x.copy.frame.raw && s.qsg.seqLast.get m.val 0 != x.copy.frame.ing + 1 } else x) ∧
    t = { s with qsg := t.qsg, cntTick := t.cntTick }) := by
  have hstep : exec (.seqVisible m) s = .next (s.inside (s.seeSeq m.val)) := congrArg _ (s.whenLive_true hl _)
  refine ⟨_, hstep, ?_⟩
  rw [State.seeSeq_eq]
  split <;> exact ⟨rfl, rfl⟩

/-- The head of a sequencer whose port is free starts as far ahead as the path asks, numbered, and LAST_RAW follows it unless it is late. -/
theorem seqRelease_started (s : State) (m : Fin 32) (var : Nat) (met : Option Nat) (x : SeqCopy) (hl : s.live = true)
    (hall : s.qsg.seq.all (fun y => y.visible) = true)
    (hhead : s.seqHead m.val = some x ∧ s.instanceOf x.copy.egr = some m.val ∧ s.heldHead x.copy.egr = none)
    (hport : s.portUp x.copy.egr = true ∧ s.resting x.copy.egr = false ∧ s.editReady x.copy.group = true ∧ s.editDown x.copy.group = false)
    (hcell : s.badCellOf x.copy met = none) (hfree : s.portFreeAt x.copy.egr ≤ s.selectEntry) (hstored : s.stored x.copy.frame = true) :
    let no := s.rd2 F.MSQ_SEQ_NEXT_LO_VALUE F.MSQ_SEQ_NEXT_HI_VALUE m.val
    Completes (.seqRelease m ⟨var, met⟩) s (fun t => t.qsg.seq = s.qsg.seq.filter (fun y => y != x) ∧ t.qsg.txs.length = s.qsg.txs.length + 1 ∧
    (t.qsg.txs.getLast?).map (fun y => (y.port, y.copy.map (fun c => (c.frame, c.late, c.seqNo)))) =
      some (x.copy.egr, some (x.copy.frame, x.late, if x.copy.seqEn then some no else none)) ∧
    (t.qsg.txs.getLast?).map (fun y => y.start) = some s.selectEntry ∧
    (x.copy.seqEn = true → t.rd2 F.MSQ_SEQ_NEXT_LO_VALUE F.MSQ_SEQ_NEXT_HI_VALUE m.val = (no + 1) % 2 ^ 64) ∧
    (x.late = false → max x.copy.frame.raw ((s.lastRaw m.val).getD 0) < 2 ^ 64 →
      t.lastRaw m.val = some (max x.copy.frame.raw ((s.lastRaw m.val).getD 0))) ∧ t.qsg.queue = s.qsg.queue ∧ t.tim = s.tim) := by
  intro no
  obtain ⟨hhead, hinst, hheld⟩ := hhead
  obtain ⟨hup, hrest, hready, hedit⟩ := hport
  have hstep : exec (.seqRelease m ⟨var, met⟩) s = .next (s.inside (s.seqStarted m.val x var)) := by
    refine congrArg Host.Outcome.next ((s.whenLive_true hl _).trans (congrArg s.inside ?_))
    dsimp only
    rw [s.seeSeq_all m.val hall, hhead]
    dsimp only
    rw [if_pos (by simp [hup, hrest]), State.startDet_seq hinst hall hheld hhead hstored hready,
      State.startSeq_started hhead hup hfree hstored hedit hcell, Option.getD_some]
  obtain ⟨y, ⟨hport, ⟨b, hcopy⟩, hstart, -, -⟩, ⟨_, _, hqsg⟩, -, htim, -⟩ := (s.seqTaken m.val x).startTx_leaves (s.seqCopy m.val x)
    (320 * (s.seqTaken m.val x).selectEntry : Nat) ((s.seqTaken m.val x).toBallFine x.copy.egr var) none
  obtain ⟨_, _, htaken⟩ := s.seqTaken_qsg m x
  rw [htaken] at hqsg
  have htxs : (s.seqStarted m.val x var).qsg.txs = s.qsg.txs ++ [y] := congrArg Qsg.txs hqsg
  have hlast := (congrArg List.getLast? htxs).trans List.getLast?_concat
  have hqueue : (s.seqStarted m.val x var).qsg.queue = s.qsg.queue := (congrArg Qsg.queue hqsg :)
  have hentry : y.start = s.selectEntry := by
    rw [hstart, s.seqTaken_selectEntry m x, Int.fdiv_eq_ediv_of_nonneg _ (by decide)]
    omega
  refine ⟨_, hstep, congrArg Qsg.seq hqsg, (congrArg List.length htxs).trans List.length_append, ?_, ?_, s.seqStarted_next m x var,
    s.seqStarted_last m x var, hqueue, htim.trans (s.seqTaken_tim m x)⟩
  · rw [State.inside_qsg, hlast, Option.map_some, hport, hcopy, Option.map_some]
    rfl
  · rw [State.inside_qsg, hlast, Option.map_some, hentry]

/-- Settles O13: the copies for the internal ports, the held copy of a port and the sequenced copies, clause by clause. -/
theorem internalHeldAndSequencedCopies : Obligations.InternalHeldAndSequencedCopies :=
  ⟨seatRxDeliver_writes, recircReentry_again, recircReentry_limit, heldRelease_onTime, seqVisible_seen, seqRelease_started⟩

end Sys2Proof.Proofs
end

section
/-! TABLE_LOOKUP of an entry of more words than its table's descriptor has (R184, R428, R443): Drafen makes room for the descriptor's
words alone. -/

namespace Sys2Proof.Proofs
open Sys2Proof.Machine

/-- Entry 7 of the group table, whose descriptor is one word (R184), with a second word. -/
def twoWordGroup : TabEntry := ⟨0x04, 7, [0x80100005, 0]⟩

/-- Seat 0 asks for that entry. -/
def groupLookup : Packet :=
  { sender := 0, opcode := 0x22, flags := 0, tag := 7, seat := 0, txn := 0, address := 0x04000007, parameter := 0, data := [] }

/-- Drafen is ready in tick 100, and Seat 0's Reply FIFO has room for 6 words: for the longest reply to a lookup of a group. -/
def sixWordsOfRoom : State :=
  { ((State.reset.wr F.TIM_STATUS_RUN 0 1).wr F.CMD_CORE_STATUS_READY 0 1).wr F.CMD_CORE_STATUS_CORE0 0 0 with
    pins := { vid := 5 }
    tim := { State.reset.tim with canopy := 100 }
    cmd := { seats := [{ replyFifo := List.replicate 1018 0 }, {}, {}, {}] }
    tbl := { State.reset.tbl with cur := [twoWordGroup] } }

theorem sixWordsOfRoom_takes : sixWordsOfRoom.Takes groupLookup := by decide +kernel

theorem sixWordsOfRoom_replyFifo : (sixWordsOfRoom.seat groupLookup.sender.val).replyFifo.length = 1018 := by decide +kernel

/-- Nothing of classes 1 to 6 is due in its tick. -/
theorem sixWordsOfRoom_caughtUp : (sixWordsOfRoom.taken groupLookup).caughtUp = sixWordsOfRoom.taken groupLookup := by decide +kernel

/-- The reply has 7 words and waits for room outside the FIFO, which stays as it was. -/
theorem lookup_leaves_replyFifo :
    ((nextOr State.reset (exec (.tableLookup groupLookup) sixWordsOfRoom)).seat groupLookup.sender.val).replyFifo.length = 1018 := by decide +kernel

/-- Refutes O23: the seventh clause bounds no entry by its table's descriptor, and the reply to a lookup of a longer one can find no
room in the Reply FIFO. -/
theorem not_tableCommandsWriteAndFindEntries : ¬ Obligations.TableCommandsWriteAndFindEntries := by
  unfold Obligations.TableCommandsWriteAndFindEntries
  rintro ⟨-, -, -, -, -, -, h, -⟩
  obtain ⟨t, ht, ⟨-, -, hfifo⟩, -⟩ := h sixWordsOfRoom groupLookup 65536 sixWordsOfRoom_takes (by decide +kernel) sixWordsOfRoom_caughtUp
  have hposted : ¬ (bit groupLookup.flags.toNat 0 = true ∧ Status.ok = Status.ok) := by decide
  have hwords : sixWordsOfRoom.entryWords (tabOf groupLookup) (indexOf groupLookup) = [0x80100005, 0] := by decide +kernel
  have hlonger := congrArg List.length hfifo
  rw [if_neg hposted, hwords, List.length_append, replyWords_length, sixWordsOfRoom_replyFifo] at hlonger
  have hstays := lookup_leaves_replyFifo
  rw [ht, nextOr, hlonger] at hstays
  exact absurd hstays (by decide)

end Sys2Proof.Proofs
end

section
/-! PAUSE frames (R236): the counters of a port that the part does not have. -/

namespace Sys2Proof.Proofs
open Sys2Proof.Machine

/-- Port 134,217,728, which the part does not have: its counter of PAUSE frames received would stand at the place of the counter
of all PAUSE frames (R529). -/
def countlessPort : Nat := 2048 * 65536

/-- The end of a PAUSE frame with quanta 0. -/
def pauseOfNothing : Bytes := zeros 15 ++ [1]

/-- A MAC of that port, which takes PAUSE frames, has handed one. -/
def countlessPause : State :=
  { State.reset with fwd := { State.reset.fwd with macCtrl := [(countlessPort, 0, pauseOfNothing)] } }.wr F.QSG_PORT_CTRL_RX_PAUSE_EN
    countlessPort 1

theorem countlessPause_taken :
    countlessPause.live = true ∧ beAt pauseOfNothing 14 2 = 1 ∧ countlessPause.on F.QSG_PORT_CTRL_RX_PAUSE_EN countlessPort = true := by
  decide +kernel

/-- The frame counts twice at one place. -/
theorem countlessPause_counts :
    (nextOr State.reset (exec .pauseReceived countlessPause)).cntTick.get (cntKey 8 2 0) 0 = countlessPause.cntTick.get (cntKey 8 2 0) 0 + 2 := by
  decide +kernel

/-- Refutes O14: the first clause bounds no port. A port beyond the map has its counter of PAUSE frames at the place of the counter
of all of them, which one frame then moves by 2. -/
theorem not_pausesFlowControlAndShapers : ¬ Obligations.PausesFlowControlAndShapers := by
  unfold Obligations.PausesFlowControlAndShapers
  rintro ⟨h, -⟩
  obtain ⟨hlive, hpause, htakes⟩ := countlessPause_taken
  obtain ⟨t, ht, -, -, -, hone, -⟩ := h countlessPause countlessPort 0 pauseOfNothing [] hlive rfl ⟨hpause, htakes⟩
  have htwo := countlessPause_counts
  rw [ht, nextOr, hone] at htwo
  omega

end Sys2Proof.Proofs
end

section
/-! The power resets (R549, R550, R559): which registers outlive them, and which cause they tell. -/

namespace Sys2Proof.Machine

/-! ### The registers of the VAUX domain -/

/-- A store from which a key was dropped holds nothing there. -/
theorem SMap.get_filter_dropped (m : SMap) {p : Nat → Bool} {k : Nat} (h : p k = false) (d : Nat) :
    SMap.get (m.filter fun kv => p kv.1) k d = d := by
  induction m with
  | nil => rfl
  | cons kv m ih =>
    obtain ⟨k', v⟩ := kv
    cases hp : p k' with
    | false => simpa [hp] using ih
    | true =>
      have hne : k' ≠ k := fun he => by rw [he, h] at hp; cases hp
      simpa [SMap.get, hp, hne] using ih

/-- What leaves every field but some alone leaves the fields of other places alone. -/
theorem RegsBut.regsIf {s t : State} {l : List (Fld × Nat)} {p : Nat → Bool} (h : RegsBut s t l)
    (hl : ∀ x ∈ l, p (x.1.key x.2) = false) : RegsIf s t p :=
  fun f n hf => h f n fun x hx he => by have hx := hl x hx; rw [he, hf] at hx; cases hx

theorem RegsIf.mono {s t : State} {p q : Nat → Bool} (h : RegsIf s t p) (hq : ∀ k, q k = true → p k = true) : RegsIf s t q :=
  fun f n hf => h f n (hq _ hf)

/-- The fields of RESET_CAUSE (R559). -/
def causeFields : List Fld :=
  [F.SYS_RESET_CAUSE_PORST_PIN, F.SYS_RESET_CAUSE_SUPPLY, F.SYS_RESET_CAUSE_SYSRST_PIN, F.SYS_RESET_CAUSE_SW_RESET,
    F.SYS_RESET_CAUSE_THERMTRIP, F.SYS_RESET_CAUSE_SUPPLY_RAIL]

theorem causeFields_inVaux : ∀ f ∈ causeFields, inVaux (f.key 0) = true := by decide

section
variable (s : State)

/-- A power reset keeps the registers of the VAUX domain. -/
theorem RegsIf.coldReset_inVaux : RegsIf s s.coldReset inVaux :=
  fun f n hf => congrArg (· % 2 ^ f.width) (SMap.get_filter_key s.regs hf (f.reset n))

/-- It gives every other its reset value. -/
theorem RegsIf.coldReset_others : RegsIf State.reset s.coldReset (fun k => !inVaux k) :=
  fun f n hf => congrArg (· % 2 ^ f.width) (SMap.get_filter_dropped s.regs (by simpa using hf) (f.reset n))

/-! ### The cause that a power reset tells -/

theorem State.powerReset_eq (cause : Fld) : s.powerReset cause =
    if s.pins.tripped then (s.coldReset.wr cause 0 1).wr F.SYS_RESET_CAUSE_THERMTRIP 0 1 else s.coldReset.wr cause 0 1 := rfl

/-- The cause shows in the registers alone. -/
theorem State.powerReset_regs (cause : Fld) : ∃ m, s.powerReset cause = { s.coldReset with regs := m } := by
  rw [s.powerReset_eq]
  split <;> exact ⟨_, rfl⟩

theorem RegsBut.powerReset (cause : Fld) :
    RegsBut s.coldReset (s.powerReset cause) [(cause, 0), (F.SYS_RESET_CAUSE_THERMTRIP, 0)] := by
  have hcause : RegsBut s.coldReset (s.coldReset.wr cause 0 1) [(cause, 0), (F.SYS_RESET_CAUSE_THERMTRIP, 0)] :=
    RegsBut.refl.wr 1 (by simp)
  rw [s.powerReset_eq]
  exact .ite (hcause.wr 1 (by simp)) hcause

variable {cause : Fld}

theorem State.powerReset_on_cause (hw : cause.width = 1) (hk : F.SYS_RESET_CAUSE_THERMTRIP.key 0 ≠ cause.key 0) :
    (s.powerReset cause).on cause = true := by
  rw [s.powerReset_eq]
  split
  · rw [State.on_wr_other _ _ _ hk, State.on_wr_one _ _ _ hw]
  · exact State.on_wr_one _ _ _ hw

/-- A thermal trip that preceded the reset is told beside its cause. -/
theorem State.powerReset_on_thermtrip (hk : cause.key 0 ≠ F.SYS_RESET_CAUSE_THERMTRIP.key 0) :
    (s.powerReset cause).on F.SYS_RESET_CAUSE_THERMTRIP = (s.pins.tripped || s.on F.SYS_RESET_CAUSE_THERMTRIP) := by
  rw [s.powerReset_eq]
  cases s.pins.tripped with
  | true => exact State.on_wr_one _ _ _ rfl
  | false =>
    rw [if_neg Bool.false_ne_true, State.on_wr_other _ _ _ hk, Bool.false_or]
    exact (RegsIf.coldReset_inVaux s).on (by decide)

/-- Outside the VAUX domain every register is at reset. -/
theorem RegsIf.powerReset_others (hc : inVaux (cause.key 0) = true) : RegsIf State.reset (s.powerReset cause) (fun k => !inVaux k) := by
  refine (RegsIf.coldReset_others s).trans ((RegsBut.powerReset s cause).regsIf ?_)
  simp only [List.forall_mem_cons, hc, causeFields_inVaux F.SYS_RESET_CAUSE_THERMTRIP (by simp [causeFields])]
  simp

end

/-! ### The supply monitors (R549) -/

/-- The power reset of a rail, which RESET_CAUSE names. -/
def State.railTripped (s : State) (rail : Nat) : State := (s.powerReset F.SYS_RESET_CAUSE_SUPPLY).wr F.SYS_RESET_CAUSE_SUPPLY_RAIL 0 rail

/-- RESET_CAUSE is lost. -/
def State.causesLost (t : State) : State := causeFields.foldl (fun t f => t.wr f 0 0) t

theorem RegsBut.causesLost (t : State) : RegsBut t t.causesLost (causeFields.map (·, 0)) :=
  ((((((RegsBut.refl.wr 0 (by simp [causeFields])).wr 0 (by simp [causeFields])).wr 0 (by simp [causeFields])).wr 0
    (by simp [causeFields])).wr 0 (by simp [causeFields])).wr 0 (by simp [causeFields]))

theorem State.causesLost_on_supply (t : State) : t.causesLost.on F.SYS_RESET_CAUSE_SUPPLY = false := by
  have hlater : RegsBut ((t.wr F.SYS_RESET_CAUSE_PORST_PIN 0 0).wr F.SYS_RESET_CAUSE_SUPPLY 0 0) t.causesLost
      ((causeFields.drop 2).map (·, 0)) :=
    (((RegsBut.refl.wr 0 (by simp [causeFields])).wr 0 (by simp [causeFields])).wr 0 (by simp [causeFields])).wr 0 (by simp [causeFields])
  rw [hlater.on (by decide)]
  exact State.on_wr_zero _ _ _

theorem State.causesLost_rd_rail (t : State) : t.causesLost.rd F.SYS_RESET_CAUSE_SUPPLY_RAIL = 0 := State.rd_wr_same _ _ _ _

section
variable (s : State)

theorem RegsIf.railTripped_others (rail : Nat) : RegsIf State.reset (s.railTripped rail) (fun k => !inVaux k) :=
  (RegsIf.powerReset_others s (by decide)).trans (.wr _ _ (by decide))

theorem State.railTripped_on_supply (rail : Nat) : (s.railTripped rail).on F.SYS_RESET_CAUSE_SUPPLY = true := by
  rw [State.railTripped, State.on_wr_other _ _ _ (by decide)]
  exact s.powerReset_on_cause rfl (by decide)

theorem State.railTripped_rd_rail (rail : Nat) : (s.railTripped rail).rd F.SYS_RESET_CAUSE_SUPPLY_RAIL = rail % 8 := State.rd_wr_same _ _ _ _

theorem State.railTripped_regs (rail : Nat) : ∃ m, s.railTripped rail = { s.coldReset with regs := m } := by
  obtain ⟨m, h⟩ := s.powerReset_regs F.SYS_RESET_CAUSE_SUPPLY
  exact ⟨_, by rw [State.railTripped, h]; rfl⟩

theorem execSupplyMonitorTrip_eq (rail : Fin 7) : execSupplyMonitorTrip rail s =
    .next (if rail.val = 6 then (s.railTripped rail.val).causesLost else s.railTripped rail.val) := rfl

end

/-! ### The pools of control memory (R211) -/

/-- The pools that wait exceed 16 MiB. -/
def State.poolsExceed (s : State) : Bool :=
  decide (16777216 < sumOf (List.range 4) (fun c => s.rd F.BUF_POOL_COUNT_NEXT_COUNT_NEXT c * (64 * 4 ^ c)))

/-- One pool takes the count that waits for it, or that of its reset. -/
def State.countPool (exceeds : Bool) (t : State) (c : Nat) : State :=
  let v := if exceeds then F.BUF_POOL_COUNT_COUNT.reset c else t.rd F.BUF_POOL_COUNT_NEXT_COUNT_NEXT c
  (t.wr F.BUF_POOL_COUNT_COUNT c v).wr F.BUF_POOL_FREE_FREE c v

/-- All four do. -/
def State.countPools (s : State) : State := (List.range 4).foldl (State.countPool s.poolsExceed) s

/-- The count that a pool takes. -/
def State.poolTakes (s : State) (c : Nat) : Nat :=
  if s.poolsExceed then F.BUF_POOL_COUNT_COUNT.reset c else s.rd F.BUF_POOL_COUNT_NEXT_COUNT_NEXT c

/-- The counts of the pools, and what is free of them. -/
def poolFields : List (Fld × Nat) := (List.range 4).flatMap (fun c => [(F.BUF_POOL_COUNT_COUNT, c), (F.BUF_POOL_FREE_FREE, c)])

theorem poolFields_apart_next : ∀ c : Fin 4, ∀ x ∈ poolFields, x.1.key x.2 ≠ F.BUF_POOL_COUNT_NEXT_COUNT_NEXT.key c.val := by decide

theorem poolCount_ne_free : ∀ c k : Fin 4, F.BUF_POOL_FREE_FREE.key c.val ≠ F.BUF_POOL_COUNT_COUNT.key k.val := by decide

theorem poolCount_ne_count : ∀ c k : Fin 4, c ≠ k → F.BUF_POOL_COUNT_COUNT.key c.val ≠ F.BUF_POOL_COUNT_COUNT.key k.val := by decide

theorem poolFree_ne_free : ∀ c k : Fin 4, c ≠ k → F.BUF_POOL_FREE_FREE.key c.val ≠ F.BUF_POOL_FREE_FREE.key k.val := by decide

theorem mem_poolFields : ∀ c : Fin 4, (F.BUF_POOL_COUNT_COUNT, c.val) ∈ poolFields ∧ (F.BUF_POOL_FREE_FREE, c.val) ∈ poolFields := by
  intro c
  have hc : c.val ∈ List.range 4 := List.mem_range.mpr c.isLt
  exact ⟨List.mem_flatMap.mpr ⟨_, hc, by simp⟩, List.mem_flatMap.mpr ⟨_, hc, by simp⟩⟩

section
variable (s : State)

theorem State.poolsExceed_eq : s.poolsExceed =
    decide (16777216 < 64 * s.rd F.BUF_POOL_COUNT_NEXT_COUNT_NEXT 0 + 256 * s.rd F.BUF_POOL_COUNT_NEXT_COUNT_NEXT 1 +
      1024 * s.rd F.BUF_POOL_COUNT_NEXT_COUNT_NEXT 2 + 4096 * s.rd F.BUF_POOL_COUNT_NEXT_COUNT_NEXT 3) := by
  refine decide_eq_decide.mpr ?_
  have hsum (f : Nat → Nat) : sumOf (List.range 4) f = 0 + f 0 + f 1 + f 2 + f 3 := rfl
  rw [hsum]
  omega

/-- No count is cut to its field. -/
theorem State.poolTakes_lt (c : Fin 4) : s.poolTakes c.val < 2 ^ 17 := by
  have hreset : ∀ c : Fin 4, F.BUF_POOL_COUNT_COUNT.reset c.val < 2 ^ 17 := by decide
  unfold State.poolTakes
  split
  · exact hreset c
  · exact s.rd_lt F.BUF_POOL_COUNT_NEXT_COUNT_NEXT c.val

theorem RegsBut.countPool {s t : State} (h : RegsBut s t poolFields) (exceeds : Bool) (c : Fin 4) :
    RegsBut s (t.countPool exceeds c.val) poolFields :=
  (h.wr _ (mem_poolFields c).1).wr _ (mem_poolFields c).2

theorem RegsBut.countPools : RegsBut s s.countPools poolFields :=
  foldl_keeps (f := fun t (c : Fin 4) => State.countPool s.poolsExceed t c.val) (I := fun t => RegsBut s t poolFields)
    (fun _ c h => h.countPool _ c) (List.finRange 4) .refl

theorem State.countPools_regs : ∃ m, s.countPools = { s with regs := m } := ⟨_, rfl⟩

/-- Both words of a pool show what it takes. -/
theorem State.countPool_rd {s t : State} (h : RegsBut s t poolFields) (c : Fin 4) :
    (t.countPool s.poolsExceed c.val).rd F.BUF_POOL_COUNT_COUNT c.val = s.poolTakes c.val ∧
      (t.countPool s.poolsExceed c.val).rd F.BUF_POOL_FREE_FREE c.val = s.poolTakes c.val := by
  have hv : (if s.poolsExceed then F.BUF_POOL_COUNT_COUNT.reset c.val else t.rd F.BUF_POOL_COUNT_NEXT_COUNT_NEXT c.val) = s.poolTakes c.val := by
    rw [h _ _ (poolFields_apart_next c), State.poolTakes]
  have hlt := Nat.mod_eq_of_lt (s.poolTakes_lt c)
  simp only [State.countPool, hv]
  rw [State.rd_wr_other _ _ _ (poolCount_ne_free c c), State.rd_wr_same, State.rd_wr_same]
  exact ⟨hlt, hlt⟩

/-- Another pool leaves them. -/
theorem State.countPools_rd (c : Fin 4) :
    s.countPools.rd F.BUF_POOL_COUNT_COUNT c.val = s.poolTakes c.val ∧ s.countPools.rd F.BUF_POOL_FREE_FREE c.val = s.poolTakes c.val := by
  refine foldl_brings (f := fun t (c : Fin 4) => State.countPool s.poolsExceed t c.val) (I := fun t => RegsBut s t poolFields)
    (P := fun t => t.rd F.BUF_POOL_COUNT_COUNT c.val = s.poolTakes c.val ∧ t.rd F.BUF_POOL_FREE_FREE c.val = s.poolTakes c.val)
    (fun _ c h => h.countPool _ c) (fun t k hregs h => ?_) (fun t hregs => State.countPool_rd hregs c) (List.mem_finRange c) .refl
  by_cases hk : k = c
  · rw [hk]
    exact State.countPool_rd hregs c
  · rw [State.countPool, State.rd_wr_other _ _ _ (poolCount_ne_free k c), State.rd_wr_other _ _ _ (poolCount_ne_count k c hk),
      State.rd_wr_other _ _ _ (poolFree_ne_free k c hk), State.rd_wr_other _ _ _ (poolCount_ne_free c k).symm]
    exact h

theorem State.loadPools_eq : s.loadPools = if s.poolsExceed then s.countPools.raiseFault 30 6 0 else s.countPools := rfl

/-- The pools show in their words, and a refusal of their sum as a fault (R211). -/
theorem State.loadPools_moves : ∃ m, s.loadPools =
    { s with regs := m, flt := { s.flt with held := s.flt.held ++ (if s.poolsExceed then [⟨30, 6, 0, 0, 0⟩] else []) } } := by
  obtain ⟨m, h⟩ := s.countPools_regs
  refine ⟨m, ?_⟩
  rw [s.loadPools_eq, h]
  split
  · rfl
  · rw [List.append_nil]

theorem State.loadPools_regs : s.loadPools.regs = s.countPools.regs := by
  rw [s.loadPools_eq]
  split <;> rfl

end

/-! ### What a start latches (R211, R345, R522, R542) -/

/-- The straps, and the counts that wait. -/
def State.countsTaken (s : State) (straps : Nat) : State :=
  ((s.wr F.SYS_STRAP_VALUE 0 straps).loadPools.wr F.EVR_RING_GIB 0 (s.rd F.EVR_RING_NEXT_GIB)).clampPins

/-- The fuses are sensed: OWNER_EN shows that an owner's hash is fused (R522). -/
def State.ownerSensed (t : State) : State := if t.idn.ownerHash.isSome then t.wr F.IDN_STATUS_OWNER_EN 0 1 else t
/-- ROLLBACK shows the fused value. -/
def State.rollbackSensed (t : State) : State :=
  match t.idn.rollback with
  | some n => t.wr F.IDN_STATUS_ROLLBACK 0 n
  | none => t

theorem State.latchStart_eq (s : State) (straps : Nat) : s.latchStart straps = (s.countsTaken straps).ownerSensed.rollbackSensed := rfl

section
variable (s : State) (straps : Nat)

theorem RegsBut.ownerSensed : RegsBut s s.ownerSensed [(F.IDN_STATUS_OWNER_EN, 0)] := .ite (RegsBut.refl.wr 1 (by simp)) .refl

theorem RegsBut.rollbackSensed : RegsBut s s.rollbackSensed [(F.IDN_STATUS_ROLLBACK, 0)] := by
  unfold State.rollbackSensed
  split
  · exact RegsBut.refl.wr _ (by simp)
  · exact .refl

theorem State.ownerSensed_regs : ∃ m, s.ownerSensed = { s with regs := m } := by
  unfold State.ownerSensed
  split <;> exact ⟨_, rfl⟩

theorem State.rollbackSensed_regs : ∃ m, s.rollbackSensed = { s with regs := m } := by
  unfold State.rollbackSensed
  split <;> exact ⟨_, rfl⟩

theorem State.ownerSensed_on : s.ownerSensed.on F.IDN_STATUS_OWNER_EN = (s.idn.ownerHash.isSome || s.on F.IDN_STATUS_OWNER_EN) := by
  unfold State.ownerSensed
  cases s.idn.ownerHash.isSome with
  | true => exact State.on_wr_one _ _ _ rfl
  | false => rfl

theorem strap_ne_next : ∀ c < 4, F.SYS_STRAP_VALUE.key 0 ≠ F.BUF_POOL_COUNT_NEXT_COUNT_NEXT.key c := by decide

theorem State.poolsExceed_strap : (s.wr F.SYS_STRAP_VALUE 0 straps).poolsExceed = s.poolsExceed := by
  rw [State.poolsExceed_eq, State.poolsExceed_eq, State.rd_wr_other _ _ _ (strap_ne_next 0 (by decide)),
    State.rd_wr_other _ _ _ (strap_ne_next 1 (by decide)), State.rd_wr_other _ _ _ (strap_ne_next 2 (by decide)),
    State.rd_wr_other _ _ _ (strap_ne_next 3 (by decide))]

theorem State.poolTakes_strap (c : Fin 4) : (s.wr F.SYS_STRAP_VALUE 0 straps).poolTakes c.val = s.poolTakes c.val := by
  rw [State.poolTakes, State.poolTakes, s.poolsExceed_strap, State.rd_wr_other _ _ _ (strap_ne_next c.val c.isLt)]

/-- The straps are latched and the pools counted. -/
def State.poolsCounted : State := (s.wr F.SYS_STRAP_VALUE 0 straps).loadPools

theorem RegsBut.poolsCounted : RegsBut (s.wr F.SYS_STRAP_VALUE 0 straps) (s.poolsCounted straps) poolFields :=
  (RegsBut.countPools _).congr (State.loadPools_regs _)

theorem State.countsTaken_eq : s.countsTaken straps =
    ((s.poolsCounted straps).wr F.EVR_RING_GIB 0 (s.rd F.EVR_RING_NEXT_GIB)).clampPins := rfl

/-- What follows the pools moves EVR.RING alone. -/
theorem RegsBut.countsTaken_poolsCounted : RegsBut (s.poolsCounted straps) (s.countsTaken straps)
    [(F.EVR_RING_GIB, 0), (F.EVR_RING_PIN_LIMIT_GIB, 0)] :=
  (RegsBut.refl.wr _ (by simp)).wr _ (by simp)

theorem RegsBut.countsTaken : RegsBut s (s.countsTaken straps)
    (poolFields ++ [(F.SYS_STRAP_VALUE, 0), (F.EVR_RING_GIB, 0), (F.EVR_RING_PIN_LIMIT_GIB, 0)]) := by
  have hstrap : RegsBut s (s.wr F.SYS_STRAP_VALUE 0 straps)
      (poolFields ++ [(F.SYS_STRAP_VALUE, 0), (F.EVR_RING_GIB, 0), (F.EVR_RING_PIN_LIMIT_GIB, 0)]) := RegsBut.refl.wr _ (by simp)
  refine (hstrap.trans ((RegsBut.poolsCounted s straps).mono fun _ hx => List.mem_append_left _ hx)).trans ?_
  exact (RegsBut.countsTaken_poolsCounted s straps).mono fun _ hx => List.mem_append_right _ (List.mem_cons_of_mem _ hx)

theorem State.countsTaken_moves : ∃ m, s.countsTaken straps =
    { s with regs := m, flt := { s.flt with held := s.flt.held ++ (if s.poolsExceed then [⟨30, 6, 0, 0, 0⟩] else []) } } := by
  obtain ⟨m, h⟩ := (s.wr F.SYS_STRAP_VALUE 0 straps).loadPools_moves
  rw [s.poolsExceed_strap] at h
  exact ⟨_, by rw [s.countsTaken_eq, State.poolsCounted, h]; rfl⟩

theorem State.countsTaken_rd_strap : (s.countsTaken straps).rd F.SYS_STRAP_VALUE = straps % 256 := by
  rw [RegsBut.countsTaken_poolsCounted s straps _ _ (by decide), RegsBut.poolsCounted s straps _ _ (by decide)]
  exact State.rd_wr_same _ _ _ _

theorem State.countsTaken_rd_pool (c : Fin 4) :
    (s.countsTaken straps).rd F.BUF_POOL_COUNT_COUNT c.val = s.poolTakes c.val ∧
      (s.countsTaken straps).rd F.BUF_POOL_FREE_FREE c.val = s.poolTakes c.val := by
  have hring : ∀ c : Fin 4, ∀ x ∈ [(F.EVR_RING_GIB, 0), (F.EVR_RING_PIN_LIMIT_GIB, 0)],
      x.1.key x.2 ≠ F.BUF_POOL_COUNT_COUNT.key c.val ∧ x.1.key x.2 ≠ F.BUF_POOL_FREE_FREE.key c.val := by decide
  have hregs := RegsBut.countsTaken_poolsCounted s straps
  rw [hregs _ _ fun x hx => (hring c x hx).1, hregs _ _ fun x hx => (hring c x hx).2, State.poolsCounted,
    State.rd_congr (State.loadPools_regs _), State.rd_congr (State.loadPools_regs _), ← s.poolTakes_strap straps c]
  exact State.countPools_rd _ c

theorem State.ringCounted_rd_gib :
    ((s.poolsCounted straps).wr F.EVR_RING_GIB 0 (s.rd F.EVR_RING_NEXT_GIB)).rd F.EVR_RING_GIB = s.rd F.EVR_RING_NEXT_GIB :=
  (State.rd_wr_same _ _ _ _).trans (Nat.mod_eq_of_lt (s.rd_lt F.EVR_RING_NEXT_GIB 0))

theorem State.countsTaken_rd_gib : (s.countsTaken straps).rd F.EVR_RING_GIB = s.rd F.EVR_RING_NEXT_GIB := by
  rw [s.countsTaken_eq, State.clampPins, State.rd_wr_other _ _ _ (by decide), s.ringCounted_rd_gib]

/-- PIN_LIMIT_GIB keeps 8 GiB of the ring free (R356). -/
theorem State.countsTaken_rd_pinLimit :
    (s.countsTaken straps).rd F.EVR_RING_PIN_LIMIT_GIB = min (s.rd F.EVR_RING_PIN_LIMIT_GIB) (s.rd F.EVR_RING_NEXT_GIB - 8) := by
  have hlimit : ((s.poolsCounted straps).wr F.EVR_RING_GIB 0 (s.rd F.EVR_RING_NEXT_GIB)).rd F.EVR_RING_PIN_LIMIT_GIB =
      s.rd F.EVR_RING_PIN_LIMIT_GIB := by
    rw [State.rd_wr_other _ _ _ (by decide), RegsBut.poolsCounted s straps _ _ (by decide), State.rd_wr_other _ _ _ (by decide)]
  rw [s.countsTaken_eq, State.clampPins, s.ringCounted_rd_gib, hlimit, State.rd_wr_same]
  exact Nat.mod_eq_of_lt (lt_of_le_of_lt (Nat.min_le_left _ _) (s.rd_lt F.EVR_RING_PIN_LIMIT_GIB 0))

/-! ### The start itself -/

/-- The fuses show in two fields of IDN.STATUS. -/
theorem RegsBut.latchStart_countsTaken : RegsBut (s.countsTaken straps) (s.latchStart straps)
    [(F.IDN_STATUS_OWNER_EN, 0), (F.IDN_STATUS_ROLLBACK, 0)] :=
  ((RegsBut.ownerSensed _).mono (by simp)).trans ((RegsBut.rollbackSensed _).mono (by simp))

theorem RegsBut.latchStart : RegsBut s (s.latchStart straps) (poolFields ++ [(F.SYS_STRAP_VALUE, 0), (F.EVR_RING_GIB, 0),
    (F.EVR_RING_PIN_LIMIT_GIB, 0), (F.IDN_STATUS_OWNER_EN, 0), (F.IDN_STATUS_ROLLBACK, 0)]) :=
  ((RegsBut.countsTaken s straps).append (RegsBut.latchStart_countsTaken s straps)).mono (by simp)

theorem State.latchStart_moves : ∃ m, s.latchStart straps =
    { s with regs := m, flt := { s.flt with held := s.flt.held ++ (if s.poolsExceed then [⟨30, 6, 0, 0, 0⟩] else []) } } := by
  obtain ⟨m, h⟩ := s.countsTaken_moves straps
  obtain ⟨m', h'⟩ := (s.countsTaken straps).ownerSensed_regs
  obtain ⟨m'', h''⟩ := (s.countsTaken straps).ownerSensed.rollbackSensed_regs
  exact ⟨m'', by rw [s.latchStart_eq, h'', h', h]⟩

theorem State.latchStart_on_ownerEn :
    (s.latchStart straps).on F.IDN_STATUS_OWNER_EN = (s.idn.ownerHash.isSome || s.on F.IDN_STATUS_OWNER_EN) := by
  obtain ⟨m, h⟩ := s.countsTaken_moves straps
  have hidn : (s.countsTaken straps).idn = s.idn := by rw [h]
  rw [s.latchStart_eq, (RegsBut.rollbackSensed _).on (by decide), State.ownerSensed_on, hidn, (RegsBut.countsTaken s straps).on (by decide)]

end

/-- The resets end, and a trip with them where the part has cooled (R510). -/
def State.resetsEnd (t : State) (cool : Bool) : State :=
  t.setPins (fun p => { p with porst := false, sysrst := false, tripped := p.tripped && !cool, drive := .functional })

/-- PORST_N released: the start is latched, and the resets end. -/
def State.porstReleased (s : State) (straps : Nat) (cool : Bool) : State := (s.inside (s.latchStart straps)).resetsEnd cool

theorem execPorstNRelease_asserted {s : State} (h : s.pins.porst = true) (straps : BitVec 8) (cool : Bool) :
    execPorstNRelease straps cool s = .next (s.porstReleased straps.toNat cool) := by
  rw [execPorstNRelease, if_pos h, State.when_true s rfl, State.porstReleased, State.resetsEnd]

/-- The end of the resets shows in the pins alone. -/
theorem State.resetsEnd_regs (t : State) (cool : Bool) : (t.resetsEnd cool).regs = t.regs := rfl

theorem State.porstReleased_regs (s : State) (straps : Nat) (cool : Bool) :
    (s.porstReleased straps cool).regs = (s.latchStart straps).regs := by
  rw [State.porstReleased, State.resetsEnd_regs, State.inside_regs]

theorem State.porstReleased_moves (s : State) (straps : Nat) (cool : Bool) :
    (s.porstReleased straps cool).pins = { s.pins with porst := false, sysrst := false, tripped := s.pins.tripped && !cool, drive := .functional } ∧
      (s.porstReleased straps cool).flt.held = s.flt.held ++ (if s.poolsExceed then [⟨30, 6, 0, 0, 0⟩] else []) ∧
      (s.porstReleased straps cool).pending = s.pending := by
  obtain ⟨m, h⟩ := s.latchStart_moves straps
  rw [State.porstReleased, h]
  exact ⟨rfl, rfl, rfl⟩

end Sys2Proof.Machine

namespace Sys2Proof.Proofs
open Sys2Proof.Machine

/-- PORST_N (R550). -/
theorem porstNAssert_resets (s : State) :
    Completes (.porstNAssert) s (fun t => t = { State.reset with regs := t.regs, idn := { ownerHash := s.idn.ownerHash, rollback := s.idn.rollback }, pins := { porst := true, tripped := s.pins.tripped, perst := s.pins.perst, ir := s.pins.ir, boundary := s.pins.boundary, vid := s.pins.vid, drive := s.pins.drive }, freeCount := s.freeCount, pending := s.pending } ∧
    t.on F.SYS_RESET_CAUSE_PORST_PIN = true ∧ t.on F.SYS_RESET_CAUSE_THERMTRIP = (s.pins.tripped || s.on F.SYS_RESET_CAUSE_THERMTRIP) ∧
    RegsIf State.reset t (fun k => !inVaux k) ∧
    RegsIf s t (fun k => inVaux k && k != F.SYS_RESET_CAUSE_PORST_PIN.key 0 && k != F.SYS_RESET_CAUSE_THERMTRIP.key 0)) := by
  refine ⟨s.powerReset F.SYS_RESET_CAUSE_PORST_PIN, rfl, ?_, s.powerReset_on_cause rfl (by decide), s.powerReset_on_thermtrip (by decide),
    .powerReset_others s (by decide), ?_⟩
  · obtain ⟨m, h⟩ := s.powerReset_regs F.SYS_RESET_CAUSE_PORST_PIN
    rw [h]
    rfl
  · refine ((RegsIf.coldReset_inVaux s).mono ?_).trans ((RegsBut.powerReset s F.SYS_RESET_CAUSE_PORST_PIN).regsIf ?_)
    · intro k hk
      simp only [Bool.and_eq_true] at hk
      exact hk.1.1
    · simp

/-- The supply monitors (R549). -/
theorem supplyMonitorTrip_resets (s : State) (rail : Fin 7) :
    Completes (.supplyMonitorTrip rail) s (fun t => t = { State.reset with regs := t.regs, idn := { ownerHash := s.idn.ownerHash, rollback := s.idn.rollback }, pins := { porst := true, tripped := s.pins.tripped, perst := s.pins.perst, ir := s.pins.ir, boundary := s.pins.boundary, vid := s.pins.vid, drive := s.pins.drive }, freeCount := s.freeCount, pending := s.pending } ∧
    t.on F.SYS_RESET_CAUSE_SUPPLY = (rail.val != 6) ∧ t.rd F.SYS_RESET_CAUSE_SUPPLY_RAIL = rail.val % 6 ∧
    RegsIf State.reset t (fun k => !inVaux k)) := by
  refine ⟨_, execSupplyMonitorTrip_eq s rail, ?_⟩
  obtain ⟨m, h⟩ := s.railTripped_regs rail.val
  by_cases h6 : rail.val = 6
  · rw [if_pos h6, State.causesLost_on_supply, State.causesLost_rd_rail, h6]
    refine ⟨by rw [h6] at h; rw [h]; rfl, rfl, rfl, (RegsIf.railTripped_others s 6).trans ((RegsBut.causesLost _).regsIf ?_)⟩
    exact List.forall_mem_map.mpr fun f hf => by rw [causeFields_inVaux f hf]; rfl
  · rw [if_neg h6, State.railTripped_on_supply, State.railTripped_rd_rail]
    refine ⟨by rw [h]; rfl, by simp [h6], ?_, RegsIf.railTripped_others s rail.val⟩
    have := rail.isLt
    omega

/-- VAUX comes up (R559, R547). -/
theorem vauxPowerUp_resets (s : State) :
    Completes (.vauxPowerUp) s (fun t => t = { State.reset with regs := [], idn := { ownerHash := s.idn.ownerHash, rollback := s.idn.rollback }, pins := { porst := true, perst := s.pins.perst, vid := Config.fusedVid % 21 }, freeCount := s.freeCount, pending := s.pending }) :=
  ⟨_, rfl, rfl⟩

/-- The release of PORST_N (R211, R345, R510, R522, R542). -/
theorem porstNRelease_latches (s : State) (straps : BitVec 8) (cool : Bool) (c : Fin 4) (hporst : s.pins.porst = true) :
    let next := fun n : Nat => s.rd F.BUF_POOL_COUNT_NEXT_COUNT_NEXT n
    let exceeds := decide (16777216 < 64 * next 0 + 256 * next 1 + 1024 * next 2 + 4096 * next 3)
    let count := if exceeds = true then F.BUF_POOL_COUNT_COUNT.reset c.val else next c.val
    Completes (.porstNRelease straps cool) s (fun t => t.pins = { s.pins with porst := false, sysrst := false, tripped := s.pins.tripped && !cool, drive := .functional } ∧
    t.rd F.SYS_STRAP_VALUE = straps.toNat ∧ t.rd F.BUF_POOL_COUNT_COUNT c.val = count ∧ t.rd F.BUF_POOL_FREE_FREE c.val = count ∧
    t.rd F.EVR_RING_GIB = s.rd F.EVR_RING_NEXT_GIB ∧ t.rd F.EVR_RING_PIN_LIMIT_GIB = min (s.rd F.EVR_RING_PIN_LIMIT_GIB) (s.rd F.EVR_RING_NEXT_GIB - 8) ∧
    t.on F.IDN_STATUS_OWNER_EN = (s.idn.ownerHash.isSome || s.on F.IDN_STATUS_OWNER_EN) ∧
    t.flt.held = s.flt.held ++ (if exceeds = true then [⟨30, 6, 0, 0, 0⟩] else []) ∧ t.pending = s.pending ∧
    RegsBut s t ((List.range 4).flatMap (fun c => [(F.BUF_POOL_COUNT_COUNT, c), (F.BUF_POOL_FREE_FREE, c)]) ++
      [(F.SYS_STRAP_VALUE, 0), (F.EVR_RING_GIB, 0), (F.EVR_RING_PIN_LIMIT_GIB, 0), (F.IDN_STATUS_OWNER_EN, 0), (F.IDN_STATUS_ROLLBACK, 0)])) := by
  intro next exceeds count
  have hexceeds : s.poolsExceed = exceeds := s.poolsExceed_eq
  have hcount : s.poolTakes c.val = count := by rw [State.poolTakes, hexceeds]
  refine ⟨_, execPorstNRelease_asserted hporst straps cool, ?_⟩
  have hfuses : RegsBut (s.countsTaken straps.toNat) (s.porstReleased straps.toNat cool)
      [(F.IDN_STATUS_OWNER_EN, 0), (F.IDN_STATUS_ROLLBACK, 0)] :=
    (RegsBut.latchStart_countsTaken s straps.toNat).congr (s.porstReleased_regs _ _)
  have hidn : ∀ c : Fin 4, ∀ x ∈ [(F.IDN_STATUS_OWNER_EN, 0), (F.IDN_STATUS_ROLLBACK, 0)],
      x.1.key x.2 ≠ F.BUF_POOL_COUNT_COUNT.key c.val ∧ x.1.key x.2 ≠ F.BUF_POOL_FREE_FREE.key c.val := by decide
  obtain ⟨hsize, hfree⟩ := s.countsTaken_rd_pool straps.toNat c
  obtain ⟨hpins, hheld, hpending⟩ := s.porstReleased_moves straps.toNat cool
  refine ⟨hpins, ?_, ?_, ?_, ?_, ?_, ?_, ?_, hpending, (RegsBut.latchStart s straps.toNat).congr (s.porstReleased_regs _ _)⟩
  · rw [hfuses _ _ (by decide), s.countsTaken_rd_strap]
    exact Nat.mod_eq_of_lt straps.isLt
  · rw [hfuses _ _ fun x hx => (hidn c x hx).1, hsize, hcount]
  · rw [hfuses _ _ fun x hx => (hidn c x hx).2, hfree, hcount]
  · rw [hfuses _ _ (by decide), s.countsTaken_rd_gib]
  · rw [hfuses _ _ (by decide), s.countsTaken_rd_pinLimit]
  · rw [State.on_congr (s.porstReleased_regs _ _), s.latchStart_on_ownerEn]
  · rw [hheld, hexceeds]

/-- Settles O50: the reset by PORST_N and by a supply monitor, the power-up of VAUX, and the release. -/
theorem porstResetsTheWholePart : Obligations.PorstResetsTheWholePart :=
  ⟨porstNAssert_resets, supplyMonitorTrip_resets, vauxPowerUp_resets, porstNRelease_latches⟩

end Sys2Proof.Proofs
end

section
/-! Flow control that the displays of the shared buffer may start or end (R209, R210): what it leaves alone. -/

namespace Sys2Proof.Machine

/-- The buffer without its flow-control frames and the early warning. -/
def Buf.unsignalled (b : Buf) : Buf := { b with flow := [], flowTick := [], early := false }

/-- What the displays of the buffer show, and what flow control writes (R209, R210, R222). -/
def refreshFields : List (Fld × Nat) :=
  [(F.BUF_STATUS_ACTIVE_CELLS, 0), (F.BUF_FREE_CELLS, 0), (F.BUF_SHARED_USED, 0), (F.BUF_SHARED_TOTAL_TOTAL, 0),
    (F.BUF_INT_STATUS_GLOBAL_EW, 0), (F.EVR_INT_STATUS_GAP, 0)] ++ (List.range 512).map (fun p => (F.BUF_ING_PORT_STATE_XOFF_STATE, p))

theorem xoffState_mem_refreshFields {p : Nat} (h : p < 512) : (F.BUF_ING_PORT_STATE_XOFF_STATE, p) ∈ refreshFields :=
  List.mem_append_right _ (List.mem_map.mpr ⟨p, List.mem_range.mpr h, rfl⟩)

/-- t differs from s by displays of the buffer and by flow control at most. -/
structure State.Signalled (s t : State) : Prop where
  regs : RegsBut s t refreshFields
  flt : t.flt = s.flt
  buf : t.buf.unsignalled = s.buf.unsignalled
  counts : ∀ k, k ∉ sideCounts → t.cntTick.get k 0 = s.cntTick.get k 0

namespace State.Signalled
variable {s t u : State}

theorem refl : s.Signalled s := ⟨.refl, rfl, rfl, fun _ _ => rfl⟩

theorem trans (h : s.Signalled t) (h' : t.Signalled u) : s.Signalled u :=
  ⟨h.regs.trans h'.regs, h'.flt.trans h.flt, h'.buf.trans h.buf, fun k hk => (h'.counts k hk).trans (h.counts k hk)⟩

theorem ite {c : Prop} [Decidable c] (h : s.Signalled t) (h' : s.Signalled u) : s.Signalled (if c then t else u) := by
  split
  · exact h
  · exact h'

theorem wr (h : s.Signalled t) {f : Fld} {n : Nat} (v : Nat) (hf : (f, n) ∈ refreshFields) : s.Signalled (t.wr f n v) :=
  h.trans ⟨RegsBut.refl.wr v hf, rfl, rfl, fun _ _ => rfl⟩

theorem bump (h : s.Signalled t) {g ev n : Nat} (hk : cntKey g ev n ∈ sideCounts) : s.Signalled (t.bump g ev n) :=
  h.trans ⟨.of_regs rfl, rfl, rfl, fun _ hne => t.bump_cntTick_other fun he => hne (he ▸ hk)⟩

theorem hand (h : s.Signalled t) (r : Record) : s.Signalled (t.hand r) :=
  h.trans ⟨(RegsBut.hand t r).mono (by simp [refreshFields]), t.hand_flt r, congrArg Buf.unsignalled (t.hand_buf r),
    fun _ hk => t.hand_cntTick_other fun he => hk (he ▸ by simp [sideCounts])⟩

theorem foldl {α : Type} {f : State → α → State} (hf : ∀ (t : State) x, t.Signalled (f t x)) (l : List α) (h : s.Signalled t) :
    s.Signalled (l.foldl f t) :=
  foldl_keeps (I := s.Signalled) (fun t x ht => ht.trans (hf t x)) l h

theorem sendFlow (h : s.Signalled t) (p ended : Nat) : s.Signalled (t.sendFlow p ended) := by
  have hsent : s.Signalled ((t.touch p).setBuf (fun b => { b with
      flow := b.flow ++ [⟨p, t.flowFrame p ended⟩], flowTick := b.flowTick.put p t.now 0 })) :=
    h.trans ⟨.of_regs rfl, rfl, rfl, fun _ _ => rfl⟩
  exact .ite (hsent.bump (by simp [sideCounts])) h

theorem flowTransition (h : s.Signalled t) {p : Nat} (hp : p < 512) (c : Nat) (xoff : Bool) : s.Signalled (t.flowTransition p c xoff) :=
  (((h.wr _ (xoffState_mem_refreshFields hp)).bump (by simp [sideCounts])).hand _).sendFlow _ _

theorem flowClass (h : s.Signalled t) {p : Nat} (hp : p < 512) (c : Nat) (forced : Bool) : s.Signalled (t.flowClass p c forced) :=
  .ite (h.flowTransition hp c true) (.ite (h.flowTransition hp c false) h)

/-- Only the ports of the front panel have lossless classes (R208). -/
theorem flowCheck (p : Nat) : s.Signalled (s.flowCheck p) := by
  unfold State.flowCheck
  by_cases hp : p < 512
  · exact .foldl (fun t c => refl.flowClass hp c false) _ .refl
  · have hnone : s.losslessClasses p = [] := if_pos (Nat.le_of_not_lt hp)
    rw [hnone]
    exact .refl

/-- The displays of the free store and the shared region move nothing else but flow control. -/
theorem refreshBuf (s : State) : s.Signalled s.refreshBuf := by
  have hshown (a b c d : Nat) : s.Signalled ((((s.wr F.BUF_STATUS_ACTIVE_CELLS 0 a).wr F.BUF_FREE_CELLS 0 b).wr F.BUF_SHARED_USED 0 c).wr
      F.BUF_SHARED_TOTAL_TOTAL 0 d) :=
    (((refl.wr a (by simp [refreshFields])).wr b (by simp [refreshFields])).wr c (by simp [refreshFields])).wr d (by simp [refreshFields])
  unfold State.refreshBuf
  dsimp only
  generalize hu : State.wr _ F.BUF_SHARED_TOTAL_TOTAL 0 _ = u
  have hs : s.Signalled u := hu ▸ hshown _ _ _ _
  have hwarn (e : Bool) : s.Signalled (u.setBuf (fun b => { b with early := e })) := hs.trans ⟨.of_regs rfl, rfl, rfl, fun _ _ => rfl⟩
  have hflag : s.Signalled ((u.setBuf (fun b => { b with early := true })).raiseBits F.BUF_INT_STATUS_GLOBAL_EW 0 1) :=
    (hwarn true).trans ⟨RegsBut.refl.raiseBits 1 (by simp [refreshFields]), rfl, rfl, fun _ _ => rfl⟩
  exact .ite (.foldl (fun _ p => .flowCheck p) _ hflag) (.ite (.foldl (fun _ p => .flowCheck p) _ (hwarn false)) hs)

end State.Signalled

end Sys2Proof.Machine
end

section
/-! The banks of the shared buffer (R216 to R220): sparing and retiring them, what the scrubber finds, and the bank test. -/

namespace Sys2Proof.Machine

/-! ### What the registers show of the banks -/

/-- The words of BANK_MAP, and the spares left (R222). -/
def bankFields : List (Fld × Nat) := [(F.BUF_BANK_MAP_PHYS, 0), (F.BUF_BANK_MAP_RETIRED, 0), (F.BUF_SPARE_STATUS_SPARES_LEFT, 0)]

theorem refreshFields_apart : ∀ x ∈ refreshFields, x.1.key x.2 ≠ F.BUF_INT_STATUS_SPARE_NONE.key 0 ∧
    x.1.key x.2 ≠ F.BUF_INT_STATUS_SPARE_USED.key 0 ∧ x.1.key x.2 ≠ F.BUF_STATUS_INIT_DONE.key 0 ∧
    x.1.key x.2 ≠ F.SYS_BOOT_STATUS_BUF_INIT.key 0 := by decide +kernel

section
variable (s : State)

theorem RegsBut.showBank : RegsBut s s.showBank bankFields :=
  ((RegsBut.refl.wr _ (by simp [bankFields])).wr _ (by simp [bankFields])).wr _ (by simp [bankFields])

theorem State.showBank_rd_sparesLeft :
    s.showBank.rd F.BUF_SPARE_STATUS_SPARES_LEFT = s.buf.spares.length % 2 ^ F.BUF_SPARE_STATUS_SPARES_LEFT.width := State.rd_wr_same _ _ _ _

/-! ### Sparing begins (R217, R218) -/

/-- A bank that is in service, and for which nothing is under way, waits to be spared. -/
theorem State.askSparing_waits {bank : Nat} (hb : bank < 60) (hr : s.buf.retired.contains bank = false)
    (hq : s.buf.spareReq.contains bank = false) (hs : s.buf.sparing = none) :
    s.askSparing bank = s.setBuf (fun b => { b with spareReq := b.spareReq ++ [bank] }) := by
  have hno : ¬ (60 ≤ bank ∨ s.buf.retired.contains bank ∨ s.buf.spareReq.contains bank ∨ (s.buf.sparing.map (fun x => x.bank)) = some bank) := by
    rw [hr, hq, hs]
    simpa using hb
  exact if_neg hno

/-- The first bank that waits takes a spare as its shadow. -/
def State.sparingBegun (bank sp : Nat) (rest more : List Nat) : State :=
  (((s.setBuf (fun b => { b with spareReq := rest, spares := more, sparing := some ⟨bank, sp, s.now⟩ })).wr
    F.BUF_SPARE_STATUS_MIGRATING 0 1).wr F.BUF_SPARE_STATUS_BANK 0 bank).showBank

variable {bank sp : Nat} {rest more : List Nat}

theorem execBankSparingStart_spare (hl : s.live = true)
    (h : s.buf.sparing = none ∧ s.buf.spareReq = bank :: rest ∧ s.buf.spares = sp :: more) :
    execBankSparingStart s = .next (s.inside (s.sparingBegun bank sp rest more)) := by
  obtain ⟨hnone, hreq, hspares⟩ := h
  rw [execBankSparingStart, State.when_true s (by simp [hl, hnone])]
  simp only [hreq, State.setBuf, hspares]
  rfl

theorem execBankSparingStart_none (hl : s.live = true)
    (h : s.buf.sparing = none ∧ s.buf.spareReq = bank :: rest ∧ s.buf.spares = []) :
    execBankSparingStart s = .next (s.inside ((s.setBuf (fun b => { b with spareReq := rest })).retireBank bank)) := by
  obtain ⟨hnone, hreq, hspares⟩ := h
  rw [execBankSparingStart, State.when_true s (by simp [hl, hnone])]
  simp only [hreq, State.setBuf, hspares]

theorem State.sparingBegun_eq : ∃ m, s.sparingBegun bank sp rest more =
    { s with regs := m, buf := { s.buf with spareReq := rest, spares := more, sparing := some ⟨bank, sp, s.now⟩ } } := ⟨_, rfl⟩

theorem State.sparingBegun_reads : (s.sparingBegun bank sp rest more).on F.BUF_SPARE_STATUS_MIGRATING = true ∧
    (s.sparingBegun bank sp rest more).rd F.BUF_SPARE_STATUS_BANK = bank % 2 ^ F.BUF_SPARE_STATUS_BANK.width ∧
    (s.sparingBegun bank sp rest more).rd F.BUF_SPARE_STATUS_SPARES_LEFT = more.length % 2 ^ F.BUF_SPARE_STATUS_SPARES_LEFT.width := by
  refine ⟨?_, ?_, State.showBank_rd_sparesLeft _⟩
  · rw [State.sparingBegun, (RegsBut.showBank _).on (by decide), State.on_wr_other _ _ _ (by decide)]
    exact State.on_wr_one _ _ _ rfl
  · rw [State.sparingBegun, RegsBut.showBank _ _ _ (by decide), State.rd_wr_same]

/-- A bank without a spare is retired, and the displays follow. -/
def State.bankRetired (bank : Nat) : State :=
  ((s.setBuf (fun b => { b with retired := b.retired ++ [bank] })).raiseBits F.BUF_INT_STATUS_SPARE_NONE 0 1).raiseFault 30 5 1 bank 0

theorem State.retireBank_eq (bank : Nat) : s.retireBank bank = (s.bankRetired bank).refreshBuf.showBank := rfl

theorem State.retireBank_flt (bank : Nat) : (s.retireBank bank).flt.held = s.flt.held ++ [⟨30, 5, 1, bank, 0⟩] :=
  congrArg Flt.held (State.Signalled.refreshBuf (s.bankRetired bank)).flt

theorem State.retireBank_buf (bank : Nat) :
    (s.retireBank bank).buf.unsignalled = { s.buf with retired := s.buf.retired ++ [bank] }.unsignalled :=
  (State.Signalled.refreshBuf (s.bankRetired bank)).buf

theorem State.retireBank_on (bank : Nat) : (s.retireBank bank).on F.BUF_INT_STATUS_SPARE_NONE = true := by
  rw [s.retireBank_eq, (RegsBut.showBank _).on (by decide),
    (State.Signalled.refreshBuf _).regs.on fun x hx => (refreshFields_apart x hx).1]
  exact State.on_raiseBits_one (s.setBuf _) _ _ rfl

/-! ### A spare in use (R217, R220) -/

/-- That a spare serves a bank is flagged, told as a fault, counted and recorded. -/
def State.spareTold (bank start : Nat) : State :=
  (((s.raiseBits F.BUF_INT_STATUS_SPARE_USED 0 1).raiseFault 30 4 2 bank 0).bump 7 9).eventRec 7 bank s.now 6 bank start s.now

theorem State.spareTold_flt (bank start : Nat) : (s.spareTold bank start).flt.held = s.flt.held ++ [⟨30, 4, 2, bank, 0⟩] :=
  congrArg Flt.held (State.hand_flt _ _)

theorem State.spareTold_buf (bank start : Nat) : (s.spareTold bank start).buf = s.buf := State.hand_buf _ _

theorem State.spareTold_on (bank start : Nat) : (s.spareTold bank start).on F.BUF_INT_STATUS_SPARE_USED = true := by
  rw [State.spareTold, State.eventRec, (RegsBut.hand _ _).on (by decide)]
  exact State.on_raiseBits_one s _ _ rfl

theorem State.spareTold_count (bank start : Nat) :
    (s.spareTold bank start).cntTick.get (cntKey 7 9 0) 0 = s.cntTick.get (cntKey 7 9 0) 0 + 1 :=
  (State.hand_cntTick_other _ (by decide)).trans (State.bump_cntTick_same _ _ _ _ _)

theorem RegsBut.spareTold (bank start : Nat) :
    RegsBut s (s.spareTold bank start) [(F.BUF_INT_STATUS_SPARE_USED, 0), (F.EVR_INT_STATUS_GAP, 0)] := by
  have hraised : RegsBut s (((s.raiseBits F.BUF_INT_STATUS_SPARE_USED 0 1).raiseFault 30 4 2 bank 0).bump 7 9)
      [(F.BUF_INT_STATUS_SPARE_USED, 0)] := (RegsBut.refl.raiseBits 1 (by simp)).congr rfl
  exact hraised.append (RegsBut.hand _ _)

/-- The map points to the shadow. -/
def State.shadowServes (x : Sparing) : State :=
  (s.setBuf (fun b => { b with sparing := none, bankMap := b.bankMap.put x.bank x.spare x.bank })).wr F.BUF_SPARE_STATUS_MIGRATING 0 0

theorem execBankSparingDone_copied (hl : s.live = true) {x : Sparing} (hx : s.buf.sparing = some x)
    (hcopied : x.start + 2 * (s.usedCells.filter (fun c => c / 16384 == x.bank)).length ≤ s.now) :
    execBankSparingDone s = .next (s.inside ((s.shadowServes x).spareTold x.bank x.start).showBank) := by
  rw [execBankSparingDone, State.whenLive_true s hl]
  simp only [hx, if_neg (Nat.not_lt.mpr hcopied)]
  rfl

end

end Sys2Proof.Machine

namespace Sys2Proof.Proofs
open Sys2Proof.Machine

theorem bankSparingStart_takesSpare (s : State) (bank sp : Nat) (rest more : List Nat) (hl : s.live = true)
    (h : s.buf.sparing = none ∧ s.buf.spareReq = bank :: rest ∧ s.buf.spares = sp :: more) :
    Completes (.bankSparingStart) s (fun t => t.buf = { s.buf with spareReq := rest, spares := more, sparing := some ⟨bank, sp, s.now⟩ } ∧
    t.on F.BUF_SPARE_STATUS_MIGRATING = true ∧ t.rd F.BUF_SPARE_STATUS_BANK = bank % 2 ^ F.BUF_SPARE_STATUS_BANK.width ∧
    t.rd F.BUF_SPARE_STATUS_SPARES_LEFT = more.length % 2 ^ F.BUF_SPARE_STATUS_SPARES_LEFT.width ∧ t = { s with regs := t.regs, buf := t.buf }) := by
  obtain ⟨hmigrating, hbank, hleft⟩ := s.sparingBegun_reads (bank := bank) (sp := sp) (rest := rest) (more := more)
  obtain ⟨m, hm⟩ := s.sparingBegun_eq (bank := bank) (sp := sp) (rest := rest) (more := more)
  refine ⟨_, execBankSparingStart_spare s hl h, ?_, hmigrating, hbank, hleft, ?_⟩
  all_goals
    rw [hm]
    rfl

theorem bankSparingStart_retires (s : State) (bank : Nat) (rest : List Nat) (hl : s.live = true)
    (h : s.buf.sparing = none ∧ s.buf.spareReq = bank :: rest ∧ s.buf.spares = []) :
    Completes (.bankSparingStart) s (fun t => t.buf.retired = s.buf.retired ++ [bank] ∧ t.on F.BUF_INT_STATUS_SPARE_NONE = true ∧ t.buf.spareReq = rest ∧ t.buf.sparing = none ∧
    t.flt.held = s.flt.held ++ [⟨30, 5, 1, bank, 0⟩]) := by
  have hbuf := (s.setBuf (fun b => { b with spareReq := rest })).retireBank_buf bank
  exact ⟨_, execBankSparingStart_none s hl h, congrArg Buf.retired hbuf, State.retireBank_on _ _, congrArg Buf.spareReq hbuf,
    (congrArg Buf.sparing hbuf).trans h.1, State.retireBank_flt _ _⟩

theorem bankSparingDone_points (s : State) (x : Sparing) (hl : s.live = true) (hx : s.buf.sparing = some x)
    (hcopied : x.start + 2 * (s.usedCells.filter (fun c => c / 16384 == x.bank)).length ≤ s.now) :
    Completes (.bankSparingDone) s (fun t => t.buf.sparing = none ∧ t.buf.bankMap = s.buf.bankMap.put x.bank x.spare x.bank ∧ t.on F.BUF_SPARE_STATUS_MIGRATING = false ∧
    t.on F.BUF_INT_STATUS_SPARE_USED = true ∧ t.flt.held = s.flt.held ++ [⟨30, 4, 2, x.bank, 0⟩] ∧
    t.cntTick.get (cntKey 7 9 0) 0 = s.cntTick.get (cntKey 7 9 0) 0 + 1 ∧ t.buf.stored = s.buf.stored) := by
  have hbuf := (s.shadowServes x).spareTold_buf x.bank x.start
  have hshow := RegsBut.showBank ((s.shadowServes x).spareTold x.bank x.start)
  refine ⟨_, execBankSparingDone_copied s hl hx hcopied, congrArg Buf.sparing hbuf, congrArg Buf.bankMap hbuf,
    (hshow.on (by decide)).trans ?_, (hshow.on (by decide)).trans (State.spareTold_on _ _ _), State.spareTold_flt _ _ _,
    State.spareTold_count _ _ _, (congrArg Buf.stored hbuf :)⟩
  rw [(RegsBut.spareTold _ _ _).on (by decide)]
  exact State.on_wr_zero _ _ _

end Sys2Proof.Proofs
end

section
/-! What the buffer scrubber finds (R216, R219). -/

namespace Sys2Proof.Machine

/-- A corrected error in a cell of a bank: a fault, a flag and a count. -/
def State.correctedTold (s : State) (bank c : Nat) : State := ((s.raiseFault 30 1 0 bank c).raiseBits F.BUF_INT_STATUS_ECC_CORR 0 1).bump 7 7 bank
/-- An uncorrectable one. -/
def State.uncorrectableTold (s : State) (bank c : Nat) : State :=
  ((s.raiseFault 30 2 1 bank c).raiseBits F.BUF_INT_STATUS_ECC_UNCORR 0 1).bump 7 8 bank

section
variable (s : State)

/-- A logical bank is one of 60, and its cells are counted from its place on. -/
theorem State.logicalBank_cell {phys bank c cell : Nat} (h : s.logicalBank phys = some bank) (hc : c = 16384 * bank + cell % 16384) :
    bank < 60 ∧ c / 16384 = bank := by
  have hb : bank < 60 := List.mem_range.mp (List.mem_of_find?_eq_some h)
  have hlt := Nat.mod_lt cell (show 0 < 16384 by decide)
  omega

theorem execBufferScrub_logical (hl : s.live = true) (hon : s.on F.BUF_SCRUB_CTRL_ENABLE = true) {cell : Fin 1048576} {bank : Nat}
    (h : s.logicalBank (cell.val / 16384) = some bank) (finding : Fin 4) : execBufferScrub (.cell cell) finding s =
      .next (s.inside (s.cellFinding (16384 * bank + cell.val % 16384) finding.val)) := by
  rw [execBufferScrub, State.when_true s (by rw [hl, hon]; rfl)]
  simp only [h]

theorem execBufferScrub_spare (hl : s.live = true) (hon : s.on F.BUF_SCRUB_CTRL_ENABLE = true) {cell : Fin 1048576}
    (h : s.logicalBank (cell.val / 16384) = none) (finding : Fin 4) : execBufferScrub (.cell cell) finding s =
      .next (s.inside (s.spareFinding cell.val finding.val)) := by
  rw [execBufferScrub, State.when_true s (by rw [hl, hon]; rfl)]
  simp only [h]

theorem execBufferScrub_control (hl : s.live = true) (hon : s.on F.BUF_SCRUB_CTRL_ENABLE = true) (unit : Fin 1048576) (finding : Fin 4) :
    execBufferScrub (.control unit) finding s = .next (s.inside (s.ctlFinding unit.val finding.val)) := by
  rw [execBufferScrub, State.when_true s (by rw [hl, hon]; rfl)]

/-- The ticks of corrected errors that the limit of a bank judges (R217). -/
def State.ceNoted (bank : Nat) : State :=
  s.setBuf (fun b => { b with ceTicks := b.ceTicks.filter (fun x => s.now < x.2 + 800000000) ++ [(bank, s.now)] })

/-- Without a limit a corrected error asks for no sparing. -/
theorem State.noteCorrected_unlimited (h : s.rd F.BUF_SPARE_CTRL_CE_LIMIT = 0) {c bank : Nat} (hc : c / 16384 = bank) :
    s.noteCorrected c = (s.correctedTold bank c).ceNoted bank := by
  have hlimit : ((s.correctedTold bank c).ceNoted bank).rd F.BUF_SPARE_CTRL_CE_LIMIT = 0 :=
    (State.rd_raiseBits_other (s.raiseFault 30 1 0 bank c) _ _ (by decide) 1).trans h
  rw [← hc] at hlimit ⊢
  exact if_neg fun hlim => hlim.1 hlimit

/-- The uncorrectable cell of a frame is marked, and its bank asks to be spared. -/
theorem State.cellFinding_bad {c bank : Nat} (hc : c / 16384 = bank) (hused : s.usedCells.contains c = true) (hb : bank < 60)
    (h : s.buf.retired.contains bank = false ∧ s.buf.spareReq.contains bank = false ∧ s.buf.sparing = none) :
    s.cellFinding c 2 = ((s.uncorrectableTold bank c).setBuf (fun b => { b with spareReq := b.spareReq ++ [bank] })).markCell c := by
  obtain ⟨hr, hq, hs⟩ := h
  have hbad : s.cellFinding c 2 = s.noteBadCell c := if_pos hused
  have htold : ((s.bump 7 8 bank).raiseFault 30 2 1 bank c).raiseBits F.BUF_INT_STATUS_ECC_UNCORR 0 1 = s.uncorrectableTold bank c := rfl
  rw [hbad, State.noteBadCell, State.noteUncorrectable, hc, htold, (s.uncorrectableTold bank c).askSparing_waits hb hr hq hs]

theorem State.correctedTold_reads (bank c : Nat) : (s.correctedTold bank c).flt.held = s.flt.held ++ [⟨30, 1, 0, bank, c⟩] ∧
    (s.correctedTold bank c).on F.BUF_INT_STATUS_ECC_CORR = true ∧
    (s.correctedTold bank c).cntTick.get (cntKey 7 7 bank) 0 = s.cntTick.get (cntKey 7 7 bank) 0 + 1 ∧
    RegsBut s (s.correctedTold bank c) [(F.BUF_INT_STATUS_ECC_CORR, 0)] :=
  ⟨rfl, State.on_raiseBits_one s _ _ rfl, State.bump_cntTick_same _ _ _ _ _,
    RegsBut.congr (RegsBut.refl.raiseBits (t := s) 1 List.mem_cons_self) rfl⟩

theorem State.uncorrectableTold_reads (bank c : Nat) : (s.uncorrectableTold bank c).flt.held = s.flt.held ++ [⟨30, 2, 1, bank, c⟩] ∧
    (s.uncorrectableTold bank c).on F.BUF_INT_STATUS_ECC_UNCORR = true ∧
    (s.uncorrectableTold bank c).cntTick.get (cntKey 7 8 bank) 0 = s.cntTick.get (cntKey 7 8 bank) 0 + 1 ∧
    RegsBut s (s.uncorrectableTold bank c) [(F.BUF_INT_STATUS_ECC_UNCORR, 0)] :=
  ⟨rfl, State.on_raiseBits_one s _ _ rfl, State.bump_cntTick_same _ _ _ _ _,
    RegsBut.congr (RegsBut.refl.raiseBits (t := s) 1 List.mem_cons_self) rfl⟩

end

end Sys2Proof.Machine

namespace Sys2Proof.Proofs
open Sys2Proof.Machine

theorem bufferScrub_corrected (s : State) (cell : Fin 1048576) (bank c : Nat) (hl : s.live = true) (hon : s.on F.BUF_SCRUB_CTRL_ENABLE = true)
    (hlimit : s.rd F.BUF_SPARE_CTRL_CE_LIMIT = 0) (h : s.logicalBank (cell.val / 16384) = some bank ∧ c = 16384 * bank + cell.val % 16384) :
    Completes (.bufferScrub (.cell cell) 1) s (fun t => t.flt.held = s.flt.held ++ [⟨30, 1, 0, bank, c⟩] ∧
    t.cntTick.get (cntKey 7 7 bank) 0 = s.cntTick.get (cntKey 7 7 bank) 0 + 1 ∧
    t.buf.stored = s.buf.stored ∧ t.buf.spareReq = s.buf.spareReq ∧ t.on F.BUF_INT_STATUS_ECC_CORR = true ∧
    t.regs = (s.raiseBits F.BUF_INT_STATUS_ECC_CORR 0 1).regs) := by
  obtain ⟨hbank, hc⟩ := h
  obtain ⟨-, hdiv⟩ := s.logicalBank_cell hbank hc
  obtain ⟨hheld, hflag, hcount, -⟩ := s.correctedTold_reads bank c
  have hstep : execBufferScrub (.cell cell) 1 s = .next (s.inside ((s.correctedTold bank c).ceNoted bank)) := by
    rw [execBufferScrub_logical s hl hon hbank, ← hc, ← s.noteCorrected_unlimited hlimit hdiv]
    rfl
  exact ⟨_, hstep, hheld, hcount, rfl, rfl, hflag, rfl⟩

theorem bufferScrub_uncorrectable (s : State) (cell : Fin 1048576) (bank c : Nat) (hl : s.live = true)
    (hon : s.on F.BUF_SCRUB_CTRL_ENABLE = true) (h : s.logicalBank (cell.val / 16384) = some bank ∧ c = 16384 * bank + cell.val % 16384)
    (hcell : s.usedCells.contains c = true ∧ s.buf.marked.contains c = false)
    (hserves : s.buf.retired.contains bank = false ∧ s.buf.spareReq.contains bank = false ∧ s.buf.sparing = none) :
    Completes (.bufferScrub (.cell cell) 2) s (fun t => t.buf = { s.buf with marked := s.buf.marked ++ [c], spareReq := s.buf.spareReq ++ [bank] } ∧ t.on F.BUF_INT_STATUS_ECC_UNCORR = true ∧
    t.cntTick.get (cntKey 7 8 bank) 0 = s.cntTick.get (cntKey 7 8 bank) 0 + 1 ∧
    t.flt.held = s.flt.held ++ [⟨30, 2, 1, bank, c⟩] ∧ RegsBut s t [(F.BUF_INT_STATUS_ECC_UNCORR, 0)]) := by
  obtain ⟨hbank, hc⟩ := h
  obtain ⟨hused, hunmarked⟩ := hcell
  obtain ⟨hb, hdiv⟩ := s.logicalBank_cell hbank hc
  obtain ⟨hheld, hflag, hcount, hregs⟩ := s.uncorrectableTold_reads bank c
  have hmarked : (if s.buf.marked.contains c then s.buf.marked else s.buf.marked ++ [c]) = s.buf.marked ++ [c] := by
    rw [hunmarked]
    rfl
  have hstep : execBufferScrub (.cell cell) 2 s = .next (s.inside
      (((s.uncorrectableTold bank c).setBuf (fun b => { b with spareReq := b.spareReq ++ [bank] })).markCell c)) := by
    rw [execBufferScrub_logical s hl hon hbank, ← hc, ← s.cellFinding_bad hdiv hused hb hserves]
    rfl
  refine ⟨_, hstep, ?_, hflag, hcount, hheld, hregs.congr rfl⟩
  exact congrArg (fun l => { s.buf with marked := l, spareReq := s.buf.spareReq ++ [bank] }) hmarked

theorem bufferScrub_spare (s : State) (cell : Fin 1048576) (finding : Fin 4) (hl : s.live = true)
    (hon : s.on F.BUF_SCRUB_CTRL_ENABLE = true) (h : s.logicalBank (cell.val / 16384) = none) (hf : finding.val = 1 ∨ finding.val = 2) :
    let flag := if finding.val = 1 then F.BUF_INT_STATUS_ECC_CORR else F.BUF_INT_STATUS_ECC_UNCORR
    let k := cntKey 7 (if finding.val = 1 then 7 else 8) (cell.val / 16384)
    Completes (.bufferScrub (.cell cell) finding) s (fun t => t.buf = s.buf ∧ t.on flag = true ∧ t.cntTick.get k 0 = s.cntTick.get k 0 + 1 ∧ RegsBut s t [(flag, 0)] ∧
    t.flt.held = s.flt.held ++ [⟨30, finding.val, finding.val - 1, cell.val / 16384, cell.val⟩]) := by
  have hstep := execBufferScrub_spare s hl hon h finding
  obtain hf | hf := hf
  · obtain ⟨hheld, hflag, hcount, hregs⟩ := s.correctedTold_reads (cell.val / 16384) cell.val
    rw [hf] at hstep ⊢
    exact ⟨_, hstep, rfl, hflag, hcount, hregs.congr rfl, hheld⟩
  · obtain ⟨hheld, hflag, hcount, hregs⟩ := s.uncorrectableTold_reads (cell.val / 16384) cell.val
    rw [hf] at hstep ⊢
    exact ⟨_, hstep, rfl, hflag, hcount, hregs.congr rfl, hheld⟩

theorem bufferScrub_control (s : State) (cell : Fin 1048576) (hl : s.live = true) (hon : s.on F.BUF_SCRUB_CTRL_ENABLE = true) :
    Completes (.bufferScrub (.control cell) 2) s (fun t => t.buf = { s.buf with ctl := s.buf.ctl.map (fun b => if s.ctlPlace cell.val = some (b.pool, b.place) then { b with bad := true } else b) } ∧
    t.on F.BUF_INT_STATUS_ECC_UNCORR = true ∧ t.flt.held = s.flt.held ++ [⟨30, 2, 1, 255, cell.val⟩] ∧
    RegsBut s t [(F.BUF_INT_STATUS_ECC_UNCORR, 0)]) := by
  obtain ⟨hheld, hflag, -, hregs⟩ := s.uncorrectableTold_reads 255 cell.val
  refine ⟨_, execBufferScrub_control s hl hon cell 2, ?_, hflag, hheld, hregs.congr rfl⟩
  refine congrArg (fun l => { s.buf with ctl := l }) (List.map_congr_left fun b _ => ?_)
  simp only [beq_iff_eq]

end Sys2Proof.Proofs
end

section
/-! The end of the bank test (R191, R220). -/

namespace Sys2Proof.Machine

/-- The banks that the test found failing; after SYSRST_N no test runs. -/
def State.failedBanks (s : State) (failing : List (Fin 64)) : List Nat :=
  if s.on F.SYS_BOOT_STATUS_BUF_INIT then [] else failing.map (fun x => x.val)

/-- A failing bank is no spare. -/
def State.sparesPassed (s : State) (bad : List Nat) : State := s.setBuf (fun b => { b with spares := b.spares.filter (fun x => !bad.contains x) })

/-- A failing bank is spared while spares are left. -/
def State.spareFailing (s : State) (bank : Nat) : State :=
  match s.buf.spares with
  | sp :: rest => (s.setBuf (fun x => { x with spares := rest, bankMap := x.bankMap.put bank sp bank })).spareTold bank s.now
  | [] => s.retireBank bank

/-- The buffer starts. -/
def State.bufferStarted (s : State) : State := (((s.wr F.BUF_STATUS_INIT_DONE 0 1).wr F.SYS_BOOT_STATUS_BUF_INIT 0 1).refreshBuf).showBank

section
variable (s : State)

theorem execInitDone_starts (hl : s.live = true) (h : s.on F.TIM_STATUS_RUN = true ∧ s.on F.BUF_STATUS_INIT_DONE = false)
    (failing : List (Fin 64)) : execInitDone failing s = .next (s.inside
      (((s.failedBanks failing).filter (fun b => b < 60)).dedup.foldl State.spareFailing (s.sparesPassed (s.failedBanks failing))).bufferStarted) := by
  rw [execInitDone, State.when_true s (by rw [hl, h.1, h.2]; rfl)]
  rfl

theorem State.spareFailing_spare {sp : Nat} {more : List Nat} (h : s.buf.spares = sp :: more) (bank : Nat) : s.spareFailing bank =
    (s.setBuf (fun x => { x with spares := more, bankMap := x.bankMap.put bank sp bank })).spareTold bank s.now := by
  simp only [State.spareFailing, h]

theorem State.bufferStarted_signalled : State.Signalled ((s.wr F.BUF_STATUS_INIT_DONE 0 1).wr F.SYS_BOOT_STATUS_BUF_INIT 0 1)
    ((s.wr F.BUF_STATUS_INIT_DONE 0 1).wr F.SYS_BOOT_STATUS_BUF_INIT 0 1).refreshBuf := .refreshBuf _

theorem State.bufferStarted_buf : s.bufferStarted.buf.unsignalled = s.buf.unsignalled := s.bufferStarted_signalled.buf

theorem State.bufferStarted_flt : s.bufferStarted.flt = s.flt := s.bufferStarted_signalled.flt

theorem State.bufferStarted_count : s.bufferStarted.cntTick.get (cntKey 7 9 0) 0 = s.cntTick.get (cntKey 7 9 0) 0 :=
  s.bufferStarted_signalled.counts _ (by decide)

theorem State.bufferStarted_on :
    s.bufferStarted.on F.BUF_STATUS_INIT_DONE = true ∧ s.bufferStarted.on F.SYS_BOOT_STATUS_BUF_INIT = true ∧
      s.bufferStarted.on F.BUF_INT_STATUS_SPARE_USED = s.on F.BUF_INT_STATUS_SPARE_USED := by
  have hshow := RegsBut.showBank ((s.wr F.BUF_STATUS_INIT_DONE 0 1).wr F.SYS_BOOT_STATUS_BUF_INIT 0 1).refreshBuf
  have hregs := s.bufferStarted_signalled.regs
  rw [State.bufferStarted, hshow.on (by decide), hshow.on (by decide), hshow.on (by decide), hregs.on fun x hx => (refreshFields_apart x hx).2.1,
    hregs.on fun x hx => (refreshFields_apart x hx).2.2.1, hregs.on fun x hx => (refreshFields_apart x hx).2.2.2]
  refine ⟨?_, State.on_wr_one _ _ _ rfl, ?_⟩
  · rw [State.on_wr_other _ _ _ (by decide)]
    exact State.on_wr_one _ _ _ rfl
  · rw [State.on_wr_other _ _ _ (by decide), State.on_wr_other _ _ _ (by decide)]

end

end Sys2Proof.Machine

namespace Sys2Proof.Proofs
open Sys2Proof.Machine

theorem initDone_allGood (s : State) (hl : s.live = true) (h : s.on F.TIM_STATUS_RUN = true ∧ s.on F.BUF_STATUS_INIT_DONE = false) :
    Completes (.initDone []) s (fun t => t.on F.BUF_STATUS_INIT_DONE = true ∧ t.on F.SYS_BOOT_STATUS_BUF_INIT = true ∧ t.buf.bankMap = s.buf.bankMap ∧ t.buf.retired = s.buf.retired) := by
  have hnone : s.failedBanks [] = [] := ite_self _
  have hstep : execInitDone [] s = .next (s.inside (s.sparesPassed []).bufferStarted) := by
    rw [execInitDone_starts s hl h, hnone]
    rfl
  obtain ⟨hdone, hinit, -⟩ := (s.sparesPassed []).bufferStarted_on
  have hbuf := (s.sparesPassed []).bufferStarted_buf
  exact ⟨_, hstep, hdone, hinit, (congrArg Buf.bankMap hbuf :), (congrArg Buf.retired hbuf :)⟩

theorem initDone_oneFails (s : State) (bank : Fin 64) (sp : Nat) (more : List Nat) (hl : s.live = true)
    (h : s.on F.TIM_STATUS_RUN = true ∧ s.on F.BUF_STATUS_INIT_DONE = false ∧ s.on F.SYS_BOOT_STATUS_BUF_INIT = false)
    (hbank : bank.val < 60 ∧ s.buf.spares.filter (fun x => x != bank.val) = sp :: more) :
    Completes (.initDone [bank]) s (fun t => t.on F.BUF_STATUS_INIT_DONE = true ∧ t.on F.SYS_BOOT_STATUS_BUF_INIT = true ∧ t.buf.bankMap = s.buf.bankMap.put bank.val sp bank.val ∧
    t.buf.spares = more ∧ t.buf.retired = s.buf.retired ∧ t.on F.BUF_INT_STATUS_SPARE_USED = true ∧
    t.cntTick.get (cntKey 7 9 0) 0 = s.cntTick.get (cntKey 7 9 0) 0 + 1 ∧ t.flt.held.contains ⟨30, 4, 2, bank.val, 0⟩ = true) := by
  obtain ⟨hrun, hdone, hinit⟩ := h
  obtain ⟨hlt, hspares⟩ := hbank
  have hbad : s.failedBanks [bank] = [bank.val] := by rw [State.failedBanks, hinit]; rfl
  have hfilter : [bank.val].filter (fun b => decide (b < 60)) = [bank.val] := List.filter_eq_self.mpr (by simpa using hlt)
  have hpassed : (s.sparesPassed [bank.val]).buf.spares = sp :: more := by
    rw [← hspares]
    refine List.filter_congr fun x _ => ?_
    simp [bne, beq_eq_decide]
  let u := (s.sparesPassed [bank.val]).setBuf (fun x => { x with spares := more, bankMap := x.bankMap.put bank.val sp bank.val })
  have hstep : execInitDone [bank] s = .next (s.inside (u.spareTold bank.val s.now).bufferStarted) := by
    rw [execInitDone_starts s hl ⟨hrun, hdone⟩, hbad, hfilter, (List.nodup_singleton _).dedup, List.foldl_cons, List.foldl_nil,
      State.spareFailing_spare _ hpassed]
    rfl
  have hbuf := (u.spareTold bank.val s.now).bufferStarted_buf
  have hflt := (u.spareTold bank.val s.now).bufferStarted_flt
  rw [State.spareTold_buf] at hbuf
  obtain ⟨hon, hbuf', hused⟩ := (u.spareTold bank.val s.now).bufferStarted_on
  refine ⟨_, hstep, hon, hbuf', (congrArg Buf.bankMap hbuf :), (congrArg Buf.spares hbuf :), (congrArg Buf.retired hbuf :),
    hused.trans (u.spareTold_on _ _), (State.bufferStarted_count _).trans (u.spareTold_count _ _), ?_⟩
  rw [State.inside_flt, hflt, State.spareTold_flt]
  simp

end Sys2Proof.Proofs
end

section
/-! FORCE (R217): a seat's write of SPARE_CTRL that asks for the sparing of a bank. -/

namespace Sys2Proof.Machine

/-- A write that reaches no bit of a field leaves it. -/
theorem State.written_unmasked (s : State) {d : FieldD} {n mask : Nat} (value : Nat) (h : d.fld.part mask = 0) :
    s.written d n mask value = s.rd d.fld n := by
  simp only [State.written, h, true_or, if_true]

/-- Where a write leaves a field as it is, the word moves only its other fields. -/
theorem RegsBut.poke_changed (s : State) (r : RegD) (n mask value : Nat) {l : List (Fld × Nat)}
    (h : ∀ d ∈ r.fields, s.written d n mask value = s.rd d.fld n ∨ (d.fld, n) ∈ l) : RegsBut s (s.poke r n mask value) l := by
  have hset : ∀ (fs : List FieldD) (t : State), (∀ d ∈ fs, s.written d n mask value = s.rd d.fld n ∨ (d.fld, n) ∈ l) →
      RegsBut s t l → RegsBut s (s.setFields n mask value t fs) l := by
    intro fs
    induction fs with
    | nil => exact fun _ _ ht => ht
    | cons d fs ih =>
      intro t hfs ht
      rw [State.setFields_cons]
      refine ih _ (fun e he => hfs e (List.mem_cons_of_mem d he)) ?_
      split
      · exact ht
      · next hne => exact ht.wr _ ((hfs d List.mem_cons_self).resolve_left hne)
  obtain ⟨k, hk⟩ := s.poke_setFields n mask value r
  rw [hk]
  exact (hset _ s (fun d hd => h d (State.mem_of_mem_fieldsOf hd)) .refl).congr rfl

/-- BUF.SPARE_CTRL. -/
def spareCtrl : RegD := ⟨"BUF.SPARE_CTRL", A.BUF_SPARE_CTRL, .seat0, .whole,
  [fd F.BUF_SPARE_CTRL_CE_LIMIT .rw .l, fd F.BUF_SPARE_CTRL_FORCE_BANK .rw .l, fd F.BUF_SPARE_CTRL_FORCE .wo .l]⟩

/-- The word that SPARE_FORCE writes, and the bits that it writes. -/
def spareForceWord (bank : Nat) : Nat := sumOf [(F.BUF_SPARE_CTRL_FORCE, 1), (F.BUF_SPARE_CTRL_FORCE_BANK, bank)] (fun y => y.1.place y.2)
def spareForceMask : Nat := sumOf [F.BUF_SPARE_CTRL_FORCE, F.BUF_SPARE_CTRL_FORCE_BANK] (fun f => f.ones)

theorem spareForceWord_parts : ∀ bank : Fin 64, F.BUF_SPARE_CTRL_FORCE_BANK.part (spareForceWord bank.val) = bank.val ∧
    F.BUF_SPARE_CTRL_FORCE.hit spareForceMask (spareForceWord bank.val) = true := by decide +kernel

theorem spareForceMask_parts : F.BUF_SPARE_CTRL_CE_LIMIT.part spareForceMask = 0 ∧
    F.BUF_SPARE_CTRL_FORCE_BANK.part spareForceMask = 2 ^ F.BUF_SPARE_CTRL_FORCE_BANK.width - 1 := by decide +kernel

theorem findReg_spareCtrl : findReg (F.BUF_SPARE_CTRL_FORCE.addr 0) = some (spareCtrl, 0) := findReg_BUF_SPARE_CTRL

section
variable (s : State) (bank : BitVec 6)

/-- SPARE_CTRL with the word in place. -/
def State.forceBankSet : State := s.poke spareCtrl 0 spareForceMask (spareForceWord bank.toNat)

theorem RegsBut.forceBankSet : RegsBut s (s.forceBankSet bank) [(F.BUF_SPARE_CTRL_FORCE_BANK, 0)] := by
  refine RegsBut.poke_changed s spareCtrl 0 spareForceMask _ ?_
  simp only [spareCtrl, List.forall_mem_cons]
  exact ⟨.inl (s.written_unmasked _ spareForceMask_parts.1), .inr List.mem_cons_self, .inl (s.written_writeOnly _ _ rfl 0), by simp⟩

theorem State.forceBankSet_rd : (s.forceBankSet bank).rd F.BUF_SPARE_CTRL_FORCE_BANK = bank.toNat := by
  have hmem : fd F.BUF_SPARE_CTRL_FORCE_BANK .rw .l ∈ s.fieldsOf spareCtrl 0 := by
    rw [s.fieldsOf_eq _ (by decide)]
    simp [spareCtrl]
  have hwritten := State.written_full s (fd F.BUF_SPARE_CTRL_FORCE_BANK .rw .l) 0 (spareForceWord bank.toNat) rfl (fun _ => rfl) rfl
    spareForceMask_parts.2 (by decide)
  have hpart : F.BUF_SPARE_CTRL_FORCE_BANK.part (spareForceWord bank.toNat) = bank.toNat := (spareForceWord_parts ⟨bank.toNat, bank.isLt⟩).1
  refine (State.rd_poke findReg_spareCtrl hmem).trans ?_
  rw [hwritten, show (fd F.BUF_SPARE_CTRL_FORCE_BANK .rw .l).fld = F.BUF_SPARE_CTRL_FORCE_BANK from rfl, hpart]
  exact Nat.mod_eq_of_lt bank.isLt

/-- A write of FORCE asks for the sparing of the bank that the same word names (R217). -/
theorem State.tryWord_spareForce (hh : s.wordHeld 0 (F.BUF_SPARE_CTRL_FORCE.addr 0) = false) :
    s.tryWord s 0 0 (pure ()) ⟨F.BUF_SPARE_CTRL_FORCE.addr 0, spareForceMask, spareForceWord bank.toNat⟩ =
      .ok (.l, (s.forceBankSet bank).spareForce bank.toNat) := by
  have hlive : ∀ d ∈ spareCtrl.fields, d.cls = .l := by simp [spareCtrl, fd]
  have hc := s.classOf_live hlive 0 spareForceMask (spareForceWord bank.toNat)
  have hshared : s.sharedBase spareCtrl 0 = false := rfl
  have hgo : F.BUF_SPARE_CTRL_FORCE.hit spareForceMask (spareForceWord bank.toNat) = true := (spareForceWord_parts ⟨bank.toNat, bank.isLt⟩).2
  have hook : s.hook (s.forceBankSet bank) 0 spareCtrl 0 spareForceMask (spareForceWord bank.toNat) =
      .ok (if F.BUF_SPARE_CTRL_FORCE.hit spareForceMask (spareForceWord bank.toNat) then
        (s.forceBankSet bank).spareForce ((s.forceBankSet bank).rd F.BUF_SPARE_CTRL_FORCE_BANK) else s.forceBankSet bank) := rfl
  rw [hgo, if_pos rfl, s.forceBankSet_rd] at hook
  rw [← hc]
  refine State.tryWord_ok findReg_spareCtrl rfl (fun hq => by rw [hc] at hq; cases hq) hh ?_ rfl ?_
  · rw [s.fieldsOf_eq _ (by decide)]
    simp [spareCtrl, fd, State.outOfRange]
  · simp only [State.applyWord, findReg_spareCtrl, hshared, Bool.false_eq_true, if_false]
    exact hook

/-- A bank in service then waits, where no other does and none is being spared. -/
theorem State.forceBankSet_spareForce (h : bank.toNat < 60 ∧ s.buf.retired.contains bank.toNat = false ∧ s.buf.spareReq = [] ∧ s.buf.sparing = none) :
    (s.forceBankSet bank).spareForce bank.toNat =
      ((s.forceBankSet bank).wr F.BUF_SPARE_CTRL_FORCE_BANK 0 bank.toNat).setBuf (fun b => { b with spareReq := b.spareReq ++ [bank.toNat] }) ∧
    ((s.forceBankSet bank).spareForce bank.toNat).buf = { s.buf with spareReq := [bank.toNat] } := by
  obtain ⟨hb, hr, hq, hs⟩ := h
  obtain ⟨m, k, hpoke⟩ := s.poke_eq spareCtrl 0 spareForceMask (spareForceWord bank.toNat)
  have hbuf : ((s.forceBankSet bank).wr F.BUF_SPARE_CTRL_FORCE_BANK 0 bank.toNat).buf = s.buf := by rw [State.forceBankSet, hpoke]; rfl
  have hwaits := ((s.forceBankSet bank).wr F.BUF_SPARE_CTRL_FORCE_BANK 0 bank.toNat).askSparing_waits hb (by rw [hbuf, hr])
    (by rw [hbuf, hq]; rfl) (by rw [hbuf, hs])
  refine ⟨hwaits, (congrArg State.buf hwaits).trans ?_⟩
  rw [State.setBuf, hbuf, hq]
  rfl

end

end Sys2Proof.Machine

namespace Sys2Proof.Proofs
open Sys2Proof.Machine

theorem exec_spareForce (s : State) (bank : BitVec 6) : exec (.spareForce 0 bank) s =
    .next (s.seatWrite 0 (F.BUF_SPARE_CTRL_FORCE.addr 0) (spareForceWord bank.toNat) spareForceMask) := rfl

theorem spareForce_asks (s : State) (bank : BitVec 6) (hfree : s.Free (F.BUF_SPARE_CTRL_FORCE.addr 0))
    (h : bank.toNat < 60 ∧ s.buf.retired.contains bank.toNat = false ∧ s.buf.spareReq = [] ∧ s.buf.sparing = none) :
    Completes (.spareForce 0 bank) s (fun t => t.resp = some ⟨.ok, []⟩ ∧ t.buf = { s.buf with spareReq := [bank.toNat] } ∧
    RegsBut s t ((F.BUF_SPARE_CTRL_FORCE_BANK, 0) :: digestFields)) := by
  obtain ⟨hl, hh, h3⟩ := hfree
  obtain ⟨hforced, hbuf⟩ := s.forceBankSet_spareForce bank h
  have hd := State.writeDirect_now findReg_spareCtrl rfl (s.tryWord_spareForce bank hh) (by decide) none
  have hset : RegsBut s ((s.forceBankSet bank).spareForce bank.toNat) [(F.BUF_SPARE_CTRL_FORCE_BANK, 0)] := by
    rw [hforced]
    exact ((RegsBut.forceBankSet s bank).wr bank.toNat List.mem_cons_self).congr rfl
  have hdigest := RegsBut.wroteWord s 0 (F.BUF_SPARE_CTRL_FORCE.addr 0) (spareForceWord bank.toNat) spareForceMask
    ((s.forceBankSet bank).spareForce bank.toNat)
  obtain ⟨m, i, hwrote⟩ := s.wroteWord_eq 0 (F.BUF_SPARE_CTRL_FORCE.addr 0) (spareForceWord bank.toNat) spareForceMask
    ((s.forceBankSet bank).spareForce bank.toNat)
  refine ⟨_, (exec_spareForce s bank).trans (congrArg Host.Outcome.next (State.seatWrite_of_writeDirect hl h3 hd rfl)), rfl, ?_,
    (hset.append hdigest).congr (State.inside_answer_regs _ _ _ _)⟩
  refine Eq.trans ?_ hbuf
  rw [hwrote]
  rfl

/-- Settles O17: FORCE, the start and the end of a sparing, each finding of the scrubber, and the two ends of the bank test. -/
theorem banksAreSparedAndTheBufferStarts : Obligations.BanksAreSparedAndTheBufferStarts :=
  ⟨spareForce_asks, bankSparingStart_takesSpare, bankSparingStart_retires, bankSparingDone_points, bufferScrub_corrected,
    bufferScrub_uncorrectable, bufferScrub_spare, bufferScrub_control, initDone_allGood, initDone_oneFails⟩

end Sys2Proof.Proofs
end

section
/-! Gate lists, flap-holds and queue samples (R242, R243, R251, R254): what GCL_STATUS shows, what a flush leaves of the queues, and
the records of a sample period. -/

namespace Sys2Proof.Machine

/-! ### GCL_STATUS (R258) -/

/-- The fields of GCL_STATUS. -/
def gclStatus : List Fld :=
  [F.QSG_GCL_STATUS_OPER_SCHED, F.QSG_GCL_STATUS_OPER_VALID, F.QSG_GCL_STATUS_ENTRY, F.QSG_GCL_STATUS_PENDING]

/-- Each stands in the word of its port. -/
theorem gclStatus_key {f : Fld} (hf : f ∈ gclStatus) (n : Nat) : ∃ b < 32, f.key n = (A.QSG_GCL_STATUS + 32 * n) * 32 + b := by
  have hword {g : Fld} (hbase : g.base = A.QSG_GCL_STATUS) (hstride : g.outerStride = 32) (hinner : g.inner = 1) (hstep : g.innerStride = 0) :
      g.key n = (A.QSG_GCL_STATUS + 32 * n) * 32 + g.lsb := by
    rw [Fld.key, Fld.addr, hbase, hstride, hinner, hstep, Nat.div_one]; omega
  simp only [gclStatus, List.mem_cons, List.not_mem_nil, or_false] at hf
  obtain rfl | rfl | rfl | rfl := hf <;> exact ⟨_, by decide, hword rfl rfl rfl rfl⟩

theorem gclStatus_key_ne {f g : Fld} (hf : f ∈ gclStatus) (hg : g ∈ gclStatus) {n m : Nat} (hne : n ≠ m) : f.key n ≠ g.key m := by
  obtain ⟨b, hb, hfkey⟩ := gclStatus_key hf n
  obtain ⟨c, hc, hgkey⟩ := gclStatus_key hg m
  omega

/-- GCL_CHANGE stands before them. -/
theorem gclStatus_key_ne_change {f : Fld} (hf : f ∈ gclStatus) (n : Nat) : f.key n ≠ F.QSG_INT_STATUS_GCL_CHANGE.key 0 := by
  obtain ⟨b, -, hkey⟩ := gclStatus_key hf n
  have hplace : F.QSG_INT_STATUS_GCL_CHANGE.key 0 < A.QSG_GCL_STATUS * 32 := by decide
  omega

section
variable {s t : State} {l : GateList}

/-- What the fields hold of a port whose running list is l. -/
def State.gclValues (s : State) (l : GateList) : List (Fld × Nat) :=
  [(F.QSG_GCL_STATUS_OPER_SCHED, l.header), (F.QSG_GCL_STATUS_OPER_VALID, 1),
   (F.QSG_GCL_STATUS_ENTRY, s.entryAt (s.sched l.header) (s.viewAt s.now 0)), (F.QSG_GCL_STATUS_PENDING, b2n (s.waitingOn l.port).isSome)]

theorem State.gclValues_mem {x : Fld × Nat} (hx : x ∈ s.gclValues l) : x.1 ∈ gclStatus :=
  List.mem_map_of_mem (f := Prod.fst) hx

theorem State.gclValues_apart (s : State) (l : GateList) : ((s.gclValues l).map fun x => x.1.key l.port).Nodup := by
  simp [State.gclValues, Fld.key, Fld.addr, F.QSG_GCL_STATUS_OPER_SCHED, F.QSG_GCL_STATUS_OPER_VALID, F.QSG_GCL_STATUS_ENTRY,
    F.QSG_GCL_STATUS_PENDING]

/-- t shows in GCL_STATUS the list l of s. -/
def State.ShowsGcl (s t : State) (l : GateList) : Prop := ∀ x ∈ s.gclValues l, t.rd x.1 l.port = x.2 % 2 ^ x.1.width

theorem State.ShowsGcl.fields (h : s.ShowsGcl t l) :
    t.rd F.QSG_GCL_STATUS_OPER_SCHED l.port = l.header % 2 ^ F.QSG_GCL_STATUS_OPER_SCHED.width ∧ t.on F.QSG_GCL_STATUS_OPER_VALID l.port = true ∧
    t.rd F.QSG_GCL_STATUS_ENTRY l.port = s.entryAt (s.sched l.header) (s.viewAt s.now 0) % 2 ^ F.QSG_GCL_STATUS_ENTRY.width ∧
    t.on F.QSG_GCL_STATUS_PENDING l.port = (s.waitingOn l.port).isSome := by
  simp only [State.ShowsGcl, State.gclValues, List.forall_mem_cons] at h
  obtain ⟨hsched, hvalid, hentry, hpending, -⟩ := h
  refine ⟨hsched, ?_, hentry, ?_⟩
  · rw [State.on, hvalid]; rfl
  · rw [State.on, hpending]
    cases (s.waitingOn l.port).isSome <;> rfl

theorem State.showGcl_shows (hrun : s.runningOn l.port = some l) : s.ShowsGcl (s.showGcl l.port) l := by
  have hall : s.showGcl l.port = s.wrAll l.port (s.gclValues l) := by unfold State.showGcl; rw [hrun]; rfl
  rw [hall]
  exact fun x hx => State.rd_wrAll_mem (s.gclValues_apart l) hx

theorem RegsBut.showGcl (s : State) (p : Nat) : RegsBut s (s.showGcl p) (gclStatus.map fun f => (f, p)) := by
  unfold State.showGcl
  dsimp only
  split <;> exact (((RegsBut.refl.wr _ (by simp [gclStatus])).wr _ (by simp [gclStatus])).wr _ (by simp [gclStatus])).wr _ (by simp [gclStatus])

theorem State.showGcl_eq (s : State) (p : Nat) : ∃ m, s.showGcl p = { s with regs := m } := by
  unfold State.showGcl
  dsimp only
  split <;> exact ⟨_, rfl⟩

/-- What another port shows stands elsewhere, and the same port shows the same again. -/
theorem State.ShowsGcl.showGcl {m : SMap} (h : s.ShowsGcl { s with regs := m } l) (hrun : s.runningOn l.port = some l) (p : Nat) :
    s.ShowsGcl (State.showGcl { s with regs := m } p) l := by
  obtain rfl | hne := eq_or_ne p l.port
  · exact State.showGcl_shows (s := { s with regs := m }) hrun
  · refine fun x hx => (RegsBut.showGcl { s with regs := m } p x.1 l.port fun y hy => ?_).trans (h x hx)
    obtain ⟨f, hf, rfl⟩ := List.mem_map.mp hy
    exact gclStatus_key_ne hf (State.gclValues_mem hx) hne

/-- Ports show their lists one after the other. -/
def State.showGcls (s : State) (ls : List GateList) : State := ls.foldl (fun s l => s.showGcl l.port) s

theorem State.showGcls_eq (s : State) (ls : List GateList) : ∃ m, s.showGcls ls = { s with regs := m } := by
  refine foldl_keeps (I := fun t => ∃ m, t = { s with regs := m }) ?_ ls ⟨s.regs, rfl⟩
  rintro _ l ⟨m, rfl⟩
  exact State.showGcl_eq { s with regs := m } l.port

theorem State.showGcls_shows {ls : List GateList} (hl : l ∈ ls) (hrun : s.runningOn l.port = some l) : s.ShowsGcl (s.showGcls ls) l := by
  obtain ⟨before, after, rfl⟩ := List.append_of_mem hl
  obtain ⟨m, hbefore⟩ := s.showGcls_eq before
  have hshown : s.ShowsGcl (State.showGcl { s with regs := m } l.port) l := State.showGcl_shows (s := { s with regs := m }) hrun
  have hsplit : s.showGcls (before ++ l :: after) = ((s.showGcls before).showGcl l.port).showGcls after := by simp [State.showGcls]
  rw [hsplit, hbefore]
  refine (foldl_keeps (I := fun t => (∃ m, t = { s with regs := m }) ∧ s.ShowsGcl t l) ?_ after
    ⟨State.showGcl_eq { s with regs := m } l.port, hshown⟩).2
  rintro _ x ⟨⟨m, rfl⟩, h⟩
  exact ⟨State.showGcl_eq { s with regs := m } x.port, h.showGcl hrun x.port⟩

/-- No port has two running lists. -/
theorem State.runningOn_of_mem (hl : l ∈ s.qsg.running) (hports : (s.qsg.running.map (fun x => x.port)).Nodup) :
    s.runningOn l.port = some l := by
  have hsome : (s.qsg.running.find? (fun x => x.port == l.port)).isSome := List.find?_isSome.mpr ⟨l, hl, by simp⟩
  obtain ⟨x, hx⟩ := Option.isSome_iff_exists.mp hsome
  have hport : x.port = l.port := by simpa using List.find?_some hx
  rw [State.runningOn, hx, List.inj_on_of_nodup_map hports (List.mem_of_find?_eq_some hx) hl hport]

theorem State.waitingOn_isSome (s : State) (p : Nat) : (s.waitingOn p).isSome = s.qsg.waiting.any (fun x => x.port == p) :=
  Bool.eq_iff_iff.mpr (by rw [State.waitingOn, List.find?_isSome, List.any_eq_true])

/-! ### A change of list (R243) -/

/-- The state in which a port shows its new list: the change is told and recorded. -/
def State.listChanged (s : State) (l : GateList) : State :=
  ((s.setQsg (fun q => { q with
    running := q.running.filter (fun x => x.port != l.port) ++ [l]
    waiting := q.waiting.filter (fun x => x.port != l.port) })).raiseBits F.QSG_INT_STATUS_GCL_CHANGE 0 1).gateRecord 0 0 l.port
      (((s.runningOn l.port).map (fun x => x.header)).getD 0xFFFF) l.header s.now 0 s.now

theorem State.listChanged_qsg (s : State) (l : GateList) : (s.listChanged l).qsg = { s.qsg with
    running := s.qsg.running.filter (fun x => x.port != l.port) ++ [l]
    waiting := s.qsg.waiting.filter (fun x => x.port != l.port) } := State.hand_qsg _ _

theorem State.listChanged_tim (s : State) (l : GateList) : (s.listChanged l).tim = s.tim := State.hand_tim _ _

theorem State.listChanged_runningOn (s : State) (l : GateList) : (s.listChanged l).runningOn l.port = some l := by
  have hothers : (s.qsg.running.filter (fun x => x.port != l.port)).find? (fun x => x.port == l.port) = none :=
    List.find?_eq_none.mpr (by simp)
  rw [State.runningOn, s.listChanged_qsg l, List.find?_append, hothers]
  simp

theorem State.listChanged_waitingOn (s : State) (l : GateList) : (s.listChanged l).waitingOn l.port = none := by
  rw [State.waitingOn, s.listChanged_qsg l]
  simp

theorem State.listChanged_change (s : State) (l : GateList) : (s.listChanged l).on F.QSG_INT_STATUS_GCL_CHANGE = true :=
  ((RegsBut.hand _ _).on (by decide)).trans (State.on_raiseBits_one _ _ _ rfl)

theorem State.changeList_eq (s : State) (l : GateList) : ∃ m, s.changeList l = { s.listChanged l with regs := m } :=
  (s.listChanged l).showGcl_eq l.port

theorem State.changeList_qsg (s : State) (l : GateList) : (s.changeList l).qsg = (s.listChanged l).qsg := by
  obtain ⟨m, hm⟩ := s.changeList_eq l
  rw [hm]

theorem State.changeList_tim (s : State) (l : GateList) : (s.changeList l).tim = s.tim := by
  obtain ⟨m, hm⟩ := s.changeList_eq l
  rw [hm]
  exact s.listChanged_tim l

theorem State.changeList_change (s : State) (l : GateList) : (s.changeList l).on F.QSG_INT_STATUS_GCL_CHANGE = true := by
  refine ((RegsBut.showGcl (s.listChanged l) l.port).on fun x hx => ?_).trans (s.listChanged_change l)
  obtain ⟨f, hf, rfl⟩ := List.mem_map.mp hx
  exact gclStatus_key_ne_change hf l.port

theorem State.changeList_shows (s : State) (l : GateList) : (s.listChanged l).ShowsGcl (s.changeList l) l :=
  State.showGcl_shows (s.listChanged_runningOn l)

end

/-! ### The flush of a port (R250, R251) -/

/-- t holds the waiting copies, the flap-holds, the pauses and the time base of s. -/
structure State.SameWaiting (s t : State) : Prop where
  flap : t.qsg.flap = s.qsg.flap
  queue : t.qsg.queue = s.qsg.queue
  held : t.qsg.held = s.qsg.held
  seq : t.qsg.seq = s.qsg.seq
  paused : t.qsg.paused = s.qsg.paused
  tim : t.tim = s.tim

namespace State.SameWaiting
variable {s t u : State}

theorem refl : s.SameWaiting s := ⟨rfl, rfl, rfl, rfl, rfl, rfl⟩

theorem trans (h : s.SameWaiting t) (h' : t.SameWaiting u) : s.SameWaiting u :=
  ⟨h'.flap.trans h.flap, h'.queue.trans h.queue, h'.held.trans h.held, h'.seq.trans h.seq, h'.paused.trans h.paused, h'.tim.trans h.tim⟩

theorem of_sameStores {ks : Nat → Prop} (h : s.SameStores t ks) : s.SameWaiting t :=
  ⟨congrArg Qsg.flap h.qsg, congrArg Qsg.queue h.qsg, congrArg Qsg.held h.qsg, congrArg Qsg.seq h.qsg, congrArg Qsg.paused h.qsg, h.tim⟩

theorem foldl {α : Type} {f : State → α → State} (hf : ∀ (t : State) x, t.SameWaiting (f t x)) (l : List α) (h : s.SameWaiting t) :
    s.SameWaiting (l.foldl f t) :=
  foldl_keeps (I := fun t => s.SameWaiting t) (fun t x ht => ht.trans (hf t x)) l h

end State.SameWaiting

section
variable (s : State)

/-- A drop of a copy counts, records and gives a reference back. -/
theorem State.dropCopy_sameStores (c : Copy) (reason : Nat) : s.SameStores (s.dropCopy c reason) (fun _ => True) := by
  have hbump {t : State} (h : s.SameStores t (fun _ => True)) (g ev n : Nat) : s.SameStores (t.bump g ev n) (fun _ => True) := h.bump 1 trivial
  refine State.SameStores.release (fun _ _ => trivial) ?_ c
  unfold State.noteDrop
  dsimp only
  split
  · exact hbump .refl 0 5 c.frame.ing
  · refine State.SameStores.frameRecord (fun _ _ => trivial) ?_ c 4 reason none
    have hcounted (n : Nat) : s.SameStores (s.bumpDrop reason n) (fun _ => True) := by
      unfold State.bumpDrop
      split
      · exact hbump (hbump .refl _ _ _) _ _ _
      · exact hbump .refl _ _ _
    split
    · exact (hcounted _).raiseBits _ _ _
    · exact hcounted _

theorem State.settleEmpty_sameWaiting (q : Nat) : s.SameWaiting (s.settleEmpty q) := by
  unfold State.settleEmpty
  split
  · exact .refl
  · split
    · exact ⟨rfl, rfl, rfl, rfl, rfl, rfl⟩
    · exact .refl

theorem State.showDeep_sameWaiting (q : Nat) : s.SameWaiting (s.showDeep q) := by
  unfold State.showDeep
  split
  · exact .refl
  · exact ⟨rfl, rfl, rfl, rfl, rfl, rfl⟩

theorem State.leftQueue_sameWaiting (q : Nat) : s.SameWaiting (s.leftQueue q) := by
  refine .trans ?_ ((State.settleEmpty_sameWaiting _ q).trans (State.showDeep_sameWaiting _ q))
  split
  · exact .refl
  · exact ⟨rfl, rfl, rfl, rfl, rfl, rfl⟩

/-- No copy waits for the port any more; the instances of its sequenced copies have no ties, and its queues no deficit. -/
def State.portEmptied (p : Nat) : State :=
  s.setQsg (fun q => { q with
    queue := q.queue.filter (fun c => c.egr != p)
    held := q.held.filter (fun h => h.copy.egr != p)
    seq := q.seq.filter (fun x => x.copy.egr != p)
    ties := q.ties.filter (fun t => !((s.qsg.seq.filter (fun x => x.copy.egr == p)).any (fun x => x.inst == t.1)))
    deficit := q.deficit.filter (fun d => d.1 / 16 != p) })

theorem State.flushPort_sameWaiting (p reason : Nat) : (s.portEmptied p).SameWaiting (s.flushPort p reason) := by
  refine .foldl State.leftQueue_sameWaiting _ (.foldl ?_ _ (.foldl ?_ _ (.foldl ?_ _ .refl)))
  · exact fun t m => ⟨rfl, rfl, rfl, rfl, rfl, rfl⟩
  · exact fun t k => ⟨rfl, rfl, rfl, rfl, rfl, rfl⟩
  · exact fun t c => .of_sameStores (t.dropCopy_sameStores c reason)

/-! ### Queue samples (R254, R331) -/

/-- A record finds room in its tap (R319). -/
theorem State.hand_of_room {r : Record} (h : (s.evr.taps.filter (fun x => x.unit == r.unit && x.inst == r.inst)).length < 64) :
    s.hand r = { s with evr := { s.evr with taps := s.evr.taps ++ [r] } } := if_pos h

/-- What a record tells of its origin: kind, unit, place in the unit, and tick (R316). -/
def Record.label (r : Record) : Nat × Nat × Nat × Nat := (r.kind, r.unit, r.inst, r.tick)

/-- The label of a queue sample. -/
def sampleLabel (now p : Nat) : Nat × Nat × Nat × Nat := (0x17, 8, p, now)

/-- The records of port p wait at the tap of the queues. -/
def State.tapOf (p : Nat) : List Record := s.evr.taps.filter (fun x => x.unit == 8 && x.inst == p)

theorem State.queueSample_of_room {p : Nat} (h : (s.tapOf p).length < 64) :
    ∃ r : Record, s.queueSample p = { s with evr := { s.evr with taps := s.evr.taps ++ [r] } } ∧ r.label = sampleLabel s.now p :=
  ⟨_, s.hand_of_room h, rfl⟩

/-- A record of another port takes no room from a port. -/
theorem State.tapOf_append_other {r : Record} {now p p' : Nat} (hr : r.label = sampleLabel now p) (hne : p ≠ p') :
    State.tapOf { s with evr := { s.evr with taps := s.evr.taps ++ [r] } } p' = s.tapOf p' := by
  have hinst : r.inst = p := congrArg (fun x => x.2.2.1) hr
  simp [State.tapOf, hinst, hne]

/-- Every port of a list whose tap has room gives a sample. -/
theorem State.queueSamples_eq {ps : List Nat} (hps : ps.Nodup) (hroom : ∀ p ∈ ps, (s.tapOf p).length < 64) :
    ∃ rs : List Record, ps.foldl (fun s p => s.queueSample p) s = { s with evr := { s.evr with taps := s.evr.taps ++ rs } } ∧
      rs.map Record.label = ps.map (sampleLabel s.now) := by
  induction ps generalizing s with
  | nil => exact ⟨[], by simp, rfl⟩
  | cons p ps ih =>
    obtain ⟨hp, hps⟩ := List.nodup_cons.mp hps
    obtain ⟨r, hsample, hlabel⟩ := s.queueSample_of_room (hroom p List.mem_cons_self)
    have hrest : ∀ p' ∈ ps, (State.tapOf { s with evr := { s.evr with taps := s.evr.taps ++ [r] } } p').length < 64 := fun p' hp' => by
      rw [s.tapOf_append_other hlabel (fun e => hp (e ▸ hp'))]
      exact hroom p' (List.mem_cons_of_mem p hp')
    obtain ⟨rs, hfold, hlabels⟩ := ih _ hps hrest
    refine ⟨r :: rs, ?_, ?_⟩
    · rw [List.foldl_cons, hsample, hfold]
      simp
    · rw [List.map_cons, List.map_cons, hlabel, hlabels]
      rfl

end

end Sys2Proof.Machine

namespace Sys2Proof.Proofs
open Sys2Proof.Machine

/-- In every tick GCL_STATUS of a port with a running list shows the entry that the view gives (R242). -/
theorem gateEvent_showsEntry (s : State) (l : GateList) (hl : s.live = true) (h3 : s.Settled)
    (h : l ∈ s.qsg.running ∧ (s.qsg.running.map (fun x => x.port)).Nodup) :
    Completes (.gateEvent) s (fun t => t.rd F.QSG_GCL_STATUS_OPER_SCHED l.port = l.header % 2 ^ F.QSG_GCL_STATUS_OPER_SCHED.width ∧ t.on F.QSG_GCL_STATUS_OPER_VALID l.port = true ∧
    t.rd F.QSG_GCL_STATUS_ENTRY l.port = s.entryAt (s.sched l.header) (s.viewAt s.now 0) % 2 ^ F.QSG_GCL_STATUS_ENTRY.width ∧
    t.on F.QSG_GCL_STATUS_PENDING l.port = (s.qsg.waiting.any (fun x => x.port == l.port)) ∧ t = { s with regs := t.regs }) := by
  have hnext : exec .gateEvent s = .next (s.inside (s.showGcls s.qsg.running)) := by
    refine congrArg Host.Outcome.next ((s.whenLive_true hl _).trans ?_)
    rw [h3]; rfl
  have hshows := State.showGcls_shows h.1 (State.runningOn_of_mem h.1 h.2)
  obtain ⟨hsched, hvalid, hentry, hpending⟩ := hshows.fields
  obtain ⟨m, hm⟩ := s.showGcls_eq s.qsg.running
  refine ⟨_, hnext, hsched, hvalid, hentry, ?_, ?_⟩
  · rw [← s.waitingOn_isSome]; exact hpending
  · rw [hm]; rfl

/-- A pending header becomes the running list of its port at its change instant (R243). -/
theorem gclChange_changesList (s : State) (l : GateList) (hl : s.live = true) (h3 : s.Settled) (hwaits : s.qsg.waiting = [l])
    (hdue : l.x ≤ s.viewAt s.now 0) :
    Completes (.gclChange) s (fun t => t.qsg.waiting = [] ∧ t.qsg.running = s.qsg.running.filter (fun x => x.port != l.port) ++ [l] ∧
    t.on F.QSG_INT_STATUS_GCL_CHANGE = true ∧ t.rd F.QSG_GCL_STATUS_OPER_SCHED l.port = l.header % 2 ^ F.QSG_GCL_STATUS_OPER_SCHED.width ∧
    t.on F.QSG_GCL_STATUS_PENDING l.port = false ∧ t.qsg.queue = s.qsg.queue ∧ t.tim = s.tim) := by
  have hnext : exec .gclChange s = .next (s.inside (s.changeList l)) := by
    refine congrArg Host.Outcome.next ((s.whenLive_true hl _).trans ?_)
    rw [h3, State.changeLists, hwaits]
    simp [hdue]
  obtain ⟨hsched, -, -, hpending⟩ := (s.changeList_shows l).fields
  rw [s.listChanged_waitingOn l] at hpending
  have hqsg := (s.changeList_qsg l).trans (s.listChanged_qsg l)
  have hwaiting : (s.changeList l).qsg.waiting = [] := by rw [hqsg]; simp [hwaits]
  have hqueue : (s.changeList l).qsg.queue = s.qsg.queue := by rw [hqsg]
  exact ⟨_, hnext, hwaiting, congrArg Qsg.running hqsg, s.changeList_change l, hsched, hpending, hqueue, s.changeList_tim l⟩

/-- At the end of its flap-hold a port that has not returned loses every copy that waits for it (R251). -/
theorem flapHoldExpire_flushes (s : State) (p : Fin 512) (at0 : Nat) (hl : s.live = true) (h : s.qsg.flap = [(p.val, at0)] ∧ at0 ≤ s.now)
    (hdown : s.portUp p.val = false) :
    Completes (.flapHoldExpire) s (fun t => t.qsg.flap = [] ∧ t.qsg.queue = s.qsg.queue.filter (fun c => c.egr != p.val) ∧
    t.qsg.held = s.qsg.held.filter (fun h => h.copy.egr != p.val) ∧ t.qsg.seq = s.qsg.seq.filter (fun x => x.copy.egr != p.val) ∧
    t.qsg.paused = s.qsg.paused.filter (fun x => x.1 / 9 != p.val) ∧ t.tim = s.tim) := by
  obtain ⟨hflap, hend⟩ := h
  have hnext : exec .flapHoldExpire s =
      .next (s.inside (((s.setQsg (fun q => { q with flap := q.flap.erase p.val })).flushPort p.val 43).clearPause p.val)) := by
    refine congrArg Host.Outcome.next ((s.whenLive_true hl _).trans ?_)
    have hstill : (s.setQsg (fun q => { q with flap := q.flap.erase p.val })).portUp p.val = false := hdown
    simp [hflap, hend, hstill]
  have hflushed := (s.setQsg (fun q => { q with flap := q.flap.erase p.val })).flushPort_sameWaiting p.val 43
  have hdone : SMap.erase s.qsg.flap p.val = [] := by simp [hflap, SMap.erase]
  exact ⟨_, hnext, hflushed.flap.trans hdone, hflushed.queue, hflushed.held, hflushed.seq,
    congrArg (List.filter fun x : Nat × Nat => x.1 / 9 != p.val) hflushed.paused, hflushed.tim⟩

/-- At each sample period every port with SAMPLE_EN gives a queue-sample record (R254). -/
theorem queueSample_records (s : State) (hl : s.live = true)
    (hper : s.rd F.QSG_SAMPLE_CTRL_PERIOD_US ≠ 0 ∧ s.now % (800 * s.rd F.QSG_SAMPLE_CTRL_PERIOD_US) = 0)
    (h : s.ran.contains 2 = false ∧ (s.listed F.QSG_PORT_CTRL_SAMPLE_EN).Nodup)
    (hroom : (s.listed F.QSG_PORT_CTRL_SAMPLE_EN).all (fun p => decide ((s.evr.taps.filter (fun x => x.unit == 8 && x.inst == p)).length < 64)) = true) :
    Completes (.queueSample) s (fun t => t.evr.taps.map (fun r => (r.kind, r.unit, r.inst, r.tick)) = s.evr.taps.map (fun r => (r.kind, r.unit, r.inst, r.tick)) ++
      (s.listed F.QSG_PORT_CTRL_SAMPLE_EN).map (fun p => (0x17, 8, p, s.now)) ∧ t = { s with evr := t.evr, ran := t.ran }) := by
  obtain ⟨hnonzero, hperiod⟩ := hper
  obtain ⟨hran, hports⟩ := h
  have hdue : (s.live && 800 * s.rd F.QSG_SAMPLE_CTRL_PERIOD_US != 0 && s.now % (800 * s.rd F.QSG_SAMPLE_CTRL_PERIOD_US) == 0) = true := by
    simp [hl, hnonzero, hperiod]
  obtain ⟨rs, hsamples, hlabels⟩ := State.queueSamples_eq { s with ran := 2 :: s.ran } hports (by simpa [State.tapOf] using hroom)
  refine ⟨_, congrArg Host.Outcome.next ((s.once_true hdue hran _).trans (congrArg s.inside hsamples)), ?_, rfl⟩
  exact List.map_append.trans (congrArg (s.evr.taps.map Record.label ++ ·) hlabels)

/-- Settles O15: the list in force and its change, the end of a flap-hold, and a sample period. -/
theorem gateListsFlapHoldsAndQueueSamples : Obligations.GateListsFlapHoldsAndQueueSamples :=
  ⟨gateEvent_showsEntry, gclChange_changesList, flapHoldExpire_flushes, queueSample_records⟩

end Sys2Proof.Proofs
end

section
/-! A link that goes down with a copy in its queue (R250, R389): the sample copy of a frame from a port that the part does not have. -/

namespace Sys2Proof.Proofs
open Sys2Proof.Machine

/-- Port 234,815,490, which the part does not have: its counter of sample discards would stand at the place of the counter of links
down by cause 2 (R529, R532). -/
def uncountedPort : Nat := 3583 * 65536 + 2

/-- The sample copy of a frame from that port, in a queue of port 7. -/
def straySample : Copy :=
  { frame := { id := 3, ing := uncountedPort, port := 7, raw := 15900, bytes := zeros 64, ended := true }, egr := 7, queue := 0, sample := true }

/-- Port 7 is ACTIVE without quick relock and without a flap-hold, and the copy waits for it. -/
def sampleWaits : State :=
  { (State.reset.wr F.LAN_PORT_STATUS_STATE 7 5).wr F.LAN_PORT_CTRL_QUICK_EN 7 0 with qsg := { State.reset.qsg with queue := [straySample] } }

/-- Its receiver loses signal, unannounced: cause 2. -/
theorem sampleWaits_premises :
    sampleWaits.live = true ∧ sampleWaits.portState 7 = 5 ∧ sampleWaits.downCause 7 0 true 0 false = some 2 ∧
    sampleWaits.on F.LAN_PORT_CTRL_QUICK_EN 7 = false := by decide +kernel

/-- The link that goes down and the copy that is discarded count at one place. -/
theorem linkDown_counts_twice :
    (nextOr State.reset (exec (.linkDown 7 ⟨0, true, 0, false⟩) sampleWaits)).cntTick.get (cntKey 14 4 2) 0 =
      sampleWaits.cntTick.get (cntKey 14 4 2) 0 + 2 := by decide +kernel

/-- Refutes O36: the first clause bounds no ingress port. Without a flap-hold the copies that wait for the port are dropped as it goes
down, and the discard of a sample copy is counted for its ingress port; of one beyond the map, at the place of the cause itself. -/
theorem not_linksGoDownAndRelock : ¬ Obligations.LinksGoDownAndRelock := by
  unfold Obligations.LinksGoDownAndRelock
  rintro ⟨h, -⟩
  obtain ⟨t, ht, -, -, -, -, hone, -⟩ := h sampleWaits 7 2 0 0 true false sampleWaits_premises
  have htwo := linkDown_counts_twice
  rw [ht, nextOr, hone] at htwo
  omega

end Sys2Proof.Proofs
end

section
/-! A Lead that meets a member anew (R307, R309): the lift that the member reports as in force at its side. -/

namespace Sys2Proof.Proofs
open Sys2Proof.Machine

/-- The Lead of a Troupe at full clock in epoch 1: member 1, alone in its live set, with no lift and no order, its link on port 4. -/
def leadAlone : State :=
  { ((((((State.reset.wr F.TIM_EPOCH_CURRENT 0 1).wr F.TRP_CTRL_ENABLE 0 1).wr F.TRP_CTRL_MEMBER_ID 0 1).wr F.TRP_STATUS_STATE 0 3).wr
      F.TRP_LINK_VALID 0 1).wr F.TRP_LINK_PORT 0 4) with pins := { vid := 5 } }

/-- The LIFT_REQ of member 3, with a lift of 100 ns in force at its side and 67 ns required. -/
def liftedRequest : Bytes :=
  be 6 0x034B540F0001 ++ be 6 9 ++ be 2 0x88B5 ++ be 1 1 ++ be 1 3 ++ be 1 3 ++ be 1 0 ++ be 4 0 ++ be 4 7 ++ be 4 0 ++ be 4 100 ++ be 4 67

theorem leadAlone_premises : leadAlone.Hears 3 4 liftedRequest ∧
    (leadAlone.isLead = true ∧ leadAlone.trp.order = none ∧ leadAlone.rd F.TRP_LIFT_LIFT_NS = 0 ∧ leadAlone.reqNs = 0) ∧
    ((List.range 8).all (fun n => !leadAlone.on F.TRP_PEER_LIVE n) = true ∧ 0 < beAt liftedRequest 34 4) ∧
    (leadAlone.epoch ≠ 0 ∧ leadAlone.syn.actions = []) := by decide +kernel

theorem liftedRequest_requires : beAt liftedRequest 34 4 = 67 := by decide +kernel

/-- The member has come anew, so the Lead orders the lift that it reports, and not the lower one that it requires. -/
theorem liftReq_orders_reported_lift :
    (nextOr State.reset (exec (.liftReq 4 liftedRequest) leadAlone)).trp.order.map (fun o => o.lift) = some 100 := by decide +kernel

/-- Refutes O28: the sixth clause says that the Lead orders the lift required, 67 ns here, whatever lift the request reports as in force
at its sender; but the Lead that meets a member anew orders the greatest lift reported first (R309), which is above it. -/
theorem not_troupeSharesBasesAndLifts : ¬ Obligations.TroupeSharesBasesAndLifts := by
  unfold Obligations.TroupeSharesBasesAndLifts
  rintro ⟨-, -, -, -, -, h, -⟩
  obtain ⟨hhears, hlead, hanew, hroom⟩ := leadAlone_premises
  obtain ⟨t, ht, horder, -⟩ := h leadAlone 4 liftedRequest hhears hlead hanew hroom
  have hreported := liftReq_orders_reported_lift
  have hrequired : t.trp.order.map (fun o => o.lift) = some 67 := by
    obtain ⟨o, ho, hparts⟩ := Option.map_eq_some_iff.mp horder
    exact Option.map_eq_some_iff.mpr ⟨o, ho, (congrArg Prod.fst hparts).trans liftedRequest_requires⟩
  rw [ht, nextOr, hrequired] at hreported
  exact absurd hreported (by decide)

end Sys2Proof.Proofs
end

section
/-! What copies, records, drops and the displays of the shared buffer leave of the Troupe engine: its state, its registers, its counters,
and the time base. -/

namespace Sys2Proof.Machine

/-! ### The engine's state -/

section
variable (s : State)

@[simp] theorem State.hand_trp (r : Record) : (s.hand r).trp = s.trp := by
  obtain h | h := s.hand_cases r <;> simp [h]

@[simp] theorem State.eventRec_trp (unit inst tick code d0 d1 d2 sub : Nat) : (s.eventRec unit inst tick code d0 d1 d2 sub).trp = s.trp :=
  s.hand_trp _

theorem State.foldl_trp {α : Type} {f : State → α → State} (hf : ∀ t x, (f t x).trp = t.trp) (l : List α) : (l.foldl f s).trp = s.trp :=
  foldl_keeps (I := fun t : State => t.trp = s.trp) (fun t x ht => (hf t x).trans ht) l rfl

@[simp] theorem State.sendFlow_trp (p ended : Nat) : (s.sendFlow p ended).trp = s.trp := by
  unfold State.sendFlow
  split <;> rfl

@[simp] theorem State.flowTransition_trp (p c : Nat) (xoff : Bool) : (s.flowTransition p c xoff).trp = s.trp := by
  simp [State.flowTransition]

@[simp] theorem State.flowClass_trp (p c : Nat) (forced : Bool) : (s.flowClass p c forced).trp = s.trp := by
  simp [State.flowClass, apply_ite State.trp]

@[simp] theorem State.flowCheck_trp (p : Nat) : (s.flowCheck p).trp = s.trp :=
  s.foldl_trp (fun t c => t.flowClass_trp p c false) _

@[simp] theorem State.refreshBuf_trp : s.refreshBuf.trp = s.trp := by
  unfold State.refreshBuf
  dsimp only
  split
  · exact State.foldl_trp _ State.flowCheck_trp _
  · split
    · exact State.foldl_trp _ State.flowCheck_trp _
    · rfl

@[simp] theorem State.refuseFree_trp (reason handle requester : Nat) : (s.refuseFree reason handle requester).trp = s.trp := by
  simp [State.refuseFree, apply_ite State.trp]

@[simp] theorem State.freeRef_trp (handle requester : Nat) : (s.freeRef handle requester).trp = s.trp := by
  unfold State.freeRef
  split <;> simp [apply_ite State.trp, State.setBuf]

@[simp] theorem State.release_trp (c : Copy) : (s.release c).trp = s.trp := by
  obtain h | ⟨handle, h⟩ := s.release_cases c <;> rw [h]
  · rfl
  · exact State.freeRef_trp _ _ _

end

/-! ### Everything of the engine -/

/-- A place in the block TRP (R13, R314). -/
def inTroupe (k : Nat) : Bool := decide (A.TRP_CTRL * 32 ≤ k) && decide (k < A.EVR_STATUS * 32)

/-- The counters of group 11 stand between these two places (R532). -/
def isTroupeCount (k : Nat) : Prop := k / 2 ^ 24 = 11

theorem isTroupeCount_iff {g ev n : Nat} (hev : ev < 256) (hn : n < 65536) : isTroupeCount (cntKey g ev n) ↔ g = 11 := by
  unfold isTroupeCount cntKey
  omega

theorem sideCounts_spared : ∀ k ∈ sideCounts, k / 2 ^ 24 ≠ 11 := by decide
theorem copyFields_spared : ∀ x ∈ copyFields, inTroupe (x.1.key x.2) = false := by decide
theorem refreshFields_spared : ∀ x ∈ refreshFields, inTroupe (x.1.key x.2) = false := by decide +kernel

/-- t holds the Troupe engine's state, registers and counters of s, and its time base. -/
structure State.SparesTroupe (s t : State) : Prop where
  trp : t.trp = s.trp
  tim : t.tim = s.tim
  regs : RegsIf s t inTroupe
  counts : ∀ k, isTroupeCount k → t.cntTick.get k 0 = s.cntTick.get k 0

namespace State.SparesTroupe
variable {s t u : State}

theorem refl : s.SparesTroupe s := ⟨rfl, rfl, .refl, fun _ _ => rfl⟩

theorem trans (h : s.SparesTroupe t) (h' : t.SparesTroupe u) : s.SparesTroupe u :=
  ⟨h'.trp.trans h.trp, h'.tim.trans h.tim, h.regs.trans h'.regs, fun k hk => (h'.counts k hk).trans (h.counts k hk)⟩

theorem ite {c : Prop} [Decidable c] (h : s.SparesTroupe t) (h' : s.SparesTroupe u) : s.SparesTroupe (if c then t else u) := by
  split
  · exact h
  · exact h'

/-- An operation on anything else: frames, copies, buffers, ports, fault lines. -/
theorem congr (h : s.SparesTroupe t) (htrp : u.trp = t.trp) (htim : u.tim = t.tim) (hregs : u.regs = t.regs) (hcnt : u.cntTick = t.cntTick) :
    s.SparesTroupe u :=
  h.trans ⟨htrp, htim, .of_regs hregs, fun k _ => congrArg (fun m => SMap.get m k 0) hcnt⟩

theorem wr (h : s.SparesTroupe t) {f : Fld} {n : Nat} (v : Nat) (hf : inTroupe (f.key n) = false) : s.SparesTroupe (t.wr f n v) :=
  h.trans ⟨rfl, rfl, .wr t v hf, fun _ _ => rfl⟩

theorem raiseBits (h : s.SparesTroupe t) {f : Fld} {n : Nat} (v : Nat) (hf : inTroupe (f.key n) = false) : s.SparesTroupe (t.raiseBits f n v) :=
  (h.wr (t.rd f n ||| v) hf).congr rfl rfl rfl rfl

theorem bump (h : s.SparesTroupe t) {g ev n by' : Nat} (hg : g ≠ 11) (hev : ev < 256) (hn : n < 65536) : s.SparesTroupe (t.bump g ev n by') :=
  h.trans ⟨rfl, rfl, .of_regs rfl, fun _ hk => t.bump_cntTick_other fun he => hg ((isTroupeCount_iff hev hn).1 (he ▸ hk))⟩

theorem foldl {α : Type} {f : State → α → State} (l : List α) (hf : ∀ (t : State), ∀ x ∈ l, t.SparesTroupe (f t x)) (h : s.SparesTroupe t) :
    s.SparesTroupe (l.foldl f t) := by
  induction l generalizing t with
  | nil => exact h
  | cons x l ih => exact ih (fun t y hy => hf t y (List.mem_cons_of_mem x hy)) (h.trans (hf t x List.mem_cons_self))

/-! ### Records, references and displays -/

theorem hand (h : s.SparesTroupe t) (r : Record) : s.SparesTroupe (t.hand r) :=
  h.trans ⟨t.hand_trp r, t.hand_tim r, (RegsBut.hand t r).regsIf (by decide), fun _ hk =>
    t.hand_cntTick_other fun he => sideCounts_spared _ (by simp [sideCounts]) (he ▸ hk : isTroupeCount (cntKey 12 3 1))⟩

theorem frameRecord (h : s.SparesTroupe t) (c : Copy) (fate reason : Nat) (tx : Option Tx) : s.SparesTroupe (t.frameRecord c fate reason tx) := by
  obtain e | ⟨r, e⟩ := t.frameRecord_cases c fate reason tx <;> rw [e]
  · exact h
  · exact h.hand r

/-- A copy gives its reference back (R198 to R201). -/
theorem release (h : s.SparesTroupe t) (c : Copy) : s.SparesTroupe (t.release c) := by
  have hstores : t.SameStores (t.release c) (· ∈ sideCounts) := State.SameStores.refl.release (fun _ hk => hk) c
  exact h.trans ⟨t.release_trp c, hstores.tim, (RegsBut.refl.release c).regsIf copyFields_spared,
    fun k hk => hstores.counts k fun hside => sideCounts_spared k hside hk⟩

/-- The displays of the shared buffer, and the flow control that they may start or end (R209, R210, R222). -/
theorem refreshBuf (h : s.SparesTroupe t) : s.SparesTroupe t.refreshBuf := by
  have hstores : t.SameStores t.refreshBuf (· ∈ sideCounts) := State.SameStores.refl.refreshBuf (fun _ hk => hk)
  exact h.trans ⟨t.refreshBuf_trp, hstores.tim, (State.Signalled.refreshBuf t).regs.regsIf refreshFields_spared,
    fun k hk => hstores.counts k fun hside => sideCounts_spared k hside hk⟩

theorem showDeep (h : s.SparesTroupe t) (q : Nat) : s.SparesTroupe (t.showDeep q) := by
  have hplaces : ∀ d < 64, inTroupe (F.BUF_DEEP_RM_BYTES_LO_VALUE.key d) = false ∧ inTroupe (F.BUF_DEEP_RM_BYTES_HI_VALUE.key d) = false ∧
      inTroupe (F.BUF_DEEP_ONDIE_ONDIE_CELLS.key d) = false := by decide
  unfold State.showDeep
  split
  · exact h
  · next d hd =>
    obtain ⟨kv, -, hkv⟩ := List.mem_filterMap.mp (List.mem_of_find?_eq_some hd)
    obtain ⟨hlo, hhi, hondie⟩ := hplaces d (Fld.copy?_eq_some hkv).2
    exact ((h.wr _ hlo).wr _ hhi).wr _ hondie

/-! ### Drops (R112, R531, R532) -/

theorem dropGroup_spared : ∀ r < 64, (dropGroup r).all (fun x => decide (x.1 ≠ 11 ∧ x.2.1 < 256 ∧ x.2.2 < 65536)) = true := by decide
theorem dropFlag_spared : ∀ r < 64, (dropFlag r).all (fun f => !inTroupe (f.key 0)) = true := by decide

/-- A drop at a port that LINK can name. -/
theorem bumpDrop (h : s.SparesTroupe t) {r p : Nat} (hr : r < 64) (hp : p < 1024) : s.SparesTroupe (t.bumpDrop r p) := by
  have hport : s.SparesTroupe (t.bump 2 r p) := h.bump (by decide) (by omega) (by omega)
  unfold State.bumpDrop
  split
  · next g ev n hg =>
    have hspared := dropGroup_spared r hr
    rw [hg] at hspared
    obtain ⟨hne, hev, hn⟩ := of_decide_eq_true hspared
    exact hport.bump hne hev hn
  · exact hport

theorem raiseDropFlag (h : s.SparesTroupe t) {r : Nat} (hr : r < 64) :
    s.SparesTroupe (match dropFlag r with | some f => t.raiseBits f 0 1 | none => t) := by
  have hspared := dropFlag_spared r hr
  split
  · next f hf =>
    rw [hf] at hspared
    exact h.raiseBits 1 (by simpa using hspared)
  · exact h

end State.SparesTroupe

end Sys2Proof.Machine
end

section
/-! A frame that the part makes itself at admission (R203, R214, R248, R301): it spares the Troupe engine. -/

namespace Sys2Proof.Machine

/-- A copy of a frame of the part's own, stored and forwarded, for a port that LINK can name (R301, R315). -/
structure Copy.IsOwn (c : Copy) : Prop where
  sample : c.sample = false
  saf : c.frame.saf = true
  egr : c.egr < 1024
  ing : c.frame.ing < 1024

theorem Copy.IsOwn.q_lt {c : Copy} (hc : c.IsOwn) : c.q < 65536 := by
  have := hc.egr
  unfold Copy.q
  omega

/-- An allocated buffer moves the stores of the shared buffer alone (R197). -/
theorem State.ensureBuf_eq {s t : State} {id need : Nat} (h : s.ensureBuf id need = some t) : ∃ b, t = { s with buf := b } := by
  unfold State.ensureBuf at h
  split at h
  · cases h
    exact ⟨s.buf, rfl⟩
  · split at h
    · cases h
    · next cells u hu =>
      obtain ⟨b, rfl⟩ := s.alloc_eq need hu
      cases h
      exact ⟨_, rfl⟩

/-- A copy that is stored and forwarded never cuts through (R118). -/
theorem State.cutsThrough_saf (s : State) {c : Copy} (h : c.frame.saf = true) : s.cutsThrough c = false := by
  simp [State.cutsThrough, h]

/-- A launch that fails names one of the reasons of a launch (R248). -/
theorem State.launchOf_error {s : State} {pf : PipeFrame} {c : Copy} {r : Nat} (h : s.launchOf pf c = .error r) : r = 39 ∨ r = 40 := by
  unfold State.launchOf at h
  extract_lets k mode far check at h
  have hcheck (l : Nat) (hl : check l = .error r) : r = 40 := by
    simp only [check] at hl
    split at hl <;> cases hl
    rfl
  split at h
  · exact .inr (hcheck _ h)
  · split at h
    · split at h
      · split at h
        · cases h
          exact .inl rfl
        · exact .inr (hcheck _ h)
      · cases h
        exact .inl rfl
    · cases h

namespace State.SparesTroupe
variable {s t : State} {c : Copy}

theorem noteDrop (h : s.SparesTroupe t) (hc : c.IsOwn) {r : Nat} (hr : r < 64) : s.SparesTroupe (t.noteDrop c r) := by
  have hport : (if c.egr = 0x3FF then c.frame.ing else c.egr) < 1024 := by
    split
    · exact hc.ing
    · exact hc.egr
  unfold State.noteDrop
  rw [if_neg (by simp [hc.sample])]
  exact ((h.bumpDrop hr hport).raiseDropFlag hr).frameRecord c 4 r none

theorem exhausted (h : s.SparesTroupe t) (hc : c.IsOwn) : s.SparesTroupe (t.exhausted c) :=
  noteDrop (t := t.raiseFault 30 3 1 0 0) (h.congr rfl rfl rfl rfl) hc (by decide)

theorem enqueue (h : s.SparesTroupe t) (hc : c.IsOwn) : s.SparesTroupe (t.enqueue c) := by
  have hcounted : s.SparesTroupe ((t.bump 3 0 c.q).bump 3 1 c.q c.frame.bytes.length) :=
    (h.bump (by decide) (by decide) hc.q_lt).bump (by decide) (by decide) hc.q_lt
  unfold State.enqueue
  generalize (t.bump 3 0 c.q).bump 3 1 c.q c.frame.bytes.length = u at hcounted
  exact hcounted.congr rfl rfl rfl rfl

theorem ensureBuf (h : s.SparesTroupe t) {u : State} {id need : Nat} (hu : t.ensureBuf id need = some u) : s.SparesTroupe (u.addRef id) := by
  obtain ⟨b, rfl⟩ := State.ensureBuf_eq hu
  exact h.congr rfl rfl rfl rfl

theorem placePlain (h : s.SparesTroupe t) (hc : c.IsOwn) (need var : Nat) (ll : Lossless) : s.SparesTroupe (t.placePlain c need var ll) := by
  unfold State.placePlain
  split
  · exact h.exhausted hc
  · next u hu =>
    dsimp only
    rw [State.cutsThrough_saf _ (by exact hc.saf), if_neg Bool.false_ne_true]
    exact (h.ensureBuf hu).enqueue ⟨hc.sample, hc.saf, hc.egr, hc.ing⟩

theorem placeDeep (h : s.SparesTroupe t) (hc : c.IsOwn) (d need : Nat) (ll : Lossless) : s.SparesTroupe (t.placeDeep d c need ll) := by
  unfold State.placeDeep
  extract_lets q charge inRm total excess limit quota
  split
  · exact (h.placePlain hc need 0 ll).showDeep _
  · split
    · split
      · split
        · exact h.exhausted hc
        · next u hu =>
          have hseated : Copy.IsOwn { c with buf := some c.frame.id, cells := charge, seg := .backlog } := ⟨hc.sample, hc.saf, hc.egr, hc.ing⟩
          exact ((h.ensureBuf hu).enqueue hseated).showDeep q
      · exact h.noteDrop hc (r := 29) (by decide)
    · exact h.noteDrop hc (r := 28) (by decide)

theorem bestEffort (h : s.SparesTroupe t) (pipe : Nat) (c : Copy) : s.SparesTroupe (t.bestEffort pipe c).1 := by
  unfold State.bestEffort
  dsimp only
  split
  · exact h
  · split
    · exact h
    · exact h.congr rfl rfl rfl rfl

theorem admitPlain (h : s.SparesTroupe t) (hc : c.IsOwn) (pf : PipeFrame) (need var : Nat) (ll : Lossless) :
    s.SparesTroupe (t.admitPlain pf c need var ll) := by
  have hbucket := h.bestEffort pf.pipe c
  unfold State.admitPlain
  split
  · next u hu =>
    rw [hu] at hbucket
    exact hbucket.noteDrop hc (by decide)
  · next u hu =>
    rw [hu] at hbucket
    split
    · next r hr => exact hbucket.noteDrop hc (by obtain rfl | rfl := State.launchOf_error hr <;> decide)
    · have hlaunched (l : Option Nat) : Copy.IsOwn { c with launch := l } := ⟨hc.sample, hc.saf, hc.egr, hc.ing⟩
      dsimp only
      split
      · exact hbucket.placeDeep (hlaunched _) _ need ll
      · exact .ite (hbucket.placePlain (hlaunched _) need var ll) (hbucket.noteDrop (hlaunched _) (by decide))

theorem admitOwn (h : s.SparesTroupe t) (hc : c.IsOwn) : s.SparesTroupe (t.admitOwn c) :=
  (h.admitPlain hc _ _ 0 .no).refreshBuf

end State.SparesTroupe

end Sys2Proof.Machine
end

section
/-! What a member sends, and the Lead's orders, leave of the Troupe engine (R301, R306 to R309): they move the sequence number, the order
held and its acknowledgements, the bit CRITICAL, and the counters that they count at. -/

namespace Sys2Proof.Machine

/-- The fields that sending and ordering write: CRITICAL and the acknowledgements (R307, R311). -/
def orderFields : List (Fld × Nat) := (F.TRP_GRANT_CRITICAL, 0) :: (List.range 8).map (fun n => (F.TRP_PEER_ACKED, n))

/-- A place of the block TRP that sending and ordering leave. -/
def isStanding (k : Nat) : Bool := inTroupe k && !orderFields.any (fun x => x.1.key x.2 == k)

/-- The counters of orders issued, and of the LIFT_REQ and LIFT_ORDER frames sent (R532). -/
def orderCounts : List Nat := [cntKey 11 5 0, cntKey 11 1 3, cntKey 11 1 4]

theorem isStanding_inTroupe {k : Nat} (h : isStanding k = true) : inTroupe k = true := by
  simp only [isStanding, Bool.and_eq_true] at h
  exact h.1

theorem isStanding_orderField {f : Fld} {n : Nat} (h : (f, n) ∈ orderFields) : isStanding (f.key n) = false := by
  have hlisted : orderFields.any (fun x => x.1.key x.2 == f.key n) = true := List.any_eq_true.mpr ⟨(f, n), h, beq_self_eq_true _⟩
  simp [isStanding, hlisted]

theorem acked_mem_orderFields {n : Nat} (h : n < 8) : (F.TRP_PEER_ACKED, n) ∈ orderFields :=
  List.mem_cons_of_mem _ (List.mem_map.mpr ⟨n, List.mem_range.mpr h, rfl⟩)

theorem State.member_lt (s : State) : s.member < 8 := s.rd_lt F.TRP_CTRL_MEMBER_ID 0

/-- t holds all that sending and ordering leave of the engine in s; of its counters only those of ks may have moved. -/
structure State.Coordinated (s t : State) (ks : List Nat) : Prop where
  trp : t.trp = { s.trp with seq := t.trp.seq, order := t.trp.order, mine := t.trp.mine, acked := t.trp.acked }
  tim : t.tim = s.tim
  regs : RegsIf s t isStanding
  counts : ∀ k, isTroupeCount k → k ∉ ks → t.cntTick.get k 0 = s.cntTick.get k 0

namespace State.Coordinated
variable {s t u : State} {ks : List Nat}

theorem refl : s.Coordinated s ks := ⟨rfl, rfl, .refl, fun _ _ _ => rfl⟩

theorem trans (h : s.Coordinated t ks) (h' : t.Coordinated u ks) : s.Coordinated u ks where
  trp := by rw [h'.trp, h.trp]
  tim := h'.tim.trans h.tim
  regs := h.regs.trans h'.regs
  counts k hk hks := (h'.counts k hk hks).trans (h.counts k hk hks)

theorem mono {ks' : List Nat} (h : s.Coordinated t ks) (hks : ks ⊆ ks') : s.Coordinated t ks' :=
  ⟨h.trp, h.tim, h.regs, fun k hk hk' => h.counts k hk (fun hm => hk' (hks hm))⟩

theorem spares (h : s.Coordinated t ks) (h' : t.SparesTroupe u) : s.Coordinated u ks :=
  h.trans ⟨by rw [h'.trp], h'.tim, fun f n hf => h'.regs f n (isStanding_inTroupe hf), fun k hk _ => h'.counts k hk⟩

theorem wr (h : s.Coordinated t ks) {f : Fld} {n : Nat} (v : Nat) (hf : (f, n) ∈ orderFields) : s.Coordinated (t.wr f n v) ks :=
  h.trans ⟨rfl, rfl, .wr t v (isStanding_orderField hf), fun _ _ _ => rfl⟩

theorem bump (h : s.Coordinated t ks) {g ev n by' : Nat} (hks : cntKey g ev n ∈ ks) : s.Coordinated (t.bump g ev n by') ks :=
  h.trans ⟨rfl, rfl, .of_regs rfl, fun _ _ hk => t.bump_cntTick_other fun he => hk (he ▸ hks)⟩

theorem setTrp (h : s.Coordinated t ks) {f : Trp → Trp}
    (hf : f t.trp = { t.trp with seq := (f t.trp).seq, order := (f t.trp).order, mine := (f t.trp).mine, acked := (f t.trp).acked }) :
    s.Coordinated (t.setTrp f) ks :=
  h.trans ⟨hf, rfl, .of_regs rfl, fun _ _ _ => rfl⟩

theorem when (h : s.Coordinated t ks) {b : Bool} {f : State → State} (hf : s.Coordinated (f t) ks) : s.Coordinated (t.when b f) ks := by
  unfold State.when
  split
  · exact hf.spares (.congr .refl rfl rfl rfl rfl)
  · exact h

end State.Coordinated

/-! ### A control frame is sent (R301) -/

/-- A control frame of a TYPE is numbered and counted; then it goes out on every listed port. -/
def State.ctlCounted (s : State) (type : Nat) : State :=
  (((s.wr F.TRP_GRANT_CRITICAL 0 (b2n s.critical)).setFwd (fun w => { w with nextFrame := w.nextFrame + 1 })).setTrp
    (fun t => { t with seq := (t.seq + 1) % 2 ^ 32 })).bump 11 1 type

theorem State.linkPorts_lt {s : State} {p : Nat} (h : p ∈ s.linkPorts) : p < 1024 := by
  obtain ⟨i, -, rfl⟩ := List.mem_map.mp h
  exact s.rd_lt F.TRP_LINK_PORT i

theorem State.linkPorts_headD_lt (s : State) : s.linkPorts.headD 0 < 1024 := by
  cases h : s.linkPorts with
  | nil => decide
  | cons p l => exact State.linkPorts_lt (h ▸ List.mem_cons_self)

theorem State.ctlCounted_spares_sendCtl (s : State) (type : Nat) (body : Bytes) : (s.ctlCounted type).SparesTroupe (s.sendCtl type body) := by
  unfold State.sendCtl
  extract_lets b b' ports s₁ f s₂ s₃
  exact State.SparesTroupe.refl.foldl ports fun t p hp =>
    State.SparesTroupe.refl.admitOwn ⟨rfl, rfl, State.linkPorts_lt hp, s.linkPorts_headD_lt⟩

theorem State.sendCtl_coordinated (s : State) (type : Nat) (body : Bytes) : s.Coordinated (s.sendCtl type body) [cntKey 11 1 type] := by
  have hcritical : s.Coordinated (s.wr F.TRP_GRANT_CRITICAL 0 (b2n s.critical)) [cntKey 11 1 type] := State.Coordinated.refl.wr _ List.mem_cons_self
  have hframed := hcritical.spares (u := (s.wr F.TRP_GRANT_CRITICAL 0 (b2n s.critical)).setFwd (fun w => { w with nextFrame := w.nextFrame + 1 }))
    (.congr .refl rfl rfl rfl rfl)
  have hcounted : s.Coordinated (s.ctlCounted type) [cntKey 11 1 type] :=
    (hframed.setTrp (f := fun t => { t with seq := (t.seq + 1) % 2 ^ 32 }) rfl).bump List.mem_cons_self
  exact hcounted.spares (s.ctlCounted_spares_sendCtl type body)

theorem State.sendCtl_counts (s : State) (type : Nat) (body : Bytes) (ht : type < 65536) :
    (s.sendCtl type body).cntTick.get (cntKey 11 1 type) 0 = s.cntTick.get (cntKey 11 1 type) 0 + 1 :=
  ((s.ctlCounted_spares_sendCtl type body).counts _ ((isTroupeCount_iff (by decide) ht).mpr rfl)).trans (State.bump_cntTick_same _ _ _ _ _)

/-! ### Lift orders (R307 to R309) -/

namespace State.Coordinated
variable {s t : State} {ks : List Nat}

theorem sendCtl (h : s.Coordinated t ks) {type : Nat} (body : Bytes) (hks : cntKey 11 1 type ∈ ks) : s.Coordinated (t.sendCtl type body) ks :=
  h.trans ((t.sendCtl_coordinated type body).mono (List.cons_subset.mpr ⟨hks, List.nil_subset _⟩))

theorem noteAcked (h : s.Coordinated t ks) {n : Nat} (hn : n < 8) : s.Coordinated (t.noteAcked n) ks :=
  (h.setTrp (f := fun t => { t with acked := (n :: t.acked).dedup }) rfl).wr 1 (acked_mem_orderFields hn)

theorem holdOrder (h : s.Coordinated t ks) (o : LiftOrder) (mine : Bool) : s.Coordinated (t.holdOrder o mine) ks := by
  have hall (l : List Nat) (hl : ∀ n ∈ l, n < 8) {u : State} (hu : s.Coordinated u ks) :
      s.Coordinated (l.foldl (fun s n => s.wr F.TRP_PEER_ACKED n 0) u) ks := by
    induction l generalizing u with
    | nil => exact hu
    | cons n l ih => exact ih (fun m hm => hl m (List.mem_cons_of_mem n hm)) (hu.wr 0 (acked_mem_orderFields (hl n List.mem_cons_self)))
  exact hall _ (fun n hn => List.mem_range.mp hn) (h.setTrp (f := fun t => { t with order := some o, mine := mine, acked := [] }) rfl)

theorem recalled (h : s.Coordinated t ks) (frame : Nat) : s.Coordinated (t.recall frame) ks := by
  have htaken : t.SparesTroupe (t.setQsg (fun q => { q with queue := q.queue.filter (fun c => c.frame.id != frame) })) := .congr .refl rfl rfl rfl rfl
  exact (h.spares (htaken.foldl _ fun u c _ => State.SparesTroupe.refl.release c)).setTrp (f := fun t => { t with seq := (t.seq + 2 ^ 32 - 1) % 2 ^ 32 }) rfl

/-- The list of scheduled actions, and its length (R105). -/
theorem actions (h : s.Coordinated t ks) (syn : Syn) (v : Nat) :
    s.Coordinated (({ t with syn := syn } : State).wr F.SYN_SCHED_STATUS_PENDING 0 v) ks :=
  have hlist : t.SparesTroupe { t with syn := syn } := .congr .refl rfl rfl rfl rfl
  h.spares (hlist.wr v (by decide))

theorem cancelLifts (h : s.Coordinated t ks) (p : Action → Bool) : s.Coordinated (t.cancelLifts p) ks :=
  h.actions _ _

theorem scheduleLift (h : s.Coordinated t ks) (o : LiftOrder) : s.Coordinated (t.scheduleLift o).1 ks := by
  have hcancelled := h.cancelLifts (t.superseded o.number)
  unfold State.scheduleLift
  extract_lets u
  split
  · exact hcancelled
  · split
    · exact hcancelled
    · exact hcancelled.actions _ _

theorem issueOrder (h : s.Coordinated t orderCounts) (lift : Nat) : s.Coordinated (t.issueOrder lift) orderCounts := by
  have hsend (u : State) (o : LiftOrder) (hu : s.Coordinated u orderCounts) :
      s.Coordinated ((((u.holdOrder o true).scheduleLift o).1.when (((u.holdOrder o true).scheduleLift o).2 == .ok) (fun s => s.noteAcked s.member)).sendCtl 4
        o.body) orderCounts :=
    have hscheduled := (hu.holdOrder o true).scheduleLift o
    (hscheduled.when (hscheduled.noteAcked (State.member_lt _))).sendCtl _ (by decide)
  unfold State.issueOrder
  extract_lets again
  clear_value again
  cases again with
  | none => exact hsend _ _ (h.bump (by decide))
  | some o => exact hsend _ _ (h.recalled o.frame)

theorem leadCheck (h : s.Coordinated t orderCounts) : s.Coordinated t.leadCheck orderCounts := by
  refine h.when ?_
  dsimp only
  split
  · exact h.issueOrder _
  · split
    · exact h.issueOrder _
    · exact h

theorem newLead (h : s.Coordinated t orderCounts) : s.Coordinated t.newLead orderCounts := by
  unfold State.newLead
  dsimp only
  split
  · exact h.issueOrder _
  · exact h

theorem askLift (h : s.Coordinated t orderCounts) : s.Coordinated t.askLift orderCounts := by
  refine h.when ?_
  split
  · exact h.leadCheck
  · exact h.sendCtl _ (by decide)

theorem repeatOrder (h : s.Coordinated t orderCounts) : s.Coordinated t.repeatOrder orderCounts := by
  unfold State.repeatOrder
  split
  · split
    · exact h.sendCtl _ (by decide)
    · exact h
  · exact h

end State.Coordinated

/-! ### What reads the same -/

section
variable {s t : State} {ks : List Nat}

/-- A field of the block that sending and ordering leave, by its place. -/
theorem State.Coordinated.rd (h : s.Coordinated t ks) {f : Fld} {n : Nat} (hf : isStanding (f.key n) = true) : t.rd f n = s.rd f n := h.regs f n hf

theorem State.Coordinated.peers (h : s.Coordinated t ks) : t.trp.peers = s.trp.peers := by rw [h.trp]
theorem State.Coordinated.grants (h : s.Coordinated t ks) : t.trp.grants = s.trp.grants := by rw [h.trp]
theorem State.Coordinated.hellos (h : s.Coordinated t ks) : t.trp.hellos = s.trp.hellos := by rw [h.trp]
theorem State.Coordinated.lead (h : s.Coordinated t ks) : t.trp.lead = s.trp.lead := by rw [h.trp]

theorem State.Coordinated.isLead (h : s.Coordinated t ks) : t.isLead = s.isLead := by
  rw [State.isLead, h.rd (by decide), State.isLead]

theorem State.leadCheck_of_not_lead (h : s.isLead = false) : s.leadCheck = s := s.when_false h _

end

end Sys2Proof.Machine
end

section
/-! Control frames heard (R300 to R303): the sender is alive with what its header reports; what the Lead does about it moves its order
alone. -/

namespace Sys2Proof.Machine

/-! ### Bytes and lists -/

theorem byteAt_drop (b : Bytes) (m n : Nat) : byteAt (b.drop m) n = byteAt b (m + n) := by
  simp [byteAt, List.getD_eq_getElem?_getD, List.getElem?_drop]

theorem beAt_drop (b : Bytes) (m n len : Nat) : beAt (b.drop m) n len = beAt b (m + n) len := by
  simp [beAt, List.drop_drop]

theorem nth_upd_other {α : Type} (l : List α) {e g : Nat} (f : α → α) (d : α) (h : e ≠ g) : nth (upd l e f) g d = nth l g d := by
  induction l generalizing e g with
  | nil => rfl
  | cons x l ih =>
    cases e with
    | zero =>
      cases g with
      | zero => exact absurd rfl h
      | succ g => rfl
    | succ e =>
      cases g with
      | zero => rfl
      | succ g => exact ih fun he => h (congrArg (· + 1) he)

theorem foldl_max_le_iff {α : Type} (f : α → Nat) (l : List α) (m c : Nat) :
    l.foldl (fun m x => max m (f x)) m ≤ c ↔ m ≤ c ∧ ∀ x ∈ l, f x ≤ c := by
  induction l generalizing m with
  | nil => simp
  | cons x l ih => simp [ih, and_assoc]

/-! ### The sender is noted (R300, R301) -/

/-- What the header of a frame says of its sender, in tick `now`. -/
def Peer.told (x : Peer) (b : Bytes) (now : Nat) : Peer :=
  { x with seq := some (beAt b 22 4), heard := some now, critical := bit (byteAt b 17) 1, liftSeq := beAt b 26 4, liftNs := beAt b 30 4,
           reqNs := beAt b 34 4, lost := false }

/-- A frame is counted, and its sender noted. -/
def State.heard (s : State) (type : Nat) (b : Bytes) : State := (s.bump 11 2 type).notePeer (b.drop 14)

/-- The fields that show a sender. -/
def peerFields (n : Nat) : List (Fld × Nat) := [(F.TRP_PEER_LIVE, n), (F.TRP_PEER_CRITICAL, n), (F.TRP_STATUS_LIVE, 0)]

section
variable (s : State) (type : Nat) (b : Bytes)

theorem State.heard_trp : (s.heard type b).trp = { s.trp with peers := upd s.trp.peers (byteAt b 16) (fun x => x.told b s.now) } := by
  simp only [State.heard, State.notePeer, byteAt_drop, beAt_drop]
  rfl

theorem State.heard_cntTick : (s.heard type b).cntTick.get (cntKey 11 2 type) 0 = s.cntTick.get (cntKey 11 2 type) 0 + 1 :=
  s.bump_cntTick_same 11 2 type 1

theorem State.heard_regs : RegsBut s (s.heard type b) (peerFields (byteAt b 16)) := by
  have hn : byteAt (b.drop 14) 2 = byteAt b 16 := byteAt_drop b 14 2
  unfold State.heard State.notePeer State.showLive
  rw [hn]
  exact (((RegsBut.of_regs rfl).wr _ (by simp [peerFields])).wr _ (by simp [peerFields])).wr _ (by simp [peerFields])

theorem State.heard_live (hn : byteAt b 16 < 8) : (s.heard type b).on F.TRP_PEER_LIVE (byteAt b 16) = true := by
  have happart : ∀ n < 8, F.TRP_STATUS_LIVE.key 0 ≠ F.TRP_PEER_LIVE.key n ∧ F.TRP_PEER_CRITICAL.key n ≠ F.TRP_PEER_LIVE.key n := by decide
  obtain ⟨hstatus, hcritical⟩ := happart _ hn
  unfold State.heard State.notePeer State.showLive
  rw [byteAt_drop]
  rw [State.on_wr_other _ _ _ hstatus, State.on_wr_other _ _ _ hcritical]
  exact State.on_wr_one _ _ _ rfl

end

/-! ### A frame is taken, or not (R303) -/

/-- What follows the effect of a frame: a Lead that meets its sender anew orders the greatest lift reported, and a Lead orders what is
required (R307, R309). -/
def State.heeded (u : State) (met : Bool) : State := (if met && u.isLead then u.newLead else u).leadCheck

section
variable {s : State} {type port : Nat} {b : Bytes}

theorem State.ctlOk_sender (h : s.ctlOk port b = true) : byteAt b 16 < 8 := by
  simp only [State.ctlOk, Bool.and_eq_true, decide_eq_true_eq, byteAt_drop] at h
  exact h.1.1.2

theorem State.sender_lt (h : s.Hears type port b) : byteAt b 16 < 8 := by
  obtain ⟨-, -, -, -, -, hok, -⟩ := h
  exact State.ctlOk_sender hok

theorem State.peers_length (h : s.Hears type port b) : s.trp.peers.length = 8 := by
  obtain ⟨-, -, -, -, -, -, -, -, hlen⟩ := h
  exact hlen

/-- A field that shows nothing of a sender. -/
theorem State.rd_heard_other (hn : byteAt b 16 < 8) {f : Fld} {m : Nat} (hf : ∀ n < 8, ∀ x ∈ peerFields n, x.1.key x.2 ≠ f.key m) :
    (s.heard type b).rd f m = s.rd f m :=
  s.heard_regs type b f m (hf _ hn)

theorem State.heard_isLead (hn : byteAt b 16 < 8) : (s.heard type b).isLead = s.isLead := by
  rw [State.isLead, State.rd_heard_other hn (by decide), State.isLead]

theorem State.takeCtl_hears (h : s.Hears type port b) (f : State → Nat → Bytes → State) :
    s.takeCtl type port b f = s.inside ((f (s.heard type b) (byteAt b 16) (b.drop 38)).heeded (!s.on F.TRP_PEER_LIVE (byteAt b 16))) := by
  obtain ⟨hlive, hsettled, henabled, hether, htype, hok, hother, hlater, -⟩ := h
  unfold State.takeCtl State.heeded State.heard
  rw [s.whenLive_true hlive]
  dsimp only
  rw [hsettled, byteAt_drop, byteAt_drop, beAt_drop, List.drop_drop, if_neg (by simp [hether, htype]), if_neg (by simp [henabled, hok]), if_neg hother]
  simp only [Nat.reduceAdd]
  cases hseq : (s.peer (byteAt b 16)).seq with
  | none => exact congrArg s.inside (if_neg Bool.false_ne_true)
  | some q =>
    have hnew : serialLater (beAt b 22 4) q = true := (Option.all_eq_true _ _).mp hlater q hseq
    exact congrArg s.inside (if_neg (by simp [hnew]))

theorem State.takeCtl_bad (hlive : s.live = true) (hsettled : s.Settled) (hether : beAt b 12 2 = 0x88B5) (htype : byteAt b 15 = type)
    (hbad : s.on F.TRP_CTRL_ENABLE = false ∨ s.ctlOk port b = false) (f : State → Nat → Bytes → State) :
    s.takeCtl type port b f = s.inside (s.bump 11 3) := by
  unfold State.takeCtl
  rw [s.whenLive_true hlive]
  dsimp only
  rw [hsettled, byteAt_drop, if_neg (by simp [hether, htype]), if_pos (by obtain h | h := hbad <;> simp [h])]

theorem State.takeCtl_duplicate (hlive : s.live = true) (hsettled : s.Settled) (hether : beAt b 12 2 = 0x88B5) (htype : byteAt b 15 = type)
    (henabled : s.on F.TRP_CTRL_ENABLE = true) (hok : s.ctlOk port b = true) (hother : byteAt b 16 ≠ s.member) {q : Nat}
    (hseq : (s.peer (byteAt b 16)).seq = some q) (hold : serialLater (beAt b 22 4) q = false) (f : State → Nat → Bytes → State) :
    s.takeCtl type port b f = s.inside (s.bump 11 4) := by
  unfold State.takeCtl
  rw [s.whenLive_true hlive]
  dsimp only
  rw [hsettled, byteAt_drop, byteAt_drop, beAt_drop, if_neg (by simp [hether, htype]), if_neg (by simp [henabled, hok]), if_neg hother, hseq]
  simp [hold]

theorem State.heeded_coordinated (u : State) (met : Bool) : u.Coordinated (u.heeded met) orderCounts := by
  unfold State.heeded
  split
  · exact State.Coordinated.refl.newLead.leadCheck
  · exact State.Coordinated.refl.leadCheck

theorem State.heeded_of_not_lead {u : State} (h : u.isLead = false) (met : Bool) : u.heeded met = u := by
  rw [State.heeded, h, Bool.and_false, if_neg Bool.false_ne_true, State.leadCheck_of_not_lead h]

end

end Sys2Proof.Machine
end

section
/-! Class 3 of a tick reads nothing of the periodic events that have run in it (R31, R32): it does the same once one is noted. -/

namespace Sys2Proof.Machine

/-- The events of fixed periods that have run in this tick. -/
def State.withRan (s : State) (r : List Nat) : State := { s with ran := r }

/-! ### What leaves them alone -/

section
variable (s : State) (r : List Nat)

@[simp] theorem State.rd_withRan (f : Fld) (n : Nat) : (s.withRan r).rd f n = s.rd f n := rfl
@[simp] theorem State.epoch_withRan : (s.withRan r).epoch = s.epoch := rfl
@[simp] theorem State.phase_withRan : (s.withRan r).phase = s.phase := rfl
@[simp] theorem State.withRan_wr (f : Fld) (n v : Nat) : (s.withRan r).wr f n v = (s.wr f n v).withRan r := rfl
@[simp] theorem State.withRan_raiseBits (f : Fld) (n v : Nat) : (s.withRan r).raiseBits f n v = (s.raiseBits f n v).withRan r := rfl
@[simp] theorem State.withRan_setServo (f : Servo → Servo) : (s.withRan r).setServo f = (s.setServo f).withRan r := rfl
@[simp] theorem State.withRan_armServoStep (m : Meas) (first : Bool) : (s.withRan r).armServoStep m first = (s.armServoStep m first).withRan r := rfl
@[simp] theorem State.withRan_epochSet (offset : Nat) : (s.withRan r).epochSet offset = (s.epochSet offset).withRan r := rfl

/-- A choice whose condition reads nothing of them. -/
theorem withRan_ite {c c' : Prop} [Decidable c] [Decidable c'] {t u t' u' : State} (hc : c' ↔ c) (ht : t' = t.withRan r) (hu : u' = u.withRan r) :
    (if c' then t' else u') = (if c then t else u).withRan r := by
  by_cases h : c
  · rw [if_pos h, if_pos (hc.mpr h), ht]
  · rw [if_neg h, if_neg (mt hc.mp h), hu]

/-! ### The steps of class 3 -/

@[simp] theorem State.withRan_timeState (cause : Nat) : (s.withRan r).timeState cause = (s.timeState cause).withRan r :=
  withRan_ite r Iff.rfl rfl rfl

@[simp] theorem State.withRan_servoState (k : Nat) : (s.withRan r).servoState k = (s.servoState k).withRan r :=
  withRan_ite r Iff.rfl rfl rfl

@[simp] theorem State.withRan_setRate (q : Int) : (s.withRan r).setRate q = (s.setRate q).withRan r := by
  unfold State.setRate State.when
  dsimp only
  split <;> rfl

@[simp] theorem State.withRan_feed (src : Nat) (theta : Int) : (s.withRan r).feed src theta = (s.feed src theta).withRan r :=
  withRan_ite r Iff.rfl (s.withRan_setRate r _) (State.withRan_setRate (s.wr _ _ _) r _)

@[simp] theorem State.withRan_enterSlewing (theta : Int) : (s.withRan r).enterSlewing theta = (s.enterSlewing theta).withRan r :=
  withRan_ite r Iff.rfl rfl (congrArg
    (fun t : State => (t.raiseBits F.SYN_INT_STATUS_SLEW_FAULT 0 1).raiseFault 2 1 1 (s.rd F.SYN_SERVO_STATUS_SOURCE) (ofS 64 theta))
    (s.withRan_servoState r 4))

@[simp] theorem State.withRan_stepTaken : (s.withRan r).stepTaken = s.stepTaken.withRan r :=
  withRan_ite r Iff.rfl (by simp) rfl

@[simp] theorem State.withRan_openEpoch (offset : Nat) : (s.withRan r).openEpoch offset = (s.openEpoch offset).withRan r := by
  simp [State.openEpoch_eq]

theorem State.withRan_servoStep (st : ArmedStep) : (s.withRan r).servoStep st = (s.servoStep st).withRan r := by
  have hdisarmed (t : State) :
      (if st.first || t.stepAllowed then ((t.withRan r).openEpoch (t.stepOffset st)).raiseBits F.SYN_INT_STATUS_STEP 0 1
        else (((t.withRan r).raiseBits F.SYN_INT_STATUS_STEP_DROPPED 0 1).enterSlewing st.amount).feed (t.rd F.SYN_SERVO_STATUS_SOURCE) st.amount) =
      (if st.first || t.stepAllowed then (t.openEpoch (t.stepOffset st)).raiseBits F.SYN_INT_STATUS_STEP 0 1
        else ((t.raiseBits F.SYN_INT_STATUS_STEP_DROPPED 0 1).enterSlewing st.amount).feed (t.rd F.SYN_SERVO_STATUS_SOURCE) st.amount).withRan r :=
    withRan_ite r Iff.rfl (by simp) (by simp)
  exact hdisarmed { s with tim := { s.tim with servoStep := none } }

theorem State.withRan_registerStep (st : ArmedStep) : (s.withRan r).registerStep st = (s.registerStep st).withRan r := by
  have hdisarmed (t : State) :
      (if t.stepAllowed then (({ t with tim := { t.tim with servoStep := none } } : State).withRan r).openEpoch (t.stepOffset st)
        else ((t.raiseBits F.TIM_INT_STATUS_STEP_DROPPED 0 1).bump 4 6).withRan r) =
      (if t.stepAllowed then ({ t with tim := { t.tim with servoStep := none } } : State).openEpoch (t.stepOffset st)
        else (t.raiseBits F.TIM_INT_STATUS_STEP_DROPPED 0 1).bump 4 6).withRan r :=
    withRan_ite r Iff.rfl (by simp) rfl
  exact hdisarmed (({ s with tim := { s.tim with armedStep := none } } : State).wr F.TIM_STEP_CTRL_PENDING 0 0)

theorem State.withRan_registerStepDue : (s.withRan r).registerStepDue = s.registerStepDue.withRan r := by
  change (match dueStep s.now s.tim.armedStep with | some st => (s.withRan r).registerStep st | none => s.withRan r) =
    (match dueStep s.now s.tim.armedStep with | some st => s.registerStep st | none => s).withRan r
  cases dueStep s.now s.tim.armedStep with
  | none => rfl
  | some st => exact s.withRan_registerStep r st

theorem State.withRan_servoStepDue : (s.withRan r).servoStepDue = s.servoStepDue.withRan r := by
  change (match dueStep s.now s.tim.servoStep with
      | some st => if s.tim.epochTick = some s.now then s.withRan r else (s.withRan r).servoStep st | none => s.withRan r) =
    (match dueStep s.now s.tim.servoStep with
      | some st => if s.tim.epochTick = some s.now then s else s.servoStep st | none => s).withRan r
  cases dueStep s.now s.tim.servoStep with
  | none => rfl
  | some st => exact withRan_ite r Iff.rfl rfl (s.withRan_servoStep r st)

theorem State.withRan_epochDue : (s.withRan r).epochDue = s.epochDue.withRan r := by
  rw [State.epochDue_eq, State.epochDue_eq]
  refine withRan_ite r Iff.rfl rfl ?_
  rw [State.withRan_registerStepDue, State.withRan_servoStepDue]

@[simp] theorem State.withRan_lockRule (theta : Int) : (s.withRan r).lockRule theta = (s.lockRule theta).withRan r := by
  unfold State.lockRule
  refine withRan_ite r Iff.rfl ?_ ?_
  · exact withRan_ite r Iff.rfl ((congrArg (State.servoState · 3) (State.withRan_setServo s r _)).trans (State.withRan_servoState _ r 3)) rfl
  · exact withRan_ite r Iff.rfl ((congrArg (State.servoState · 2) (State.withRan_setServo s r _)).trans (State.withRan_servoState _ r 2)) rfl

theorem State.withRan_excursion (m : Meas) : (s.withRan r).excursion m = (s.excursion m).withRan r := by
  unfold State.excursion
  extract_lets neg v n t v' n' t'
  have hn : n = n' := rfl
  have ht : t = t'.withRan r := rfl
  clear_value t t' n n'
  subst hn ht
  exact withRan_ite r Iff.rfl rfl (withRan_ite r Iff.rfl (by simp) (by simp))

theorem State.withRan_servoUpdate (m : Meas) : (s.withRan r).servoUpdate m = (s.servoUpdate m).withRan r := by
  unfold State.servoUpdate
  extract_lets t exc u t' exc' u'
  have ht : t = t'.withRan r := rfl
  have hexc : exc = exc' := by simp [exc, exc', ht]
  have hu : u = u'.withRan r := by simp [u, u', ht]
  clear_value u u' exc exc' t t'
  subst ht hexc hu
  refine withRan_ite r (by simp) (withRan_ite r Iff.rfl (by simp) rfl) (withRan_ite r (by simp) (withRan_ite r Iff.rfl ?_ (u'.withRan_setServo r _)) (withRan_ite r Iff.rfl ?_ ?_))
  · exact withRan_ite r Iff.rfl (by simp) (t'.withRan_feed r _ _)
  · exact t'.withRan_excursion r m
  · simp

theorem State.withRan_servoDue : (s.withRan r).servoDue = s.servoDue.withRan r := by
  change (match s.syn.servo.meas with
      | some m => if s.live && s.on F.SYN_SERVO_CTRL_ENABLE && decide (m.tick < s.now) then (s.withRan r).servoUpdate m else s.withRan r
      | none => s.withRan r) =
    (match s.syn.servo.meas with
      | some m => if s.live && s.on F.SYN_SERVO_CTRL_ENABLE && decide (m.tick < s.now) then s.servoUpdate m else s
      | none => s).withRan r
  cases s.syn.servo.meas with
  | none => rfl
  | some m => exact withRan_ite r Iff.rfl (s.withRan_servoUpdate r m) rfl

theorem State.withRan_rateNow : (s.withRan r).rateNow = s.rateNow.withRan r := by
  have hdue : (s.withRan r).rateDue = s.rateDue := rfl
  unfold State.rateNow
  rw [hdue]
  cases s.rateDue with
  | none => rfl
  | some q => exact State.withRan_setRate { s with tim := { s.tim with armedRate := none } } r q

theorem State.withRan_classThree : (s.withRan r).classThree = s.classThree.withRan r := by
  have hquotes (t : State) : (t.withRan r).refreshQuotes = t.refreshQuotes.withRan r := rfl
  refine withRan_ite r Iff.rfl ?_ rfl
  rw [State.withRan_epochDue, State.withRan_servoDue, State.withRan_epochDue, State.withRan_rateNow, hquotes]

end

/-- A settled tick stays so once a periodic event is noted. -/
theorem State.settled_withRan {s : State} (h : s.Settled) (r : List Nat) : (s.withRan r).Settled :=
  (s.withRan_classThree r).trans (congrArg (State.withRan · r) h)

end Sys2Proof.Machine
end

section
/-! Power grants (R302, R311): a GRANT heard, the grants that the Lead computes at its period, and the instant of a grant. -/

namespace Sys2Proof.Machine

/-! ### One field at several copies -/

/-- A field takes the values of a list, each with its copy. -/
def State.wrCopies (s : State) (f : Fld) (l : List (Nat × Nat)) : State := l.foldl (fun s x => s.wr f x.2 x.1) s

section
variable {s : State} {f : Fld} {l : List (Nat × Nat)}

theorem State.wrCopies_frame (s : State) (f : Fld) (l : List (Nat × Nat)) : s.wrCopies f l = { s with regs := (s.wrCopies f l).regs } :=
  foldl_keeps (I := fun t : State => t = { s with regs := t.regs }) (fun t x ht => by rw [ht]; rfl) l rfl

theorem State.rd_wrCopies_other {g : Fld} {n : Nat} (h : ∀ x ∈ l, f.key x.2 ≠ g.key n) : (s.wrCopies f l).rd g n = s.rd g n := by
  induction l generalizing s with
  | nil => rfl
  | cons x l ih =>
    exact (ih (s := s.wr f x.2 x.1) fun y hy => h y (List.mem_cons_of_mem x hy)).trans (s.rd_wr_other f g (h x List.mem_cons_self) x.1)

/-- Where no two of the copies share a place, each holds its value. -/
theorem State.rd_wrCopies_mem (hl : (l.map fun x => f.key x.2).Nodup) {x : Nat × Nat} (hx : x ∈ l) :
    (s.wrCopies f l).rd f x.2 = x.1 % 2 ^ f.width := by
  induction l generalizing s with
  | nil => cases hx
  | cons y l ih =>
    obtain ⟨hy, hl⟩ := List.nodup_cons.mp hl
    obtain rfl | hx := List.mem_cons.mp hx
    · exact (State.rd_wrCopies_other fun z hz he => hy (List.mem_map.mpr ⟨z, hz, he⟩)).trans (s.rd_wr_same f x.2 x.1)
    · exact ih (s := s.wr f y.2 y.1) hl hx

end

theorem beNat_lt (b : Bytes) : beNat b < 256 ^ b.length := by
  induction b using List.reverseRecOn with
  | nil => decide
  | append_singleton b x ih =>
    have hx : x.toNat < 256 := x.isLt
    simp only [beNat, List.foldl_append, List.foldl_cons, List.foldl_nil, List.length_append, List.length_singleton, Nat.pow_succ] at ih ⊢
    omega

theorem beAt_lt (b : Bytes) (n len : Nat) : beAt b n len < 256 ^ len :=
  (beNat_lt _).trans_le (Nat.pow_le_pow_right (by decide) (by simp))

/-! ### Grants that wait for their instant -/

theorem grantPlaces_apart : ((List.range' 0 8).map fun n => F.TRP_PEER_GRANT_W.key n).Nodup := by decide

/-- The grants of the eight members in a GRANT frame. -/
def grantsIn (b : Bytes) : List Nat := (List.range 8).map (fun n => beAt b (48 + 2 * n) 2)

section
variable {s : State} {due : Nat} {g : List Nat}

theorem State.holdGrants_eq (s : State) (due : Nat) (g : List Nat) :
    s.holdGrants due g = (s.setTrp (fun t => { t with grants := t.grants ++ [⟨due, g⟩] })).wrCopies F.TRP_PEER_GRANT_W g.zipIdx := rfl

theorem State.holdGrants_trp (s : State) (due : Nat) (g : List Nat) :
    (s.holdGrants due g).trp = { s.trp with grants := s.trp.grants ++ [⟨due, g⟩] } := by
  rw [State.holdGrants_eq, State.wrCopies_frame]
  rfl

theorem State.holdGrants_frame (s : State) (due : Nat) (g : List Nat) :
    s.holdGrants due g = { s with regs := (s.holdGrants due g).regs, trp := (s.holdGrants due g).trp } := by
  rw [State.holdGrants_trp]
  exact State.wrCopies_frame (s.setTrp (fun t => { t with grants := t.grants ++ [⟨due, g⟩] })) _ _

theorem State.rd_holdGrants_other {f : Fld} {n : Nat} (hg : g.length = 8) (h : ∀ k < 8, F.TRP_PEER_GRANT_W.key k ≠ f.key n) :
    (s.holdGrants due g).rd f n = s.rd f n := by
  rw [State.holdGrants_eq]
  refine State.rd_wrCopies_other fun x hx => h x.2 ?_
  have := (List.mem_zipIdx hx).2.1
  omega

theorem State.rd_holdGrants_grant (hg : g.length = 8) {n v : Nat} (hv : g[n]? = some v) :
    (s.holdGrants due g).rd F.TRP_PEER_GRANT_W n = v % 2 ^ F.TRP_PEER_GRANT_W.width := by
  have hplaces : (g.zipIdx.map fun x => F.TRP_PEER_GRANT_W.key x.2) = (List.range' 0 8).map fun n => F.TRP_PEER_GRANT_W.key n := by
    rw [← hg, ← List.zipIdx_map_snd, List.map_map]
    rfl
  rw [State.holdGrants_eq]
  exact State.rd_wrCopies_mem (x := (v, n)) (hplaces ▸ grantPlaces_apart) (List.mem_zipIdx_iff_getElem?.mpr hv)

end

/-! ### The grant period of the Lead -/

/-- A budget that is short is told. -/
def State.shortTold (s : State) (short : Bool) : State :=
  s.when short (fun s => (s.raiseFault 7 5 0 0 0).raiseBits F.TRP_INT_STATUS_BUDGET_SHORT 0 1)

theorem State.shortTold_trp (s : State) (short : Bool) : (s.shortTold short).trp = s.trp := by cases short <;> rfl
theorem State.shortTold_cntTick (s : State) (short : Bool) : (s.shortTold short).cntTick = s.cntTick := by cases short <;> rfl

theorem State.shortTold_regs (s : State) (short : Bool) : RegsBut s (s.shortTold short) [(F.TRP_INT_STATUS_BUDGET_SHORT, 0)] := by
  cases short with
  | false => exact .refl
  | true => exact RegsBut.raiseBits (t := s.raiseFault 7 5 0 0 0) (.of_regs rfl) 1 List.mem_cons_self

theorem State.shortTold_on (s : State) : (s.shortTold true).on F.TRP_INT_STATUS_BUDGET_SHORT = true :=
  State.on_raiseBits_one (s.raiseFault 7 5 0 0 0) _ _ rfl

theorem State.computeGrants_length (s : State) : s.computeGrants.1.length = 8 := by
  simp [State.computeGrants]

/-- The instant of the grants that the Lead computes now. -/
def State.grantInstant (s : State) : Nat := viewWrap ((s.viewAt s.now 0 + 200 * 65536000 : Nat) : Int)

/-- The Lead has computed the grants, and waits with them. -/
def State.granted (s : State) : State := (s.shortTold s.computeGrants.2).holdGrants s.grantInstant s.computeGrants.1

/-- The body of its GRANT frame. -/
def State.grantBody (s : State) : Bytes := instantBytes s.grantInstant ++ s.computeGrants.1.flatMap (fun x => be 2 x)

theorem State.computeGrants_withRan (s : State) (r : List Nat) : (s.withRan r).computeGrants = s.computeGrants := rfl
theorem State.grantInstant_withRan (s : State) (r : List Nat) : (s.withRan r).grantInstant = s.grantInstant := rfl

theorem State.granted_trp (s : State) : s.granted.trp = { s.trp with grants := s.trp.grants ++ [⟨s.grantInstant, s.computeGrants.1⟩] } := by
  rw [State.granted, State.holdGrants_trp, State.shortTold_trp]

theorem State.granted_cntTick (s : State) : s.granted.cntTick = s.cntTick := by
  rw [State.granted, State.holdGrants_frame]
  exact s.shortTold_cntTick _

theorem State.granted_grant (s : State) : s.granted.rd F.TRP_GRANT_GRANT_W = s.rd F.TRP_GRANT_GRANT_W := by
  rw [State.granted, State.rd_holdGrants_other s.computeGrants_length (by decide)]
  exact s.shortTold_regs _ _ _ (by decide)

theorem State.granted_short {s : State} (h : s.computeGrants.2 = true) : s.granted.on F.TRP_INT_STATUS_BUDGET_SHORT = true := by
  rw [State.granted, h, State.on, State.rd_holdGrants_other s.computeGrants_length (by decide)]
  exact s.shortTold_on

theorem State.grantPeriod_eq {s : State} (hsettled : s.Settled)
    (hdue : (s.live && s.on F.TRP_CTRL_ENABLE && s.isLead && s.now % s.periodTicks == 0) = true) (hran : s.ran.contains 10 = false) :
    exec .grantPeriod s = .next (s.inside ((s.withRan (10 :: s.ran)).granted.sendCtl 6 (s.withRan (10 :: s.ran)).grantBody)) := by
  refine congrArg Host.Outcome.next ((s.once_true hdue hran _).trans (congrArg s.inside ?_))
  have hnoted : ({ s with ran := 10 :: s.ran } : State).classThree = s.withRan (10 :: s.ran) := State.settled_withRan hsettled _
  rw [hnoted]
  rfl

/-! ### The instant of a grant -/

/-- The grant in force, or the power of a member alone (R311). -/
def State.grantInForce (s : State) : Nat := if s.rd F.TRP_GRANT_GRANT_W = 0 then s.rd F.TRP_POWER_SOLO_W else s.rd F.TRP_GRANT_GRANT_W

/-- One GRANT that waits, at a tick of the engine: this member takes its part of it, or it waits on. -/
theorem State.grantApply_eq {s u : State} {w : GrantWait} {keep : Bool} (hsettled : s.Settled) (hdue : (s.live && s.on F.TRP_CTRL_ENABLE) = true)
    (hgrants : s.trp.grants = [w]) (htaken : (s.setTrp (fun t => { t with grants := [] })).takeGrant w = (u, keep)) :
    exec .grantApply s = .next (s.inside (if keep then u.setTrp (fun t => { t with grants := t.grants ++ [w] }) else u)) := by
  refine congrArg Host.Outcome.next ((s.when_true hdue _).trans (congrArg s.inside ?_))
  dsimp only
  rw [hsettled, hgrants, List.foldl_cons, List.foldl_nil, htaken]

theorem State.takeGrant_now {s : State} {due : Nat} {gs : List Nat} (hreached : due ≤ s.viewAt s.now 0) (hpos : 0 < nth gs s.member 0)
    (hlower : nth gs s.member 0 ≤ s.grantInForce) :
    s.takeGrant ⟨due, gs⟩ = (s.wr F.TRP_GRANT_GRANT_W 0 (nth gs s.member 0), false) := by
  have hnow : ¬ s.viewAt s.now 0 < due := by omega
  have hmine : ¬ nth gs s.member 0 = 0 := by omega
  unfold State.takeGrant
  dsimp only
  rw [if_neg hnow, if_neg hmine, if_pos (.inl hlower)]

theorem State.takeGrant_waits {s : State} {due : Nat} {gs : List Nat} (hreached : due ≤ s.viewAt s.now 0)
    (hearly : s.viewAt s.now 0 < due + 100 * 65536000) (hhigher : s.grantInForce < nth gs s.member 0) : s.takeGrant ⟨due, gs⟩ = (s, true) := by
  have hnow : ¬ s.viewAt s.now 0 < due := by omega
  have hmine : ¬ nth gs s.member 0 = 0 := by omega
  have hlate : ¬ (nth gs s.member 0 ≤ s.grantInForce ∨ due + 100 * 65536000 ≤ s.viewAt s.now 0) := by omega
  unfold State.takeGrant
  dsimp only
  rw [if_neg hnow, if_neg hmine]
  exact if_neg hlate

end Sys2Proof.Machine

namespace Sys2Proof.Proofs
open Sys2Proof.Machine

/-- A GRANT frame's grants wait for their instant, and PEER shows them (R302, R311). -/
theorem grant_waits (s : State) (port : Fin 512) (b : Bytes) (h : s.Hears 6 port.val b) :
    Completes (.grant port b) s (fun t => t.trp.grants = s.trp.grants ++ [⟨viewOf (beAt b 38 6) (beAt b 44 4) 0, (List.range 8).map (fun n => beAt b (48 + 2 * n) 2)⟩] ∧
    (List.range 8).all (fun n => t.rd F.TRP_PEER_GRANT_W n == beAt b (48 + 2 * n) 2) = true ∧ (s.isLead = false → t.rd F.TRP_GRANT_GRANT_W = s.rd F.TRP_GRANT_GRANT_W ∧
      t = { s with regs := t.regs, trp := t.trp, cntTick := t.cntTick })) := by
  have hg : (grantsIn b).length = 8 := by simp [grantsIn]
  have hnext : exec (.grant port b) s = .next (s.inside (((s.heard 6 b).holdGrants (viewOf (beAt b 38 6) (beAt b 44 4) 0) (grantsIn b)).heeded
      (!s.on F.TRP_PEER_LIVE (byteAt b 16)))) := by
    refine congrArg Host.Outcome.next ((State.takeCtl_hears h _).trans ?_)
    simp only [instantAt, beAt_drop, ← Nat.add_assoc, Nat.reduceAdd]
    rfl
  have hkept := State.heeded_coordinated ((s.heard 6 b).holdGrants (viewOf (beAt b 38 6) (beAt b 44 4) 0) (grantsIn b))
    (!s.on F.TRP_PEER_LIVE (byteAt b 16))
  have hplaces : ∀ n < 8, isStanding (F.TRP_PEER_GRANT_W.key n) = true := by decide
  refine ⟨_, hnext, ?_, ?_, fun hlead => ?_⟩
  · rw [State.inside_trp, hkept.grants, State.holdGrants_trp, State.heard_trp]
    rfl
  · refine List.all_eq_true.mpr fun n hn => beq_iff_eq.mpr ?_
    have hn := List.mem_range.mp hn
    have hvalue : (grantsIn b)[n]? = some (beAt b (48 + 2 * n) 2) := by simp [grantsIn, hn]
    rw [State.rd_inside, hkept.rd (hplaces n hn), State.rd_holdGrants_grant hg hvalue]
    exact Nat.mod_eq_of_lt (beAt_lt b (48 + 2 * n) 2)
  · have hfollows : ((s.heard 6 b).holdGrants (viewOf (beAt b 38 6) (beAt b 44 4) 0) (grantsIn b)).isLead = false := by
      rw [State.isLead, State.rd_holdGrants_other hg (by decide)]
      exact (State.heard_isLead (State.sender_lt h)).trans hlead
    rw [State.heeded_of_not_lead hfollows]
    refine ⟨?_, ?_⟩
    · rw [State.rd_inside, State.rd_holdGrants_other hg (by decide), State.rd_heard_other (State.sender_lt h) (by decide)]
    · rw [State.holdGrants_frame]
      rfl

/-- At each period the Lead computes the grants, waits with them for the instant 200 µs away, and sends them (R311). -/
theorem grantPeriod_grants (s : State)
    (h : s.live = true ∧ s.Settled ∧ s.on F.TRP_CTRL_ENABLE = true ∧ s.isLead = true ∧ s.now % s.periodTicks = 0 ∧ s.ran.contains 10 = false) :
    Completes (.grantPeriod) s (fun t => t.trp.grants = s.trp.grants ++ [⟨viewWrap ((s.viewAt s.now 0 + 200 * 65536000 : Nat) : Int), s.computeGrants.1⟩] ∧
    t.cntTick.get (cntKey 11 1 6) 0 = s.cntTick.get (cntKey 11 1 6) 0 + 1 ∧ t.rd F.TRP_GRANT_GRANT_W = s.rd F.TRP_GRANT_GRANT_W ∧
    (s.computeGrants.2 = true → t.on F.TRP_INT_STATUS_BUDGET_SHORT = true)) := by
  obtain ⟨hlive, hsettled, henabled, hlead, hperiod, hran⟩ := h
  have hdue : (s.live && s.on F.TRP_CTRL_ENABLE && s.isLead && s.now % s.periodTicks == 0) = true := by simp [hlive, henabled, hlead, hperiod]
  have hsent := (s.withRan (10 :: s.ran)).granted.sendCtl_coordinated 6 (s.withRan (10 :: s.ran)).grantBody
  have hcount := (s.withRan (10 :: s.ran)).granted.sendCtl_counts 6 (s.withRan (10 :: s.ran)).grantBody (by decide)
  rw [State.granted_cntTick] at hcount
  refine ⟨_, State.grantPeriod_eq hsettled hdue hran, ?_, ?_, ?_, fun hshort => ?_⟩
  · rw [State.inside_trp, hsent.grants, State.granted_trp, State.computeGrants_withRan, State.grantInstant_withRan]
    rfl
  · rw [State.inside_cntTick, hcount]
    rfl
  · rw [State.rd_inside, hsent.rd (by decide), State.granted_grant]
    rfl
  · rw [State.on_inside, State.on, hsent.rd (by decide)]
    exact State.granted_short ((congrArg Prod.snd (s.computeGrants_withRan _)).trans hshort)

/-- A grant that is not above the one in force takes effect at its instant (R311). -/
theorem grantApply_lowers (s : State) (due g : Nat) (gs : List Nat) (h : s.live = true ∧ s.Settled ∧ s.on F.TRP_CTRL_ENABLE = true)
    (hgrant : s.trp.grants = [⟨due, gs⟩] ∧ due ≤ s.viewAt s.now 0 ∧ nth gs s.member 0 = g ∧ 0 < g ∧ g < 65536)
    (hlower : g ≤ (if s.rd F.TRP_GRANT_GRANT_W = 0 then s.rd F.TRP_POWER_SOLO_W else s.rd F.TRP_GRANT_GRANT_W)) :
    Completes (.grantApply) s (fun t => t.rd F.TRP_GRANT_GRANT_W = g ∧ t.trp = { s.trp with grants := [] } ∧ RegsBut s t [(F.TRP_GRANT_GRANT_W, 0)] ∧
    t = { s with regs := t.regs, trp := t.trp }) := by
  obtain ⟨hlive, hsettled, henabled⟩ := h
  obtain ⟨hgrants, hreached, hmine, hpos, hwidth⟩ := hgrant
  have hdue : (s.live && s.on F.TRP_CTRL_ENABLE) = true := by simp [hlive, henabled]
  have htaken := State.takeGrant_now (s := s.setTrp (fun t => { t with grants := [] })) hreached (hpos.trans_eq hmine.symm) (hmine.trans_le hlower)
  have hnext := State.grantApply_eq hsettled hdue hgrants htaken
  refine ⟨_, hnext, ?_, rfl, ?_, rfl⟩
  · exact (State.rd_wr_same _ _ _ _).trans ((Nat.mod_eq_of_lt (hmine.trans_lt hwidth)).trans hmine)
  · exact RegsBut.wr (t := s.setTrp (fun t => { t with grants := [] })) (.of_regs rfl) _ List.mem_cons_self

/-- A grant above the one in force waits 100 µs longer (R311). -/
theorem grantApply_waits (s : State) (due g : Nat) (gs : List Nat) (h : s.live = true ∧ s.Settled ∧ s.on F.TRP_CTRL_ENABLE = true)
    (hgrant : s.trp.grants = [⟨due, gs⟩] ∧ due ≤ s.viewAt s.now 0 ∧ s.viewAt s.now 0 < due + 100 * 65536000 ∧ nth gs s.member 0 = g)
    (hhigher : (if s.rd F.TRP_GRANT_GRANT_W = 0 then s.rd F.TRP_POWER_SOLO_W else s.rd F.TRP_GRANT_GRANT_W) < g) :
    Completes (.grantApply) s (fun t => t = s) := by
  obtain ⟨hlive, hsettled, henabled⟩ := h
  obtain ⟨hgrants, hreached, hearly, hmine⟩ := hgrant
  have hdue : (s.live && s.on F.TRP_CTRL_ENABLE) = true := by simp [hlive, henabled]
  have htaken := State.takeGrant_waits (s := s.setTrp (fun t => { t with grants := [] })) hreached hearly (hhigher.trans_eq hmine.symm)
  refine ⟨_, State.grantApply_eq hsettled hdue hgrants htaken, ?_⟩
  have htrp : ({ s.trp with grants := [] ++ [⟨due, gs⟩] } : Trp) = s.trp := by rw [List.nil_append, ← hgrants]
  exact congrArg (fun x => { s with trp := x }) htrp

/-- Settles O29: a GRANT frame, the grant period of the Lead, and a grant that takes effect or waits. -/
theorem troupeGrantsPower : Obligations.TroupeGrantsPower :=
  ⟨grant_waits, grantPeriod_grants, grantApply_lowers, grantApply_waits⟩

end Sys2Proof.Proofs
end

section
/-! HELLO and ACK frames (R299 to R303, R307): what a HELLO tells of its sender, a frame that is not taken, and an ACK of the latest
order. -/

namespace Sys2Proof.Machine

/-! ### A HELLO -/

/-- What a HELLO says of its sender beside its header (R302). -/
def Peer.greeted (x : Peer) (b : Bytes) : Peer :=
  { x with prio := byteAt b 38, believed := byteAt b 39, meas := beAt b 40 2, demand := beAt b 42 2, limit := beAt b 44 2 }

/-- A HELLO is taken. -/
def State.greeted (s : State) (b : Bytes) : State := (s.heard 1 b).setPeer (byteAt b 16) (fun x => x.greeted b)

section
variable {s : State} {port : Fin 512} {b : Bytes}

theorem State.hello_eq (h : s.Hears 1 port.val b) :
    exec (.hello port b) s = .next (s.inside ((s.greeted b).heeded (!s.on F.TRP_PEER_LIVE (byteAt b 16)))) := by
  refine congrArg Host.Outcome.next ((State.takeCtl_hears h _).trans ?_)
  simp only [byteAt_drop, beAt_drop, Nat.reduceAdd]
  rfl

theorem State.greeted_peer (hlen : s.trp.peers.length = 8) (hn : byteAt b 16 < 8) :
    (s.greeted b).peer (byteAt b 16) = ((s.peer (byteAt b 16)).told b s.now).greeted b := by
  have htold : (s.heard 1 b).trp.peers = upd s.trp.peers (byteAt b 16) (fun x => x.told b s.now) := congrArg Trp.peers (s.heard_trp 1 b)
  refine (nth_upd_same _ _ ?_).trans (congrArg (fun x => Peer.greeted x b) ?_)
  · rw [htold, upd_length, hlen]
    exact hn
  · rw [htold]
    exact nth_upd_same _ _ (hlen ▸ hn)

theorem State.greeted_isLead (hn : byteAt b 16 < 8) : (s.greeted b).isLead = s.isLead := State.heard_isLead (type := 1) hn

end

/-! ### An ACK of the latest order -/

/-- An ACK that says OK to the latest order is taken. -/
def State.ackTaken (s : State) (b : Bytes) : State := (s.heard 5 b).noteAcked (byteAt b 16)

section
variable {s : State} {port : Fin 512} {b : Bytes} {o : LiftOrder}

theorem State.ack_eq (h : s.Hears 5 port.val b) (horder : s.trp.order = some o) (htype : byteAt b 38 = 4) (hnumber : beAt b 39 4 = o.number)
    (hok : byteAt b 43 = 0) :
    exec (.ack port b) s = .next (s.inside ((s.ackTaken b).heeded (!s.on F.TRP_PEER_LIVE (byteAt b 16)))) := by
  have hlatest : (s.heard 5 b).trp.order = some o := by rw [State.heard_trp, horder]
  refine congrArg Host.Outcome.next ((State.takeCtl_hears h _).trans ?_)
  simp only [byteAt_drop, beAt_drop, Nat.reduceAdd]
  rw [State.when_true _ (by simp [htype, hnumber, hok, hlatest])]
  rfl

theorem State.ackTaken_trp (s : State) (b : Bytes) : (s.ackTaken b).trp =
    { s.trp with peers := upd s.trp.peers (byteAt b 16) (fun x => x.told b s.now), acked := (byteAt b 16 :: s.trp.acked).dedup } := by
  have hnoted : (s.ackTaken b).trp = { (s.heard 5 b).trp with acked := (byteAt b 16 :: (s.heard 5 b).trp.acked).dedup } := rfl
  rw [hnoted, State.heard_trp]

theorem State.ackTaken_acked (s : State) (b : Bytes) : (s.ackTaken b).trp.acked.contains (byteAt b 16) = true := by
  simp [State.ackTaken_trp]

theorem State.ackTaken_order (s : State) (b : Bytes) : (s.ackTaken b).trp.order = s.trp.order := by
  rw [State.ackTaken_trp]

theorem State.ackTaken_on (s : State) (b : Bytes) : (s.ackTaken b).on F.TRP_PEER_ACKED (byteAt b 16) = true := State.on_wr_one _ _ _ rfl

theorem State.ackTaken_regs (s : State) (b : Bytes) : RegsBut s (s.ackTaken b) ((F.TRP_PEER_ACKED, byteAt b 16) :: peerFields (byteAt b 16)) :=
  RegsBut.wr (t := (s.heard 5 b).setTrp (fun t => { t with acked := (byteAt b 16 :: t.acked).dedup }))
    (((s.heard_regs 5 b).mono fun _ hx => List.mem_cons_of_mem _ hx).congr rfl) 1 List.mem_cons_self

theorem State.rd_ackTaken_other (hn : byteAt b 16 < 8) {f : Fld} {m : Nat}
    (hf : ∀ n < 8, ∀ x ∈ (F.TRP_PEER_ACKED, n) :: peerFields n, x.1.key x.2 ≠ f.key m) : (s.ackTaken b).rd f m = s.rd f m :=
  s.ackTaken_regs b f m (hf _ hn)

theorem State.ackTaken_live (hn : byteAt b 16 < 8) : (s.ackTaken b).on F.TRP_PEER_LIVE (byteAt b 16) = true := by
  have hapart : ∀ n < 8, F.TRP_PEER_ACKED.key n ≠ F.TRP_PEER_LIVE.key n := by decide
  exact (State.on_wr_other _ _ _ (hapart _ hn) _).trans (s.heard_live 5 b hn)

theorem State.ackTaken_isLead (hn : byteAt b 16 < 8) : (s.ackTaken b).isLead = s.isLead := by
  rw [State.isLead, State.rd_ackTaken_other hn (by decide), State.isLead]

/-- A member that was live already leaves the live set as it is. -/
theorem State.ackTaken_liveOthers (hn : byteAt b 16 < 8) (hlive : s.on F.TRP_PEER_LIVE (byteAt b 16) = true) :
    (s.ackTaken b).liveOthers = s.liveOthers := by
  have hapart : ∀ m < 8, ∀ n < 8, m ≠ n → ∀ x ∈ (F.TRP_PEER_ACKED, n) :: peerFields n, x.1.key x.2 ≠ F.TRP_PEER_LIVE.key m := by decide
  have hmember : (s.ackTaken b).member = s.member := State.rd_ackTaken_other hn (by decide)
  refine List.filter_congr fun m hm => ?_
  have hm := List.mem_range.mp hm
  by_cases he : m = byteAt b 16
  · rw [he, hmember, State.ackTaken_live hn, hlive]
  · have hsame : (s.ackTaken b).rd F.TRP_PEER_LIVE m = s.rd F.TRP_PEER_LIVE m := s.ackTaken_regs b _ _ (hapart m hm _ hn he)
    rw [hmember, State.on, hsame, State.on]

/-- A Lead orders nothing when no live member requires more than it has ordered, and the phase lets it lower nothing (R307, R309). -/
theorem State.leadCheck_idle {u : State} (hreq : u.maxReq ≤ u.orderedLift) (hphase : bit (u.rd F.TRP_LIFT_CFG_UNLIFT_PHASES) u.phase = false) :
    u.leadCheck = u := by
  have hidle : (if u.orderedLift < u.maxReq then u.issueOrder u.maxReq
      else if u.maxReq < u.orderedLift ∧ u.maxReq < u.rd F.TRP_LIFT_LIFT_NS ∧ bit (u.rd F.TRP_LIFT_CFG_UNLIFT_PHASES) u.phase
        then u.issueOrder u.maxReq else u) = u := by
    rw [if_neg (by omega), if_neg (by simp [hphase])]
  unfold State.leadCheck State.when
  split
  · exact congrArg u.inside hidle
  · rfl

theorem State.ackTaken_reqNs (hn : byteAt b 16 < 8) : (s.ackTaken b).reqNs = s.reqNs := by
  have hpwr : (s.ackTaken b).pwr = s.pwr := rfl
  have hlift (f : Nat) : (s.ackTaken b).liftFor f = s.liftFor f := by
    rw [State.liftFor, State.rd_ackTaken_other hn (by decide), State.liftFor]
  rw [State.reqNs, hpwr, State.rd_ackTaken_other hn (by decide), State.reqNs]
  simp only [hlift]

theorem State.ackTaken_maxReq (hn : byteAt b 16 < 8) (hlen : s.trp.peers.length = 8) (hlive : s.on F.TRP_PEER_LIVE (byteAt b 16) = true) {c : Nat}
    (hmax : s.maxReq ≤ c) (hreq : beAt b 34 4 ≤ c) : (s.ackTaken b).maxReq ≤ c := by
  obtain ⟨hown, hothers⟩ := (foldl_max_le_iff (fun n => (s.peer n).reqNs) s.liveOthers s.reqNs c).mp hmax
  have hpeers : (s.ackTaken b).trp.peers = upd s.trp.peers (byteAt b 16) (fun x => x.told b s.now) := congrArg Trp.peers (s.ackTaken_trp b)
  refine (foldl_max_le_iff (fun n => ((s.ackTaken b).peer n).reqNs) _ _ c).mpr ⟨(State.ackTaken_reqNs hn).trans_le hown, fun m hm => ?_⟩
  rw [State.ackTaken_liveOthers hn hlive] at hm
  by_cases he : byteAt b 16 = m
  · subst he
    rw [State.peer, hpeers, nth_upd_same _ _ (hlen ▸ hn)]
    exact hreq
  · rw [State.peer, hpeers, nth_upd_other _ _ _ he]
    exact hothers m hm

end

end Sys2Proof.Machine

namespace Sys2Proof.Proofs
open Sys2Proof.Machine

/-- A HELLO from another member makes it live with what it reports (R300 to R302). -/
theorem hello_heard (s : State) (port : Fin 512) (b : Bytes) (h : s.Hears 1 port.val b) :
    Completes (.hello port b) s (fun t => t.on F.TRP_PEER_LIVE (byteAt b 16) = true ∧ (t.peer (byteAt b 16)).heard = some s.now ∧ (t.peer (byteAt b 16)).seq = some (beAt b 22 4) ∧
    (t.peer (byteAt b 16)).prio = byteAt b 38 ∧ (t.peer (byteAt b 16)).demand = beAt b 42 2 ∧
    t.cntTick.get (cntKey 11 2 1) 0 = s.cntTick.get (cntKey 11 2 1) 0 + 1 ∧
    (s.isLead = false → t = { s with regs := t.regs, trp := t.trp, cntTick := t.cntTick })) := by
  have hn := State.sender_lt h
  have hlen : s.trp.peers.length = 8 := State.peers_length h
  have hplaces : ∀ n < 8, isStanding (F.TRP_PEER_LIVE.key n) = true := by decide
  have hkept := State.heeded_coordinated (s.greeted b) (!s.on F.TRP_PEER_LIVE (byteAt b 16))
  have hpeer : ((s.greeted b).heeded (!s.on F.TRP_PEER_LIVE (byteAt b 16))).peer (byteAt b 16) = ((s.peer (byteAt b 16)).told b s.now).greeted b := by
    rw [State.peer, hkept.peers]
    exact State.greeted_peer hlen hn
  refine ⟨_, State.hello_eq h, ?_, ?_, ?_, ?_, ?_, ?_, fun hlead => ?_⟩
  · rw [State.on_inside, State.on, hkept.rd (hplaces _ hn)]
    exact s.heard_live 1 b hn
  · exact congrArg Peer.heard hpeer
  · exact congrArg Peer.seq hpeer
  · exact congrArg Peer.prio hpeer
  · exact congrArg Peer.demand hpeer
  · exact (hkept.counts _ ((isTroupeCount_iff (by decide) (by decide)).mpr rfl) (by decide)).trans (s.heard_cntTick 1 b)
  · rw [State.heeded_of_not_lead ((State.greeted_isLead hn).trans hlead)]
    rfl

/-- A frame that fails the checks is dropped and counted (R303). -/
theorem hello_fails (s : State) (port : Fin 512) (b : Bytes) (h : s.live = true ∧ s.Settled ∧ beAt b 12 2 = 0x88B5 ∧ byteAt b 15 = 1)
    (hbad : s.on F.TRP_CTRL_ENABLE = false ∨ s.ctlOk port.val b = false) :
    Completes (.hello port b) s (fun t => t.cntTick.get (cntKey 11 3 0) 0 = s.cntTick.get (cntKey 11 3 0) 0 + 1 ∧ t = { s with cntTick := t.cntTick }) := by
  obtain ⟨hlive, hsettled, hether, htype⟩ := h
  exact ⟨_, congrArg Host.Outcome.next (State.takeCtl_bad hlive hsettled hether htype hbad _), s.bump_cntTick_same 11 3 0 1, rfl⟩

/-- A frame that is not later than the last of its sender is dropped and counted (R303). -/
theorem hello_duplicate (s : State) (port : Fin 512) (b : Bytes) (q : Nat) (h : s.live = true ∧ s.Settled ∧ beAt b 12 2 = 0x88B5 ∧ byteAt b 15 = 1)
    (hok : s.on F.TRP_CTRL_ENABLE = true ∧ s.ctlOk port.val b = true ∧ byteAt b 16 ≠ s.member)
    (hold : (s.peer (byteAt b 16)).seq = some q ∧ serialLater (beAt b 22 4) q = false) :
    Completes (.hello port b) s (fun t => t.cntTick.get (cntKey 11 4 0) 0 = s.cntTick.get (cntKey 11 4 0) 0 + 1 ∧ t = { s with cntTick := t.cntTick }) := by
  obtain ⟨hlive, hsettled, hether, htype⟩ := h
  obtain ⟨henabled, hchecked, hother⟩ := hok
  exact ⟨_, congrArg Host.Outcome.next (State.takeCtl_duplicate hlive hsettled hether htype henabled hchecked hother hold.1 hold.2 _),
    s.bump_cntTick_same 11 4 0 1, rfl⟩

/-- An OK ACK of the latest order is noted (R302, R307). -/
theorem ack_noted (s : State) (port : Fin 512) (b : Bytes) (o : LiftOrder) (h : s.Hears 5 port.val b)
    (hack : s.isLead = false ∧ s.trp.order = some o ∧ byteAt b 38 = 4 ∧ beAt b 39 4 = o.number ∧ byteAt b 43 = 0) :
    Completes (.ack port b) s (fun t => t.trp.acked.contains (byteAt b 16) = true ∧ t.on F.TRP_PEER_ACKED (byteAt b 16) = true ∧ t.trp.order = some o ∧
    t.on F.TRP_PEER_LIVE (byteAt b 16) = true ∧ t.syn = s.syn ∧ t.qsg = s.qsg) := by
  have hn := State.sender_lt h
  obtain ⟨hlead, horder, htype, hnumber, hok⟩ := hack
  have hnext := State.ack_eq h horder htype hnumber hok
  rw [State.heeded_of_not_lead ((State.ackTaken_isLead hn).trans hlead)] at hnext
  exact ⟨_, hnext, s.ackTaken_acked b, s.ackTaken_on b, (s.ackTaken_order b).trans horder, State.ackTaken_live hn, rfl, rfl⟩

/-- The Lead notes it too (R307). -/
theorem ack_noted_by_lead (s : State) (port : Fin 512) (b : Bytes) (o : LiftOrder) (h : s.Hears 5 port.val b)
    (hack : s.isLead = true ∧ s.on F.TRP_PEER_LIVE (byteAt b 16) = true ∧ s.trp.order = some o ∧ byteAt b 38 = 4 ∧ beAt b 39 4 = o.number ∧ byteAt b 43 = 0)
    (hidle : s.maxReq ≤ o.lift ∧ beAt b 34 4 ≤ o.lift ∧ bit (s.rd F.TRP_LIFT_CFG_UNLIFT_PHASES) s.phase = false) :
    Completes (.ack port b) s (fun t => t.trp.acked.contains (byteAt b 16) = true ∧ t.on F.TRP_PEER_ACKED (byteAt b 16) = true ∧ t.trp.order = some o ∧ t.syn = s.syn ∧ t.qsg = s.qsg) := by
  have hn := State.sender_lt h
  have hlen : s.trp.peers.length = 8 := State.peers_length h
  obtain ⟨-, hlive, horder, htype, hnumber, hok⟩ := hack
  obtain ⟨hmax, hreq, hphase⟩ := hidle
  have hordered : (s.ackTaken b).orderedLift = o.lift := by rw [State.orderedLift, State.ackTaken_order, horder]; rfl
  have hheld : bit ((s.ackTaken b).rd F.TRP_LIFT_CFG_UNLIFT_PHASES) (s.ackTaken b).phase = false := by
    rw [State.phase, State.rd_ackTaken_other hn (by decide), State.rd_ackTaken_other hn (by decide)]
    exact hphase
  have hheeded : (s.ackTaken b).heeded (!s.on F.TRP_PEER_LIVE (byteAt b 16)) = s.ackTaken b := by
    rw [State.heeded, hlive, Bool.not_true, Bool.false_and, if_neg Bool.false_ne_true]
    exact State.leadCheck_idle ((State.ackTaken_maxReq hn hlen hlive hmax hreq).trans_eq hordered.symm) hheld
  have hnext := State.ack_eq h horder htype hnumber hok
  rw [hheeded] at hnext
  exact ⟨_, hnext, s.ackTaken_acked b, s.ackTaken_on b, (s.ackTaken_order b).trans horder, rfl, rfl⟩

end Sys2Proof.Proofs
end

section
/-! ENABLE (R304): a seat's write of TRP.CTRL that turns the engine on or off. -/

namespace Sys2Proof.Machine

/-! ### What turning the engine on and off does -/

theorem RegsBut.foldl {α : Type} {f : State → α → State} {l : List α} {L : List (Fld × Nat)} {s : State}
    (hf : ∀ t : State, ∀ x ∈ l, RegsBut t (f t x) L) : RegsBut s (l.foldl f s) L := by
  induction l generalizing s with
  | nil => exact .refl
  | cons x l ih => exact (hf s x List.mem_cons_self).trans (ih fun t y hy => hf t y (List.mem_cons_of_mem x hy))

/-- A field copied into another at several copies: what it reads is what it read before. -/
theorem State.foldl_copy_eq {src dst : Fld} {l : List Nat} (h : ∀ k ∈ l, ∀ j ∈ l, dst.key k ≠ src.key j) (s : State) :
    l.foldl (fun t k => t.wr dst k (t.rd src k)) s = s.wrCopies dst (l.map fun k => (s.rd src k, k)) := by
  have hgen (m : List Nat) (hm : ∀ k ∈ m, k ∈ l) (t : State) (ht : ∀ j ∈ l, t.rd src j = s.rd src j) :
      m.foldl (fun t k => t.wr dst k (t.rd src k)) t = t.wrCopies dst (m.map fun k => (s.rd src k, k)) := by
    induction m generalizing t with
    | nil => rfl
    | cons k m ih =>
      have hk := hm k List.mem_cons_self
      have hnext := ih (fun j hj => hm j (List.mem_cons_of_mem k hj)) (t.wr dst k (t.rd src k)) fun j hj =>
        (State.rd_wr_other _ _ _ (h k hk j hj) _).trans (ht j hj)
      rw [List.foldl_cons, hnext, ht k hk]
      rfl
  exact hgen l (fun _ hk => hk) s fun _ _ => rfl

/-- t differs from s in its registers alone. -/
def State.OnlyRegs (s t : State) : Prop := t = { s with regs := t.regs }

namespace State.OnlyRegs
variable {s t u : State}

theorem refl : s.OnlyRegs s := rfl

theorem wr (h : s.OnlyRegs t) (f : Fld) (n v : Nat) : s.OnlyRegs (t.wr f n v) := by
  rw [State.OnlyRegs, h]
  rfl

theorem trp (h : s.OnlyRegs t) : t.trp = s.trp := by rw [h]
theorem syn (h : s.OnlyRegs t) : t.syn = s.syn := by rw [h]

theorem foldl {α : Type} {f : State → α → State} (hf : ∀ t x, s.OnlyRegs t → s.OnlyRegs (f t x)) (l : List α) (h : s.OnlyRegs t) :
    s.OnlyRegs (l.foldl f t) := foldl_keeps hf l h

end State.OnlyRegs

/-- The fields that show the other members and the grant. -/
def memberFields : List (Fld × Nat) :=
  [(F.TRP_STATUS_STATE, 0), (F.TRP_STATUS_LEAD_ID, 0), (F.TRP_STATUS_LIVE, 0), (F.TRP_GRANT_GRANT_W, 0)] ++
    (List.range 8).flatMap (fun n => [(F.TRP_PEER_LIVE, n), (F.TRP_PEER_CRITICAL, n), (F.TRP_PEER_ACKED, n), (F.TRP_PEER_GRANT_W, n)])

section
variable (s : State)

/-- What the registers show of the other members is gone. -/
def State.peersForgotten : State :=
  (List.range 8).foldl (fun s n =>
    (((s.wr F.TRP_PEER_LIVE n 0).wr F.TRP_PEER_CRITICAL n 0).wr F.TRP_PEER_ACKED n 0).wr F.TRP_PEER_GRANT_W n 0) s

/-- The engine's registers as it begins or ends: its state, and nothing known of others. -/
def State.membersForgotten (on : Bool) : State :=
  (((s.peersForgotten.wr F.TRP_STATUS_STATE 0 (b2n on)).wr F.TRP_STATUS_LEAD_ID 0 0).wr F.TRP_STATUS_LIVE 0 0).wr F.TRP_GRANT_GRANT_W 0 0

/-- Every base is loaded from the latency in force, and the lift is 0. -/
def State.basesLoaded : State :=
  let t := (List.range 8).foldl (fun s k => s.wr F.TRP_BASE_BASE_L_NS k (s.rd F.CLR_PROF_L_L_NS k)) s
  let t := (List.range 32).foldl (fun s m => s.wr F.TRP_WBASE_BASE_W_NS m (s.rd F.MSQ_INST_WINDOW_W_NS m)) t
  (t.wr F.TRP_LIFT_LIFT_NS 0 0).wr F.TRP_LIFT_SEQ_VALUE 0 0

/-- The engine as ENABLE changes, before any base is loaded. -/
def State.trpSwitched (on : Bool) : State :=
  (((s.cancelLifts (fun a => a.kind.isLift)).wr F.TRP_CTRL_ENABLE 0 (b2n on)).membersForgotten on).setTrp (fun _ => { seq := s.trp.seq })

theorem State.trpEnable_same {on : Bool} (h : on = s.on F.TRP_CTRL_ENABLE) : s.trpEnable on = s := if_pos h

theorem State.trpEnable_changed {on : Bool} (h : on ≠ s.on F.TRP_CTRL_ENABLE) :
    s.trpEnable on = if on then (s.trpSwitched on).basesLoaded else s.trpSwitched on := if_neg h

theorem State.membersForgotten_onlyRegs (on : Bool) : s.OnlyRegs (s.membersForgotten on) := by
  have hpeers : s.OnlyRegs s.peersForgotten := .foldl (fun t n ht => (((ht.wr _ _ _).wr _ _ _).wr _ _ _).wr _ _ _) _ .refl
  exact (((hpeers.wr _ _ _).wr _ _ _).wr _ _ _).wr _ _ _

theorem RegsBut.membersForgotten (on : Bool) : RegsBut s (s.membersForgotten on) memberFields := by
  have hpeer : ∀ n < 8, ∀ x ∈ [(F.TRP_PEER_LIVE, n), (F.TRP_PEER_CRITICAL, n), (F.TRP_PEER_ACKED, n), (F.TRP_PEER_GRANT_W, n)], x ∈ memberFields :=
    fun n hn x hx => List.mem_append_right _ (List.mem_flatMap.mpr ⟨n, List.mem_range.mpr hn, hx⟩)
  have hpeers : RegsBut s s.peersForgotten memberFields := RegsBut.foldl fun t n hn =>
    have hin := hpeer n (List.mem_range.mp hn)
    (((RegsBut.refl.wr 0 (hin _ (by simp))).wr 0 (hin _ (by simp))).wr 0 (hin _ (by simp))).wr 0 (hin _ (by simp))
  exact (((hpeers.wr _ (by simp [memberFields])).wr 0 (by simp [memberFields])).wr 0 (by simp [memberFields])).wr 0 (by simp [memberFields])

theorem State.membersForgotten_state (on : Bool) : (s.membersForgotten on).rd F.TRP_STATUS_STATE = b2n on := by
  unfold State.membersForgotten
  rw [State.rd_wr_other _ _ _ (by decide), State.rd_wr_other _ _ _ (by decide), State.rd_wr_other _ _ _ (by decide), State.rd_wr_same]
  cases on <;> rfl

/-- The fields that a switch of the engine writes before any base is loaded. -/
def switchFields : List (Fld × Nat) := (F.SYN_SCHED_STATUS_PENDING, 0) :: (F.TRP_CTRL_ENABLE, 0) :: memberFields

theorem State.trpSwitched_frame (on : Bool) : s.trpSwitched on =
    { s with regs := (s.trpSwitched on).regs, trp := { seq := s.trp.seq }, syn := { s.syn with actions := s.syn.actions.filter (fun a => !a.kind.isLift) } } := by
  unfold State.trpSwitched
  rw [State.membersForgotten_onlyRegs _ on]
  rfl

theorem RegsBut.trpSwitched (on : Bool) : RegsBut s (s.trpSwitched on) switchFields := by
  have hcancelled : RegsBut s (s.cancelLifts (fun a => a.kind.isLift)) switchFields :=
    RegsBut.wr (t := { s with syn := { s.syn with actions := s.syn.actions.filter (fun a => !a.kind.isLift) } }) (.of_regs rfl) _ List.mem_cons_self
  have hforgotten := (RegsBut.membersForgotten ((s.cancelLifts (fun a => a.kind.isLift)).wr F.TRP_CTRL_ENABLE 0 (b2n on)) on).mono
    fun x hx => List.mem_cons_of_mem (F.SYN_SCHED_STATUS_PENDING, 0) (List.mem_cons_of_mem (F.TRP_CTRL_ENABLE, 0) hx)
  exact ((hcancelled.wr (b2n on) (List.mem_cons_of_mem _ List.mem_cons_self)).trans hforgotten).congr rfl

theorem State.rd_setTrp (g : Trp → Trp) (f : Fld) (n : Nat) : (s.setTrp g).rd f n = s.rd f n := rfl

theorem State.trpSwitched_enable (on : Bool) : (s.trpSwitched on).on F.TRP_CTRL_ENABLE = on := by
  rw [State.on, State.trpSwitched, State.rd_setTrp, RegsBut.membersForgotten _ on _ _ (by decide), State.rd_wr_same]
  cases on <;> rfl

theorem State.trpSwitched_state (on : Bool) : (s.trpSwitched on).rd F.TRP_STATUS_STATE = b2n on := by
  rw [State.trpSwitched, State.rd_setTrp, State.membersForgotten_state]

theorem State.trpSwitched_trp (on : Bool) : (s.trpSwitched on).trp = { seq := s.trp.seq } := congrArg State.trp (s.trpSwitched_frame on)

theorem State.trpSwitched_actions (on : Bool) : (s.trpSwitched on).syn.actions = s.syn.actions.filter (fun a => !a.kind.isLift) :=
  congrArg (fun t : State => t.syn.actions) (s.trpSwitched_frame on)

/-- The fields that the bases and the lift stand in. -/
def baseFields : List (Fld × Nat) :=
  [(F.TRP_LIFT_LIFT_NS, 0), (F.TRP_LIFT_SEQ_VALUE, 0)] ++ (List.range 8).map (fun k => (F.TRP_BASE_BASE_L_NS, k)) ++
    (List.range 32).map (fun m => (F.TRP_WBASE_BASE_W_NS, m))

theorem RegsBut.basesLoaded : RegsBut s s.basesLoaded baseFields := by
  have hbases : RegsBut s ((List.range 8).foldl (fun s k => s.wr F.TRP_BASE_BASE_L_NS k (s.rd F.CLR_PROF_L_L_NS k)) s) baseFields :=
    RegsBut.foldl fun t k hk => RegsBut.refl.wr _ (List.mem_append_left _ (List.mem_append_right _ (List.mem_map_of_mem hk)))
  have hwindows := hbases.trans (RegsBut.foldl (l := List.range 32) (f := fun s m => s.wr F.TRP_WBASE_BASE_W_NS m (s.rd F.MSQ_INST_WINDOW_W_NS m))
    fun t m hm => RegsBut.refl.wr _ (List.mem_append_right _ (List.mem_map_of_mem hm)))
  exact (hwindows.wr 0 (by simp [baseFields])).wr 0 (by simp [baseFields])

theorem State.basesLoaded_onlyRegs : s.OnlyRegs s.basesLoaded :=
  ((State.OnlyRegs.foldl (fun _ _ ht => ht.wr _ _ _) _ (State.OnlyRegs.foldl (fun _ _ ht => ht.wr _ _ _) _ .refl)).wr _ _ _).wr _ _ _

theorem State.basesLoaded_trp : s.basesLoaded.trp = s.trp := s.basesLoaded_onlyRegs.trp
theorem State.basesLoaded_syn : s.basesLoaded.syn = s.syn := s.basesLoaded_onlyRegs.syn

theorem State.basesLoaded_lift : s.basesLoaded.rd F.TRP_LIFT_LIFT_NS = 0 :=
  (State.rd_wr_other _ _ _ (by decide) _).trans (State.rd_wr_same _ _ _ _)

theorem basePlaces_apart : ((List.range 8).map fun k => F.TRP_BASE_BASE_L_NS.key k).Nodup := by decide

theorem State.basesLoaded_base {k : Nat} (hk : k < 8) :
    s.basesLoaded.rd F.TRP_BASE_BASE_L_NS k = s.rd F.CLR_PROF_L_L_NS k % 2 ^ F.TRP_BASE_BASE_L_NS.width := by
  have hlift : ∀ k < 8, F.TRP_LIFT_LIFT_NS.key 0 ≠ F.TRP_BASE_BASE_L_NS.key k ∧ F.TRP_LIFT_SEQ_VALUE.key 0 ≠ F.TRP_BASE_BASE_L_NS.key k := by decide
  have hwindow : ∀ k < 8, ∀ x ∈ (List.range 32).map (fun m => (F.TRP_WBASE_BASE_W_NS, m)), x.1.key x.2 ≠ F.TRP_BASE_BASE_L_NS.key k := by decide
  have hsources : ∀ k ∈ List.range 8, ∀ j ∈ List.range 8, F.TRP_BASE_BASE_L_NS.key k ≠ F.CLR_PROF_L_L_NS.key j := by decide
  unfold State.basesLoaded
  dsimp only
  rw [State.rd_wr_other _ _ _ (hlift k hk).2, State.rd_wr_other _ _ _ (hlift k hk).1,
    RegsBut.foldl (fun t m hm => RegsBut.refl.wr _ (List.mem_map_of_mem hm)) _ _ (hwindow k hk), State.foldl_copy_eq hsources]
  exact State.rd_wrCopies_mem (x := (s.rd F.CLR_PROF_L_L_NS k, k)) (by rw [List.map_map]; exact basePlaces_apart)
    (List.mem_map.mpr ⟨k, List.mem_range.mpr hk, rfl⟩)

end

end Sys2Proof.Machine
end

section
/-! TROUPE_ENABLE (R304): the seat's write of ENABLE alone, and what it comes to. -/

namespace Sys2Proof.Machine

/-- TRP.CTRL. -/
def trpCtrl : RegD := ⟨"TRP.CTRL", A.TRP_CTRL, .seat0, .whole,
  [fd F.TRP_CTRL_ENABLE .rw .l, fd F.TRP_CTRL_MEMBER_ID .rw .q, fd F.TRP_CTRL_LEAD_PRIO .rw .l, fd F.TRP_CTRL_QUEUE .rw .l]⟩

theorem findReg_trpCtrl : findReg (F.TRP_CTRL_ENABLE.addr 0) = some (trpCtrl, 0) := findReg_TRP_CTRL

/-- The write reaches no field but ENABLE. -/
theorem enableMask_parts : F.TRP_CTRL_MEMBER_ID.part F.TRP_CTRL_ENABLE.ones = 0 ∧ F.TRP_CTRL_LEAD_PRIO.part F.TRP_CTRL_ENABLE.ones = 0 ∧
    F.TRP_CTRL_QUEUE.part F.TRP_CTRL_ENABLE.ones = 0 := by decide

section
variable (s : State) (on : Bool)

/-- TRP.CTRL with the word in place. -/
def State.enableSet : State := s.poke trpCtrl 0 F.TRP_CTRL_ENABLE.ones (F.TRP_CTRL_ENABLE.place (b2n on))

/-- ENABLE as it was: its change is the effect of the write. -/
def State.enableBack : State := (s.enableSet on).wr F.TRP_CTRL_ENABLE 0 (s.rd F.TRP_CTRL_ENABLE)

/-- What the write of ENABLE comes to, before CFG_DIGEST. -/
def State.enableWritten : State := (s.enableBack on).trpEnable on

theorem RegsBut.enableSet : RegsBut s (s.enableSet on) [(F.TRP_CTRL_ENABLE, 0)] := by
  obtain ⟨hmember, hprio, hqueue⟩ := enableMask_parts
  refine RegsBut.poke_changed s trpCtrl 0 F.TRP_CTRL_ENABLE.ones _ ?_
  simp only [trpCtrl, List.forall_mem_cons]
  exact ⟨.inr List.mem_cons_self, .inl (s.written_unmasked _ hmember), .inl (s.written_unmasked _ hprio), .inl (s.written_unmasked _ hqueue), by simp⟩

theorem State.enableSet_on : (s.enableSet on).on F.TRP_CTRL_ENABLE = on := by
  have hmem : fd F.TRP_CTRL_ENABLE .rw .l ∈ s.fieldsOf trpCtrl 0 := by
    rw [s.fieldsOf_eq _ (by decide)]
    exact List.mem_cons_self
  have hwritten := State.written_full s (fd F.TRP_CTRL_ENABLE .rw .l) 0 (F.TRP_CTRL_ENABLE.place (b2n on)) rfl (fun _ => rfl) rfl
    F.TRP_CTRL_ENABLE.part_ones (by decide)
  have hrd : (s.enableSet on).rd F.TRP_CTRL_ENABLE = F.TRP_CTRL_ENABLE.part (F.TRP_CTRL_ENABLE.place (b2n on)) % 2 ^ F.TRP_CTRL_ENABLE.width :=
    (State.rd_poke findReg_trpCtrl hmem).trans (congrArg (· % 2 ^ F.TRP_CTRL_ENABLE.width) hwritten)
  rw [State.on, hrd, Fld.part_place]
  cases on <;> rfl

theorem RegsBut.enableBack : RegsBut s (s.enableBack on) [(F.TRP_CTRL_ENABLE, 0)] := (RegsBut.enableSet s on).wr _ List.mem_cons_self

theorem RegsBut.enableSwitched : RegsBut s ((s.enableBack on).trpSwitched on) switchFields :=
  ((RegsBut.enableBack s on).mono (List.forall_mem_singleton.mpr (List.mem_cons_of_mem _ List.mem_cons_self))).trans (RegsBut.trpSwitched _ on)

theorem State.enableBack_on : (s.enableBack on).on F.TRP_CTRL_ENABLE = s.on F.TRP_CTRL_ENABLE := by
  rw [State.on, State.enableBack, State.rd_wr_same, Nat.mod_eq_of_lt (s.rd_lt _ _), State.on]

theorem State.enableBack_frame : ∃ m k, s.enableBack on = { s with regs := m, rwSet := k } := by
  obtain ⟨m, k, h⟩ := s.poke_eq trpCtrl 0 F.TRP_CTRL_ENABLE.ones (F.TRP_CTRL_ENABLE.place (b2n on))
  exact ⟨_, k, by rw [State.enableBack, State.enableSet, h]; rfl⟩

theorem State.enableBack_trp : (s.enableBack on).trp = s.trp := by
  obtain ⟨m, k, h⟩ := s.enableBack_frame on
  rw [h]

theorem State.enableBack_syn : (s.enableBack on).syn = s.syn := by
  obtain ⟨m, k, h⟩ := s.enableBack_frame on
  rw [h]

/-- A field that the write does not reach takes no part in its class. -/
theorem State.classOf_enable (v : Nat) : s.classOf trpCtrl 0 F.TRP_CTRL_ENABLE.ones v = .l := by
  obtain ⟨hmember, -, -⟩ := enableMask_parts
  have hlive : ∀ d ∈ (s.fieldsOf trpCtrl 0).filter (fun d => s.changes d 0 F.TRP_CTRL_ENABLE.ones v), d.cls = .l := by
    intro d hd
    obtain ⟨hd, hchanges⟩ := List.mem_filter.mp hd
    rw [s.fieldsOf_eq _ (by decide)] at hd
    simp only [trpCtrl, List.mem_cons, List.not_mem_nil, or_false] at hd
    obtain rfl | rfl | rfl | rfl := hd
    · rfl
    · simp [State.changes, fd, State.written, hmember] at hchanges
    · rfl
    · rfl
  have hnone (c : Cls) (hc : c ≠ .l) :
      (((s.fieldsOf trpCtrl 0).filter (fun d => s.changes d 0 F.TRP_CTRL_ENABLE.ones v)).map (fun d => d.cls)).contains c = false := by
    rw [List.contains_eq_mem]
    refine decide_eq_false fun hm => hc ?_
    obtain ⟨d, hd, rfl⟩ := List.mem_map.mp hm
    exact hlive d hd
  simp only [State.classOf, hnone .q (by decide), hnone .s (by decide), Bool.false_and, Bool.false_eq_true, if_false]

theorem State.tryWord_enable (hh : s.wordHeld 0 (F.TRP_CTRL_ENABLE.addr 0) = false) :
    s.tryWord s 0 0 (pure ()) ⟨F.TRP_CTRL_ENABLE.addr 0, F.TRP_CTRL_ENABLE.ones, F.TRP_CTRL_ENABLE.place (b2n on)⟩ = .ok (.l, s.enableWritten on) := by
  have hc := s.classOf_enable (F.TRP_CTRL_ENABLE.place (b2n on))
  have hshared : s.sharedBase trpCtrl 0 = false := rfl
  have hook : s.hook (s.enableSet on) 0 trpCtrl 0 F.TRP_CTRL_ENABLE.ones (F.TRP_CTRL_ENABLE.place (b2n on)) =
      .ok ((s.enableBack on).trpEnable ((s.enableSet on).on F.TRP_CTRL_ENABLE)) := rfl
  rw [s.enableSet_on] at hook
  rw [← hc]
  refine State.tryWord_ok findReg_trpCtrl rfl (fun hq => by rw [hc] at hq; cases hq) hh ?_ rfl ?_
  · rw [s.fieldsOf_eq _ (by decide)]
    simp [trpCtrl, fd, State.outOfRange]
  · simp only [State.applyWord, findReg_trpCtrl, hshared, Bool.false_eq_true, if_false]
    exact hook

theorem State.trpEnable_frame : s.trpEnable on = { s with regs := (s.trpEnable on).regs, trp := (s.trpEnable on).trp, syn := (s.trpEnable on).syn } := by
  have hswitched := s.trpSwitched_frame on
  by_cases h : on = s.on F.TRP_CTRL_ENABLE
  · rw [State.trpEnable_same s h]
  · rw [State.trpEnable_changed s h]
    split
    · rw [State.basesLoaded_onlyRegs (s.trpSwitched on), hswitched]
    · rw [hswitched]

/-- A seat's write of ENABLE answers OK; beside its effect it moves CFG_DIGEST and the identity block. -/
theorem State.troupeEnable_outcome (hfree : s.Free (F.TRP_CTRL_ENABLE.addr 0)) :
    ∃ t, exec (.troupeEnable 0 on) s = .next t ∧ t.resp = some ⟨.ok, []⟩ ∧ RegsBut (s.enableWritten on) t digestFields ∧
      t.trp = (s.enableWritten on).trp ∧ t.syn = (s.enableWritten on).syn ∧
      t = { s with regs := t.regs, rwSet := t.rwSet, trp := t.trp, syn := t.syn, idn := t.idn, resp := t.resp } := by
  obtain ⟨hl, hh, h3⟩ := hfree
  have hd := State.writeDirect_now findReg_trpCtrl rfl (s.tryWord_enable on hh) (by decide) none
  obtain ⟨m, k, hback⟩ := s.enableBack_frame on
  have hframe := (s.enableBack on).trpEnable_frame on
  have hwritten : ∃ m k t y, s.enableWritten on = { s with regs := m, rwSet := k, trp := t, syn := y } := by
    rw [State.enableWritten, hframe, hback]
    exact ⟨_, _, _, _, rfl⟩
  obtain ⟨m', k', t', y', hwritten⟩ := hwritten
  have hseat : (s.enableWritten on).setSeat 0 (fun e => { e with staging := (s.seat 0).staging }) = s.enableWritten on :=
    State.setSeat_eq_self _ _ _ (by rw [hwritten]; rfl)
  obtain ⟨m'', i, hwrote⟩ := s.wroteWord_eq 0 (F.TRP_CTRL_ENABLE.addr 0) (F.TRP_CTRL_ENABLE.place (b2n on)) F.TRP_CTRL_ENABLE.ones (s.enableWritten on)
  have hdigest := RegsBut.wroteWord s 0 (F.TRP_CTRL_ENABLE.addr 0) (F.TRP_CTRL_ENABLE.place (b2n on)) F.TRP_CTRL_ENABLE.ones (s.enableWritten on)
  have hnext : exec (.troupeEnable 0 on) s = _ :=
    (s.fieldWrite_one 0 0 F.TRP_CTRL_ENABLE (b2n on)).trans (congrArg Host.Outcome.next (State.seatWrite_of_writeDirect hl h3 hd rfl))
  rw [hseat] at hwrote
  refine ⟨_, hnext, rfl, hdigest.congr (State.inside_answer_regs _ _ _ _), ?_, ?_, ?_⟩
  · rw [hwrote]
    rfl
  · rw [hwrote]
    rfl
  · rw [hwrote, hwritten]
    rfl

end

end Sys2Proof.Machine

namespace Sys2Proof.Proofs
open Sys2Proof.Machine

/-- Turning ENABLE on loads every base, sets the lift to 0, and begins in JOINING (R299, R304). -/
theorem troupeEnable_begins (s : State) (hfree : s.Free (F.TRP_CTRL_ENABLE.addr 0)) (hoff : s.on F.TRP_CTRL_ENABLE = false) :
    Completes (.troupeEnable 0 true) s (fun t => t.resp = some ⟨.ok, []⟩ ∧ t.on F.TRP_CTRL_ENABLE = true ∧ t.rd F.TRP_STATUS_STATE = 1 ∧ t.rd F.TRP_LIFT_LIFT_NS = 0 ∧
    (List.range 8).all (fun k => t.rd F.TRP_BASE_BASE_L_NS k == s.rd F.CLR_PROF_L_L_NS k % 2 ^ F.TRP_BASE_BASE_L_NS.width) = true ∧
    t.trp = { seq := s.trp.seq } ∧ t.syn.actions = s.syn.actions.filter (fun a => !a.kind.isLift) ∧ t.qsg = s.qsg) := by
  have hchanged : true ≠ (s.enableBack true).on F.TRP_CTRL_ENABLE := by rw [s.enableBack_on, hoff]; decide
  have hwritten : s.enableWritten true = ((s.enableBack true).trpSwitched true).basesLoaded := State.trpEnable_changed _ hchanged
  have hbase : ∀ k < 8, ∀ x ∈ digestFields, x.1.key x.2 ≠ F.TRP_BASE_BASE_L_NS.key k := by decide
  have hsource : ∀ k < 8, ∀ x ∈ switchFields, x.1.key x.2 ≠ F.CLR_PROF_L_L_NS.key k := by decide
  obtain ⟨t, hnext, hresp, hregs, htrp, hsyn, ht⟩ := s.troupeEnable_outcome true hfree
  rw [hwritten] at hregs htrp hsyn
  refine ⟨t, hnext, hresp, ?_, ?_, ?_, List.all_eq_true.mpr fun k hk => beq_iff_eq.mpr ?_, ?_, ?_, by rw [ht]⟩
  · rw [State.on, hregs _ _ (by decide), RegsBut.basesLoaded _ _ _ (by decide)]
    exact State.trpSwitched_enable _ true
  · rw [hregs _ _ (by decide), RegsBut.basesLoaded _ _ _ (by decide), State.trpSwitched_state]
    rfl
  · rw [hregs _ _ (by decide), State.basesLoaded_lift]
  · have hk := List.mem_range.mp hk
    rw [hregs _ _ (hbase k hk), State.basesLoaded_base _ hk, RegsBut.enableSwitched s true _ _ (hsource k hk)]
  · rw [htrp, State.basesLoaded_trp, State.trpSwitched_trp, s.enableBack_trp]
  · rw [hsyn, State.basesLoaded_syn, State.trpSwitched_actions, s.enableBack_syn]

/-- Turning it off leaves the state DISABLED, and the lift and the latency in force as they are (R304). -/
theorem troupeEnable_ends (s : State) (hfree : s.Free (F.TRP_CTRL_ENABLE.addr 0)) (hon : s.on F.TRP_CTRL_ENABLE = true) :
    Completes (.troupeEnable 0 false) s (fun t => t.resp = some ⟨.ok, []⟩ ∧ t.on F.TRP_CTRL_ENABLE = false ∧ t.rd F.TRP_STATUS_STATE = 0 ∧ t.trp = { seq := s.trp.seq } ∧
    t.rd F.TRP_LIFT_LIFT_NS = s.rd F.TRP_LIFT_LIFT_NS ∧ (List.range 8).all (fun k => t.rd F.CLR_PROF_L_L_NS k == s.rd F.CLR_PROF_L_L_NS k) = true) := by
  have hchanged : false ≠ (s.enableBack false).on F.TRP_CTRL_ENABLE := by rw [s.enableBack_on, hon]; decide
  have hwritten : s.enableWritten false = (s.enableBack false).trpSwitched false := State.trpEnable_changed _ hchanged
  have hdigest : ∀ k < 8, ∀ x ∈ digestFields, x.1.key x.2 ≠ F.CLR_PROF_L_L_NS.key k := by decide
  have hsource : ∀ k < 8, ∀ x ∈ switchFields, x.1.key x.2 ≠ F.CLR_PROF_L_L_NS.key k := by decide
  obtain ⟨t, hnext, hresp, hregs, htrp, -, -⟩ := s.troupeEnable_outcome false hfree
  rw [hwritten] at hregs htrp
  refine ⟨t, hnext, hresp, ?_, ?_, ?_, ?_, List.all_eq_true.mpr fun k hk => beq_iff_eq.mpr ?_⟩
  · rw [State.on, hregs _ _ (by decide)]
    exact State.trpSwitched_enable _ false
  · rw [hregs _ _ (by decide), State.trpSwitched_state]
    rfl
  · rw [htrp, State.trpSwitched_trp, s.enableBack_trp]
  · rw [hregs _ _ (by decide), RegsBut.enableSwitched s false _ _ (by decide)]
  · have hk := List.mem_range.mp hk
    rw [hregs _ _ (hdigest k hk), RegsBut.enableSwitched s false _ _ (hsource k hk)]

/-- Writing the value that ENABLE holds changes nothing (R304). -/
theorem troupeEnable_holds (s : State) (on : Bool) (hfree : s.Free (F.TRP_CTRL_ENABLE.addr 0)) (hon : s.on F.TRP_CTRL_ENABLE = on) :
    Completes (.troupeEnable 0 on) s (fun t => t.resp = some ⟨.ok, []⟩ ∧ t.on F.TRP_CTRL_ENABLE = on ∧ RegsBut s t ((F.TRP_CTRL_ENABLE, 0) :: digestFields) ∧ t = { s with regs := t.regs, rwSet := t.rwSet, idn := t.idn, resp := t.resp }) := by
  have hwritten : s.enableWritten on = s.enableBack on := State.trpEnable_same _ (by rw [s.enableBack_on, hon])
  obtain ⟨t, hnext, hresp, hregs, htrp, hsyn, ht⟩ := s.troupeEnable_outcome on hfree
  rw [hwritten] at hregs htrp hsyn
  refine ⟨t, hnext, hresp, ?_, (RegsBut.enableBack s on).append hregs, ?_⟩
  · rw [State.on, hregs _ _ (by decide), ← State.on, s.enableBack_on, hon]
  · rw [s.enableBack_trp] at htrp
    rw [s.enableBack_syn] at hsyn
    rw [ht, htrp, hsyn]

end Sys2Proof.Proofs
end

section
/-! The HELLO boundary (R299, R300): who is silent, the Lead and the state, and the HELLO that is sent. -/

namespace Sys2Proof.Machine

/-! ### The Lead is taken -/

/-- Whom the live set elects at a boundary (R300). -/
def State.choice (s : State) : Option Nat := (s.wr F.TRP_STATUS_STATE 0 (if s.joining then 1 else 2)).elect

/-- The state of this member after it (R299, R300). -/
def State.stateTaken (s : State) : Nat := if s.joining then 1 else if s.choice = some s.member then 3 else 2

/-- The state and the Lead are shown and noted. -/
def State.leadTaken (s : State) : State :=
  let t := s.wr F.TRP_STATUS_STATE 0 (if s.joining then 1 else 2)
  let t := if s.joining then t else t.wr F.TRP_STATUS_STATE 0 (if s.choice = some t.member then 3 else 2)
  (t.wr F.TRP_STATUS_LEAD_ID 0 (s.choice.getD 0)).setTrp (fun x => { x with lead := s.choice })

/-- A change of the Lead is told (R300). -/
def State.changeTold (s : State) (lead : Option Nat) (changed : Bool) : State :=
  if changed then ((s.raiseFault 7 1 0 (lead.getD 0) 0).raiseBits F.TRP_INT_STATUS_LEAD_CHANGE 0 1).bump 11 9 else s

/-- The fields that a boundary writes of the Lead and the state. -/
def leadFields : List (Fld × Nat) := [(F.TRP_STATUS_STATE, 0), (F.TRP_STATUS_LEAD_ID, 0), (F.TRP_INT_STATUS_LEAD_CHANGE, 0)]

section
variable (s : State)

theorem State.leadTaken_trp : s.leadTaken.trp = { s.trp with lead := s.choice } := by
  unfold State.leadTaken
  split <;> rfl

theorem State.leadTaken_tim : s.leadTaken.tim = s.tim := by
  unfold State.leadTaken
  split <;> rfl

theorem State.leadTaken_cntTick : s.leadTaken.cntTick = s.cntTick := by
  unfold State.leadTaken
  split <;> rfl

theorem State.leadTaken_regs : RegsBut s s.leadTaken leadFields := by
  have hstate (v : Nat) : RegsBut s (s.wr F.TRP_STATUS_STATE 0 v) leadFields := RegsBut.refl.wr v List.mem_cons_self
  unfold State.leadTaken
  refine RegsBut.congr (t := State.wr _ F.TRP_STATUS_LEAD_ID 0 (s.choice.getD 0)) (.wr ?_ _ (by simp [leadFields])) rfl
  split
  · exact hstate _
  · exact (hstate _).wr _ List.mem_cons_self

theorem State.leadTaken_state : s.leadTaken.rd F.TRP_STATUS_STATE = s.stateTaken := by
  have hmember (v : Nat) : (s.wr F.TRP_STATUS_STATE 0 v).member = s.member := State.rd_wr_other _ _ _ (by decide) _
  have hid (t : State) : ((t.wr F.TRP_STATUS_LEAD_ID 0 (s.choice.getD 0)).setTrp (fun x => { x with lead := s.choice })).rd F.TRP_STATUS_STATE =
      t.rd F.TRP_STATUS_STATE := State.rd_wr_other _ _ _ (by decide) _
  unfold State.leadTaken State.stateTaken
  dsimp only
  rw [hid]
  by_cases hjoin : s.joining
  · simp only [if_pos hjoin, State.rd_wr_same]
    rfl
  · simp only [if_neg hjoin, State.rd_wr_same, hmember]
    split <;> rfl

theorem State.leadTaken_leadId : s.leadTaken.rd F.TRP_STATUS_LEAD_ID = s.choice.getD 0 % 8 := State.rd_wr_same _ _ _ _

section
variable (lead : Option Nat) (changed : Bool)

theorem State.changeTold_trp : (s.changeTold lead changed).trp = s.trp := by cases changed <;> rfl
theorem State.changeTold_tim : (s.changeTold lead changed).tim = s.tim := by cases changed <;> rfl

theorem State.changeTold_regs : RegsBut s (s.changeTold lead changed) [(F.TRP_INT_STATUS_LEAD_CHANGE, 0)] := by
  cases changed with
  | false => exact .refl
  | true => exact RegsBut.raiseBits (t := s.raiseFault 7 1 0 (lead.getD 0) 0) (.of_regs rfl) 1 List.mem_cons_self

theorem State.changeTold_cntTick {k : Nat} (hk : cntKey 11 9 0 ≠ k) : (s.changeTold lead changed).cntTick.get k 0 = s.cntTick.get k 0 := by
  cases changed with
  | false => rfl
  | true => exact State.bump_cntTick_other _ hk

end

/-- The Lead and the state at a boundary, before a new Lead orders anything (R300). -/
def State.leadShown : State :=
  s.leadTaken.changeTold s.choice (s.trp.lead.isSome && s.choice.isSome && s.trp.lead != s.choice)

theorem State.takeLead_eq : s.takeLead = if s.leadShown.isLead && !s.isLead then s.leadShown.newLead else s.leadShown := by
  unfold State.takeLead State.leadShown State.leadTaken
  by_cases hjoin : s.joining
  · have hchoice : s.choice = (s.wr F.TRP_STATUS_STATE 0 1).elect := by rw [State.choice, if_pos hjoin]
    simp only [if_pos hjoin, hchoice]
    rfl
  · have hchoice : s.choice = (s.wr F.TRP_STATUS_STATE 0 2).elect := by rw [State.choice, if_neg hjoin]
    simp only [if_neg hjoin, hchoice]
    rfl

/-- What a boundary shows of the Lead stays while a new Lead orders (R309). -/
theorem State.takeLead_coordinated : s.leadShown.Coordinated s.takeLead orderCounts := by
  rw [s.takeLead_eq]
  split
  · exact State.Coordinated.refl.newLead
  · exact .refl

theorem State.takeLead_trp : s.takeLead.trp.lead = s.choice ∧ s.takeLead.trp.hellos = s.trp.hellos ∧ s.takeLead.trp.peers = s.trp.peers := by
  have h := s.takeLead_coordinated
  have hshown : s.leadShown.trp = { s.trp with lead := s.choice } := (State.changeTold_trp _ _ _).trans s.leadTaken_trp
  rw [h.lead, h.hellos, h.peers, hshown]
  exact ⟨rfl, rfl, rfl⟩

theorem State.takeLead_tim : s.takeLead.tim = s.tim :=
  s.takeLead_coordinated.tim.trans ((State.changeTold_tim _ _ _).trans s.leadTaken_tim)

theorem State.takeLead_hellosSent : s.takeLead.cntTick.get (cntKey 11 1 1) 0 = s.cntTick.get (cntKey 11 1 1) 0 := by
  refine (s.takeLead_coordinated.counts _ ((isTroupeCount_iff (by decide) (by decide)).mpr rfl) (by decide)).trans ?_
  exact (State.changeTold_cntTick _ _ _ (by decide)).trans (congrArg (fun m => SMap.get m _ 0) s.leadTaken_cntTick)

theorem State.takeLead_state : s.takeLead.rd F.TRP_STATUS_STATE = s.stateTaken := by
  rw [s.takeLead_coordinated.rd (by decide), State.leadShown, State.changeTold_regs _ _ _ _ _ (by decide), s.leadTaken_state]

theorem State.takeLead_leadId : s.takeLead.rd F.TRP_STATUS_LEAD_ID = s.choice.getD 0 % 8 := by
  rw [s.takeLead_coordinated.rd (by decide), State.leadShown, State.changeTold_regs _ _ _ _ _ (by decide), s.leadTaken_leadId]

theorem State.rd_takeLead_other {f : Fld} {n : Nat} (hf : isStanding (f.key n) = true) (hl : ∀ x ∈ leadFields, x.1.key x.2 ≠ f.key n) :
    s.takeLead.rd f n = s.rd f n := by
  rw [s.takeLead_coordinated.rd hf, State.leadShown, State.changeTold_regs _ _ _ _ _ fun x hx => hl x (by simp_all [leadFields]), s.leadTaken_regs _ _ hl]

/-! ### The HELLO and what follows it -/

/-- The live set is shown, the HELLO is sent, and the lift is seen to (R300, R306, R307). -/
def State.announced : State :=
  let t := s.showLive.sendCtl 1 s.showLive.helloBody
  (if t.isLead then t.leadCheck else t.askLift).repeatOrder

theorem State.showLive_trp : s.showLive.trp = s.trp := rfl
theorem State.showLive_tim : s.showLive.tim = s.tim := rfl

theorem State.announced_coordinated : (s.showLive.sendCtl 1 s.showLive.helloBody).Coordinated s.announced orderCounts := by
  refine State.Coordinated.repeatOrder ?_
  split
  · exact State.Coordinated.refl.leadCheck
  · exact State.Coordinated.refl.askLift

theorem State.announced_from_showLive : s.showLive.Coordinated s.announced (cntKey 11 1 1 :: orderCounts) :=
  ((s.showLive.sendCtl_coordinated 1 s.showLive.helloBody).mono (by simp)).trans (s.announced_coordinated.mono (List.subset_cons_self _ _))

theorem State.rd_announced {f : Fld} {n : Nat} (hf : isStanding (f.key n) = true) (hl : F.TRP_STATUS_LIVE.key 0 ≠ f.key n) :
    s.announced.rd f n = s.rd f n :=
  (s.announced_from_showLive.rd hf).trans (State.rd_wr_other _ _ _ hl _)

theorem State.announced_live : s.announced.rd F.TRP_STATUS_LIVE = sumOf s.liveSet (fun n => 2 ^ n) % 256 :=
  (s.announced_from_showLive.rd (by decide)).trans (State.rd_wr_same _ _ _ _)

theorem State.announced_hellosSent : s.announced.cntTick.get (cntKey 11 1 1) 0 = s.cntTick.get (cntKey 11 1 1) 0 + 1 :=
  (s.announced_coordinated.counts _ ((isTroupeCount_iff (by decide) (by decide)).mpr rfl) (by decide)).trans
    (s.showLive.sendCtl_counts 1 s.showLive.helloBody (by decide))

/-! ### The boundary -/

/-- One more interval is counted; a clash that has not been heard of for long is over (R299). -/
def State.intervalCounted : State :=
  s.setTrp (fun x => { x with hellos := x.hellos + 1, clash := (match x.clash with | some c => if c + s.lossTicks < s.now then none else some c | none => none) })

/-- What a boundary does, from the interval counted to what follows the HELLO. -/
def State.boundary : State := s.takeLead.announced

theorem State.boundary_state : s.boundary.rd F.TRP_STATUS_STATE = s.stateTaken :=
  (s.takeLead.rd_announced (by decide) (by decide)).trans s.takeLead_state

theorem State.boundary_leadId : s.boundary.rd F.TRP_STATUS_LEAD_ID = s.choice.getD 0 % 8 :=
  (s.takeLead.rd_announced (by decide) (by decide)).trans s.takeLead_leadId

theorem State.boundary_trp : s.boundary.trp.lead = s.choice ∧ s.boundary.trp.hellos = s.trp.hellos ∧ s.boundary.trp.peers = s.trp.peers := by
  have hsent := s.takeLead.announced_from_showLive
  rw [State.boundary, hsent.lead, hsent.hellos, hsent.peers, State.showLive_trp]
  exact s.takeLead_trp

theorem State.boundary_tim : s.boundary.tim = s.tim := by
  rw [State.boundary, s.takeLead.announced_from_showLive.tim, State.showLive_tim, State.takeLead_tim]

theorem State.boundary_hellosSent : s.boundary.cntTick.get (cntKey 11 1 1) 0 = s.cntTick.get (cntKey 11 1 1) 0 + 1 :=
  s.takeLead.announced_hellosSent.trans (congrArg (· + 1) s.takeLead_hellosSent)

theorem State.helloInterval_eq {s : State} (hsettled : s.Settled) (hdue : (s.live && s.on F.TRP_CTRL_ENABLE && s.now % s.helloTicks == 0) = true)
    (hran : s.ran.contains 9 = false) (hsilent : s.liveOthers.filter s.silent = []) :
    exec .helloInterval s = .next (s.inside (s.withRan (9 :: s.ran)).intervalCounted.boundary) := by
  have hnoted : ({ s with ran := 9 :: s.ran } : State).classThree = s.withRan (9 :: s.ran) := State.settled_withRan hsettled _
  have hheard : (s.withRan (9 :: s.ran)).intervalCounted.dropSilent = (s.withRan (9 :: s.ran)).intervalCounted :=
    congrArg (List.foldl State.loseMember (s.withRan (9 :: s.ran)).intervalCounted) hsilent
  refine congrArg Host.Outcome.next ((s.once_true hdue hran _).trans (congrArg s.inside ?_))
  dsimp only
  rw [hnoted]
  generalize hcounted : State.setTrp _ _ = v
  replace hcounted : v = (s.withRan (9 :: s.ran)).intervalCounted := hcounted.symm
  rw [hcounted, hheard]
  rfl

end

/-! ### A member alone -/

section
variable {s : State}

/-- No other member is live. -/
def State.Alone (s : State) : Prop := ∀ n < 8, s.on F.TRP_PEER_LIVE n = false

theorem State.Alone.liveOthers (h : s.Alone) : s.liveOthers = [] :=
  List.filter_eq_nil_iff.mpr fun n hn => by simp [h n (List.mem_range.mp hn)]

theorem State.Alone.liveSet (h : s.Alone) (hstate : s.rd F.TRP_STATUS_STATE ≠ 1) : s.liveSet = [s.member] := by
  rw [State.liveSet, if_neg hstate, h.liveOthers]

theorem State.Alone.elect (h : s.Alone) (hstate : s.rd F.TRP_STATUS_STATE ≠ 1) : s.elect = some s.member := by
  rw [State.elect, h.liveSet hstate]
  rfl

theorem State.Alone.wr_state (h : s.Alone) (v : Nat) : (s.wr F.TRP_STATUS_STATE 0 v).Alone := fun n hn => by
  have hapart : ∀ n < 8, F.TRP_STATUS_STATE.key 0 ≠ F.TRP_PEER_LIVE.key n := by decide
  rw [State.on_wr_other _ _ _ (hapart n hn), h n hn]

theorem State.Alone.takeLead (h : s.Alone) : s.takeLead.Alone := fun n hn => by
  have hapart : ∀ n < 8, isStanding (F.TRP_PEER_LIVE.key n) = true ∧ ∀ x ∈ leadFields, x.1.key x.2 ≠ F.TRP_PEER_LIVE.key n := by decide
  rw [State.on, s.rd_takeLead_other (hapart n hn).1 (hapart n hn).2, ← State.on, h n hn]

theorem State.Alone.choice (h : s.Alone) (hjoined : s.joining = false) : s.choice = some s.member := by
  rw [State.choice, hjoined, if_neg Bool.false_ne_true, (h.wr_state 2).elect (by simp; decide), State.member, State.rd_wr_other _ _ _ (by decide),
    State.member]

theorem State.Alone.stateTaken (h : s.Alone) (hjoined : s.joining = false) : s.stateTaken = 3 := by
  rw [State.stateTaken, hjoined, if_neg Bool.false_ne_true, if_pos (h.choice hjoined)]

/-- Alone, and no longer joining, a member shows itself as the live set. -/
theorem State.Alone.boundary_live (h : s.Alone) (hjoined : s.joining = false) : s.boundary.rd F.TRP_STATUS_LIVE = 2 ^ s.member := by
  have hstate : s.takeLead.rd F.TRP_STATUS_STATE ≠ 1 := by
    rw [s.takeLead_state, h.stateTaken hjoined]
    decide
  have hmember : s.takeLead.member = s.member := s.rd_takeLead_other (by decide) (by decide)
  have hbound : 2 ^ s.member < 256 := Nat.pow_lt_pow_right (n := 8) (by decide) s.member_lt
  rw [State.boundary, State.announced_live, h.takeLead.liveSet hstate, hmember]
  simpa [sumOf] using Nat.mod_eq_of_lt hbound

end

end Sys2Proof.Machine

namespace Sys2Proof.Proofs
open Sys2Proof.Machine

/-- A HELLO boundary at which no member has fallen silent: the state, the Lead and the HELLO (R299, R300). -/
theorem helloInterval_elects (s u : State)
    (h : s.live = true ∧ s.Settled ∧ s.on F.TRP_CTRL_ENABLE = true ∧ s.now % s.helloTicks = 0 ∧ s.ran.contains 9 = false)
    (hsilent : s.liveOthers.filter s.silent = [])
    (hu : u = s.setTrp (fun x => { x with hellos := x.hellos + 1, clash := (match x.clash with | some c => if c + s.lossTicks < s.now then none else some c | none => none) })) :
    let lead := (u.wr F.TRP_STATUS_STATE 0 (if u.joining then 1 else 2)).elect
    Completes (.helloInterval) s (fun t => t.rd F.TRP_STATUS_STATE = (if u.joining then 1 else if lead = some s.member then 3 else 2) ∧ t.rd F.TRP_STATUS_LEAD_ID = lead.getD 0 % 8 ∧
    t.trp.lead = lead ∧ t.trp.hellos = s.trp.hellos + 1 ∧ t.trp.peers = s.trp.peers ∧
    t.cntTick.get (cntKey 11 1 1) 0 = s.cntTick.get (cntKey 11 1 1) 0 + 1 ∧ t.tim = s.tim) := by
  subst hu
  obtain ⟨hlive, hsettled, henabled, hboundary, hran⟩ := h
  have hdue : (s.live && s.on F.TRP_CTRL_ENABLE && s.now % s.helloTicks == 0) = true := by simp [hlive, henabled, hboundary]
  obtain ⟨hlead, hhellos, hpeers⟩ := (s.withRan (9 :: s.ran)).intervalCounted.boundary_trp
  refine ⟨_, State.helloInterval_eq hsettled hdue hran hsilent, ?_, ?_, ?_, ?_, ?_, ?_, ?_⟩
  · rw [State.rd_inside, State.boundary_state]
    rfl
  · rw [State.rd_inside, State.boundary_leadId]
    rfl
  · rw [State.inside_trp, hlead]
    rfl
  · rw [State.inside_trp, hhellos]
    rfl
  · rw [State.inside_trp, hpeers]
    rfl
  · rw [State.inside_cntTick, State.boundary_hellosSent]
    rfl
  · rw [State.inside_tim, State.boundary_tim]
    rfl

/-- One alone, joined long enough and with valid time, is its own Lead (R299, R300). -/
theorem helloInterval_alone (s : State)
    (h : s.live = true ∧ s.Settled ∧ s.on F.TRP_CTRL_ENABLE = true ∧ s.now % s.helloTicks = 0 ∧ s.ran.contains 9 = false)
    (hjoin : s.on F.TIM_STATUS_TIME_VALID = true ∧ s.trp.clash = none ∧ s.rd F.TRP_TIMING_LOSS_COUNT ≤ s.trp.hellos + 1)
    (hothers : (List.range 8).all (fun n => !s.on F.TRP_PEER_LIVE n) = true) :
    Completes (.helloInterval) s (fun t => t.rd F.TRP_STATUS_STATE = 3 ∧ t.rd F.TRP_STATUS_LEAD_ID = s.member ∧ t.rd F.TRP_STATUS_LIVE = 2 ^ s.member ∧
    t.trp.hellos = s.trp.hellos + 1 ∧ t.trp.lead = some s.member ∧
    t.cntTick.get (cntKey 11 1 1) 0 = s.cntTick.get (cntKey 11 1 1) 0 + 1 ∧ t.tim = s.tim) := by
  obtain ⟨hlive, hsettled, henabled, hboundary, hran⟩ := h
  obtain ⟨hvalid, hclash, hlong⟩ := hjoin
  have hdue : (s.live && s.on F.TRP_CTRL_ENABLE && s.now % s.helloTicks == 0) = true := by simp [hlive, henabled, hboundary]
  have halone : s.Alone := fun n hn => by simpa using List.all_eq_true.mp hothers n (List.mem_range.mpr hn)
  have hsilent : s.liveOthers.filter s.silent = [] := by rw [halone.liveOthers, List.filter_nil]
  have hcounted : (s.withRan (9 :: s.ran)).intervalCounted.Alone := halone
  have hjoined : (s.withRan (9 :: s.ran)).intervalCounted.joining = false := by
    have hclear : (s.withRan (9 :: s.ran)).intervalCounted.trp.clash = none := by simp [State.intervalCounted, State.setTrp, State.withRan, hclash]
    have hlasted : ¬ (s.withRan (9 :: s.ran)).intervalCounted.trp.hellos < (s.withRan (9 :: s.ran)).intervalCounted.rd F.TRP_TIMING_LOSS_COUNT :=
      Nat.not_lt.mpr hlong
    have htimed : (s.withRan (9 :: s.ran)).intervalCounted.on F.TIM_STATUS_TIME_VALID = true := hvalid
    rw [State.joining, htimed, hclear, decide_eq_false hlasted]
    rfl
  obtain ⟨hlead, hhellos, -⟩ := (s.withRan (9 :: s.ran)).intervalCounted.boundary_trp
  refine ⟨_, State.helloInterval_eq hsettled hdue hran hsilent, ?_, ?_, ?_, ?_, ?_, ?_, ?_⟩
  · rw [State.rd_inside, State.boundary_state, hcounted.stateTaken hjoined]
  · rw [State.rd_inside, State.boundary_leadId, hcounted.choice hjoined]
    exact Nat.mod_eq_of_lt s.member_lt
  · rw [State.rd_inside, hcounted.boundary_live hjoined]
    rfl
  · rw [State.inside_trp, hhellos]
    rfl
  · rw [State.inside_trp, hlead, hcounted.choice hjoined]
    rfl
  · rw [State.inside_cntTick, State.boundary_hellosSent]
    rfl
  · rw [State.inside_tim, State.boundary_tim]
    rfl

/-- Settles O27: a write of ENABLE, the HELLO boundary, and what HELLO and ACK frames tell. -/
theorem troupeMembersJoinElectAndHear : Obligations.TroupeMembersJoinElectAndHear :=
  ⟨troupeEnable_begins, troupeEnable_ends, troupeEnable_holds, helloInterval_elects, helloInterval_alone, hello_heard, hello_fails, hello_duplicate,
    ack_noted, ack_noted_by_lead⟩

end Sys2Proof.Proofs
end
